-- ==== Sys2Proof/Word.lean ====
section
/-! DEFINITION. Sys2Proof/Word.lean: the word types of the ZT9. -/

namespace Sys2Proof

/-- A register of the register windows (R8). -/
abbrev Word := BitVec 32

/-- A Benub general register (R215). -/
abbrev DWord := BitVec 64

/-- One byte of memory. -/
abbrev Byte := BitVec 8

/-- The number of a Benub general register (R215). -/
abbrev GReg := BitVec 5

end Sys2Proof
end

