-- ==== Sys2Proof/Syntax.lean ====
section
/-! DEFINITION. Sys2Proof/Syntax.lean: the commands of the ZT9 block, one constructor per row of
spec/opcode_table.json, and the types of their operands. The operands carry what the command's
sender, the environment or the measured world supplies; everything else is in State. -/

namespace Sys2Proof

/-- A lane position of the triad (Table 08-1). -/
inductive LaneId where
  | a | b | c
  deriving DecidableEq, Repr

/-- A core (Table 01-2): CORE_A to CORE_D. -/
inductive CoreId where
  | a | b | c | d
  deriving DecidableEq, Repr

/-- The twelve paddocks, in the index order of PWR_PSTAT (Table 01-2, Table 03-5). -/
inductive Paddock where
  | bkup | aon | coreA | coreB | coreC | coreD | common | net | bus | signal | flogic | fpower
  deriving DecidableEq, Repr

/-- The rails of Table 03-1. -/
inductive Rail where
  | vddAon | vddPll | vddCore | vddIoa | vddIob | vddSer | vfl | fvs | vbkup | vbkWarn | fvsHigh
  deriving DecidableEq, Repr

/-- The reaches of Table 04-1. -/
inductive Reach where
  | unit | paddock | deviceWarm | deviceCold
  deriving DecidableEq, Repr

/-- The strap levels that a release samples (R44). -/
structure Straps where
  mode : BitVec 2
  testEn : Bool
  slotId : BitVec 6
  deriving DecidableEq, Repr

/-- The sources of Table 04-2 that assert for a fixed 100 us. -/
inductive StretchSrc where
  | sheepdog | voter | clock | soft
  deriving DecidableEq, Repr

/-- The source codes of SYS_LRST.SRC (Table 04-13). -/
inductive LocalSrc where
  | powerOn | brownout | software | debug
  deriving DecidableEq, Repr

/-- What a planned 20 ms drain (R56) precedes. -/
inductive DrainKey where
  | switchOff (p : Paddock)
  | localReset (target : Nat)
  deriving DecidableEq, Repr

/-- The two HRC oscillators. -/
inductive Hrc where
  | hrc1 | hrc2
  deriving DecidableEq, Repr

/-- The oscillator that a qualification window measures (R104). -/
inductive Osc where
  | hrc1 | xtal
  deriving DecidableEq, Repr

/-- The three PLLs (chapter 05). -/
inductive Pll where
  | pllC | pllV | pllS
  deriving DecidableEq, Repr

/-- The response codes of Table 06-4. -/
inductive Resp where
  | okay | uncorr | perm | decerr | timeout | isolated | target
  deriving DecidableEq, Repr

/-- Who makes a droveway request: the voting lanes, an independent lane, the debug port, an
engine, the update unit or the boot controller (Table 06-1, Table 16-7). -/
inductive Initiator where
  | lanes
  | solo (l : LaneId)
  | debug
  | engine
  | update
  | boot
  deriving DecidableEq, Repr

/-- A droveway request (R147): initiator, kind, address, size in bytes (a byte mask within its
aligned word), the data of a write and the tag that its response carries. An engine, the update
unit and the boot controller may access a whole 256-bit word (R131). -/
structure BusReq where
  init : Initiator
  write : Bool
  addr : Nat
  size : Nat
  data : BitVec 256
  tag : Nat
  deriving DecidableEq, Repr

/-- What happens at the hub: a request is presented at the port of its target, or a target grants one
of the initiators that wait there (R149). Targets are numbered as `Machine.targetNo` says. -/
inductive HubCmd where
  | present (r : BusReq)
  | grant (target : Nat)
  deriving DecidableEq, Repr

/-- The memory banks of Table 06-2. -/
inductive Bank where
  | priv (k : CoreId)
  | shared
  | comm
  deriving DecidableEq, Repr


/-- What a front-end test finds (Table 11-3): the internal levels read by the primary, or by the
idle spare under test; those read by the carrier; and sample 3's comparison. -/
structure FeResult where
  primaryOk : Bool
  carrierOk : Bool
  compareOk : Bool
  deriving DecidableEq, Repr

/-- What the field ADC and the segment comparison measure for one status frame (R302, R310):
FVS in mV, the field-die temperature in 0.1 degrees, the outputs that carry at least 100 mA, and the
(output, segment) pairs whose on-resistance stands above 1.5 times its trimmed value. -/
structure FieldMeas where
  mv : Nat
  tempDc : Int
  compared : BitVec 16
  drift : List (Nat × Nat)
  deriving DecidableEq, Repr

/-- An Ethernet frame at a switch port: addresses, 802.1Q tag, length in bytes with its tag, whether
the FCS is good, a PAUSE frame, the PRP trailer (sequence number, LanId), the COMID of a UDP 17224
datagram, the IP datagram that it is a fragment of, a PTP event message with its correctionField in
ns, and the bytes after the addresses and tags. -/
structure EthFrame where
  dst : BitVec 48
  src : BitVec 48
  vid : Option (BitVec 12)
  pcp : BitVec 3
  len : Nat
  fcsOk : Bool
  pause : Bool
  rct : Option (BitVec 16 × BitVec 4)
  comid : Option Nat
  frag : Option Nat
  ptpEvent : Bool
  corr : Int
  body : List (BitVec 8)
  deriving DecidableEq, Repr

/-- A TRDP process-data frame: whether its header FCS is good, msgType, protocolVersion, COMID,
addresses, sequenceCounter, topology counts, datasetLength, VLAN word and dataset. -/
structure PdFrame where
  hdrOk : Bool
  msgType : Nat
  ver : Nat
  comid : Nat
  dst : Nat
  src : Nat
  seq : Nat
  etb : Nat
  op : Nat
  dlen : Nat
  vlan : Nat
  data : List (BitVec 8)
  deriving DecidableEq, Repr

/-- A TRDP message-data message: msgType, whether its header check passes, COMID, addresses,
sessionId, the reassembly that completed it, and its dataset. -/
structure MdMsg where
  msgType : Nat
  hdrOk : Bool
  comid : Nat
  dst : Nat
  src : Nat
  sess : Nat
  reasm : Option Nat
  data : List (BitVec 8)
  deriving DecidableEq, Repr

/-- A PTP message at a port: its domain, the clock that sent it, the sequence number, its origin or
receive time stamp and correctionField in ns, whether a follow-up message completes it, and its transport:
layer 2 or UDP over IPv4 (Table 13-9). -/
structure PtpMsg where
  port : Nat
  domain : Nat
  clock : Nat
  seq : Nat
  ts : Nat
  corr : Int
  twoStep : Bool
  l2 : Bool
  deriving DecidableEq, Repr

/-- An Announce message: port and domain, the data set that the best master clock algorithm compares,
the UTC fields of Table 13-10, and the transport, layer 2 or UDP. -/
structure Announce where
  port : Nat
  domain : Nat
  clock : Nat
  prio1 : Nat
  cls : Nat
  accuracy : Nat
  variance : Nat
  prio2 : Nat
  gmId : Nat
  steps : Nat
  utc : BitVec 16
  utcValid : Bool
  leap61 : Bool
  leap59 : Bool
  l2 : Bool
  deriving DecidableEq, Repr

/-- A CAN frame: identifier, extended, remote, FDF, BRS and ESI flags, DLC, data bytes. -/
structure CanFrame where
  id : BitVec 29
  xtd : Bool
  rtr : Bool
  fdf : Bool
  brs : Bool
  esi : Bool
  dlc : BitVec 4
  data : List (BitVec 8)
  deriving DecidableEq, Repr

/-- How a frame in arbitration ends. -/
inductive CanTxEnd where
  | sent | lost | error
  deriving DecidableEq, Repr

/-- A protocol error as the fault confinement of ISO 11898-1 weighs it: a receiver's, with 1 or 8;
a transmitter's, with 8, or one of its exempt errors. -/
inductive CanErr where
  | receiver | receiver8 | transmitter | exempt
  deriving DecidableEq, Repr

/-- A Drove frame on a channel: the DRV clock count at its start, whether it has a coding error,
and its bytes from TYPE to the CRC (Table 15-1). -/
structure DroveFrame where
  start : Nat
  coding : Bool
  bytes : List (BitVec 8)
  deriving DecidableEq, Repr

/-- A Fold link frame: its bytes from the header to the CRC (Table 16-1). -/
structure FoldFrame where
  bytes : List (BitVec 8)
  deriving DecidableEq, Repr

/-- A heartbeat record as received: its 20 bytes (Table 17-2). -/
structure HbRecord where
  bytes : List (BitVec 8)
  deriving DecidableEq, Repr

/-- The commands of spec/opcode_table.json, in its order. -/
inductive Instr where
  /-- REGISTER_WRITE (R6): A write to a register that has no row of its own, applied by access
  code with reserved-value and alignment checks. -/
  | registerWrite (ini : Initiator) (addr : Nat) (size : Nat) (v : BitVec 64)
  /-- WEAR_FLASH_RETRY_TICK (R33): A pending wear log or stray flash write is retried every 1 s of
  TS while no boundary occurs. -/
  | wearFlashRetryTick
  /-- PLANNED_DRAIN_EXPIRY (R56): The 20 ms forwarding period after releasing a hold for a planned
  action ends. -/
  | plannedDrainExpiry (k : DrainKey)
  /-- SUPPLY_MONITOR_TRIP (R59): A rail stays below its trip level for the filter time and the
  monitor action of Table 03-2 is taken. -/
  | supplyMonitorTrip (r : Rail)
  /-- SUPPLY_MONITOR_RELEASE (R59): A rail stays above trip level plus hysteresis for 100 us and
  the monitor releases. -/
  | supplyMonitorRelease (r : Rail) (st : Straps)
  /-- OVERVOLTAGE_EVENT (R59): A rail stays above its overvoltage level and the event flag and
  extreme are recorded. -/
  | overvoltageEvent (r : Rail) (mv : Nat)
  /-- CORE_WARN (R66): VDD_CORE falls below its warning level and CYC_COUNT and time are stamped
  into the backup registers. -/
  | coreWarn
  /-- VBK_LOW (R59): VBKUP falls below 2.2 V and VBK_LOW is flagged. -/
  | vbkLow
  /-- BKUP_CHANGEOVER (R58): BKUP changes its supply between VDD_AON and VBKUP without a reset. -/
  | bkupChangeover
  /-- POWER_GOOD (R63): All compute monitors have released and the power sequencer starts
  switching paddocks on. -/
  | powerGood (st : Straps)
  /-- PADDOCK_POWER_GOOD (R64): A paddock reports power good and the sequencer closes the next
  switch. -/
  | paddockPowerGood
  /-- PADDOCK_POWER_TIMEOUT (R64): A paddock gives no power good within 500 us and is left off and
  marked FAULT. -/
  | paddockPowerTimeout
  /-- FIELD_DIE_POWER_ON (R65): VFL rises above its power-on level and the field die starts and
  waits for reload. -/
  | fieldDiePowerOn
  /-- RTC_TICK (R68): The 1 Hz tick advances the real-time counter while VDD_AON is good. -/
  | rtcTick
  /-- PWR_REQ_SWITCH_OFF (R72): A write of 1 to a PWR_REQ bit puts a permitted paddock into DRAIN.
  -/
  | pwrReqSwitchOff (p : Paddock)
  /-- PWR_REQ_CANCEL (R73): A write of 0 to a paddock in DRAIN cancels its switch-off. -/
  | pwrReqCancel (p : Paddock)
  /-- PWR_REQ_SWITCH_ON (R73): A write of 0 to an OFF paddock moves it through RAMP to ON. -/
  | pwrReqSwitchOn (p : Paddock)
  /-- PADDOCK_RELOAD_DONE (R73): A paddock switched on again has reloaded its units from the
  active set. -/
  | paddockReloadDone (p : Paddock)
  /-- RESET_N_LOW_FILTERED (R77): RESET_N has been low for 10 us and asserts a device-warm source
  with EXT. -/
  | resetNLowFiltered
  /-- RESET_N_LOW_WIDENED (R77): RESET_N has been low for 100 ms and the reach widens to device-
  cold with EXT_LONG. -/
  | resetNLowWidened
  /-- RESET_N_RELEASE (R82): RESET_N returns high and its source releases. -/
  | resetNRelease (st : Straps)
  /-- RESET_STRETCH_EXPIRY (R76): The 100 us assertion of a sheepdog, voter, clock or software
  reset source ends. -/
  | resetStretchExpiry (src : StretchSrc) (st : Straps)
  /-- DEBUG_RESET_COMMAND (R79): A TAP reset command asserts a reset of the selected reach while
  DBG_TRST_N is high. -/
  | debugResetCommand (trstHigh : Bool) (reach : Reach) (target : Nat)
  /-- TRIM_COPY_DONE (R94): A trim copy has been read and its CRC checked, applying it or moving
  to copy B or defaults. -/
  | trimCopyDone (crcOk : Bool)
  /-- SWRST_DEVICE_WARM (R78): A keyed SYS_SWRST store with reach device-warm asserts a software
  reset. -/
  | swrstDeviceWarm (key : BitVec 8)
  /-- SWRST_PADDOCK (R78): A keyed SYS_SWRST store with reach paddock starts a local reset of the
  target. -/
  | swrstPaddock (key : BitVec 8) (target : Nat)
  /-- SWRST_UNIT (R78): A keyed SYS_SWRST store with reach unit starts a local reset of the target
  unit. -/
  | swrstUnit (key : BitVec 8) (target : Nat)
  /-- LOCAL_RESET (R90): A local source asserts: hold released, wrapper closed, posted writes
  dropped and the target held in reset. -/
  | localReset (target : Nat) (src : LocalSrc)
  /-- LOCAL_RESET_HOLD_EXPIRY (R90): The 64 or 16 clock hold ends after all sources have released
  and the target reloads. -/
  | localResetHoldExpiry (target : Nat)
  /-- LOCAL_RESET_RELOAD_DONE (R91): The target has reloaded from the resident copy of the active
  set. -/
  | localResetReloadDone (target : Nat)
  /-- HRC_SETTLE_EXPIRY (R103): The 20 us settle allowance of an HRC oscillator ends and its first
  window begins. -/
  | hrcSettleExpiry (o : Hrc)
  /-- QUAL_WINDOW_END (R104): A qualification window of HRC_1 or the crystal ends and qualifies or
  repeats. -/
  | qualWindowEnd (o : Osc) (count : Nat)
  /-- PLL_LOCK (R104): All three PLLs report lock and step 4 ends. -/
  | pllLock
  /-- HRC1_QUAL_TIMEOUT (R105): HRC_1 has not qualified 50 ms into step 4 and a clock fault with
  code 0x3 asserts. -/
  | hrc1QualTimeout
  /-- XTAL_QUAL_TIMEOUT (R106): The crystal has not qualified within 50 ms and the PLLs lock to
  HRC_1 with XTAL_FAIL_START. -/
  | xtalQualTimeout
  /-- MONITOR_WINDOW_END (R107): A run-time monitor comparison window ends and failures are
  attributed by Table 05-3. -/
  | monitorWindowEnd (xh : Option Nat) (hh : Option Nat) (xh1 : Option Nat)
  /-- MISSING_EDGE_TRIP (R107): No crystal edge arrives for 200 ns and the crystal comparisons
  count as failed. -/
  | missingEdgeTrip
  /-- HRC1_RESTART_EXPIRY (R109): The 10 us stop of HRC_1 ends and it is started again. -/
  | hrc1RestartExpiry
  /-- CLOCK_HOLD_TIMEOUT (R112): CLOCK_HOLD lasts 50 ms and a clock fault with code 0x2 asserts. -/
  | clockHoldTimeout
  /-- PLL_LOCK_LOSS (R113): A PLL loses lock after step 4; its islands are gated and a clock fault
  0x4 follows. -/
  | pllLockLoss (p : Pll)
  /-- SERREF_LOSS (R114): SER_REFCLK is lost or out of range and the SGMII ports go down. -/
  | serrefLoss
  /-- FIELD_OSC_MISMATCH (R115): The field RC oscillator differs from the link bit clock by over 5
  % and the field die treats the link as silent. -/
  | fieldOscMismatch (ppm : Nat)
  /-- DISCIPLINE_STEP (R117): Once per second an oscillator trim moves one 10 ppm step toward its
  source, limited or held. -/
  | disciplineStep (o : Hrc) (err : Int)
  /-- CLK_GATE_OPEN (R118): A CLK_GATE write requests opening a gate and is refused or done. -/
  | clkGateOpen (code : BitVec 8)
  /-- CLK_GATE_CLOSE (R118): A CLK_GATE write requests closing a gate, waiting for the bus-quiet
  handshake. -/
  | clkGateClose (code : BitVec 8)
  /-- BUS_QUIET_HANDSHAKE (R119): The island gives its bus-quiet handshake and the gate closes. -/
  | busQuietHandshake
  /-- GATE_CLOSE_TIMEOUT (R118): No handshake arrives within 1,024 island clocks and the request
  ends BUSY. -/
  | gateCloseTimeout
  /-- GATE_OPEN_EFFECT (R119): An opened gate takes effect 16 island clocks after the write. -/
  | gateOpenEffect
  /-- CLK_OUTCFG_WRITE (R121): A CLK_OUTCFG write changes the CLK_OUT source, divider or PPS
  settings. -/
  | clkOutcfgWrite (v : BitVec 32)
  /-- PPS_OUT_PULSE (R122): PPS_OUT rises at each whole second of train time while enabled. -/
  | ppsOutPulse
  /-- PPS_OUT_PULSE_END (R122): PPS_OUT falls after PPS_W ms. -/
  | ppsOutPulseEnd
  /-- HUB_REQUEST (R149): A droveway request reaches a target, is arbitrated and performed or
  refused. -/
  | hubRequest (c : HubCmd)
  /-- TARGET_RESPONSE_TIMEOUT (R16): A target does not answer within 2 us and its wrapper answers
  with an error response. -/
  | targetResponseTimeout (c : HubCmd)
  /-- POSTED_WRITE_CREDIT_RETURN (R149): A posted-write credit returns and a waiting store
  proceeds. -/
  | postedWriteCreditReturn (ini : Initiator) (target : Nat)
  /-- SCRUB_STEP (R135): At each bank's interval one word is read, corrected and written back. -/
  | scrubStep (bank : Bank) (flips : List (Nat × List Nat))
  /-- TRACKER_ENTRY_EXPIRY (R138): A tracker entry expires 24 h after its first counted
  correction. -/
  | trackerEntryExpiry (bank : Bank) (row : Nat)
  /-- COLUMN_REPAIR_ROW_COPY (R140): The background repair copies one row into the spare column
  and advances its pointer. -/
  | columnRepairRowCopy (bank : Bank)
  /-- XSPI_WINDOW_READ (R152): A read through the flash window suspends a running program or erase
  and reads the flash. -/
  | xspiWindowRead (ini : Initiator) (addr : Nat) (size : Nat)
  /-- XSPI_READ_TIMEOUT (R152): A flash window read reaches 50 us and completes with TIMEOUT. -/
  | xspiReadTimeout
  /-- STARTUP_FLASH_READ_TIMEOUT (R153): A start-up flash read times out and is retried, halting
  start-up at the fourth. `again`: it is the read that timed out last, no read having succeeded since. -/
  | startupFlashReadTimeout (again : Bool)
  /-- SLOT_SELECTION (R159): Phase S3 reads directories and headers, selects a slot and programs
  its state word. -/
  | slotSelection (progOk : Bool)
  /-- MEMORY_INIT_SELFTEST (R163): Phase S4 initialises memory and runs core, Shepherd and memory
  self-tests. -/
  | memoryInitSelftest (coreOk : BitVec 4) (shep1Ok : Bool) (shep2Ok : Bool)
  /-- SECTION_LOAD (R157): Phase S5 loads the slot's sections into set 0 and checks them.
  `coreFail`: the cores whose private memory failed its readback check twice (R161, R271). -/
  | sectionLoad (unitsAgree : Bool) (progOk : Bool) (coreFail : BitVec 4)
  /-- ENGINE_RELOAD (R164): Phase S6 reloads the field die and engines and enables forwarding.
  `failed`: the units, by their codes of Table 04-4, whose readback CRC differed twice (R161). -/
  | engineReload (fwdEth : Bool) (fwdFlk : Bool) (failed : List Nat)
  /-- FIELD_RELOAD_ACK (R161): The field die answers the reload with its CRC, verified or retried.
  -/
  | fieldReloadAck (crcOk : Bool)
  /-- STARTUP_CHECKS (R165): Phase S7 runs start-up injection, checks marks and service sets, sets
  the lock and decides the mode. -/
  | startupChecks (miss1 : List Nat) (miss2 : List Nat)
  /-- SHADOW_LOAD_START (R168): A keyed BOOT_SLOAD store starts a background shadow load of the
  named slot. -/
  | shadowLoadStart (key : BitVec 8) (slot : Bool)
  /-- SHADOW_LOAD_ABORT (R169): A BOOT_SLOAD store with ABORT stops a running shadow load. -/
  | shadowLoadAbort (key : BitVec 8)
  /-- SHADOW_LOAD_DONE (R168): A shadow load finishes as READY, NEEDS_RESTART or SECTION_FAIL.
  `coreFail`: the cores whose private memory failed its readback check twice (R271). -/
  | shadowLoadDone (unitsAgree : Bool) (coreFail : BitVec 4)
  /-- CFG_SWAP_ARM (R171): A keyed CFG_SWAP store with ACTION swap arms a swap for the next
  boundary. -/
  | cfgSwapArm (key : BitVec 8) (progOk : Bool)
  /-- CFG_SWAP_CONFIRM (R173): A keyed CFG_SWAP store with ACTION confirm programs CONFIRM and
  sets CONFIRMED. -/
  | cfgSwapConfirm (key : BitVec 8) (progOk : Bool)
  /-- BOOT_LOCK_SET (R170): A write of 1 to BOOT_LOCK sets the configuration lock. -/
  | bootLockSet
  /-- SHEPHERD_TRANSACTION (R181): A lane transaction arrives at both Shepherds, is matched by SEQ
  and voted. -/
  | shepherdTransaction (l : LaneId) (flips : List (Bool × Nat))
  /-- VOTING_WINDOW_CLOSE (R182): The 64-clock voting window of a sequence number closes and a
  verdict is reached. -/
  | votingWindowClose (seq : BitVec 32)
  /-- VERDICT_EXCHANGE (R185): The two Shepherds exchange verdict and digest, releasing the
  transaction when they match. -/
  | verdictExchange (seq : BitVec 32) (same : Bool)
  /-- VERDICT_EXCHANGE_TIMEOUT (R207): No verdict arrives from the other Shepherd within 16
  clocks, a voter fault. -/
  | verdictExchangeTimeout (seq : BitVec 32) (second : Bool)
  /-- REPLICATED_READ_RESPONSE (R189): A read response is replicated to every lane at its skew and
  checked between Shepherds. -/
  | replicatedReadResponse (l : LaneId) (flips : List (Bool × Nat))
  /-- REINTEGRATION_SELFTEST_DONE (R192): The 16 us self-test after a copy ends and the lane votes
  again or the core is retired. -/
  | reintegrationSelftestDone (l : LaneId) (pass : Bool)
  /-- SUBSTITUTION_SELFTEST_DONE (R201): The reserve's self-test after substitution passes or
  retires it. -/
  | substitutionSelftestDone (l : LaneId) (pass : Bool)
  /-- RESERVE_SELFTEST_FAIL (R202): The unused reserve fails its continuous self-test and is
  retired. -/
  | reserveSelftestFail
  /-- RUNTIME_INJECTION_FLAGGED (R209): The run-time triple is flagged by both Shepherds and
  EXECUTE ends. -/
  | runtimeInjectionFlagged (shep1 : Bool) (shep2 : Bool)
  /-- ADD (R222): Adds two registers. -/
  | add (l : LaneId) (w : Bool) (d : GReg) (a : GReg) (b : GReg)
  /-- SUB (R222): Subtracts two registers. -/
  | sub (l : LaneId) (w : Bool) (d : GReg) (a : GReg) (b : GReg)
  /-- MUL (R222): Low half of the product. -/
  | mul (l : LaneId) (w : Bool) (d : GReg) (a : GReg) (b : GReg)
  /-- MULH (R222): High half of the signed product. -/
  | mulh (l : LaneId) (w : Bool) (d : GReg) (a : GReg) (b : GReg)
  /-- MULHU (R222): High half of the unsigned product. -/
  | mulhu (l : LaneId) (w : Bool) (d : GReg) (a : GReg) (b : GReg)
  /-- DIV (R222): Signed quotient, trapping DIV0 on a zero divisor. -/
  | div (l : LaneId) (w : Bool) (d : GReg) (a : GReg) (b : GReg)
  /-- DIVU (R222): Unsigned quotient. -/
  | divu (l : LaneId) (w : Bool) (d : GReg) (a : GReg) (b : GReg)
  /-- REM (R222): Signed remainder. -/
  | rem (l : LaneId) (w : Bool) (d : GReg) (a : GReg) (b : GReg)
  /-- REMU (R222): Unsigned remainder. -/
  | remu (l : LaneId) (w : Bool) (d : GReg) (a : GReg) (b : GReg)
  /-- ADDS (R222): Signed saturating add. -/
  | adds (l : LaneId) (w : Bool) (d : GReg) (a : GReg) (b : GReg)
  /-- SUBS (R222): Signed saturating subtract. -/
  | subs (l : LaneId) (w : Bool) (d : GReg) (a : GReg) (b : GReg)
  /-- MULS (R222): Signed saturating multiply. -/
  | muls (l : LaneId) (w : Bool) (d : GReg) (a : GReg) (b : GReg)
  /-- ADDSU (R222): Unsigned saturating add. -/
  | addsu (l : LaneId) (w : Bool) (d : GReg) (a : GReg) (b : GReg)
  /-- SUBSU (R222): Unsigned saturating subtract. -/
  | subsu (l : LaneId) (w : Bool) (d : GReg) (a : GReg) (b : GReg)
  /-- NEG (R222): Negates a register. -/
  | neg (l : LaneId) (w : Bool) (d : GReg) (a : GReg)
  /-- NEGS (R222): Saturating negate. -/
  | negs (l : LaneId) (w : Bool) (d : GReg) (a : GReg)
  /-- ABS (R222): Absolute value. -/
  | abs (l : LaneId) (w : Bool) (d : GReg) (a : GReg)
  /-- ABSS (R222): Saturating absolute value. -/
  | abss (l : LaneId) (w : Bool) (d : GReg) (a : GReg)
  /-- MIN (R222): Signed minimum. -/
  | min (l : LaneId) (w : Bool) (d : GReg) (a : GReg) (b : GReg)
  /-- MAX (R222): Signed maximum. -/
  | max (l : LaneId) (w : Bool) (d : GReg) (a : GReg) (b : GReg)
  /-- MINU (R222): Unsigned minimum. -/
  | minu (l : LaneId) (w : Bool) (d : GReg) (a : GReg) (b : GReg)
  /-- MAXU (R222): Unsigned maximum. -/
  | maxu (l : LaneId) (w : Bool) (d : GReg) (a : GReg) (b : GReg)
  /-- LIMIT (R222): Limits gd between ga and gb. -/
  | limit (l : LaneId) (w : Bool) (d : GReg) (a : GReg) (b : GReg)
  /-- ADDI (R222): Adds a sign-extended immediate. -/
  | addi (l : LaneId) (w : Bool) (d : GReg) (a : GReg) (imm : BitVec 16)
  /-- AND (R224): Bitwise AND. -/
  | and (l : LaneId) (w : Bool) (d : GReg) (a : GReg) (b : GReg)
  /-- OR (R224): Bitwise OR. -/
  | or (l : LaneId) (w : Bool) (d : GReg) (a : GReg) (b : GReg)
  /-- XOR (R224): Bitwise XOR. -/
  | xor (l : LaneId) (w : Bool) (d : GReg) (a : GReg) (b : GReg)
  /-- ANDN (R224): ga AND NOT gb. -/
  | andn (l : LaneId) (w : Bool) (d : GReg) (a : GReg) (b : GReg)
  /-- ORN (R224): ga OR NOT gb. -/
  | orn (l : LaneId) (w : Bool) (d : GReg) (a : GReg) (b : GReg)
  /-- XNOR (R224): NOT (ga XOR gb). -/
  | xnor (l : LaneId) (w : Bool) (d : GReg) (a : GReg) (b : GReg)
  /-- NOT (R224): Bitwise NOT. -/
  | not (l : LaneId) (w : Bool) (d : GReg) (a : GReg)
  /-- SHL (R224): Logical shift left by register. -/
  | shl (l : LaneId) (w : Bool) (d : GReg) (a : GReg) (b : GReg)
  /-- SHR (R224): Logical shift right by register. -/
  | shr (l : LaneId) (w : Bool) (d : GReg) (a : GReg) (b : GReg)
  /-- SAR (R224): Arithmetic shift right by register. -/
  | sar (l : LaneId) (w : Bool) (d : GReg) (a : GReg) (b : GReg)
  /-- ROL (R224): Rotate left by register. -/
  | rol (l : LaneId) (w : Bool) (d : GReg) (a : GReg) (b : GReg)
  /-- ROR (R224): Rotate right by register. -/
  | ror (l : LaneId) (w : Bool) (d : GReg) (a : GReg) (b : GReg)
  /-- SHLI (R224): Shift left by immediate. -/
  | shli (l : LaneId) (w : Bool) (d : GReg) (a : GReg) (n : BitVec 6)
  /-- SHRI (R224): Logical shift right by immediate. -/
  | shri (l : LaneId) (w : Bool) (d : GReg) (a : GReg) (n : BitVec 6)
  /-- SARI (R224): Arithmetic shift right by immediate. -/
  | sari (l : LaneId) (w : Bool) (d : GReg) (a : GReg) (n : BitVec 6)
  /-- RORI (R224): Rotate right by immediate. -/
  | rori (l : LaneId) (w : Bool) (d : GReg) (a : GReg) (n : BitVec 6)
  /-- CLZ (R224): Counts leading zeros. -/
  | clz (l : LaneId) (w : Bool) (d : GReg) (a : GReg)
  /-- CTZ (R224): Counts trailing zeros. -/
  | ctz (l : LaneId) (w : Bool) (d : GReg) (a : GReg)
  /-- POPC (R224): Counts ones. -/
  | popc (l : LaneId) (w : Bool) (d : GReg) (a : GReg)
  /-- BSET (R224): Sets a bit. -/
  | bset (l : LaneId) (w : Bool) (d : GReg) (a : GReg) (b : GReg)
  /-- BCLR (R224): Clears a bit. -/
  | bclr (l : LaneId) (w : Bool) (d : GReg) (a : GReg) (b : GReg)
  /-- BTST (R224): Tests a bit. -/
  | btst (l : LaneId) (w : Bool) (d : GReg) (a : GReg) (b : GReg)
  /-- BEXT (R224): Extracts a bit field. -/
  | bext (l : LaneId) (w : Bool) (d : GReg) (a : GReg) (b : GReg)
  /-- BINS (R224): Inserts a bit field. -/
  | bins (l : LaneId) (w : Bool) (d : GReg) (a : GReg) (b : GReg)
  /-- ANDI (R224): AND with zero-extended immediate. -/
  | andi (l : LaneId) (d : GReg) (a : GReg) (imm : BitVec 16)
  /-- ORI (R224): OR with zero-extended immediate. -/
  | ori (l : LaneId) (d : GReg) (a : GReg) (imm : BitVec 16)
  /-- XORI (R224): XOR with zero-extended immediate. -/
  | xori (l : LaneId) (d : GReg) (a : GReg) (imm : BitVec 16)
  /-- LUI (R224): Loads an upper immediate. -/
  | lui (l : LaneId) (d : GReg) (imm : BitVec 16)
  /-- CMP (R225): Sets flags of ga minus gb. -/
  | cmp (l : LaneId) (w : Bool) (a : GReg) (b : GReg)
  /-- TST (R225): Sets flags of ga AND gb. -/
  | tst (l : LaneId) (w : Bool) (a : GReg) (b : GReg)
  /-- SET (R225): Writes 1 or 0 by a condition. -/
  | set (l : LaneId) (d : GReg) (cond : BitVec 5)
  /-- SEL (R225): Selects ga or gb by a condition. -/
  | sel (l : LaneId) (d : GReg) (a : GReg) (b : GReg) (cond : BitVec 5)
  /-- CMPI (R225): Compares with a sign-extended immediate. -/
  | cmpi (l : LaneId) (a : GReg) (imm : BitVec 16)
  /-- CMPIU (R225): Compares with a zero-extended immediate. -/
  | cmpiu (l : LaneId) (a : GReg) (imm : BitVec 16)
  /-- BR (R226): Conditional branch. -/
  | br (l : LaneId) (cond : BitVec 5) (disp : BitVec 21)
  /-- CALL (R226): Call by displacement. -/
  | call (l : LaneId) (disp : BitVec 26)
  /-- CALL_FB (R226): Function-block call pushing a frame and setting IB. -/
  | callFb (l : LaneId) (d : GReg) (disp : BitVec 21)
  /-- JMPR (R226): Jump to a register. -/
  | jmpr (l : LaneId) (a : GReg)
  /-- CALLR (R226): Call through a register. -/
  | callr (l : LaneId) (a : GReg)
  /-- RET (R226): Return through LK, ending the unit at target 0. -/
  | ret (l : LaneId)
  /-- RET_FB (R226): Function-block return popping a frame. -/
  | retFb (l : LaneId)
  /-- RET_TRAP (R251): Returns from a trap handler with bad quality or re-executes END. -/
  | retTrap (l : LaneId)
  /-- CALLR_FB (R226): Function-block call through a register. -/
  | callrFb (l : LaneId) (d : GReg) (a : GReg)
  /-- CHK (R226): Traps INDEX when ga is not below gb. -/
  | chk (l : LaneId) (a : GReg) (b : GReg)
  /-- FADD (R228): Float add. -/
  | fadd (l : LaneId) (p : Bool) (d : GReg) (a : GReg) (b : GReg)
  /-- FSUB (R228): Float subtract. -/
  | fsub (l : LaneId) (p : Bool) (d : GReg) (a : GReg) (b : GReg)
  /-- FMUL (R228): Float multiply. -/
  | fmul (l : LaneId) (p : Bool) (d : GReg) (a : GReg) (b : GReg)
  /-- FDIV (R228): Float divide. -/
  | fdiv (l : LaneId) (p : Bool) (d : GReg) (a : GReg) (b : GReg)
  /-- FSQRT (R228): Float square root. -/
  | fsqrt (l : LaneId) (p : Bool) (d : GReg) (a : GReg)
  /-- FMA (R228): Fused multiply-add. -/
  | fma (l : LaneId) (p : Bool) (d : GReg) (a : GReg) (b : GReg)
  /-- FMIN (R228): Float minimumNumber. -/
  | fmin (l : LaneId) (p : Bool) (d : GReg) (a : GReg) (b : GReg)
  /-- FMAX (R228): Float maximumNumber. -/
  | fmax (l : LaneId) (p : Bool) (d : GReg) (a : GReg) (b : GReg)
  /-- FABS (R228): Clears the float sign bit. -/
  | fabs (l : LaneId) (p : Bool) (d : GReg) (a : GReg)
  /-- FNEG (R228): Inverts the float sign bit. -/
  | fneg (l : LaneId) (p : Bool) (d : GReg) (a : GReg)
  /-- FCMP (R228): Quiet float comparison into flags. -/
  | fcmp (l : LaneId) (p : Bool) (a : GReg) (b : GReg)
  /-- FCLASS (R228): Classifies a float. -/
  | fclass (l : LaneId) (p : Bool) (d : GReg) (a : GReg)
  /-- SEXT (R229): Sign-extends from a size. -/
  | sext (l : LaneId) (sz : BitVec 2) (d : GReg) (a : GReg)
  /-- ZEXT (R229): Zero-extends from a size. -/
  | zext (l : LaneId) (sz : BitVec 2) (d : GReg) (a : GReg)
  /-- CVT_IF (R229): Int64 to float. -/
  | cvtIf (l : LaneId) (p : Bool) (d : GReg) (a : GReg)
  /-- CVT_UF (R229): UInt64 to float. -/
  | cvtUf (l : LaneId) (p : Bool) (d : GReg) (a : GReg)
  /-- CVT_FI (R229): Float to Int64 rounded by RM. -/
  | cvtFi (l : LaneId) (p : Bool) (d : GReg) (a : GReg)
  /-- CVT_FU (R229): Float to UInt64 rounded by RM. -/
  | cvtFu (l : LaneId) (p : Bool) (d : GReg) (a : GReg)
  /-- TRUNC_FI (R229): Float to Int64 toward zero. -/
  | truncFi (l : LaneId) (p : Bool) (d : GReg) (a : GReg)
  /-- TRUNC_FU (R229): Float to UInt64 toward zero. -/
  | truncFu (l : LaneId) (p : Bool) (d : GReg) (a : GReg)
  /-- CVT_SD (R229): Binary32 to binary64. -/
  | cvtSd (l : LaneId) (d : GReg) (a : GReg)
  /-- CVT_DS (R229): Binary64 to binary32. -/
  | cvtDs (l : LaneId) (d : GReg) (a : GReg)
  /-- NRW (R229): Narrows to a signed size, trapping CONV when it does not fit. -/
  | nrw (l : LaneId) (sz : BitVec 2) (d : GReg) (a : GReg)
  /-- NRWU (R229): Narrows to an unsigned size. -/
  | nrwu (l : LaneId) (sz : BitVec 2) (d : GReg) (a : GReg)
  /-- BCD2I (R229): BCD digits to binary. -/
  | bcd2i (l : LaneId) (d : GReg) (a : GReg)
  /-- I2BCD (R229): Binary to BCD digits. -/
  | i2bcd (l : LaneId) (d : GReg) (a : GReg)
  /-- LDI (R230): Sign-extending load from instance data. -/
  | ldi (l : LaneId) (sz : BitVec 2) (d : GReg) (off : BitVec 14)
  /-- LDIU (R230): Zero-extending load from instance data. -/
  | ldiu (l : LaneId) (sz : BitVec 2) (d : GReg) (off : BitVec 14)
  /-- STI (R230): Store to instance data, folded into the signature. -/
  | sti (l : LaneId) (sz : BitVec 2) (d : GReg) (off : BitVec 14)
  /-- LDC (R230): Sign-extending load from constants. -/
  | ldc (l : LaneId) (sz : BitVec 2) (d : GReg) (off : BitVec 14)
  /-- LDCU (R230): Zero-extending load from constants. -/
  | ldcu (l : LaneId) (sz : BitVec 2) (d : GReg) (off : BitVec 14)
  /-- LD (R231): General sign-extending load, local or a replicated READ. -/
  | ld (l : LaneId) (sz : BitVec 2) (d : GReg) (a : GReg) (imm : BitVec 16)
  /-- LDU (R231): General zero-extending load. -/
  | ldu (l : LaneId) (sz : BitVec 2) (d : GReg) (a : GReg) (imm : BitVec 16)
  /-- ST (R231): General store, local or a STORE commit. -/
  | st (l : LaneId) (sz : BitVec 2) (d : GReg) (a : GReg) (imm : BitVec 16)
  /-- TON (R236): On-delay timer. -/
  | ton (l : LaneId) (d : GReg) (p : GReg) (slot : BitVec 13)
  /-- TOF (R236): Off-delay timer. -/
  | tof (l : LaneId) (d : GReg) (p : GReg) (slot : BitVec 13)
  /-- TP (R236): Pulse timer. -/
  | tp (l : LaneId) (d : GReg) (p : GReg) (slot : BitVec 13)
  /-- TET (R235): Reads a timer's elapsed time. -/
  | tet (l : LaneId) (d : GReg) (p : GReg) (slot : BitVec 13)
  /-- TRST (R235): Resets a timer slot. -/
  | trst (l : LaneId) (d : GReg) (slot : BitVec 13)
  /-- R_TRIG (R237): Rising-edge detector, consuming a live prime entry. -/
  | rTrig (l : LaneId) (d : GReg) (bit : BitVec 19)
  /-- F_TRIG (R237): Falling-edge detector. -/
  | fTrig (l : LaneId) (d : GReg) (bit : BitVec 19)
  /-- IN (R238): Reads an input image item and its quality. -/
  | inItem (l : LaneId) (d : GReg) (item : BitVec 16)
  /-- IN_S (R238): Reads an input item sign-extended. -/
  | inItemS (l : LaneId) (d : GReg) (item : BitVec 16)
  /-- OUT (R238): Commits a value with quality to an output item. -/
  | outItem (l : LaneId) (d : GReg) (item : BitVec 16)
  /-- QGET (R238): Reads Q. -/
  | qget (l : LaneId) (d : GReg)
  /-- QPUT (R238): Sets Q. -/
  | qput (l : LaneId) (d : GReg)
  /-- QAND (R238): ANDs Q. -/
  | qand (l : LaneId) (d : GReg)
  /-- SEND (R240): Commits a message to a send queue. -/
  | send (l : LaneId) (a : GReg) (d : GReg) (q : BitVec 8)
  /-- RECV (R241): Takes the oldest message of a receive queue. -/
  | recv (l : LaneId) (d : GReg) (q : BitVec 8)
  /-- SYSOP_MODE (R242): Requests a triad mode. -/
  | sysopMode (l : LaneId) (a : GReg)
  /-- SYSOP_SAFE (R242): Requests the device safe state with SAFECODE 0x07. -/
  | sysopSafe (l : LaneId) (a : GReg)
  /-- SYSOP_EVENT (R242): Records an application event in the recorder. -/
  | sysopEvent (l : LaneId) (a : GReg)
  /-- END (R245): Waits for the cycle's commit responses and ends the lane's EXECUTE phase. -/
  | endUnit (l : LaneId)
  /-- END_COMMIT_WAIT_DONE (R245): Every commit has answered; END traps POSTED or sends its
  transaction. -/
  | endCommitWaitDone (l : LaneId)
  /-- MFS (R239): Reads a special register. -/
  | mfs (l : LaneId) (d : GReg) (code : BitVec 3)
  /-- MTS (R243): Writes a special register. -/
  | mts (l : LaneId) (a : GReg) (code : BitVec 3)
  /-- GETC (R244): Returns a value latched at INPUT. -/
  | getc (l : LaneId) (d : GReg) (sel : BitVec 2)
  /-- NOP (R239): Does nothing. -/
  | nop (l : LaneId)
  /-- CYCLE_BOUNDARY (R172): END released and EXCHANGE complete; the boundary runs its steps and
  begins the next cycle. `progOk`: the state words that it programs take; `sweepMiss`: the first
  pattern of a standby sweep that a Shepherd missed, and a bit for each Shepherd that did (R443). -/
  | cycleBoundary (progOk : Bool) (sweepMiss : Option (Nat × BitVec 2))
  /-- SOLO_LATE_HALT (R262): An independent lane without END by CYC_LIMIT is halted. -/
  | soloLateHalt (l : LaneId)
  /-- SHEEPDOG_TRIP (R277): A cycle runs 4 x CYC_LIMIT without a boundary; safe state 0x05 and
  reset SHEEPDOG. -/
  | sheepdogTrip
  /-- TRIAL_TIMER_EXPIRY (R286): An unconfirmed set's trial ends and a swap back is armed. -/
  | trialTimerExpiry
  /-- REFRESH_SEND_TICK (R290): Every 50 us the compute die sends a REFRESH frame. -/
  | refreshSendTick
  /-- FIELD_RESET_FRAME (R289): The field die drops microcode, configuration and latches. -/
  | fieldResetFrame (crcOk : Bool)
  /-- FIELD_LOAD_FRAME (R311): The field die receives microcode, configuration and substitutions
  and answers their CRC. -/
  | fieldLoadFrame (crcOk : Bool)
  /-- FIELD_COMMIT_FRAME (R290): The field die applies the output image of a COMMIT frame. -/
  | fieldCommitFrame (crcOk : Bool)
  /-- FIELD_REFRESH_FRAME (R290): The field die applies the output image of a REFRESH frame. -/
  | fieldRefreshFrame (crcOk : Bool)
  /-- FIELD_SAFE_FRAME (R292): The field die drives outputs safe, opens the loop and sets
  SAFE_LATCH. -/
  | fieldSafeFrame (crcOk : Bool)
  /-- FIELD_LINK_TIMEOUT (R291): Link silence reaches FLD_LINKTO; outputs go safe and the loop
  opens. -/
  | fieldLinkTimeout
  /-- STATUS_FRAME_TICK (R293): Every 62.5 us the field die sends a status frame. -/
  | statusFrameTick (m : FieldMeas)
  /-- STATUS_FRAME_RECEIVED (R293): A valid status frame is written into the field-die receive
  bank. -/
  | statusFrameReceived (crcOk : Bool)
  /-- BARRIER_LINK_FAILURE (R293): No valid status frame for 500 us; FLOGIC is removed. -/
  | barrierLinkFailure
  /-- INPUT_FILTER_SAMPLE (R294): Every 15.625 us each input filter counter takes a sample. -/
  | inputFilterSample (raw : BitVec 32)
  /-- FRONT_END_TEST (R296): Every 25 ms one front end is tested with a carrier. -/
  | frontEndTest (r : FeResult)
  /-- OUTPUT_SHORT (R301): Overcurrent for 10 us turns the switch off and latches or retries. -/
  | outputShort (n : BitVec 4)
  /-- OUTPUT_OVERTEMP (R301): Switch over-temperature turns the output off. -/
  | outputOvertemp (n : BitVec 4)
  /-- OUTPUT_OPEN_LOAD (R301): An open load persists for 10 ms and is reported. -/
  | outputOpenLoad (n : BitVec 4)
  /-- OUTPUT_RETRY_EXPIRY (R301): After 100 ms a retried output is switched on again. -/
  | outputRetryExpiry (n : BitVec 4) (cooled : Bool)
  /-- SEGMENT_HANDOVER_EXPIRY (R302): 10 us after the reserve turns on the drifted segment turns
  off. -/
  | segmentHandoverExpiry (n : BitVec 4)
  /-- OUTPUT_TEST_PULSE (R303): An output with TEST is switched off for PULSE at its place in the
  interval. -/
  | outputTestPulse (n : BitVec 4)
  /-- OUTPUT_TEST_PULSE_END (R303): The pulse ends; an output that did not fall is STUCK and the
  loop opens. -/
  | outputTestPulseEnd (n : BitVec 4) (fell : Bool)
  /-- BRAKE_LOOP_DEMAND_MET (R304): The loop has been seen open for 10 ms and DEMAND_MET is set. -/
  | brakeLoopDemandMet
  /-- BL_HS_SENSE_HIGH (R305): BL_HS_SENSE reads high and BL_LS_SENSE is checked. -/
  | blHsSenseHigh (lsHigh : Bool)
  /-- BL_HS_SENSE_TIMEOUT (R305): BL_HS_SENSE is not high within 1 ms; FAULT 0x3. -/
  | blHsSenseTimeout
  /-- BL_LS_SENSE_HIGH (R305): BL_LS_SENSE reads high, EXT_OPEN clears and the low-side switch
  turns on. -/
  | blLsSenseHigh
  /-- BL_LS_SENSE_LOW (R305): BL_LS_SENSE reads low after the low side closes and the loop is
  CLOSED. -/
  | blLsSenseLow
  /-- BL_LS_SENSE_TIMEOUT (R305): BL_LS_SENSE is not low within 1 ms; FAULT 0x4. -/
  | blLsSenseTimeout
  /-- BRAKE_LOOP_TEST_PULSE (R307): Every INTERVAL one loop switch is turned off for PULSE. -/
  | brakeLoopTestPulse
  /-- BRAKE_LOOP_TEST_END (R307): The test pulse ends and the sense result passes or faults. -/
  | brakeLoopTestEnd (senseOk : Bool)
  /-- SD_CLOCK_WINDOW (R314): A 10 us edge-count window of a channel clock ends, setting or
  clearing CLK_BAD. -/
  | sdClockWindow (ch : BitVec 4) (edges : Nat)
  /-- SD_CLOCK_MISSING (R314): No channel clock edge arrives within 2 us and CLK_BAD is set. -/
  | sdClockMissing (ch : BitVec 4)
  /-- SD_BITSTREAM_STUCK (R316): SD_DAT has not changed for 1,024 modulator periods and STUCK is
  set. -/
  | sdBitstreamStuck (ch : BitVec 4)
  /-- SINC3_OUTPUT (R321): A sinc3 output enters the channel queue, dropping the oldest and
  restarting on overflow. -/
  | sinc3Output (ch : BitVec 4) (bits : List Bool)
  /-- ENGINE_SLOT (R320): A channel's engine slot runs half-band and FIR stages. -/
  | engineSlot (ch : BitVec 4)
  /-- SIG_CMD_RESTART (R324): A SIG_CMD store restarts the named channels. -/
  | sigCmdRestart (mask : BitVec 12)
  /-- SIG_CMD_SYNC (R325): A SIG_CMD store makes a synchronisation event when SRC allows. -/
  | sigCmdSync
  /-- SYNC_DF_EDGE (R325): A SYNC_DF edge of the set polarity is registered as a synchronisation
  event. -/
  | syncDfEdge (falling : Bool)
  /-- SCS_CONVERSION_START (R327): A single-cycle-settling conversion starts at its period or
  event. -/
  | scsConversionStart (ch : BitVec 4) (bit : Bool)
  /-- SCS_CONVERSION_DONE (R327): A conversion's bits are complete and its result delivered. -/
  | scsConversionDone (ch : BitVec 4) (bits : List Bool)
  /-- SWITCH_FRAME_RECEIVED (R333): A frame received on a port is checked, classified and
  forwarded or dropped. -/
  | switchFrameReceived (port : Nat) (f : EthFrame)
  /-- SWITCH_EGRESS_TRANSMIT (R334): An egress port transmits the highest-priority queued frame. -/
  | switchEgressTransmit (port : Nat)
  /-- MAC_ENTRY_AGEING (R332): A learned entry ages out after ETH_AGE. -/
  | macEntryAgeing (mac : BitVec 48) (vid : BitVec 12)
  /-- MDIO_ACCESS (R336): A write of GO to ETH_MDIO starts a clause 22 access. -/
  | mdioAccess (v : BitVec 32)
  /-- MDIO_ACCESS_DONE (R336): The management access completes and GO clears. -/
  | mdioAccessDone (data : BitVec 16)
  /-- PRP_SUPERVISION_TICK (R337): A PRP supervision frame is sent on both ports every SUPV ms. -/
  | prpSupervisionTick (pair : Bool)
  /-- PRP_ENTRY_EXPIRY (R338): A duplicate entry expires FORGET ms after its first copy. -/
  | prpEntryExpiry (pair : Bool) (src : BitVec 48) (seq : BitVec 16)
  /-- ARP_REQUEST_RECEIVED (R340): The PDE answers ARP for its own address. -/
  | arpRequestReceived (target : BitVec 32) (sender : BitVec 32) (mac : BitVec 48)
  /-- ARP_CACHE_REFRESH (R340): An ARP cache entry is refreshed after 60 s. -/
  | arpCacheRefresh (ip : BitVec 32)
  /-- ICMP_ECHO_REQUEST (R340): The PDE answers an echo request. -/
  | icmpEchoRequest (dst : BitVec 32) (src : BitVec 32)
  /-- IGMP_QUERY_RECEIVED (R340): The PDE sends membership reports for its groups. -/
  | igmpQueryReceived
  /-- IP_REASSEMBLY_TIMEOUT (R340): A reassembly held for 100 ms is dropped. -/
  | ipReassemblyTimeout (id : Nat)
  /-- PD_PUBLISH_INSTANT (R344): A publish session's instant arrives and its frame is sent or
  held. -/
  | pdPublishInstant (sess : Nat) (unitsAgree : Bool) (lateNs : Nat)
  /-- PD_FRAME_RECEIVED (R346): A process-data frame is matched and checked, including VSC checks.
  -/
  | pdFrameReceived (lan : Option Bool) (f : PdFrame) (unitsAgree : Bool)
  /-- PD_SESSION_TIMEOUT (R347): A subscription accepts no frame for TIMEOUT and sets TIMEDOUT. -/
  | pdSessionTimeout (sess : Nat)
  /-- DUAL_WINDOW_CLOSE (R360): A DUAL window closes without a second copy and the first is
  accepted. -/
  | dualWindowClose (sess : Nat)
  /-- DIRECTORY_COMMIT (R349): A keyed PDE_DIRCMD store starts copying a directory image. -/
  | directoryCommit (key : BitVec 8) (ofs : BitVec 24)
  /-- DIRECTORY_COPY_DONE (R349): The image copy is checked and waits for a boundary or is
  refused. -/
  | directoryCopyDone
  /-- MD_MESSAGE_RECEIVED (R354): A received message is checked and placed in a receive queue
  slot. -/
  | mdMessageReceived (m : MdMsg)
  /-- MD_REPLY_TIMEOUT (R355): No reply within TMO; a zero-length descriptor is queued. -/
  | mdReplyTimeout (q : Nat)
  /-- PTP_SYNC_RECEIVED (R362): A Sync message is time-stamped. -/
  | ptpSyncReceived (m : PtpMsg)
  /-- PTP_FOLLOW_UP_RECEIVED (R363): A Follow_Up completes an offset measurement that steps or
  slews time. -/
  | ptpFollowUpReceived (m : PtpMsg)
  /-- PTP_DELAY_REQ_SEND (R362): A Delay_Req, or on a peer-delay port a Pdelay_Req, is sent on its interval. -/
  | ptpDelayReqSend (port : Nat)
  /-- PTP_DELAY_RESP_RECEIVED (R362): A Delay_Resp completes a path delay measurement. -/
  | ptpDelayRespReceived (m : PtpMsg)
  /-- PTP_PDELAY_REQ_RECEIVED (R362): A Pdelay_Req is answered with Pdelay_Resp, which departs `turnNs` after its
  arrival. -/
  | ptpPdelayReqReceived (m : PtpMsg) (turnNs : Nat)
  /-- PTP_PDELAY_RESP_RECEIVED (R362): A Pdelay_Resp is time-stamped for peer delay. -/
  | ptpPdelayRespReceived (m : PtpMsg)
  /-- PTP_PDELAY_RESP_FOLLOW_UP (R362): A Pdelay_Resp_Follow_Up completes a peer delay
  measurement. -/
  | ptpPdelayRespFollowUp (m : PtpMsg)
  /-- PTP_ANNOUNCE_RECEIVED (R362): An Announce is fed to the best master clock algorithm. -/
  | ptpAnnounceReceived (m : Announce)
  /-- ANNOUNCE_RECEIPT_TIMEOUT (R364): The parent is lost for the announce timeout and the unit
  enters HOLDOVER. -/
  | announceReceiptTimeout
  /-- PPS_IN_EDGE (R362): A PPS_IN rising edge marks a whole second of train time. -/
  | ppsInEdge (refPpb : Int)
  /-- PPS_IN_MISSING (R364): PPS_IN is missing for 2 s; PPS_MISS and HOLDOVER. -/
  | ppsInMissing
  /-- HOLDOVER_EXPIRY (R364): HOLDOVER lasts TIM_HOLDLIM and becomes EXPIRED. -/
  | holdoverExpiry
  /-- TIM_ACCEPT_JUMP (R365): A keyed TIM_CMD ACCEPT_JUMP lets the next measurement step the
  count. -/
  | timAcceptJump (key : BitVec 8)
  /-- TIM_SECSET_APPLY (R365): A keyed TIM_CMD SECSET_APPLY sets TIM_SECSET at the next PPS_IN
  edge. -/
  | timSecsetApply (key : BitVec 8)
  /-- CAN_BUS_INTEGRATION (R370): The controller sees 11 recessive bits and joins the bus. -/
  | canBusIntegration (n : BitVec 2)
  /-- CAN_FRAME_RECEIVED (R375): A valid frame is filtered and stored in a buffer or the FIFO. -/
  | canFrameReceived (n : BitVec 2) (f : CanFrame)
  /-- CAN_START_OF_FRAME (R380): At a start of frame the controller chooses one pending item for
  arbitration. -/
  | canStartOfFrame (n : BitVec 2)
  /-- CAN_TRANSMISSION_END (R381): A frame in arbitration succeeds, loses or errs; `delay` is the delay from
  CAN_n_TX to CAN_n_RX in clocks of 12.5 ns. -/
  | canTransmissionEnd (n : BitVec 2) (r : CanTxEnd) (delay : Nat)
  /-- CAN_ERROR (R382): A protocol error updates the counters and error state, possibly bus-off. -/
  | canError (n : BitVec 2) (e : CanErr)
  /-- CAN_RECOVER (R383): A keyed CAN_n_CMD RECOVER starts bus-off recovery. -/
  | canRecover (n : BitVec 2) (key : BitVec 8)
  /-- CAN_RECOVERY_DONE (R383): 128 sequences of 11 recessive bits complete recovery. -/
  | canRecoveryDone (n : BitVec 2)
  /-- CAN_TX_CANCEL (R384): A TXCANCEL store cancels a transmit request. -/
  | canTxCancel (n : BitVec 2) (mask : BitVec 3)
  /-- CAN_FIFO_ACK (R378): A FIFOACK store releases the oldest FIFO entry. -/
  | canFifoAck (n : BitVec 2) (ack : Bool)
  /-- DROVE_CYCLE_START (R395): The node's expected cycle start arrives and the counter and state
  timers advance. -/
  | droveCycleStart (ch : Bool)
  /-- DROVE_REF_SEND (R397): A ranked ACTIVE node sends REF at its sub-slot. -/
  | droveRefSend (ch : Bool)
  /-- DROVE_COLD_SEND (R401): A COLDSTART node sends COLD in its sub-slot. -/
  | droveColdSend (ch : Bool)
  /-- DROVE_SLOT_BUFFER_COPY (R406): An own slot's publish buffer is copied 2 us before the slot. -/
  | droveSlotBufferCopy (ch : Bool) (slot : Nat)
  /-- DROVE_SLOT_TRANSMIT (R395): The node sends its DATA frame at its slot's expected start. -/
  | droveSlotTransmit (ch : Bool) (slot : Nat)
  /-- DROVE_DATA_FRAME_RECEIVED (R396): A DATA frame is checked and accepted into its slot bank. -/
  | droveDataFrameReceived (ch : Bool) (f : DroveFrame)
  /-- DROVE_REF_RECEIVED (R397): A REF frame is used or checked and the correction applied. -/
  | droveRefReceived (ch : Bool) (f : DroveFrame)
  /-- DROVE_COLD_RECEIVED (R401): A COLD frame is used for integration like a REF. -/
  | droveColdReceived (ch : Bool) (f : DroveFrame)
  /-- DROVE_LISTEN_TIMEOUT (R401): The listen timer expires and a ranked node enters COLDSTART. -/
  | droveListenTimeout (ch : Bool)
  /-- DROVE_READBACK_MISMATCH (R402): A sent bit reads back differently; DE drops and the node
  backs off or goes PASSIVE. -/
  | droveReadbackMismatch (ch : Bool)
  /-- CROOK_BLOCK (R403): The crook blocks a transmit enable outside a window, locking after four.
  -/
  | crookBlock (ch : Bool)
  /-- CROOK_COLDSTART_WINDOW (R403): After idle of 0.99 x LT_BASE the crook opens a coldstart
  window. -/
  | crookColdstartWindow (ch : Bool)
  /-- DRV_CMD_PASSIVE (R400): A keyed DRV_CMD PASSIVE holds a channel PASSIVE. -/
  | drvCmdPassive (key : BitVec 8) (mask : BitVec 2)
  /-- DRV_CMD_RESUME (R400): A keyed DRV_CMD RESUME ends the application hold. -/
  | drvCmdResume (key : BitVec 8) (mask : BitVec 2)
  /-- FOLD_RING_SYNC_LOSS (R412): No symbol for 1 us on FLK_IN; RING_DOWN. -/
  | foldRingSyncLoss
  /-- FOLD_FRAME_FORWARD (R413): A node forwards a frame not for it, incrementing HOP. -/
  | foldFrameForward (f : FoldFrame)
  /-- FOLD_TAG_FREED (R422): A quarantined tag is freed and a waiting read is sent. -/
  | foldTagFreed (st : BitVec 4) (tag : BitVec 8)
  /-- FOLD_RSP_RECEIVED (R422): An RSP answers the held requester or is discarded as late. -/
  | foldRspReceived (f : FoldFrame)
  /-- FOLD_READ_TIMEOUT (R422): No RSP within RTO; TIMEOUT answered and the tag quarantined. -/
  | foldReadTimeout (st : BitVec 4) (tag : BitVec 8)
  /-- FOLD_WACK_RECEIVED (R423): A WACK returns the credits of every SEQ it covers. -/
  | foldWackReceived (f : FoldFrame)
  /-- FOLD_WERR_RECEIVED (R424): A WERR enters a late error in the log. -/
  | foldWerrReceived (f : FoldFrame)
  /-- FOLD_WRITE_ACK_TIMEOUT (R423): No WACK or WERR within RTO; a TIMEOUT late error. -/
  | foldWriteAckTimeout (st : BitVec 4) (seq : BitVec 16)
  /-- FOLD_SUP_TICK (R420): Every SUP period a SUP frame is sent and the previous counted as
  missed. -/
  | foldSupTick
  /-- FOLD_SUP_RETURNED (R420): A returned SUP updates station states. -/
  | foldSupReturned (f : FoldFrame)
  /-- FOLD_SCAN_TICK (R425): Every SCAN period IMGRD and IMGOUT are sent to stations. -/
  | foldScanTick
  /-- FOLD_IMGIN_RECEIVED (R425): A valid IMGIN is written into the station's live bank. -/
  | foldImginReceived (f : FoldFrame)
  /-- FOLD_MSG_RECEIVED (R427): A MSG from a station is placed in the live bank. -/
  | foldMsgReceived (f : FoldFrame)
  /-- FOLD_ENUMERATION (R417): The controller sends ENUMQ and assigns numbers by ENUMSET. -/
  | foldEnumeration
  /-- FOLD_ENUMQ_RETURNED (R417): A returned ENUMQ yields a UID to assign or ends enumeration. -/
  | foldEnumqReturned (f : FoldFrame)
  /-- FOLD_STATION_LOAD (R418): A station image is sent in LDATA frames and LSTART. -/
  | foldStationLoad (st : BitVec 4)
  /-- FOLD_LACK_RECEIVED (R418): A LACK puts the station IN_SERVICE or triggers a retry. -/
  | foldLackReceived (f : FoldFrame)
  /-- FOLD_LACK_TIMEOUT (R418): No LACK within RTO; retry once then FAULT. -/
  | foldLackTimeout (st : BitVec 4)
  /-- FLK_LDCMD_ABORT (R428): A keyed FLK_LDCMD abort stops a station load before its commit
  point. -/
  | flkLdcmdAbort (key : BitVec 8) (st : BitVec 4)
  /-- FLK_LDCMD_RELOAD (R428): A keyed FLK_LDCMD reload requests a station reload. -/
  | flkLdcmdReload (key : BitVec 8) (st : BitVec 4)
  /-- FLK_LELPOP (R424): Removes the oldest late-error log entry. -/
  | flkLelpop (pop : Bool)
  /-- FLK_DEGCLR (R424): Clears DEGRADED of the named stations. -/
  | flkDegclr (mask : BitVec 16)
  /-- FLK_SEM_ACQUIRE (R429): A read of FLK_SEM_n acquires the semaphore if free. -/
  | flkSemAcquire (n : BitVec 4) (ini : Initiator)
  /-- FLK_SEM_RELEASE (R429): A write of 0 to HELD releases the semaphore and grants waiters. -/
  | flkSemRelease (n : BitVec 4) (ini : Initiator)
  /-- FLK_SEM_EXPIRY (R429): A semaphore held for 1 ms without holder access expires. -/
  | flkSemExpiry (n : BitVec 4)
  /-- STATION_RD (R430): A station answers an RD from the master or a side-effect-free read. -/
  | stationRd (f : FoldFrame)
  /-- STATION_WR (R431): A station performs a WR in SEQ order and acknowledges it. -/
  | stationWr (f : FoldFrame)
  /-- STATION_IMGRD (R425): A station answers IMGRD with IMGIN. -/
  | stationImgrd (f : FoldFrame)
  /-- STATION_IMGOUT (R430): A station applies an IMGOUT from the master unless it is an old
  duplicate. -/
  | stationImgout (f : FoldFrame)
  /-- STATION_SUP (R420): A station ORs its state into a passing SUP. -/
  | stationSup (f : FoldFrame)
  /-- STATION_ENUMQ (R417): An unnumbered station writes its UID and IDENT into ENUMQ. -/
  | stationEnumq (f : FoldFrame)
  /-- STATION_ENUMSET (R417): A station takes the number assigned by ENUMSET. -/
  | stationEnumset (f : FoldFrame)
  /-- STATION_LDATA (R431): A station takes image data, dropping any previous load. -/
  | stationLdata (f : FoldFrame)
  /-- STATION_LSTART (R418): A station checks the image CRC and answers LACK. -/
  | stationLstart (f : FoldFrame)
  /-- STATION_WATCHDOG_EXPIRY (R431): A station without IMGOUT for WDOG puts its outputs safe. -/
  | stationWatchdogExpiry
  /-- HEARTBEAT_TICK (R437): Every HB_PER a heartbeat record is built and sent on both paths. -/
  | heartbeatTick
  /-- HEARTBEAT_RECORD_RECEIVED (R438): A partner record is checked and used for mastership. -/
  | heartbeatRecordReceived (eth : Bool) (r : HbRecord)
  /-- PARTNER_LINK_TIMEOUT (R440): No valid record within HB_MISS x HB_PER; the partner is not
  heard on the link. -/
  | partnerLinkTimeout
  /-- FLASH_OP_START (R463): The flash controller starts the highest-class waiting program or
  erase. -/
  | flashOpStart
  /-- FLASH_OP_COMPLETE (R463): A program or erase ends, retried once on failure. -/
  | flashOpComplete (ok : Bool)
  /-- UPD_OPEN (R464): Opens a slot and erases it. -/
  | updOpen (key : BitVec 8) (slot : Bool)
  /-- UPD_WRITE (R465): Copies bytes from communication memory into the open slot. -/
  | updWrite (key : BitVec 8)
  /-- UPD_FETCH (R465): Copies bytes from a Fold station window into the open slot. -/
  | updFetch (key : BitVec 8)
  /-- UPD_CLOSE (R466): Verifies the slot and programs or holds its header. -/
  | updClose (key : BitVec 8) (hold : Bool)
  /-- UPD_ARM (R468): Arms a scheduled activation at a train time. -/
  | updArm (key : BitVec 8)
  /-- UPD_DISARM (R468): Cancels a scheduled activation. -/
  | updDisarm (key : BitVec 8)
  /-- UPD_ABORT (R467): Aborts the running update command. -/
  | updAbort (key : BitVec 8)
  /-- UPD_SETWRITE (R472): Writes a settings record, compacting into the other half if needed. -/
  | updSetwrite (key : BitVec 8)
  /-- ACTIVATION_HEADER_PROGRAMMED (R469): The held header is programmed and a device-warm
  software reset asserts. -/
  | activationHeaderProgrammed (ok : Bool)
  /-- RECORDER_ENV_SAMPLE (R473): Every 10 ms environmental values enter their histograms and
  extremes. -/
  | recorderEnvSample (tempDc : Int) (coreMv : Nat)
  /-- RECORDER_SNAPSHOT_PERIOD (R475): Every PERIOD minutes a snapshot record is written. -/
  | recorderSnapshotPeriod
  /-- REC_CMD_SNAP (R475): Takes a snapshot on command. -/
  | recCmdSnap (key : BitVec 8)
  /-- REC_CMD_ERASE (R477): Erases the recorder area and clears FULL. -/
  | recCmdErase (key : BitVec 8)
  /-- FOLD_RING_SYNC_GAIN (R412): FLK_IN regains comma and frame sync after a loss, for example
  when a bypass relay closes, and RING_UP is set again. -/
  | foldRingSyncGain
  /-- ETH_LINK_CHANGE (R336): The SGMII control word of an external port reports a link going up
  or down, or a new speed, and the port state, ETH_STAT and LINK_CHG follow. -/
  | ethLinkChange (port : Nat) (up : Bool) (speed : BitVec 2) (fullDuplex : Bool)
  /-- DEBUG_RESET_RELEASE (R76): The TAP command ends a debug reset it held, at least 100 us after
  assertion, and the debug source releases. -/
  | debugResetRelease (st : Straps)
  /-- RST_OUT_MIN_LOW_EXPIRY (R88): At step 9, 1 ms after the start of the episode, RST_OUT_N is
  driven high when the earlier steps finished sooner. -/
  | rstOutMinLowExpiry
  /-- SERREF_RETURN (R114): SER_REFCLK returns within its frequency range and the SGMII ports may
  come up again. -/
  | serrefReturn
  deriving DecidableEq, Repr

end Sys2Proof
end

