-- ==== Sys2Proof/Config.lean ====
section
/-! DEFINITION. Sys2Proof/Config.lean: the values that the spec leaves open. Nothing in Lean can
evaluate the opaque constants here, so a statement about them holds for every value. -/

namespace Sys2Proof.Config

/-- The free values: the `n`-th value that the spec leaves open in a run. A step that needs one
applies this to `State.freeCtr` and advances that counter. -/
opaque freeValue : Nat → BitVec 64

/-- What a decoder makes of an error pattern beyond what its code corrects and detects for certain
(R129, R132, R133): a report, for burst-coded memory also as a correction in an address symbol, or
wrong data, with the stored-bit positions that it changed, if it reports any. -/
inductive Wide where
  | reported
  | address
  | wrong (data : Nat) (bits : List Nat)
  deriving DecidableEq, Repr, Inhabited

/-- The decoder of the burst code on 6 or more symbols in error: bank, word index, the bits in error,
the data as stored. R132 states how often it is wrong, not for which patterns: the code's roots are
not given. -/
opaque burstWide : Nat → Nat → List Nat → Nat → Wide

/-- The decoder of private memory on three or more bits in error: core, word index, the bits in error,
the data as stored (R133). -/
opaque privWide : Nat → Nat → List Nat → Nat → Wide

/-- A byte of the resident copy of a set in shared memory: the TYPE, INST and bytes of the set's
sections, the offset in the copy (R91, R166). What the copy keeps is stated, its layout is not. -/
opaque residentByte : List (Nat × Nat × List (BitVec 8)) → Nat → BitVec 8

/-- The UID that the fuses of a ZT9 in outstation mode hold (R432). -/
opaque stationUid : BitVec 64

/-- The WDOG of a ZT9 in outstation mode in ms, less one (R430 and R431 use it, Table 16-3 keeps it
in the controller's station table, and nothing says how the station learns it). -/
opaque stationWdog : Nat

/-- The bytes of field-die microcode at the start of a ZT9's outstation image (R432 gives the
order, not the place of the boundary). -/
opaque stationMicro : Nat

end Sys2Proof.Config
end

