-- ==== Sys2Proof/Machine/Bits.lean ====
section
/-! DEFINITION. Sys2Proof/Machine/Bits.lean: bit fields, byte order, sign extension, saturation and
the cyclic redundancy codes that the spec names (CRC-32C and the 64-bit signature of R194). -/

namespace Sys2Proof.Machine

/-- Bits `lo + w - 1` down to `lo` of the number `v`. -/
def bitsOf (v lo w : Nat) : Nat := v / 2 ^ lo % 2 ^ w

/-- Bit `n` of the number `v`. -/
def bitOf (v n : Nat) : Bool := v / 2 ^ n % 2 = 1

/-- `v` with bits `lo + w - 1` down to `lo` replaced by those of `x`. -/
def setBits (v lo w x : Nat) : Nat :=
  v / 2 ^ (lo + w) * 2 ^ (lo + w) + x % 2 ^ w * 2 ^ lo + v % 2 ^ lo

/-- `v` with bit `n` set to `b`. -/
def setBit (v n : Nat) (b : Bool) : Nat := setBits v n 1 (if b then 1 else 0)

/-- A Bool as the bit it is. -/
def bitNat (b : Bool) : Nat := if b then 1 else 0

/-- The number of bits that are 1 among the `w` lowest bits of `v`. -/
def popCount : Nat → Nat → Nat
  | 0, _ => 0
  | w + 1, v => v % 2 + popCount w (v / 2)

/-- The indices below `n` whose bit in `v` is 1, rising. -/
def bitList (n v : Nat) : List Nat := (List.range n).filter (fun i => bitOf v i)

/-- A signed number cut to the range of `w` bits, two's complement. -/
def satSigned (w : Nat) (x : Int) : Int :=
  if x < -(2 ^ (w - 1) : Int) then -(2 ^ (w - 1) : Int)
  else if x > 2 ^ (w - 1) - 1 then 2 ^ (w - 1) - 1
  else x

/-- The `w`-bit two's complement pattern of `x`. -/
def ofSigned (w : Nat) (x : Int) : Nat := (x % (2 ^ w : Int)).toNat

/-- The signed value of a `w`-bit pattern. -/
def toSigned (w : Nat) (v : Nat) : Int :=
  if v % 2 ^ w < 2 ^ (w - 1) then (v % 2 ^ w : Nat) else ((v % 2 ^ w : Nat) : Int) - 2 ^ w

/-- The `n` low bytes of `v`, least significant first. -/
def leBytes : Nat → Nat → List Byte
  | 0, _ => []
  | n + 1, v => BitVec.ofNat 8 v :: leBytes n (v / 256)

/-- The number whose bytes are given least significant first. -/
def ofLe : List Byte → Nat
  | [] => 0
  | b :: bs => b.toNat + 256 * ofLe bs

/-- The number whose bytes are given most significant first (network order). -/
def ofBe (bs : List Byte) : Nat := bs.foldl (fun a b => a * 256 + b.toNat) 0

/-- The `n` low bytes of `v`, most significant first. -/
def beBytes (n v : Nat) : List Byte := (leBytes n v).reverse

/-- One bit of a right-shifting CRC register with polynomial `poly` (reflected form). -/
def crcStepR (poly : Nat) (c : Nat) : Nat :=
  if c % 2 = 1 then Nat.xor (c / 2) poly else c / 2

/-- `n` bits of it. -/
def crcStepsR (poly : Nat) : Nat → Nat → Nat
  | 0, c => c
  | n + 1, c => crcStepsR poly n (crcStepR poly c)

/-- A reflected CRC over bytes from the register value `c`, without the final inversion. -/
def crcBytesR (poly : Nat) (c : Nat) (bs : List Byte) : Nat :=
  bs.foldl (fun a b => crcStepsR poly 8 (Nat.xor a b.toNat)) c

/-- CRC-32C (the Castagnoli code, reflected polynomial 0x82F6_3B78, initial value and final
inversion all ones), the check code of every Lanimond container of the spec. -/
def crc32c (bs : List Byte) : Nat :=
  Nat.xor (crcBytesR 0x82F63B78 0xFFFFFFFF bs) 0xFFFFFFFF

/-- One bit of a left-shifting CRC register of width `w`. -/
def crcStepL (w poly : Nat) (c : Nat) : Nat :=
  if bitOf c (w - 1) then Nat.xor (c * 2 % 2 ^ w) poly else c * 2 % 2 ^ w

/-- `n` bits of it. -/
def crcStepsL (w poly : Nat) : Nat → Nat → Nat
  | 0, c => c
  | n + 1, c => crcStepsL w poly n (crcStepL w poly c)

/-- A left-shifting CRC of width `w` (at least 8) over bytes from the register value `c`. -/
def crcBytesL (w poly : Nat) (c : Nat) (bs : List Byte) : Nat :=
  bs.foldl (fun a b => crcStepsL w poly 8 (Nat.xor a (b.toNat * 2 ^ (w - 8)))) c

/-- `v` with element `i` changed. -/
def vecUpd {α : Type} {n : Nat} (v : Vector α n) (i : Nat) (f : α → α) : Vector α n :=
  v.mapIdx (fun j x => if j = i then f x else x)

/-- The elements of `v` that satisfy `p`, as a bit pattern. -/
def vecBits {α : Type} {n : Nat} (v : Vector α n) (p : Nat → α → Bool) : Nat :=
  (v.toList.zipIdx).foldl (fun a x => if p x.2 x.1 then a + 2 ^ x.2 else a) 0

end Sys2Proof.Machine
end

