-- ==== Sys2Proof/Machine/RegTable.lean ====
section
/-! DEFINITION. Sys2Proof/Machine/RegTable.lean: the register fields of the spec's field tables.
One `Fld` constant per named field (its address, lowest bit and width) and one `RegD` row per
register or register array (every field with its access code and reset value), each under the
number of the table of spec/ that gives it. -/

namespace Sys2Proof.Machine

/-- A field of a register: the register's physical address, the field's lowest bit and width. -/
structure Fld where
  addr : Nat
  lo : Nat
  width : Nat
  deriving DecidableEq, Repr

/-- The access codes of R6. -/
inductive Access where
  | ro | rw | wo | w1c | w1s | rwl
  deriving DecidableEq, Repr

/-- What the Reset column of a field says (R10): a value at every device episode, a value at
device-cold only (`cold`), nothing (`kept`, held in BKUP), or the configuration set (`cfg`). -/
inductive Keep where
  | value | cold | kept | cfg
  deriving DecidableEq, Repr

/-- One field of a field table: lowest bit, width, access code, reset value, what resets it. -/
structure FieldD where
  lo : Nat
  width : Nat
  acc : Access
  reset : Nat
  keep : Keep
  deriving DecidableEq, Repr

/-- One register, or an array of `c1 * c2` registers at strides `s1` and `s2`. -/
structure RegD where
  name : String
  base : Nat
  c1 : Nat
  s1 : Nat
  c2 : Nat
  s2 : Nat
  fields : List FieldD
  deriving DecidableEq, Repr

/-! ### The named fields -/


/-! SYS_DEVID (Table 04-7) -/
abbrev SYS_DEVID_PART : Fld := ⟨0x40000000, 16, 16⟩
abbrev SYS_DEVID_STEPPING : Fld := ⟨0x40000000, 12, 4⟩
abbrev SYS_DEVID_GRADE : Fld := ⟨0x40000000, 8, 4⟩

/-! SYS_RSTCAUSE (Table 04-8) -/
abbrev SYS_RSTCAUSE_SAFECODE : Fld := ⟨0x40000004, 24, 8⟩
abbrev SYS_RSTCAUSE_BO_RAIL : Fld := ⟨0x40000004, 16, 4⟩
abbrev SYS_RSTCAUSE_REACH : Fld := ⟨0x40000004, 12, 2⟩
abbrev SYS_RSTCAUSE_DEBUG : Fld := ⟨0x40000004, 8, 1⟩
abbrev SYS_RSTCAUSE_SOFT : Fld := ⟨0x40000004, 7, 1⟩
abbrev SYS_RSTCAUSE_CLOCK : Fld := ⟨0x40000004, 6, 1⟩
abbrev SYS_RSTCAUSE_VOTER : Fld := ⟨0x40000004, 5, 1⟩
abbrev SYS_RSTCAUSE_SHEEPDOG : Fld := ⟨0x40000004, 4, 1⟩
abbrev SYS_RSTCAUSE_EXT_LONG : Fld := ⟨0x40000004, 3, 1⟩
abbrev SYS_RSTCAUSE_EXT : Fld := ⟨0x40000004, 2, 1⟩
abbrev SYS_RSTCAUSE_BROWNOUT : Fld := ⟨0x40000004, 1, 1⟩
abbrev SYS_RSTCAUSE_POR : Fld := ⟨0x40000004, 0, 1⟩

/-! SYS_RSTCNT (Table 04-9) -/
abbrev SYS_RSTCNT_COUNT : Fld := ⟨0x40000008, 0, 32⟩

/-! SYS_RSTSTAT (Table 04-10) -/
abbrev SYS_RSTSTAT_RSTCNT_REPAIRED : Fld := ⟨0x4000000C, 4, 1⟩
abbrev SYS_RSTSTAT_TRIM_SRC : Fld := ⟨0x4000000C, 2, 2⟩
abbrev SYS_RSTSTAT_TRIM_FAULT : Fld := ⟨0x4000000C, 1, 1⟩
abbrev SYS_RSTSTAT_TRIM_VALID : Fld := ⟨0x4000000C, 0, 1⟩

/-! SYS_RSTCFG (Table 04-11) -/
abbrev SYS_RSTCFG_SW_LOCAL_EN : Fld := ⟨0x40000010, 1, 1⟩
abbrev SYS_RSTCFG_SW_WARM_EN : Fld := ⟨0x40000010, 0, 1⟩

/-! SYS_SWRST (Table 04-12) -/
abbrev SYS_SWRST_KEY : Fld := ⟨0x40000014, 24, 8⟩
abbrev SYS_SWRST_REACH : Fld := ⟨0x40000014, 16, 2⟩
abbrev SYS_SWRST_TARGET : Fld := ⟨0x40000014, 0, 8⟩

/-! SYS_LRST (Table 04-13) -/
abbrev SYS_LRST_COUNT : Fld := ⟨0x40000018, 20, 12⟩
abbrev SYS_LRST_SRC : Fld := ⟨0x40000018, 18, 2⟩
abbrev SYS_LRST_WDROP : Fld := ⟨0x40000018, 8, 8⟩
abbrev SYS_LRST_TARGET : Fld := ⟨0x40000018, 0, 8⟩

/-! SYS_PINSTAT (Table 02-6) -/
abbrev SYS_PINSTAT_SAFE_OUT : Fld := ⟨0x40000080, 11, 1⟩
abbrev SYS_PINSTAT_BYP_FLK : Fld := ⟨0x40000080, 10, 1⟩
abbrev SYS_PINSTAT_BYP_ETH : Fld := ⟨0x40000080, 9, 1⟩
abbrev SYS_PINSTAT_TEST_EN : Fld := ⟨0x40000080, 8, 1⟩
abbrev SYS_PINSTAT_MODE : Fld := ⟨0x40000080, 6, 2⟩
abbrev SYS_PINSTAT_SLOT_ID : Fld := ⟨0x40000080, 0, 6⟩

/-! PWR_PSTAT (Table 03-5) -/
abbrev PWR_PSTAT_STATE : Fld := ⟨0x40000100, 0, 24⟩

/-! PWR_REQ (Table 03-6) -/
abbrev PWR_REQ_REQ_HI : Fld := ⟨0x40000104, 7, 5⟩
abbrev PWR_REQ_REQ_CORE : Fld := ⟨0x40000104, 2, 4⟩

/-! PWR_MON (Table 03-7) -/
abbrev PWR_MON_FAULT : Fld := ⟨0x40000108, 16, 8⟩
abbrev PWR_MON_FVS_HIGH : Fld := ⟨0x40000108, 8, 1⟩
abbrev PWR_MON_OK : Fld := ⟨0x40000108, 0, 8⟩

/-! PWR_EVT (Table 03-8) -/
abbrev PWR_EVT_VBK_LOW : Fld := ⟨0x4000010C, 8, 1⟩
abbrev PWR_EVT_ABANDON : Fld := ⟨0x4000010C, 7, 1⟩
abbrev PWR_EVT_OV : Fld := ⟨0x4000010C, 6, 1⟩
abbrev PWR_EVT_FVS_HIGH : Fld := ⟨0x4000010C, 5, 1⟩
abbrev PWR_EVT_FVS_LOW : Fld := ⟨0x4000010C, 4, 1⟩
abbrev PWR_EVT_VFL_BO : Fld := ⟨0x4000010C, 3, 1⟩
abbrev PWR_EVT_SER_BO : Fld := ⟨0x4000010C, 2, 1⟩
abbrev PWR_EVT_IOB_BO : Fld := ⟨0x4000010C, 1, 1⟩
abbrev PWR_EVT_CORE_WARN : Fld := ⟨0x4000010C, 0, 1⟩

/-! PWR_BKSTAT (Table 03-9) -/
abbrev PWR_BKSTAT_VBK_NOW_LOW : Fld := ⟨0x40000110, 1, 1⟩
abbrev PWR_BKSTAT_BKUP_LOST : Fld := ⟨0x40000110, 0, 1⟩

/-! CLK_STAT (Table 05-6) -/
abbrev CLK_STAT_DISC2 : Fld := ⟨0x40000200, 10, 2⟩
abbrev CLK_STAT_DISC1 : Fld := ⟨0x40000200, 8, 2⟩
abbrev CLK_STAT_WIDE : Fld := ⟨0x40000200, 7, 1⟩
abbrev CLK_STAT_PLL_S_LOCK : Fld := ⟨0x40000200, 6, 1⟩
abbrev CLK_STAT_PLL_V_LOCK : Fld := ⟨0x40000200, 5, 1⟩
abbrev CLK_STAT_PLL_C_LOCK : Fld := ⟨0x40000200, 4, 1⟩
abbrev CLK_STAT_HRC1_Q : Fld := ⟨0x40000200, 3, 1⟩
abbrev CLK_STAT_XTAL_Q : Fld := ⟨0x40000200, 2, 1⟩
abbrev CLK_STAT_SRC : Fld := ⟨0x40000200, 0, 2⟩

/-! CLK_EVT (Table 05-7) -/
abbrev CLK_EVT_SERREF_BAD : Fld := ⟨0x40000204, 6, 1⟩
abbrev CLK_EVT_DISC_HOLD : Fld := ⟨0x40000204, 5, 1⟩
abbrev CLK_EVT_DISC_LIMIT : Fld := ⟨0x40000204, 4, 1⟩
abbrev CLK_EVT_XTAL_FAIL_START : Fld := ⟨0x40000204, 3, 1⟩
abbrev CLK_EVT_HRC1_REQUAL : Fld := ⟨0x40000204, 2, 1⟩
abbrev CLK_EVT_HRC1_LOST : Fld := ⟨0x40000204, 1, 1⟩
abbrev CLK_EVT_XTAL_LOST : Fld := ⟨0x40000204, 0, 1⟩

/-! CLK_FCAUSE (Table 05-8) -/
abbrev CLK_FCAUSE_CODE : Fld := ⟨0x40000208, 0, 4⟩

/-! CLK_DISC (Table 05-9) -/
abbrev CLK_DISC_SRC2 : Fld := ⟨0x4000020C, 14, 2⟩
abbrev CLK_DISC_SRC1 : Fld := ⟨0x4000020C, 12, 2⟩
abbrev CLK_DISC_LIMIT : Fld := ⟨0x4000020C, 0, 10⟩

/-! CLK_TRIM (Table 05-10) -/
abbrev CLK_TRIM_OFS2 : Fld := ⟨0x40000210, 16, 16⟩
abbrev CLK_TRIM_OFS1 : Fld := ⟨0x40000210, 0, 16⟩

/-! CLK_GATE (Table 05-11) -/
abbrev CLK_GATE_OPEN : Fld := ⟨0x40000214, 8, 1⟩
abbrev CLK_GATE_CODE : Fld := ⟨0x40000214, 0, 8⟩

/-! CLK_GSTAT (Table 05-12) -/
abbrev CLK_GSTAT_PENDING : Fld := ⟨0x40000218, 31, 1⟩
abbrev CLK_GSTAT_RESULT : Fld := ⟨0x40000218, 8, 2⟩
abbrev CLK_GSTAT_CODE : Fld := ⟨0x40000218, 0, 8⟩

/-! CLK_GMAP (Table 05-13) -/
abbrev CLK_GMAP_PG_SIGNAL : Fld := ⟨0x4000021C, 25, 1⟩
abbrev CLK_GMAP_PG_BUS : Fld := ⟨0x4000021C, 24, 1⟩
abbrev CLK_GMAP_ISLAND : Fld := ⟨0x4000021C, 0, 18⟩

/-! CLK_OUTCFG (Table 05-14) -/
abbrev CLK_OUTCFG_PPS_W : Fld := ⟨0x40000220, 24, 8⟩
abbrev CLK_OUTCFG_PPS_EN : Fld := ⟨0x40000220, 16, 1⟩
abbrev CLK_OUTCFG_DIV : Fld := ⟨0x40000220, 8, 8⟩
abbrev CLK_OUTCFG_SEL : Fld := ⟨0x40000220, 0, 2⟩

/-! TRI_MODE (Table 08-9) -/
abbrev TRI_MODE_RESULT : Fld := ⟨0x40010000, 20, 4⟩
abbrev TRI_MODE_REQ : Fld := ⟨0x40010000, 16, 2⟩
abbrev TRI_MODE_CFG : Fld := ⟨0x40010000, 8, 2⟩
abbrev TRI_MODE_CUR : Fld := ⟨0x40010000, 0, 2⟩

/-! TRI_STAT (Table 08-10) -/
abbrev TRI_STAT_IDLE : Fld := ⟨0x40010004, 20, 4⟩
abbrev TRI_STAT_RETIRED : Fld := ⟨0x40010004, 16, 4⟩
abbrev TRI_STAT_STATE_C : Fld := ⟨0x40010004, 12, 2⟩
abbrev TRI_STAT_STATE_B : Fld := ⟨0x40010004, 10, 2⟩
abbrev TRI_STAT_STATE_A : Fld := ⟨0x40010004, 8, 2⟩
abbrev TRI_STAT_CORE_C : Fld := ⟨0x40010004, 4, 2⟩
abbrev TRI_STAT_CORE_B : Fld := ⟨0x40010004, 2, 2⟩
abbrev TRI_STAT_CORE_A : Fld := ⟨0x40010004, 0, 2⟩

/-! TRI_EVT (Table 08-11) -/
abbrev TRI_EVT_RESERVE_FAIL : Fld := ⟨0x40010008, 8, 1⟩
abbrev TRI_EVT_MODE_REFUSED : Fld := ⟨0x40010008, 7, 1⟩
abbrev TRI_EVT_MODE_CHG : Fld := ⟨0x40010008, 6, 1⟩
abbrev TRI_EVT_REINT_FAIL : Fld := ⟨0x40010008, 5, 1⟩
abbrev TRI_EVT_SUBST : Fld := ⟨0x40010008, 4, 1⟩
abbrev TRI_EVT_RETIRE : Fld := ⟨0x40010008, 3, 1⟩
abbrev TRI_EVT_RESEED : Fld := ⟨0x40010008, 2, 1⟩
abbrev TRI_EVT_LATENT : Fld := ⟨0x40010008, 1, 1⟩
abbrev TRI_EVT_STRAY : Fld := ⟨0x40010008, 0, 1⟩

/-! TRI_STRAYLOG (Table 08-12) -/
abbrev TRI_STRAYLOG_VALID : Fld := ⟨0x4001000C, 31, 1⟩
abbrev TRI_STRAYLOG_LANE : Fld := ⟨0x4001000C, 26, 2⟩
abbrev TRI_STRAYLOG_CORE : Fld := ⟨0x4001000C, 24, 2⟩
abbrev TRI_STRAYLOG_CAUSE : Fld := ⟨0x4001000C, 20, 4⟩
abbrev TRI_STRAYLOG_KIND : Fld := ⟨0x4001000C, 16, 4⟩
abbrev TRI_STRAYLOG_CLASS : Fld := ⟨0x4001000C, 8, 8⟩
abbrev TRI_STRAYLOG_COUNT : Fld := ⟨0x4001000C, 0, 8⟩

/-! TRI_STRAYCYC (Table 08-13) -/
abbrev TRI_STRAYCYC_CYC : Fld := ⟨0x40010010, 0, 32⟩

/-! TRI_STRAYCNT (Table 08-14) -/
abbrev TRI_STRAYCNT_CORE_D : Fld := ⟨0x40010014, 24, 8⟩
abbrev TRI_STRAYCNT_CORE_C : Fld := ⟨0x40010014, 16, 8⟩
abbrev TRI_STRAYCNT_CORE_B : Fld := ⟨0x40010014, 8, 8⟩
abbrev TRI_STRAYCNT_CORE_A : Fld := ⟨0x40010014, 0, 8⟩

/-! TRI_RETIRE (Table 08-15) -/
abbrev TRI_RETIRE_PERIOD : Fld := ⟨0x40010018, 16, 16⟩
abbrev TRI_RETIRE_COUNT : Fld := ⟨0x40010018, 0, 4⟩

/-! TRI_LATENT (Table 08-16) -/
abbrev TRI_LATENT_TOTAL : Fld := ⟨0x4001001C, 16, 16⟩
abbrev TRI_LATENT_LANE : Fld := ⟨0x4001001C, 14, 2⟩
abbrev TRI_LATENT_INWIN : Fld := ⟨0x4001001C, 12, 2⟩
abbrev TRI_LATENT_REGION : Fld := ⟨0x4001001C, 0, 6⟩

/-! TRI_SURVEY (Table 08-17) -/
abbrev TRI_SURVEY_PASSES : Fld := ⟨0x40010020, 16, 16⟩
abbrev TRI_SURVEY_SKIPPED : Fld := ⟨0x40010020, 7, 1⟩
abbrev TRI_SURVEY_NEXT : Fld := ⟨0x40010020, 0, 6⟩

/-! TRI_INJ (Table 08-18) -/
abbrev TRI_INJ_S1_START : Fld := ⟨0x40010024, 26, 6⟩
abbrev TRI_INJ_S2_START : Fld := ⟨0x40010024, 20, 6⟩
abbrev TRI_INJ_FIRST_MISS : Fld := ⟨0x40010024, 14, 6⟩
abbrev TRI_INJ_RT_NEXT : Fld := ⟨0x40010024, 8, 6⟩

/-! TRI_VFLAST (Table 08-19) -/
abbrev TRI_VFLAST_VALID : Fld := ⟨0x40010028, 31, 1⟩
abbrev TRI_VFLAST_CAUSE : Fld := ⟨0x40010028, 24, 4⟩
abbrev TRI_VFLAST_SHEP : Fld := ⟨0x40010028, 22, 2⟩
abbrev TRI_VFLAST_LANE : Fld := ⟨0x40010028, 20, 2⟩
abbrev TRI_VFLAST_CYC : Fld := ⟨0x40010028, 0, 16⟩

/-! CYC_LIMIT (Table 10-11) -/
abbrev CYC_LIMIT_LIMIT : Fld := ⟨0x40010100, 0, 20⟩

/-! CYC_STAT (Table 10-12) -/
abbrev CYC_STAT_SOLO_LATE : Fld := ⟨0x40010104, 4, 1⟩
abbrev CYC_STAT_SKIP_PREV : Fld := ⟨0x40010104, 3, 1⟩
abbrev CYC_STAT_PHASE : Fld := ⟨0x40010104, 0, 2⟩

/-! CYC_COUNT (Table 10-13) -/
abbrev CYC_COUNT_COUNT : Fld := ⟨0x40010108, 0, 32⟩

/-! CYC_COUNTH (Table 10-13) -/
abbrev CYC_COUNTH_COUNT : Fld := ⟨0x4001010C, 0, 32⟩

/-! CYC_LAST (Table 10-14) -/
abbrev CYC_LAST_NS : Fld := ⟨0x40010110, 0, 32⟩

/-! CYC_MAX (Table 10-14) -/
abbrev CYC_MAX_NS : Fld := ⟨0x40010114, 0, 32⟩

/-! CYC_EVT (Table 10-15) -/
abbrev CYC_EVT_SOLO_LATE : Fld := ⟨0x40010118, 6, 1⟩
abbrev CYC_EVT_PRIME_DROP : Fld := ⟨0x40010118, 5, 1⟩
abbrev CYC_EVT_MIG_GEN : Fld := ⟨0x40010118, 4, 1⟩
abbrev CYC_EVT_AUTO_BACK : Fld := ⟨0x40010118, 3, 1⟩
abbrev CYC_EVT_SWAP : Fld := ⟨0x40010118, 2, 1⟩
abbrev CYC_EVT_SKIP : Fld := ⟨0x40010118, 1, 1⟩
abbrev CYC_EVT_OVERRUN : Fld := ⟨0x40010118, 0, 1⟩

/-! CYC_SKIPS (Table 10-16) -/
abbrev CYC_SKIPS_COUNT : Fld := ⟨0x4001011C, 0, 32⟩

/-! CYC_PHASES (Table 10-17) -/
abbrev CYC_PHASES_COMMIT_T : Fld := ⟨0x40010120, 16, 16⟩
abbrev CYC_PHASES_INPUT_T : Fld := ⟨0x40010120, 0, 16⟩

/-! CYC_XCFG (Table 10-18) -/
abbrev CYC_XCFG_TRIAL : Fld := ⟨0x40010124, 0, 16⟩

/-! CYC_XSTAT (Table 10-19) -/
abbrev CYC_XSTAT_SWAPS : Fld := ⟨0x40010128, 24, 8⟩
abbrev CYC_XSTAT_TRIAL_RUN : Fld := ⟨0x40010128, 23, 1⟩
abbrev CYC_XSTAT_PRIMES : Fld := ⟨0x40010128, 12, 11⟩
abbrev CYC_XSTAT_MIG_US : Fld := ⟨0x40010128, 0, 12⟩

/-! MEM_STAT (Table 06-6) -/
abbrev MEM_STAT_PASS : Fld := ⟨0x40020000, 16, 16⟩
abbrev MEM_STAT_REPAIR_BUSY : Fld := ⟨0x40020000, 0, 6⟩

/-! MEM_EVT (Table 06-7) -/
abbrev MEM_EVT_EFFECT_UNMARKED : Fld := ⟨0x40020004, 9, 1⟩
abbrev MEM_EVT_PRIV_DED : Fld := ⟨0x40020004, 8, 1⟩
abbrev MEM_EVT_TRACK_OVF : Fld := ⟨0x40020004, 7, 1⟩
abbrev MEM_EVT_SPARE_EXH : Fld := ⟨0x40020004, 6, 1⟩
abbrev MEM_EVT_REMAP : Fld := ⟨0x40020004, 5, 1⟩
abbrev MEM_EVT_LOST_EFFECT_READ : Fld := ⟨0x40020004, 4, 1⟩
abbrev MEM_EVT_PERM : Fld := ⟨0x40020004, 3, 1⟩
abbrev MEM_EVT_ADDR_FAULT : Fld := ⟨0x40020004, 2, 1⟩
abbrev MEM_EVT_UE : Fld := ⟨0x40020004, 1, 1⟩
abbrev MEM_EVT_CE : Fld := ⟨0x40020004, 0, 1⟩

/-! MEM_UEADDR (Table 06-8) -/
abbrev MEM_UEADDR_ADDR : Fld := ⟨0x40020008, 0, 32⟩

/-! MEM_UEINFO (Table 06-9) -/
abbrev MEM_UEINFO_COUNT : Fld := ⟨0x4002000C, 16, 16⟩
abbrev MEM_UEINFO_BANK : Fld := ⟨0x4002000C, 8, 4⟩
abbrev MEM_UEINFO_SRC : Fld := ⟨0x4002000C, 0, 3⟩

/-! MEM_HRB (Table 06-10) -/
abbrev MEM_HRB_LOST : Fld := ⟨0x40020010, 16, 16⟩
abbrev MEM_HRB_OCC : Fld := ⟨0x40020010, 0, 3⟩

/-! MEM_BANK_n (Table 06-11) -/
abbrev MEM_BANK_n_CECNT (n : Nat) : Fld := ⟨0x40020020 + 0x4 * n, 16, 16⟩
abbrev MEM_BANK_n_ROWS_LEFT (n : Nat) : Fld := ⟨0x40020020 + 0x4 * n, 8, 8⟩
abbrev MEM_BANK_n_COLS_LEFT (n : Nat) : Fld := ⟨0x40020020 + 0x4 * n, 0, 4⟩

/-! MEM_RGN_n_BASE (Table 06-12) -/
abbrev MEM_RGN_n_BASE_BASE (n : Nat) : Fld := ⟨0x40020100 + 0x8 * n, 12, 20⟩
abbrev MEM_RGN_n_BASE_EN (n : Nat) : Fld := ⟨0x40020100 + 0x8 * n, 3, 1⟩
abbrev MEM_RGN_n_BASE_SOLO_OK (n : Nat) : Fld := ⟨0x40020100 + 0x8 * n, 2, 1⟩
abbrev MEM_RGN_n_BASE_WR (n : Nat) : Fld := ⟨0x40020100 + 0x8 * n, 1, 1⟩
abbrev MEM_RGN_n_BASE_EFFECT (n : Nat) : Fld := ⟨0x40020100 + 0x8 * n, 0, 1⟩

/-! MEM_RGN_n_LIM (Table 06-13) -/
abbrev MEM_RGN_n_LIM_LIMIT (n : Nat) : Fld := ⟨0x40020104 + 0x8 * n, 12, 20⟩

/-! BOOT_STAT (Table 07-9) -/
abbrev BOOT_STAT_PHASE : Fld := ⟨0x40030000, 28, 4⟩
abbrev BOOT_STAT_FLASH_WR_FAIL : Fld := ⟨0x40030000, 27, 1⟩
abbrev BOOT_STAT_WEAR_FLASH_PENDING : Fld := ⟨0x40030000, 26, 1⟩
abbrev BOOT_STAT_TRIM_FAULT : Fld := ⟨0x40030000, 25, 1⟩
abbrev BOOT_STAT_FIELD_WAIT : Fld := ⟨0x40030000, 24, 1⟩
abbrev BOOT_STAT_MODE_INVALID : Fld := ⟨0x40030000, 23, 1⟩
abbrev BOOT_STAT_NO_IMAGE : Fld := ⟨0x40030000, 22, 1⟩
abbrev BOOT_STAT_SLOW_FLASH : Fld := ⟨0x40030000, 21, 1⟩
abbrev BOOT_STAT_DIR_MISMATCH : Fld := ⟨0x40030000, 20, 1⟩
abbrev BOOT_STAT_GEN_TIE : Fld := ⟨0x40030000, 19, 1⟩
abbrev BOOT_STAT_FALLBACK : Fld := ⟨0x40030000, 18, 1⟩
abbrev BOOT_STAT_ACTIVE_SET : Fld := ⟨0x40030000, 17, 1⟩
abbrev BOOT_STAT_SLOT : Fld := ⟨0x40030000, 16, 1⟩
abbrev BOOT_STAT_MISSING : Fld := ⟨0x40030000, 8, 4⟩
abbrev BOOT_STAT_REFUSE : Fld := ⟨0x40030000, 0, 6⟩

/-! BOOT_SLOT (Table 07-10) -/
abbrev BOOT_SLOT_B_MARK : Fld := ⟨0x40030004, 9, 1⟩
abbrev BOOT_SLOT_A_MARK : Fld := ⟨0x40030004, 8, 1⟩
abbrev BOOT_SLOT_B_STATE : Fld := ⟨0x40030004, 4, 4⟩
abbrev BOOT_SLOT_A_STATE : Fld := ⟨0x40030004, 0, 4⟩

/-! BOOT_GEN_A (Table 07-11) -/
abbrev BOOT_GEN_A_GENERATION : Fld := ⟨0x40030008, 0, 32⟩

/-! BOOT_GEN_B (Table 07-11) -/
abbrev BOOT_GEN_B_GENERATION : Fld := ⟨0x4003000C, 0, 32⟩

/-! BOOT_TIME (Table 07-12) -/
abbrev BOOT_TIME_US : Fld := ⟨0x40030010, 0, 32⟩

/-! BOOT_XSPI (Table 07-13) -/
abbrev BOOT_XSPI_SUSPEND : Fld := ⟨0x40030014, 12, 1⟩
abbrev BOOT_XSPI_DENSITY : Fld := ⟨0x40030014, 8, 4⟩
abbrev BOOT_XSPI_DUMMY : Fld := ⟨0x40030014, 3, 5⟩
abbrev BOOT_XSPI_MODE : Fld := ⟨0x40030014, 0, 1⟩

/-! BOOT_SLOAD (Table 07-14) -/
abbrev BOOT_SLOAD_KEY : Fld := ⟨0x40030020, 24, 8⟩
abbrev BOOT_SLOAD_ABORT : Fld := ⟨0x40030020, 8, 1⟩
abbrev BOOT_SLOAD_SLOT : Fld := ⟨0x40030020, 0, 1⟩

/-! BOOT_SSTAT (Table 07-15) -/
abbrev BOOT_SSTAT_BUSY : Fld := ⟨0x40030024, 31, 1⟩
abbrev BOOT_SSTAT_READY : Fld := ⟨0x40030024, 30, 1⟩
abbrev BOOT_SSTAT_NEEDS_RESTART : Fld := ⟨0x40030024, 29, 1⟩
abbrev BOOT_SSTAT_CONFIRMED : Fld := ⟨0x40030024, 28, 1⟩
abbrev BOOT_SSTAT_RESULT : Fld := ⟨0x40030024, 24, 4⟩
abbrev BOOT_SSTAT_SHADOW_SLOT : Fld := ⟨0x40030024, 16, 1⟩

/-! CFG_SWAP (Table 07-16) -/
abbrev CFG_SWAP_KEY : Fld := ⟨0x40030028, 24, 8⟩
abbrev CFG_SWAP_ACTION : Fld := ⟨0x40030028, 0, 2⟩

/-! BOOT_LOCK (Table 07-17) -/
abbrev BOOT_LOCK_LOCK : Fld := ⟨0x4003002C, 0, 1⟩

/-! FLD_STAT (Table 11-5) -/
abbrev FLD_STAT_CRCERR : Fld := ⟨0x40040000, 8, 8⟩
abbrev FLD_STAT_CFG_OK : Fld := ⟨0x40040000, 4, 1⟩
abbrev FLD_STAT_TIMEOUT : Fld := ⟨0x40040000, 3, 1⟩
abbrev FLD_STAT_SAFE_LATCH : Fld := ⟨0x40040000, 2, 1⟩
abbrev FLD_STAT_LINK : Fld := ⟨0x40040000, 0, 2⟩

/-! FLD_EVT (Table 11-5) -/
abbrev FLD_EVT_DO_STUCK : Fld := ⟨0x40040004, 9, 1⟩
abbrev FLD_EVT_DO_OVERTEMP : Fld := ⟨0x40040004, 8, 1⟩
abbrev FLD_EVT_DO_OPEN : Fld := ⟨0x40040004, 7, 1⟩
abbrev FLD_EVT_DO_SHORT : Fld := ⟨0x40040004, 6, 1⟩
abbrev FLD_EVT_DRIFT2 : Fld := ⟨0x40040004, 5, 1⟩
abbrev FLD_EVT_SEG_SUBST : Fld := ⟨0x40040004, 4, 1⟩
abbrev FLD_EVT_SPARE_BAD : Fld := ⟨0x40040004, 3, 1⟩
abbrev FLD_EVT_FE_FAULT : Fld := ⟨0x40040004, 2, 1⟩
abbrev FLD_EVT_FE_SUBST : Fld := ⟨0x40040004, 1, 1⟩
abbrev FLD_EVT_LINK_FAIL : Fld := ⟨0x40040004, 0, 1⟩

/-! FLD_LINKTO (Table 11-5) -/
abbrev FLD_LINKTO_TO : Fld := ⟨0x40040008, 0, 16⟩

/-! FLD_DI (Table 11-5) -/
abbrev FLD_DI_STATE : Fld := ⟨0x40040010, 0, 32⟩

/-! FLD_DIRAW (Table 11-5) -/
abbrev FLD_DIRAW_STATE : Fld := ⟨0x40040014, 0, 32⟩

/-! FLD_DITYPE (Table 11-5) -/
abbrev FLD_DITYPE_TYPE3 : Fld := ⟨0x40040018, 0, 32⟩

/-! FLD_DIFILT_n (Table 11-5) -/
abbrev FLD_DIFILT_n_FILT (n k : Nat) : Fld := ⟨0x40040020 + 0x4 * n, 4 * k, 3⟩

/-! FLD_SPARE (Table 11-5) -/
abbrev FLD_SPARE_BAD (k : Nat) : Fld := ⟨0x40040030, 8 * k + 7, 1⟩
abbrev FLD_SPARE_USED (k : Nat) : Fld := ⟨0x40040030, 8 * k + 6, 1⟩
abbrev FLD_SPARE_INPUT (k : Nat) : Fld := ⟨0x40040030, 8 * k, 5⟩

/-! FLD_DIFAULT (Table 11-5) -/
abbrev FLD_DIFAULT_FAULT : Fld := ⟨0x40040034, 0, 32⟩

/-! FLD_DOCFG (Table 11-5) -/
abbrev FLD_DOCFG_SAFEON : Fld := ⟨0x40040040, 16, 16⟩
abbrev FLD_DOCFG_PAIR : Fld := ⟨0x40040040, 0, 8⟩

/-! FLD_DOOPT (Table 11-5) -/
abbrev FLD_DOOPT_TEST : Fld := ⟨0x40040044, 16, 16⟩
abbrev FLD_DOOPT_RETRY : Fld := ⟨0x40040044, 0, 16⟩

/-! FLD_DOSTAT (Table 11-5) -/
abbrev FLD_DOSTAT_LATCHED : Fld := ⟨0x40040048, 16, 16⟩
abbrev FLD_DOSTAT_ON : Fld := ⟨0x40040048, 0, 16⟩

/-! FLD_DODIAG (Table 11-5) -/
abbrev FLD_DODIAG_SHORT : Fld := ⟨0x4004004C, 16, 16⟩
abbrev FLD_DODIAG_OPEN : Fld := ⟨0x4004004C, 0, 16⟩

/-! FLD_DOTEMP (Table 11-5) -/
abbrev FLD_DOTEMP_STUCK : Fld := ⟨0x40040050, 16, 16⟩
abbrev FLD_DOTEMP_OVERTEMP : Fld := ⟨0x40040050, 0, 16⟩

/-! FLD_DOSEG (Table 11-5) -/
abbrev FLD_DOSEG_DRIFT2 : Fld := ⟨0x40040054, 16, 16⟩
abbrev FLD_DOSEG_RESV_USED : Fld := ⟨0x40040054, 0, 16⟩

/-! FLD_FVS (Table 11-5) -/
abbrev FLD_FVS_TEMP : Fld := ⟨0x40040060, 16, 16⟩
abbrev FLD_FVS_MV : Fld := ⟨0x40040060, 0, 16⟩

/-! SIG_STAT (Table 12-5) -/
abbrev SIG_STAT_QMAX : Fld := ⟨0x40050000, 8, 8⟩
abbrev SIG_STAT_RUNNING : Fld := ⟨0x40050000, 1, 1⟩
abbrev SIG_STAT_LOADED : Fld := ⟨0x40050000, 0, 1⟩

/-! SIG_EVT (Table 12-5) -/
abbrev SIG_EVT_CH : Fld := ⟨0x40050004, 16, 12⟩
abbrev SIG_EVT_SYNC : Fld := ⟨0x40050004, 5, 1⟩
abbrev SIG_EVT_OVR : Fld := ⟨0x40050004, 4, 1⟩
abbrev SIG_EVT_SAT : Fld := ⟨0x40050004, 3, 1⟩
abbrev SIG_EVT_STUCK : Fld := ⟨0x40050004, 2, 1⟩
abbrev SIG_EVT_CLK_BAD : Fld := ⟨0x40050004, 1, 1⟩
abbrev SIG_EVT_STALE : Fld := ⟨0x40050004, 0, 1⟩

/-! SIG_CMD (Table 12-5) -/
abbrev SIG_CMD_RESTART : Fld := ⟨0x40050008, 16, 12⟩
abbrev SIG_CMD_SYNC : Fld := ⟨0x40050008, 0, 1⟩

/-! SIG_SYNCCFG (Table 12-5) -/
abbrev SIG_SYNCCFG_FALL : Fld := ⟨0x4005000C, 2, 1⟩
abbrev SIG_SYNCCFG_SRC : Fld := ⟨0x4005000C, 0, 2⟩

/-! SIG_CLKOUT_k (Table 12-5) -/
abbrev SIG_CLKOUT_k_EN (n : Nat) : Fld := ⟨0x40050010 + 0x4 * n, 31, 1⟩
abbrev SIG_CLKOUT_k_DIV (n : Nat) : Fld := ⟨0x40050010 + 0x4 * n, 0, 8⟩

/-! SIG_TNOW (Table 12-5) -/
abbrev SIG_TNOW_T : Fld := ⟨0x40050020, 0, 32⟩

/-! SIG_CH_n_CFG (Table 12-5) -/
abbrev SIG_CH_n_CFG_EN (n : Nat) : Fld := ⟨0x40050040 + 0x4 * n, 31, 1⟩
abbrev SIG_CH_n_CFG_MODE (n : Nat) : Fld := ⟨0x40050040 + 0x4 * n, 29, 2⟩
abbrev SIG_CH_n_CFG_CKSRC (n : Nat) : Fld := ⟨0x40050040 + 0x4 * n, 27, 2⟩
abbrev SIG_CH_n_CFG_EDGE (n : Nat) : Fld := ⟨0x40050040 + 0x4 * n, 26, 1⟩
abbrev SIG_CH_n_CFG_R17 (n : Nat) : Fld := ⟨0x40050040 + 0x4 * n, 25, 1⟩
abbrev SIG_CH_n_CFG_S (n : Nat) : Fld := ⟨0x40050040 + 0x4 * n, 22, 3⟩
abbrev SIG_CH_n_CFG_FIR_EN (n : Nat) : Fld := ⟨0x40050040 + 0x4 * n, 21, 1⟩
abbrev SIG_CH_n_CFG_FIRSEL (n : Nat) : Fld := ⟨0x40050040 + 0x4 * n, 20, 1⟩
abbrev SIG_CH_n_CFG_SYNC_EN (n : Nat) : Fld := ⟨0x40050040 + 0x4 * n, 19, 1⟩
abbrev SIG_CH_n_CFG_GROUP (n : Nat) : Fld := ⟨0x40050040 + 0x4 * n, 18, 1⟩
abbrev SIG_CH_n_CFG_XCLK (n : Nat) : Fld := ⟨0x40050040 + 0x4 * n, 0, 16⟩

/-! SIG_CH_n_SCS (Table 12-5) -/
abbrev SIG_CH_n_SCS_PER (n : Nat) : Fld := ⟨0x40050080 + 0x4 * n, 0, 16⟩

/-! SIG_CH_n_STAT (Table 12-5) -/
abbrev SIG_CH_n_STAT_QUAL (n : Nat) : Fld := ⟨0x400500C0 + 0x4 * n, 31, 1⟩
abbrev SIG_CH_n_STAT_SETTLING (n : Nat) : Fld := ⟨0x400500C0 + 0x4 * n, 30, 1⟩
abbrev SIG_CH_n_STAT_CLK_BAD (n : Nat) : Fld := ⟨0x400500C0 + 0x4 * n, 29, 1⟩
abbrev SIG_CH_n_STAT_STUCK (n : Nat) : Fld := ⟨0x400500C0 + 0x4 * n, 28, 1⟩
abbrev SIG_CH_n_STAT_SAT (n : Nat) : Fld := ⟨0x400500C0 + 0x4 * n, 27, 1⟩
abbrev SIG_CH_n_STAT_OVR (n : Nat) : Fld := ⟨0x400500C0 + 0x4 * n, 26, 1⟩
abbrev SIG_CH_n_STAT_STALE (n : Nat) : Fld := ⟨0x400500C0 + 0x4 * n, 25, 1⟩
abbrev SIG_CH_n_STAT_LEFT (n : Nat) : Fld := ⟨0x400500C0 + 0x4 * n, 0, 16⟩

/-! SIG_FIRs_Ci (Table 12-5) -/
abbrev SIG_FIRs_Ci_C (n i : Nat) : Fld := ⟨0x40050100 + 0x20 * n + 0x4 * i, 0, 24⟩

/-! ETH_STAT (Table 13-12) -/
abbrev ETH_STAT_PHYINT : Fld := ⟨0x40060000, 20, 4⟩
abbrev ETH_STAT_LINK : Fld := ⟨0x40060000, 16, 4⟩
abbrev ETH_STAT_SPEED : Fld := ⟨0x40060000, 8, 8⟩
abbrev ETH_STAT_FWD : Fld := ⟨0x40060000, 0, 1⟩

/-! ETH_EVT (Table 13-12) -/
abbrev ETH_EVT_MDIO_DONE : Fld := ⟨0x40060004, 7, 1⟩
abbrev ETH_EVT_PRP_EVICT : Fld := ⟨0x40060004, 6, 1⟩
abbrev ETH_EVT_PRP_WRONG_LAN : Fld := ⟨0x40060004, 5, 1⟩
abbrev ETH_EVT_VLAN_DROP : Fld := ⟨0x40060004, 4, 1⟩
abbrev ETH_EVT_UNCORR_DROP : Fld := ⟨0x40060004, 3, 1⟩
abbrev ETH_EVT_BUF_DROP : Fld := ⟨0x40060004, 2, 1⟩
abbrev ETH_EVT_OVERSIZE : Fld := ⟨0x40060004, 1, 1⟩
abbrev ETH_EVT_LINK_CHG : Fld := ⟨0x40060004, 0, 1⟩

/-! ETH_PORTCFG (Table 13-12) -/
abbrev ETH_PORTCFG_PRP : Fld := ⟨0x40060008, 8, 2⟩
abbrev ETH_PORTCFG_TRAIN : Fld := ⟨0x40060008, 4, 4⟩
abbrev ETH_PORTCFG_EN : Fld := ⟨0x40060008, 0, 4⟩

/-! ETH_MAC_LO (Table 13-12) -/
abbrev ETH_MAC_LO_MAC : Fld := ⟨0x4006000C, 0, 32⟩

/-! ETH_MAC_HI (Table 13-12) -/
abbrev ETH_MAC_HI_MAC : Fld := ⟨0x40060010, 0, 16⟩

/-! ETH_AGE (Table 13-12) -/
abbrev ETH_AGE_SEC : Fld := ⟨0x40060014, 0, 16⟩

/-! ETH_MDIO (Table 13-12) -/
abbrev ETH_MDIO_GO : Fld := ⟨0x40060018, 31, 1⟩
abbrev ETH_MDIO_READ : Fld := ⟨0x40060018, 30, 1⟩
abbrev ETH_MDIO_PHYAD : Fld := ⟨0x40060018, 21, 5⟩
abbrev ETH_MDIO_REGAD : Fld := ⟨0x40060018, 16, 5⟩
abbrev ETH_MDIO_DATA : Fld := ⟨0x40060018, 0, 16⟩

/-! ETH_PRPCFG (Table 13-12) -/
abbrev ETH_PRPCFG_FORGET : Fld := ⟨0x4006001C, 16, 16⟩
abbrev ETH_PRPCFG_SUPV : Fld := ⟨0x4006001C, 0, 16⟩

/-! ETH_PORT_n_CFG (Table 13-12) -/
abbrev ETH_PORT_n_CFG_PVID (n : Nat) : Fld := ⟨0x40060020 + 0x4 * n, 16, 12⟩
abbrev ETH_PORT_n_CFG_PCP (n : Nat) : Fld := ⟨0x40060020 + 0x4 * n, 12, 3⟩
abbrev ETH_PORT_n_CFG_RATELIM (n : Nat) : Fld := ⟨0x40060020 + 0x4 * n, 0, 7⟩

/-! ETH_PORT_n_DROP (Table 13-12) -/
abbrev ETH_PORT_n_DROP_BUF (n : Nat) : Fld := ⟨0x40060040 + 0x4 * n, 16, 16⟩
abbrev ETH_PORT_n_DROP_OTHER (n : Nat) : Fld := ⟨0x40060040 + 0x4 * n, 0, 16⟩

/-! ETH_PRP_p_STAT (Table 13-12) -/
abbrev ETH_PRP_p_STAT_DUP (n : Nat) : Fld := ⟨0x40060060 + 0x4 * n, 16, 16⟩
abbrev ETH_PRP_p_STAT_WRONG (n : Nat) : Fld := ⟨0x40060060 + 0x4 * n, 0, 16⟩

/-! ETH_VLAN_v (Table 13-12) -/
abbrev ETH_VLAN_v_EN (n : Nat) : Fld := ⟨0x40060100 + 0x4 * n, 31, 1⟩
abbrev ETH_VLAN_v_VID (n : Nat) : Fld := ⟨0x40060100 + 0x4 * n, 16, 12⟩
abbrev ETH_VLAN_v_UNTAG (n : Nat) : Fld := ⟨0x40060100 + 0x4 * n, 8, 5⟩
abbrev ETH_VLAN_v_MEMBER (n : Nat) : Fld := ⟨0x40060100 + 0x4 * n, 0, 5⟩

/-! ETH_STATIC_n_LO (Table 13-12) -/
abbrev ETH_STATIC_n_LO_MAC (n : Nat) : Fld := ⟨0x40060200 + 0x8 * n, 0, 32⟩

/-! ETH_STATIC_n_HI (Table 13-12) -/
abbrev ETH_STATIC_n_HI_EN (n : Nat) : Fld := ⟨0x40060204 + 0x8 * n, 31, 1⟩
abbrev ETH_STATIC_n_HI_PORTS (n : Nat) : Fld := ⟨0x40060204 + 0x8 * n, 16, 5⟩
abbrev ETH_STATIC_n_HI_MAC (n : Nat) : Fld := ⟨0x40060204 + 0x8 * n, 0, 16⟩

/-! PDE_STAT (Table 13-14) -/
abbrev PDE_STAT_DIRN : Fld := ⟨0x40070000, 16, 13⟩
abbrev PDE_STAT_BOUND : Fld := ⟨0x40070000, 0, 10⟩

/-! PDE_EVT (Table 13-14) -/
abbrev PDE_EVT_NOSYNC : Fld := ⟨0x40070004, 11, 1⟩
abbrev PDE_EVT_VSC_INT : Fld := ⟨0x40070004, 10, 1⟩
abbrev PDE_EVT_MD_ORPHAN : Fld := ⟨0x40070004, 9, 1⟩
abbrev PDE_EVT_MD_DROP : Fld := ⟨0x40070004, 8, 1⟩
abbrev PDE_EVT_DIR_ERR : Fld := ⟨0x40070004, 7, 1⟩
abbrev PDE_EVT_DIR_DONE : Fld := ⟨0x40070004, 6, 1⟩
abbrev PDE_EVT_UNBOUND : Fld := ⟨0x40070004, 5, 1⟩
abbrev PDE_EVT_TOPO_DROP : Fld := ⟨0x40070004, 4, 1⟩
abbrev PDE_EVT_LANE_LOSS : Fld := ⟨0x40070004, 3, 1⟩
abbrev PDE_EVT_VSC_DIFF : Fld := ⟨0x40070004, 2, 1⟩
abbrev PDE_EVT_VSC_ERR : Fld := ⟨0x40070004, 1, 1⟩
abbrev PDE_EVT_TIMEOUT : Fld := ⟨0x40070004, 0, 1⟩

/-! PDE_IPADDR (Table 13-14) -/
abbrev PDE_IPADDR_ADDR : Fld := ⟨0x40070008, 0, 32⟩

/-! PDE_NETMASK (Table 13-14) -/
abbrev PDE_NETMASK_ADDR : Fld := ⟨0x4007000C, 0, 32⟩

/-! PDE_GATEWAY (Table 13-14) -/
abbrev PDE_GATEWAY_ADDR : Fld := ⟨0x40070010, 0, 32⟩

/-! PDE_OWNID (Table 13-14) -/
abbrev PDE_OWNID_ID : Fld := ⟨0x40070014, 0, 18⟩

/-! PDE_ETBTOPO (Table 13-14) -/
abbrev PDE_ETBTOPO_CNT : Fld := ⟨0x40070018, 0, 32⟩

/-! PDE_OPTOPO (Table 13-14) -/
abbrev PDE_OPTOPO_CNT : Fld := ⟨0x4007001C, 0, 32⟩

/-! PDE_DIRCMD (Table 13-14) -/
abbrev PDE_DIRCMD_KEY : Fld := ⟨0x40070020, 24, 8⟩
abbrev PDE_DIRCMD_OFS : Fld := ⟨0x40070020, 0, 24⟩

/-! PDE_DIRSTAT (Table 13-14) -/
abbrev PDE_DIRSTAT_STATE : Fld := ⟨0x40070024, 30, 2⟩
abbrev PDE_DIRSTAT_RESULT : Fld := ⟨0x40070024, 28, 2⟩
abbrev PDE_DIRSTAT_GEN : Fld := ⟨0x40070024, 0, 16⟩

/-! PDE_LANELOSS (Table 13-14) -/
abbrev PDE_LANELOSS_LOSS_B : Fld := ⟨0x40070028, 16, 16⟩
abbrev PDE_LANELOSS_LOSS_A : Fld := ⟨0x40070028, 0, 16⟩

/-! PDE_MDSTAT (Table 13-14) -/
abbrev PDE_MDSTAT_RXDROP : Fld := ⟨0x4007002C, 16, 16⟩
abbrev PDE_MDSTAT_TXDROP : Fld := ⟨0x4007002C, 0, 16⟩

/-! PDE_SSTAT_s (Table 13-14) -/
abbrev PDE_SSTAT_s_BOUND (n : Nat) : Fld := ⟨0x40070100 + 0x4 * n, 31, 1⟩
abbrev PDE_SSTAT_s_UP (n : Nat) : Fld := ⟨0x40070100 + 0x4 * n, 30, 1⟩
abbrev PDE_SSTAT_s_TIMEDOUT (n : Nat) : Fld := ⟨0x40070100 + 0x4 * n, 29, 1⟩
abbrev PDE_SSTAT_s_DIFF (n : Nat) : Fld := ⟨0x40070100 + 0x4 * n, 28, 1⟩
abbrev PDE_SSTAT_s_HELD (n : Nat) : Fld := ⟨0x40070100 + 0x4 * n, 27, 1⟩
abbrev PDE_SSTAT_s_LASTERR (n : Nat) : Fld := ⟨0x40070100 + 0x4 * n, 20, 4⟩
abbrev PDE_SSTAT_s_LOSS_B (n : Nat) : Fld := ⟨0x40070100 + 0x4 * n, 8, 8⟩
abbrev PDE_SSTAT_s_LOSS_A (n : Nat) : Fld := ⟨0x40070100 + 0x4 * n, 0, 8⟩

/-! TIM_STAT (Table 13-16) -/
abbrev TIM_STAT_PARENT_PORT : Fld := ⟨0x40080000, 16, 4⟩
abbrev TIM_STAT_STEPS : Fld := ⟨0x40080000, 8, 8⟩
abbrev TIM_STAT_STEPPED : Fld := ⟨0x40080000, 3, 1⟩
abbrev TIM_STAT_STATE : Fld := ⟨0x40080000, 0, 3⟩

/-! TIM_EVT (Table 13-16) -/
abbrev TIM_EVT_JUMP_ACC : Fld := ⟨0x40080004, 6, 1⟩
abbrev TIM_EVT_PPS_MISS : Fld := ⟨0x40080004, 5, 1⟩
abbrev TIM_EVT_EXPIRED : Fld := ⟨0x40080004, 4, 1⟩
abbrev TIM_EVT_MASTER_CHG : Fld := ⟨0x40080004, 3, 1⟩
abbrev TIM_EVT_JUMP_REF : Fld := ⟨0x40080004, 2, 1⟩
abbrev TIM_EVT_HOLD : Fld := ⟨0x40080004, 1, 1⟩
abbrev TIM_EVT_LOCKED : Fld := ⟨0x40080004, 0, 1⟩

/-! TIM_CFG (Table 13-16) -/
abbrev TIM_CFG_DOMAIN : Fld := ⟨0x40080008, 24, 8⟩
abbrev TIM_CFG_MODE : Fld := ⟨0x40080008, 2, 2⟩
abbrev TIM_CFG_REFIN : Fld := ⟨0x40080008, 1, 1⟩
abbrev TIM_CFG_L2 : Fld := ⟨0x40080008, 0, 1⟩

/-! TIM_JUMP_MAX (Table 13-16) -/
abbrev TIM_JUMP_MAX_NS : Fld := ⟨0x4008000C, 0, 32⟩

/-! TIM_NS_LO (Table 13-16) -/
abbrev TIM_NS_LO_NS : Fld := ⟨0x40080010, 0, 32⟩

/-! TIM_NS_HI (Table 13-16) -/
abbrev TIM_NS_HI_NS : Fld := ⟨0x40080014, 0, 32⟩

/-! TIM_OFFSET (Table 13-16) -/
abbrev TIM_OFFSET_NS : Fld := ⟨0x40080018, 0, 32⟩

/-! TIM_RATE (Table 13-16) -/
abbrev TIM_RATE_PPB : Fld := ⟨0x4008001C, 0, 32⟩

/-! TIM_CMD (Table 13-16) -/
abbrev TIM_CMD_KEY : Fld := ⟨0x40080020, 24, 8⟩
abbrev TIM_CMD_ACTION : Fld := ⟨0x40080020, 0, 2⟩

/-! TIM_HOLDLIM (Table 13-16) -/
abbrev TIM_HOLDLIM_SEC : Fld := ⟨0x40080024, 0, 16⟩

/-! TIM_SECSET (Table 13-16) -/
abbrev TIM_SECSET_SEC : Fld := ⟨0x40080028, 0, 32⟩

/-! TIM_PORT_n_CFG (Table 13-16) -/
abbrev TIM_PORT_n_CFG_ONESTEP (n : Nat) : Fld := ⟨0x40080030 + 0x4 * n, 2, 1⟩
abbrev TIM_PORT_n_CFG_TC (n : Nat) : Fld := ⟨0x40080030 + 0x4 * n, 1, 1⟩
abbrev TIM_PORT_n_CFG_P2P (n : Nat) : Fld := ⟨0x40080030 + 0x4 * n, 0, 1⟩

/-! CAN_n_STAT (Table 14-6) -/
abbrev CAN_n_STAT_REC (n : Nat) : Fld := ⟨0x40090000 + 0x4000 * n, 16, 8⟩
abbrev CAN_n_STAT_TEC (n : Nat) : Fld := ⟨0x40090000 + 0x4000 * n, 8, 8⟩
abbrev CAN_n_STAT_STATE (n : Nat) : Fld := ⟨0x40090000 + 0x4000 * n, 0, 3⟩

/-! CAN_n_EVT (Table 14-6) -/
abbrev CAN_n_EVT_PROTO_ERR (n : Nat) : Fld := ⟨0x40090004 + 0x4000 * n, 7, 1⟩
abbrev CAN_n_EVT_TX_REPLACED (n : Nat) : Fld := ⟨0x40090004 + 0x4000 * n, 6, 1⟩
abbrev CAN_n_EVT_RECOVERED (n : Nat) : Fld := ⟨0x40090004 + 0x4000 * n, 5, 1⟩
abbrev CAN_n_EVT_BUS_OFF (n : Nat) : Fld := ⟨0x40090004 + 0x4000 * n, 4, 1⟩
abbrev CAN_n_EVT_ERR_PASSIVE (n : Nat) : Fld := ⟨0x40090004 + 0x4000 * n, 3, 1⟩
abbrev CAN_n_EVT_FIFO_DROP (n : Nat) : Fld := ⟨0x40090004 + 0x4000 * n, 2, 1⟩
abbrev CAN_n_EVT_QBAD (n : Nat) : Fld := ⟨0x40090004 + 0x4000 * n, 1, 1⟩
abbrev CAN_n_EVT_RX_LOST (n : Nat) : Fld := ⟨0x40090004 + 0x4000 * n, 0, 1⟩

/-! CAN_n_NBT (Table 14-6) -/
abbrev CAN_n_NBT_NBRP (n : Nat) : Fld := ⟨0x40090008 + 0x4000 * n, 27, 5⟩
abbrev CAN_n_NBT_NTSEG1 (n : Nat) : Fld := ⟨0x40090008 + 0x4000 * n, 19, 8⟩
abbrev CAN_n_NBT_NTSEG2 (n : Nat) : Fld := ⟨0x40090008 + 0x4000 * n, 12, 7⟩
abbrev CAN_n_NBT_NSJW (n : Nat) : Fld := ⟨0x40090008 + 0x4000 * n, 5, 7⟩

/-! CAN_n_DBT (Table 14-6) -/
abbrev CAN_n_DBT_DBRP (n : Nat) : Fld := ⟨0x4009000C + 0x4000 * n, 27, 5⟩
abbrev CAN_n_DBT_DTSEG1 (n : Nat) : Fld := ⟨0x4009000C + 0x4000 * n, 22, 5⟩
abbrev CAN_n_DBT_DTSEG2 (n : Nat) : Fld := ⟨0x4009000C + 0x4000 * n, 18, 4⟩
abbrev CAN_n_DBT_DSJW (n : Nat) : Fld := ⟨0x4009000C + 0x4000 * n, 14, 4⟩
abbrev CAN_n_DBT_TDC (n : Nat) : Fld := ⟨0x4009000C + 0x4000 * n, 13, 1⟩
abbrev CAN_n_DBT_TDC_OFS (n : Nat) : Fld := ⟨0x4009000C + 0x4000 * n, 7, 6⟩

/-! CAN_n_CFG (Table 14-6) -/
abbrev CAN_n_CFG_FIFO_OVW (n : Nat) : Fld := ⟨0x40090010 + 0x4000 * n, 8, 1⟩
abbrev CAN_n_CFG_REJ_RTR (n : Nat) : Fld := ⟨0x40090010 + 0x4000 * n, 7, 1⟩
abbrev CAN_n_CFG_NONMATCH (n : Nat) : Fld := ⟨0x40090010 + 0x4000 * n, 6, 1⟩
abbrev CAN_n_CFG_AUTOREC (n : Nat) : Fld := ⟨0x40090010 + 0x4000 * n, 5, 1⟩
abbrev CAN_n_CFG_ORDER (n : Nat) : Fld := ⟨0x40090010 + 0x4000 * n, 4, 1⟩
abbrev CAN_n_CFG_SWITCH_EN (n : Nat) : Fld := ⟨0x40090010 + 0x4000 * n, 3, 1⟩
abbrev CAN_n_CFG_FD_EN (n : Nat) : Fld := ⟨0x40090010 + 0x4000 * n, 2, 1⟩
abbrev CAN_n_CFG_MODE (n : Nat) : Fld := ⟨0x40090010 + 0x4000 * n, 0, 2⟩

/-! CAN_n_CMD (Table 14-6) -/
abbrev CAN_n_CMD_KEY (n : Nat) : Fld := ⟨0x40090014 + 0x4000 * n, 24, 8⟩
abbrev CAN_n_CMD_RECOVER (n : Nat) : Fld := ⟨0x40090014 + 0x4000 * n, 0, 1⟩

/-! CAN_n_TXSTAT (Table 14-6) -/
abbrev CAN_n_TXSTAT_ST (n k : Nat) : Fld := ⟨0x40090018 + 0x4000 * n, 4 * k, 4⟩

/-! CAN_n_TXCANCEL (Table 14-6) -/
abbrev CAN_n_TXCANCEL_CANCEL (n : Nat) : Fld := ⟨0x4009001C + 0x4000 * n, 0, 3⟩

/-! CAN_n_TXSTAMP_b (Table 14-6) -/
abbrev CAN_n_TXSTAMP_b_US (n i : Nat) : Fld := ⟨0x40090020 + 0x4000 * n + 0x4 * i, 0, 32⟩

/-! CAN_n_FRESH_LO (Table 14-6) -/
abbrev CAN_n_FRESH_LO_FRESH (n : Nat) : Fld := ⟨0x40090030 + 0x4000 * n, 0, 32⟩

/-! CAN_n_FRESH_HI (Table 14-6) -/
abbrev CAN_n_FRESH_HI_FRESH (n : Nat) : Fld := ⟨0x40090034 + 0x4000 * n, 0, 32⟩

/-! CAN_n_FIFOSTAT (Table 14-6) -/
abbrev CAN_n_FIFOSTAT_DROP (n : Nat) : Fld := ⟨0x40090038 + 0x4000 * n, 16, 16⟩
abbrev CAN_n_FIFOSTAT_GET (n : Nat) : Fld := ⟨0x40090038 + 0x4000 * n, 8, 5⟩
abbrev CAN_n_FIFOSTAT_FILL (n : Nat) : Fld := ⟨0x40090038 + 0x4000 * n, 0, 6⟩

/-! CAN_n_FIFOACK (Table 14-6) -/
abbrev CAN_n_FIFOACK_ACK (n : Nat) : Fld := ⟨0x4009003C + 0x4000 * n, 0, 1⟩

/-! CAN_n_ERRCNT (Table 14-6) -/
abbrev CAN_n_ERRCNT_PROTO (n : Nat) : Fld := ⟨0x40090040 + 0x4000 * n, 16, 16⟩
abbrev CAN_n_ERRCNT_RXLOST (n : Nat) : Fld := ⟨0x40090040 + 0x4000 * n, 0, 16⟩

/-! DRV_CFG (Table 15-7) -/
abbrev DRV_CFG_DISC_CH : Fld := ⟨0x400A0000, 4, 1⟩
abbrev DRV_CFG_EN : Fld := ⟨0x400A0000, 0, 2⟩

/-! DRV_CMD (Table 15-7) -/
abbrev DRV_CMD_KEY : Fld := ⟨0x400A0004, 24, 8⟩
abbrev DRV_CMD_RESUME : Fld := ⟨0x400A0004, 8, 2⟩
abbrev DRV_CMD_PASSIVE : Fld := ⟨0x400A0004, 0, 2⟩

/-! DRV_EVT (Table 15-7) -/
abbrev DRV_EVT_REF_CONFLICT (k : Nat) : Fld := ⟨0x400A0008, 8 * k + 7, 1⟩
abbrev DRV_EVT_CROOK_BLOCK (k : Nat) : Fld := ⟨0x400A0008, 8 * k + 6, 1⟩
abbrev DRV_EVT_BW_CHANGE (k : Nat) : Fld := ⟨0x400A0008, 8 * k + 5, 1⟩
abbrev DRV_EVT_COLLISION (k : Nat) : Fld := ⟨0x400A0008, 8 * k + 4, 1⟩
abbrev DRV_EVT_COLDSTART (k : Nat) : Fld := ⟨0x400A0008, 8 * k + 3, 1⟩
abbrev DRV_EVT_JOINED (k : Nat) : Fld := ⟨0x400A0008, 8 * k + 2, 1⟩
abbrev DRV_EVT_PASSIVE (k : Nat) : Fld := ⟨0x400A0008, 8 * k + 1, 1⟩
abbrev DRV_EVT_SYNC_LOST (k : Nat) : Fld := ⟨0x400A0008, 8 * k, 1⟩

/-! DRV_n_STAT (Table 15-7) -/
abbrev DRV_n_STAT_NODE (n : Nat) : Fld := ⟨0x400A0040 + 0x40 * n, 24, 5⟩
abbrev DRV_n_STAT_CROOK_LOCK (n : Nat) : Fld := ⟨0x400A0040 + 0x40 * n, 16, 1⟩
abbrev DRV_n_STAT_PASSIVE_WHY (n : Nat) : Fld := ⟨0x400A0040 + 0x40 * n, 12, 4⟩
abbrev DRV_n_STAT_MISSCNT (n : Nat) : Fld := ⟨0x400A0040 + 0x40 * n, 8, 4⟩
abbrev DRV_n_STAT_HOLD (n : Nat) : Fld := ⟨0x400A0040 + 0x40 * n, 7, 1⟩
abbrev DRV_n_STAT_REF_RANK (n : Nat) : Fld := ⟨0x400A0040 + 0x40 * n, 5, 2⟩
abbrev DRV_n_STAT_BELLWETHER (n : Nat) : Fld := ⟨0x400A0040 + 0x40 * n, 4, 1⟩
abbrev DRV_n_STAT_STATE (n : Nat) : Fld := ⟨0x400A0040 + 0x40 * n, 0, 3⟩

/-! DRV_n_CYC (Table 15-7) -/
abbrev DRV_n_CYC_BW_NODE (n : Nat) : Fld := ⟨0x400A0044 + 0x40 * n, 16, 5⟩
abbrev DRV_n_CYC_CYC (n : Nat) : Fld := ⟨0x400A0044 + 0x40 * n, 0, 16⟩

/-! DRV_n_CORR (Table 15-7) -/
abbrev DRV_n_CORR_D (n : Nat) : Fld := ⟨0x400A0048 + 0x40 * n, 0, 32⟩

/-! DRV_n_RATE (Table 15-7) -/
abbrev DRV_n_RATE_PPM (n : Nat) : Fld := ⟨0x400A004C + 0x40 * n, 0, 32⟩

/-! DRV_n_MEMB (Table 15-7) -/
abbrev DRV_n_MEMB_MEMB (n : Nat) : Fld := ⟨0x400A0050 + 0x40 * n, 0, 32⟩

/-! DRV_n_TIMEERR (Table 15-7) -/
abbrev DRV_n_TIMEERR_UNSCHED (n : Nat) : Fld := ⟨0x400A0054 + 0x40 * n, 22, 10⟩
abbrev DRV_n_TIMEERR_LATE (n : Nat) : Fld := ⟨0x400A0054 + 0x40 * n, 11, 11⟩
abbrev DRV_n_TIMEERR_EARLY (n : Nat) : Fld := ⟨0x400A0054 + 0x40 * n, 0, 11⟩

/-! DRV_n_FRAMEERR (Table 15-7) -/
abbrev DRV_n_FRAMEERR_HEADER (n : Nat) : Fld := ⟨0x400A0058 + 0x40 * n, 22, 10⟩
abbrev DRV_n_FRAMEERR_CRC (n : Nat) : Fld := ⟨0x400A0058 + 0x40 * n, 11, 11⟩
abbrev DRV_n_FRAMEERR_CODING (n : Nat) : Fld := ⟨0x400A0058 + 0x40 * n, 0, 11⟩

/-! DRV_n_CROOK (Table 15-7) -/
abbrev DRV_n_CROOK_CORR_OVER (n : Nat) : Fld := ⟨0x400A005C + 0x40 * n, 16, 16⟩
abbrev DRV_n_CROOK_COLL (n : Nat) : Fld := ⟨0x400A005C + 0x40 * n, 8, 8⟩
abbrev DRV_n_CROOK_BLOCKS (n : Nat) : Fld := ⟨0x400A005C + 0x40 * n, 0, 8⟩

/-! DRV_n_LASTERR (Table 15-7) -/
abbrev DRV_n_LASTERR_SLOT (n : Nat) : Fld := ⟨0x400A0060 + 0x40 * n, 16, 6⟩
abbrev DRV_n_LASTERR_CYC (n : Nat) : Fld := ⟨0x400A0060 + 0x40 * n, 8, 8⟩
abbrev DRV_n_LASTERR_CHECK (n : Nat) : Fld := ⟨0x400A0060 + 0x40 * n, 0, 3⟩

/-! FLK_CFG (Table 16-7) -/
abbrev FLK_CFG_EN : Fld := ⟨0x400B0000, 31, 1⟩
abbrev FLK_CFG_CTRL : Fld := ⟨0x400B0000, 8, 1⟩
abbrev FLK_CFG_LOSS_N : Fld := ⟨0x400B0000, 0, 4⟩

/-! FLK_RTO (Table 16-7) -/
abbrev FLK_RTO_US : Fld := ⟨0x400B0004, 0, 16⟩

/-! FLK_PER (Table 16-7) -/
abbrev FLK_PER_SCAN : Fld := ⟨0x400B0008, 16, 16⟩
abbrev FLK_PER_SUP : Fld := ⟨0x400B0008, 0, 16⟩

/-! FLK_STAT (Table 16-7) -/
abbrev FLK_STAT_INSERV : Fld := ⟨0x400B000C, 16, 16⟩
abbrev FLK_STAT_LATE_RSP : Fld := ⟨0x400B000C, 8, 8⟩
abbrev FLK_STAT_UNADDR : Fld := ⟨0x400B000C, 3, 1⟩
abbrev FLK_STAT_RING_UP : Fld := ⟨0x400B000C, 2, 1⟩
abbrev FLK_STAT_FWD : Fld := ⟨0x400B000C, 1, 1⟩
abbrev FLK_STAT_LOADING : Fld := ⟨0x400B000C, 0, 1⟩

/-! FLK_EVT (Table 16-7) -/
abbrev FLK_EVT_ABORT_LATE : Fld := ⟨0x400B0010, 10, 1⟩
abbrev FLK_EVT_SEM_EXPIRED : Fld := ⟨0x400B0010, 9, 1⟩
abbrev FLK_EVT_CRC_ERR : Fld := ⟨0x400B0010, 8, 1⟩
abbrev FLK_EVT_UNKNOWN_UID : Fld := ⟨0x400B0010, 7, 1⟩
abbrev FLK_EVT_IDENT_FAULT : Fld := ⟨0x400B0010, 6, 1⟩
abbrev FLK_EVT_LOAD_FAIL : Fld := ⟨0x400B0010, 5, 1⟩
abbrev FLK_EVT_LEL_OVF : Fld := ⟨0x400B0010, 4, 1⟩
abbrev FLK_EVT_LATE_ERR : Fld := ⟨0x400B0010, 3, 1⟩
abbrev FLK_EVT_STATION_BACK : Fld := ⟨0x400B0010, 2, 1⟩
abbrev FLK_EVT_STATION_LOST : Fld := ⟨0x400B0010, 1, 1⟩
abbrev FLK_EVT_RING_DOWN : Fld := ⟨0x400B0010, 0, 1⟩

/-! FLK_LDCMD (Table 16-7) -/
abbrev FLK_LDCMD_KEY : Fld := ⟨0x400B0014, 24, 8⟩
abbrev FLK_LDCMD_ACTION : Fld := ⟨0x400B0014, 8, 2⟩
abbrev FLK_LDCMD_STATION : Fld := ⟨0x400B0014, 0, 4⟩

/-! FLK_LDSTAT (Table 16-7) -/
abbrev FLK_LDSTAT_RESULT : Fld := ⟨0x400B0018, 28, 4⟩
abbrev FLK_LDSTAT_STATION : Fld := ⟨0x400B0018, 16, 4⟩
abbrev FLK_LDSTAT_PROGRESS : Fld := ⟨0x400B0018, 0, 11⟩

/-! FLK_DEGCLR (Table 16-7) -/
abbrev FLK_DEGCLR_CLR : Fld := ⟨0x400B001C, 0, 16⟩

/-! FLK_LELSTAT (Table 16-7) -/
abbrev FLK_LELSTAT_OVF : Fld := ⟨0x400B0020, 16, 16⟩
abbrev FLK_LELSTAT_FILL : Fld := ⟨0x400B0020, 0, 6⟩

/-! FLK_LEL_A (Table 16-7) -/
abbrev FLK_LEL_A_SEQ : Fld := ⟨0x400B0024, 16, 16⟩
abbrev FLK_LEL_A_STATION : Fld := ⟨0x400B0024, 12, 4⟩
abbrev FLK_LEL_A_CODE : Fld := ⟨0x400B0024, 9, 3⟩

/-! FLK_LEL_B (Table 16-7) -/
abbrev FLK_LEL_B_CYC : Fld := ⟨0x400B0028, 24, 8⟩
abbrev FLK_LEL_B_ADDR : Fld := ⟨0x400B0028, 0, 24⟩

/-! FLK_LELPOP (Table 16-7) -/
abbrev FLK_LELPOP_POP : Fld := ⟨0x400B002C, 0, 1⟩

/-! FLK_ST_k (Table 16-7) -/
abbrev FLK_ST_k_STATE (n : Nat) : Fld := ⟨0x400B0040 + 0x4 * n, 28, 4⟩
abbrev FLK_ST_k_DEGRADED (n : Nat) : Fld := ⟨0x400B0040 + 0x4 * n, 27, 1⟩
abbrev FLK_ST_k_SAFE (n : Nat) : Fld := ⟨0x400B0040 + 0x4 * n, 26, 1⟩
abbrev FLK_ST_k_STATION_ERR (n : Nat) : Fld := ⟨0x400B0040 + 0x4 * n, 24, 1⟩
abbrev FLK_ST_k_LATE (n : Nat) : Fld := ⟨0x400B0040 + 0x4 * n, 16, 8⟩
abbrev FLK_ST_k_LOSSES (n : Nat) : Fld := ⟨0x400B0040 + 0x4 * n, 8, 8⟩
abbrev FLK_ST_k_RELOADS (n : Nat) : Fld := ⟨0x400B0040 + 0x4 * n, 0, 8⟩

/-! FLK_SEM_n (Table 16-7) -/
abbrev FLK_SEM_n_HOLDER (n : Nat) : Fld := ⟨0x400B0080 + 0x4 * n, 30, 2⟩
abbrev FLK_SEM_n_HELD (n : Nat) : Fld := ⟨0x400B0080 + 0x4 * n, 0, 1⟩

/-! FLK_SEMCFG_n (Table 16-7) -/
abbrev FLK_SEMCFG_n_EN (n : Nat) : Fld := ⟨0x400B00C0 + 0x4 * n, 31, 1⟩
abbrev FLK_SEMCFG_n_STATION (n : Nat) : Fld := ⟨0x400B00C0 + 0x4 * n, 24, 4⟩
abbrev FLK_SEMCFG_n_LIMIT (n : Nat) : Fld := ⟨0x400B00C0 + 0x4 * n, 12, 12⟩
abbrev FLK_SEMCFG_n_BASE (n : Nat) : Fld := ⟨0x400B00C0 + 0x4 * n, 0, 12⟩

/-! PAIR_CFG (Table 17-7) -/
abbrev PAIR_CFG_EN : Fld := ⟨0x400C0000, 31, 1⟩
abbrev PAIR_CFG_HB_MISS : Fld := ⟨0x400C0000, 16, 4⟩
abbrev PAIR_CFG_BASE : Fld := ⟨0x400C0000, 8, 7⟩
abbrev PAIR_CFG_ETH_EN : Fld := ⟨0x400C0000, 2, 1⟩
abbrev PAIR_CFG_REVERT : Fld := ⟨0x400C0000, 1, 1⟩
abbrev PAIR_CFG_UNIT : Fld := ⟨0x400C0000, 0, 1⟩

/-! PAIR_TIME (Table 17-7) -/
abbrev PAIR_TIME_HOLD : Fld := ⟨0x400C0004, 16, 16⟩
abbrev PAIR_TIME_HB_PER : Fld := ⟨0x400C0004, 0, 7⟩

/-! PAIR_ID (Table 17-7) -/
abbrev PAIR_ID_ID : Fld := ⟨0x400C0008, 0, 32⟩

/-! PAIR_SESS (Table 17-7) -/
abbrev PAIR_SESS_SUB : Fld := ⟨0x400C000C, 16, 9⟩
abbrev PAIR_SESS_PUB : Fld := ⟨0x400C000C, 0, 9⟩

/-! PAIR_STAT (Table 17-7) -/
abbrev PAIR_STAT_CLAIM : Fld := ⟨0x400C0010, 16, 16⟩
abbrev PAIR_STAT_HEARD_ETH : Fld := ⟨0x400C0010, 3, 1⟩
abbrev PAIR_STAT_HEARD_LINK : Fld := ⟨0x400C0010, 2, 1⟩
abbrev PAIR_STAT_PENDING : Fld := ⟨0x400C0010, 1, 1⟩
abbrev PAIR_STAT_MASTER : Fld := ⟨0x400C0010, 0, 1⟩

/-! PAIR_EVT (Table 17-7) -/
abbrev PAIR_EVT_UNIT_CLASH : Fld := ⟨0x400C0014, 5, 1⟩
abbrev PAIR_EVT_PATH_DIFF : Fld := ⟨0x400C0014, 4, 1⟩
abbrev PAIR_EVT_PATH_LOSS : Fld := ⟨0x400C0014, 3, 1⟩
abbrev PAIR_EVT_PARTNER_LOST : Fld := ⟨0x400C0014, 2, 1⟩
abbrev PAIR_EVT_RELEASE : Fld := ⟨0x400C0014, 1, 1⟩
abbrev PAIR_EVT_TAKEOVER : Fld := ⟨0x400C0014, 0, 1⟩

/-! PAIR_CNT (Table 17-7) -/
abbrev PAIR_CNT_CHANGES : Fld := ⟨0x400C0018, 16, 16⟩
abbrev PAIR_CNT_LINK_ERR : Fld := ⟨0x400C0018, 0, 16⟩

/-! PAIR_STEST (Table 17-7) -/
abbrev PAIR_STEST_PER : Fld := ⟨0x400C001C, 0, 16⟩

/-! REC_STAT (Table 19-9) -/
abbrev REC_STAT_LASTSEQ : Fld := ⟨0x400D0000, 16, 16⟩
abbrev REC_STAT_WRITING : Fld := ⟨0x400D0000, 15, 1⟩
abbrev REC_STAT_RESTORED : Fld := ⟨0x400D0000, 14, 1⟩
abbrev REC_STAT_NEXT : Fld := ⟨0x400D0000, 0, 9⟩

/-! REC_EVT (Table 19-9) -/
abbrev REC_EVT_ERASED : Fld := ⟨0x400D0004, 4, 1⟩
abbrev REC_EVT_HIST_SAT : Fld := ⟨0x400D0004, 3, 1⟩
abbrev REC_EVT_SKIPPED_PLACE : Fld := ⟨0x400D0004, 2, 1⟩
abbrev REC_EVT_WRITE_FAIL : Fld := ⟨0x400D0004, 1, 1⟩
abbrev REC_EVT_FULL : Fld := ⟨0x400D0004, 0, 1⟩

/-! REC_CFG (Table 19-9) -/
abbrev REC_CFG_EN : Fld := ⟨0x400D0008, 31, 1⟩
abbrev REC_CFG_RESTORE : Fld := ⟨0x400D0008, 30, 1⟩
abbrev REC_CFG_SAFESNAP : Fld := ⟨0x400D0008, 29, 1⟩
abbrev REC_CFG_PERIOD : Fld := ⟨0x400D0008, 0, 16⟩

/-! REC_CMD (Table 19-9) -/
abbrev REC_CMD_KEY : Fld := ⟨0x400D000C, 24, 8⟩
abbrev REC_CMD_ERASE : Fld := ⟨0x400D000C, 1, 1⟩
abbrev REC_CMD_SNAP : Fld := ⟨0x400D000C, 0, 1⟩

/-! REC_FULL (Table 19-9) -/
abbrev REC_FULL_FULL : Fld := ⟨0x400D0010, 31, 1⟩
abbrev REC_FULL_MISSED : Fld := ⟨0x400D0010, 0, 16⟩

/-! REC_HIST_h_i (Table 19-9) -/
abbrev REC_HIST_h_i_VAL (n i : Nat) : Fld := ⟨0x400D1000 + 0x100 * n + 0x4 * i, 0, 32⟩

/-! REC_LATE_i (Table 19-9) -/
abbrev REC_LATE_i_VAL (n : Nat) : Fld := ⟨0x400D1400 + 0x4 * n, 0, 32⟩

/-! REC_EXT_e (Table 19-9) -/
abbrev REC_EXT_e_VAL (n : Nat) : Fld := ⟨0x400D1440 + 0x4 * n, 0, 32⟩

/-! REC_CNT_c (Table 19-9) -/
abbrev REC_CNT_c_VAL (n : Nat) : Fld := ⟨0x400D1500 + 0x4 * n, 0, 32⟩

/-! SAF_STAT (Table 18-10) -/
abbrev SAF_STAT_VSC_STOP : Fld := ⟨0x400E0000, 3, 1⟩
abbrev SAF_STAT_RECORD : Fld := ⟨0x400E0000, 2, 1⟩
abbrev SAF_STAT_UNITS_AGREE : Fld := ⟨0x400E0000, 1, 1⟩
abbrev SAF_STAT_MATCH : Fld := ⟨0x400E0000, 0, 1⟩

/-! SAF_EVT (Table 18-10) -/
abbrev SAF_EVT_SHADOW_MISMATCH : Fld := ⟨0x400E0004, 2, 1⟩
abbrev SAF_EVT_CHK_DIFF : Fld := ⟨0x400E0004, 1, 1⟩
abbrev SAF_EVT_VSC_STOP : Fld := ⟨0x400E0004, 0, 1⟩

/-! SAF_CHECKVAL (Table 18-10) -/
abbrev SAF_CHECKVAL_VAL : Fld := ⟨0x400E0008, 0, 32⟩

/-! SAF_CONFVAL (Table 18-10) -/
abbrev SAF_CONFVAL_VAL : Fld := ⟨0x400E000C, 0, 32⟩

/-! SAF_FUNC (Table 18-10) -/
abbrev SAF_FUNC_VSC_TX : Fld := ⟨0x400E0010, 4, 1⟩
abbrev SAF_FUNC_VSC_RX : Fld := ⟨0x400E0010, 3, 1⟩
abbrev SAF_FUNC_SAFEOUT : Fld := ⟨0x400E0010, 2, 1⟩
abbrev SAF_FUNC_TRIP : Fld := ⟨0x400E0010, 1, 1⟩
abbrev SAF_FUNC_LOOP : Fld := ⟨0x400E0010, 0, 1⟩

/-! SAF_SAFEOUT (Table 18-10) -/
abbrev SAF_SAFEOUT_OUT : Fld := ⟨0x400E0014, 0, 16⟩

/-! SAF_VSCINT (Table 18-10) -/
abbrev SAF_VSCINT_TOTAL : Fld := ⟨0x400E0018, 16, 16⟩
abbrev SAF_VSCINT_INWIN : Fld := ⟨0x400E0018, 0, 2⟩

/-! SAF_SHCHECKVAL (Table 18-10) -/
abbrev SAF_SHCHECKVAL_VAL : Fld := ⟨0x400E001C, 0, 32⟩

/-! SAF_BLCFG (Table 11-8) -/
abbrev SAF_BLCFG_INTERVAL : Fld := ⟨0x400E0100, 8, 16⟩
abbrev SAF_BLCFG_PULSE : Fld := ⟨0x400E0100, 0, 8⟩

/-! SAF_BLSTAT (Table 11-8) -/
abbrev SAF_BLSTAT_FAULT : Fld := ⟨0x400E0104, 8, 4⟩
abbrev SAF_BLSTAT_EXT_OPEN : Fld := ⟨0x400E0104, 5, 1⟩
abbrev SAF_BLSTAT_TRIP : Fld := ⟨0x400E0104, 4, 1⟩
abbrev SAF_BLSTAT_DEMAND_MET : Fld := ⟨0x400E0104, 3, 1⟩
abbrev SAF_BLSTAT_STATE : Fld := ⟨0x400E0104, 0, 3⟩

/-! SAF_DTMASK (Table 11-8) -/
abbrev SAF_DTMASK_MASK : Fld := ⟨0x400E0108, 0, 32⟩

/-! SAF_DTLEVEL (Table 11-8) -/
abbrev SAF_DTLEVEL_LEVEL : Fld := ⟨0x400E010C, 0, 32⟩

/-! SAF_DTSTAT (Table 11-8) -/
abbrev SAF_DTSTAT_LATCHED : Fld := ⟨0x400E0110, 31, 1⟩
abbrev SAF_DTSTAT_FIRST : Fld := ⟨0x400E0110, 0, 5⟩

/-! UPD_STAT (Table 19-7) -/
abbrev UPD_STAT_STATE : Fld := ⟨0x400F0000, 28, 4⟩
abbrev UPD_STAT_RESULT : Fld := ⟨0x400F0000, 24, 4⟩
abbrev UPD_STAT_SLOT : Fld := ⟨0x400F0000, 16, 1⟩
abbrev UPD_STAT_RESTART_NEEDED : Fld := ⟨0x400F0000, 15, 1⟩
abbrev UPD_STAT_HELD_HDR : Fld := ⟨0x400F0000, 14, 1⟩

/-! UPD_EVT (Table 19-7) -/
abbrev UPD_EVT_SET_FULL : Fld := ⟨0x400F0004, 7, 1⟩
abbrev UPD_EVT_SET_COMPACT : Fld := ⟨0x400F0004, 6, 1⟩
abbrev UPD_EVT_FLASH_FAIL : Fld := ⟨0x400F0004, 5, 1⟩
abbrev UPD_EVT_ABORT_LATE : Fld := ⟨0x400F0004, 4, 1⟩
abbrev UPD_EVT_VERIFY_FAIL : Fld := ⟨0x400F0004, 3, 1⟩
abbrev UPD_EVT_ACT_FAIL : Fld := ⟨0x400F0004, 2, 1⟩
abbrev UPD_EVT_ACT_LATE : Fld := ⟨0x400F0004, 1, 1⟩
abbrev UPD_EVT_ACT_DONE : Fld := ⟨0x400F0004, 0, 1⟩

/-! UPD_CMD (Table 19-7) -/
abbrev UPD_CMD_KEY : Fld := ⟨0x400F0008, 24, 8⟩
abbrev UPD_CMD_HOLD : Fld := ⟨0x400F0008, 16, 1⟩
abbrev UPD_CMD_SLOT : Fld := ⟨0x400F0008, 8, 1⟩
abbrev UPD_CMD_ACTION : Fld := ⟨0x400F0008, 0, 4⟩

/-! UPD_ARG_OFS (Table 19-7) -/
abbrev UPD_ARG_OFS_OFS : Fld := ⟨0x400F000C, 0, 32⟩

/-! UPD_ARG_SRC (Table 19-7) -/
abbrev UPD_ARG_SRC_SRC : Fld := ⟨0x400F0010, 0, 32⟩

/-! UPD_ARG_LEN (Table 19-7) -/
abbrev UPD_ARG_LEN_LEN : Fld := ⟨0x400F0014, 0, 13⟩

/-! UPD_ACTTIME_LO (Table 19-7) -/
abbrev UPD_ACTTIME_LO_NS : Fld := ⟨0x400F0018, 0, 32⟩

/-! UPD_ACTTIME_HI (Table 19-7) -/
abbrev UPD_ACTTIME_HI_NS : Fld := ⟨0x400F001C, 0, 32⟩

/-! UPD_ACTWIN (Table 19-7) -/
abbrev UPD_ACTWIN_MS : Fld := ⟨0x400F0020, 0, 16⟩

/-! UPD_PROG (Table 19-7) -/
abbrev UPD_PROG_BYTES : Fld := ⟨0x400F0024, 0, 32⟩

/-! UPD_SETSTAT (Table 19-7) -/
abbrev UPD_SETSTAT_FORMAT : Fld := ⟨0x400F0028, 16, 16⟩
abbrev UPD_SETSTAT_FILL : Fld := ⟨0x400F0028, 8, 8⟩
abbrev UPD_SETSTAT_PROT : Fld := ⟨0x400F0028, 2, 2⟩
abbrev UPD_SETSTAT_OWN : Fld := ⟨0x400F0028, 1, 1⟩
abbrev UPD_SETSTAT_VALID : Fld := ⟨0x400F0028, 0, 1⟩

/-! ### The field tables -/


/-- The registers of unit SYS, from Tables 02-6, 04-10, 04-11, 04-12, 04-13, 04-7, 04-8, 04-9. -/
def regsSys : List RegD := [
  ⟨"SYS_DEVID", 0x40000000, 1, 0x0, 1, 0x0,
    [⟨0, 8, .ro, 0x0, .value⟩, ⟨8, 4, .ro, 0x0, .value⟩, ⟨12, 4, .ro, 0x2, .value⟩,
     ⟨16, 16, .ro, 0xD09, .value⟩]⟩,
  ⟨"SYS_RSTCAUSE", 0x40000004, 1, 0x0, 1, 0x0,
    [⟨0, 1, .ro, 0x0, .kept⟩, ⟨1, 1, .ro, 0x0, .kept⟩, ⟨2, 1, .ro, 0x0, .kept⟩,
     ⟨3, 1, .ro, 0x0, .kept⟩, ⟨4, 1, .ro, 0x0, .kept⟩, ⟨5, 1, .ro, 0x0, .kept⟩,
     ⟨6, 1, .ro, 0x0, .kept⟩, ⟨7, 1, .ro, 0x0, .kept⟩, ⟨8, 1, .ro, 0x0, .kept⟩,
     ⟨9, 3, .ro, 0x0, .value⟩, ⟨12, 2, .ro, 0x0, .kept⟩, ⟨14, 2, .ro, 0x0, .value⟩,
     ⟨16, 4, .ro, 0x0, .kept⟩, ⟨20, 4, .ro, 0x0, .value⟩, ⟨24, 8, .ro, 0x0, .kept⟩]⟩,
  ⟨"SYS_RSTCNT", 0x40000008, 1, 0x0, 1, 0x0,
    [⟨0, 32, .ro, 0x0, .kept⟩]⟩,
  ⟨"SYS_RSTSTAT", 0x4000000C, 1, 0x0, 1, 0x0,
    [⟨0, 1, .ro, 0x0, .cold⟩, ⟨1, 1, .ro, 0x0, .cold⟩, ⟨2, 2, .ro, 0x0, .cold⟩,
     ⟨4, 1, .w1c, 0x0, .kept⟩, ⟨5, 27, .ro, 0x0, .value⟩]⟩,
  ⟨"SYS_RSTCFG", 0x40000010, 1, 0x0, 1, 0x0,
    [⟨0, 1, .rwl, 0x0, .cfg⟩, ⟨1, 1, .rwl, 0x0, .cfg⟩, ⟨2, 30, .ro, 0x0, .value⟩]⟩,
  ⟨"SYS_SWRST", 0x40000014, 1, 0x0, 1, 0x0,
    [⟨0, 8, .wo, 0x0, .value⟩, ⟨8, 8, .wo, 0x0, .value⟩, ⟨16, 2, .wo, 0x0, .value⟩,
     ⟨18, 6, .wo, 0x0, .value⟩, ⟨24, 8, .wo, 0x0, .value⟩]⟩,
  ⟨"SYS_LRST", 0x40000018, 1, 0x0, 1, 0x0,
    [⟨0, 8, .ro, 0xFF, .value⟩, ⟨8, 8, .ro, 0x0, .value⟩, ⟨16, 2, .ro, 0x0, .value⟩,
     ⟨18, 2, .ro, 0x0, .value⟩, ⟨20, 12, .ro, 0x0, .value⟩]⟩,
  ⟨"SYS_PINSTAT", 0x40000080, 1, 0x0, 1, 0x0,
    [⟨0, 6, .ro, 0x0, .value⟩, ⟨6, 2, .ro, 0x0, .value⟩, ⟨8, 1, .ro, 0x0, .value⟩,
     ⟨9, 1, .ro, 0x0, .value⟩, ⟨10, 1, .ro, 0x0, .value⟩, ⟨11, 1, .ro, 0x0, .value⟩,
     ⟨12, 20, .ro, 0x0, .value⟩]⟩]

/-- The registers of unit PWR, from Tables 03-5, 03-6, 03-7, 03-8, 03-9. -/
def regsPwr : List RegD := [
  ⟨"PWR_PSTAT", 0x40000100, 1, 0x0, 1, 0x0,
    [⟨0, 24, .ro, 0xA, .value⟩, ⟨24, 8, .ro, 0x0, .value⟩]⟩,
  ⟨"PWR_REQ", 0x40000104, 1, 0x0, 1, 0x0,
    [⟨0, 2, .ro, 0x0, .value⟩, ⟨2, 4, .rw, 0x0, .value⟩, ⟨6, 1, .ro, 0x0, .value⟩,
     ⟨7, 5, .rw, 0x0, .value⟩, ⟨12, 20, .ro, 0x0, .value⟩]⟩,
  ⟨"PWR_MON", 0x40000108, 1, 0x0, 1, 0x0,
    [⟨0, 8, .ro, 0x0, .value⟩, ⟨8, 1, .ro, 0x0, .value⟩, ⟨9, 7, .ro, 0x0, .value⟩,
     ⟨16, 8, .ro, 0x0, .value⟩, ⟨24, 8, .ro, 0x0, .value⟩]⟩,
  ⟨"PWR_EVT", 0x4000010C, 1, 0x0, 1, 0x0,
    [⟨0, 1, .w1c, 0x0, .value⟩, ⟨1, 1, .w1c, 0x0, .value⟩, ⟨2, 1, .w1c, 0x0, .value⟩,
     ⟨3, 1, .w1c, 0x0, .value⟩, ⟨4, 1, .w1c, 0x0, .value⟩, ⟨5, 1, .w1c, 0x0, .value⟩,
     ⟨6, 1, .w1c, 0x0, .value⟩, ⟨7, 1, .w1c, 0x0, .value⟩, ⟨8, 1, .w1c, 0x0, .value⟩,
     ⟨9, 23, .ro, 0x0, .value⟩]⟩,
  ⟨"PWR_BKSTAT", 0x40000110, 1, 0x0, 1, 0x0,
    [⟨0, 1, .w1c, 0x0, .kept⟩, ⟨1, 1, .ro, 0x0, .value⟩, ⟨2, 30, .ro, 0x0, .value⟩]⟩]

/-- The registers of unit CLK, from Tables 05-10, 05-11, 05-12, 05-13, 05-14, 05-6, 05-7, 05-8, 05-9. -/
def regsClk : List RegD := [
  ⟨"CLK_STAT", 0x40000200, 1, 0x0, 1, 0x0,
    [⟨0, 2, .ro, 0x0, .value⟩, ⟨2, 1, .ro, 0x0, .value⟩, ⟨3, 1, .ro, 0x0, .value⟩,
     ⟨4, 1, .ro, 0x0, .value⟩, ⟨5, 1, .ro, 0x0, .value⟩, ⟨6, 1, .ro, 0x0, .value⟩,
     ⟨7, 1, .ro, 0x0, .value⟩, ⟨8, 2, .ro, 0x0, .value⟩, ⟨10, 2, .ro, 0x0, .value⟩,
     ⟨12, 20, .ro, 0x0, .value⟩]⟩,
  ⟨"CLK_EVT", 0x40000204, 1, 0x0, 1, 0x0,
    [⟨0, 1, .w1c, 0x0, .value⟩, ⟨1, 1, .w1c, 0x0, .value⟩, ⟨2, 1, .w1c, 0x0, .value⟩,
     ⟨3, 1, .w1c, 0x0, .value⟩, ⟨4, 1, .w1c, 0x0, .value⟩, ⟨5, 1, .w1c, 0x0, .value⟩,
     ⟨6, 1, .w1c, 0x0, .value⟩, ⟨7, 25, .ro, 0x0, .value⟩]⟩,
  ⟨"CLK_FCAUSE", 0x40000208, 1, 0x0, 1, 0x0,
    [⟨0, 4, .ro, 0x0, .kept⟩, ⟨4, 28, .ro, 0x0, .value⟩]⟩,
  ⟨"CLK_DISC", 0x4000020C, 1, 0x0, 1, 0x0,
    [⟨0, 10, .rwl, 0x0, .cfg⟩, ⟨10, 2, .ro, 0x0, .value⟩, ⟨12, 2, .rwl, 0x0, .cfg⟩,
     ⟨14, 2, .rwl, 0x0, .cfg⟩, ⟨16, 16, .ro, 0x0, .value⟩]⟩,
  ⟨"CLK_TRIM", 0x40000210, 1, 0x0, 1, 0x0,
    [⟨0, 16, .ro, 0x0, .value⟩, ⟨16, 16, .ro, 0x0, .value⟩]⟩,
  ⟨"CLK_GATE", 0x40000214, 1, 0x0, 1, 0x0,
    [⟨0, 8, .wo, 0x0, .value⟩, ⟨8, 1, .wo, 0x0, .value⟩, ⟨9, 23, .wo, 0x0, .value⟩]⟩,
  ⟨"CLK_GSTAT", 0x40000218, 1, 0x0, 1, 0x0,
    [⟨0, 8, .ro, 0x0, .value⟩, ⟨8, 2, .ro, 0x0, .value⟩, ⟨10, 21, .ro, 0x0, .value⟩,
     ⟨31, 1, .ro, 0x0, .value⟩]⟩,
  ⟨"CLK_GMAP", 0x4000021C, 1, 0x0, 1, 0x0,
    [⟨0, 18, .ro, 0x3FFFF, .value⟩, ⟨18, 6, .ro, 0x0, .value⟩, ⟨24, 1, .ro, 0x1, .value⟩,
     ⟨25, 1, .ro, 0x1, .value⟩, ⟨26, 6, .ro, 0x0, .value⟩]⟩,
  ⟨"CLK_OUTCFG", 0x40000220, 1, 0x0, 1, 0x0,
    [⟨0, 2, .rw, 0x0, .value⟩, ⟨2, 6, .ro, 0x0, .value⟩, ⟨8, 8, .rw, 0x0, .value⟩,
     ⟨16, 1, .rw, 0x0, .value⟩, ⟨17, 7, .ro, 0x0, .value⟩, ⟨24, 8, .rw, 0x64, .value⟩]⟩]

/-- The registers of unit TRI, from Tables 08-10, 08-11, 08-12, 08-13, 08-14, 08-15, 08-16, 08-17, 08-18, 08-19, 08-9. -/
def regsTri : List RegD := [
  ⟨"TRI_MODE", 0x40010000, 1, 0x0, 1, 0x0,
    [⟨0, 2, .ro, 0x0, .value⟩, ⟨2, 6, .ro, 0x0, .value⟩, ⟨8, 2, .rwl, 0x0, .cfg⟩,
     ⟨10, 6, .ro, 0x0, .value⟩, ⟨16, 2, .ro, 0x0, .value⟩, ⟨18, 2, .ro, 0x0, .value⟩,
     ⟨20, 4, .ro, 0x0, .value⟩, ⟨24, 8, .ro, 0x0, .value⟩]⟩,
  ⟨"TRI_STAT", 0x40010004, 1, 0x0, 1, 0x0,
    [⟨0, 2, .ro, 0x0, .value⟩, ⟨2, 2, .ro, 0x1, .value⟩, ⟨4, 2, .ro, 0x2, .value⟩,
     ⟨6, 2, .ro, 0x0, .value⟩, ⟨8, 2, .ro, 0x0, .value⟩, ⟨10, 2, .ro, 0x0, .value⟩,
     ⟨12, 2, .ro, 0x0, .value⟩, ⟨14, 2, .ro, 0x0, .value⟩, ⟨16, 4, .ro, 0x0, .value⟩,
     ⟨20, 4, .ro, 0x0, .value⟩, ⟨24, 8, .ro, 0x0, .value⟩]⟩,
  ⟨"TRI_EVT", 0x40010008, 1, 0x0, 1, 0x0,
    [⟨0, 1, .w1c, 0x0, .value⟩, ⟨1, 1, .w1c, 0x0, .value⟩, ⟨2, 1, .w1c, 0x0, .value⟩,
     ⟨3, 1, .w1c, 0x0, .value⟩, ⟨4, 1, .w1c, 0x0, .value⟩, ⟨5, 1, .w1c, 0x0, .value⟩,
     ⟨6, 1, .w1c, 0x0, .value⟩, ⟨7, 1, .w1c, 0x0, .value⟩, ⟨8, 1, .w1c, 0x0, .value⟩,
     ⟨9, 23, .ro, 0x0, .value⟩]⟩,
  ⟨"TRI_STRAYLOG", 0x4001000C, 1, 0x0, 1, 0x0,
    [⟨0, 8, .ro, 0x0, .value⟩, ⟨8, 8, .ro, 0x0, .value⟩, ⟨16, 4, .ro, 0x0, .value⟩,
     ⟨20, 4, .ro, 0x0, .value⟩, ⟨24, 2, .ro, 0x0, .value⟩, ⟨26, 2, .ro, 0x0, .value⟩,
     ⟨28, 3, .ro, 0x0, .value⟩, ⟨31, 1, .ro, 0x0, .value⟩]⟩,
  ⟨"TRI_STRAYCYC", 0x40010010, 1, 0x0, 1, 0x0,
    [⟨0, 32, .ro, 0x0, .value⟩]⟩,
  ⟨"TRI_STRAYCNT", 0x40010014, 1, 0x0, 1, 0x0,
    [⟨0, 8, .ro, 0x0, .value⟩, ⟨8, 8, .ro, 0x0, .value⟩, ⟨16, 8, .ro, 0x0, .value⟩,
     ⟨24, 8, .ro, 0x0, .value⟩]⟩,
  ⟨"TRI_RETIRE", 0x40010018, 1, 0x0, 1, 0x0,
    [⟨0, 4, .rwl, 0x0, .cfg⟩, ⟨4, 12, .ro, 0x0, .value⟩, ⟨16, 16, .rwl, 0x0, .cfg⟩]⟩,
  ⟨"TRI_LATENT", 0x4001001C, 1, 0x0, 1, 0x0,
    [⟨0, 6, .ro, 0x0, .value⟩, ⟨6, 6, .ro, 0x0, .value⟩, ⟨12, 2, .ro, 0x0, .value⟩,
     ⟨14, 2, .ro, 0x0, .value⟩, ⟨16, 16, .ro, 0x0, .value⟩]⟩,
  ⟨"TRI_SURVEY", 0x40010020, 1, 0x0, 1, 0x0,
    [⟨0, 6, .ro, 0x0, .value⟩, ⟨6, 1, .ro, 0x0, .value⟩, ⟨7, 1, .ro, 0x0, .value⟩,
     ⟨8, 8, .ro, 0x0, .value⟩, ⟨16, 16, .ro, 0x0, .value⟩]⟩,
  ⟨"TRI_INJ", 0x40010024, 1, 0x0, 1, 0x0,
    [⟨0, 8, .ro, 0x0, .value⟩, ⟨8, 6, .ro, 0x0, .value⟩, ⟨14, 6, .ro, 0x3F, .value⟩,
     ⟨20, 6, .ro, 0x0, .value⟩, ⟨26, 6, .ro, 0x0, .value⟩]⟩,
  ⟨"TRI_VFLAST", 0x40010028, 1, 0x0, 1, 0x0,
    [⟨0, 16, .ro, 0x0, .cold⟩, ⟨16, 4, .ro, 0x0, .value⟩, ⟨20, 2, .ro, 0x0, .cold⟩,
     ⟨22, 2, .ro, 0x0, .cold⟩, ⟨24, 4, .ro, 0x0, .cold⟩, ⟨28, 3, .ro, 0x0, .value⟩,
     ⟨31, 1, .ro, 0x0, .cold⟩]⟩]

/-- The registers of unit CYC, from Tables 10-11, 10-12, 10-13, 10-14, 10-15, 10-16, 10-17, 10-18, 10-19. -/
def regsCyc : List RegD := [
  ⟨"CYC_LIMIT", 0x40010100, 1, 0x0, 1, 0x0,
    [⟨0, 20, .rwl, 0x0, .cfg⟩, ⟨20, 12, .ro, 0x0, .value⟩]⟩,
  ⟨"CYC_STAT", 0x40010104, 1, 0x0, 1, 0x0,
    [⟨0, 2, .ro, 0x0, .value⟩, ⟨2, 1, .ro, 0x0, .value⟩, ⟨3, 1, .ro, 0x0, .value⟩,
     ⟨4, 1, .ro, 0x0, .value⟩, ⟨5, 27, .ro, 0x0, .value⟩]⟩,
  ⟨"CYC_COUNT", 0x40010108, 1, 0x0, 1, 0x0,
    [⟨0, 32, .ro, 0x0, .value⟩]⟩,
  ⟨"CYC_COUNTH", 0x4001010C, 1, 0x0, 1, 0x0,
    [⟨0, 32, .ro, 0x0, .value⟩]⟩,
  ⟨"CYC_LAST", 0x40010110, 1, 0x0, 1, 0x0,
    [⟨0, 32, .ro, 0x0, .value⟩]⟩,
  ⟨"CYC_MAX", 0x40010114, 1, 0x0, 1, 0x0,
    [⟨0, 32, .ro, 0x0, .value⟩]⟩,
  ⟨"CYC_EVT", 0x40010118, 1, 0x0, 1, 0x0,
    [⟨0, 1, .w1c, 0x0, .value⟩, ⟨1, 1, .w1c, 0x0, .value⟩, ⟨2, 1, .w1c, 0x0, .value⟩,
     ⟨3, 1, .w1c, 0x0, .value⟩, ⟨4, 1, .w1c, 0x0, .value⟩, ⟨5, 1, .w1c, 0x0, .value⟩,
     ⟨6, 1, .w1c, 0x0, .value⟩, ⟨7, 25, .ro, 0x0, .value⟩]⟩,
  ⟨"CYC_SKIPS", 0x4001011C, 1, 0x0, 1, 0x0,
    [⟨0, 32, .ro, 0x0, .value⟩]⟩,
  ⟨"CYC_PHASES", 0x40010120, 1, 0x0, 1, 0x0,
    [⟨0, 16, .ro, 0x0, .value⟩, ⟨16, 16, .ro, 0x0, .value⟩]⟩,
  ⟨"CYC_XCFG", 0x40010124, 1, 0x0, 1, 0x0,
    [⟨0, 16, .rwl, 0x0, .cfg⟩, ⟨16, 16, .ro, 0x0, .value⟩]⟩,
  ⟨"CYC_XSTAT", 0x40010128, 1, 0x0, 1, 0x0,
    [⟨0, 12, .ro, 0x0, .value⟩, ⟨12, 11, .ro, 0x0, .value⟩, ⟨23, 1, .ro, 0x0, .value⟩,
     ⟨24, 8, .ro, 0x0, .value⟩]⟩]

/-- The registers of unit MEM, from Tables 06-10, 06-11, 06-12, 06-13, 06-6, 06-7, 06-8, 06-9. -/
def regsMem : List RegD := [
  ⟨"MEM_STAT", 0x40020000, 1, 0x0, 1, 0x0,
    [⟨0, 6, .ro, 0x0, .value⟩, ⟨6, 10, .ro, 0x0, .value⟩, ⟨16, 16, .ro, 0x0, .value⟩]⟩,
  ⟨"MEM_EVT", 0x40020004, 1, 0x0, 1, 0x0,
    [⟨0, 1, .w1c, 0x0, .value⟩, ⟨1, 1, .w1c, 0x0, .value⟩, ⟨2, 1, .w1c, 0x0, .value⟩,
     ⟨3, 1, .w1c, 0x0, .value⟩, ⟨4, 1, .w1c, 0x0, .value⟩, ⟨5, 1, .w1c, 0x0, .value⟩,
     ⟨6, 1, .w1c, 0x0, .value⟩, ⟨7, 1, .w1c, 0x0, .value⟩, ⟨8, 1, .w1c, 0x0, .value⟩,
     ⟨9, 1, .w1c, 0x0, .value⟩, ⟨10, 22, .ro, 0x0, .value⟩]⟩,
  ⟨"MEM_UEADDR", 0x40020008, 1, 0x0, 1, 0x0,
    [⟨0, 32, .ro, 0x0, .value⟩]⟩,
  ⟨"MEM_UEINFO", 0x4002000C, 1, 0x0, 1, 0x0,
    [⟨0, 3, .ro, 0x0, .value⟩, ⟨3, 5, .ro, 0x0, .value⟩, ⟨8, 4, .ro, 0x0, .value⟩,
     ⟨12, 4, .ro, 0x0, .value⟩, ⟨16, 16, .ro, 0x0, .value⟩]⟩,
  ⟨"MEM_HRB", 0x40020010, 1, 0x0, 1, 0x0,
    [⟨0, 3, .ro, 0x0, .value⟩, ⟨3, 13, .ro, 0x0, .value⟩, ⟨16, 16, .ro, 0x0, .value⟩]⟩,
  ⟨"MEM_BANK_n", 0x40020020, 6, 0x4, 1, 0x0,
    [⟨0, 4, .ro, 0x0, .value⟩, ⟨4, 4, .ro, 0x0, .value⟩, ⟨8, 8, .ro, 0x0, .value⟩,
     ⟨16, 16, .ro, 0x0, .value⟩]⟩,
  ⟨"MEM_RGN_n_BASE", 0x40020100, 32, 0x8, 1, 0x0,
    [⟨0, 1, .rwl, 0x0, .cfg⟩, ⟨1, 1, .rwl, 0x0, .cfg⟩, ⟨2, 1, .rwl, 0x0, .cfg⟩,
     ⟨3, 1, .rwl, 0x0, .cfg⟩, ⟨4, 8, .ro, 0x0, .value⟩, ⟨12, 20, .rwl, 0x0, .cfg⟩]⟩,
  ⟨"MEM_RGN_n_LIM", 0x40020104, 32, 0x8, 1, 0x0,
    [⟨0, 12, .ro, 0x0, .value⟩, ⟨12, 20, .rwl, 0x0, .cfg⟩]⟩]

/-- The registers of unit BOOT, from Tables 07-10, 07-11, 07-12, 07-13, 07-14, 07-15, 07-17, 07-9. -/
def regsBoot : List RegD := [
  ⟨"BOOT_STAT", 0x40030000, 1, 0x0, 1, 0x0,
    [⟨0, 6, .ro, 0x0, .value⟩, ⟨6, 2, .ro, 0x0, .value⟩, ⟨8, 4, .ro, 0x0, .value⟩,
     ⟨12, 4, .ro, 0x0, .value⟩, ⟨16, 1, .ro, 0x0, .value⟩, ⟨17, 1, .ro, 0x0, .value⟩,
     ⟨18, 1, .ro, 0x0, .value⟩, ⟨19, 1, .ro, 0x0, .value⟩, ⟨20, 1, .ro, 0x0, .value⟩,
     ⟨21, 1, .ro, 0x0, .value⟩, ⟨22, 1, .ro, 0x0, .value⟩, ⟨23, 1, .ro, 0x0, .value⟩,
     ⟨24, 1, .ro, 0x0, .value⟩, ⟨25, 1, .ro, 0x0, .value⟩, ⟨26, 1, .ro, 0x0, .value⟩,
     ⟨27, 1, .ro, 0x0, .value⟩, ⟨28, 4, .ro, 0x0, .value⟩]⟩,
  ⟨"BOOT_SLOT", 0x40030004, 1, 0x0, 1, 0x0,
    [⟨0, 4, .ro, 0xF, .value⟩, ⟨4, 4, .ro, 0xF, .value⟩, ⟨8, 1, .ro, 0x0, .value⟩,
     ⟨9, 1, .ro, 0x0, .value⟩, ⟨10, 22, .ro, 0x0, .value⟩]⟩,
  ⟨"BOOT_GEN_A", 0x40030008, 1, 0x0, 1, 0x0,
    [⟨0, 32, .ro, 0x0, .value⟩]⟩,
  ⟨"BOOT_GEN_B", 0x4003000C, 1, 0x0, 1, 0x0,
    [⟨0, 32, .ro, 0x0, .value⟩]⟩,
  ⟨"BOOT_TIME", 0x40030010, 1, 0x0, 1, 0x0,
    [⟨0, 32, .ro, 0x0, .value⟩]⟩,
  ⟨"BOOT_XSPI", 0x40030014, 1, 0x0, 1, 0x0,
    [⟨0, 1, .ro, 0x0, .value⟩, ⟨1, 2, .ro, 0x0, .value⟩, ⟨3, 5, .ro, 0x0, .value⟩,
     ⟨8, 4, .ro, 0x0, .value⟩, ⟨12, 1, .ro, 0x0, .value⟩, ⟨13, 19, .ro, 0x0, .value⟩]⟩,
  ⟨"BOOT_SLOAD", 0x40030020, 1, 0x0, 1, 0x0,
    [⟨0, 1, .wo, 0x0, .value⟩, ⟨1, 7, .wo, 0x0, .value⟩, ⟨8, 1, .wo, 0x0, .value⟩,
     ⟨9, 15, .wo, 0x0, .value⟩, ⟨24, 8, .wo, 0x0, .value⟩]⟩,
  ⟨"BOOT_SSTAT", 0x40030024, 1, 0x0, 1, 0x0,
    [⟨0, 16, .ro, 0x0, .value⟩, ⟨16, 1, .ro, 0x0, .value⟩, ⟨17, 7, .ro, 0x0, .value⟩,
     ⟨24, 4, .ro, 0x0, .value⟩, ⟨28, 1, .ro, 0x0, .value⟩, ⟨29, 1, .ro, 0x0, .value⟩,
     ⟨30, 1, .ro, 0x0, .value⟩, ⟨31, 1, .ro, 0x0, .value⟩]⟩,
  ⟨"BOOT_LOCK", 0x4003002C, 1, 0x0, 1, 0x0,
    [⟨0, 1, .w1s, 0x0, .value⟩, ⟨1, 31, .ro, 0x0, .value⟩]⟩]

/-- The registers of unit CFG, from Tables 07-16. -/
def regsCfg : List RegD := [
  ⟨"CFG_SWAP", 0x40030028, 1, 0x0, 1, 0x0,
    [⟨0, 2, .wo, 0x0, .value⟩, ⟨2, 22, .wo, 0x0, .value⟩, ⟨24, 8, .wo, 0x0, .value⟩]⟩]

/-- The registers of unit FLD, from Tables 11-5. -/
def regsFld : List RegD := [
  ⟨"FLD_STAT", 0x40040000, 1, 0x0, 1, 0x0,
    [⟨0, 2, .ro, 0x0, .value⟩, ⟨2, 1, .ro, 0x0, .value⟩, ⟨3, 1, .ro, 0x0, .value⟩,
     ⟨4, 1, .ro, 0x0, .value⟩, ⟨5, 3, .ro, 0x0, .value⟩, ⟨8, 8, .ro, 0x0, .value⟩,
     ⟨16, 16, .ro, 0x0, .value⟩]⟩,
  ⟨"FLD_EVT", 0x40040004, 1, 0x0, 1, 0x0,
    [⟨0, 1, .w1c, 0x0, .value⟩, ⟨1, 1, .w1c, 0x0, .value⟩, ⟨2, 1, .w1c, 0x0, .value⟩,
     ⟨3, 1, .w1c, 0x0, .value⟩, ⟨4, 1, .w1c, 0x0, .value⟩, ⟨5, 1, .w1c, 0x0, .value⟩,
     ⟨6, 1, .w1c, 0x0, .value⟩, ⟨7, 1, .w1c, 0x0, .value⟩, ⟨8, 1, .w1c, 0x0, .value⟩,
     ⟨9, 1, .w1c, 0x0, .value⟩, ⟨10, 22, .ro, 0x0, .value⟩]⟩,
  ⟨"FLD_LINKTO", 0x40040008, 1, 0x0, 1, 0x0,
    [⟨0, 16, .rwl, 0x0, .cfg⟩, ⟨16, 16, .ro, 0x0, .value⟩]⟩,
  ⟨"FLD_DI", 0x40040010, 1, 0x0, 1, 0x0,
    [⟨0, 32, .ro, 0x0, .value⟩]⟩,
  ⟨"FLD_DIRAW", 0x40040014, 1, 0x0, 1, 0x0,
    [⟨0, 32, .ro, 0x0, .value⟩]⟩,
  ⟨"FLD_DITYPE", 0x40040018, 1, 0x0, 1, 0x0,
    [⟨0, 32, .rwl, 0x0, .cfg⟩]⟩,
  ⟨"FLD_DIFILT_n", 0x40040020, 4, 0x4, 1, 0x0,
    [⟨0, 3, .rwl, 0x0, .cfg⟩, ⟨3, 1, .ro, 0x0, .value⟩, ⟨4, 3, .rwl, 0x0, .cfg⟩,
     ⟨7, 1, .ro, 0x0, .value⟩, ⟨8, 3, .rwl, 0x0, .cfg⟩, ⟨11, 1, .ro, 0x0, .value⟩,
     ⟨12, 3, .rwl, 0x0, .cfg⟩, ⟨15, 1, .ro, 0x0, .value⟩, ⟨16, 3, .rwl, 0x0, .cfg⟩,
     ⟨19, 1, .ro, 0x0, .value⟩, ⟨20, 3, .rwl, 0x0, .cfg⟩, ⟨23, 1, .ro, 0x0, .value⟩,
     ⟨24, 3, .rwl, 0x0, .cfg⟩, ⟨27, 1, .ro, 0x0, .value⟩, ⟨28, 3, .rwl, 0x0, .cfg⟩,
     ⟨31, 1, .ro, 0x0, .value⟩]⟩,
  ⟨"FLD_SPARE", 0x40040030, 1, 0x0, 1, 0x0,
    [⟨0, 5, .ro, 0x0, .value⟩, ⟨5, 1, .ro, 0x0, .value⟩, ⟨6, 1, .ro, 0x0, .value⟩,
     ⟨7, 1, .ro, 0x0, .value⟩, ⟨8, 5, .ro, 0x0, .value⟩, ⟨13, 1, .ro, 0x0, .value⟩,
     ⟨14, 1, .ro, 0x0, .value⟩, ⟨15, 1, .ro, 0x0, .value⟩, ⟨16, 5, .ro, 0x0, .value⟩,
     ⟨21, 1, .ro, 0x0, .value⟩, ⟨22, 1, .ro, 0x0, .value⟩, ⟨23, 1, .ro, 0x0, .value⟩,
     ⟨24, 5, .ro, 0x0, .value⟩, ⟨29, 1, .ro, 0x0, .value⟩, ⟨30, 1, .ro, 0x0, .value⟩,
     ⟨31, 1, .ro, 0x0, .value⟩]⟩,
  ⟨"FLD_DIFAULT", 0x40040034, 1, 0x0, 1, 0x0,
    [⟨0, 32, .ro, 0x0, .value⟩]⟩,
  ⟨"FLD_DOCFG", 0x40040040, 1, 0x0, 1, 0x0,
    [⟨0, 8, .rwl, 0x0, .cfg⟩, ⟨8, 8, .ro, 0x0, .value⟩, ⟨16, 16, .rwl, 0x0, .cfg⟩]⟩,
  ⟨"FLD_DOOPT", 0x40040044, 1, 0x0, 1, 0x0,
    [⟨0, 16, .rwl, 0x0, .cfg⟩, ⟨16, 16, .rwl, 0x0, .cfg⟩]⟩,
  ⟨"FLD_DOSTAT", 0x40040048, 1, 0x0, 1, 0x0,
    [⟨0, 16, .ro, 0x0, .value⟩, ⟨16, 16, .ro, 0x0, .value⟩]⟩,
  ⟨"FLD_DODIAG", 0x4004004C, 1, 0x0, 1, 0x0,
    [⟨0, 16, .ro, 0x0, .value⟩, ⟨16, 16, .ro, 0x0, .value⟩]⟩,
  ⟨"FLD_DOTEMP", 0x40040050, 1, 0x0, 1, 0x0,
    [⟨0, 16, .ro, 0x0, .value⟩, ⟨16, 16, .ro, 0x0, .value⟩]⟩]

/-- The registers of unit FLD, from Tables 11-5. -/
def regsFld2 : List RegD := [
  ⟨"FLD_DOSEG", 0x40040054, 1, 0x0, 1, 0x0,
    [⟨0, 16, .ro, 0x0, .value⟩, ⟨16, 16, .ro, 0x0, .value⟩]⟩,
  ⟨"FLD_FVS", 0x40040060, 1, 0x0, 1, 0x0,
    [⟨0, 16, .ro, 0x0, .value⟩, ⟨16, 16, .ro, 0x0, .value⟩]⟩]

/-- The registers of unit SIG, from Tables 12-5. -/
def regsSig : List RegD := [
  ⟨"SIG_STAT", 0x40050000, 1, 0x0, 1, 0x0,
    [⟨0, 1, .ro, 0x0, .value⟩, ⟨1, 1, .ro, 0x0, .value⟩, ⟨2, 6, .ro, 0x0, .value⟩,
     ⟨8, 8, .ro, 0x0, .value⟩, ⟨16, 16, .ro, 0x0, .value⟩]⟩,
  ⟨"SIG_EVT", 0x40050004, 1, 0x0, 1, 0x0,
    [⟨0, 1, .w1c, 0x0, .value⟩, ⟨1, 1, .w1c, 0x0, .value⟩, ⟨2, 1, .w1c, 0x0, .value⟩,
     ⟨3, 1, .w1c, 0x0, .value⟩, ⟨4, 1, .w1c, 0x0, .value⟩, ⟨5, 1, .w1c, 0x0, .value⟩,
     ⟨6, 10, .ro, 0x0, .value⟩, ⟨16, 12, .w1c, 0x0, .value⟩, ⟨28, 4, .ro, 0x0, .value⟩]⟩,
  ⟨"SIG_CMD", 0x40050008, 1, 0x0, 1, 0x0,
    [⟨0, 1, .wo, 0x0, .value⟩, ⟨1, 15, .wo, 0x0, .value⟩, ⟨16, 12, .wo, 0x0, .value⟩,
     ⟨28, 4, .wo, 0x0, .value⟩]⟩,
  ⟨"SIG_SYNCCFG", 0x4005000C, 1, 0x0, 1, 0x0,
    [⟨0, 2, .rwl, 0x0, .cfg⟩, ⟨2, 1, .rwl, 0x0, .cfg⟩, ⟨3, 29, .ro, 0x0, .value⟩]⟩,
  ⟨"SIG_CLKOUT_k", 0x40050010, 3, 0x4, 1, 0x0,
    [⟨0, 8, .rwl, 0x0, .cfg⟩, ⟨8, 23, .ro, 0x0, .value⟩, ⟨31, 1, .rwl, 0x0, .cfg⟩]⟩,
  ⟨"SIG_TNOW", 0x40050020, 1, 0x0, 1, 0x0,
    [⟨0, 32, .ro, 0x0, .value⟩]⟩,
  ⟨"SIG_CH_n_CFG", 0x40050040, 12, 0x4, 1, 0x0,
    [⟨0, 16, .rwl, 0x0, .cfg⟩, ⟨16, 2, .ro, 0x0, .value⟩, ⟨18, 1, .rwl, 0x0, .cfg⟩,
     ⟨19, 1, .rwl, 0x0, .cfg⟩, ⟨20, 1, .rwl, 0x0, .cfg⟩, ⟨21, 1, .rwl, 0x0, .cfg⟩,
     ⟨22, 3, .rwl, 0x0, .cfg⟩, ⟨25, 1, .rwl, 0x0, .cfg⟩, ⟨26, 1, .rwl, 0x0, .cfg⟩,
     ⟨27, 2, .rwl, 0x0, .cfg⟩, ⟨29, 2, .rwl, 0x0, .cfg⟩, ⟨31, 1, .rwl, 0x0, .cfg⟩]⟩,
  ⟨"SIG_CH_n_SCS", 0x40050080, 12, 0x4, 1, 0x0,
    [⟨0, 16, .rwl, 0x0, .cfg⟩, ⟨16, 16, .ro, 0x0, .value⟩]⟩,
  ⟨"SIG_CH_n_STAT", 0x400500C0, 12, 0x4, 1, 0x0,
    [⟨0, 16, .ro, 0x0, .value⟩, ⟨16, 9, .ro, 0x0, .value⟩, ⟨25, 1, .ro, 0x0, .value⟩,
     ⟨26, 1, .ro, 0x0, .value⟩, ⟨27, 1, .ro, 0x0, .value⟩, ⟨28, 1, .ro, 0x0, .value⟩,
     ⟨29, 1, .ro, 0x0, .value⟩, ⟨30, 1, .ro, 0x0, .value⟩, ⟨31, 1, .ro, 0x0, .value⟩]⟩,
  ⟨"SIG_FIRs_Ci", 0x40050100, 2, 0x20, 8, 0x4,
    [⟨0, 24, .rwl, 0x0, .cfg⟩, ⟨24, 8, .ro, 0x0, .value⟩]⟩]

/-- The registers of unit ETH, from Tables 13-12. -/
def regsEth : List RegD := [
  ⟨"ETH_STAT", 0x40060000, 1, 0x0, 1, 0x0,
    [⟨0, 1, .ro, 0x0, .value⟩, ⟨1, 7, .ro, 0x0, .value⟩, ⟨8, 8, .ro, 0x0, .value⟩,
     ⟨16, 4, .ro, 0x0, .value⟩, ⟨20, 4, .ro, 0x0, .value⟩, ⟨24, 8, .ro, 0x0, .value⟩]⟩,
  ⟨"ETH_EVT", 0x40060004, 1, 0x0, 1, 0x0,
    [⟨0, 1, .w1c, 0x0, .value⟩, ⟨1, 1, .w1c, 0x0, .value⟩, ⟨2, 1, .w1c, 0x0, .value⟩,
     ⟨3, 1, .w1c, 0x0, .value⟩, ⟨4, 1, .w1c, 0x0, .value⟩, ⟨5, 1, .w1c, 0x0, .value⟩,
     ⟨6, 1, .w1c, 0x0, .value⟩, ⟨7, 1, .w1c, 0x0, .value⟩, ⟨8, 24, .ro, 0x0, .value⟩]⟩,
  ⟨"ETH_PORTCFG", 0x40060008, 1, 0x0, 1, 0x0,
    [⟨0, 4, .rwl, 0x0, .cfg⟩, ⟨4, 4, .rwl, 0x0, .cfg⟩, ⟨8, 2, .rwl, 0x0, .cfg⟩,
     ⟨10, 22, .ro, 0x0, .value⟩]⟩,
  ⟨"ETH_MAC_LO", 0x4006000C, 1, 0x0, 1, 0x0,
    [⟨0, 32, .rwl, 0x0, .cfg⟩]⟩,
  ⟨"ETH_MAC_HI", 0x40060010, 1, 0x0, 1, 0x0,
    [⟨0, 16, .rwl, 0x0, .cfg⟩, ⟨16, 16, .ro, 0x0, .value⟩]⟩,
  ⟨"ETH_AGE", 0x40060014, 1, 0x0, 1, 0x0,
    [⟨0, 16, .rwl, 0x0, .cfg⟩, ⟨16, 16, .ro, 0x0, .value⟩]⟩,
  ⟨"ETH_MDIO", 0x40060018, 1, 0x0, 1, 0x0,
    [⟨0, 16, .rw, 0x0, .value⟩, ⟨16, 5, .rw, 0x0, .value⟩, ⟨21, 5, .rw, 0x0, .value⟩,
     ⟨26, 4, .ro, 0x0, .value⟩, ⟨30, 1, .rw, 0x0, .value⟩, ⟨31, 1, .w1s, 0x0, .value⟩]⟩,
  ⟨"ETH_PRPCFG", 0x4006001C, 1, 0x0, 1, 0x0,
    [⟨0, 16, .rwl, 0x0, .cfg⟩, ⟨16, 16, .rwl, 0x0, .cfg⟩]⟩,
  ⟨"ETH_PORT_n_CFG", 0x40060020, 5, 0x4, 1, 0x0,
    [⟨0, 7, .rwl, 0x0, .cfg⟩, ⟨7, 5, .ro, 0x0, .value⟩, ⟨12, 3, .rwl, 0x0, .cfg⟩,
     ⟨15, 1, .ro, 0x0, .value⟩, ⟨16, 12, .rwl, 0x0, .cfg⟩, ⟨28, 4, .ro, 0x0, .value⟩]⟩,
  ⟨"ETH_PORT_n_DROP", 0x40060040, 5, 0x4, 1, 0x0,
    [⟨0, 16, .ro, 0x0, .value⟩, ⟨16, 16, .ro, 0x0, .value⟩]⟩,
  ⟨"ETH_PRP_p_STAT", 0x40060060, 2, 0x4, 1, 0x0,
    [⟨0, 16, .ro, 0x0, .value⟩, ⟨16, 16, .ro, 0x0, .value⟩]⟩,
  ⟨"ETH_VLAN_v", 0x40060100, 64, 0x4, 1, 0x0,
    [⟨0, 5, .rwl, 0x0, .cfg⟩, ⟨5, 3, .ro, 0x0, .value⟩, ⟨8, 5, .rwl, 0x0, .cfg⟩,
     ⟨13, 3, .ro, 0x0, .value⟩, ⟨16, 12, .rwl, 0x0, .cfg⟩, ⟨28, 3, .ro, 0x0, .value⟩,
     ⟨31, 1, .rwl, 0x0, .cfg⟩]⟩,
  ⟨"ETH_STATIC_n_LO", 0x40060200, 64, 0x8, 1, 0x0,
    [⟨0, 32, .rwl, 0x0, .cfg⟩]⟩,
  ⟨"ETH_STATIC_n_HI", 0x40060204, 64, 0x8, 1, 0x0,
    [⟨0, 16, .rwl, 0x0, .cfg⟩, ⟨16, 5, .rwl, 0x0, .cfg⟩, ⟨21, 10, .ro, 0x0, .value⟩,
     ⟨31, 1, .rwl, 0x0, .cfg⟩]⟩]

/-- The registers of unit PDE, from Tables 13-14. -/
def regsPde : List RegD := [
  ⟨"PDE_STAT", 0x40070000, 1, 0x0, 1, 0x0,
    [⟨0, 10, .ro, 0x0, .value⟩, ⟨10, 6, .ro, 0x0, .value⟩, ⟨16, 13, .ro, 0x0, .cfg⟩,
     ⟨29, 3, .ro, 0x0, .value⟩]⟩,
  ⟨"PDE_EVT", 0x40070004, 1, 0x0, 1, 0x0,
    [⟨0, 1, .w1c, 0x0, .value⟩, ⟨1, 1, .w1c, 0x0, .value⟩, ⟨2, 1, .w1c, 0x0, .value⟩,
     ⟨3, 1, .w1c, 0x0, .value⟩, ⟨4, 1, .w1c, 0x0, .value⟩, ⟨5, 1, .w1c, 0x0, .value⟩,
     ⟨6, 1, .w1c, 0x0, .value⟩, ⟨7, 1, .w1c, 0x0, .value⟩, ⟨8, 1, .w1c, 0x0, .value⟩,
     ⟨9, 1, .w1c, 0x0, .value⟩, ⟨10, 1, .w1c, 0x0, .value⟩, ⟨11, 1, .w1c, 0x0, .value⟩,
     ⟨12, 20, .ro, 0x0, .value⟩]⟩,
  ⟨"PDE_IPADDR", 0x40070008, 1, 0x0, 1, 0x0,
    [⟨0, 32, .rwl, 0x0, .cfg⟩]⟩,
  ⟨"PDE_NETMASK", 0x4007000C, 1, 0x0, 1, 0x0,
    [⟨0, 32, .rwl, 0x0, .cfg⟩]⟩,
  ⟨"PDE_GATEWAY", 0x40070010, 1, 0x0, 1, 0x0,
    [⟨0, 32, .rwl, 0x0, .cfg⟩]⟩,
  ⟨"PDE_OWNID", 0x40070014, 1, 0x0, 1, 0x0,
    [⟨0, 18, .rwl, 0x0, .cfg⟩, ⟨18, 14, .ro, 0x0, .value⟩]⟩,
  ⟨"PDE_ETBTOPO", 0x40070018, 1, 0x0, 1, 0x0,
    [⟨0, 32, .ro, 0x0, .cfg⟩]⟩,
  ⟨"PDE_OPTOPO", 0x4007001C, 1, 0x0, 1, 0x0,
    [⟨0, 32, .ro, 0x0, .cfg⟩]⟩,
  ⟨"PDE_DIRCMD", 0x40070020, 1, 0x0, 1, 0x0,
    [⟨0, 24, .wo, 0x0, .value⟩, ⟨24, 8, .wo, 0x0, .value⟩]⟩,
  ⟨"PDE_DIRSTAT", 0x40070024, 1, 0x0, 1, 0x0,
    [⟨0, 16, .ro, 0x0, .value⟩, ⟨16, 12, .ro, 0x0, .value⟩, ⟨28, 2, .ro, 0x0, .value⟩,
     ⟨30, 2, .ro, 0x0, .value⟩]⟩,
  ⟨"PDE_LANELOSS", 0x40070028, 1, 0x0, 1, 0x0,
    [⟨0, 16, .ro, 0x0, .value⟩, ⟨16, 16, .ro, 0x0, .value⟩]⟩,
  ⟨"PDE_MDSTAT", 0x4007002C, 1, 0x0, 1, 0x0,
    [⟨0, 16, .ro, 0x0, .value⟩, ⟨16, 16, .ro, 0x0, .value⟩]⟩,
  ⟨"PDE_SSTAT_s", 0x40070100, 512, 0x4, 1, 0x0,
    [⟨0, 8, .ro, 0x0, .value⟩, ⟨8, 8, .ro, 0x0, .value⟩, ⟨16, 4, .ro, 0x0, .value⟩,
     ⟨20, 4, .ro, 0x0, .value⟩, ⟨24, 3, .ro, 0x0, .value⟩, ⟨27, 1, .ro, 0x0, .value⟩,
     ⟨28, 1, .ro, 0x0, .value⟩, ⟨29, 1, .ro, 0x0, .value⟩, ⟨30, 1, .ro, 0x0, .value⟩,
     ⟨31, 1, .ro, 0x0, .value⟩]⟩]

/-- The registers of unit TIM, from Tables 13-16. -/
def regsTim : List RegD := [
  ⟨"TIM_STAT", 0x40080000, 1, 0x0, 1, 0x0,
    [⟨0, 3, .ro, 0x0, .value⟩, ⟨3, 1, .ro, 0x0, .value⟩, ⟨4, 4, .ro, 0x0, .value⟩,
     ⟨8, 8, .ro, 0x0, .value⟩, ⟨16, 4, .ro, 0xF, .value⟩, ⟨20, 12, .ro, 0x0, .value⟩]⟩,
  ⟨"TIM_EVT", 0x40080004, 1, 0x0, 1, 0x0,
    [⟨0, 1, .w1c, 0x0, .value⟩, ⟨1, 1, .w1c, 0x0, .value⟩, ⟨2, 1, .w1c, 0x0, .value⟩,
     ⟨3, 1, .w1c, 0x0, .value⟩, ⟨4, 1, .w1c, 0x0, .value⟩, ⟨5, 1, .w1c, 0x0, .value⟩,
     ⟨6, 1, .w1c, 0x0, .value⟩, ⟨7, 25, .ro, 0x0, .value⟩]⟩,
  ⟨"TIM_CFG", 0x40080008, 1, 0x0, 1, 0x0,
    [⟨0, 1, .rwl, 0x0, .cfg⟩, ⟨1, 1, .rwl, 0x0, .cfg⟩, ⟨2, 2, .rwl, 0x0, .cfg⟩,
     ⟨4, 20, .ro, 0x0, .value⟩, ⟨24, 8, .rwl, 0x0, .cfg⟩]⟩,
  ⟨"TIM_JUMP_MAX", 0x4008000C, 1, 0x0, 1, 0x0,
    [⟨0, 32, .rwl, 0x0, .cfg⟩]⟩,
  ⟨"TIM_NS_LO", 0x40080010, 1, 0x0, 1, 0x0,
    [⟨0, 32, .ro, 0x0, .value⟩]⟩,
  ⟨"TIM_NS_HI", 0x40080014, 1, 0x0, 1, 0x0,
    [⟨0, 32, .ro, 0x0, .value⟩]⟩,
  ⟨"TIM_OFFSET", 0x40080018, 1, 0x0, 1, 0x0,
    [⟨0, 32, .ro, 0x0, .value⟩]⟩,
  ⟨"TIM_RATE", 0x4008001C, 1, 0x0, 1, 0x0,
    [⟨0, 32, .ro, 0x0, .value⟩]⟩,
  ⟨"TIM_CMD", 0x40080020, 1, 0x0, 1, 0x0,
    [⟨0, 2, .wo, 0x0, .value⟩, ⟨2, 22, .wo, 0x0, .value⟩, ⟨24, 8, .wo, 0x0, .value⟩]⟩,
  ⟨"TIM_HOLDLIM", 0x40080024, 1, 0x0, 1, 0x0,
    [⟨0, 16, .rwl, 0x0, .cfg⟩, ⟨16, 16, .ro, 0x0, .value⟩]⟩,
  ⟨"TIM_SECSET", 0x40080028, 1, 0x0, 1, 0x0,
    [⟨0, 32, .rw, 0x0, .value⟩]⟩,
  ⟨"TIM_PORT_n_CFG", 0x40080030, 4, 0x4, 1, 0x0,
    [⟨0, 1, .rwl, 0x0, .cfg⟩, ⟨1, 1, .rwl, 0x0, .cfg⟩, ⟨2, 1, .rwl, 0x0, .cfg⟩,
     ⟨3, 29, .ro, 0x0, .value⟩]⟩]

/-- The registers of unit CAN, from Tables 14-6. -/
def regsCan : List RegD := [
  ⟨"CAN_n_STAT", 0x40090000, 4, 0x4000, 1, 0x0,
    [⟨0, 3, .ro, 0x0, .value⟩, ⟨3, 5, .ro, 0x0, .value⟩, ⟨8, 8, .ro, 0x0, .value⟩,
     ⟨16, 8, .ro, 0x0, .value⟩, ⟨24, 8, .ro, 0x0, .value⟩]⟩,
  ⟨"CAN_n_EVT", 0x40090004, 4, 0x4000, 1, 0x0,
    [⟨0, 1, .w1c, 0x0, .value⟩, ⟨1, 1, .w1c, 0x0, .value⟩, ⟨2, 1, .w1c, 0x0, .value⟩,
     ⟨3, 1, .w1c, 0x0, .value⟩, ⟨4, 1, .w1c, 0x0, .value⟩, ⟨5, 1, .w1c, 0x0, .value⟩,
     ⟨6, 1, .w1c, 0x0, .value⟩, ⟨7, 1, .w1c, 0x0, .value⟩, ⟨8, 24, .ro, 0x0, .value⟩]⟩,
  ⟨"CAN_n_NBT", 0x40090008, 4, 0x4000, 1, 0x0,
    [⟨0, 5, .ro, 0x0, .value⟩, ⟨5, 7, .rwl, 0x0, .cfg⟩, ⟨12, 7, .rwl, 0x0, .cfg⟩,
     ⟨19, 8, .rwl, 0x0, .cfg⟩, ⟨27, 5, .rwl, 0x0, .cfg⟩]⟩,
  ⟨"CAN_n_DBT", 0x4009000C, 4, 0x4000, 1, 0x0,
    [⟨0, 7, .ro, 0x0, .value⟩, ⟨7, 6, .rwl, 0x0, .cfg⟩, ⟨13, 1, .rwl, 0x0, .cfg⟩,
     ⟨14, 4, .rwl, 0x0, .cfg⟩, ⟨18, 4, .rwl, 0x0, .cfg⟩, ⟨22, 5, .rwl, 0x0, .cfg⟩,
     ⟨27, 5, .rwl, 0x0, .cfg⟩]⟩,
  ⟨"CAN_n_CFG", 0x40090010, 4, 0x4000, 1, 0x0,
    [⟨0, 2, .rwl, 0x0, .cfg⟩, ⟨2, 1, .rwl, 0x0, .cfg⟩, ⟨3, 1, .rwl, 0x0, .cfg⟩,
     ⟨4, 1, .rwl, 0x0, .cfg⟩, ⟨5, 1, .rwl, 0x0, .cfg⟩, ⟨6, 1, .rwl, 0x0, .cfg⟩,
     ⟨7, 1, .rwl, 0x0, .cfg⟩, ⟨8, 1, .rwl, 0x0, .cfg⟩, ⟨9, 23, .ro, 0x0, .value⟩]⟩,
  ⟨"CAN_n_CMD", 0x40090014, 4, 0x4000, 1, 0x0,
    [⟨0, 1, .wo, 0x0, .value⟩, ⟨1, 23, .wo, 0x0, .value⟩, ⟨24, 8, .wo, 0x0, .value⟩]⟩,
  ⟨"CAN_n_TXSTAT", 0x40090018, 4, 0x4000, 1, 0x0,
    [⟨0, 4, .ro, 0x0, .value⟩, ⟨4, 4, .ro, 0x0, .value⟩, ⟨8, 4, .ro, 0x0, .value⟩,
     ⟨12, 20, .ro, 0x0, .value⟩]⟩,
  ⟨"CAN_n_TXCANCEL", 0x4009001C, 4, 0x4000, 1, 0x0,
    [⟨0, 3, .wo, 0x0, .value⟩, ⟨3, 29, .wo, 0x0, .value⟩]⟩,
  ⟨"CAN_n_TXSTAMP_b", 0x40090020, 4, 0x4000, 3, 0x4,
    [⟨0, 32, .ro, 0x0, .value⟩]⟩,
  ⟨"CAN_n_FRESH_LO", 0x40090030, 4, 0x4000, 1, 0x0,
    [⟨0, 32, .w1c, 0x0, .value⟩]⟩,
  ⟨"CAN_n_FRESH_HI", 0x40090034, 4, 0x4000, 1, 0x0,
    [⟨0, 32, .w1c, 0x0, .value⟩]⟩,
  ⟨"CAN_n_FIFOSTAT", 0x40090038, 4, 0x4000, 1, 0x0,
    [⟨0, 6, .ro, 0x0, .value⟩, ⟨6, 2, .ro, 0x0, .value⟩, ⟨8, 5, .ro, 0x0, .value⟩,
     ⟨13, 3, .ro, 0x0, .value⟩, ⟨16, 16, .ro, 0x0, .value⟩]⟩,
  ⟨"CAN_n_FIFOACK", 0x4009003C, 4, 0x4000, 1, 0x0,
    [⟨0, 1, .wo, 0x0, .value⟩, ⟨1, 31, .wo, 0x0, .value⟩]⟩,
  ⟨"CAN_n_ERRCNT", 0x40090040, 4, 0x4000, 1, 0x0,
    [⟨0, 16, .ro, 0x0, .value⟩, ⟨16, 16, .ro, 0x0, .value⟩]⟩]

/-- The registers of unit DRV, from Tables 15-7. -/
def regsDrv : List RegD := [
  ⟨"DRV_CFG", 0x400A0000, 1, 0x0, 1, 0x0,
    [⟨0, 2, .rwl, 0x0, .cfg⟩, ⟨2, 2, .ro, 0x0, .value⟩, ⟨4, 1, .rwl, 0x0, .cfg⟩,
     ⟨5, 27, .ro, 0x0, .value⟩]⟩,
  ⟨"DRV_CMD", 0x400A0004, 1, 0x0, 1, 0x0,
    [⟨0, 2, .wo, 0x0, .value⟩, ⟨2, 6, .wo, 0x0, .value⟩, ⟨8, 2, .wo, 0x0, .value⟩,
     ⟨10, 14, .wo, 0x0, .value⟩, ⟨24, 8, .wo, 0x0, .value⟩]⟩,
  ⟨"DRV_EVT", 0x400A0008, 1, 0x0, 1, 0x0,
    [⟨0, 1, .w1c, 0x0, .value⟩, ⟨1, 1, .w1c, 0x0, .value⟩, ⟨2, 1, .w1c, 0x0, .value⟩,
     ⟨3, 1, .w1c, 0x0, .value⟩, ⟨4, 1, .w1c, 0x0, .value⟩, ⟨5, 1, .w1c, 0x0, .value⟩,
     ⟨6, 1, .w1c, 0x0, .value⟩, ⟨7, 1, .w1c, 0x0, .value⟩, ⟨8, 1, .w1c, 0x0, .value⟩,
     ⟨9, 1, .w1c, 0x0, .value⟩, ⟨10, 1, .w1c, 0x0, .value⟩, ⟨11, 1, .w1c, 0x0, .value⟩,
     ⟨12, 1, .w1c, 0x0, .value⟩, ⟨13, 1, .w1c, 0x0, .value⟩, ⟨14, 1, .w1c, 0x0, .value⟩,
     ⟨15, 1, .w1c, 0x0, .value⟩, ⟨16, 16, .ro, 0x0, .value⟩]⟩,
  ⟨"DRV_n_STAT", 0x400A0040, 2, 0x40, 1, 0x0,
    [⟨0, 3, .ro, 0x0, .value⟩, ⟨3, 1, .ro, 0x0, .value⟩, ⟨4, 1, .ro, 0x0, .value⟩,
     ⟨5, 2, .ro, 0x0, .value⟩, ⟨7, 1, .ro, 0x0, .value⟩, ⟨8, 4, .ro, 0x0, .value⟩,
     ⟨12, 4, .ro, 0x0, .value⟩, ⟨16, 1, .ro, 0x0, .value⟩, ⟨17, 7, .ro, 0x0, .value⟩,
     ⟨24, 5, .ro, 0x0, .cfg⟩, ⟨29, 3, .ro, 0x0, .value⟩]⟩,
  ⟨"DRV_n_CYC", 0x400A0044, 2, 0x40, 1, 0x0,
    [⟨0, 16, .ro, 0x0, .value⟩, ⟨16, 5, .ro, 0x0, .value⟩, ⟨21, 11, .ro, 0x0, .value⟩]⟩,
  ⟨"DRV_n_CORR", 0x400A0048, 2, 0x40, 1, 0x0,
    [⟨0, 32, .ro, 0x0, .value⟩]⟩,
  ⟨"DRV_n_RATE", 0x400A004C, 2, 0x40, 1, 0x0,
    [⟨0, 32, .ro, 0x0, .value⟩]⟩,
  ⟨"DRV_n_MEMB", 0x400A0050, 2, 0x40, 1, 0x0,
    [⟨0, 32, .ro, 0x0, .value⟩]⟩,
  ⟨"DRV_n_TIMEERR", 0x400A0054, 2, 0x40, 1, 0x0,
    [⟨0, 11, .ro, 0x0, .value⟩, ⟨11, 11, .ro, 0x0, .value⟩, ⟨22, 10, .ro, 0x0, .value⟩]⟩,
  ⟨"DRV_n_FRAMEERR", 0x400A0058, 2, 0x40, 1, 0x0,
    [⟨0, 11, .ro, 0x0, .value⟩, ⟨11, 11, .ro, 0x0, .value⟩, ⟨22, 10, .ro, 0x0, .value⟩]⟩,
  ⟨"DRV_n_CROOK", 0x400A005C, 2, 0x40, 1, 0x0,
    [⟨0, 8, .ro, 0x0, .value⟩, ⟨8, 8, .ro, 0x0, .value⟩, ⟨16, 16, .ro, 0x0, .value⟩]⟩,
  ⟨"DRV_n_LASTERR", 0x400A0060, 2, 0x40, 1, 0x0,
    [⟨0, 3, .ro, 0x0, .value⟩, ⟨3, 5, .ro, 0x0, .value⟩, ⟨8, 8, .ro, 0x0, .value⟩,
     ⟨16, 6, .ro, 0x0, .value⟩, ⟨22, 10, .ro, 0x0, .value⟩]⟩]

/-- The registers of unit FLK, from Tables 16-7. -/
def regsFlk : List RegD := [
  ⟨"FLK_CFG", 0x400B0000, 1, 0x0, 1, 0x0,
    [⟨0, 4, .rwl, 0x0, .cfg⟩, ⟨4, 4, .ro, 0x0, .value⟩, ⟨8, 1, .rwl, 0x0, .cfg⟩,
     ⟨9, 22, .ro, 0x0, .value⟩, ⟨31, 1, .rwl, 0x0, .cfg⟩]⟩,
  ⟨"FLK_RTO", 0x400B0004, 1, 0x0, 1, 0x0,
    [⟨0, 16, .rwl, 0x0, .cfg⟩, ⟨16, 16, .ro, 0x0, .value⟩]⟩,
  ⟨"FLK_PER", 0x400B0008, 1, 0x0, 1, 0x0,
    [⟨0, 16, .rwl, 0x0, .cfg⟩, ⟨16, 16, .rwl, 0x0, .cfg⟩]⟩,
  ⟨"FLK_STAT", 0x400B000C, 1, 0x0, 1, 0x0,
    [⟨0, 1, .ro, 0x0, .value⟩, ⟨1, 1, .ro, 0x0, .value⟩, ⟨2, 1, .ro, 0x0, .value⟩,
     ⟨3, 1, .ro, 0x0, .value⟩, ⟨4, 4, .ro, 0x0, .value⟩, ⟨8, 8, .ro, 0x0, .value⟩,
     ⟨16, 16, .ro, 0x0, .value⟩]⟩,
  ⟨"FLK_EVT", 0x400B0010, 1, 0x0, 1, 0x0,
    [⟨0, 1, .w1c, 0x0, .value⟩, ⟨1, 1, .w1c, 0x0, .value⟩, ⟨2, 1, .w1c, 0x0, .value⟩,
     ⟨3, 1, .w1c, 0x0, .value⟩, ⟨4, 1, .w1c, 0x0, .value⟩, ⟨5, 1, .w1c, 0x0, .value⟩,
     ⟨6, 1, .w1c, 0x0, .value⟩, ⟨7, 1, .w1c, 0x0, .value⟩, ⟨8, 1, .w1c, 0x0, .value⟩,
     ⟨9, 1, .w1c, 0x0, .value⟩, ⟨10, 1, .w1c, 0x0, .value⟩, ⟨11, 21, .ro, 0x0, .value⟩]⟩,
  ⟨"FLK_LDCMD", 0x400B0014, 1, 0x0, 1, 0x0,
    [⟨0, 4, .wo, 0x0, .value⟩, ⟨4, 4, .wo, 0x0, .value⟩, ⟨8, 2, .wo, 0x0, .value⟩,
     ⟨10, 14, .wo, 0x0, .value⟩, ⟨24, 8, .wo, 0x0, .value⟩]⟩,
  ⟨"FLK_LDSTAT", 0x400B0018, 1, 0x0, 1, 0x0,
    [⟨0, 11, .ro, 0x0, .value⟩, ⟨11, 5, .ro, 0x0, .value⟩, ⟨16, 4, .ro, 0x0, .value⟩,
     ⟨20, 8, .ro, 0x0, .value⟩, ⟨28, 4, .ro, 0x0, .value⟩]⟩,
  ⟨"FLK_DEGCLR", 0x400B001C, 1, 0x0, 1, 0x0,
    [⟨0, 16, .wo, 0x0, .value⟩, ⟨16, 16, .wo, 0x0, .value⟩]⟩,
  ⟨"FLK_LELSTAT", 0x400B0020, 1, 0x0, 1, 0x0,
    [⟨0, 6, .ro, 0x0, .value⟩, ⟨6, 10, .ro, 0x0, .value⟩, ⟨16, 16, .ro, 0x0, .value⟩]⟩,
  ⟨"FLK_LEL_A", 0x400B0024, 1, 0x0, 1, 0x0,
    [⟨0, 9, .ro, 0x0, .value⟩, ⟨9, 3, .ro, 0x0, .value⟩, ⟨12, 4, .ro, 0x0, .value⟩,
     ⟨16, 16, .ro, 0x0, .value⟩]⟩,
  ⟨"FLK_LEL_B", 0x400B0028, 1, 0x0, 1, 0x0,
    [⟨0, 24, .ro, 0x0, .value⟩, ⟨24, 8, .ro, 0x0, .value⟩]⟩,
  ⟨"FLK_LELPOP", 0x400B002C, 1, 0x0, 1, 0x0,
    [⟨0, 1, .wo, 0x0, .value⟩, ⟨1, 31, .wo, 0x0, .value⟩]⟩,
  ⟨"FLK_ST_k", 0x400B0040, 16, 0x4, 1, 0x0,
    [⟨0, 8, .ro, 0x0, .value⟩, ⟨8, 8, .ro, 0x0, .value⟩, ⟨16, 8, .ro, 0x0, .value⟩,
     ⟨24, 1, .ro, 0x0, .value⟩, ⟨25, 1, .ro, 0x0, .value⟩, ⟨26, 1, .ro, 0x0, .value⟩,
     ⟨27, 1, .ro, 0x0, .value⟩, ⟨28, 4, .ro, 0x0, .value⟩]⟩,
  ⟨"FLK_SEM_n", 0x400B0080, 16, 0x4, 1, 0x0,
    [⟨0, 1, .rw, 0x0, .value⟩, ⟨1, 29, .ro, 0x0, .value⟩, ⟨30, 2, .ro, 0x0, .value⟩]⟩]

/-- The registers of unit FLK, from Tables 16-7. -/
def regsFlk2 : List RegD := [
  ⟨"FLK_SEMCFG_n", 0x400B00C0, 16, 0x4, 1, 0x0,
    [⟨0, 12, .rwl, 0x0, .cfg⟩, ⟨12, 12, .rwl, 0x0, .cfg⟩, ⟨24, 4, .rwl, 0x0, .cfg⟩,
     ⟨28, 3, .ro, 0x0, .value⟩, ⟨31, 1, .rwl, 0x0, .cfg⟩]⟩]

/-- The registers of unit PAIR, from Tables 17-7. -/
def regsPair : List RegD := [
  ⟨"PAIR_CFG", 0x400C0000, 1, 0x0, 1, 0x0,
    [⟨0, 1, .rwl, 0x0, .cfg⟩, ⟨1, 1, .rwl, 0x0, .cfg⟩, ⟨2, 1, .rwl, 0x0, .cfg⟩,
     ⟨3, 5, .ro, 0x0, .value⟩, ⟨8, 7, .rwl, 0x0, .cfg⟩, ⟨15, 1, .ro, 0x0, .value⟩,
     ⟨16, 4, .rwl, 0x0, .cfg⟩, ⟨20, 11, .ro, 0x0, .value⟩, ⟨31, 1, .rwl, 0x0, .cfg⟩]⟩,
  ⟨"PAIR_TIME", 0x400C0004, 1, 0x0, 1, 0x0,
    [⟨0, 7, .rwl, 0x0, .cfg⟩, ⟨7, 9, .ro, 0x0, .value⟩, ⟨16, 16, .rwl, 0x0, .cfg⟩]⟩,
  ⟨"PAIR_ID", 0x400C0008, 1, 0x0, 1, 0x0,
    [⟨0, 32, .rwl, 0x0, .cfg⟩]⟩,
  ⟨"PAIR_SESS", 0x400C000C, 1, 0x0, 1, 0x0,
    [⟨0, 9, .rwl, 0x0, .cfg⟩, ⟨9, 7, .ro, 0x0, .value⟩, ⟨16, 9, .rwl, 0x0, .cfg⟩,
     ⟨25, 7, .ro, 0x0, .value⟩]⟩,
  ⟨"PAIR_STAT", 0x400C0010, 1, 0x0, 1, 0x0,
    [⟨0, 1, .ro, 0x0, .value⟩, ⟨1, 1, .ro, 0x0, .value⟩, ⟨2, 1, .ro, 0x0, .value⟩,
     ⟨3, 1, .ro, 0x0, .value⟩, ⟨4, 12, .ro, 0x0, .value⟩, ⟨16, 16, .ro, 0x0, .value⟩]⟩,
  ⟨"PAIR_EVT", 0x400C0014, 1, 0x0, 1, 0x0,
    [⟨0, 1, .w1c, 0x0, .value⟩, ⟨1, 1, .w1c, 0x0, .value⟩, ⟨2, 1, .w1c, 0x0, .value⟩,
     ⟨3, 1, .w1c, 0x0, .value⟩, ⟨4, 1, .w1c, 0x0, .value⟩, ⟨5, 1, .w1c, 0x0, .value⟩,
     ⟨6, 26, .ro, 0x0, .value⟩]⟩,
  ⟨"PAIR_CNT", 0x400C0018, 1, 0x0, 1, 0x0,
    [⟨0, 16, .ro, 0x0, .value⟩, ⟨16, 16, .ro, 0x0, .value⟩]⟩,
  ⟨"PAIR_STEST", 0x400C001C, 1, 0x0, 1, 0x0,
    [⟨0, 16, .rwl, 0x0, .cfg⟩, ⟨16, 16, .ro, 0x0, .value⟩]⟩]

/-- The registers of unit REC, from Tables 19-9. -/
def regsRec : List RegD := [
  ⟨"REC_STAT", 0x400D0000, 1, 0x0, 1, 0x0,
    [⟨0, 9, .ro, 0x0, .value⟩, ⟨9, 5, .ro, 0x0, .value⟩, ⟨14, 1, .ro, 0x0, .value⟩,
     ⟨15, 1, .ro, 0x0, .value⟩, ⟨16, 16, .ro, 0x0, .value⟩]⟩,
  ⟨"REC_EVT", 0x400D0004, 1, 0x0, 1, 0x0,
    [⟨0, 1, .w1c, 0x0, .value⟩, ⟨1, 1, .w1c, 0x0, .value⟩, ⟨2, 1, .w1c, 0x0, .value⟩,
     ⟨3, 1, .w1c, 0x0, .value⟩, ⟨4, 1, .w1c, 0x0, .value⟩, ⟨5, 27, .ro, 0x0, .value⟩]⟩,
  ⟨"REC_CFG", 0x400D0008, 1, 0x0, 1, 0x0,
    [⟨0, 16, .rwl, 0x0, .cfg⟩, ⟨16, 13, .ro, 0x0, .value⟩, ⟨29, 1, .rwl, 0x0, .cfg⟩,
     ⟨30, 1, .rwl, 0x0, .cfg⟩, ⟨31, 1, .rwl, 0x0, .cfg⟩]⟩,
  ⟨"REC_CMD", 0x400D000C, 1, 0x0, 1, 0x0,
    [⟨0, 1, .wo, 0x0, .value⟩, ⟨1, 1, .wo, 0x0, .value⟩, ⟨2, 22, .wo, 0x0, .value⟩,
     ⟨24, 8, .wo, 0x0, .value⟩]⟩,
  ⟨"REC_FULL", 0x400D0010, 1, 0x0, 1, 0x0,
    [⟨0, 16, .ro, 0x0, .value⟩, ⟨16, 15, .ro, 0x0, .value⟩, ⟨31, 1, .ro, 0x0, .value⟩]⟩,
  ⟨"REC_HIST_h_i", 0x400D1000, 4, 0x100, 64, 0x4,
    [⟨0, 32, .ro, 0x0, .value⟩]⟩,
  ⟨"REC_LATE_i", 0x400D1400, 16, 0x4, 1, 0x0,
    [⟨0, 32, .ro, 0x0, .value⟩]⟩,
  ⟨"REC_EXT_e", 0x400D1440, 32, 0x4, 1, 0x0,
    [⟨0, 32, .ro, 0x0, .value⟩]⟩,
  ⟨"REC_CNT_c", 0x400D1500, 32, 0x4, 1, 0x0,
    [⟨0, 32, .ro, 0x0, .value⟩]⟩]

/-- The registers of unit SAF, from Tables 11-8, 18-10. -/
def regsSaf : List RegD := [
  ⟨"SAF_STAT", 0x400E0000, 1, 0x0, 1, 0x0,
    [⟨0, 1, .ro, 0x0, .value⟩, ⟨1, 1, .ro, 0x0, .value⟩, ⟨2, 1, .ro, 0x0, .value⟩,
     ⟨3, 1, .ro, 0x0, .value⟩, ⟨4, 28, .ro, 0x0, .value⟩]⟩,
  ⟨"SAF_EVT", 0x400E0004, 1, 0x0, 1, 0x0,
    [⟨0, 1, .w1c, 0x0, .value⟩, ⟨1, 1, .w1c, 0x0, .value⟩, ⟨2, 1, .w1c, 0x0, .value⟩,
     ⟨3, 29, .ro, 0x0, .value⟩]⟩,
  ⟨"SAF_CHECKVAL", 0x400E0008, 1, 0x0, 1, 0x0,
    [⟨0, 32, .ro, 0x0, .value⟩]⟩,
  ⟨"SAF_CONFVAL", 0x400E000C, 1, 0x0, 1, 0x0,
    [⟨0, 32, .ro, 0x0, .value⟩]⟩,
  ⟨"SAF_FUNC", 0x400E0010, 1, 0x0, 1, 0x0,
    [⟨0, 1, .ro, 0x0, .value⟩, ⟨1, 1, .ro, 0x0, .value⟩, ⟨2, 1, .ro, 0x0, .value⟩,
     ⟨3, 1, .ro, 0x0, .value⟩, ⟨4, 1, .ro, 0x0, .value⟩, ⟨5, 27, .ro, 0x0, .value⟩]⟩,
  ⟨"SAF_SAFEOUT", 0x400E0014, 1, 0x0, 1, 0x0,
    [⟨0, 16, .rwl, 0x0, .cfg⟩, ⟨16, 16, .ro, 0x0, .value⟩]⟩,
  ⟨"SAF_VSCINT", 0x400E0018, 1, 0x0, 1, 0x0,
    [⟨0, 2, .ro, 0x0, .value⟩, ⟨2, 14, .ro, 0x0, .value⟩, ⟨16, 16, .ro, 0x0, .value⟩]⟩,
  ⟨"SAF_SHCHECKVAL", 0x400E001C, 1, 0x0, 1, 0x0,
    [⟨0, 32, .ro, 0x0, .value⟩]⟩,
  ⟨"SAF_BLCFG", 0x400E0100, 1, 0x0, 1, 0x0,
    [⟨0, 8, .rwl, 0x0, .cfg⟩, ⟨8, 16, .rwl, 0x0, .cfg⟩, ⟨24, 8, .ro, 0x0, .value⟩]⟩,
  ⟨"SAF_BLSTAT", 0x400E0104, 1, 0x0, 1, 0x0,
    [⟨0, 3, .ro, 0x0, .value⟩, ⟨3, 1, .ro, 0x0, .value⟩, ⟨4, 1, .ro, 0x0, .value⟩,
     ⟨5, 1, .ro, 0x0, .value⟩, ⟨6, 2, .ro, 0x0, .value⟩, ⟨8, 4, .ro, 0x0, .value⟩,
     ⟨12, 20, .ro, 0x0, .value⟩]⟩,
  ⟨"SAF_DTMASK", 0x400E0108, 1, 0x0, 1, 0x0,
    [⟨0, 32, .rwl, 0x0, .cfg⟩]⟩,
  ⟨"SAF_DTLEVEL", 0x400E010C, 1, 0x0, 1, 0x0,
    [⟨0, 32, .rwl, 0x0, .cfg⟩]⟩,
  ⟨"SAF_DTSTAT", 0x400E0110, 1, 0x0, 1, 0x0,
    [⟨0, 5, .ro, 0x0, .value⟩, ⟨5, 26, .ro, 0x0, .value⟩, ⟨31, 1, .ro, 0x0, .value⟩]⟩]

/-- The registers of unit UPD, from Tables 19-7. -/
def regsUpd : List RegD := [
  ⟨"UPD_STAT", 0x400F0000, 1, 0x0, 1, 0x0,
    [⟨0, 14, .ro, 0x0, .value⟩, ⟨14, 1, .ro, 0x0, .value⟩, ⟨15, 1, .ro, 0x0, .value⟩,
     ⟨16, 1, .ro, 0x0, .value⟩, ⟨17, 7, .ro, 0x0, .value⟩, ⟨24, 4, .ro, 0x0, .value⟩,
     ⟨28, 4, .ro, 0x0, .value⟩]⟩,
  ⟨"UPD_EVT", 0x400F0004, 1, 0x0, 1, 0x0,
    [⟨0, 1, .w1c, 0x0, .value⟩, ⟨1, 1, .w1c, 0x0, .value⟩, ⟨2, 1, .w1c, 0x0, .value⟩,
     ⟨3, 1, .w1c, 0x0, .value⟩, ⟨4, 1, .w1c, 0x0, .value⟩, ⟨5, 1, .w1c, 0x0, .value⟩,
     ⟨6, 1, .w1c, 0x0, .value⟩, ⟨7, 1, .w1c, 0x0, .value⟩, ⟨8, 24, .ro, 0x0, .value⟩]⟩,
  ⟨"UPD_CMD", 0x400F0008, 1, 0x0, 1, 0x0,
    [⟨0, 4, .wo, 0x0, .value⟩, ⟨4, 4, .wo, 0x0, .value⟩, ⟨8, 1, .wo, 0x0, .value⟩,
     ⟨9, 7, .wo, 0x0, .value⟩, ⟨16, 1, .wo, 0x0, .value⟩, ⟨17, 7, .wo, 0x0, .value⟩,
     ⟨24, 8, .wo, 0x0, .value⟩]⟩,
  ⟨"UPD_ARG_OFS", 0x400F000C, 1, 0x0, 1, 0x0,
    [⟨0, 32, .rw, 0x0, .value⟩]⟩,
  ⟨"UPD_ARG_SRC", 0x400F0010, 1, 0x0, 1, 0x0,
    [⟨0, 32, .rw, 0x0, .value⟩]⟩,
  ⟨"UPD_ARG_LEN", 0x400F0014, 1, 0x0, 1, 0x0,
    [⟨0, 13, .rw, 0x0, .value⟩, ⟨13, 19, .ro, 0x0, .value⟩]⟩,
  ⟨"UPD_ACTTIME_LO", 0x400F0018, 1, 0x0, 1, 0x0,
    [⟨0, 32, .rw, 0x0, .value⟩]⟩,
  ⟨"UPD_ACTTIME_HI", 0x400F001C, 1, 0x0, 1, 0x0,
    [⟨0, 32, .rw, 0x0, .value⟩]⟩,
  ⟨"UPD_ACTWIN", 0x400F0020, 1, 0x0, 1, 0x0,
    [⟨0, 16, .rw, 0x0, .value⟩, ⟨16, 16, .ro, 0x0, .value⟩]⟩,
  ⟨"UPD_PROG", 0x400F0024, 1, 0x0, 1, 0x0,
    [⟨0, 32, .ro, 0x0, .value⟩]⟩,
  ⟨"UPD_SETSTAT", 0x400F0028, 1, 0x0, 1, 0x0,
    [⟨0, 1, .ro, 0x0, .value⟩, ⟨1, 1, .ro, 0x0, .value⟩, ⟨2, 2, .ro, 0x0, .value⟩,
     ⟨4, 4, .ro, 0x0, .value⟩, ⟨8, 8, .ro, 0x0, .value⟩, ⟨16, 16, .ro, 0x0, .cfg⟩]⟩]

/-- The registers of the 64 KB window that holds `addr` (Table 00-3). -/
def regWindow (addr : Nat) : List RegD :=
  match (addr - 0x40000000) / 0x10000 with
  | 0 => regsSys ++ regsPwr ++ regsClk
  | 1 => regsTri ++ regsCyc
  | 2 => regsMem
  | 3 => regsBoot ++ regsCfg
  | 4 => regsFld ++ regsFld2
  | 5 => regsSig
  | 6 => regsEth
  | 7 => regsPde
  | 8 => regsTim
  | 9 => regsCan
  | 10 => regsDrv
  | 11 => regsFlk ++ regsFlk2
  | 12 => regsPair
  | 13 => regsRec
  | 14 => regsSaf
  | 15 => regsUpd
  | _ => []

/-- Does the row `r` give the register at `addr`? -/
def RegD.at (r : RegD) (addr : Nat) : Bool :=
  if addr < r.base then false
  else
    let o := addr - r.base
    if r.c1 = 1 && r.c2 = 1 then o = 0
    else if r.c2 = 1 then o % r.s1 = 0 && o / r.s1 < r.c1
    else (o % r.s1) % r.s2 = 0 && (o % r.s1) / r.s2 < r.c2 && o / r.s1 < r.c1

/-- The register at a physical address, if the tables give one there. -/
def regAt (addr : Nat) : Option RegD :=
  if addr < 0x40000000 then none else (regWindow addr).find? (fun r => r.at addr)

/-- The word of one field at value `v`. -/
def FieldD.place (f : FieldD) (v : Nat) : Nat := (v % 2 ^ f.width) * 2 ^ f.lo

/-- The bits of one field. -/
def FieldD.mask (f : FieldD) : Nat := (2 ^ f.width - 1) * 2 ^ f.lo

/-- The word of the Reset column of a row. -/
def RegD.resetWord (r : RegD) : BitVec 32 :=
  BitVec.ofNat 32 (r.fields.foldl (fun acc f => acc + f.place f.reset) 0)

/-- The bits of a row whose Reset column satisfies `p`. -/
def RegD.maskWhere (r : RegD) (p : FieldD → Bool) : BitVec 32 :=
  BitVec.ofNat 32 (r.fields.foldl (fun acc f => if p f then acc + f.mask else acc) 0)

end Sys2Proof.Machine
end

