-- ==== Sys2Proof/Machine/SMap.lean ====
section
/-! DEFINITION. Sys2Proof/Machine/SMap.lean: sparse maps in one canonical form. A map is a list of
key and value pairs with rising keys, and lists no pair equal to what an unlisted key reads as
(`d k`), so that equal maps are equal data. Memory, flash and the register windows are such maps. -/

namespace Sys2Proof.Machine

variable {α : Type}

/-- The value at `k`; `d k` where `k` is not listed. -/
def smGet (d : Nat → α) : List (Nat × α) → Nat → α
  | [], k => d k
  | (a, v) :: t, k => if a = k then v else smGet d t k

/-- List `v` at `k`, keeping the order of the keys. -/
def smPut : List (Nat × α) → Nat → α → List (Nat × α)
  | [], k, v => [(k, v)]
  | (a, x) :: t, k, v =>
    if k < a then (k, v) :: (a, x) :: t
    else if k = a then (k, v) :: t
    else (a, x) :: smPut t k v

/-- Remove what is listed at `k`. -/
def smDel (m : List (Nat × α)) (k : Nat) : List (Nat × α) := m.filter (fun p => p.1 != k)

/-- Make `k` read as `v`, in canonical form. -/
def smSet [DecidableEq α] (d : Nat → α) (m : List (Nat × α)) (k : Nat) (v : α) :
    List (Nat × α) :=
  if v = d k then smDel m k else smPut m k v

/-- Every key from `lo` on, below `lo + n`, reads as unlisted again. -/
def smClear (m : List (Nat × α)) (lo n : Nat) : List (Nat × α) :=
  m.filter (fun p => !(lo ≤ p.1 && p.1 < lo + n))

/-- The canonical form: keys strictly rising from `b` on, and no pair an unlisted key's value. -/
def smWfFrom [DecidableEq α] (d : Nat → α) : Nat → List (Nat × α) → Bool
  | _, [] => true
  | b, (a, v) :: t => b ≤ a && !(v = d a) && smWfFrom d (a + 1) t

/-- The canonical form of a sparse map. -/
def smWf [DecidableEq α] (d : Nat → α) (m : List (Nat × α)) : Bool := smWfFrom d 0 m

end Sys2Proof.Machine
end

