-- ==== Sys2Proof/Machine/Regs.lean ====
section
/-! DEFINITION. Sys2Proof/Machine/Regs.lean: the register windows as one sparse map from addresses
to words. An unlisted register reads as its Reset column says (R10). -/

namespace Sys2Proof.Machine

/-- Spare rows of each bank at delivery (Table 06-2): banks 0 to 3 private, 4 shared, 5
communication. -/
def bankRows (n : Nat) : Nat := if n < 4 then 32 else if n = 4 then 48 else 16

/-- Sub-arrays of each bank, each with one spare column (Table 06-2). -/
def bankCols (n : Nat) : Nat := if n < 4 then 8 else if n = 4 then 12 else 4

/-- The word that an unlisted register reads as: its Reset column; for MEM_BANK_n the bank's
totals of spares. -/
def regReset (a : Nat) : Word :=
  if 0x40020020 ≤ a ∧ a < 0x40020038 ∧ a % 4 = 0 then
    let n := (a - 0x40020020) / 4
    BitVec.ofNat 32 (bankRows n * 256 + bankCols n)
  else
    match regAt a with
    | some r => r.resetWord
    | none => 0

/-- Two fields share no bit. -/
def Fld.apart (f g : Fld) : Bool :=
  f.addr ≠ g.addr || f.lo + f.width ≤ g.lo || g.lo + g.width ≤ f.lo

/-- The registers, keyed by physical address. -/
abbrev RegMap := List (Nat × Word)

/-- The canonical form of the register map. -/
def regWf (m : RegMap) : Bool := smWf regReset m

/-- The word of the register at `a`. -/
def RegMap.word (m : RegMap) (a : Nat) : Word := smGet regReset m a

/-- `m` with the register at `a` holding `v`. -/
def RegMap.setWord (m : RegMap) (a : Nat) (v : Word) : RegMap := smSet regReset m a v

/-- The value of a field. -/
def RegMap.fget (m : RegMap) (f : Fld) : Nat := bitsOf (m.word f.addr).toNat f.lo f.width

/-- `m` with a field holding the low bits of `v`. -/
def RegMap.fset (m : RegMap) (f : Fld) (v : Nat) : RegMap :=
  m.setWord f.addr (BitVec.ofNat 32 (setBits (m.word f.addr).toNat f.lo f.width v))

/-- What a reset of device reach leaves of one listed register (R10, R74): the kept fields, and
at device-warm the cold fields too, keep their bits; every other field takes its reset value. -/
def regAfterReset (cold : Bool) (a : Nat) (w : Word) : Word :=
  match regAt a with
  | some r =>
    let k := r.maskWhere (fun f => f.keep = .kept ∨ (f.keep = .cold ∧ !cold))
    (w &&& k) ||| (regReset a &&& ~~~k)
  | none => 0

/-- The registers after a reset of device reach. -/
def RegMap.afterReset (cold : Bool) (m : RegMap) : RegMap :=
  m.foldl (fun acc p => acc.setWord p.1 (regAfterReset cold p.1 p.2)) []

/-- The registers with every one from `lo` on, below `lo + n`, at its reset value. -/
def RegMap.clear (m : RegMap) (lo n : Nat) : RegMap := smClear m lo n

/-! ### Masks of access codes (R6) -/

/-- The bits of a register at an address whose access code satisfies `p`. -/
def accMask (p : Access → Bool) (a : Nat) : Word :=
  match regAt a with
  | some r => r.maskWhere (fun f => p f.acc)
  | none => 0

/-- The RWL bits of a register; SYNC_EN and GROUP are RO for channels 4 to 11 (chapter 12). -/
def rwlMask (a : Nat) : Word :=
  accMask (fun c => decide (c = .rwl)) a &&&
    (if 0x40050050 ≤ a ∧ a < 0x40050070 then ~~~0x000C0000 else 0xFFFFFFFF)

/-- The RW bits of a register. -/
def rwMask (a : Nat) : Word := accMask (fun c => decide (c = .rw)) a

/-- `w` with the bits of `k` taken from `v`. -/
def mergeW (w k v : Word) : Word := (w &&& ~~~k) ||| (v &&& k)

end Sys2Proof.Machine
end

