-- ==== Sys2Proof/Machine/State.lean ====
section
/-! DEFINITION. Sys2Proof/Machine/State.lean: the state of the ZT9 block as plain data, its reasons
to stop, and the state after power-on. A fact that a register of the windows shows is held in
that register (`State.regs`); the records below hold what no register shows. -/

namespace Sys2Proof.Machine

/-- The reasons why the machine stops with a fault. The spec stops no command on the way, so no
meaning raises one. -/
inductive Fault where
  /-- Never raised: every command of the table completes (safe). -/
  | never
  deriving DecidableEq, Repr

/-- The reasons why a command has no meaning. -/
inductive Refusal where
  /-- Raised by an arm of `exec` that has no meaning yet (safe). -/
  | notModelled (mnemonic : String)
  deriving DecidableEq, Repr

/-! ### The world outside the registers -/

/-- Levels of the outside world that monitors and balls report now. `ok`: the monitors that have
released (PWR_MON.OK, Table 03-7). -/
structure Phys where
  ok : BitVec 8
  fvsHigh : Bool
  vbkLow : Bool
  /-- VBKUP is below its loss level of 1.8 V. -/
  vbkDown : Bool
  onVbk : Bool
  serrefOk : Bool
  resetNLow : Bool
  /-- PHY_n_INT_N low (ETH_STAT.PHYINT). -/
  phyInt : BitVec 4
  deriving DecidableEq, Repr

/-- What the board and the order code fix (Table 00-1, Table 07-1): the grade fuse and the flash
device that SFDP describes. -/
structure Board where
  gradeW : Bool
  density : Nat
  dummy : Nat
  suspend : Bool
  octal : Bool
  deriving DecidableEq, Repr

/-- Output levels that no register field holds. -/
structure Pins where
  safeOut : Bool
  rstOut : Bool
  ppsOut : Bool
  deriving DecidableEq, Repr

/-- The backup domain beside the retained memory and the kept register fields (Table 04-5). -/
structure Bkup where
  rstcntM : Word
  causePrev : Word
  lastCycLo : Word
  lastCycHi : Word
  lastTime : Word
  stampValid : Bool
  rtc : Word
  app : Vector Word 16
  /-- The pending safe-state latch of R87. -/
  pendSafe : BitVec 8
  /-- BKUP content was lost; it is cleared at the next power good (R69). -/
  lost : Bool
  deriving DecidableEq, Repr

/-- Power: the sequencer and the switch-off requests (chapter 03). -/
structure Pwr where
  /-- Paddocks still to power, the first with its switch closed (R64). -/
  ramp : List Paddock
  /-- Paddocks being switched on by the application (R73). -/
  appRamp : List Paddock
  /-- Paddocks whose units reload from the active set (R73). -/
  reload : List Paddock
  /-- Paddocks whose units join at the next boundary (R73). -/
  join : List Paddock
  /-- Paddocks in the 20 ms of R56. -/
  drain20 : List Paddock
  /-- Paddocks in DRAIN that wait for the boundary (R72). -/
  offAt : List Paddock
  deriving DecidableEq, Repr

/-- An asserted reset source of device reach (Table 04-2). -/
inductive RstSrc where
  | por | brownout (r : Rail) | resetN | sheepdog | voter | clock | soft | debug
  deriving DecidableEq, Repr

/-- Where a paddock or unit episode stands (R90). -/
inductive LPhase where
  | drain | asserted | hold | reload | boundary
  deriving DecidableEq, Repr

/-- A paddock or unit episode (R90), by its code of Table 04-4: the source that began it, and those
that are asserted now (R82, R84). -/
structure LocalEp where
  target : Nat
  src : LocalSrc
  held : List LocalSrc
  phase : LPhase
  wdrop : Nat
  deriving DecidableEq, Repr

/-- Reset of device reach and the local episodes (chapter 04). -/
structure Rst where
  active : Bool
  sources : List RstSrc
  /-- 0: sources asserted. 4: steps 2 to 4 of Table 04-3 run. 8: waiting for the 1 ms of
  RST_OUT_N. 9: complete. -/
  step : Nat
  counted : Bool
  minLowDone : Bool
  /-- Steps 3 and 4 of Table 04-3 have completed. -/
  step4Done : Bool
  /-- The trim copy being read, 0 = A, 1 = B (R94). -/
  trimCopy : Option Nat
  porSeen : Bool
  locals : List LocalEp
  /-- The device safe state in force and its code (R23). -/
  safe : Option Nat
  deriving DecidableEq, Repr

/-- Which qualification of R104 runs. -/
inductive Qual where
  | off | trim | hrc1 | xtal | pll | done
  deriving DecidableEq, Repr

/-- Clocks: qualification, the monitor's latest results, CLOCK_HOLD, gates (chapter 05). -/
structure Clk where
  qual : Qual
  hrc1Settling : Bool
  hrc2Settling : Bool
  /-- HRC_1 is stopped for the 10 us of R109, or both are for those of R103. -/
  hrc1Stopped : Bool
  hrc2Stopped : Bool
  monXH : Bool
  monHH : Bool
  monXH1 : Bool
  hold : Bool
  opening : List Nat
  /-- The next device-warm release stops both HRC oscillators first (R103). -/
  restartHrc : Bool
  deriving DecidableEq, Repr

/-! ### Memory, wear log and flash -/

/-- One tracker entry of a bank (R138): row, count, RTC of the first correction, RTC of the
latest counted one. -/
structure Track where
  row : Nat
  count : Nat
  first : Nat
  last : Nat
  deriving DecidableEq, Repr

/-- A corrected stored-bit position seen in a row (R140): bank, row, bit, RTC. -/
structure BitErr where
  bank : Nat
  row : Nat
  bit : Nat
  rtc : Nat
  deriving DecidableEq, Repr

/-- A running column repair (R140): bank, sub-array, stored-bit position, next row. -/
structure ColRep where
  bank : Nat
  sub : Nat
  bit : Nat
  row : Nat
  deriving DecidableEq, Repr

/-- A droveway request that waits at the hub, its kind and byte mask; of a request from the triad the
lanes that take its response and the sequence number of its transaction. `named`: a command named the
initiator, which takes the response itself. -/
structure HubItem where
  req : BusReq
  named : Bool
  kind : BitVec 4
  mask : Nat
  seq : BitVec 32
  lanes : List LaneId
  deriving DecidableEq, Repr

/-- Memory beside its bytes (chapter 06). Banks by their number 0 to 5. -/
structure Memx where
  tracks : List (Nat × Track)
  bitErrs : List BitErr
  /-- Rows due for remap, oldest first: bank and row. -/
  dueRows : List (Nat × Nat)
  /-- Columns due for repair: bank, sub-array, bit. -/
  dueCols : List (Nat × Nat × Nat)
  /-- Rows steered to spare rows: bank, row, spare. -/
  remaps : List (Nat × Nat × Nat)
  colReps : List ColRep
  /-- The next word of each bank's scrub. -/
  scrub : List (Nat × Nat)
  /-- Poisoned 256-bit words of shared and communication memory, by address / 32. -/
  poisoned : List Nat
  /-- The stored bits in error of the words that have any (R126, R133), by the memory key of the word. -/
  upsets : List (Nat × List Nat)
  /-- Region table writes that wait for the next boundary (R143, R170). -/
  rgnPend : List (Nat × Word)
  hubQ : List HubItem
  /-- Posted-write credits in use: initiator, target, number. -/
  credits : List (Nat × Nat × Nat)
  /-- The initiator that each target granted last (R149). -/
  granted : List (Nat × Nat)
  deriving DecidableEq, Repr

/-- A wear log entry (Table 01-8). -/
structure WearE where
  seq : Nat
  time : Nat
  kind : Nat
  unit : Nat
  detail : Nat
  deriving DecidableEq, Repr

/-- A stray history record (Table 08-5). -/
structure StrayE where
  seq : Nat
  time : Nat
  core : Nat
  lane : Nat
  cause : Nat
  deriving DecidableEq, Repr

/-- The wear register file in AON and the stray histories beside it (R33, R199). -/
structure Wear where
  file : List WearE
  history : List StrayE
  /-- Entries and records whose flash write is outstanding. -/
  pendWear : List WearE
  pendStray : List StrayE
  deriving DecidableEq, Repr

/-- A flash operation that the boot/xSPI controller holds (R463). -/
inductive FlashOp where
  | wear (e : WearE)
  | stray (e : StrayE)
  | eraseSector (cls : Nat) (addr : Nat)
  | program (cls : Nat) (addr : Nat) (bytes : List Byte)
  deriving DecidableEq, Repr

/-- The boot/xSPI controller's operations: waiting, running, and whether the running one is a
retry (R463). -/
structure Flc where
  waiting : List FlashOp
  running : Option FlashOp
  retry : Bool
  /-- Consecutive time-outs of the current start-up read (R153). -/
  timeouts : Nat
  /-- A start-up read's retries were exhausted. -/
  dead : Bool
  deriving DecidableEq, Repr

/-! ### Configuration sets -/

/-- One loaded section: TYPE, INST, and its bytes (Table 07-5). -/
structure Sect where
  type : Nat
  inst : Nat
  crc : Nat
  bytes : List Byte
  deriving DecidableEq, Repr

/-- A configuration set (R166): the slot and header it was loaded from and its sections. -/
structure CfgSet where
  loaded : Bool
  slot : Bool
  gen : Nat
  safety : Bool
  lockFlag : Bool
  format : Nat
  toolOk : Bool
  secs : List Sect
  /-- The words of the register load list, in the set's bank (R157). -/
  rwl : RegMap
  /-- The RW entries held with a shadow set (R157). -/
  heldRw : List (Nat × Word)
  deriving DecidableEq, Repr

/-- The two sets and the start-up's progress (chapter 07). -/
structure Boot where
  act : CfgSet
  shd : CfgSet
  /-- Slots still candidates of R159, false = A. -/
  cand : List Bool
  /-- The directory copy in use, if one is valid. -/
  dirOk : Bool
  /-- A running shadow load's slot. -/
  loading : Option Bool
  armed : Bool
  /-- The armed swap goes back to the previous set (R287). -/
  swapBack : Bool
  /-- The shadow set is the one that the latest swap left, unconfirmed (R173). -/
  prevUnconf : Bool
  trialStart : Nat
  /-- Units whose load failed its verification twice (R161), by target code. -/
  faultUnits : List Nat
  /-- Cores that passed their latest self-test, bit per core. -/
  coreOk : BitVec 4
  shepOk : BitVec 2
  fieldTries : Nat
  deriving DecidableEq, Repr

/-! ### The triad -/

/-- A transaction (Table 08-2). -/
structure Txn where
  kind : BitVec 4
  addr : Nat
  data : BitVec 64
  mask : Nat
  poison : Bool
  seq : BitVec 32
  /-- The lane serves this READ from its held-read buffer (R145): it is voted and not made. -/
  held : Bool
  deriving DecidableEq, Repr

/-- What a READ's response does in its lane: destination register, byte offset within the word,
size code, sign extension, and for IN and RECV the flags they set. -/
inductive ReadDest where
  | load (d : GReg) (lane size : Nat) (signed : Bool)
  | item (d : GReg) (signed : Bool)
  | recv (d : GReg)
  deriving DecidableEq, Repr

/-- What a lane is doing. -/
inductive LExec where
  /-- Between END and the next INPUT, or no program runs. -/
  | idle
  | run
  | waitRead (seq : BitVec 32) (d : ReadDest)
  /-- END waits for the commit responses; `disp`: the dispatcher's own END (R245). -/
  | waitEnd (disp : Bool)
  /-- END was sent. -/
  | ended
  /-- The lane took a trap to safe state and waits for its preceding releases (R250). -/
  | toSafe
  /-- A PRIV_DED lane after its poisoned END (R249). -/
  | stopped
  | halted
  deriving DecidableEq, Repr

/-- A lane: registers, sequence counter and the traffic it has sent (chapters 08, 09). Its core
and its voting state stand in TRI_STAT. -/
structure Lane where
  g : Vector DWord 32
  ib : Word
  cb : Word
  sb : Word
  pc : Word
  lk : Word
  st : BitVec 16
  seq : BitVec 32
  exec : LExec
  sig : DWord
  poison : Bool
  /-- Index of the next unit that the dispatcher considers. -/
  unit : Nat
  /-- Indices of the units whose due flag is set (R261). -/
  due : List Nat
  out : List Txn
  held : List (Nat × DWord)
  /-- Commits of the cycle without their response, by sequence number and address. -/
  commits : List (BitVec 32 × Nat)
  /-- The first failing commit of the cycle: address and response code. -/
  commitErr : Option (Nat × Nat)
  /-- The pending READs that are prefetches, by sequence number. -/
  prefetch : List (BitVec 32)
  /-- Live prime entries of the core's copy: entry address, address of the M byte, bit (R283). -/
  primes : List (Nat × Nat × Nat)
  /-- PRIV_DED is taken at the start of the next EXECUTE (R134). -/
  dedNext : Option Nat
  deriving DecidableEq, Repr

/-- The verdict on a sequence number: the transaction that is released; whether Shepherd_1 and
Shepherd_2 have reached different verdicts, and whether they have exchanged them (R185). -/
structure Verdict where
  txn : Txn
  split : Bool
  exchanged : Bool
  deriving DecidableEq, Repr

/-- A voting window (R182): the entries of the skew buffers of Shepherd_1 and of Shepherd_2 (R206), the
verdict, whether the read was already made on the leading lane's request (R187) and whether the
transaction has been released. -/
structure Win where
  seq : BitVec 32
  arr : List (LaneId × Txn)
  arr2 : List (LaneId × Txn)
  verdict : Option Verdict
  made : Option Txn
  released : Bool
  deriving DecidableEq, Repr

/-- A read response on its way to the lanes (R189): what the replication buffer of Shepherd_1 holds,
and in `twin` the code, EFFECT flag and data in that of Shepherd_2. -/
structure RdResp where
  seq : BitVec 32
  lanes : List LaneId
  code : Nat
  effect : Bool
  data : DWord
  twin : Nat × Bool × DWord
  addr : Nat
  kind : BitVec 4
  deriving DecidableEq, Repr

/-- The Shepherds and what the boundary has to do for the triad (chapter 08). -/
structure Triad where
  wins : List Win
  resps : List RdResp
  /-- A run-time triple has been presented and not yet flagged (R209). -/
  injPending : Bool
  /-- The voting lanes' END has been released. -/
  endReleased : Bool
  /-- Latent divergences: lane and CYC_COUNT (R198). -/
  latents : List (LaneId × Nat)
  /-- The mode that the latest SYSOP of the cycle requests (R211). -/
  modeReq : Option (BitVec 2)
  /-- A set's request for the next boundary (R211). -/
  cfgReq : Option (BitVec 2)
  /-- Lanes whose core was retired and that await the reserve or PAIR. -/
  lost : List LaneId
  /-- Lanes copied at this boundary whose self-test runs: lane, and the core tested. -/
  testing : List (LaneId × CoreId)
  /-- Lanes that wait for a full copy at the next boundary (R205, R212). -/
  joinWait : List LaneId
  /-- Cores retired since the latest boundary, to be switched off there (R71). -/
  retireOff : List CoreId
  safeRefused : Bool
  deriving DecidableEq, Repr

/-- The cycle (chapter 10) beside its registers. -/
structure Cyc where
  count : BitVec 64
  started : Bool
  skipNow : Bool
  skipNext : Bool
  /-- CYC_LIMIT at the boundary that began the cycle (R274). -/
  limit : Nat
  /-- ns of island HUB at the boundary that began the cycle. -/
  startNs : Nat
  ts : BitVec 64
  train : BitVec 64
  mode : BitVec 2
  /-- Output items with their written flag set (R263). -/
  written : List Nat
  /-- Engine items written in the cycle: their destination and index (R265). -/
  engWritten : List (Nat × Nat)
  /-- The last value each input item delivered with quality good (R256). -/
  lastGood : List (Nat × Word)
  /-- Field outputs and the close request that the next COMMIT drives to their safe state
  (R285). -/
  unmapped : List (Nat × Nat)
  /-- Engine items written in the running cycle: base address and the bytes that the publish
  buffer holds (R265). -/
  pub : List (Nat × List Byte)
  /-- What the other receive banks hold for the next INPUT: address and bytes (R255). -/
  rx : List (Nat × List Byte)
  /-- Where a cycle boundary waits for a self-test after a copy: 0 nowhere, 1 after a substitution,
  2 after a reintegration, 3 after the copy of a joining or new independent lane (R204, R212). -/
  stage : Nat
  /-- The boundary's one full copy has been made (R205). -/
  copied : Bool
  /-- The finding of the boundary's command about state word programs. -/
  progOk : Bool
  /-- The standby sweep of this boundary: the first pattern that was missed, and by which Shepherds (R443). -/
  sweepMiss : Option (Nat × BitVec 2)
  deriving DecidableEq, Repr

/-- Time counters that the clocks drive: ns of island HUB (from step 9 of Table 04-3), of SIGNAL
since its release, of the episode, and the train time of the time unit (R361). -/
structure Now where
  hubRun : Bool
  hubNs : Nat
  sigNs : Nat
  epNs : Nat
  trainNs : Nat
  /-- What has passed of the next ns of train time, in 10^-9 ns. -/
  trainFrac : Nat
  deriving DecidableEq, Repr
/-! ### The field die and the barrier link (chapter 11) -/

/-- The content of a COMMIT or REFRESH frame (Table 11-2). -/
structure OutImg where
  seq : Nat
  val : BitVec 16
  qg : BitVec 16
  bl : BitVec 2
  cyc : Word
  deriving DecidableEq, Repr

/-- A command frame on the barrier link (Table 11-1). A LOAD frame stands for the whole load:
the configuration registers and the substitutions (R311): KIND, UNIT and DETAIL of each. A COMMIT or
REFRESH frame is its 16 bytes (Table 11-2). -/
inductive LinkFrame where
  | reset
  | load (cfg : RegMap) (subs : List (Nat × Nat × Nat))
  | commit (bytes : List Byte)
  | refresh (bytes : List Byte)
  | safe
  deriving DecidableEq, Repr

/-- A status frame (R293): the words of Table 11-6 by register address, the quality of the
inputs, the latches of FLD_STAT, events, and substitutions to report: KIND, UNIT, DETAIL. -/
structure StatusFrame where
  words : RegMap
  diGood : BitVec 32
  timeout : Bool
  safeLatch : Bool
  evts : BitVec 10
  subs : List (Nat × Nat × Nat)
  deriving DecidableEq, Repr

/-- A spare front end (R296). -/
structure Spare where
  bad : Bool
  used : Bool
  input : Nat
  fails : Nat
  deriving DecidableEq, Repr

/-- An output of the field die (R299 to R303). -/
structure FdOut where
  latched : Bool
  seenZero : Bool
  short : Bool
  openLoad : Bool
  hot : Bool
  stuck : Bool
  resvUsed : Bool
  drift2 : Bool
  pulsing : Bool
  /-- Consecutive comparisons above the drift level, per active segment. -/
  drift : List (Nat × Nat)
  /-- The drifted segment that the reserve is replacing, and the one that it has replaced (R302). -/
  handover : Option Nat
  off : Option Nat
  deriving DecidableEq, Repr

/-- Where the brake loop stands (R305, R307). -/
inductive LoopSt where
  | opened | closeHs | closeExt | closeLs | closed | testHs | testLs | fault
  deriving DecidableEq, Repr

/-- The field die. `cfg` holds the configuration registers as received at the latest reload. -/
structure Fd where
  cfgd : Bool
  /-- The latest LOAD frames arrived whole: the answer to them matches (R161, R289). -/
  loadOk : Bool
  cfg : RegMap
  timedOut : Bool
  /-- The RC oscillator and the bit clock differ by more than 5 %: the link counts as silent (R115). -/
  oscBad : Bool
  toRecord : Bool
  safeLatch : Bool
  img : OutImg
  cnt : Vector Nat 32
  taken : Vector Nat 32
  filt : BitVec 32
  raw : BitVec 32
  feFails : Vector Nat 32
  diFault : BitVec 32
  spares : Vector Spare 4
  testIdx : Nat
  /-- The filter of this input holds for one sample (R296). -/
  holdInput : Option Nat
  outs : Vector FdOut 16
  loop : LoopSt
  hsOn : Bool
  lsOn : Bool
  demandMet : Bool
  extOpen : Bool
  loopFault : Nat
  testLsNext : Bool
  latched : Bool
  first : Nat
  zeroSeen : Bool
  mv : Nat
  temp : Int
  evts : BitVec 10
  subs : List (Nat × Nat × Nat)
  deriving DecidableEq, Repr

/-- The barrier link and the compute die's side of it. -/
structure Link where
  toField : List LinkFrame
  toComp : List StatusFrame
  /-- The compute die's copy of the latest COMMIT content (R290). -/
  img : OutImg
  /-- The reload has been acknowledged. -/
  acked : Bool
  /-- The bank that receives status frames, and the bank of the running cycle (R293, R255). -/
  rx : Option StatusFrame
  bank : Option StatusFrame
  deriving DecidableEq, Repr
/-! ### Sigma-delta capture (chapter 12) -/

/-- A value on its way through the engine: the stage that takes it next (0 to 5 half-band, 6 FIR),
the value, whether a stage saturated on its way, and its sample instant in SIG clocks. -/
structure SigWork where
  stage : Nat
  value : Int
  sat : Bool
  inst : Nat
  deriving DecidableEq, Repr

/-- A result as the receive bank holds it: value, count, sample instant, SIG_CH_n_STAT. -/
structure SigRes where
  value : Int
  count : Nat
  inst : Nat
  stat : Word
  deriving DecidableEq, Repr

/-- A half-band stage: its delay line, newest first, whether the next input gives an output, and whether
the input before it came with a saturation. -/
structure HalfBand where
  line : List Int
  odd : Bool
  sat : Bool
  deriving DecidableEq, Repr

/-- A channel: the latest bits as +1 and -1, newest first, and the latest bit of all; sinc3 outputs that
wait; the stages; the engine clocks already spent on the next output; results since the restart;
single-cycle conversions. -/
structure SigCh where
  hist : List Int
  last : Option Int
  queue : List SigWork
  work : List SigWork
  hb : Vector HalfBand 6
  fir : List Int
  spent : Nat
  count : Nat
  /-- Consecutive windows within 2 %. -/
  goodWin : Nat
  converting : Bool
  /-- A synchronisation event asks for a conversion (R327). -/
  asked : Bool
  /-- A result that waits for the group (R326). -/
  held : Option SigRes
  bank : Option SigRes
  snap : Option SigRes
  deriving DecidableEq, Repr

/-- The divider of a clock output (R313): DIV in force and a SIG clock at which a period begins, none while
it is off; a change of EN or DIV, with the SIG clock of the falling edge from which it holds. -/
structure ClkOut where
  cur : Option (Nat × Nat)
  next : Option (Nat × Option (Nat × Nat))
  deriving DecidableEq, Repr

/-! ### Ethernet, process data and train time (chapter 13) -/

/-- A frame in an egress queue: port, priority queue, the cells of the packet buffer partition that hold
it, the TS in ns and the port of its arrival. -/
structure QEnt where
  port : Nat
  prio : Nat
  cells : List Nat
  inNs : Nat
  inPort : Nat
  frame : EthFrame
  deriving DecidableEq, Repr

/-- The switch beside its registers: learned entries (MAC, VID, port), egress queues, the flooding
of the present millisecond per port (millisecond, bytes), the duplicate tables of both PRP pairs
(source, sequence number), oldest first, their send counters and supervision frames sent, and the
latest frame that each port sent. -/
structure Eth where
  learned : List (Nat × Nat × Nat)
  queue : List QEnt
  flood : Vector (Nat × Nat) 5
  dup : Vector (List (Nat × Nat)) 2
  prpSeq : Vector Nat 2
  supv : Vector Nat 2
  sent : Vector (Option EthFrame) 5
  deriving DecidableEq, Repr

/-- A frame that the internal port sends; of process and message data with the address that it is sent to
next; of a peer-delay response the clock that it answers and its follow-up. -/
inductive NetTx where
  | pd (f : PdFrame) (hop : Nat)
  | md (m : MdMsg) (hop : Nat)
  | delayReq (m : PtpMsg)
  | pdelayReq (m : PtpMsg)
  | pdelayResp (peer : Nat) (m : PtpMsg) (followUp : Option PtpMsg)
  | arpReply (ip mac : Nat)
  | arpRequest (ip : Nat)
  | gratuitousArp (ip : Nat)
  | echoReply (dst : Nat)
  | membership (groups : List Nat)
  | heartbeat (r : HbRecord)
  deriving DecidableEq, Repr

/-- A session (R344 to R350): the address bound to its PEER; the sequence counter, next to send or
last accepted, and whether any is accepted; SSN likewise; whether its item has been handed over
since it was bound or loaded, and the quality of the latest handover; what the latest accepted
frame brought (us, sequence counter, SSN), and the same as of INPUT; the first copy of a DUAL
frame with its lane. -/
structure Sess where
  addr : Option Nat
  anySeq : Bool
  seq : Nat
  ssn : Nat
  handed : Bool
  qual : Bool
  acc : Nat × Nat × Nat
  snap : Nat × Nat × Nat
  dual : Option (Bool × PdFrame)
  deriving DecidableEq, Repr

/-- A directory entry (Table 13-6). -/
structure DirE where
  valid : Bool
  dev : Nat
  ip : Nat
  consist : Nat
  vehicle : Nat
  deriving DecidableEq, Repr

/-- A received message: its slot of the queue, length, sender's directory index and address,
session, and whether RECV took it in the running cycle. -/
structure RMsg where
  slot : Nat
  len : Nat
  sender : Nat
  ip : Nat
  sess : Nat
  taken : Bool
  deriving DecidableEq, Repr

/-- The process data engine beside its registers. -/
structure Pde where
  sess : List Sess
  dir : List DirE
  /-- The copied image that waits for a boundary: topology counts and entries (R349). -/
  image : Option (Nat × Nat × List DirE)
  imageOfs : Nat
  /-- The COMMIT phase of the directory commit's cycle has ended: the image may be copied (R349). -/
  imageDue : Bool
  /-- Messages that wait in the send queues: buffer address and length, oldest first. -/
  sendQ : List (List (Nat × Nat))
  recvQ : List (List RMsg)
  /-- Registered requests: send queue of KIND 0x03, sender's address, session (R355). -/
  reqs : List (Nat × Nat × Nat)
  /-- 'Mr' messages without a reply yet: send queue and session. -/
  waits : List (Nat × Nat)
  mdCount : Nat
  arp : List (Nat × Nat)
  reasm : List Nat
  /-- CYC_COUNT of the latest VSC_INT events (R460). -/
  vscInts : List Nat
  /-- The latest frame that the internal port sent. -/
  tx : Option NetTx
  deriving DecidableEq, Repr

/-- The time unit beside its registers: masters heard, the parent, the two-step Sync that waits for
its Follow_Up with the local time of its arrival, the latest Sync's origin time and arrival, the
outstanding Delay_Req per port (sequence number, departure), peer-delay responses that wait for
their follow-up, the measured delays, the counts of R363 and R364, what a command asked for, the TS
in us of the latest measurement used, Delay_Req messages sent, the value latched for TIM_NS_HI, and
train time as of INPUT. -/
structure Tim where
  masters : List Announce
  parent : Option Announce
  sync : Option (PtpMsg × Nat)
  t12 : Option (Nat × Int × Nat)
  reqs : Vector (Option (Nat × Nat)) 4
  pdelay : Vector (Option (PtpMsg × Nat)) 4
  delay : Vector (Option Int) 4
  within : Nat
  beyond : Nat
  acceptJump : Bool
  secset : Bool
  measUs : Nat
  reqSeq : Nat
  hiLatch : Nat
  snapNs : Nat
  deriving DecidableEq, Repr
/-! ### CAN FD (chapter 14) -/

/-- A transmit item beside its state in CAN_n_TXSTAT: the content that is or will be sent (words 0
to 18), a handover that came during arbitration with its quality, a cancel during arbitration. -/
structure CanItem where
  content : List Byte
  next : Option (List Byte × Bool)
  cancel : Bool
  deriving DecidableEq, Repr

/-- A live receive buffer: words 0 to 18, messages stored since the previous INPUT, and the TS of
the latest store; none before the first. -/
structure CanBuf where
  bytes : List Byte
  since : Nat
  stored : Option Nat
  deriving DecidableEq, Repr

/-- A controller beside its registers: whether it receives (it has joined, and waits for no
recessive bits), the TS of the latest start of frame, the filter section in force at it, the items,
live buffers, FIFO entries and the latest frame sent; the TS in ns of the end of the latest own
transmission; the secondary sample point in clocks after the edge (R369); the state as of INPUT. -/
structure Can where
  joined : Bool
  sofUs : Nat
  filter : List Byte
  items : Vector CanItem 3
  bufs : Vector CanBuf 64
  fifo : Vector (List Byte) 32
  tx : Option CanFrame
  lastEnd : Option Nat
  ssp : Option Nat
  snapState : Nat
  deriving DecidableEq, Repr
/-! ### The Drove bus (chapter 15) -/

/-- A reference: derived cycle start in DRV clocks, CYC, rank. -/
structure DrvRef where
  start : Int
  cyc : Nat
  rank : Nat
  deriving DecidableEq, Repr

/-- A slot: cycles since the latest acceptance (0 in the cycle of it), whether any, QG, CYC and start
in us of the latest accepted frame; for an own slot, whether it was handed over, with which
quality, and the copy to be sent with its QG. -/
structure DrvSlot where
  age : Nat
  any : Bool
  qg : Bool
  cyc : Nat
  us : Nat
  handed : Bool
  qual : Bool
  buf : List Byte
  bufQ : Bool
  deriving DecidableEq, Repr

/-- A channel beside its registers: own cycle start in DRV clocks; up to four measured intervals
per cycle, newest first, in DRV clocks times 360,360; the latest reference taken as timing; the
first of two references; ACTIVE or PASSIVE from the next cycle start; the reference used in this
cycle and whether one was in the previous; the cycle of the latest failed correction; cycles so far;
nodes heard in this and the previous cycle; cycles of BACKOFF left;
the crook's marks, blocks and coldstart window; slots, live and as of INPUT; the state as of INPUT;
the rank of the used reference as of INPUT; the latest frame sent. -/
structure Drv where
  c : Int
  meas : List Nat
  base : Option DrvRef
  first : Option DrvRef
  join : Bool
  passiveNext : Bool
  used : Option DrvRef
  failAt : Option Nat
  total : Nat
  heard : BitVec 32
  heardPrev : BitVec 32
  backoff : Nat
  marks : List Int
  blocks : List Nat
  coldWin : Bool
  slots : Vector DrvSlot 64
  snap : Vector DrvSlot 64
  snapState : Nat
  snapRank : Nat
  tx : List Byte
  deriving DecidableEq, Repr
/-! ### The Fold link (chapter 16) -/

/-- A station's input block as received: QUAL, words, TS in us of its IMGIN if any since the
station's load, MSG frames since the load, EVENT of the latest. -/
structure FlkIn where
  qual : Nat
  words : List Nat
  us : Option Nat
  msgs : Nat
  event : Nat
  deriving DecidableEq, Repr

/-- A station as the controller holds it beside FLK_ST_k: numbered, the UID bound to it,
consecutive misses, next SEQ, writes without acknowledgement (SEQ, window offset), tags in
quarantine, the latest output block (OSEQ, QUAL, words), inputs live and as of INPUT, LOST since
the previous INPUT and a logged error since then, both as of INPUT, and CYC_COUNT when it was LOST. -/
structure FlkSt where
  numbered : Bool
  uid : Option Nat
  miss : Nat
  seq : Nat
  writes : List (Nat × Nat)
  quar : List Nat
  out : Option (Nat × Nat × List Nat)
  live : FlkIn
  snap : FlkIn
  lost : Bool
  snapBad : Bool
  err : Bool
  snapErr : Bool
  lostCyc : Nat
  deriving DecidableEq, Repr

/-- A late error (R424): SEQ, station, code, CYC_COUNT bits 7:0, window offset. -/
structure LateErr where
  seq : Nat
  st : Nat
  code : Nat
  cyc : Nat
  addr : Nat
  deriving DecidableEq, Repr

/-- A running station load: station, 256-byte units sent, LSTART sent, second attempt, an abort
came after the commit point. -/
structure FlkLoad where
  st : Nat
  units : Nat
  started : Bool
  retry : Bool
  late : Bool
  deriving DecidableEq, Repr

/-- The bridge beside its registers: stations; reads under way (station, tag, request); reads that
wait for a tag; accesses that wait for a semaphore (its number, request), oldest first; the log;
a SUP is under way; enumeration is due or runs; the running load; output words that wait for
EXCHANGE (station, word, value, quality); the frames sent last, newest last, at most 32. -/
structure Flk where
  st : Vector FlkSt 16
  reads : List (Nat × Nat × HubItem)
  waitTag : List (Nat × HubItem)
  waitSem : List (Nat × HubItem)
  log : List LateErr
  supOut : Bool
  enumDue : Bool
  enumRun : Bool
  load : Option FlkLoad
  sent : List (List Byte)
  deriving DecidableEq, Repr

/-- What a ZT9 in outstation mode holds (R430 to R432): its number, per CTRL the latest CLAIM and ns
of its latest frame, the next expected SEQ and the latest applied OSEQ; the image as received,
whether a load is complete, whether the watchdog has expired, the output block. -/
structure Station where
  num : Option Nat
  claim : Vector Nat 2
  heardNs : Vector (Option Nat) 2
  nextSeq : Vector Nat 2
  oseq : Vector (Option Nat) 2
  image : List Host.Cell
  loaded : Bool
  expired : Bool
  out : Nat × Nat
  deriving DecidableEq, Repr
/-! ### The pair link (chapter 17) -/

/-- The pair unit beside its registers: SEQ of the next own record; per component of Table 17-1 the
TS in us since which its condition has held, and the components in effect; master at the end of the
previous cycle; no boundary has computed a claim yet; the latest valid record of each path with its
TS, link first; whether the latest Ethernet payload was valid; the record in use; standby sweeps and
the TS of the latest; CYC_COUNT at the latest INPUT; partner words as of INPUT; the latest record
sent. -/
structure Pair where
  seq : Nat
  since : Vector (Option Nat) 6
  eff : BitVec 6
  wasMaster : Bool
  first : Bool
  link : Option (List Byte × Nat)
  eth : Option (List Byte × Nat)
  ethOk : Bool
  used : Option (List Byte)
  stest : Nat
  stestUs : Nat
  snap : List (Nat × Bool)
  tx : List Byte
  deriving DecidableEq, Repr
/-! ### The event recorder (chapter 19) -/

/-- The recorder beside its registers: the SEQ of the latest snapshot, the environmental histogram
that the next snapshot carries, the event ring (operand, RTC, CYC), oldest first, the TS at which
the running period began, and the flash address of the snapshot being written. -/
structure RecSt where
  seq : Nat
  env : Nat
  ring : List (Nat × Nat × Nat)
  writing : Option Nat
  /-- Sectors that an ERASE has still to erase. -/
  erasing : Nat
  /-- WEAR_CONFLICT has been recorded (R35). -/
  wearConflict : Bool
  deriving DecidableEq, Repr
/-! ### The update unit (chapter 19) -/

/-- What the update unit is doing: an OPEN that erases, a WRITE or FETCH with the pages still to
program (flash address, bytes) and the result at its end, a CLOSE, a SETWRITE, a FETCH that reads: source,
offset, length, the next word to read, the answers (word, code, data). -/
inductive UpdJob where
  | open_
  | write (pages : List (Nat × List Byte)) (result : Nat)
  | close
  | setwrite (back : Nat)
  | fetch (src ofs len next : Nat) (got : List (Nat × Nat × DWord))
  deriving DecidableEq, Repr

/-- The update unit beside its registers: the 4 KB header buffer (an unlisted byte is
0xFF), the running job, its flash
operations not yet ended, whether one of them has started (the commit point), whether an abort came
after it, the scheduled activation: whether it is a restart, its train time in ns, its window in ms. -/
structure Upd where
  hdr : List Host.Cell
  job : Option UpdJob
  left : Nat
  begun : Bool
  late : Bool
  armed : Option (Bool × Nat × Nat)
  deriving DecidableEq, Repr
/-! ### The whole state -/

/-- The state of the ZT9 block. -/
structure State where
  /-- The commands that wait, oldest first. -/
  pending : List Instr
  /-- The registers of the windows and SYS_PINSTAT (Table 00-3). -/
  regs : RegMap
  /-- Memory bytes: shared, communication and retained memory by physical address, the private
  memory of core c at (c + 1) * 2^32 + physical address. -/
  mem : List Host.Cell
  /-- The bytes of the flash device, by flash offset. -/
  flash : List Host.Cell
  phys : Phys
  board : Board
  pins : Pins
  bkup : Bkup
  pwr : Pwr
  rst : Rst
  clk : Clk
  memx : Memx
  wear : Wear
  flc : Flc
  boot : Boot
  laneA : Lane
  laneB : Lane
  laneC : Lane
  triad : Triad
  cyc : Cyc
  now : Now
  fd : Fd
  link : Link
  /-- The channels of the signal unit. -/
  sig : Vector SigCh 12
  /-- SIG clocks at the latest INPUT (R328). -/
  sigAt : Nat
  /-- The clock outputs, and the channel whose slot of the engine's round comes next (R313, R320). -/
  clkOut : Vector ClkOut 3
  sigSlot : Nat
  eth : Eth
  pde : Pde
  tim : Tim
  can : Vector Can 4
  drv : Vector Drv 2
  flk : Flk
  station : Station
  pair : Pair
  recd : RecSt
  upd : Upd
  /-- The response code, the data, the tag and the EFFECT flag of the latest response to a request of
  a named initiator (R147, Table 06-4). -/
  resp : Resp
  rdata : BitVec 256
  rtag : Nat
  reff : Bool
  /-- MODEL'S OWN, not the spec's: how many free values have been used (Config.freeValue). -/
  freeCtr : Nat
  deriving DecidableEq, Repr

/-! ### Power-on -/

/-- A lane as device reset leaves it (R177, R216). -/
def Lane.reset : Lane :=
  { g := Vector.replicate 32 0, ib := 0, cb := 0, sb := 0, pc := 0, lk := 0, st := 0x0010
    seq := 0, exec := .idle, sig := 0xFFFFFFFFFFFFFFFF, poison := false, unit := 0, due := []
    out := [], held := [], commits := [], commitErr := none, prefetch := [], primes := []
    dedNext := none }

/-- A set that holds nothing. -/
def CfgSet.empty : CfgSet :=
  { loaded := false, slot := false, gen := 0, safety := false, lockFlag := false, format := 0
    toolOk := false, secs := [], rwl := [], heldRw := [] }

/-- An output image that nothing was handed over to. -/
def OutImg.zero : OutImg := { seq := 0, val := 0, qg := 0, bl := 0, cyc := 0 }

/-- An output that nothing has been diagnosed on. -/
def FdOut.reset : FdOut :=
  { latched := false, seenZero := false, short := false, openLoad := false, hot := false
    stuck := false, resvUsed := false, drift2 := false, pulsing := false, drift := []
    handover := none, off := none }

/-- The field die after a RESET frame: no microcode, configuration, substitutions or latches. -/
def Fd.reset : Fd :=
  { cfgd := false, loadOk := false, cfg := [], timedOut := false, oscBad := false, toRecord := false, safeLatch := false
    img := .zero, cnt := Vector.replicate 32 0, taken := Vector.replicate 32 0, filt := 0
    raw := 0, feFails := Vector.replicate 32 0, diFault := 0
    spares := Vector.replicate 4 { bad := false, used := false, input := 0, fails := 0 }
    testIdx := 0, holdInput := none, outs := Vector.replicate 16 .reset
    loop := .opened, hsOn := false, lsOn := false, demandMet := false, extOpen := false
    loopFault := 0, testLsNext := false, latched := false, first := 0, zeroSeen := false
    mv := 0, temp := 0, evts := 0, subs := [] }

/-- A channel that has been reset. -/
def SigCh.reset : SigCh :=
  { hist := [], last := none, queue := [], work := []
    hb := Vector.replicate 6 { line := [], odd := false, sat := false }
    fir := [], spent := 0, count := 0, goodWin := 0, converting := false, asked := false
    held := none, bank := none, snap := none }

/-- The switch after a reset. -/
def Eth.reset : Eth :=
  { learned := [], queue := [], flood := Vector.replicate 5 (0, 0), dup := Vector.replicate 2 []
    prpSeq := Vector.replicate 2 0, supv := Vector.replicate 2 0, sent := Vector.replicate 5 none }

/-- A session as after a load. -/
def Sess.fresh : Sess :=
  { addr := none, anySeq := true, seq := 0, ssn := 0, handed := false, qual := false
    acc := (0, 0, 0), snap := (0, 0, 0), dual := none }

/-- The process data engine after a reset. -/
def Pde.reset : Pde :=
  { sess := [], dir := [], image := none, imageOfs := 0, imageDue := false, sendQ := [], recvQ := [], reqs := []
    waits := [], mdCount := 0, arp := [], reasm := [], vscInts := [], tx := none }

/-- The time unit after a reset. -/
def Tim.reset : Tim :=
  { masters := [], parent := none, sync := none, t12 := none, reqs := Vector.replicate 4 none
    pdelay := Vector.replicate 4 none, delay := Vector.replicate 4 none, within := 0, beyond := 0
    acceptJump := false, secset := false, measUs := 0, reqSeq := 0, hiLatch := 0, snapNs := 0 }

/-- A controller after a reset. -/
def Can.reset : Can :=
  { joined := false, sofUs := 0, filter := []
    items := Vector.replicate 3 { content := [], next := none, cancel := false }
    bufs := Vector.replicate 64 { bytes := [], since := 0, stored := none }
    fifo := Vector.replicate 32 [], tx := none, lastEnd := none, ssp := none, snapState := 0 }

/-- A slot after a load. -/
def DrvSlot.reset : DrvSlot :=
  { age := 15, any := false, qg := false, cyc := 0, us := 0, handed := false, qual := false
    buf := [], bufQ := false }

/-- A channel after a reset. -/
def Drv.reset : Drv :=
  { c := 0, meas := [], base := none, first := none, join := false, passiveNext := false
    used := none, failAt := none, total := 0, heard := 0, heardPrev := 0
    backoff := 0, marks := [], blocks := [], coldWin := false, slots := Vector.replicate 64 .reset
    snap := Vector.replicate 64 .reset, snapState := 0, snapRank := 0, tx := [] }

/-- Nothing received. -/
def FlkIn.zero : FlkIn := { qual := 0, words := [], us := none, msgs := 0, event := 0 }

/-- A station after a reload of the bridge. -/
def FlkSt.reset : FlkSt :=
  { numbered := false, uid := none, miss := 0, seq := 0, writes := [], quar := [], out := none
    live := .zero, snap := .zero, lost := false, snapBad := false, err := false, snapErr := false
    lostCyc := 0 }

/-- The bridge after a reset. -/
def Flk.reset : Flk :=
  { st := Vector.replicate 16 .reset, reads := [], waitTag := [], waitSem := [], log := []
    supOut := false, enumDue := false, enumRun := false, load := none, sent := [] }

/-- The station side after a reset. -/
def Station.reset : Station :=
  { num := none, claim := Vector.replicate 2 0, heardNs := Vector.replicate 2 none
    nextSeq := Vector.replicate 2 0, oseq := Vector.replicate 2 none, image := [], loaded := false
    expired := false, out := (0, 0) }

/-- The pair unit after a reset. -/
def Pair.reset : Pair :=
  { seq := 0, since := Vector.replicate 6 none, eff := 0, wasMaster := false, first := true
    link := none, eth := none, ethOk := false, used := none, stest := 0, stestUs := 0, snap := []
    tx := [] }

/-- The recorder after a reset. -/
def RecSt.reset : RecSt :=
  { seq := 0, env := 1, ring := [], writing := none, erasing := 0, wearConflict := false }

/-- The update unit after a reset. -/
def Upd.reset : Upd :=
  { hdr := [], job := none, left := 0, begun := false, late := false, armed := none }

/-- The machine at power-on: VDD_AON rises, the POR source holds device-cold (R63, R76), no rail
has been reported good, nothing is stored anywhere. -/
def State.reset : State :=
  { pending := []
    regs := [(0x40000004, 0x000F2001#32)]
    mem := []
    flash := []
    phys := { ok := 0, fvsHigh := false, vbkLow := false, vbkDown := false, onVbk := true
              serrefOk := true, resetNLow := false, phyInt := 0 }
    board := { gradeW := false, density := 8, dummy := 20, suspend := true, octal := true }
    pins := { safeOut := false, rstOut := false, ppsOut := false }
    bkup := { rstcntM := 0, causePrev := 0, lastCycLo := 0, lastCycHi := 0, lastTime := 0
              stampValid := false, rtc := 0, app := Vector.replicate 16 0, pendSafe := 0
              lost := true }
    pwr := { ramp := [], appRamp := [], reload := [], join := [], drain20 := [], offAt := [] }
    rst := { active := true, sources := [.por], step := 0, counted := false, minLowDone := false
             step4Done := false, trimCopy := none, porSeen := false, locals := [], safe := none }
    clk := { qual := .off, hrc1Settling := false, hrc2Settling := false, hrc1Stopped := false
             hrc2Stopped := false, monXH := true, monHH := true, monXH1 := true, hold := false
             opening := [], restartHrc := false }
    memx := { tracks := [], bitErrs := [], dueRows := [], dueCols := [], remaps := []
              colReps := [], scrub := [], poisoned := [], upsets := [], rgnPend := []
              hubQ := [], credits := [], granted := [] }
    wear := { file := [], history := [], pendWear := [], pendStray := [] }
    flc := { waiting := [], running := none, retry := false, timeouts := 0, dead := false }
    boot := { act := .empty, shd := .empty, cand := [], dirOk := false, loading := none
              armed := false, swapBack := false, prevUnconf := false, trialStart := 0
              faultUnits := [], coreOk := 0, shepOk := 0, fieldTries := 0 }
    laneA := .reset
    laneB := .reset
    laneC := .reset
    triad := { wins := [], resps := [], injPending := false, endReleased := false, latents := []
               modeReq := none, cfgReq := none, lost := [], testing := [], joinWait := []
               retireOff := [], safeRefused := false }
    cyc := { count := 0, started := false, skipNow := false, skipNext := false, limit := 0
             startNs := 0, ts := 0, train := 0, mode := 0, written := [], engWritten := []
             lastGood := [], unmapped := [], pub := [], rx := [], stage := 0, copied := false
             progOk := true, sweepMiss := none }
    now := { hubRun := false, hubNs := 0, sigNs := 0, epNs := 0, trainNs := 0, trainFrac := 0 }
    fd := .reset
    link := { toField := [], toComp := [], img := .zero, acked := false, rx := none
              bank := none }
    sig := Vector.replicate 12 .reset
    sigAt := 0
    clkOut := Vector.replicate 3 { cur := none, next := none }
    sigSlot := 0
    eth := .reset
    pde := .reset
    tim := .reset
    can := Vector.replicate 4 .reset
    drv := Vector.replicate 2 .reset
    flk := .reset
    station := .reset
    pair := .reset
    recd := .reset
    upd := .reset
    resp := .okay
    rdata := 0
    rtag := 0
    reff := false
    freeCtr := 0 }

end Sys2Proof.Machine
end

