-- ==== Sys2Proof/Machine/Ops.lean ====
section
/-! DEFINITION. Sys2Proof/Machine/Ops.lean: the named operations over registers, memory, lanes and
responses that the meanings share. -/

namespace Sys2Proof

/-! ### Numbers of the enumerations -/

/-- The index of a paddock in PWR_PSTAT (Table 03-5). -/
def Paddock.index : Paddock → Nat
  | .bkup => 0 | .aon => 1 | .coreA => 2 | .coreB => 3 | .coreC => 4 | .coreD => 5
  | .common => 6 | .net => 7 | .bus => 8 | .signal => 9 | .flogic => 10 | .fpower => 11

/-- The number of a core: 0 = CORE_A to 3 = CORE_D. -/
def CoreId.num : CoreId → Nat
  | .a => 0 | .b => 1 | .c => 2 | .d => 3

/-- The paddock of a core. -/
def CoreId.paddock : CoreId → Paddock
  | .a => .coreA | .b => .coreB | .c => .coreC | .d => .coreD

/-- The core of a core paddock. -/
def Paddock.core : Paddock → Option CoreId
  | .coreA => some .a | .coreB => some .b | .coreC => some .c | .coreD => some .d
  | _ => none

/-- The number of a lane: 0 = A, 1 = B, 2 = C. -/
def LaneId.num : LaneId → Nat
  | .a => 0 | .b => 1 | .c => 2

/-- The code of Table 06-4. -/
def Resp.code : Resp → Nat
  | .okay => 0 | .uncorr => 1 | .perm => 2 | .decerr => 3 | .timeout => 4
  | .isolated => 5 | .target => 6

end Sys2Proof

namespace Sys2Proof.Machine

/-- What a meaning answers. -/
abbrev Out := Host.Outcome State Fault Refusal

/-! ### Register fields -/

/-- The value of a register field. -/
def State.fget (s : State) (f : Fld) : Nat := s.regs.fget f

/-- The state with a register field holding the low bits of `v`. -/
def State.fset (s : State) (f : Fld) (v : Nat) : State := { s with regs := s.regs.fset f v }

/-- A one-bit field as a Bool. -/
def State.flag (s : State) (f : Fld) : Bool := s.fget f = 1

/-- Set a one-bit field: an event bit or a status bit. -/
def State.raise (s : State) (f : Fld) : State := s.fset f 1

/-- Clear a field. -/
def State.lower (s : State) (f : Fld) : State := s.fset f 0

/-- A status bit that shows `b`. -/
def State.show (s : State) (f : Fld) (b : Bool) : State := s.fset f (bitNat b)

/-- A counter field that adds `n` and saturates (R478). -/
def State.bumpBy (s : State) (f : Fld) (n : Nat) : State :=
  s.fset f (min (s.fget f + n) (2 ^ f.width - 1))

/-- A counter field that adds 1 and saturates. -/
def State.bump (s : State) (f : Fld) : State := s.bumpBy f 1

/-- Apply `f` where `b` holds. -/
def State.when (s : State) (b : Bool) (f : State → State) : State := if b then f s else s

/-- The word of a register. -/
def State.regWord (s : State) (a : Nat) : Word := s.regs.word a

/-- The state with a register holding `v`. -/
def State.setReg (s : State) (a : Nat) (v : Word) : State := { s with regs := s.regs.setWord a v }

/-- Add 1 to a count word of the event recorder (Table 19-3); 22 to 31 are reserved. -/
def State.count (s : State) (c : Nat) : State := s.bump (REC_CNT_c_VAL c)

/-! ### Responses -/

/-- The response of a code. -/
def respOf (c : Nat) : Resp :=
  match c with
  | 0 => .okay | 1 => .uncorr | 2 => .perm | 3 => .decerr | 4 => .timeout | 5 => .isolated
  | _ => .target

/-- The state with the response of the request just handled. -/
def State.answer (s : State) (r : Resp) : State := { s with resp := r, rdata := 0 }

/-- The state with the data of the read just handled. -/
def State.answerData (s : State) (d : BitVec 256) : State := { s with resp := .okay, rdata := d }

/-! ### Free values -/

/-- A value that the spec leaves open, and the state after its use. -/
def State.free (s : State) : DWord × State :=
  (Config.freeValue s.freeCtr, { s with freeCtr := s.freeCtr + 1 })

/-! ### Paddocks, cores and lanes -/

/-- The PWR_PSTAT field of a paddock: 0 OFF, 1 RAMP, 2 ON, 3 DRAIN. -/
def pstat (p : Paddock) : Fld := ⟨0x40000100, 2 * p.index, 2⟩

/-- The PWR_REQ bit of a paddock. -/
def preq (p : Paddock) : Fld := ⟨0x40000104, p.index, 1⟩

/-- The PWR_MON.FAULT bit of a switched compute paddock (R64). -/
def pfault (p : Paddock) : Fld := ⟨0x40000108, 16 + (p.index - 2), 1⟩

/-- The core of a number. -/
def coreOf (n : Nat) : CoreId :=
  match n with
  | 0 => .a | 1 => .b | 2 => .c | _ => .d

/-- The cores in rising order. -/
def allCores : List CoreId := [.a, .b, .c, .d]

/-- The switched compute paddocks in the order of R64. -/
def seqOrder : List Paddock :=
  [.common, .coreA, .coreB, .coreC, .coreD, .net, .bus, .signal]

/-- The lane of a number. -/
def laneOf (n : Nat) : LaneId :=
  match n with
  | 0 => .a | 1 => .b | _ => .c

/-- The lanes in rising order. -/
def allLanes : List LaneId := [.a, .b, .c]

/-- A lane. -/
def State.lane (s : State) : LaneId → Lane
  | .a => s.laneA | .b => s.laneB | .c => s.laneC

/-- The state with a lane replaced. -/
def State.setLane (s : State) (l : LaneId) (x : Lane) : State :=
  match l with
  | .a => { s with laneA := x }
  | .b => { s with laneB := x }
  | .c => { s with laneC := x }

/-- The state with a lane changed by `f`. -/
def State.updLane (s : State) (l : LaneId) (f : Lane → Lane) : State :=
  s.setLane l (f (s.lane l))

/-- TRI_STAT.STATE of a lane: 0 voting, 1 stray, 2 absent, 3 independent. -/
def laneStateF (l : LaneId) : Fld := ⟨0x40010004, 8 + 2 * l.num, 2⟩

/-- TRI_STAT.CORE of a lane. -/
def laneCoreF (l : LaneId) : Fld := ⟨0x40010004, 2 * l.num, 2⟩

/-- TRI_STAT.RETIRED of a core. -/
def retiredF (k : CoreId) : Fld := ⟨0x40010004, 16 + k.num, 1⟩

/-- The core that carries a lane. -/
def State.coreOfLane (s : State) (l : LaneId) : CoreId := coreOf (s.fget (laneCoreF l))

/-- Does the lane vote? -/
def State.votes (s : State) (l : LaneId) : Bool := s.fget (laneStateF l) = 0

/-- Is the lane independent? -/
def State.indep (s : State) (l : LaneId) : Bool := s.fget (laneStateF l) = 3

/-- The voting lanes, lowest letter first. -/
def State.voting (s : State) : List LaneId := allLanes.filter s.votes

/-- The lanes that run program units: the voting and the independent ones. -/
def State.running (s : State) : List LaneId := allLanes.filter (fun l => s.votes l || s.indep l)

/-- Is the core retired? -/
def State.retired (s : State) (k : CoreId) : Bool := s.flag (retiredF k)

/-- The lane that a core carries, if it carries one: an absent lane is carried by no core. -/
def State.laneOn (s : State) (k : CoreId) : Option LaneId :=
  allLanes.find? (fun l => s.coreOfLane l = k ∧ s.fget (laneStateF l) ≠ 2)

/-- A core that is not retired and has passed its latest self-test counts towards the service
sets (Table 01-4). -/
def State.healthy (s : State) (k : CoreId) : Bool :=
  !s.retired k && s.boot.coreOk.getLsbD k.num && s.fget (pstat k.paddock) ≠ 0

/-- TRI_MODE.CUR (Table 08-6): 0 TRIAD, 1 PAIR, 2 PAIR_SOLO, 3 SOLO. -/
def State.mode (s : State) : Nat := s.fget TRI_MODE_CUR

/-! ### Memory -/

/-- Memory is a sparse map of bytes. An unlisted byte reads 0. DESIGN CHOICE (log entry 17): the spec gives no
power-on content, and phase S4 initialises every word before use. -/
def memDflt (_ : Nat) : Byte := 0

/-- The canonical form of memory. -/
def memWf (m : List Host.Cell) : Bool := smWf memDflt m

/-- An unlisted byte of the flash reads erased. -/
def flashDflt (_ : Nat) : Byte := 0xFF

/-- The canonical form of the flash. -/
def flashWf (m : List Host.Cell) : Bool := smWf flashDflt m

/-- `n` bytes from key `k` on, least significant first. -/
def mapBytes (d : Nat → Byte) (m : List Host.Cell) : Nat → Nat → List Byte
  | _, 0 => []
  | k, n + 1 => smGet d m k :: mapBytes d m (k + 1) n

/-- `m` with the bytes `bs` from key `k` on. -/
def mapPut (d : Nat → Byte) (m : List Host.Cell) (k : Nat) : List Byte → List Host.Cell
  | [] => m
  | b :: bs => mapPut d (smSet d m k b) (k + 1) bs

/-- One byte of memory. -/
def State.byteAt (s : State) (k : Nat) : Byte := smGet memDflt s.mem k

/-- `n` bytes of memory. -/
def State.memBytes (s : State) (k n : Nat) : List Byte := mapBytes memDflt s.mem k n

/-- A little-endian number of `n` bytes of memory. -/
def State.memLe (s : State) (k n : Nat) : Nat := ofLe (s.memBytes k n)

/-- The state with bytes of memory replaced. -/
def State.memPut (s : State) (k : Nat) (bs : List Byte) : State :=
  { s with mem := mapPut memDflt s.mem k bs }

/-- The state with a little-endian number of `n` bytes stored. -/
def State.memPutLe (s : State) (k n v : Nat) : State := s.memPut k (leBytes n v)

/-- The state with `n` bytes of memory unlisted. -/
def State.memClear (s : State) (k n : Nat) : State := { s with mem := smClear s.mem k n }

/-- `n` bytes of the flash device. -/
def State.flashBytes (s : State) (a n : Nat) : List Byte := mapBytes flashDflt s.flash a n

/-- A little-endian number of `n` bytes of the flash device. -/
def State.flashLe (s : State) (a n : Nat) : Nat := ofLe (s.flashBytes a n)

/-- Programming turns 1 bits of the flash into 0 bits and never back. -/
def flashAnd (m : List Host.Cell) (a : Nat) : List Byte → List Host.Cell
  | [] => m
  | b :: bs => flashAnd (smSet flashDflt m a (smGet flashDflt m a &&& b)) (a + 1) bs

/-- The flash with bytes programmed. -/
def State.flashProgram (s : State) (a : Nat) (bs : List Byte) : State :=
  { s with flash := flashAnd s.flash a bs }

/-- The flash with one 4 KB sector erased. -/
def State.flashErase (s : State) (a : Nat) : State :=
  { s with flash := smClear s.flash (a / 4096 * 4096) 4096 }

/-- The memory key of a private address on a core. -/
def privKey (k : CoreId) (a : Nat) : Nat := (k.num + 1) * 2 ^ 32 + a

/-- A private memory byte range of a core as the copier reads it. -/
def copyPriv (m : List Host.Cell) (src dst : CoreId) (lo n : Nat) : List Host.Cell :=
  let from_ := m.filter (fun p => privKey src lo ≤ p.1 && p.1 < privKey src lo + n)
  from_.foldl (fun acc p => smSet memDflt acc (p.1 - privKey src 0 + privKey dst 0) p.2)
    (smClear m (privKey dst lo) n)

/-- The lowest byte of its word that a request covers. -/
def HubItem.ofs (i : HubItem) : Nat :=
  match (List.range 32).find? (fun k => bitOf i.mask k) with
  | some k => k
  | none => 0

/-- The address of the first byte that a request covers. -/
def HubItem.at (i : HubItem) : Nat := i.req.addr + i.ofs

/-- The number of bytes that a request covers. -/
def HubItem.len (i : HubItem) : Nat := popCount 32 i.mask

/-- The bytes of a write, as a number. -/
def HubItem.val (i : HubItem) : Nat := i.req.data.toNat / 2 ^ (8 * i.ofs) % 2 ^ (8 * i.len)

/-- The response to a request of the lanes: a read's response goes on its way to its lanes (R189);
a commit's response is recorded in each lane, which keeps the first failing one (R247). PERM sets
its event bit (Table 06-7). `data`: the word of a read from the request's address on. -/
def State.hubReply (s : State) (i : HubItem) (code : Nat) (effect : Bool) (data : Nat) : State :=
  let s1 := s.when (code = 2) (fun x => x.raise MEM_EVT_PERM)
  if i.lanes.isEmpty then s1
  else if i.req.write then
    i.lanes.foldl (fun x l => x.updLane l (fun ln =>
      { ln with commits := ln.commits.filter (fun c => c.1 ≠ i.seq)
                commitErr := if code = 0 then ln.commitErr
                  else match ln.commitErr with
                    | some e => some e
                    | none => some (i.req.addr, code) })) s1
  else
    { s1 with triad := { s1.triad with resps := s1.triad.resps ++
        [{ seq := i.seq, lanes := i.lanes, code := code, effect := effect
           data := BitVec.ofNat 64 data, twin := (code, effect, BitVec.ofNat 64 data), addr := i.req.addr, kind := i.kind }] } }

/-- The answer to a read of the update unit's FETCH: word, code, data (R465). -/
def State.fetchGot (s : State) (k code : Nat) (data : DWord) : State :=
  match s.upd.job with
  | some (.fetch a o n m got) =>
    if m ≤ k then s else { s with upd := { s.upd with job := some (.fetch a o n m (got ++ [(k, code, data)])) } }
  | _ => s

/-- The response to a request: to its lanes, or with its tag and EFFECT flag to the initiator that the
command named (R147), or to the update unit's FETCH. `data` is the word of a read from the request's address on. -/
def State.replyNat (s : State) (i : HubItem) (code : Nat) (effect : Bool) (data : Nat) : State :=
  if i.kind = 9 then s.fetchGot i.seq.toNat code (BitVec.ofNat 64 data)
  else if i.named then
    let s1 := s.when (code = 2) (fun x => x.raise MEM_EVT_PERM)
    let s2 := { s1 with rtag := i.req.tag, reff := effect }
    if code = 0 then
      s2.answerData (BitVec.ofNat 256 (data / 2 ^ (8 * i.ofs) % 2 ^ (8 * i.len)))
    else s2.answer (respOf code)
  else s.hubReply i code effect data

/-- The response of a target that answers at most 8 bytes. -/
def State.reply (s : State) (i : HubItem) (code : Nat) (effect : Bool) (data : DWord) : State :=
  s.replyNat i code effect data.toNat

/-! ### Time -/

/-- TS: the 64-bit microsecond counter of R254. -/
def State.ts (s : State) : Nat := s.now.hubNs / 1000

/-- The condition of component `b` of the pair unit's claim holds or not from now on: the TS since which it
has held without a break (R435). -/
def State.pairHold (s : State) (b : Nat) (held : Bool) : State :=
  { s with pair := { s.pair with since := vecUpd s.pair.since b (fun t =>
      if held then some (t.getD s.ts) else none) } }

/-- The low 32 bits of the real-time counter (R68). -/
def State.rtc (s : State) : Nat := s.bkup.rtc.toNat

end Sys2Proof.Machine
end

