-- ==== Sys2Proof/Machine/Words.lean ====
section
/-! DEFINITION. Sys2Proof/Machine/Words.lean: the coded words of the memory banks: the stored bits in
error, what the decoders make of them, error tracking, and reads and writes of bytes through the codes
(R124 to R134, R138, R140). The bits that have flipped are state (`Memx.upsets`); the environment's
upsets reach them through SCRUB_STEP. -/

namespace Sys2Proof.Machine

/-! ### Banks and words (Table 06-2) -/

/-- The number of a bank. -/
def bankNum : Bank → Nat
  | .priv k => k.num | .shared => 4 | .comm => 5

/-- The bytes of a word of a bank: 64 bits in private memory, 256 bits elsewhere. -/
def bankWord : Bank → Nat
  | .priv _ => 8 | .shared => 32 | .comm => 32

/-- The bytes of a bank. -/
def bankSize : Bank → Nat
  | .priv _ => 0x400000 | .shared => 0x600000 | .comm => 0x200000

/-- The physical address of a byte offset of a bank. -/
def bankAddr : Bank → Nat → Nat
  | .priv _, o => 0x10000000 + o | .shared, o => o | .comm, o => 0x20000000 + o

/-- The memory key of a byte offset of a bank. -/
def bankKey : Bank → Nat → Nat
  | .priv k, o => privKey k (0x10000000 + o) | .shared, o => o | .comm, o => 0x20000000 + o

/-- The bank and offset of an address of shared or communication memory. -/
def burstBank (a : Nat) : Option (Bank × Nat) :=
  if a < 0x600000 then some (.shared, a)
  else if 0x20000000 ≤ a ∧ a < 0x20200000 then some (.comm, a - 0x20000000)
  else none

/-- The offset of the word that holds a byte offset. -/
def wordOff (bk : Bank) (off : Nat) : Nat := off / bankWord bk * bankWord bk

/-- The memory key of the word that holds a byte offset. -/
def wordKey (bk : Bank) (off : Nat) : Nat := bankKey bk (wordOff bk off)

/-- The stored bits of a word that a position may name: 72 in private memory; 336 in burst-coded
memory, and from 336 on the three address symbols, which a fault of the decoder or of a wordline
puts in error. -/
def bankBits : Bank → Nat
  | .priv _ => 72 | .shared => 360 | .comm => 360

/-! ### The bits in error -/

/-- No bit of a word that is not listed is in error. -/
def noBits (_ : Nat) : List Nat := []

/-- The stored bits in error of the word at a key, rising. -/
def State.upsetsAt (s : State) (key : Nat) : List Nat := smGet noBits s.memx.upsets key

/-- The state with the bits in error of a word. -/
def State.setUpsets (s : State) (key : Nat) (bits : List Nat) : State :=
  { s with memx := { s.memx with upsets := smSet noBits s.memx.upsets key bits } }

/-- A rising list with one number more, or without it where it was there: the bit flips. -/
def toggleBit (b : Nat) : List Nat → List Nat
  | [] => [b]
  | x :: t => if b < x then b :: x :: t else if b = x then t else x :: toggleBit b t

/-- The bits of a word flip. -/
def State.flipBits (s : State) (bk : Bank) (word : Nat) (bits : List Nat) : State :=
  let k := wordKey bk (word * bankWord bk)
  if word * bankWord bk < bankSize bk then
    s.setUpsets k ((bits.filter (fun b => b < bankBits bk)).foldl (fun l b => toggleBit b l)
      (s.upsetsAt k))
  else s

/-! ### The decoders (R126, R129, R132, R133) -/

/-- What a decoder finds in a word: nothing, bits that it corrects, wrong data that it takes for right
ones, an uncorrectable error, or a correction that would fall in an address symbol. -/
inductive Found where
  | clean
  | corrected (bits : List Nat)
  | wrong (data : Nat) (bits : List Nat)
  | uncorrectable
  | address
  deriving DecidableEq, Repr

/-- The finding of a decoder on a wide pattern. -/
def foundWide : Config.Wide → Found
  | .reported => .uncorrectable
  | .address => .address
  | .wrong d b => .wrong d b

/-- The number of 8-bit symbols that bits lie in, of 45. -/
def symbolsHit (bits : List Nat) : Nat :=
  ((List.range 45).filter (fun k => bits.any (fun b => b / 8 = k))).length

/-- The decoder of shared and communication memory: any error in up to 5 symbols is corrected (R126),
unless the correction falls in an address symbol (R129). -/
def decodeBurst (bank word : Nat) (bits : List Nat) (data : Nat) : Found :=
  if bits = [] then .clean
  else if symbolsHit bits ≤ 5 then
    if bits.any (fun b => 336 ≤ b) then .address else .corrected bits
  else foundWide (Config.burstWide bank word bits data)

/-- The decoder of private memory: one bit is corrected, two are detected (R133). -/
def decodePriv (core word : Nat) (bits : List Nat) (data : Nat) : Found :=
  match bits with
  | [] => .clean
  | [b] => .corrected [b]
  | [_, _] => .uncorrectable
  | _ => match foundWide (Config.privWide core word bits data) with
    | .address => .uncorrectable
    | f => f

/-- The data of the word that holds a byte offset, as stored without its errors. -/
def State.wordRaw (s : State) (bk : Bank) (off : Nat) : Nat := s.memLe (wordKey bk off) (bankWord bk)

/-- What the decoder finds in the word that holds a byte offset. -/
def State.finding (s : State) (bk : Bank) (off : Nat) : Found :=
  let k := wordKey bk off
  match bk with
  | .priv core => decodePriv core.num (off / 8) (s.upsetsAt k) (s.memLe k 8)
  | _ => decodeBurst (bankNum bk) (off / 32) (s.upsetsAt k) (s.memLe k 32)

/-- Is the word that holds a byte offset in poisoned form (R130)? Private memory has no such form. -/
def State.poisonedAt (s : State) (bk : Bank) (off : Nat) : Bool :=
  match bk with
  | .priv _ => false
  | _ => s.memx.poisoned.contains (wordKey bk off / 32)

/-- Does a finding leave no data? -/
def Found.bad : Found → Bool
  | .uncorrectable => true | .address => true
  | .clean => false | .corrected _ => false | .wrong _ _ => false

/-- Does a read of the word that holds a byte offset give no data? -/
def State.wordBad (s : State) (bk : Bank) (off : Nat) : Bool :=
  s.poisonedAt bk off || (s.finding bk off).bad

/-! ### Trackers and columns (R138, R140) -/

/-- 24 h in seconds. -/
def daySec : Nat := 86400

/-- Is a row due for remap? -/
def State.rowDue (s : State) (b row : Nat) : Bool :=
  s.memx.dueRows.any (fun x => x.1 = b ∧ x.2 = row)

/-- The entry of a bank to be replaced: the lowest count, the oldest among equals. -/
def trackVictim (l : List Track) : Option Track :=
  l.foldl (fun m t => match m with
    | none => some t
    | some x => if t.count < x.count ∨ (t.count = x.count ∧ t.first < x.first) then some t
                else some x) none

/-- A corrected error adds 1 to its row's entry, at most once per second; a count of 8 makes the
row due (R138). -/
def State.trackRow (s : State) (b row : Nat) : State :=
  match s.memx.tracks.find? (fun x => x.1 = b ∧ x.2.row = row) with
  | some x =>
    if x.2.last = s.rtc then s
    else
      let n := x.2.count + 1
      let s1 := { s with memx := { s.memx with tracks := s.memx.tracks.map (fun y =>
        if y.1 = b ∧ y.2.row = row then (b, { y.2 with count := n, last := s.rtc }) else y) } }
      if n = 8 ∧ !s1.rowDue b row then
        { s1 with memx := { s1.memx with dueRows := s1.memx.dueRows ++ [(b, row)] } }
      else s1
  | none =>
    let mine := (s.memx.tracks.filter (fun x => x.1 = b)).map (fun x => x.2)
    let new : Track := { row := row, count := 1, first := s.rtc, last := s.rtc }
    if mine.length < 16 then
      { s with memx := { s.memx with tracks := s.memx.tracks ++ [(b, new)] } }
    else
      match trackVictim mine with
      | none => s
      | some v =>
        let s1 := s.when (v.count ≥ 2) (fun x => x.raise MEM_EVT_TRACK_OVF)
        { s1 with memx := { s1.memx with
            tracks := s1.memx.tracks.filter (fun x => ¬(x.1 = b ∧ x.2.row = v.row)) ++ [(b, new)] } }

/-- Is the spare column of a sub-array used or claimed? -/
def State.colUsed (s : State) (b sub : Nat) : Bool :=
  s.wear.file.any (fun e => e.kind = 4 ∧ e.unit = b ∧ e.detail / 4096 = sub)
    || s.memx.dueCols.any (fun x => x.1 = b ∧ x.2.1 = sub)

/-- A corrected bit position of a row; four rows of a sub-array within 24 h make the column due. -/
def State.trackBit (s : State) (b row bit : Nat) : State :=
  let new : BitErr := { bank := b, row := row, bit := bit, rtc := s.rtc }
  let rest := s.memx.bitErrs.filter (fun e =>
    ¬(e.bank = b ∧ e.row = row ∧ e.bit = bit) ∧ (s.rtc + 2 ^ 32 - e.rtc) % 2 ^ 32 < daySec)
  let all := rest ++ [new]
  let s1 := { s with memx := { s.memx with bitErrs := all } }
  let rows := all.filter (fun e => e.bank = b ∧ e.bit = bit ∧ e.row / 512 = row / 512)
  if rows.length ≥ 4 ∧ !s1.colUsed b (row / 512) then
    { s1 with memx := { s1.memx with dueCols := s1.memx.dueCols ++ [(b, row / 512, bit)] } }
  else s1

/-! ### Recording (R129, R130, R138) -/

/-- Record a correction: CE, the bank's count, the row's tracker entry, the bit positions. -/
def State.recordCe (s : State) (bk : Bank) (off : Nat) (bits : List Nat) : State :=
  let b := bankNum bk
  let s1 := ((s.raise MEM_EVT_CE).bump (MEM_BANK_n_CECNT b)).trackRow b (off / 1024)
  bits.foldl (fun x n => x.trackBit b (off / 1024) n) s1

/-- Record an uncorrectable word: UE, the address of the word and the source (R130). Sources: 0 lane
read, 1 read-modify-write, 2 scrub, 3 engine read, 4 copy. -/
def State.recordUe (s : State) (bk : Bank) (off src : Nat) : State :=
  ((((s.raise MEM_EVT_UE).fset MEM_UEADDR_ADDR (bankAddr bk (wordOff bk off))).fset MEM_UEINFO_BANK
    (bankNum bk)).fset MEM_UEINFO_SRC src).bump MEM_UEINFO_COUNT |>.count 11

/-- Rewrite a burst-coded word in poisoned form (R130); in private memory the word stays as it is. -/
def State.poisonWord (s : State) (bk : Bank) (off : Nat) : State :=
  let k := wordKey bk off
  match bk with
  | .priv _ => s
  | _ =>
    let s1 := (s.memClear k 32).setUpsets k []
    if s1.memx.poisoned.contains (k / 32) then s1
    else { s1 with memx := { s1.memx with poisoned := s1.memx.poisoned ++ [k / 32] } }

/-- A read of the word that holds a byte offset: the finding recorded, and the data of the word, if it
has any. A word in poisoned form is recognised as such. -/
def State.wordRead (s : State) (bk : Bank) (off src : Nat) : State × Option Nat :=
  if s.poisonedAt bk off then (s, none)
  else match s.finding bk off with
    | .clean => (s, some (s.wordRaw bk off))
    | .corrected bits => (s.recordCe bk off bits, some (s.wordRaw bk off))
    | .wrong d bits => (s.when (!bits.isEmpty) (fun x => x.recordCe bk off bits),
        some (d % 2 ^ (8 * bankWord bk)))
    | .uncorrectable => ((s.recordUe bk off src).poisonWord bk off, none)
    | .address => (((s.recordUe bk off src).poisonWord bk off).raise MEM_EVT_ADDR_FAULT, none)

/-- Read a word, correct it and write it back with new check bits: a scrub step, or a word of a row
that is copied. -/
def State.wordScrub (s : State) (bk : Bank) (off src : Nat) : State :=
  let r := s.wordRead bk off src
  match r.2 with
  | none => r.1
  | some d =>
    if s.upsetsAt (wordKey bk off) = [] then r.1
    else (r.1.memPutLe (wordKey bk off) (bankWord bk) d).setUpsets (wordKey bk off) []

/-- Copy a row of a bank (R139, R140): the words with bits in error are decoded. -/
def State.rowCopy (s : State) (bk : Bank) (row : Nat) : State :=
  let lo := bankKey bk (1024 * row)
  (s.memx.upsets.filter (fun p => lo ≤ p.1 && p.1 < lo + 1024)).foldl
    (fun x p => x.wordScrub bk (1024 * row + (p.1 - lo)) 4) s

/-! ### Bytes through the codes -/

/-- Does every word that covers some of `n` bytes from an offset on hold no bit in error and no
poison? -/
def State.rangeClean (s : State) (bk : Bank) (off n : Nat) : Bool :=
  let k := bankKey bk off
  s.memx.upsets.all (fun p => p.1 + bankWord bk ≤ k || k + n ≤ p.1)
    && (match bk with
      | .priv _ => true
      | _ => s.memx.poisoned.all (fun w => 32 * w + 32 ≤ k || k + n ≤ 32 * w))

/-- The offsets of the words that cover some of `n` bytes from an offset on. -/
def wordOffs (bk : Bank) (off n : Nat) : List Nat :=
  let w := bankWord bk
  (List.range ((off + n + w - 1) / w - off / w)).map (fun i => (off / w + i) * w)

/-- Read `n` bytes of a bank: none where a word of them has no data. -/
def State.bankBytes (s : State) (bk : Bank) (off n src : Nat) : State × Option (List Byte) :=
  if s.rangeClean bk off n then (s, some (s.memBytes (bankKey bk off) n))
  else
    let r := (wordOffs bk off n).foldl (fun (p : State × Option (List Byte)) o =>
      let x := p.1.wordRead bk o src
      (x.1, match p.2, x.2 with
        | some l, some d => some (l ++ leBytes (bankWord bk) d)
        | _, _ => none)) (s, some [])
    (r.1, r.2.map (fun l => (l.drop (off % bankWord bk)).take n))

/-- Store `n` bytes within one word: a store of the whole word replaces what stands there, poison and
errors included; a smaller one reads the word and writes nothing where it has no data (R131, R133). -/
def State.wordStore (s : State) (bk : Bank) (off n v src : Nat) : State × Bool :=
  let k := wordKey bk off
  if n = bankWord bk then
    let s1 := (s.memPutLe k n v).setUpsets k []
    ({ s1 with memx := { s1.memx with poisoned := match bk with
        | .priv _ => s1.memx.poisoned
        | _ => s1.memx.poisoned.filter (fun w => w ≠ k / 32) } }, true)
  else
    let r := s.wordRead bk off src
    match r.2 with
    | none => (r.1, false)
    | some d =>
      if s.upsetsAt k = [] then (r.1.memPutLe (bankKey bk off) n v, true)
      else (((r.1.memPutLe k (bankWord bk) d).memPutLe (bankKey bk off) n v).setUpsets k [], true)

/-- Store the bytes `bs` from an offset on, word by word; a word that is only partly covered and has no
data keeps what it holds. -/
def State.bankPut (s : State) (bk : Bank) (off src : Nat) (bs : List Byte) : State :=
  if s.rangeClean bk off bs.length then s.memPut (bankKey bk off) bs
  else
    (wordOffs bk off bs.length).foldl (fun x o =>
      let lo := max o off
      let hi := min (o + bankWord bk) (off + bs.length)
      (x.wordStore bk lo (hi - lo) (ofLe ((bs.drop (lo - off)).take (hi - lo))) src).1) s

/-- Bytes of shared or communication memory as an engine reads them (R130). -/
def State.engineRead (s : State) (a n : Nat) : State × Option (List Byte) :=
  match burstBank a with
  | some (bk, off) => s.bankBytes bk off n 3
  | none => (s, some (s.memBytes a n))

/-- Bytes of shared or communication memory as an engine or the copier writes them (R131). -/
def State.burstPut (s : State) (a : Nat) (bs : List Byte) : State :=
  match burstBank a with
  | some (bk, off) => s.bankPut bk off 1 bs
  | none => s.memPut a bs

/-- A little-endian number written by an engine. -/
def State.burstPutLe (s : State) (a n v : Nat) : State := s.burstPut a (leBytes n v)

/-- Bytes of a core's private memory as the loader or the migration writes them. -/
def State.privPut (s : State) (k : CoreId) (a : Nat) (bs : List Byte) : State :=
  s.bankPut (.priv k) (a - 0x10000000) 1 bs

/-- A number of `n` bytes of private memory as a lane reads it from a word with data. -/
def State.privVal (s : State) (k : CoreId) (a n : Nat) : Nat :=
  match s.finding (.priv k) (a - 0x10000000) with
  | .wrong d _ => d / 2 ^ (8 * (a % 8)) % 2 ^ (8 * n)
  | _ => s.memLe (bankKey (.priv k) (a - 0x10000000)) n

/-- What reading a private word that has data leaves: its correction recorded. -/
def State.privSeen (s : State) (k : CoreId) (a : Nat) : State :=
  (s.wordRead (.priv k) (a - 0x10000000) 0).1

end Sys2Proof.Machine
end

