-- ==== Sys2Proof/Machine/Sets.lean ====
section
/-! DEFINITION. Sys2Proof/Machine/Sets.lean: reading a configuration set: its sections, the program
unit and instance table, the input and output maps, the migration table (chapters 07 and 10). -/

namespace Sys2Proof.Machine

/-- A little-endian number of `n` bytes at offset `o` of a byte list. -/
def leAt (bs : List Byte) (o n : Nat) : Nat := ofLe ((bs.drop o).take n)

/-- A big-endian number of `n` bytes at offset `o` of a byte list. -/
def beAt (bs : List Byte) (o n : Nat) : Nat := ofBe ((bs.drop o).take n)

/-- The bytes of the section of a TYPE and INST; empty where the set has none. -/
def CfgSet.sect (c : CfgSet) (t i : Nat) : List Byte :=
  match c.secs.find? (fun x => x.type = t ∧ x.inst = i) with
  | some x => x.bytes
  | none => []

/-- Does the set hold a section of a TYPE and INST? -/
def CfgSet.has (c : CfgSet) (t i : Nat) : Bool := c.secs.any (fun x => x.type = t ∧ x.inst = i)

/-- Cut a byte list into records of `n` bytes. -/
def records (n : Nat) : Nat → List Byte → List (List Byte)
  | 0, _ => []
  | k + 1, bs => bs.take n :: records n k (bs.drop n)

/-- A safety function is configured exactly when the active set has SAFETY = 1 (R447). -/
def State.safetyCfg (s : State) : Bool := s.boot.act.loaded && s.boot.act.safety

/-- The base of a half of private memory (R166). -/
def halfBase (n : Nat) : Nat := 0x10000000 + 0x200000 * n

/-- The number of the active set, 0 or 1. -/
def State.actSet (s : State) : Nat := s.fget BOOT_STAT_ACTIVE_SET

/-- The base of the active half. -/
def State.actBase (s : State) : Nat := halfBase s.actSet

/-- The program unit and instance table of a set (TYPE 0x0003). -/
def CfgSet.prog (c : CfgSet) : List Byte := c.sect 3 0

/-- UNITS of Table 10-2. -/
def CfgSet.units (c : CfgSet) : Nat := leAt c.prog 6 2
/-- INSTS. -/
def CfgSet.insts (c : CfgSet) : Nat := leAt c.prog 8 2
/-- CODE_OFS. -/
def CfgSet.codeOfs (c : CfgSet) : Nat := leAt c.prog 0x0C 4
/-- CODE_LEN. -/
def CfgSet.codeLen (c : CfgSet) : Nat := leAt c.prog 0x10 4
/-- CONST_OFS. -/
def CfgSet.constOfs (c : CfgSet) : Nat := leAt c.prog 0x14 4
/-- CONST_LEN. -/
def CfgSet.constLen (c : CfgSet) : Nat := leAt c.prog 0x18 4
/-- STACK_OFS. -/
def CfgSet.stackOfs (c : CfgSet) : Nat := leAt c.prog 0x1C 4
/-- STACK_LEN. -/
def CfgSet.stackLen (c : CfgSet) : Nat := leAt c.prog 0x20 4
/-- XAREA_OFS. -/
def CfgSet.xOfs (c : CfgSet) : Nat := leAt c.prog 0x24 4
/-- IN_BASE. -/
def CfgSet.inBase (c : CfgSet) : Nat := leAt c.prog 0x28 4
/-- IN_ITEMS. -/
def CfgSet.inItems (c : CfgSet) : Nat := leAt c.prog 0x2C 2
/-- OUT_ITEMS. -/
def CfgSet.outItems (c : CfgSet) : Nat := leAt c.prog 0x2E 2
/-- OUT_BASE. -/
def CfgSet.outBase (c : CfgSet) : Nat := leAt c.prog 0x30 4

/-- A unit entry (Table 10-3). -/
structure UnitE where
  id : Nat
  entry : Nat
  inst : Nat
  cb : Nat
  period : Nat
  phase : Nat
  cls : Nat
  deriving DecidableEq, Repr

/-- Unit entry `i` of a set. -/
def CfgSet.unitE (c : CfgSet) (i : Nat) : UnitE :=
  let b := (c.prog.drop (64 + 24 * i)).take 24
  { id := leAt b 0 4, entry := leAt b 4 4, inst := leAt b 8 4, cb := leAt b 12 4
    period := leAt b 16 2, phase := leAt b 18 2, cls := leAt b 20 1 }

/-- An instance entry (Table 10-4). -/
structure InstE where
  id : Nat
  ofs : Nat
  size : Nat
  nt : Nat
  ne : Nat
  init : Nat
  deriving DecidableEq, Repr

/-- Instance entry `i` of a set. -/
def CfgSet.instE (c : CfgSet) (i : Nat) : InstE :=
  let b := (c.prog.drop (64 + 24 * c.units + 32 * i)).take 32
  { id := leAt b 0 4, ofs := leAt b 4 4, size := leAt b 8 4, nt := leAt b 12 2
    ne := leAt b 14 2, init := leAt b 16 4 }

/-- The instances of a set. -/
def CfgSet.instList (c : CfgSet) : List InstE := (List.range c.insts).map c.instE

/-- A map entry (Table 10-5). -/
structure MapE where
  kind : Nat
  inst : Nat
  index : Nat
  field : Nat
  own : Nat
  solo : Nat
  deriving DecidableEq, Repr

/-- A map entry from its 8 bytes. -/
def mapE (b : List Byte) : MapE :=
  { kind := leAt b 0 1, inst := leAt b 1 1, index := leAt b 2 2, field := leAt b 4 2
    own := leAt b 6 1, solo := leAt b 7 1 }

/-- Input map entry `k`. -/
def CfgSet.inE (c : CfgSet) (k : Nat) : MapE :=
  mapE ((c.prog.drop (64 + 24 * c.units + 32 * c.insts + 8 * k)).take 8)

/-- Output map entry `k`. -/
def CfgSet.outE (c : CfgSet) (k : Nat) : MapE :=
  mapE ((c.prog.drop (64 + 24 * c.units + 32 * c.insts + 8 * (c.inItems + k))).take 8)

/-- A migration record (Table 10-8). -/
structure MigR where
  kind : Nat
  fire : Bool
  oldId : Nat
  newId : Nat
  oldOfs : Nat
  newOfs : Nat
  len : Nat
  deriving DecidableEq, Repr

/-- The records of a set's migration table (R279). -/
def CfgSet.migs (c : CfgSet) : List MigR :=
  let t := c.sect 0x10 0
  (records 24 (leAt t 6 2) (t.drop 16)).map (fun b =>
    { kind := leAt b 0 1, fire := bitOf (leAt b 1 1) 0, oldId := leAt b 4 4
      newId := leAt b 8 4, oldOfs := leAt b 12 4, newOfs := leAt b 16 4, len := leAt b 20 4 })

/-- FROM_GEN of a set's migration table. -/
def CfgSet.fromGen (c : CfgSet) : Nat := leAt (c.sect 0x10 0) 8 4

/-- The unit code of Table 04-4 whose registers hold an address; 0 for units that no local reset
names. -/
def unitOfAddr (a : Nat) : Nat :=
  if a / 0x10000000 = 6 then 0x2D
  else
    match (a - 0x40000000) / 0x10000 with
    | 5 => 0x30 | 6 => 0x20 | 7 => 0x21 | 8 => 0x22
    | 9 => 0x28 + (a - 0x40090000) / 0x4000 | 10 => 0x2C | 11 => 0x2D | 12 => 0x2E
    | 13 => 0x38 | 15 => 0x39
    | _ => 0

/-- The register range of a unit: base and length. -/
def unitRange (u : Nat) : Nat × Nat :=
  match u with
  | 0x20 => (0x40060000, 0x10000) | 0x21 => (0x40070000, 0x10000)
  | 0x22 => (0x40080000, 0x10000)
  | 0x28 => (0x40090000, 0x4000) | 0x29 => (0x40094000, 0x4000)
  | 0x2A => (0x40098000, 0x4000) | 0x2B => (0x4009C000, 0x4000)
  | 0x2C => (0x400A0000, 0x10000) | 0x2D => (0x400B0000, 0x10000)
  | 0x2E => (0x400C0000, 0x10000) | 0x30 => (0x40050000, 0x10000)
  | 0x38 => (0x400D0000, 0x10000) | 0x39 => (0x400F0000, 0x10000)
  | _ => (0, 0)

/-- The units that a local reset target covers (Table 04-4). -/
def targetUnits (t : Nat) : List Nat :=
  let net := [0x20, 0x21, 0x22]
  let bus := [0x28, 0x29, 0x2A, 0x2B, 0x2C, 0x2D, 0x2E]
  match t with
  | 0x07 => net
  | 0x08 => bus
  | 0x09 => [0x30]
  | 0x0B => net ++ bus ++ [0x30]
  | 0x0C => net ++ bus
  | _ => [t]

/-- The paddock of a unit. -/
def unitPaddock (u : Nat) : Paddock :=
  if u = 0x20 ∨ u = 0x21 ∨ u = 0x22 then .net
  else if u = 0x30 then .signal
  else if 0x28 ≤ u ∧ u ≤ 0x2E then .bus
  else .common

/-- The gate code of a unit's island (Table 05-4); 0x08 (HUB) for units that cannot be gated. -/
def unitGate (u : Nat) : Nat :=
  match u with
  | 0x21 => 0x0B | 0x22 => 0x0C | 0x28 => 0x0D | 0x29 => 0x0D | 0x2A => 0x0D | 0x2B => 0x0D
  | 0x2C => 0x0E | 0x2D => 0x0F | 0x2E => 0x10 | 0x30 => 0x11
  | 0x20 => 0x0A
  | _ => 0x08

/-- The CLK_GMAP bit of a gate code. -/
def gateF (code : Nat) : Fld :=
  if code = 0x48 then CLK_GMAP_PG_BUS
  else if code = 0x49 then CLK_GMAP_PG_SIGNAL
  else ⟨0x4000021C, code, 1⟩

/-- The island gates of a paddock gate. -/
def gateKids (c : Nat) : List Nat :=
  if c = 0x48 then [0x0D, 0x0E, 0x0F, 0x10] else if c = 0x49 then [0x11] else []

/-- A close of the gate of a unit's island, or of its paddock gate, waits for the bus-quiet handshake:
the wrapper accepts no new request (R119). -/
def State.gateClosing (s : State) (u : Nat) : Bool :=
  s.flag CLK_GSTAT_PENDING
    && (s.fget CLK_GSTAT_CODE = unitGate u || (gateKids (s.fget CLK_GSTAT_CODE)).contains (unitGate u))

/-- Is a unit absent: its paddock off or ramping, in reset behind a closed wrapper, its island's
gate closed, marked FAULT, or the device in reset or in CLOCK_HOLD (R16, R90, R119, R161)? -/
def State.unitShut (s : State) (u : Nat) : Bool :=
  s.rst.active || s.clk.hold
    || s.fget (pstat (unitPaddock u)) < 2
    || s.rst.locals.any (fun e => e.phase ≠ .drain ∧ (targetUnits e.target).contains u)
    || s.fget (gateF (unitGate u)) = 0 || s.boot.faultUnits.contains u
    || s.pwr.reload.contains (unitPaddock u) || s.pwr.join.contains (unitPaddock u)

/-- Does a unit take no request: absent, or its wrapper waiting for the bus-quiet handshake (R119)? -/
def State.unitDown (s : State) (u : Nat) : Bool := s.unitShut u || s.gateClosing u

/-- Is FLOGIC held in a local reset of target 0x0A (R90)? -/
def State.flogicHeld (s : State) : Bool :=
  s.rst.locals.any (fun e => e.target = 0x0A && (e.phase = .asserted || e.phase = .hold))

/-- FLOGIC answers: supplied, and not held in a local reset. -/
def State.flogicUp (s : State) : Bool :=
  s.phys.ok.getLsbD 6 && s.fget (pstat .flogic) ≥ 2 && !s.flogicHeld

/-- FPOWER is supplied. -/
def State.fpowerUp (s : State) : Bool := s.phys.ok.getLsbD 7 && s.fget (pstat .fpower) ≥ 2

end Sys2Proof.Machine
end

