-- ==== Sys2Proof/Machine/FlashMap.lean ====
section
/-! DEFINITION. Sys2Proof/Machine/FlashMap.lean: what the flash holds: the directory, the slot
headers and their checks, the wear log and stray records, and the queue of flash operations
(chapters 01, 07, 08 and 19). -/

namespace Sys2Proof.Machine

/-! ### The directory (R154) -/

/-- The 64 bytes of directory copy `n`. -/
def State.dirBytes (s : State) (n : Nat) : List Byte := s.flashBytes (0x1000 * n) 64

/-- Two flash areas, base and length, that share no byte. -/
def disjointAreas (p q : Nat × Nat) : Bool := p.1 + p.2 ≤ q.1 || q.1 + q.2 ≤ p.1

/-- No two of a list of areas share a byte. -/
def areasDisjoint : List (Nat × Nat) → Bool
  | [] => true
  | p :: t => t.all (disjointAreas p) && areasDisjoint t

/-- The areas that a directory names (Table 07-2). -/
def dirAreas (b : List Byte) : List (Nat × Nat) :=
  [(leAt b 8 4, leAt b 16 4), (leAt b 12 4, leAt b 16 4), (leAt b 20 4, 0x10000),
   (leAt b 24 4, 0x40000), (leAt b 28 4, leAt b 32 4)]

/-- The size of the fitted flash device in bytes. -/
def State.flashSize (s : State) : Nat := 2 ^ s.board.density * 0x100000

/-- The checks of R154 on a directory copy. -/
def State.dirValid (s : State) (n : Nat) : Bool :=
  let b := s.dirBytes n
  leAt b 0 4 = 0x4439545A && leAt b 4 2 = 1 && leAt b 60 4 = crc32c (b.take 60)
    && (dirAreas b).all (fun p => p.1 % 0x10000 = 0 && p.1 + p.2 ≤ s.flashSize)
    && areasDisjoint ((0, 0x2000) :: dirAreas b)

/-- The directory copy in use: copy 0 if valid, otherwise copy 1. -/
def State.dir (s : State) : Option (List Byte) :=
  if s.dirValid 0 then some (s.dirBytes 0)
  else if s.dirValid 1 then some (s.dirBytes 1)
  else none

/-- A 4-byte field of the directory in use; 0 when none is valid. -/
def State.dirField (s : State) (o : Nat) : Nat :=
  match s.dir with
  | some b => leAt b o 4
  | none => 0

/-- The base of a slot: false = A, true = B. -/
def State.slotBase (s : State) (b : Bool) : Nat := s.dirField (if b then 12 else 8)

/-- The size of a slot. -/
def State.slotSize (s : State) : Nat := s.dirField 16

/-! ### Slot headers (R155, R156, R159) -/

/-- A section table entry (Table 07-4). -/
structure SecE where
  type : Nat
  inst : Nat
  ofs : Nat
  len : Nat
  load : Nat
  crc : Nat
  pad : Nat
  deriving DecidableEq, Repr

/-- The section table of a header page. -/
def secTable (page : List Byte) : List SecE :=
  (records 24 (leAt page 0x10 2) (page.drop 0x40)).map (fun b =>
    { type := leAt b 0 2, inst := leAt b 2 2, ofs := leAt b 4 4, len := leAt b 8 4
      load := leAt b 12 4, crc := leAt b 16 4, pad := leAt b 20 4 })

/-- The section types of Table 07-5 and the INST values that each has. -/
def secInstMax (t : Nat) : Option Nat :=
  match t with
  | 1 => some 0 | 2 => some 0 | 3 => some 0 | 4 => some 0 | 5 => some 0 | 6 => some 3
  | 7 => some 1 | 8 => some 0 | 9 => some 0 | 10 => some 0 | 11 => some 0 | 12 => some 0
  | 13 => some 4 | 14 => some 0 | 15 => some 15 | 16 => some 0
  | _ => none

/-- Sections that are loaded into the private half. -/
def secPrivate (t : Nat) : Bool := t = 1 || t = 2 || t = 3 || t = 16

/-- Header checks of R159: the first row. -/
def hdrOk (page : List Byte) (slotSize : Nat) : Bool :=
  leAt page 0 4 = 0x4339545A && leAt page 4 2 = 1 && leAt page 0x3C 4 = crc32c (page.take 0x3C)
    && leAt page 8 4 ≠ 0 && leAt page 8 4 ≠ 0xFFFFFFFF && leAt page 0x0C 4 ≤ slotSize

/-- Stepping and grade (R3, R159). -/
def gradeOk (page : List Byte) (w : Bool) : Bool :=
  leAt page 6 1 = 2 && bitOf (leAt page 7 1) (if w then 1 else 0)

/-- IMAGE_CRC over the section table. -/
def imageCrcOk (page : List Byte) : Bool :=
  leAt page 0x20 4 = crc32c ((page.drop 0x40).take (24 * leAt page 0x10 2))

/-- Entry and section checks of R156 and R159. DESIGN CHOICE (log entry 113): an INST beyond the range of
Table 07-5 makes the slot invalid here. -/
def sectionsOk (page : List Byte) : Bool :=
  let t := secTable page
  let n := leAt page 0x10 2
  1 ≤ n && n ≤ 64
    && t.all (fun e =>
      (match secInstMax e.type with
        | some m => decide (e.inst ≤ m)
        | none => false)
      && e.ofs % 256 = 0 && 0x1000 ≤ e.ofs && e.ofs + e.len ≤ leAt page 0x0C 4
      && (if secPrivate e.type then decide (e.load < 0x200000) else decide (e.load = 0)))
    && (t.filter (fun e => e.type = 3)).length = 1
    && t.any (fun e => e.type = 1) && t.any (fun e => e.type = 2)
    && (t.filter (fun e => e.type ≠ 1 ∧ e.type ≠ 2)).Pairwise
        (fun a b => ¬(a.type = b.type ∧ a.inst = b.inst))
    && areasDisjoint ((t.filter (fun e => secPrivate e.type)).map (fun e => (e.load, e.len)))

/-- A state word reads set when it is not blank (R158). -/
def wordSet (page : List Byte) (o : Nat) : Bool := leAt page o 4 ≠ 0xFFFFFFFF

/-- The code that BOOT_SLOT shows for a header page (R159): the first check that fails, or the
state words. -/
def slotCode (page : List Byte) (slotSize : Nat) (w : Bool) : Nat :=
  if page.all (· = 0xFF) then 0xF
  else if !hdrOk page slotSize then 5
  else if !gradeOk page w then 6
  else if !imageCrcOk page then 7
  else if !sectionsOk page then 5
  else if wordSet page 0xF0C then 4
  else if wordSet page 0xF08 then 0
  else if wordSet page 0xF04 then 2
  else if wordSet page 0xF00 then 1
  else 3

/-- The tool-check mark of a header page (R26, Table 07-3). -/
def markOk (page : List Byte) : Bool :=
  leAt page 0x1C 4 ≠ 0
    && leAt page 0x1C 4 = crc32c ((page.drop 0x20).take 4 ++ (page.drop 0x18).take 4)

/-- The header page of a slot. -/
def State.page (s : State) (b : Bool) : List Byte := s.flashBytes (s.slotBase b) 4096

/-- valid(s) of R159. -/
def State.slotValid (s : State) (b : Bool) : Bool :=
  s.dir.isSome && slotCode (s.page b) s.slotSize s.board.gradeW ≤ 3

/-- The bytes of a section of a slot. -/
def State.secBytes (s : State) (b : Bool) (e : SecE) : List Byte :=
  s.flashBytes (s.slotBase b + e.ofs) e.len

/-! ### Flash operations (R463) -/

/-- The class of an operation, the lowest first. Class 1, the slot state words, is programmed at once
by the commands that decide on them. -/
def FlashOp.cls : FlashOp → Nat
  | .wear _ => 2 | .stray _ => 2
  | .eraseSector c _ => c | .program c _ _ => c

/-- Queue a flash operation. -/
def State.flashQueue (s : State) (op : FlashOp) : State :=
  { s with flc := { s.flc with waiting := s.flc.waiting ++ [op] } }

/-- Program a state word of a slot at once; the operand says whether the program succeeded
(R158, R159). -/
def State.programWord (s : State) (b : Bool) (o : Nat) (ok : Bool) : State :=
  if ok then s.flashProgram (s.slotBase b + o) [0, 0, 0, 0]
  else s.raise BOOT_STAT_FLASH_WR_FAIL

/-! ### The wear log and the stray records -/

/-- The 16 bytes of a wear log entry (Table 01-8). -/
def wearBytes (e : WearE) : List Byte :=
  let b := leBytes 4 e.seq ++ leBytes 4 e.time ++ leBytes 1 e.kind ++ leBytes 1 e.unit
    ++ leBytes 2 e.detail
  b ++ leBytes 4 (crc32c b)

/-- A wear log entry from its bytes, when its CRC is valid. -/
def wearOf (b : List Byte) : Option WearE :=
  if leAt b 12 4 = crc32c (b.take 12) then
    some { seq := leAt b 0 4, time := leAt b 4 4, kind := leAt b 8 1, unit := leAt b 9 1
           detail := leAt b 10 2 }
  else none

/-- The 16 bytes of a stray record (Table 08-5). -/
def strayBytes (e : StrayE) : List Byte :=
  let b := leBytes 4 e.seq ++ leBytes 4 e.time ++ leBytes 1 e.core ++ leBytes 1 e.lane
    ++ leBytes 1 e.cause ++ leBytes 1 0
  b ++ leBytes 4 (crc32c b)

/-- A stray record from its bytes, when its CRC is valid. -/
def strayOf (b : List Byte) : Option StrayE :=
  if leAt b 12 4 = crc32c (b.take 12) ∧ leAt b 0 4 ≠ 0xFFFFFFFF then
    some { seq := leAt b 0 4, time := leAt b 4 4, core := leAt b 8 1, lane := leAt b 9 1
           cause := leAt b 10 1 }
  else none

/-- The valid entries of the retained copy (R32). -/
def State.retainedWear (s : State) : List WearE :=
  (List.range 512).filterMap (fun i =>
    let b := s.memBytes (0xF0002000 + 16 * i) 16
    if leAt b 0 4 = 0 then none else wearOf b)

/-- The valid entries of the flash copy; none while no directory copy is valid (R33). -/
def State.flashWear (s : State) : List WearE :=
  match s.dir with
  | none => []
  | some d => (List.range 512).filterMap (fun i =>
      let b := s.flashBytes (leAt d 20 4 + 16 * i) 16
      if leAt b 0 4 = 0xFFFFFFFF then none else wearOf b)

/-- The valid stray records of the flash. -/
def State.flashStrays (s : State) : List StrayE :=
  match s.dir with
  | none => []
  | some d => (List.range 2048).filterMap (fun i =>
      strayOf (s.flashBytes (leAt d 20 4 + 0x8000 + 16 * i) 16))

/-- Put an entry into a list ordered by SEQ, unless its SEQ is there already. -/
def insertWear (e : WearE) : List WearE → List WearE
  | [] => [e]
  | x :: t => if e.seq < x.seq then e :: x :: t
              else if e.seq = x.seq then x :: t
              else x :: insertWear e t

/-- Put a stray record into a list ordered by SEQ. -/
def insertStray (e : StrayE) : List StrayE → List StrayE
  | [] => [e]
  | x :: t => if e.seq < x.seq then e :: x :: t else x :: insertStray e t

/-- Write an entry into the retained copy, at its place. -/
def State.retainWear (s : State) (e : WearE) : State :=
  s.memPut (0xF0002000 + 16 * ((e.seq - 1) % 512)) (wearBytes e)

/-- Queue the flash write of an entry (R33): WEAR_FLASH_PENDING stands until it succeeds; the
write waits while no directory copy is valid. -/
def State.pendWearFlash (s : State) (e : WearE) : State :=
  let s1 := ({ s with wear := { s.wear with pendWear := s.wear.pendWear ++ [e] } }).raise
    BOOT_STAT_WEAR_FLASH_PENDING
  if s.boot.dirOk then s1.flashQueue (.wear e) else s1

/-- Write a wear log entry: wear register file, retained copy, flash copy (R33, R34). -/
def State.wearLog (s : State) (kind unit detail : Nat) : State :=
  let e : WearE := { seq := s.wear.file.foldl (fun m x => max m x.seq) 0 + 1, time := s.rtc
                     kind := kind, unit := unit, detail := detail }
  (({ s with wear := { s.wear with file := s.wear.file ++ [e] } }).retainWear e).pendWearFlash e

/-- Write the SPARE_EXHAUSTED entry of a kind (R30, R34). -/
def State.spareExhausted (s : State) (kind : Nat) : State := s.wearLog 7 kind 0

/-- Record a stray in the history of its core and queue its flash record (R199, R200). -/
def State.strayRecord (s : State) (core lane cause : Nat) : State :=
  let sq := s.wear.history.foldl (fun m x => max m x.seq) 0 + 1
  let e : StrayE := { seq := sq, time := s.rtc, core := core, lane := lane, cause := cause }
  let mine := (s.wear.history.filter (fun x => x.core = core)) ++ [e]
  let mine8 := mine.drop (mine.length - 8)
  let h := s.wear.history.filter (fun x => x.core ≠ core) ++ mine8
  let s1 := ({ s with wear := { s.wear with history := h
                                            pendStray := s.wear.pendStray ++ [e] } }).raise
    BOOT_STAT_WEAR_FLASH_PENDING
  if s.boot.dirOk then s1.flashQueue (.stray e) else s1

/-- The strays of a core within TRI_RETIRE.PERIOD hours of the present time (R199). -/
def State.strayCount (s : State) (core : Nat) : Nat :=
  (s.wear.history.filter (fun x =>
    x.core = core ∧ (s.rtc + 2 ^ 32 - x.time) % 2 ^ 32 ≤ 3600 * s.fget TRI_RETIRE_PERIOD)).length

/-- Queue again every wear log and stray write that is outstanding and neither waits nor runs
(R33, R200); none while no directory copy is valid. -/
def State.retryWear (s : State) : State :=
  if s.boot.dirOk then
    let busy (op : FlashOp) : Bool := s.flc.waiting.contains op || s.flc.running == some op
    let ops := (s.wear.pendWear.map FlashOp.wear ++ s.wear.pendStray.map FlashOp.stray).filter
      (fun op => !busy op)
    { s with flc := { s.flc with waiting := s.flc.waiting ++ ops } }
  else s

end Sys2Proof.Machine
end

