-- ==== Sys2Proof/Machine/RecOps.lean ====
section
/-! DEFINITION. Sys2Proof/Machine/RecOps.lean: the event recorder's shared operations: histograms,
extremes, the event ring and snapshots (R473 to R477). -/

namespace Sys2Proof.Machine

/-- The time unit counts as synchronised in LOCKED and HOLDOVER (R361). -/
def State.trainSync (s : State) : Bool :=
  s.fget TIM_STAT_STATE = 2 || s.fget TIM_STAT_STATE = 3

/-- Train time in ns; zero while not synchronised (Table 09-17). -/
def State.trainTime (s : State) : Nat := if s.trainSync then s.now.trainNs % 2 ^ 64 else 0

/-- Add 1 to a bin; a bin that saturates sets HIST_SAT. -/
def State.binAdd (s : State) (f : Fld) : State :=
  (s.bump f).when (s.fget f = 0xFFFFFFFE) (fun x => x.raise REC_EVT_HIST_SAT)

/-- Enter a sample into bin `i` of histogram `h` (Table 19-2); bins beyond 63 take bin 63. -/
def State.histAdd (s : State) (h i : Nat) : State := s.binAdd (REC_HIST_h_i_VAL h (min i 63))

/-- Enter a lateness in ns (R473). -/
def State.lateAdd (s : State) (ns : Nat) : State := s.binAdd (REC_LATE_i_VAL (min (ns / 2000) 15))

/-- Word `w` of extreme `e`: 0 VALUE, 1 AUX, 2 RTC, 3 CYC (R474). -/
def extF (e w : Nat) : Fld := REC_EXT_e_VAL (4 * e + w)

/-- Has extreme `e` never been set? An extreme that was set carries an RTC or a CYC. DESIGN CHOICE
(log entry 118): an extreme whose four words are zero counts as not set, so that a first minimum
enters. -/
def State.extUnset (s : State) (e : Nat) : Bool :=
  s.fget (extF e 0) = 0 && s.fget (extF e 1) = 0 && s.fget (extF e 2) = 0 && s.fget (extF e 3) = 0

/-- Set extreme `e`. -/
def State.extSet (s : State) (e v aux : Nat) : State :=
  (((s.fset (extF e 0) v).fset (extF e 1) aux).fset (extF e 2) s.rtc).fset (extF e 3)
    s.cyc.count.toNat

/-- The value of extreme `e`: die temperatures are signed. -/
def State.extVal (s : State) (e : Nat) : Int :=
  if e = 3 || e = 4 then toSigned 32 (s.fget (extF e 0)) else s.fget (extF e 0)

/-- Enter a value into a greatest extreme. -/
def State.extMax (s : State) (e : Nat) (v : Int) (aux : Nat) : State :=
  s.when (s.extUnset e || v > s.extVal e)
    (fun x => x.extSet e (ofSigned 32 v) aux)

/-- Enter a value into a least extreme. -/
def State.extMin (s : State) (e : Nat) (v : Int) : State :=
  s.when (s.extUnset e || v < s.extVal e)
    (fun x => x.extSet e (ofSigned 32 v) 0)

/-- Enter an application event into the 8-entry ring (R474). -/
def State.ringAdd (s : State) (op : Nat) : State :=
  let r := s.recd.ring ++ [(op, s.rtc, s.cyc.count.toNat % 2 ^ 32)]
  { s with recd := { s.recd with ring := r.drop (r.length - 8) } }

/-- The words of `n` consecutive registers as bytes. -/
def State.regBytes (s : State) (a n : Nat) : List Byte :=
  (List.range n).flatMap (fun i => leBytes 4 (s.regWord (a + 4 * i)).toNat)

/-- The first 1,020 bytes of a snapshot record (Table 19-4). -/
def State.snapBytes (s : State) (sq trig : Nat) : List Byte :=
  let ring := s.recd.ring.flatMap (fun e => leBytes 8 e.1 ++ leBytes 4 e.2.1 ++ leBytes 4 e.2.2)
  let b := leBytes 4 sq ++ leBytes 1 trig ++ leBytes 1 s.recd.env ++ leBytes 2 1
    ++ leBytes 4 s.rtc ++ leBytes 4 (s.fget SYS_RSTCNT_COUNT) ++ leBytes 8 s.cyc.count.toNat
    ++ leBytes 8 s.trainTime
    ++ s.regBytes 0x400D1000 64 ++ s.regBytes (0x400D1000 + 0x100 * s.recd.env) 64
    ++ s.regBytes 0x400D1400 16 ++ s.regBytes 0x400D1440 32 ++ s.regBytes 0x400D1500 32
    ++ ring ++ List.replicate (128 - ring.length) 0 ++ List.replicate 24 0
  b ++ leBytes 4 (crc32c b)

/-- Take a snapshot (R475, R477): trigger 1 period, 2 command, 3 safe state. The record is
programmed first and its VALID word by a separate program (R476). -/
def State.recSnapshot (s : State) (trig : Nat) : State :=
  if !s.flag REC_CFG_EN then s
  else if s.fget REC_STAT_NEXT ≥ 256 then
    (s.bump REC_FULL_MISSED)
  else if s.flag REC_STAT_WRITING || s.recd.erasing ≠ 0 || !s.boot.dirOk then s
  else
    let a := s.dirField 24 + 1024 * s.fget REC_STAT_NEXT
    let sq := s.recd.seq + 1
    let s1 := (s.raise REC_STAT_WRITING).flashQueue (.program 4 a (s.snapBytes sq trig))
    let s2 := s1.flashQueue (.program 4 (a + 1020) (leBytes 4 0x4C52545A))
    { s2 with recd := { s2.recd with
                          seq := sq, writing := some a
                          env := if s.recd.env = 3 then 1 else s.recd.env + 1 } }

/-- The places of the recorder area that are not blank, and whether one of them is invalid. -/
def State.recScan (s : State) : Nat × Bool :=
  let base := s.dirField 24
  let used := (List.range 256).filter (fun p =>
    (s.flashBytes (base + 1024 * p) 1024).any (· ≠ 0xFF))
  let next := match (List.range 256).find? (fun p => !used.contains p) with
    | some p => p
    | none => 256
  (next, used.any (fun p =>
    let b := s.flashBytes (base + 1024 * p) 1024
    !(leAt b 1020 4 = 0x4C52545A && leAt b 0x3F8 4 = crc32c (b.take 0x3F8))))

/-- The valid snapshot records of the area. -/
def State.recValid (s : State) : List (List Byte) :=
  let base := s.dirField 24
  ((List.range 256).map (fun p => s.flashBytes (base + 1024 * p) 1024)).filter (fun b =>
    leAt b 1020 4 = 0x4C52545A && leAt b 0x3F8 4 = crc32c (b.take 0x3F8))

/-- Write `n` registers from `a` on from the words at offset `o` of a record. -/
def State.regsFrom (s : State) (a : Nat) (b : List Byte) (o : Nat) : Nat → State
  | 0 => s
  | n + 1 => ((s.setReg a (BitVec.ofNat 32 (leAt b o 4))).regsFrom (a + 4) b (o + 4) n)

/-- The record with the highest SEQ. -/
def latestRec (l : List (List Byte)) : Option (List Byte) :=
  l.foldl (fun m b => match m with
    | none => some b
    | some x => if leAt b 0 4 > leAt x 0 4 then some b else some x) none

/-- At every start and every reload of the recorder: find the next place and, with RESTORE = 1,
restore the state (R476). -/
def State.recRestore (s : State) : State :=
  if !s.boot.dirOk then s.fset REC_STAT_NEXT 256
  else
    let sc := s.recScan
    let s1 := (s.fset REC_STAT_NEXT sc.1).when sc.2 (fun x => x.raise REC_EVT_SKIPPED_PLACE)
    let s2 := s1.when (sc.1 = 256) (fun x => x.raise REC_FULL_FULL)
    match latestRec s2.recValid with
    | none => s2
    | some b =>
      let s3 := { s2 with recd := { s2.recd with seq := leAt b 0 4 } }
      let s4 := s3.fset REC_STAT_LASTSEQ (leAt b 0 4)
      if !s4.flag REC_CFG_RESTORE then s4
      else
        let s5 := (((s4.regsFrom 0x400D1000 b 0x20 64).regsFrom 0x400D1400 b 0x220 16).regsFrom
          0x400D1440 b 0x260 32).regsFrom 0x400D1500 b 0x2E0 32
        let env (h : Nat) (x : State) : State :=
          match latestRec (s2.recValid.filter (fun r => leAt r 5 1 = h)) with
          | some r => x.regsFrom (0x400D1000 + 0x100 * h) r 0x120 64
          | none => x
        let ring := ((records 16 8 (b.drop 0x360)).filter (fun e => e.any (· ≠ 0))).map
          (fun e => (leAt e 0 8, leAt e 8 4, leAt e 12 4))
        let s6 := env 3 (env 2 (env 1 s5))
        ({ s6 with recd := { s6.recd with ring := ring } }).raise REC_STAT_RESTORED

end Sys2Proof.Machine
end

