-- ==== Sys2Proof/Machine/SigOps.lean ====
section
/-! DEFINITION. Sys2Proof/Machine/SigOps.lean: the sigma-delta filter chain: sinc3, half-band and FIR
stages, restarts, the engine's slots and the receive bank (chapter 12). -/

namespace Sys2Proof.Machine

/-- A channel. -/
def State.sigCh (s : State) (n : Nat) : SigCh := s.sig.toList.getD n .reset

/-- Change a channel. -/
def State.sigUpd (s : State) (n : Nat) (f : SigCh → SigCh) : State :=
  { s with sig := vecUpd s.sig n f }

/-- R of a channel. -/
def State.sigR (s : State) (n : Nat) : Nat := if s.flag (SIG_CH_n_CFG_R17 n) then 16 else 8

/-- S of a channel. -/
def State.sigS (s : State) (n : Nat) : Nat := s.fget (SIG_CH_n_CFG_S n)

/-- P: the output period in modulator periods. -/
def State.sigP (s : State) (n : Nat) : Nat := s.sigR n * 2 ^ s.sigS n

/-- Single-cycle-settling mode (R327). -/
def State.sigScs (s : State) (n : Nat) : Bool := s.fget (SIG_CH_n_CFG_MODE n) = 1

/-- K of R324: the results with SETTLING after a restart; none in single-cycle-settling mode. -/
def State.sigK (s : State) (n : Nat) : Nat :=
  if s.sigScs n then 0
  else
    let r := s.sigR n
    let e := 2 ^ s.sigS n
    let d2 := 3 * (r - 1) + 22 * r * (e - 1) + (if s.flag (SIG_CH_n_CFG_FIR_EN n) then 14 * r * e else 0)
    (d2 + s.sigP n - 1) / s.sigP n + 1

/-- Is a channel enabled and its unit running? -/
def State.sigOn (s : State) (n : Nat) : Bool :=
  s.flag (SIG_CH_n_CFG_EN n) && s.flag SIG_STAT_RUNNING && !s.unitDown 0x30

/-- A channel raises an event: its own bit and the kind's. -/
def State.sigEvt (s : State) (n : Nat) (f : Fld) : State :=
  (s.raise ⟨0x40050004, 16 + n, 1⟩).raise f

/-- Restart a channel (R324). -/
def State.sigRestart (s : State) (n : Nat) : State :=
  let s1 := s.sigUpd n (fun c => { SigCh.reset with
    last := c.last, goodWin := c.goodWin, bank := c.bank, snap := c.snap })
  let k := s1.sigK n
  ((s1.show (SIG_CH_n_STAT_SETTLING n) (k ≠ 0)).fset (SIG_CH_n_STAT_LEFT n) k).lower
    (SIG_CH_n_STAT_OVR n)

/-- Restart every enabled channel. -/
def State.sigRestartAll (s : State) : State :=
  (List.range 12).foldl (fun x n => x.when (x.flag (SIG_CH_n_CFG_EN n)) (fun y => y.sigRestart n)) s

/-! ### Clock outputs (R313) -/

/-- The divider in force at a SIG clock. -/
def ClkOut.now (o : ClkOut) (t : Nat) : Option (Nat × Nat) :=
  match o.next with
  | some (u, n) => if u ≤ t then n else o.cur
  | none => o.cur

/-- SIG clocks of a period during which an output is high. -/
def clkHi (d : Nat) : Nat := (d + 1) / 2

/-- The place of a SIG clock within a divider's period. -/
def clkPhase (g : Nat × Nat) (t : Nat) : Nat := (t + g.1 - g.2 % g.1) % g.1

/-- The next falling edge of a divider from a SIG clock on. -/
def clkFall (g : Nat × Nat) (t : Nat) : Nat :=
  let p := clkPhase g t
  if p ≤ clkHi g.1 then t + (clkHi g.1 - p) else t + (g.1 - p) + clkHi g.1

/-- The divider that the registers ask for. -/
def State.clkWant (s : State) (k : Nat) : Option Nat :=
  if s.flag SIG_STAT_RUNNING && s.flag (SIG_CLKOUT_k_EN k) then some (s.fget (SIG_CLKOUT_k_DIV k))
  else none

/-- Clock output `k` from SIG clock `t` on, its divider then being `c`: a change holds from the next
falling edge, at once where the output is off; an output is aligned to one that runs with the same DIV.
DESIGN CHOICE (log entry 115): an output with none to be aligned to rises at once when it is switched
on, and is low for the rest of its new period after a change of DIV. -/
def State.clkPlan (s : State) (t : Nat) (c : Option (Nat × Nat)) (k : Nat) : ClkOut :=
  let u := match c with
    | some g => clkFall g t
    | none => t
  match s.clkWant k with
  | none => { cur := c, next := some (u, none) }
  | some d =>
    if c.map (·.1) = some d then { cur := c, next := none }
    else
      let peer := ([0, 1, 2].filter (· ≠ k)).findSome? (fun j =>
        match (s.clkOut.toList.getD j { cur := none, next := none }).now u with
        | some g => if g.1 = d then some g.2 else none
        | none => none)
      let p := peer.getD (if c.isNone then u else u + d - clkHi d)
      { cur := c, next := some (u, some (d, p)) }

/-- The clock outputs follow EN and DIV. -/
def State.clkFollow (s : State) : State :=
  let t := s.now.sigNs / 5
  let cur := s.clkOut.map (fun o => o.now t)
  [0, 1, 2, 0, 1, 2].foldl (fun (x : State) k =>
    { x with clkOut := vecUpd x.clkOut k (fun _ => x.clkPlan t (cur.toList.getD k none) k) }) s

/-- The level of a clock output. -/
def State.clkLevel (s : State) (k : Nat) : Bool :=
  let t := s.now.sigNs / 5
  match (s.clkOut.toList.getD k { cur := none, next := none }).now t with
  | some g => clkPhase g t < clkHi g.1
  | none => false

/-- The start of the unit after its bank has been loaded (R330). -/
def State.sigStart (s : State) : State :=
  (((s.raise SIG_STAT_LOADED).raise SIG_STAT_RUNNING).clkFollow).sigRestartAll

/-- Reset of what the unit holds beside its registers; SIG time begins anew (Table 12-5). -/
def State.sigClear (s : State) : State :=
  { s with sig := Vector.replicate 12 .reset, sigAt := 0, sigSlot := 0
           clkOut := Vector.replicate 3 { cur := none, next := none }, now := { s.now with sigNs := 0 } }

/-! ### Filters (R317 to R319) -/

/-- C(n + 2, 2), zero for negative n. -/
def tri (n : Int) : Int := if n < 0 then 0 else (n + 1) * (n + 2) / 2

/-- Coefficient `k` of ((1 - z^-R) / (1 - z^-1))^3. -/
def sinc3C (r k : Nat) : Int := tri k - 3 * tri (k - r) + 3 * tri (k - 2 * r)

/-- The weighted sum of a delay line, newest first, with coefficients by delay from `k` on. -/
def dotFrom (c : Nat → Int) : Nat → List Int → Int
  | _, [] => 0
  | k, x :: xs => c k * x + dotFrom c (k + 1) xs

/-- A value saturated to 24 bits, and whether it was. -/
def sat24 (v : Int) : Int × Bool := (satSigned 24 v, !(-8388608 ≤ v && v ≤ 8388607))

/-- The sinc3 output of a history of bits, scaled and saturated. -/
def sinc3 (r : Nat) (h : List Int) : Int × Bool :=
  sat24 (dotFrom (sinc3C r) 0 (h.take (3 * r - 2)) * (if r = 8 then 2 ^ 14 else 2 ^ 11))

/-- Half-band coefficient by delay 0 to 22 (Table 12-1), in units of 2^-20. -/
def halfC (k : Nat) : Int :=
  let j := if 11 ≤ k then k - 11 else 11 - k
  match j with
  | 0 => 524288 | 1 => 332293 | 3 => -103809 | 5 => 53058 | 7 => -27263 | 9 => 12059
  | 11 => -4194
  | _ => 0

/-- An engine stage: 48-bit accumulation, rounding by half an LSB and truncation, saturation. -/
def engineStage (c : Nat → Int) (line : List Int) : Int × Bool :=
  let acc := toSigned 48 (ofSigned 48 (dotFrom c 0 line))
  sat24 ((acc + 2 ^ 19) / 2 ^ 20)

/-- FIR coefficient by delay 0 to 14 of the channel's set (R319). -/
def State.firC (s : State) (n k : Nat) : Int :=
  let i := if 7 ≤ k then k - 7 else 7 - k
  if 7 < i then 0
  else toSigned 24 (s.fget (SIG_FIRs_Ci_C (s.fget (SIG_CH_n_CFG_FIRSEL n)) i))

/-! ### Bits and results -/

/-- A bit as +1 or -1. -/
def bitVal (b : Bool) : Int := if b then 1 else -1

/-- Take bits, oldest first; a change of the bit clears STUCK (R316). -/
def State.sigBits (s : State) (n : Nat) (bits : List Bool) : State :=
  let c := s.sigCh n
  let new := (bits.map bitVal).reverse
  let line := new ++ c.last.toList
  let changed := line.any (fun v => some v ≠ line.head?)
  (s.sigUpd n (fun x => { x with hist := (new ++ x.hist).take 46, last := line.head? })).when changed
    (fun x => x.lower (SIG_CH_n_STAT_STUCK n))

/-- A sinc3 output of the present history enters the channel's queue (R321). -/
def State.sigQueue (s : State) (n : Nat) : State :=
  let c := s.sigCh n
  let r := sinc3 (s.sigR n) c.hist
  let w : SigWork := { stage := 0, value := r.1, sat := r.2, inst := s.now.sigNs / 5 }
  if 16 ≤ c.queue.length then
    (((s.sigUpd n (fun x => { x with queue := x.queue.drop 1 })).sigEvt n SIG_EVT_OVR).sigRestart
      n).raise (SIG_CH_n_STAT_OVR n)
  else
    let s1 := s.sigUpd n (fun x => { x with queue := x.queue ++ [w] })
    s1.fset SIG_STAT_QMAX (max (s1.fget SIG_STAT_QMAX) (c.queue.length + 1))

/-- Is a channel a member of the group write (R326)? -/
def State.sigGroup (s : State) (n : Nat) : Bool :=
  n < 4 && s.flag (SIG_CH_n_CFG_EN n) && s.flag (SIG_CH_n_CFG_SYNC_EN n)
    && s.flag (SIG_CH_n_CFG_GROUP n)

/-- A finished result: count, status, and its way to the receive bank (R326, R328). -/
def State.sigResult (s : State) (n : Nat) (v : Int) (sat : Bool) (inst : Nat) : State :=
  let c := s.sigCh n
  let cnt := (c.count + 1) % 2 ^ 32
  let k := s.sigK n
  let s1 := s.when sat (fun x => x.sigEvt n SIG_EVT_SAT)
  let s2 := ((s1.show (SIG_CH_n_STAT_SAT n) sat).show (SIG_CH_n_STAT_SETTLING n)
    (cnt ≤ k)).fset (SIG_CH_n_STAT_LEFT n) (k - cnt)
  let bad := sat || cnt ≤ k || s2.flag (SIG_CH_n_STAT_CLK_BAD n)
    || s2.flag (SIG_CH_n_STAT_STUCK n) || s2.flag (SIG_CH_n_STAT_OVR n)
  let s3 := s2.show (SIG_CH_n_STAT_QUAL n) (!bad)
  let r : SigRes := { value := v, count := cnt, inst := inst, stat := s3.regWord (0x400500C0 + 4 * n) }
  s3.sigUpd n (fun x =>
    let y := { x with count := cnt }
    if s3.sigGroup n then
      { y with held := some r, bank := match x.held with
        | some h => some h
        | none => y.bank }
    else { y with bank := some r })

/-- The FIR or the result: what follows the last half-band stage. -/
def State.sigAfter (s : State) (n : Nat) (stage : Nat) (v : Int) (sat : Bool) (inst : Nat) : State :=
  let push (k : Nat) : State := s.sigUpd n (fun x => { x with
    work := { stage := k, value := v, sat := sat, inst := inst } :: x.work })
  if stage < s.sigS n then push stage
  else if stage ≤ 6 && s.flag (SIG_CH_n_CFG_FIR_EN n) then push 6
  else s.sigResult n v sat inst

/-- One work item with `clk` engine clocks, those spent before among them: the state and the clocks used;
none when they do not suffice for its output. -/
def State.sigWork (s : State) (n : Nat) (w : SigWork) (clk : Nat) : Option (State × Nat) :=
  let pop := s.sigUpd n (fun x => { x with work := x.work.drop 1 })
  if w.stage = 6 then
    if clk < 9 then none
    else
      let line := (w.value :: (s.sigCh n).fir).take 15
      let r := engineStage (s.firC n) line
      let s1 := pop.sigUpd n (fun x => { x with fir := line })
      some (s1.sigAfter n 7 r.1 (w.sat || r.2) w.inst, 9)
  else
    let h := (s.sigCh n).hb.toList.getD w.stage { line := [], odd := false, sat := false }
    let line := (w.value :: h.line).take 23
    if h.odd then
      if clk < 7 then none
      else
        let r := engineStage halfC line
        let s1 := pop.sigUpd n (fun x => { x with
          hb := vecUpd x.hb w.stage (fun _ => { line := line, odd := false, sat := false }) })
        some (s1.sigAfter n (w.stage + 1) r.1 (w.sat || h.sat || r.2) w.inst, 7)
    else
      some (pop.sigUpd n (fun x => { x with
        hb := vecUpd x.hb w.stage (fun _ => { line := line, odd := true, sat := w.sat }) }), 0)

/-- The engine's work in one slot, with a bound on the number of items; what an output that is not yet
computed has had of the clocks stays spent on it (R320). -/
def State.sigRun (s : State) (n : Nat) : Nat → Nat → State
  | 0, _ => s
  | fuel + 1, clk =>
    let c := s.sigCh n
    match c.work with
    | w :: _ =>
      (match s.sigWork n w clk with
      | some (s1, used) => s1.sigRun n fuel (clk - used)
      | none => s.sigUpd n (fun x => { x with spent := clk }))
    | [] =>
      match c.queue with
      | [] => s
      | q :: t =>
        ((s.sigUpd n (fun x => { x with queue := t })).sigAfter n 0 q.value q.sat q.inst).sigRun n fuel clk

/-- Is the work of a sample instant still ahead of a channel? -/
def SigCh.pends (c : SigCh) (inst : Nat) : Bool :=
  c.queue.any (fun q => q.inst = inst) || c.work.any (fun w => w.inst = inst)

/-- Is a result of a sample instant held? -/
def SigCh.holds (c : SigCh) (inst : Nat) : Bool :=
  match c.held with
  | some h => h.inst = inst
  | none => false

/-- The end of a slot: the highest-numbered group channel that has an instant writes the group's results
of it, once none of them is still ahead (R326). -/
def State.sigGroupWrite (s : State) (n : Nat) : State :=
  let grp := (List.range 4).filter s.sigGroup
  match (s.sigCh n).held with
  | none => s
  | some r =>
    let has (m : Nat) : Bool := (s.sigCh m).holds r.inst || (s.sigCh m).pends r.inst
    if grp.contains n && !grp.any (fun m => n < m && has m)
        && !grp.any (fun m => (s.sigCh m).pends r.inst) then
      grp.foldl (fun x m => x.sigUpd m (fun c =>
        match c.held with
        | some h =>
          if h.inst = r.inst then
            { c with bank := some { h with stat := s.regWord (0x400500C0 + 4 * m) }, held := none }
          else c
        | none => c)) s
    else s

/-! ### INPUT (R328, R329) -/

/-- The modulator period of a channel in SIG clocks, as a fraction. -/
def State.sigTmod (s : State) (n : Nat) : Nat × Nat :=
  let k := s.fget (SIG_CH_n_CFG_CKSRC n)
  if k < 3 then (s.fget (SIG_CLKOUT_k_DIV k), 1) else (20000, s.fget (SIG_CH_n_CFG_XCLK n))

/-- The age of a channel's latest result at INPUT. -/
def State.sigAge (s : State) (n : Nat) : Nat :=
  match (s.sigCh n).snap with
  | some r => min (s.sigAt - r.inst) 0xFFFFFFFF
  | none => 0xFFFFFFFF

/-- Is the age above 4 P modulator periods plus 4.8 us? -/
def State.sigStale (s : State) (n : Nat) : Bool :=
  let t := s.sigTmod n
  4 * s.sigP n * t.1 + 960 * t.2 < s.sigAge n * t.2

/-- INPUT flips the receive bank and finds stale items. -/
def State.sigInput (s : State) : State :=
  let s1 := { s with sigAt := s.now.sigNs / 5
                     sig := Vector.map (fun c => { c with snap := c.bank }) s.sig }
  (List.range 12).foldl (fun x n =>
    if x.sigOn n then
      let st := x.sigStale n
      (x.show (SIG_CH_n_STAT_STALE n) st).when st (fun y => y.sigEvt n SIG_EVT_STALE)
    else x) s1

/-- The status with which a result was written carries none of the bits that make it bad (R329). -/
def statGood (st : Word) : Bool := st.getLsbD 31 && st.toNat / 2 ^ 26 % 32 = 0

/-- A field of a channel's source item (Table 12-3), and whether it is good. -/
def State.sigItem (s : State) (n field : Nat) : Word × Bool :=
  match (s.sigCh n).snap with
  | none => (0, false)
  | some r =>
    let v := match field with
      | 0 => BitVec.ofInt 32 r.value
      | 1 => BitVec.ofNat 32 r.count
      | 2 => BitVec.ofNat 32 (s.sigAge n)
      | _ => r.stat
    (v, s.sigOn n && statGood r.stat && !s.flag (SIG_CH_n_STAT_STALE n))

end Sys2Proof.Machine
end

