-- ==== Sys2Proof/Machine/EthOps.lean ====
section
/-! DEFINITION. Sys2Proof/Machine/EthOps.lean: the five-port switch and the PRP pairs (R331 to R339). -/

namespace Sys2Proof.Machine

/-! ### Ports, VLANs and the tables (R331 to R333) -/

/-- The switch forwards: powered, out of reset, its island clocked. -/
def State.ethUp (s : State) : Bool := !s.unitDown 0x20

/-- Is a port in use: port 4, or an enabled port whose link is up? -/
def State.portUp (s : State) (n : Nat) : Bool :=
  n = 4 || (n < 4 && bitOf (s.fget ETH_PORTCFG_EN) n && bitOf (s.fget ETH_STAT_LINK) n)

/-- Is a port one of a PRP pair? -/
def State.prpPort (s : State) (n : Nat) : Bool := n < 4 && bitOf (s.fget ETH_PORTCFG_PRP) (n / 2)

/-- The enabled VLAN entry of a VID: its member and untag masks. -/
def State.vlan (s : State) (vid : Nat) : Option (Nat × Nat) :=
  match (List.range 64).find? (fun v => s.flag (ETH_VLAN_v_EN v) && s.fget (ETH_VLAN_v_VID v) = vid) with
  | some v => some (s.fget (ETH_VLAN_v_MEMBER v), s.fget (ETH_VLAN_v_UNTAG v))
  | none => none

/-- The ports of a static entry for a MAC address. -/
def State.staticPorts (s : State) (mac : Nat) : Option Nat :=
  match (List.range 64).find? (fun n => s.flag (ETH_STATIC_n_HI_EN n)
      && s.fget (ETH_STATIC_n_LO_MAC n) = mac % 2 ^ 32
      && s.fget (ETH_STATIC_n_HI_MAC n) = mac / 2 ^ 32) with
  | some n => some (s.fget (ETH_STATIC_n_HI_PORTS n))
  | none => none

/-- A group address: the lowest bit of the first byte. -/
def groupMac (mac : Nat) : Bool := bitOf mac 40

/-- Learn the source of a frame: 8,192 entries, per VID. -/
def State.learn (s : State) (mac vid port : Nat) : State :=
  if groupMac mac then s
  else
    let rest := s.eth.learned.filter (fun e => ¬(e.1 = mac ∧ e.2.1 = vid))
    if rest.length < 8192 then
      { s with eth := { s.eth with learned := rest ++ [(mac, vid, port)] } }
    else s

/-- The own MAC address. -/
def State.ownMac (s : State) : Nat := s.fget ETH_MAC_HI_MAC * 2 ^ 32 + s.fget ETH_MAC_LO_MAC

/-! ### Egress queues (R332 to R334) -/

/-- Cells of 256 bytes that a frame takes. -/
def frameCells (f : EthFrame) : Nat := (f.len + 255) / 256

/-- Cells that a port's queues hold. -/
def State.cellsOf (s : State) (port : Nat) : Nat :=
  (s.eth.queue.filter (fun e => e.port = port)).foldl (fun n e => n + e.cells.length) 0

/-- Cells of the shared part in use: 512 KB hold 2,048 cells, 128 of them reserved per port. -/
def State.sharedUsed (s : State) : Nat :=
  (List.range 5).foldl (fun n p => n + (s.cellsOf p - 128)) 0

/-- Can a port's queue obtain cells? -/
def State.cellsFree (s : State) (port cells : Nat) : Bool :=
  let u := s.cellsOf port
  u + cells ≤ 128 || s.sharedUsed + (u + cells - 128) - (u - 128) ≤ 2048 - 640

/-- The cells of the packet buffer partition that no frame holds. -/
def State.freeCells (s : State) : List Nat :=
  (List.range 2048).filter (fun c => s.eth.queue.all (fun e => !e.cells.contains c))

/-- A cell of the packet buffer partition. -/
def cellAddr (c : Nat) : Nat := 0x20180000 + 256 * c

/-- A frame's bytes go into its cells, whole words (R131, R334). DESIGN CHOICE (log entry 116): the spec
does not say which cells; a frame takes the lowest free ones, its payload at their start. -/
def State.cellPut (s : State) (cells : List Nat) (body : List Byte) : State :=
  let bs := body ++ List.replicate (256 * cells.length - body.length) 0
  cells.zipIdx.foldl (fun x p => x.burstPut (cellAddr p.1) ((bs.drop (256 * p.2)).take 256)) s

/-- The first `n` bytes of some cells; none where a word of them has no data. -/
def State.cellRead (s : State) (cells : List Nat) (n : Nat) : State × Option (List Byte) :=
  cells.zipIdx.foldl (fun (p : State × Option (List Byte)) c =>
    let r := p.1.engineRead (cellAddr c.1) (min 256 (n - 256 * c.2))
    (r.1, match p.2, r.2 with
      | some a, some b => some (a ++ b)
      | _, _ => none)) (s, some [])

/-- Bytes per millisecond of a port's line rate. -/
def State.lineBytes (s : State) (port : Nat) : Nat :=
  if port = 4 || bitsOf (s.fget ETH_STAT_SPEED) (2 * port) 2 = 2 then 125000 else 12500

/-- Put a frame into an egress queue, a flooded one within RATELIM of each millisecond. -/
def State.enqueue (s : State) (inPort : Nat) (prio : Nat) (flooded : Bool) (f : EthFrame)
    (port : Nat) : State :=
  let ms := s.now.hubNs / 1000000
  let lim := s.fget (ETH_PORT_n_CFG_RATELIM port)
  let w := s.eth.flood.toList.getD port (0, 0)
  let used := if w.1 = ms then w.2 else 0
  if flooded && lim ≠ 0 && s.lineBytes port * lim / 100 < used + f.len then s
  else if !s.cellsFree port (frameCells f) then
    (s.raise ETH_EVT_BUF_DROP).bump (ETH_PORT_n_DROP_BUF inPort)
  else
    let cells := s.freeCells.take (frameCells f)
    let e : QEnt := { port := port, prio := prio, cells := cells, inNs := s.now.hubNs
                      inPort := inPort, frame := f }
    let s1 := s.cellPut cells (f.body.take f.len)
    { s1 with eth := { s1.eth with
        queue := s1.eth.queue ++ [e]
        flood := if flooded then vecUpd s1.eth.flood port (fun _ => (ms, used + f.len))
                 else s1.eth.flood } }

/-- The trailer of a frame that the internal port sends to a pair. -/
def prpTag (seq : Nat) (port : Nat) (f : EthFrame) : EthFrame :=
  { f with rct := some (BitVec.ofNat 16 seq, if port % 2 = 0 then 0xA else 0xB), len := f.len + 6 }

/-- Send a frame of the internal port to a pair: both ports, one sequence number (R337); `out` is the frame
as it leaves a port. -/
def State.prpSend (s : State) (p prio : Nat) (flooded : Bool) (out : Nat → EthFrame) : State :=
  let q := s.eth.prpSeq.toList.getD p 0
  let s1 := { s with eth := { s.eth with
    prpSeq := vecUpd s.eth.prpSeq p (fun n => (n + 1) % 2 ^ 16) } }
  [2 * p, 2 * p + 1].foldl (fun x n =>
    if x.portUp n then x.enqueue 4 prio flooded (prpTag q n (out n)) n else x) s1

/-- A frame reaches the internal port: a fragment begins a reassembly, of which 8 are held (R340). -/
def State.internal (s : State) (f : EthFrame) : State :=
  match f.frag with
  | some i =>
    if s.pde.reasm.contains i || 8 ≤ s.pde.reasm.length then s
    else { s with pde := { s.pde with reasm := s.pde.reasm ++ [i] } }
  | none => s

/-- A frame without its tag; the pad keeps it at 64 bytes. -/
def untagged (f : EthFrame) : EthFrame := { f with vid := none, len := max 64 (f.len - 4) }

/-- Forward a frame whose VID and priority are known to the ports of a mask (R333, R337). -/
def State.forwardTo (s : State) (inPort prio ports untag : Nat) (flooded : Bool) (f : EthFrame) :
    State :=
  let out (n : Nat) : EthFrame := if bitOf untag n then untagged f else f
  let usable := (bitList 5 ports).filter (fun n => n ≠ inPort && s.portUp n
    && (inPort = 4 || n = 4 || (!s.prpPort n && !s.prpPort inPort)))
  let plain := usable.filter (fun n => !s.prpPort n)
  let s1 := plain.foldl (fun x n =>
    let y := x.enqueue inPort prio flooded (out n) n
    if n = 4 then y.internal f else y) s
  [0, 1].foldl (fun x p =>
    if (bitList 5 ports).any (fun n => n ≠ inPort && x.prpPort n && n / 2 = p) && inPort = 4 then
      x.prpSend p prio flooded out
    else x) s1

/-- The PRP receiver: the frame to deliver to the internal port, if any (R338, R339). -/
def State.prpReceive (s : State) (port : Nat) (dualComid : Nat → Nat → Bool) (f : EthFrame) :
    State × Option EthFrame :=
  let p := port / 2
  match f.rct with
  | none => (s, some f)
  | some (q, lan) =>
    let bare := { f with rct := none, len := f.len - 6 }
    if lan ≠ (if port % 2 = 0 then 0xA else 0xB) then
      ((s.raise ETH_EVT_PRP_WRONG_LAN).bump (ETH_PRP_p_STAT_WRONG p), some bare)
    else if (match f.comid with
        | some c => dualComid c p
        | none => false) then (s, some bare)
    else
      let key := (f.src.toNat, q.toNat)
      let tab := s.eth.dup.toList.getD p []
      if tab.contains key then (s.bump (ETH_PRP_p_STAT_DUP p), none)
      else
        let s1 := s.when (2048 ≤ tab.length) (fun x => x.raise ETH_EVT_PRP_EVICT)
        let kept := if 2048 ≤ tab.length then tab.drop 1 else tab
        ({ s1 with eth := { s1.eth with dup := vecUpd s1.eth.dup p (fun _ => kept ++ [key]) } },
          some bare)

/-- A frame dropped at ingress for its length, FCS or VLAN. -/
def State.ethDrop (s : State) (port : Nat) (evt : Option Fld) : State :=
  let s1 := s.bump (ETH_PORT_n_DROP_OTHER port)
  match evt with
  | some e => s1.raise e
  | none => s1

/-- A frame that has passed length and FCS: VLAN, learning, destination (R333). -/
def State.switchFrame (s : State) (port : Nat) (f : EthFrame) : State :=
  let tagged := match f.vid with
    | some v => v ≠ 0
    | none => false
  let vid := match f.vid with
    | some v => if v = 0 then s.fget (ETH_PORT_n_CFG_PVID port) else v.toNat
    | none => s.fget (ETH_PORT_n_CFG_PVID port)
  let pcp := if tagged then f.pcp.toNat else s.fget (ETH_PORT_n_CFG_PCP port)
  let g := { f with vid := some (BitVec.ofNat 12 vid), pcp := BitVec.ofNat 3 pcp
                    len := if f.vid.isSome then f.len else f.len + 4 }
  match s.vlan vid with
  | none => if tagged then s.ethDrop port (some ETH_EVT_VLAN_DROP) else s.learn f.src.toNat vid port
  | some (mem, untag) =>
    if tagged && !bitOf mem port then s.ethDrop port (some ETH_EVT_VLAN_DROP)
    else
      let s1 := s.learn f.src.toNat vid port
      let dst := f.dst.toNat
      let known := if groupMac dst then none
        else match s1.staticPorts dst with
          | some m => some m
          | none => match s1.eth.learned.find? (fun e => e.1 = dst ∧ e.2.1 = vid) with
            | some e => some (2 ^ e.2.2)
            | none => if dst = s1.ownMac then some 16 else none
      match known with
      | some m => s1.forwardTo port (pcp / 2) (Nat.land m mem) untag false g
      | none => s1.forwardTo port (pcp / 2) mem untag true g

/-- The queue entry that a port sends next: the highest priority, the oldest within it. -/
def State.egressNext (s : State) (port : Nat) : Option QEnt :=
  let mine := s.eth.queue.filter (fun e => e.port = port)
  [3, 2, 1, 0].findSome? (fun p => mine.find? (fun e => e.prio = p))

/-- Reset of what the switch holds beside its registers. -/
def State.ethClear (s : State) : State := { s with eth := .reset }

end Sys2Proof.Machine
end

