-- ==== Sys2Proof/Machine/TimOps.lean ====
section
/-! DEFINITION. Sys2Proof/Machine/TimOps.lean: the time unit: measurements, steps, states, parent
selection (R361 to R366). -/

namespace Sys2Proof.Machine

/-- Change the time unit. -/
def State.timUpd (s : State) (f : Tim → Tim) : State := { s with tim := f s.tim }

/-- Set TIM_STAT.STATE: 0 FREE, 1 LOCKING, 2 LOCKED, 3 HOLDOVER, 4 EXPIRED; component N of the pair unit's
claim holds in 2 and 3 (Table 17-1). -/
def State.timTo (s : State) (v : Nat) : State :=
  (s.fset TIM_STAT_STATE v).pairHold 3 (v = 2 || v = 3)

/-- Enter HOLDOVER from a state that follows a source (R364). -/
def State.timHold (s : State) : State :=
  if s.fget TIM_STAT_STATE = 1 || s.fget TIM_STAT_STATE = 2 then
    ((s.timTo 3).raise TIM_EVT_HOLD).timUpd (fun t => { t with within := 0 })
  else s

/-- Set the count to the source's time (R363, R365). -/
def State.timStep (s : State) (ns : Int) : State :=
  let s1 := { s with now := { s.now with trainNs := (ns % 2 ^ 64).toNat, trainFrac := 0 } }
  let s2 := (s1.raise TIM_STAT_STEPPED).timTo 1
  s2.timUpd (fun t => { t with within := 0, beyond := 0, acceptJump := false, measUs := s.ts })

/-- A rate correction within 200 ppm; the spec gives no law for it, so the value is free (R363). -/
def State.timRate (s : State) : State :=
  let (v, s1) := s.free
  let r := max (-200000) (min 200000 (toSigned 64 v.toNat))
  s1.fset TIM_RATE_PPB (ofSigned 32 r)

/-- A measurement: own time minus source time in ns (R363 to R365). -/
def State.timMeasure (s : State) (off : Int) (rate : Option Int) : State :=
  let s1 := s.fset TIM_OFFSET_NS (ofSigned 32 (satSigned 32 off))
  if s1.tim.acceptJump && s1.flag TIM_STAT_STEPPED then
    (s1.timStep (s1.now.trainNs - off)).raise TIM_EVT_JUMP_ACC
  else if !s1.flag TIM_STAT_STEPPED then s1.timStep (s1.now.trainNs - off)
  else if off.natAbs ≤ s1.fget TIM_JUMP_MAX_NS then
    let s2 := match rate with
      | some r => s1.fset TIM_RATE_PPB (ofSigned 32 (max (-200000) (min 200000 r)))
      | none => s1.timRate
    let w := if off.natAbs ≤ 1000 then min (s2.tim.within + 1) 8 else 0
    let s3 := s2.timUpd (fun t => { t with within := w, beyond := 0, measUs := s.ts })
    let st := s3.fget TIM_STAT_STATE
    let st1 := if st = 2 then 2 else if w = 8 then 2 else 1
    (s3.timTo st1).when (st ≠ 2 && st1 = 2) (fun x => x.raise TIM_EVT_LOCKED)
  else
    let b := min (s1.tim.beyond + 1) 3
    let s2 := s1.timUpd (fun t => { t with within := 0, beyond := b })
    if b = 3 then s2.timHold.raise TIM_EVT_JUMP_REF else s2

/-- The order of the best master clock algorithm on data sets: the first difference decides. -/
def bmcaKey (a : Announce) : List Nat :=
  [a.prio1, a.cls, a.accuracy, a.variance, a.prio2, a.gmId, a.steps, a.clock, a.port]

/-- Is the first list lower at the first difference? -/
def lexLess : List Nat → List Nat → Bool
  | x :: xs, y :: ys => x < y || (x = y && lexLess xs ys)
  | _, _ => false

/-- The best of the masters heard. -/
def bestMaster (l : List Announce) : Option Announce :=
  l.foldl (fun m a => match m with
    | none => some a
    | some b => if lexLess (bmcaKey a) (bmcaKey b) then some a else some b) none

/-- Select the parent anew; a change of clock or port sets MASTER_CHG. -/
def State.timSelect (s : State) : State :=
  match bestMaster s.tim.masters with
  | none =>
    (s.timUpd (fun t => { t with parent := none })).fset TIM_STAT_PARENT_PORT 0xF
  | some a =>
    let same := match s.tim.parent with
      | some b => decide (a.clock = b.clock ∧ a.port = b.port)
      | none => false
    let s1 := s.timUpd (fun t => { t with parent := some a })
    let s2 := (s1.fset TIM_STAT_PARENT_PORT a.port).fset TIM_STAT_STEPS (min (a.steps + 1) 255)
    if same then s2
    else (s2.timUpd (fun t => { t with sync := none, t12 := none, beyond := 0, within := 0 })).raise
      TIM_EVT_MASTER_CHG

/-- Is a message of the parent, in PTP mode, over the transport selected (Table 13-9)? -/
def State.timFromParent (s : State) (m : PtpMsg) : Bool :=
  s.fget TIM_CFG_MODE = 1 && m.domain = s.fget TIM_CFG_DOMAIN && m.l2 == s.flag TIM_CFG_L2
    && (match s.tim.parent with
      | some a => decide (a.clock = m.clock ∧ a.port = m.port)
      | none => false)

/-- The path delay of a port; none before it has been measured. -/
def State.timDelay (s : State) (port : Nat) : Option Int :=
  match s.tim.delay.toList[port]? with
  | some d => d
  | none => none

/-- Origin and arrival of a Sync are complete: an offset measurement, once the delay is known. -/
def State.timSynced (s : State) (port : Nat) (origin : Int) (arrival : Nat) : State :=
  let s1 := s.timUpd (fun t => { t with t12 := some (port, origin, arrival), sync := none })
  match s1.timDelay port with
  | some d => s1.timMeasure ((arrival : Int) - origin - d) none
  | none => s1

/-- Reset of the time unit: the count is 0 (R361). -/
def State.timClear (s : State) : State :=
  let s1 := s.pairHold 3 false
  { s1 with tim := .reset, now := { s1.now with trainNs := 0, trainFrac := 0 } }

/-- The accept-jump command (R365). -/
def State.timCommand (s : State) (key action : Nat) : State :=
  if key ≠ 0x71 || action = 0 || action = 3 then s.answer .target
  else if action = 1 then (s.timUpd (fun t => { t with acceptJump := true })).answer .okay
  else if s.fget TIM_CFG_MODE = 1 then s.answer .target
  else (s.timUpd (fun t => { t with secset := true })).answer .okay

/-- A time status word (Table 13-10) and its quality. -/
def State.timItem (s : State) (i : Nat) : Word × Bool :=
  let up := !s.unitDown 0x22
  let ns := s.tim.snapNs
  let w : Nat := match i with
    | 0 => (s.regWord 0x40080000).toNat
    | 1 => s.fget TIM_OFFSET_NS
    | 2 => s.fget TIM_RATE_PPB
    | 3 => min ((s.ts - s.tim.measUs) / 1000000) 0xFFFFFFFF
    | 4 => ns / 1000000000 % 2 ^ 32
    | 5 => ns % 1000000000
    | 6 => (match s.tim.parent with
      | some a => if s.fget TIM_CFG_MODE = 2 then 0
                  else a.utc.toNat + 2 ^ 16 * bitNat a.utcValid + 2 ^ 17 * bitNat a.leap61
                    + 2 ^ 18 * bitNat a.leap59
      | none => 0)
    | _ => (match s.tim.parent with
      | some a => a.gmId % 2 ^ 32
      | none => 0)
  (BitVec.ofNat 32 w, up && ((i ≠ 4 && i ≠ 5) || s.trainSync))

end Sys2Proof.Machine
end

