-- ==== Sys2Proof/Machine/PdeOps.lean ====
section
/-! DEFINITION. Sys2Proof/Machine/PdeOps.lean: the process data engine: the session table, bindings,
publishing, subscribing, the safe container, the directory and message data (R340 to R360). -/

namespace Sys2Proof.Machine

/-- Bytes that an engine reads at an item's address: the publish buffer (R265); none where a word of
them has no data (R130). Memory holds what the lanes' stores reach; `cyc.pub` keeps what an item written
in the running cycle published. -/
def State.pubRead (s : State) (a n : Nat) : State × Option (List Byte) :=
  match s.cyc.pub.find? (fun p => p.1 = a) with
  | some p => (s, if n ≤ p.2.length then some (p.2.take n) else none)
  | none => s.engineRead a n

/-- A number that an engine reads, and whether its word has data. -/
def State.engineVal (s : State) (a n : Nat) : Nat × Bool :=
  match (s.engineRead a n).2 with
  | some b => (ofLe b, true)
  | none => (0, false)

/-- What the next INPUT presents at an address (R255): the latest content replaces an earlier one. -/
def State.rxPut (s : State) (a : Nat) (bs : List Byte) : State :=
  { s with cyc := { s.cyc with rx := s.cyc.rx.filter (fun p => p.1 ≠ a) ++ [(a, bs)] } }

/-! ### The section of TYPE 0x0005 (R341) -/

/-- A session entry (Table 13-5). -/
structure PdS where
  sub : Bool
  vsc : Bool
  dual : Bool
  pair : Nat
  vlan : Nat
  comid : Nat
  peer : Nat
  len : Nat
  own : Nat
  solo : Nat
  period : Nat
  offset : Nat
  buf : Nat
  keyix : Nat
  vtype : Nat
  maxgap : Nat
  maxage : Nat
  win : Nat
  mcast : Nat
  deriving DecidableEq, Repr

/-- Number of sessions, send queues, receive queues and seed entries of a set. -/
def CfgSet.pdN (c : CfgSet) : Nat := leAt (c.sect 5 0) 6 2
/-- SQUEUES. -/
def CfgSet.sqN (c : CfgSet) : Nat := leAt (c.sect 5 0) 8 1
/-- RQUEUES. -/
def CfgSet.rqN (c : CfgSet) : Nat := leAt (c.sect 5 0) 9 1
/-- DIRS. -/
def CfgSet.dirN (c : CfgSet) : Nat := leAt (c.sect 5 0) 10 2

/-- Session entry `i` of a set. -/
def CfgSet.pdS (c : CfgSet) (i : Nat) : PdS :=
  let b := ((c.sect 5 0).drop (32 + 48 * i)).take 48
  let fl := leAt b 0 1
  { sub := bitOf fl 0, vsc := bitOf fl 1, dual := bitOf fl 2, pair := leAt b 1 1
    vlan := leAt b 2 2, comid := leAt b 4 4, peer := leAt b 8 4, len := leAt b 12 2
    own := leAt b 14 1, solo := leAt b 15 1, period := leAt b 16 4, offset := leAt b 20 4
    buf := 0x20000000 + leAt b 24 4, keyix := leAt b 28 2, vtype := leAt b 30 1
    maxgap := leAt b 32 2, maxage := leAt b 34 2, win := leAt b 36 2, mcast := leAt b 38 4 }

/-- A queue entry (Table 13-7). -/
structure MdQ where
  kind : Nat
  depth : Nat
  ovf : Bool
  own : Nat
  solo : Nat
  pairq : Nat
  comid : Nat
  peer : Nat
  tmo : Nat
  deriving DecidableEq, Repr

/-- Queue entry `k` of a set, send queues first. -/
def CfgSet.mdQ (c : CfgSet) (k : Nat) : MdQ :=
  let b := ((c.sect 5 0).drop (32 + 48 * c.pdN + 16 * k)).take 16
  let fl := leAt b 2 1
  { kind := leAt b 0 1, depth := leAt b 1 1, ovf := bitOf fl 0, own := bitsOf fl 1 1
    solo := bitsOf fl 2 2, pairq := leAt b 3 1, comid := leAt b 4 4, peer := leAt b 8 4
    tmo := leAt b 12 2 }

/-- Send queue `q` of a set. -/
def CfgSet.sendQ (c : CfgSet) (q : Nat) : MdQ := c.mdQ q

/-- Receive queue `q` of a set. -/
def CfgSet.recvQ (c : CfgSet) (q : Nat) : MdQ := c.mdQ (c.sqN + q)

/-- A directory entry from its 16 bytes (Table 13-6). -/
def dirE (b : List Byte) : DirE :=
  { valid := bitOf (leAt b 0 4) 31, dev := bitsOf (leAt b 0 4) 0 18, ip := leAt b 4 4
    consist := leAt b 8 1, vehicle := leAt b 9 1 }

/-- The seed of the directory. -/
def CfgSet.dirSeed (c : CfgSet) : List DirE :=
  (records 16 c.dirN ((c.sect 5 0).drop (32 + 48 * c.pdN + 16 * (c.sqN + c.rqN)))).map dirE

/-- The device ID that means none or any. -/
def anyPeer : Nat := 0x3FFFF

/-- Safe key `k` of a set (R450). -/
def CfgSet.safeKey (c : CfgSet) (k : Nat) : Nat :=
  let b := c.sect 11 0
  leAt b (32 + 8 * (leAt b 6 1 + leAt b 8 2) + 4 * k) 4

/-! ### Sessions -/

/-- The process data engine runs. -/
def State.pdeUp (s : State) : Bool := !s.unitDown 0x21

/-- A session's state. -/
def State.pd (s : State) (i : Nat) : Sess := s.pde.sess.getD i .fresh

/-- Change the process data engine. -/
def State.pdeUpd (s : State) (f : Pde → Pde) : State := { s with pde := f s.pde }

/-- Change a session. -/
def State.pdUpd (s : State) (i : Nat) (f : Sess → Sess) : State :=
  s.pdeUpd (fun p => { p with sess := p.sess.mapIdx (fun j x => if j = i then f x else x) })

/-- The latest frame that the internal port sends. -/
def State.netSend (s : State) (t : NetTx) : State := s.pdeUpd (fun p => { p with tx := some t })

/-- The address that a datagram is sent to next: its own in the subnet and for a group, else the gateway
(R340, Table 13-3). -/
def State.nextHop (s : State) (ip : Nat) : Nat :=
  let m := s.fget PDE_NETMASK_ADDR
  if ip / 2 ^ 28 = 14 || Nat.land ip m = Nat.land (s.fget PDE_IPADDR_ADDR) m then ip
  else s.fget PDE_GATEWAY_ADDR

/-- Message data goes out. -/
def State.mdOut (s : State) (m : MdMsg) : State := s.netSend (.md m (s.nextHop m.dst))

/-- The address of a device ID in a directory. -/
def dirIp (d : List DirE) (dev : Nat) : Option Nat :=
  if dev = anyPeer then none else (d.find? (fun e => e.valid && e.dev = dev)).map (fun e => e.ip)

/-- The directory index of an address; 0xFFFF where it is not in the directory. -/
def dirIndexOf (d : List DirE) (p : DirE → Bool) : Nat :=
  match d.findIdx? (fun e => e.valid && p e) with
  | some i => i
  | none => 0xFFFF

/-- May a session work: bound, or MCAST nonzero, or a subscription to any publisher? -/
def State.pdBound (s : State) (i : Nat) : Bool :=
  let e := s.boot.act.pdS i
  (s.pd i).addr.isSome || e.mcast ≠ 0 || (e.sub && e.peer = anyPeer)

/-- Show a session's binding and the totals. -/
def State.pdShow (s : State) : State :=
  let n := s.pde.sess.length
  let s1 := (List.range n).foldl (fun x i => x.show (PDE_SSTAT_s_BOUND i) (x.pdBound i)) s
  (s1.fset PDE_STAT_BOUND ((List.range n).filter (fun i => (s.pd i).addr.isSome)).length).fset
    PDE_STAT_DIRN (s.pde.dir.filter (fun e => e.valid)).length

/-- Start a session afresh: any counter is accepted, quality bad until an acceptance, nothing
handed over. Its own counters go on (R345, R350). -/
def State.pdAfresh (s : State) (i : Nat) (addr : Option Nat) : State :=
  ((((s.pdUpd i (fun x => { x with addr := addr, anySeq := true, handed := false, dual := none })).lower
    (PDE_SSTAT_s_UP i)).lower (PDE_SSTAT_s_TIMEDOUT i)).lower (PDE_SSTAT_s_DIFF i)).lower
    (PDE_SSTAT_s_HELD i)

/-- Bind every session to the directory; unchanged addresses keep their state (R350). -/
def State.pdRebind (s : State) : State :=
  let one (x : State) (i : Nat) : State :=
    let old := (x.pd i).addr
    let new := dirIp x.pde.dir (x.boot.act.pdS i).peer
    if old = new then x
    else (x.pdAfresh i new).when new.isNone (fun y => y.raise PDE_EVT_UNBOUND)
  ((List.range s.pde.sess.length).foldl one s).pdShow

/-- The start after a load of the active set's section (R341, R348). -/
def State.pdeStart (s : State) : State :=
  let c := s.boot.act
  let n := if c.has 5 0 then c.pdN else 0
  let s1 := s.pdeUpd (fun _ => { Pde.reset with
    sess := List.replicate n .fresh
    dir := if c.has 5 0 then c.dirSeed else []
    sendQ := List.replicate c.sqN []
    recvQ := List.replicate c.rqN [] })
  let s2 := (s1.fset PDE_ETBTOPO_CNT (leAt (c.sect 5 0) 0x10 4)).fset PDE_OPTOPO_CNT
    (leAt (c.sect 5 0) 0x14 4)
  let groups := (((List.range n).map c.pdS).filter (fun e => e.sub && e.mcast ≠ 0)).map
    (fun e => e.mcast)
  let s3 := (List.range n).foldl (fun x i =>
    x.pdUpd i (fun y => { y with addr := dirIp x.pde.dir (c.pdS i).peer })) s2
  (s3.when (!groups.isEmpty) (fun x => x.netSend (.membership groups.eraseDups))).pdShow

/-- Is a session unchanged by a swap (R351)? -/
def samePd (a b : PdS) : Bool :=
  a.comid = b.comid && a.sub = b.sub && a.vsc = b.vsc && a.dual = b.dual && a.pair = b.pair
    && a.peer = b.peer && a.mcast = b.mcast && a.len = b.len && a.buf = b.buf

/-- The swap of the session tables from set `old` to the active set (R351). -/
def State.pdeSwap (s : State) (old : CfgSet) : State :=
  let c := s.boot.act
  let n := if c.has 5 0 then c.pdN else 0
  let keep (i : Nat) : Bool := i < s.pde.sess.length && samePd (old.pdS i) (c.pdS i)
  let keepQ (q : Nat) : Bool := q < c.sqN && q < old.sqN && old.sendQ q = c.sendQ q
  let pool := leAt (old.sect 5 0) 12 4 = leAt (c.sect 5 0) 12 4
  let s1 := s.pdeUpd (fun p => { p with
    sess := (List.range n).map (fun i => if keep i then p.sess.getD i .fresh
      else { Sess.fresh with addr := dirIp p.dir (c.pdS i).peer })
    sendQ := (List.range c.sqN).map (fun q => if old.sendQ q = c.sendQ q then p.sendQ.getD q [] else [])
    recvQ := (List.range c.rqN).map (fun q =>
      if pool && old.recvQ q = c.recvQ q then p.recvQ.getD q [] else [])
    waits := p.waits.filter (fun w => keepQ w.1), reqs := p.reqs.filter (fun r => keepQ r.1) })
  ((List.range 512).foldl (fun x i => if keep i then x
    else x.setReg (0x40070100 + 4 * i) 0) s1).pdShow

/-! ### The safe container (R356 to R359) -/

/-- The CRC of a container: COMID, data and the first 12 trailer bytes. -/
def vscCrc (key comid : Nat) (bs : List Byte) : Nat :=
  Nat.xor (crcBytesR 0x82F63B78 key (beBytes 4 comid ++ bs)) 0xFFFFFFFF

/-- Own train time in ms. -/
def State.trainMs (s : State) : Nat := s.now.trainNs / 1000000 % 2 ^ 32

/-- A dataset with the trailer of Table 13-8. -/
def State.vscBuild (s : State) (e : PdS) (ssn : Nat) (data : List Byte) : List Byte :=
  let n := e.len - 16
  let b := data.take n ++ beBytes 3 (s.fget PDE_OWNID_ID * 64 + e.vtype) ++ [1] ++ beBytes 4 ssn
    ++ beBytes 4 s.trainMs
  b ++ beBytes 4 (vscCrc (s.boot.act.safeKey e.keyix) e.comid b)

/-- The CRC units disagreed: VSC_INT, and a third time within 1,000 cycles the stop (R359, R460). -/
def State.vscInt (s : State) (i : Nat) : State :=
  let now := s.cyc.count.toNat
  let recent := s.pde.vscInts.filter (fun c => now < c + 1000) ++ [now]
  let s1 := ((s.pdeUpd (fun p => { p with vscInts := recent })).raise PDE_EVT_VSC_INT).fset
    (PDE_SSTAT_s_LASTERR i) 0xB
  ((s1.bump SAF_VSCINT_TOTAL).fset SAF_VSCINT_INWIN (min recent.length 2)).when
    (3 ≤ recent.length && !s.flag SAF_STAT_VSC_STOP)
    (fun x => (x.raise SAF_STAT_VSC_STOP).raise SAF_EVT_VSC_STOP)

/-- The checks of R358 on a dataset: the code of the first that fails. -/
def State.vscCheck (s : State) (i : Nat) (e : PdS) (data : List Byte) (agree : Bool) : Nat :=
  let n := e.len - 16
  let idt := beAt data n 3
  let ssn := beAt data (n + 4) 4
  let gap := (ssn + 2 ^ 32 - (s.pd i).ssn) % 2 ^ 32
  let age := toSigned 32 ((s.trainMs + 2 ^ 32 - beAt data (n + 8) 4) % 2 ^ 32)
  if !agree then 0xB
  else if beAt data (n + 12) 4 ≠ vscCrc (s.boot.act.safeKey e.keyix) e.comid (data.take (n + 12)) then 4
  else if beAt data (n + 3) 1 ≠ 1 then 5
  else if idt / 64 ≠ e.peer then 6
  else if idt % 64 ≠ e.vtype then 7
  else if !(s.pd i).anySeq && !(1 ≤ gap && gap ≤ e.maxgap) then 8
  else if !s.trainSync then 0xA
  else if !(-2 ≤ age && age ≤ e.maxage) then 9
  else 0

/-! ### Publishing (R344, R345) -/

/-- May a publish session send now? -/
def State.pdMaySend (s : State) (i : Nat) (e : PdS) : Bool :=
  (s.pd i).handed && (s.pd i).qual && ((s.pd i).addr.isSome || e.mcast ≠ 0)
    && (!e.vsc || (s.trainSync && !s.flag SAF_STAT_VSC_STOP)) && s.rst.safe.isNone

/-- Bytes of a publish buffer that go into a frame; the trailer of a safe container is built. -/
def PdS.pubLen (e : PdS) : Nat := if e.vsc then e.len - 16 else e.len

/-- The frame of a publication with its data. -/
def State.pdFrame (s : State) (i : Nat) (e : PdS) (data : List Byte) : PdFrame :=
  let x := s.pd i
  { hdrOk := true, msgType := 0x5064, ver := 0x0100, comid := e.comid
    dst := if e.mcast ≠ 0 then e.mcast else x.addr.getD 0
    src := s.fget PDE_IPADDR_ADDR, seq := x.seq, etb := s.fget PDE_ETBTOPO_CNT
    op := s.fget PDE_OPTOPO_CNT, dlen := e.len, vlan := e.vlan
    data := if e.vsc then s.vscBuild e ((x.ssn + 1) % 2 ^ 32) data else data }

/-- The engine hands a session's content over at COMMIT or EXCHANGE with a quality. -/
def State.pdHand (s : State) (i : Nat) (q : Bool) : State :=
  s.pdUpd i (fun x => { x with handed := true, qual := q })

/-! ### Subscribing (R346, R347, R360) -/

/-- The subscribe session that a frame matches. -/
def State.pdMatch (s : State) (f : PdFrame) : Option Nat :=
  (List.range s.pde.sess.length).find? (fun i =>
    let e := s.boot.act.pdS i
    e.sub && e.comid = f.comid
      && (if e.mcast ≠ 0 then decide (f.dst = e.mcast) else decide (f.dst = s.fget PDE_IPADDR_ADDR))
      && (e.peer = anyPeer || (s.pd i).addr = some f.src))

/-- A nonzero topology count that differs from the current one fails. -/
def State.topoOk (s : State) (f : PdFrame) : Bool :=
  (f.etb = 0 || f.etb = s.fget PDE_ETBTOPO_CNT) && (f.op = 0 || f.op = s.fget PDE_OPTOPO_CNT)

/-- The verdict of R346 on a frame: none for a silent drop, else a LASTERR code, 0 for valid. -/
def State.pdCheck (s : State) (i : Nat) (e : PdS) (f : PdFrame) (agree : Bool) : Option Nat :=
  let x := s.pd i
  let gap := (f.seq + 2 ^ 32 - x.seq) % 2 ^ 32
  if !f.hdrOk || f.msgType ≠ 0x5064 || f.ver / 256 ≠ 1 then some 1
  else if f.dlen ≠ e.len || f.data.length ≠ e.len then some 0xC
  else if !s.topoOk f then some 2
  else if !x.anySeq && gap = 0 then none
  else if !x.anySeq && 2 ^ 31 ≤ gap then some 3
  else if e.vsc then some (s.vscCheck i e f.data agree) else some 0

/-- Accept a frame. -/
def State.pdAccept (s : State) (i : Nat) (e : PdS) (f : PdFrame) : State :=
  let ssn := if e.vsc then beAt f.data (e.len - 16 + 4) 4 else 0
  let s1 := (s.rxPut e.buf f.data).pdUpd i (fun x => { x with
    anySeq := false, seq := f.seq, ssn := ssn, acc := (s.ts, f.seq, ssn), dual := none })
  ((s1.raise (PDE_SSTAT_s_UP i)).lower (PDE_SSTAT_s_TIMEDOUT i)).lower (PDE_SSTAT_s_DIFF i)

/-- A frame failed a check. -/
def State.pdFail (s : State) (i code : Nat) : State :=
  if code = 0xB then s.vscInt i
  else
    let s1 := s.fset (PDE_SSTAT_s_LASTERR i) code
    let s2 := s1.when (code = 2) (fun x => x.raise PDE_EVT_TOPO_DROP)
    let s3 := s2.when (4 ≤ code && code ≤ 0xA) (fun x => (x.raise PDE_EVT_VSC_ERR).count 14)
    s3.when (code = 0xA) (fun x => x.raise PDE_EVT_NOSYNC)

/-- A DUAL frame was accepted from one lane only: the missing lane's losses. -/
def State.pdLoss (s : State) (i : Nat) (firstB : Bool) : State :=
  (if firstB then (s.bump (PDE_SSTAT_s_LOSS_A i)).bump PDE_LANELOSS_LOSS_A
   else (s.bump (PDE_SSTAT_s_LOSS_B i)).bump PDE_LANELOSS_LOSS_B).raise PDE_EVT_LANE_LOSS

/-- A valid copy of a DUAL frame (R360). -/
def State.pdDual (s : State) (i : Nat) (e : PdS) (lanB : Bool) (f : PdFrame) : State :=
  match (s.pd i).dual with
  | none => s.pdUpd i (fun x => { x with dual := some (lanB, f) })
  | some (l0, f0) =>
    if l0 = lanB then s
    else if f0 = f then s.pdAccept i e f
    else ((s.pdUpd i (fun x => { x with dual := none })).raise (PDE_SSTAT_s_DIFF i)).raise
      PDE_EVT_VSC_DIFF

/-- A session word of the input map (R343) and its quality. -/
def State.pdItem (s : State) (i field : Nat) : Word × Bool :=
  let e := s.boot.act.pdS i
  let x := s.pd i
  let w : Nat × Bool := if field = 0x8000 then ((s.regWord (0x40070100 + 4 * i)).toNat, true)
    else if field = 0x8001 then (x.snap.2.1, true)
    else if field = 0x8002 then (min (s.cyc.ts.toNat - x.snap.1) 0xFFFFFFFF, true)
    else if field = 0x8003 then (x.snap.2.2, true)
    else s.engineVal (e.buf + 4 * field) (min 4 (e.len - 4 * field))
  (BitVec.ofNat 32 w.1, w.2 && s.pdeUp && s.pdBound i && s.flag (PDE_SSTAT_s_UP i)
    && !s.flag (PDE_SSTAT_s_TIMEDOUT i) && !s.flag (PDE_SSTAT_s_DIFF i)
    && !(e.vsc && s.flag SAF_STAT_VSC_STOP))

/-- INPUT takes what the accepted frames brought. -/
def State.pdeInput (s : State) : State :=
  s.pdeUpd (fun p => { p with sess := p.sess.map (fun x => { x with snap := x.acc }) })

/-! ### The directory (R349, R350) -/

/-- A keyed commit of PDE_DIRCMD. -/
def State.dirCommand (s : State) (key ofs : Nat) : State :=
  if key ≠ 0x6D || ofs % 8 ≠ 0 then s.answer .target
  else if s.fget PDE_DIRSTAT_STATE ≠ 0 then (s.fset PDE_DIRSTAT_RESULT 2).answer .target
  else
    ((s.fset PDE_DIRSTAT_STATE 1).pdeUpd (fun p => { p with imageOfs := ofs, imageDue := false })).answer .okay

/-- The COMMIT phase has ended: the image of a commit that was made may be copied (R349). -/
def State.dirDue (s : State) : State :=
  s.when (s.fget PDE_DIRSTAT_STATE = 1) (fun x => x.pdeUpd (fun p => { p with imageDue := true }))

/-- Are no two valid entries of one device ID? -/
def dirUnique : List DirE → Bool
  | [] => true
  | e :: t => (!e.valid || t.all (fun x => !x.valid || x.dev ≠ e.dev)) && dirUnique t

/-- The image has been copied: it is refused, or waits for a boundary. DESIGN CHOICE (log entry 116): an
image with an uncorrectable word is refused as invalid. -/
def State.dirCopied (s : State) : State :=
  let a := 0x20000000 + s.pde.imageOfs
  let r := s.engineRead a 16
  let h := r.2.getD []
  let n := leAt h 4 2
  let t := if 4096 < n then (r.1, some []) else r.1.engineRead (a + 16) (16 * n)
  let s := t.1
  let es := (records 16 n (t.2.getD [])).map dirE
  if t.2.isNone || leAt h 0 4 ≠ 0x5249445A || 4096 < n || 0x20180000 < a + 16 + 16 * n || !dirUnique es then
    ((s.fset PDE_DIRSTAT_STATE 0).fset PDE_DIRSTAT_RESULT 3).raise PDE_EVT_DIR_ERR
  else
    (s.pdeUpd (fun p => { p with image := some (leAt h 8 4, leAt h 12 4, es) })).fset
      PDE_DIRSTAT_STATE 2

/-- The bank switch at a boundary, between steps 3 and 6 of R172. -/
def State.dirSwitch (s : State) : State :=
  match s.pde.image with
  | none => s
  | some (etb, op, es) =>
    let s1 := s.pdeUpd (fun p => { p with dir := es, image := none })
    let s2 := (s1.fset PDE_ETBTOPO_CNT etb).fset PDE_OPTOPO_CNT op
    let s3 := (((s2.fset PDE_DIRSTAT_STATE 0).fset PDE_DIRSTAT_RESULT 1).bump PDE_DIRSTAT_GEN).raise
      PDE_EVT_DIR_DONE
    let s4 := match dirIp es (s.fget PDE_OWNID_ID) with
      | some ip => if ip = 0 then s3 else (s3.fset PDE_IPADDR_ADDR ip).netSend (.gratuitousArp ip)
      | none => s3
    s4.pdRebind

/-! ### Message data (R352 to R355) -/

/-- Element `i` of a list of lists changed. -/
def listUpd {α : Type} (l : List α) (i : Nat) (f : α → α) : List α :=
  l.mapIdx (fun j x => if j = i then f x else x)

/-- A SEND reaches its queue: the response code (R353). -/
def State.mdSend (s : State) (q addr len : Nat) : State × Resp :=
  let e := s.boot.act.sendQ q
  let cur := s.pde.sendQ.getD q []
  if s.pde.sendQ.length ≤ q then (s, .target)
  else if e.depth ≤ cur.length && !e.ovf then (s, .target)
  else
    let full := decide (e.depth ≤ cur.length)
    let s1 := s.when full (fun x => (x.bump PDE_MDSTAT_TXDROP).raise PDE_EVT_MD_DROP)
    (s1.pdeUpd (fun p => { p with
      sendQ := listUpd p.sendQ q (fun l => (if full then l.drop 1 else l) ++ [(addr, len)]) }), .okay)

/-- Slot 0 of receive queue `q` in the message pool (R354). -/
def CfgSet.slotBase (c : CfgSet) (q : Nat) : Nat :=
  0x20000000 + leAt (c.sect 5 0) 12 4
    + 1440 * ((List.range q).foldl (fun n k => n + (c.recvQ k).depth) 0)

/-- Place a message in receive queue `q`, or drop it. -/
def State.mdPlace (s : State) (q : Nat) (data : List Byte) (sender ip sess : Nat) : State :=
  let c := s.boot.act
  let cur := s.pde.recvQ.getD q []
  match (List.range (c.recvQ q).depth).find? (fun k => cur.all (fun m => m.slot ≠ k)) with
  | none => (s.bump PDE_MDSTAT_RXDROP).raise PDE_EVT_MD_DROP
  | some k =>
    let m : RMsg := { slot := k, len := data.length, sender := sender, ip := ip, sess := sess
                      taken := false }
    (s.burstPut (c.slotBase q + 1440 * k) data).pdeUpd (fun p => { p with
      recvQ := listUpd p.recvQ q (fun l => l ++ [m]) })

/-- RECV or a load from receive port `q`: the descriptor of the oldest message (R241), which a
queue of KIND 0x12 registers with its send queue (R355). -/
def State.mdTake (s : State) (q : Nat) : State × DWord :=
  let c := s.boot.act
  let cur := s.pde.recvQ.getD q []
  match cur.find? (fun m => !m.taken) with
  | none => (s, 0)
  | some m =>
    let d := c.slotBase q + 1440 * m.slot + 2 ^ 32 * m.len + 2 ^ 48 * m.sender
    let s1 := s.pdeUpd (fun p => { p with
      recvQ := listUpd p.recvQ q (fun l => l.map (fun x =>
        if x.slot = m.slot then { x with taken := true } else x)) })
    (s1.when ((c.recvQ q).kind = 0x12) (fun x => x.pdeUpd (fun p => { p with
      reqs := p.reqs ++ [((c.recvQ q).pairq, m.ip, m.sess)] })), BitVec.ofNat 64 d)

/-- The slots of the messages that RECV took are freed at the END of the cycle (R354). -/
def State.mdFree (s : State) : State :=
  s.pdeUpd (fun p => { p with recvQ := p.recvQ.map (fun l => l.filter (fun m => !m.taken)) })

/-- Send one message of send queue `q` (R353, R355). -/
def State.mdSendData (s : State) (q : Nat) (data : List Byte) : State :=
  let e := s.boot.act.sendQ q
  let own := s.fget PDE_IPADDR_ADDR
  let msg (ty dst sess : Nat) : MdMsg :=
    { msgType := ty, hdrOk := true, comid := e.comid, dst := dst, src := own, sess := sess
      reasm := none, data := data }
  let sess := s.fget PDE_OWNID_ID * 2 ^ 32 + s.pde.mdCount
  if e.kind = 3 then
    match s.pde.reqs.find? (fun r => r.1 = q) with
    | none => s.raise PDE_EVT_MD_ORPHAN
    | some r =>
      (s.pdeUpd (fun p => { p with reqs := p.reqs.erase r })).mdOut (msg 0x4D70 r.2.1 r.2.2)
  else
    let s1 := s.pdeUpd (fun p => { p with
      mdCount := (p.mdCount + 1) % 2 ^ 32
      waits := if e.kind = 2 then p.waits ++ [(q, sess)] else p.waits })
    match dirIp s.pde.dir e.peer with
    | none => s1.raise PDE_EVT_MD_DROP
    | some ip => s1.mdOut (msg (if e.kind = 2 then 0x4D72 else 0x4D6E) ip sess)

/-- The PDE takes a dataset at the end of COMMIT and sends it. DESIGN CHOICE (log entry 116): a message
with an uncorrectable word is not sent (R130) and counts as dropped. -/
def State.mdSendOne (s : State) (q addr len : Nat) : State :=
  let r := s.engineRead addr len
  match r.2 with
  | some data => r.1.mdSendData q data
  | none => r.1.raise PDE_EVT_MD_DROP

/-- At the end of COMMIT the PDE takes and sends what the queues hold, in order (R240, R353). -/
def State.mdSendAll (s : State) : State :=
  if !s.pdeUp then s
  else
    let jobs := (s.pde.sendQ.mapIdx (fun q l => l.map (fun m => (q, m.1, m.2)))).flatten
    let s1 := s.pdeUpd (fun p => { p with sendQ := p.sendQ.map (fun _ => []) })
    jobs.foldl (fun x j => x.mdSendOne j.1 j.2.1 j.2.2) s1

/-- The receive queue of a KIND that a message reaches. -/
def State.mdMatch (s : State) (kind : Nat) (m : MdMsg) : Option Nat :=
  (List.range s.pde.recvQ.length).find? (fun q =>
    let e := s.boot.act.recvQ q
    e.kind = kind && e.comid = m.comid
      && (e.peer = anyPeer || dirIp s.pde.dir e.peer = some m.src))

/-- A message arrives (R352, R354, R355). -/
def State.mdReceive (s : State) (m : MdMsg) : State :=
  let sender := dirIndexOf s.pde.dir (fun e => e.ip = m.src)
  if m.msgType = 0x4D6E then
    match s.mdMatch 0x11 m with
    | some q => if m.hdrOk then s.mdPlace q m.data sender m.src m.sess else s
    | none => s
  else if m.msgType = 0x4D72 then
    if !m.hdrOk then
      s.mdOut { m with msgType := 0x4D65, hdrOk := true, dst := m.src
                       src := s.fget PDE_IPADDR_ADDR, reasm := none, data := [] }
    else match s.mdMatch 0x12 m with
      | some q => s.mdPlace q m.data sender m.src m.sess
      | none => s
  else if m.msgType = 0x4D70 then
    match s.pde.waits.find? (fun w => w.2 = m.sess) with
    | none => s
    | some w =>
      let q := (s.boot.act.sendQ w.1).pairq
      let e := s.boot.act.recvQ q
      if m.hdrOk && e.comid = m.comid
          && (e.peer = anyPeer || dirIp s.pde.dir e.peer = some m.src) then
        (s.pdeUpd (fun p => { p with waits := p.waits.erase w })).mdPlace q m.data sender m.src m.sess
      else s
  else s

/-- The oldest request of send queue `q` has had no reply within TMO. -/
def State.mdTimeout (s : State) (q : Nat) : State :=
  match s.pde.waits.find? (fun w => w.1 = q) with
  | none => s
  | some w =>
    let e := s.boot.act.sendQ q
    (s.pdeUpd (fun p => { p with waits := p.waits.erase w })).mdPlace e.pairq []
      (dirIndexOf s.pde.dir (fun d => d.dev = e.peer)) 0 w.2

end Sys2Proof.Machine
end

