-- ==== Sys2Proof/Machine/CanOps.lean ====
section
/-! DEFINITION. Sys2Proof/Machine/CanOps.lean: the CAN FD controllers: filter table, buffers and FIFO,
transmit items, error states (R367 to R386). -/

namespace Sys2Proof.Machine

/-- A controller. -/
def State.canCtl (s : State) (n : Nat) : Can := s.can.toList.getD n .reset

/-- Change a controller. -/
def State.canUpd (s : State) (n : Nat) (f : Can → Can) : State := { s with can := vecUpd s.can n f }

/-- The controller is powered, clocked and out of reset. -/
def State.canUp (s : State) (n : Nat) : Bool := !s.unitDown (0x28 + n)

/-- CAN_n_STAT.STATE. -/
def State.canState (s : State) (n : Nat) : Nat := s.fget (CAN_n_STAT_STATE n)

/-- The status of a transmit item (Table 14-5). -/
def State.canSt (s : State) (n b : Nat) : Nat := s.fget (CAN_n_TXSTAT_ST n b)

/-- Set it. -/
def State.canSetSt (s : State) (n b v : Nat) : State := s.fset (CAN_n_TXSTAT_ST n b) v

/-- A transmit item. -/
def State.canItem (s : State) (n b : Nat) : CanItem :=
  (s.canCtl n).items.toList.getD b { content := [], next := none, cancel := false }

/-- Change a transmit item. -/
def State.canItemUpd (s : State) (n b : Nat) (f : CanItem → CanItem) : State :=
  s.canUpd n (fun c => { c with items := vecUpd c.items b f })

/-! ### The section of TYPE 0x0006 (R373, R374) -/

/-- RXBASE of a controller's section as an address. -/
def CfgSet.canRx (c : CfgSet) (n : Nat) : Nat := 0x20000000 + leAt (c.sect 6 n) 8 4

/-- TXBASE. -/
def CfgSet.canTx (c : CfgSet) (n : Nat) : Nat := 0x20000000 + leAt (c.sect 6 n) 12 4

/-- A filter element. -/
structure CanFilt where
  lo : Nat
  hi : Nat
  mat : Nat
  ext : Bool
  dest : Nat
  slot : Nat
  deriving DecidableEq, Repr

/-- The elements of a filter section. -/
def canFilters (sec : List Byte) : List CanFilt :=
  (records 12 (leAt sec 6 2) (sec.drop 32)).map (fun b =>
    { lo := leAt b 0 4, hi := leAt b 4 4, mat := leAt b 8 1, ext := bitOf (leAt b 9 1) 0
      dest := leAt b 10 1, slot := leAt b 11 1 })

/-- Does an element's condition hold for an identifier? -/
def CanFilt.holds (e : CanFilt) (id : Nat) : Bool :=
  match e.mat with
  | 1 => Nat.land (Nat.xor id e.lo) e.hi = 0
  | 2 => e.lo ≤ id && id ≤ e.hi
  | 3 => id = e.lo || id = e.hi
  | _ => false

/-- The identifier of a frame; a base identifier has 11 bits. -/
def canId (f : CanFrame) : Nat := if f.xtd then f.id.toNat else f.id.toNat % 2 ^ 11

/-- The first element that matches a frame, with its index. -/
def canMatch (l : List CanFilt) (f : CanFrame) : Option (Nat × CanFilt) :=
  (l.zipIdx.find? (fun p => p.1.mat ≠ 0 && p.1.ext == f.xtd && p.1.holds (canId f))).map
    (fun p => (p.2, p.1))

/-! ### Messages (R372) -/

/-- Data bytes of a DLC code. -/
def dlcLen (fd : Bool) (d : Nat) : Nat :=
  if d ≤ 8 then d else if !fd then 8
  else [12, 16, 20, 24, 32, 48, 64].getD (d - 9) 64

/-- The 80 bytes of a stored message. -/
def canMsg (f : CanFrame) (elem cnt ts : Nat) : List Byte :=
  let n := if f.rtr then 0 else dlcLen f.fdf f.dlc.toNat
  let d := f.data.take n
  leBytes 4 (canId f + 2 ^ 29 * bitNat f.xtd + 2 ^ 30 * bitNat f.rtr + 2 ^ 31 * bitNat f.esi)
    ++ leBytes 4 (f.dlc.toNat + 16 * bitNat f.fdf + 32 * bitNat f.brs + 256 * elem + 65536 * cnt)
    ++ leBytes 4 ts ++ d ++ List.replicate (64 - d.length) 0 ++ leBytes 4 0

/-- The frame that an item's content asks for (R367, R372). -/
def State.canFrameOf (s : State) (n : Nat) (b : List Byte) : CanFrame :=
  let w0 := leAt b 0 4
  let w1 := leAt b 4 4
  let fd := bitOf w1 4 && s.flag (CAN_n_CFG_FD_EN n)
  let rtr := bitOf w0 30 && !fd
  { id := BitVec.ofNat 29 w0, xtd := bitOf w0 29, rtr := rtr, fdf := fd
    brs := fd && bitOf w1 5 && s.flag (CAN_n_CFG_SWITCH_EN n)
    esi := fd && s.canState n = 3
    dlc := BitVec.ofNat 4 w1
    data := if rtr then [] else (b.drop 12).take (dlcLen fd (w1 % 16)) }

/-- The arbitration field of a frame as a number: the lower wins. -/
def arbField (f : CanFrame) : Nat :=
  let id := f.id.toNat
  if f.xtd then id / 2 ^ 18 * 2 ^ 21 + 2 ^ 20 + 2 ^ 19 + id % 2 ^ 18 * 2 + bitNat f.rtr
  else id % 2 ^ 11 * 2 ^ 21 + bitNat f.rtr * 2 ^ 20

/-! ### Reception (R375, R378) -/

/-- The FRESH bit of a receive buffer. -/
def canFresh (n b : Nat) : Fld := ⟨0x40090030 + 0x4000 * n + 4 * (b / 32), b % 32, 1⟩

/-- Store a message in a live buffer. -/
def State.canStore (s : State) (n b elem : Nat) (f : CanFrame) : State :=
  let c := s.canCtl n
  let cnt := match c.bufs.toList[b]? with
    | some x => (leAt x.bytes 6 1 + 1) % 256
    | none => 1
  let s1 := s.canUpd n (fun c => { c with bufs := vecUpd c.bufs b (fun x =>
    { bytes := canMsg f elem cnt (c.sofUs % 2 ^ 32), since := x.since + 1, stored := some s.ts }) })
  let s2 := s1.when (s1.flag (canFresh n b)) (fun x =>
    (x.raise (CAN_n_EVT_RX_LOST n)).bump (CAN_n_ERRCNT_RXLOST n))
  s2.raise (canFresh n b)

/-- Store a message in the FIFO. -/
def State.canFifo (s : State) (n elem : Nat) (f : CanFrame) : State :=
  let fill := s.fget (CAN_n_FIFOSTAT_FILL n)
  let get := s.fget (CAN_n_FIFOSTAT_GET n)
  let put (x : State) (k : Nat) : State := x.canUpd n (fun c => { c with
    fifo := vecUpd c.fifo k (fun o => canMsg f elem ((leAt o 6 1 + 1) % 256) (c.sofUs % 2 ^ 32)) })
  if fill < 32 then (put s ((get + fill) % 32)).fset (CAN_n_FIFOSTAT_FILL n) (fill + 1)
  else
    let s1 := (s.raise (CAN_n_EVT_FIFO_DROP n)).bump (CAN_n_FIFOSTAT_DROP n)
    if s.flag (CAN_n_CFG_FIFO_OVW n) then (put s1 get).fset (CAN_n_FIFOSTAT_GET n) ((get + 1) % 32)
    else s1

/-- Filter and store a received frame (R374). The element index of a frame that no element
matched is a free value. -/
def State.canReceive (s : State) (n : Nat) (f : CanFrame) : State :=
  if f.rtr && s.flag (CAN_n_CFG_REJ_RTR n) then s
  else match canMatch (canFilters (s.canCtl n).filter) f with
  | some (i, e) =>
    (match e.dest with
    | 1 => s.canFifo n i f
    | 2 => s.canStore n e.slot i f
    | _ => s)
  | none =>
    if s.flag (CAN_n_CFG_NONMATCH n) then
      let (v, s1) := s.free
      s1.canFifo n (v.toNat % 256) f
    else s

/-! ### Transmission (R379 to R384) -/

/-- A handover at EXCHANGE. -/
def State.canHand (s : State) (n b : Nat) (content : List Byte) (q : Bool) : State :=
  let st := s.canSt n b
  if st = 2 then s.canItemUpd n b (fun x => { x with next := some (content, q) })
  else if !q then (s.canSetSt n b 7).raise (CAN_n_EVT_QBAD n)
  else
    let s1 := s.canItemUpd n b (fun _ => { content := content, next := none, cancel := false })
    if st = 1 || st = 4 then s1.raise (CAN_n_EVT_TX_REPLACED n)
    else s1.canSetSt n b (if s.canState n = 4 || s.canState n = 5 then 4 else 1)

/-- The CAN clocks (12.5 ns) of a nominal bit of a controller (R368). -/
def State.canBit (s : State) (n : Nat) : Nat :=
  (1 + (s.fget (CAN_n_NBT_NTSEG1 n) + 1) + (s.fget (CAN_n_NBT_NTSEG2 n) + 1))
    * (s.fget (CAN_n_NBT_NBRP n) + 1)

/-- Does an error passive controller still wait after a transmission of its own: 3 bits of intermission
and the 8 bits of suspend transmission (R382)? -/
def State.canSuspended (s : State) (n : Nat) : Bool :=
  s.canState n = 3 && (match (s.canCtl n).lastEnd with
    | some t => 2 * (s.now.hubNs - t) < 25 * 11 * s.canBit n
    | none => false)

/-- The CAN clocks of a data quantum. -/
def State.canQuantum (s : State) (n : Nat) : Nat := s.fget (CAN_n_DBT_DBRP n) + 1

/-- Is the delay of the frame being sent measured: an FD frame with BRS, and TDC = 1 (R369)? -/
def State.canMeasures (s : State) (n : Nat) : Bool :=
  s.flag (CAN_n_DBT_TDC n) && (match (s.canCtl n).tx with
    | some f => f.fdf && f.brs
    | none => false)

/-- The frame's measured delay places the secondary sample point, delay and TDC_OFS quanta after the edge;
a delay above 63 data quanta is a bit error. -/
def State.canDelay (s : State) (n delay : Nat) : State × Bool :=
  if s.canMeasures n then
    (s.canUpd n (fun c => { c with
        ssp := some (delay + s.fget (CAN_n_DBT_TDC_OFS n) * s.canQuantum n) }),
      decide (63 * s.canQuantum n < delay))
  else (s, false)

/-- A new request that came during arbitration takes the item over. -/
def State.canNext (s : State) (n b : Nat) : State :=
  match (s.canItem n b).next with
  | none => s
  | some (content, q) =>
    let s1 := s.canItemUpd n b (fun _ => { content := content, next := none, cancel := false })
    if !q then (s1.canSetSt n b 7).raise (CAN_n_EVT_QBAD n)
    else s1.canSetSt n b (if s.canState n = 4 || s.canState n = 5 then 4 else 1)

/-- The pending item that is chosen at a start of frame (R380). -/
def State.canChoose (s : State) (n : Nat) : Option Nat :=
  let pend := [0, 1, 2].filter (fun b => s.canSt n b = 1)
  if s.flag (CAN_n_CFG_ORDER n) then pend.head?
  else
    let key (b : Nat) : Nat := arbField (s.canFrameOf n (s.canItem n b).content)
    pend.foldl (fun m b => match m with
      | none => some b
      | some x => if key b < key x then some b else some x) none

/-- The frame in arbitration failed: a cancelled one is not retried; a new request replaces it. -/
def State.canFailed (s : State) (n b : Nat) (retry : Nat) : State :=
  let it := s.canItem n b
  let s1 := if it.cancel then (s.canItemUpd n b (fun x => { x with cancel := false })).canSetSt n b 5
    else s.canSetSt n b retry
  s1.canNext n b

/-- Bus-off: pending items are held (R383). -/
def State.canBusOff (s : State) (n : Nat) : State :=
  let s1 := [0, 1, 2].foldl (fun x b =>
    if x.canSt n b = 1 then x.canSetSt n b 4
    else if x.canSt n b = 2 then (x.fset (CAN_n_STAT_STATE n) 4).canFailed n b 4
    else x) s
  let s2 := ((s1.fset (CAN_n_STAT_STATE n) 4).raise (CAN_n_EVT_BUS_OFF n)).count 15
  if s2.flag (CAN_n_CFG_AUTOREC n) then s2.fset (CAN_n_STAT_STATE n) 5 else s2

/-- The error state that the counters give (R382). -/
def State.canErrState (s : State) (n : Nat) : State :=
  let passive := 128 ≤ s.fget (CAN_n_STAT_TEC n) || 128 ≤ s.fget (CAN_n_STAT_REC n)
  if s.canState n = 2 && passive then
    (s.fset (CAN_n_STAT_STATE n) 3).raise (CAN_n_EVT_ERR_PASSIVE n)
  else if s.canState n = 3 && !passive then s.fset (CAN_n_STAT_STATE n) 2
  else s

/-- A protocol error: counters, state, bus-off at a TEC of 256. -/
def State.canError (s : State) (n : Nat) (e : CanErr) : State :=
  let s1 := (s.raise (CAN_n_EVT_PROTO_ERR n)).bump (CAN_n_ERRCNT_PROTO n)
  if s.canState n = 6 then s1.canUpd n (fun c => { c with joined := false })
  else if s.canState n ≠ 2 && s.canState n ≠ 3 then s1
  else match e with
  | .receiver => (s1.bump (CAN_n_STAT_REC n)).canErrState n
  | .receiver8 => (s1.bumpBy (CAN_n_STAT_REC n) 8).canErrState n
  | .exempt => s1
  | .transmitter =>
    if 256 ≤ s1.fget (CAN_n_STAT_TEC n) + 8 then (s1.fset (CAN_n_STAT_TEC n) 255).canBusOff n
    else (s1.bumpBy (CAN_n_STAT_TEC n) 8).canErrState n

/-- A frame received without error lowers REC: by 1 up to 127, from above to a value from 119 to
127 that ISO 11898-1 leaves open. -/
def State.canRecDown (s : State) (n : Nat) : State :=
  let r := s.fget (CAN_n_STAT_REC n)
  if s.canState n ≠ 2 && s.canState n ≠ 3 then s
  else if r = 0 then s
  else if r ≤ 127 then (s.fset (CAN_n_STAT_REC n) (r - 1)).canErrState n
  else
    let (v, s1) := s.free
    (s1.fset (CAN_n_STAT_REC n) (119 + v.toNat % 9)).canErrState n

/-- A successful transmission (R381, R385). -/
def State.canSent (s : State) (n b : Nat) : State :=
  let it := s.canItem n b
  let s1 := s.fset (CAN_n_TXSTAMP_b_US n b) (s.canCtl n).sofUs
  let s2 := (s1.fset (CAN_n_STAT_TEC n) (s1.fget (CAN_n_STAT_TEC n) - 1)).canErrState n
  let s3 := (s2.canItemUpd n b (fun x => { x with cancel := false })).canSetSt n b
    (if it.cancel then 6 else 3)
  s3.canNext n b

/-- A cancel reaches item `b` (R384). -/
def State.canCancel (s : State) (n b : Nat) : State :=
  match s.canSt n b with
  | 1 => s.canSetSt n b 5
  | 4 => s.canSetSt n b 5
  | 2 => s.canItemUpd n b (fun x => { x with cancel := true })
  | _ => s

/-! ### Start, swap, safe state, INPUT -/

/-- The start after a load: off, or integrating (R370); silent in the device safe state (R386). -/
def State.canStart (s : State) (n : Nat) : State :=
  s.fset (CAN_n_STAT_STATE n) (if s.fget (CAN_n_CFG_MODE n) = 0 then 0
    else if s.rst.safe.isSome then 7 else 1)

/-- Reset of what a controller holds beside its registers. -/
def State.canClear (s : State) (n : Nat) : State := s.canUpd n (fun _ => .reset)

/-- A swap that changed the bit timing or the configuration: requests are cancelled and the
controller integrates again (R386). -/
def State.canSwap (s : State) (n : Nat) (old : RegMap) : State :=
  let same := [8, 12, 16].all (fun o =>
    old.word (0x40090000 + 0x4000 * n + o) == s.regs.word (0x40090000 + 0x4000 * n + o))
  if same then s
  else
    let s1 := [0, 1, 2].foldl (fun x b =>
      let st := x.canSt n b
      (if st = 1 || st = 2 || st = 4 then x.canSetSt n b 5 else x).canItemUpd n b
        (fun i => { i with next := none, cancel := false })) s
    (s1.canUpd n (fun c => { c with joined := false })).canStart n

/-- Step 3 of R23: items idle, nothing more is sent (R386). -/
def State.canSafe (s : State) (n : Nat) : State :=
  if s.canState n = 0 then s
  else
    let s1 := [0, 1, 2].foldl (fun x b => (x.canSetSt n b 0).canItemUpd n b
      (fun i => { i with next := none, cancel := false })) s
    s1.fset (CAN_n_STAT_STATE n) 7

/-- INPUT: the snapshot of every buffer that holds a message (R372, R375). -/
def State.canInput (s : State) (n : Nat) : State :=
  let base := s.boot.act.canRx n
  let now := s.cyc.ts.toNat
  let one (x : State) (p : CanBuf × Nat) : State :=
    match p.1.stored with
    | none => x
    | some us =>
      let w1 := setBit (setBit (leAt p.1.bytes 4 4) 24 (p.1.since ≠ 0)) 25 (1 < p.1.since)
      x.burstPut (base + 80 * p.2) (p.1.bytes.take 4 ++ leBytes 4 w1 ++ (p.1.bytes.drop 8).take 68
        ++ leBytes 4 (min (now - us) 0xFFFFFFFF))
  let s1 := if s.boot.act.has 6 n then (s.canCtl n).bufs.toList.zipIdx.foldl one s else s
  s1.canUpd n (fun c => { c with
    bufs := Vector.map (fun b => { b with since := 0 }) c.bufs, snapState := s.canState n })

/-- A word of a snapshot buffer and its quality (R377). -/
def State.canWord (s : State) (n b field : Nat) : Word × Bool :=
  let c := s.canCtl n
  let any := match c.bufs.toList[b]? with
    | some x => x.stored.isSome
    | none => false
  let w := s.engineVal (s.boot.act.canRx n + 80 * b + 4 * field) 4
  (BitVec.ofNat 32 w.1, w.2 && s.canUp n && any && (c.snapState = 2 || c.snapState = 3 || c.snapState = 6))

end Sys2Proof.Machine
end

