-- ==== Sys2Proof/Machine/DrvOps.lean ====
section
/-! DEFINITION. Sys2Proof/Machine/DrvOps.lean: the Drove bus: schedule, timing, references, states, the
crook, slot windows (R387 to R411). Times are counts of DRV clocks, eight per bit (R388). -/

namespace Sys2Proof.Machine

/-- A channel. -/
def State.drvCh (s : State) (n : Nat) : Drv := s.drv.toList.getD n .reset

/-- Change a channel. -/
def State.drvUpd (s : State) (n : Nat) (f : Drv → Drv) : State := { s with drv := vecUpd s.drv n f }

/-- The controller is powered, clocked and out of reset. -/
def State.drvUp (s : State) : Bool := !s.unitDown 0x2C

/-- DRV_n_STAT.STATE: 0 OFF, 1 LISTEN, 2 COLDSTART, 3 BACKOFF, 4 ACTIVE, 5 PASSIVE, 6 SILENT. -/
def State.drvState (s : State) (n : Nat) : Nat := s.fget (DRV_n_STAT_STATE n)

/-- Set it. -/
def State.drvTo (s : State) (n v : Nat) : State := s.fset (DRV_n_STAT_STATE n) v

/-- DRV clocks since TS began. -/
def State.drvNow (s : State) : Nat := s.now.hubNs * 2 / 25

/-! ### The schedule (R393) -/

/-- The section of a channel. -/
def State.sched (s : State) (n : Nat) : List Byte := s.boot.act.sect 7 n

/-- A header field of it. -/
def State.schedF (s : State) (n o w : Nat) : Nat := leAt (s.sched n) o w

/-- SLOTS. -/
def State.drvSlots (s : State) (n : Nat) : Nat := s.schedF n 6 1
/-- NODE. -/
def State.drvNode (s : State) (n : Nat) : Nat := s.schedF n 7 1
/-- CYCLE in bit times. -/
def State.drvCycle (s : State) (n : Nat) : Nat := s.schedF n 0x0C 4
/-- RSTEP in bit times. -/
def State.drvRstep (s : State) (n : Nat) : Nat := s.schedF n 0x10 2
/-- RANK, 0xFF for none. -/
def State.drvRank (s : State) (n : Nat) : Nat := s.schedF n 0x12 1
/-- ACC in DRV clocks. -/
def State.drvAcc (s : State) (n : Nat) : Nat := 8 * s.schedF n 0x13 1
/-- GUARD in DRV clocks. -/
def State.drvGuard (s : State) (n : Nat) : Nat := 8 * s.schedF n 0x14 1
/-- CORR_MAX in DRV clocks. -/
def State.drvCorrMax (s : State) (n : Nat) : Nat := 8 * s.schedF n 0x15 1
/-- REF_MISS. -/
def State.drvRefMiss (s : State) (n : Nat) : Nat := s.schedF n 0x16 1
/-- The address of a slot's window. -/
def State.drvWin (s : State) (n k : Nat) : Nat := 0x20000000 + s.schedF n 0x1C 4 + 512 * k
/-- A slot entry's field. -/
def State.slotF (s : State) (n k o w : Nat) : Nat := leAt (s.sched n) (32 + 8 * (k - 1) + o) w
/-- OFS of a slot in bit times. -/
def State.slotOfs (s : State) (n k : Nat) : Nat := s.slotF n k 0 3
/-- OWNER of a slot. -/
def State.slotOwner (s : State) (n k : Nat) : Nat := s.slotF n k 3 1
/-- LEN of a slot. -/
def State.slotLen (s : State) (n k : Nat) : Nat := s.slotF n k 4 1
/-- Is it an own slot? -/
def State.ownSlot (s : State) (n k : Nat) : Bool :=
  1 ≤ k && k < s.drvSlots n && s.slotOwner n k = s.drvNode n

/-- D(L) in DRV clocks: 10.8 + L us. -/
def frameClocks (l : Nat) : Nat := 8 * (108 + 10 * l)

/-! ### The rate ratio k (R395) -/

/-- k times `b` bit times in DRV clocks, rounded down. -/
def State.drvScale (s : State) (n b : Nat) : Int :=
  let m := (s.drvCh n).meas
  if m.isEmpty || s.drvCycle n = 0 then 8 * b
  else (m.foldl (· + ·) 0 * b / (m.length * 360360 * s.drvCycle n) : Nat)

/-- k - 1 in ppm of a list of measurements. -/
def State.drvPpm (s : State) (n : Nat) (m : List Nat) : Int :=
  let d := m.length * 360360 * 8 * s.drvCycle n
  if d = 0 then 0 else ((m.foldl (· + ·) 0 : Nat) - (d : Int)) * 1000000 / d

/-- Does k of a list of measurements differ from 1 by at most 1 % (R398)? -/
def State.drvKOk (s : State) (n : Nat) (m : List Nat) : Bool :=
  let d := m.length * 360360 * 8 * s.drvCycle n
  (((m.foldl (· + ·) 0 : Nat) : Int) - d).natAbs * 100 ≤ d

/-- Does an interval of `d` cycles, in DRV clocks, give a ratio within 1 % of 1? -/
def State.drvNear (s : State) (n : Nat) (iv : Int) (d : Nat) : Bool :=
  let e : Int := 8 * s.drvCycle n * d
  (iv - e).natAbs * 100 ≤ e.natAbs && d ≠ 0

/-- The measurement of an interval over `d` cycles. -/
def drvMeas (iv : Int) (d : Nat) : Nat := iv.toNat * 360360 / d

/-- The expected start of a slot. -/
def State.slotStart (s : State) (n k : Nat) : Int := (s.drvCh n).c + s.drvScale n (s.slotOfs n k)

/-- The expected start of a reference sub-slot. -/
def State.refStart (s : State) (n r : Nat) : Int := (s.drvCh n).c + s.drvScale n (r * s.drvRstep n)

/-! ### Frames (R390, R391) -/

/-- The CRC of a frame's bytes under a SCHED_ID. -/
def drvCrc (id : Nat) (b : List Byte) : Nat :=
  Nat.xor (crcBytesR 0xEDB88320 (0xFFFFFFFF - id % 2 ^ 32) b) 0xFFFFFFFF

/-- The bytes of a frame. -/
def State.drvFrame (s : State) (n kind rank slot : Nat) (q : Bool) (pay : List Byte) : List Byte :=
  let b := leBytes 1 (kind + 16 * rank + 64 * bitNat q) ++ leBytes 1 slot
    ++ leBytes 2 (s.fget (DRV_n_CYC_CYC n)) ++ leBytes 1 (s.drvNode n) ++ leBytes 1 pay.length ++ pay
  b ++ leBytes 4 (drvCrc (s.schedF n 8 4) b)

/-- KIND of a frame. -/
def frKind (f : DroveFrame) : Nat := leAt f.bytes 0 1 % 16
/-- RANK. -/
def frRank (f : DroveFrame) : Nat := bitsOf (leAt f.bytes 0 1) 4 2
/-- SLOT. -/
def frSlot (f : DroveFrame) : Nat := leAt f.bytes 1 1
/-- CYC. -/
def frCyc (f : DroveFrame) : Nat := leAt f.bytes 2 2
/-- NODE. -/
def frNode (f : DroveFrame) : Nat := leAt f.bytes 4 1
/-- LEN. -/
def frLen (f : DroveFrame) : Nat := leAt f.bytes 5 1
/-- The payload. -/
def frPayload (f : DroveFrame) : List Byte := (f.bytes.drop 6).take (frLen f)

/-- Is the frame's CRC correct under the channel's SCHED_ID? -/
def State.drvCrcOk (s : State) (n : Nat) (f : DroveFrame) : Bool :=
  f.bytes.length = 10 + (frLen f)
    && leAt f.bytes (6 + (frLen f)) 4 = drvCrc (s.schedF n 8 4) (f.bytes.take (6 + (frLen f)))

/-- A frame is rejected: its count and LASTERR (R396). Checks: 1 early, 2 late, 3 unscheduled,
4 coding, 5 CRC, 6 header, 7 reference conflict. -/
def State.drvReject (s : State) (n slot check : Nat) : State :=
  let s1 := match check with
    | 1 => s.bump (DRV_n_TIMEERR_EARLY n)
    | 2 => s.bump (DRV_n_TIMEERR_LATE n)
    | 3 => s.bump (DRV_n_TIMEERR_UNSCHED n)
    | 4 => s.bump (DRV_n_FRAMEERR_CODING n)
    | 5 => s.bump (DRV_n_FRAMEERR_CRC n)
    | 6 => s.bump (DRV_n_FRAMEERR_HEADER n)
    | _ => s
  ((s1.fset (DRV_n_LASTERR_SLOT n) slot).fset (DRV_n_LASTERR_CYC n) (s.fget (DRV_n_CYC_CYC n))).fset
    (DRV_n_LASTERR_CHECK n) check

/-- Where a start lies to an expected start: 0 within ACC, 1 early, 2 late, 3 outside the window
from GUARD before it to `len` and GUARD after it. -/
def State.drvPlace (s : State) (n : Nat) (start : Nat) (e : Int) (len : Nat) : Nat :=
  let g : Int := s.drvGuard n
  let a : Int := s.drvAcc n
  let t : Int := start
  if t < e - g || e + frameClocks len + g < t then 3
  else if t < e - a then 1
  else if e + a < t then 2
  else 0

/-! ### State changes (R400) -/

/-- Enter LISTEN. -/
def State.drvListen (s : State) (n : Nat) : State :=
  let st := s.drvState n
  let s1 := (s.drvTo n 1).drvUpd n (fun d => { d with
    first := none, join := false, base := none, meas := [], used := none, failAt := none
    passiveNext := false })
  let s2 := s1.fset (DRV_n_STAT_MISSCNT n) 0
  s2.when (st = 4 || st = 5) (fun x => (x.raise (DRV_EVT_SYNC_LOST n)).count 16)

/-- Enter PASSIVE for a cause; of several in one cycle the earliest is recorded, here the application
hold that waits for the cycle's end (R400). -/
def State.drvPassive (s : State) (n why : Nat) : State :=
  let first := if (s.drvCh n).passiveNext then 4 else why
  (((s.drvTo n 5).fset (DRV_n_STAT_PASSIVE_WHY n) first).raise (DRV_EVT_PASSIVE n)).drvUpd n
    (fun d => { d with first := none, join := false, passiveNext := false, failAt := none })

/-- Enter ACTIVE; an application hold in force makes it PASSIVE. -/
def State.drvActive (s : State) (n : Nat) : State :=
  if s.flag (DRV_n_STAT_HOLD n) then s.drvPassive n 4
  else
    (((s.drvTo n 4).fset (DRV_n_STAT_PASSIVE_WHY n) 0).raise (DRV_EVT_JOINED n)).drvUpd n
      (fun d => { d with first := none, join := false })

/-- Enter BACKOFF for 2 RANK cycles; with rank 0 it is LISTEN at once. -/
def State.drvBackoff (s : State) (n : Nat) : State :=
  let r := s.drvRank n
  let s1 := ((s.raise (DRV_EVT_COLLISION n)).bump (DRV_n_CROOK_COLL n)).drvUpd n
    (fun d => { d with backoff := 2 * r })
  if r = 0 then (s1.drvTo n 3).drvListen n else s1.drvTo n 3

/-- A read-back mismatch in an own frame. -/
def State.drvMismatch (s : State) (n why : Nat) : State :=
  match s.drvState n with
  | 2 => s.drvBackoff n
  | 4 => s.drvPassive n why
  | _ => s

/-- The crook blocks a transmission; the fourth block within 16 cycles locks it (R403). -/
def State.drvBlock (s : State) (n : Nat) : State :=
  let d := s.drvCh n
  let recent := d.blocks.filter (fun t => d.total < t + 16) ++ [d.total]
  let s1 := ((s.drvUpd n (fun x => { x with blocks := recent })).raise (DRV_EVT_CROOK_BLOCK n)).bump
    (DRV_n_CROOK_BLOCKS n)
  let s2 := s1.drvMismatch n 3
  if 4 ≤ recent.length then (s2.raise (DRV_n_STAT_CROOK_LOCK n)).drvTo n 6 else s2

/-- A mark of the crook: the start of a REF or COLD frame of slot 0 minus its rank's offset. -/
def State.drvMark (s : State) (n : Nat) (t : Int) : State :=
  s.drvUpd n (fun d => { d with marks := (t :: d.marks).take 5 })

/-- Does the crook hold two marks one cycle apart, within 1 %? -/
def State.crookSync (s : State) (n : Nat) : Bool :=
  match (s.drvCh n).marks with
  | a :: b :: _ => s.drvNear n (a - b) 1
  | _ => false

/-- The cycle that the crook has measured: the mean of the last four intervals that are near one cycle
(R403). -/
def State.crookCycle (s : State) (n : Nat) : Int :=
  let m := (s.drvCh n).marks
  let iv := ((m.zip (m.drop 1)).map (fun p => p.1 - p.2)).filter (fun i => s.drvNear n i 1)
  if iv.isEmpty then 8 * s.drvCycle n else iv.foldl (· + ·) 0 / iv.length

/-- Does the crook open a window for a transmission that starts `ofs` bit times into a cycle? Its windows
stand at the latest mark and whole measured cycles after it, the offset scaled likewise. Without
synchronised windows it is the CROOK_BLOCK command that says so. -/
def State.crookOpen (s : State) (n ofs : Nat) (start : Int) : Bool :=
  match (s.drvCh n).marks with
  | [] => true
  | a :: _ =>
    let m := s.crookCycle n
    let w := a + m * ofs / max 1 (s.drvCycle n)
    let j := (start - w + m / 2) / max 1 m
    !s.crookSync n || (start - (w + j * m)).natAbs ≤ s.drvGuard n

/-! ### References (R397 to R399) -/

/-- A used reference: its facts in the registers and in slot 0. -/
def State.drvUse (s : State) (n : Nat) (r : DrvRef) (node : Nat) (memb : Nat) (own : Bool) : State :=
  let s1 := s.when (r.rank ≠ s.fget (DRV_n_STAT_REF_RANK n)) (fun x => x.raise (DRV_EVT_BW_CHANGE n))
  let s2 := ((((s1.fset (DRV_n_STAT_REF_RANK n) r.rank).show (DRV_n_STAT_BELLWETHER n) own).fset
    (DRV_n_CYC_BW_NODE n) node).fset (DRV_n_MEMB_MEMB n) memb).fset (DRV_n_STAT_MISSCNT n) 0
  let us := (r.start.toNat * 25 / 2) / 1000
  let s3 := s2.drvUpd n (fun d => { d with
    used := some r
    slots := vecUpd d.slots 0 (fun x => { x with age := 0, any := true, qg := true, cyc := r.cyc, us := us }) })
  s3.rxPut (s3.drvWin n 0) (leBytes 4 memb)

/-- The correction at a used reference of another node (R398). -/
def State.drvCorrect (s : State) (n : Nat) (r : DrvRef) : State :=
  let d := s.drvCh n
  let diff := r.start - d.c
  let s1 := s.fset (DRV_n_CORR_D n) (ofSigned 32 (satSigned 32 diff))
  let gap (b : DrvRef) : Nat := (r.cyc + 65536 - b.cyc) % 65536
  let meas := match d.base with
    | some b => if gap b = 0 then d.meas else (drvMeas (r.start - b.start) (gap b) :: d.meas).take 4
    | none => d.meas
  let ok := diff.natAbs ≤ s.drvCorrMax n && r.cyc = s.fget (DRV_n_CYC_CYC n)
    && s.drvKOk n meas
  if ok then
    let s2 := s1.drvUpd n (fun x => { x with c := r.start, meas := meas, base := some r, failAt := none })
    s2.fset (DRV_n_RATE_PPM n) (ofSigned 32 (s.drvPpm n meas))
  else
    let twice := match d.failAt with
      | some t => t + 1 = d.total
      | none => false
    let s2 := (s1.bump (DRV_n_CROOK_CORR_OVER n)).drvUpd n (fun x => { x with failAt := some d.total })
    if twice && s2.drvState n = 4 then s2.drvPassive n 1 else s2

/-- Two references one cycle apart let a node in LISTEN or PASSIVE join at the next cycle start on
the timing of the second (R400). -/
def State.drvJoinRef (s : State) (n : Nat) (r : DrvRef) : State :=
  match (s.drvCh n).first with
  | none => s.drvUpd n (fun d => { d with first := some r })
  | some f =>
    if r.cyc = f.cyc then s
    else if (f.cyc + 1) % 65536 = r.cyc && s.drvNear n (r.start - f.start) 1 then
      (s.drvUpd n (fun d => { d with
        c := r.start, meas := [drvMeas (r.start - f.start) 1], base := some r, join := true
        first := some r })).fset (DRV_n_CYC_CYC n) r.cyc
    else s.drvUpd n (fun d => { d with first := some r })

/-- A valid REF or COLD frame of another node. -/
def State.drvRef (s : State) (n : Nat) (f : DroveFrame) : State :=
  let st := s.drvState n
  let r : DrvRef := { start := (f.start : Int) - s.drvScale n (frRank f * s.drvRstep n), cyc := (frCyc f)
                      rank := (frRank f) }
  let memb := ofLe (frPayload f)
  let again := match (s.drvCh n).first with
    | some u => decide (u.cyc = r.cyc)
    | none => false
  if st = 1 && again then s
  else if st = 1 then (s.drvJoinRef n r).drvUse n r (frNode f) memb false
  else if st = 3 then ((s.drvListen n).drvJoinRef n r).drvUse n r (frNode f) memb false
  else if st = 2 then
    if (frRank f) < s.drvRank n then
      let s1 := (s.drvUpd n (fun d => { d with c := r.start, base := some r })).fset
        (DRV_n_CYC_CYC n) r.cyc
      (s1.drvUse n r (frNode f) memb false).drvActive n
    else s
  else if st = 4 || st = 5 then
    match (s.drvCh n).used with
    | some u =>
      if (r.start - u.start).natAbs ≤ s.drvAcc n && r.cyc = u.cyc then s
      else (s.drvReject n 0 7).raise (DRV_EVT_REF_CONFLICT n)
    | none =>
      let s1 := (s.drvUse n r (frNode f) memb false).drvCorrect n r
      if st = 5 && !s.flag (DRV_n_STAT_HOLD n) then s1.drvJoinRef n r
      else if st = 5 then
        s1.drvUpd n (fun d => { d with first := some r })
      else s1
  else s

/-- A REF or COLD frame arrives: checks of R396 and R397, the crook's mark, its use. -/
def State.drvRefIn (s : State) (n : Nat) (kind : Nat) (f : DroveFrame) : State :=
  let st := s.drvState n
  let mark := (f.start : Int) - 8 * (frRank f * s.drvRstep n : Nat)
  let s0 := s.when (!f.coding && (frSlot f) = 0) (fun x => x.drvMark n mark)
  let place := if st = 4 || st = 5 || (st = 2 && s.drvRank n < (frRank f)) then
      s.drvPlace n f.start (s.refStart n (frRank f)) 4 else 0
  if (frKind f) ≠ kind || st = 0 || st = 6 then s
  else if place ≠ 0 then s0.drvReject n 0 place
  else if f.coding then s0.drvReject n 0 4
  else if !s.drvCrcOk n f then s0.drvReject n 0 5
  else if (frSlot f) ≠ 0 || (frLen f) ≠ 4 then s0.drvReject n (frSlot f) 6
  else s0.drvRef n f

/-! ### Data (R396, R404 to R406) -/

/-- The slot whose window a start lies in, and where (R396). -/
def State.drvFind (s : State) (n start : Nat) : Option (Nat × Nat) :=
  ((List.range (s.drvSlots n)).drop 1).findSome? (fun k =>
    match s.drvPlace n start (s.slotStart n k) (s.slotLen n k) with
    | 3 => none
    | p => some (k, p))

/-- A DATA frame arrives. A COLDSTART node that has heard other nodes in two consecutive cycles is ACTIVE;
its own COLD frame was the reference of the cycle (R400). -/
def State.drvData (s : State) (n : Nat) (f : DroveFrame) : State :=
  let st := s.drvState n
  if st ≠ 2 && st ≠ 4 && st ≠ 5 then s
  else match s.drvFind n f.start with
  | none => s.drvReject n (frSlot f) 3
  | some (k, p) =>
    if p ≠ 0 then s.drvReject n k p
    else if f.coding then s.drvReject n k 4
    else if !s.drvCrcOk n f then s.drvReject n k 5
    else if (frKind f) ≠ 2 || (frSlot f) ≠ k || (frNode f) ≠ s.slotOwner n k || (frLen f) ≠ s.slotLen n k
        || (frCyc f) ≠ s.fget (DRV_n_CYC_CYC n) || s.ownSlot n k then s.drvReject n k 6
    else
      let us := (f.start * 25 / 2) / 1000
      let s1 := s.drvUpd n (fun d => { d with
        heard := d.heard ||| (1#32 <<< (frNode f))
        slots := vecUpd d.slots k (fun x => { x with
          age := 0, any := true, qg := bitOf (leAt f.bytes 0 1) 6, cyc := (frCyc f), us := us }) })
      let s2 := s1.rxPut (s1.drvWin n k) (frPayload f)
      let own : DrvRef :=
        { start := (s.drvCh n).c, cyc := s.fget (DRV_n_CYC_CYC n), rank := s.drvRank n }
      s2.when (st = 2 && (s.drvCh n).heardPrev ≠ 0) (fun x =>
        (x.drvUpd n (fun d => { d with used := some own })).drvActive n)

/-- A handover of an own slot at COMMIT or EXCHANGE. -/
def State.drvHand (s : State) (n k : Nat) (q : Bool) : State :=
  s.drvUpd n (fun d => { d with
    slots := vecUpd d.slots k (fun x => { x with handed := true, qual := q }) })

/-! ### Cycle, start, swap, INPUT -/

/-- The node's expected cycle start (R392, R398, R400). -/
def State.drvCycleStart (s : State) (n : Nat) : State :=
  let st := s.drvState n
  let d := s.drvCh n
  if st = 0 || st = 6 || (st = 1 && !d.join) then s
  else
    let cyc := (s.fget (DRV_n_CYC_CYC n) + 1) % 65536
    let missed := d.used.isNone
    let s1 := (s.fset (DRV_n_CYC_CYC n) cyc).drvUpd n (fun x => { x with
      c := x.c + s.drvScale n (s.drvCycle n), total := x.total + 1, used := none
      heardPrev := x.heard, heard := 0
      slots := Vector.map (fun y => { y with age := min (y.age + 1) 15 }) x.slots
      backoff := x.backoff - 1 })
    let s2 := if missed && st ≠ 2 then s1.bump (DRV_n_STAT_MISSCNT n) else s1
    let s3 := s2.when missed (fun x => x.lower (DRV_n_STAT_BELLWETHER n))
    match st with
    | 2 => s3
    | 3 => if (s3.drvCh n).backoff = 0 then s3.drvListen n else s3
    | 1 => s3.drvActive n
    | _ =>
      if s.drvRefMiss n ≤ s3.fget (DRV_n_STAT_MISSCNT n) then s3.drvListen n
      else if d.join && st = 5 then s3.drvActive n
      else if d.passiveNext && st = 4 then s3.drvPassive n 4
      else s3

/-- The start after a load: each enabled channel in LISTEN (R409), in the device safe state SILENT (R400). -/
def State.drvStartCh (s : State) (n : Nat) : State :=
  let on := bitOf (s.fget DRV_CFG_EN) n && s.boot.act.has 7 n
  let s1 := s.drvUpd n (fun _ => .reset)
  let s2 := s1.fset (DRV_n_STAT_NODE n) (s.drvNode n)
  s2.drvTo n (if !on then 0 else if s.rst.safe.isSome then 6 else 1)

/-- Start of both channels. -/
def State.drvStart (s : State) : State := (s.drvStartCh 0).drvStartCh 1

/-- Reset of what the controller holds beside its registers. -/
def State.drvClear (s : State) : State := { s with drv := Vector.replicate 2 .reset }

/-- A schedule without its OWNCLS fields. -/
def schedKey (b : List Byte) : List Byte :=
  b.zipIdx.map (fun p => if 32 ≤ p.2 && (p.2 - 32) % 8 = 6 then 0 else p.1)

/-- A swap: a schedule equal but for OWNCLS keeps the channel (R410). A SILENT channel stays so until a
reload (R400, R403). -/
def State.drvSwap (s : State) (n : Nat) (old : CfgSet) (oldRegs : RegMap) : State :=
  if schedKey (old.sect 7 n) = schedKey (s.sched n)
      && bitOf (oldRegs.fget DRV_CFG_EN) n = bitOf (s.fget DRV_CFG_EN) n then s
  else if s.drvState n = 6 then s.fset (DRV_n_STAT_NODE n) (s.drvNode n)
  else
    let was := s.drvState n
    (((s.drvStartCh n).fset (DRV_n_STAT_MISSCNT n) 0).lower (DRV_n_STAT_BELLWETHER n)).when
      (was = 4 || was = 5) (fun x => (x.raise (DRV_EVT_SYNC_LOST n)).count 16)

/-- Step 3 of R23: both channels SILENT. -/
def State.drvSafe (s : State) : State :=
  [0, 1].foldl (fun x n => if x.drvState n = 0 then x else x.drvTo n 6) s

/-- INPUT: what the items will show. -/
def State.drvInput (s : State) : State :=
  [0, 1].foldl (fun x n => x.drvUpd n (fun d => { d with
    snap := d.slots, snapState := x.drvState n, snapRank := x.fget (DRV_n_STAT_REF_RANK n) })) s

/-- A slot word (R407) and its quality (R408). -/
def State.drvItem (s : State) (n k field : Nat) : Word × Bool :=
  let d := s.drvCh n
  let x := d.snap.toList.getD k .reset
  let len := if k = 0 then 4 else s.slotLen n k
  let w : Nat × Bool := if field = 0x8000 then
      (bitNat (x.any && x.age ≤ 1) + 2 * bitNat x.qg + (if k = 0 then 4 * d.snapRank else 0)
        + 16 * x.age + 65536 * x.cyc, true)
    else if field = 0x8001 then (min (s.cyc.ts.toNat - x.us) 0xFFFFFFFF, true)
    else s.engineVal (s.drvWin n k + 4 * field) (min 4 (len - 4 * field))
  let lim := if k = 0 then 1 else s.slotF n k 5 1
  (BitVec.ofNat 32 w.1, w.2 && s.drvUp && d.snapState = 4 && x.any && x.age ≤ lim && x.qg)

end Sys2Proof.Machine
end

