-- ==== Sys2Proof/Machine/FlkOps.lean ====
section
/-! DEFINITION. Sys2Proof/Machine/FlkOps.lean: the Fold link bridge as controller: frames, stations,
reads and writes, the late-error log, semaphores, loads, the process image (R412 to R429). -/

namespace Sys2Proof.Machine

/-! ### Stations and their table (R416) -/

/-- A station. -/
def State.fst (s : State) (k : Nat) : FlkSt := s.flk.st.toList.getD k .reset

/-- Change the bridge. -/
def State.flkUpd (s : State) (f : Flk → Flk) : State := { s with flk := f s.flk }

/-- Change a station. -/
def State.fstUpd (s : State) (k : Nat) (f : FlkSt → FlkSt) : State :=
  s.flkUpd (fun b => { b with st := vecUpd b.st k f })

/-- The bridge runs: powered, clocked, out of reset and enabled. -/
def State.flkUp (s : State) : Bool := !s.unitDown 0x2D && s.flag FLK_CFG_EN

/-- A field of a station's entry in a set. -/
def CfgSet.foldF (c : CfgSet) (k o n : Nat) : Nat := leAt (c.sect 8 0) (16 + 32 * k + o) n

/-- Is a station enabled? -/
def State.foldEn (s : State) (k : Nat) : Bool := bitOf (s.boot.act.foldF k 0 1) 0

/-- IN_WORDS. -/
def State.inWords (s : State) (k : Nat) : Nat := s.boot.act.foldF k 8 1

/-- OUT_WORDS. -/
def State.outWords (s : State) (k : Nat) : Nat := s.boot.act.foldF k 9 1

/-- FLK_ST_k.STATE: 0 ABSENT, 1 LOADING, 2 IN_SERVICE, 3 LOST, 4 FAULT, 5 STOPPED. -/
def State.fstate (s : State) (k : Nat) : Nat := s.fget (FLK_ST_k_STATE k)

/-- Set it, with INSERV; component F of the pair unit's claim holds while every enabled station is
IN_SERVICE (Table 17-1). -/
def State.fstTo (s : State) (k v : Nat) : State :=
  let s1 := (s.fset (FLK_ST_k_STATE k) v).fset ⟨0x400B000C, 16 + k, 1⟩ (bitNat (v = 2))
  s1.pairHold 4 ((List.range 16).all (fun j => !s1.foldEn j || s1.fstate j = 2))

/-! ### Frames (R415) -/

/-- The claim in force (R430, R434, R436). -/
def State.claimNow (s : State) : Nat :=
  if s.rst.safe.isSome then 0
  else if !s.flag PAIR_CFG_EN then 1
  else s.fget PAIR_STAT_CLAIM

/-- A frame from its header and body. -/
def foldBytes (kind ctrl st claim ts hop : Nat) (body : List Byte) : List Byte :=
  let b := leBytes 1 (kind + 16 * ctrl) ++ leBytes 1 st ++ leBytes 2 claim ++ leBytes 2 ts
    ++ leBytes 1 hop ++ [0] ++ body
  b ++ leBytes 4 (crc32c b)

/-- A frame leaves FLK_OUT. -/
def State.foldOut (s : State) (b : List Byte) : State :=
  s.flkUpd (fun f => let l := f.sent ++ [b]; { f with sent := l.drop (l.length - 32) })

/-- The controller sends a frame. -/
def State.foldSend (s : State) (kind st ts : Nat) (body : List Byte) : State :=
  s.foldOut (foldBytes kind (s.fget FLK_CFG_CTRL) st s.claimNow ts 0 body)

/-- KIND of a frame. -/
def foKind (f : FoldFrame) : Nat := leAt f.bytes 0 1 % 16
/-- CTRL. -/
def foCtrl (f : FoldFrame) : Nat := bitsOf (leAt f.bytes 0 1) 4 1
/-- STATION. -/
def foSt (f : FoldFrame) : Nat := leAt f.bytes 1 1 % 16
/-- CLAIM. -/
def foClaim (f : FoldFrame) : Nat := leAt f.bytes 2 2
/-- TS. -/
def foTs (f : FoldFrame) : Nat := leAt f.bytes 4 2
/-- HOP. -/
def foHop (f : FoldFrame) : Nat := leAt f.bytes 6 1
/-- The body. -/
def foBody (f : FoldFrame) : List Byte := (f.bytes.drop 8).take (f.bytes.length - 12)

/-- Change the station. -/
def State.stnUpd (s : State) (f : Station → Station) : State := { s with station := f s.station }

/-- The station keeps the latest CLAIM of each CTRL and the time of its latest frame (R430). -/
def State.stnHear (s : State) (f : FoldFrame) : State :=
  s.stnUpd (fun x => { x with claim := vecUpd x.claim (foCtrl f) (fun _ => foClaim f)
                              heardNs := vecUpd x.heardNs (foCtrl f) (fun _ => some s.now.hubNs) })

/-- Is the CRC correct? -/
def foCrcOk (f : FoldFrame) : Bool :=
  12 ≤ f.bytes.length
    && leAt f.bytes (f.bytes.length - 4) 4 = crc32c (f.bytes.take (f.bytes.length - 4))

/-- A frame of a KIND and body length for the own CTRL reaches FLK_IN with a correct CRC; a bad
CRC sets CRC_ERR. -/
def State.foldIn (s : State) (f : FoldFrame) (kind len : Nat) (k : State → State) : State :=
  if !s.flkUp then s
  else if !foCrcOk f then s.raise FLK_EVT_CRC_ERR
  else if foKind f ≠ kind || foCtrl f ≠ s.fget FLK_CFG_CTRL || (foBody f).length ≠ len then s
  else k s

/-! ### The late-error log (R424) -/

/-- Show the fill and the oldest entry. -/
def State.lelShow (s : State) : State :=
  let s1 := s.fset FLK_LELSTAT_FILL s.flk.log.length
  match s.flk.log with
  | [] => (s1.setReg 0x400B0024 0).setReg 0x400B0028 0
  | e :: _ =>
    ((((s1.fset FLK_LEL_A_SEQ e.seq).fset FLK_LEL_A_STATION e.st).fset FLK_LEL_A_CODE e.code).fset
      FLK_LEL_B_CYC e.cyc).fset FLK_LEL_B_ADDR e.addr

/-- Enter a late error; a full log drops it. -/
def State.lateErr (s : State) (k seq code addr : Nat) : State :=
  let s0 := s.bump (FLK_ST_k_LATE k)
  if 32 ≤ s.flk.log.length then (s0.bump FLK_LELSTAT_OVF).raise FLK_EVT_LEL_OVF
  else
    let e : LateErr := { seq := seq, st := k, code := code, cyc := s.cyc.count.toNat % 256, addr := addr }
    let s1 := (s0.flkUpd (fun b => { b with log := b.log ++ [e] })).fstUpd k (fun x => { x with err := true })
    ((s1.raise (FLK_ST_k_DEGRADED k)).raise FLK_EVT_LATE_ERR).lelShow

/-! ### Reads and writes (R422, R423) -/

/-- The station of a window address. -/
def stOf (a : Nat) : Nat := a / 0x1000000 % 16

/-- A free tag of a station. -/
def State.freeTag (s : State) (k : Nat) : Option Nat :=
  (List.range 256).find? (fun t => !(s.fst k).quar.contains t
    && s.flk.reads.all (fun r => ¬(r.1 = k ∧ r.2.1 = t)))

/-- A read of a station window. -/
def State.foldRead (s : State) (i : HubItem) : State :=
  let k := stOf i.req.addr
  if s.fstate k ≠ 2 then s.reply i Resp.isolated.code false 0
  else match s.freeTag k with
  | none => s.flkUpd (fun b => { b with waitTag := b.waitTag ++ [(k, i)] })
  | some t =>
    (s.flkUpd (fun b => { b with reads := b.reads ++ [(k, t, i)] })).foldSend 1 k t
      (leBytes 3 (i.req.addr / 8 * 8) ++ leBytes 1 i.mask)

/-- A tag has left quarantine or is free: the oldest waiting read of the station is sent. -/
def State.tagFreed (s : State) (k : Nat) : State :=
  match s.flk.waitTag.find? (fun w => w.1 = k) with
  | none => s
  | some w => (s.flkUpd (fun b => { b with waitTag := b.waitTag.erase w })).foldRead w.2

/-- A store to a station window is answered OKAY and sent, or entered in the log. -/
def State.foldWrite (s : State) (i : HubItem) : State :=
  let k := stOf i.req.addr
  let ofs := i.req.addr % 0x1000000 / 8 * 8
  let q := (s.fst k).seq
  let s1 := s.reply i 0 false 0
  if s.fstate k ≠ 2 then s1.lateErr k q Resp.isolated.code ofs
  else
    (s1.fstUpd k (fun x => { x with seq := (q + 1) % 65536, writes := x.writes ++ [(q, ofs)] })).foldSend
      2 k q (leBytes 3 ofs ++ leBytes 1 i.mask ++ leBytes 8 i.req.data.toNat)

/-! ### Semaphores (R429) -/

/-- The semaphore class of an initiator. -/
def semClass : Initiator → Nat
  | .lanes => 1 | .solo _ => 2 | .update => 3 | _ => 0

/-- The held semaphore of another class that guards an address. -/
def State.semBlock (s : State) (a cls : Nat) : Option Nat :=
  (List.range 16).find? (fun n => s.flag (FLK_SEMCFG_n_EN n) && s.flag (FLK_SEM_n_HELD n)
    && s.fget (FLK_SEM_n_HOLDER n) ≠ cls && s.fget (FLK_SEMCFG_n_STATION n) = stOf a
    && s.fget (FLK_SEMCFG_n_BASE n) ≤ a % 0x1000000 / 4096
    && a % 0x1000000 / 4096 ≤ s.fget (FLK_SEMCFG_n_LIMIT n))

/-- Has a station a posted-write credit (8 per station, Table 01-5)? -/
def State.foldCredit (s : State) (k : Nat) : Bool := (s.fst k).writes.length < 8

/-- An access of a station window: it waits for a semaphore, goes back to the hub for want of a
credit, or is performed. -/
def State.foldAccess (s : State) (i : HubItem) : State :=
  match s.semBlock i.req.addr (semClass i.req.init) with
  | some n => s.flkUpd (fun b => { b with waitSem := b.waitSem ++ [(n, i)] })
  | none =>
    if !i.req.write then s.foldRead i
    else if s.foldCredit (stOf i.req.addr) then s.foldWrite i
    else { s with memx := { s.memx with hubQ := i :: s.memx.hubQ } }

/-- Release a semaphore and grant its waiters in order of age. -/
def State.semFree (s : State) (n : Nat) : State :=
  let ws := s.flk.waitSem.filter (fun w => w.1 = n)
  let s1 := ((s.lower (FLK_SEM_n_HELD n)).fset (FLK_SEM_n_HOLDER n) 0).flkUpd (fun b =>
    { b with waitSem := b.waitSem.filter (fun w => w.1 ≠ n) })
  ws.foldl (fun x w => x.foldAccess w.2) s1

/-- A read of FLK_SEM_n: the word that it returns, and the state with the semaphore acquired. -/
def State.semAcquire (s : State) (n cls : Nat) : State × Nat :=
  if !s.flag (FLK_SEMCFG_n_EN n) || cls = 0 then (s, s.fget (FLK_SEM_n_HOLDER n) * 2 ^ 30)
  else if !s.flag (FLK_SEM_n_HELD n) || s.fget (FLK_SEM_n_HOLDER n) = cls then
    ((s.raise (FLK_SEM_n_HELD n)).fset (FLK_SEM_n_HOLDER n) cls, cls * 2 ^ 30 + 1)
  else (s, s.fget (FLK_SEM_n_HOLDER n) * 2 ^ 30)

/-- A write of FLK_SEM_n: 0 to HELD by the holder releases; another class gets an error. -/
def State.semWrite (s : State) (n cls v : Nat) : State :=
  if v % 2 = 1 then s.answer .okay
  else if s.flag (FLK_SEM_n_HELD n) && s.fget (FLK_SEM_n_HOLDER n) = cls then (s.semFree n).answer .okay
  else s.answer .target

/-- Release every semaphore: the device safe state (R429). -/
def State.flkSafe (s : State) : State :=
  (List.range 16).foldl (fun x n => x.when (x.flag (FLK_SEM_n_HELD n)) (fun y => y.semFree n)) s

/-! ### Station states (R419 to R421) -/

/-- The IMGOUT of a station's latest output block (R425). -/
def State.sendImg (s : State) (k : Nat) : State :=
  match (s.fst k).out with
  | some (q, qual, ws) =>
    if s.rst.safe.isSome then s
    else s.foldSend 8 k q (leBytes 8 qual ++ ws.flatMap (fun w => leBytes 4 w))
  | none => s

/-- A station enters IN_SERVICE. -/
def State.toService (s : State) (k : Nat) : State :=
  (s.fstTo k 2).fstUpd k (fun x => { x with seq := 0, miss := 0 })

/-- A station becomes LOST; a load of it that runs ends as failed. -/
def State.stationLost (s : State) (k : Nat) : State :=
  let s1 := (((s.fstTo k 3).bump (FLK_ST_k_LOSSES k)).raise FLK_EVT_STATION_LOST).count 17
  let s2 := s1.fstUpd k (fun x => { x with miss := 0, lost := true, lostCyc := s.cyc.count.toNat })
  match s.flk.load with
  | some l => if l.st = k then
      ((s2.flkUpd (fun b => { b with load := none })).lower FLK_STAT_LOADING).fset FLK_LDSTAT_RESULT 4
    else s2
  | none => s2

/-- A miss of a station. -/
def State.stationMiss (s : State) (k : Nat) : State :=
  let n := (s.fst k).miss + 1
  let s1 := s.fstUpd k (fun x => { x with miss := n })
  if (s.fstate k = 1 || s.fstate k = 2) && s.fget FLK_CFG_LOSS_N ≤ n then s1.stationLost k else s1

/-- The two bits that a station reported. A numbered station that is ABSENT is one that this
controller has not loaded. -/
def State.stationReport (s : State) (k bits : Nat) : State :=
  if bits = 0 then s.stationMiss k
  else
    let s1 := (s.fstUpd k (fun x => { x with miss := 0 })).show (FLK_ST_k_SAFE k) (bits = 3)
    if s.fstate k = 0 then (s1.fstTo k 1).fstUpd k (fun x => { x with numbered := true })
    else if s.fstate k ≠ 3 then s1
    else if bits = 1 || (s.fst k).lostCyc + 2 ^ 14 ≤ s.cyc.count.toNat then
      (s1.fstTo k 1).when (2 ≤ bits) (fun x => x.raise FLK_EVT_STATION_BACK)
    else
      ((((s1.toService k).raise FLK_EVT_STATION_BACK).sendImg k).foldSend 6 k 0 [])

/-! ### Loading (R418, R428) -/

/-- The image of a station. -/
def State.stImage (s : State) (k : Nat) : List Byte := s.boot.act.sect 15 k

/-- End a load with a result. -/
def State.loadEnd (s : State) (result : Nat) : State :=
  ((s.flkUpd (fun b => { b with load := none })).lower FLK_STAT_LOADING).fset FLK_LDSTAT_RESULT result

/-- The next 256 bytes of a load leave in LDATA frames; after the last, LSTART. -/
def State.loadStep (s : State) (l : FlkLoad) : State :=
  let img := s.stImage l.st
  let part (x : State) (o : Nat) : State :=
    let d := (img.drop o).take 128
    if d.isEmpty then x else x.foldSend 13 l.st 0 (leBytes 3 o ++ [0] ++ d)
  let s1 := part (part s (256 * l.units)) (256 * l.units + 128)
  let n := l.units + 1
  let last := img.length ≤ 256 * n
  let s2 := (s1.fset FLK_LDSTAT_PROGRESS n).when last (fun x =>
    x.foldSend 14 l.st 0 (leBytes 4 img.length ++ leBytes 4 (crc32c img)))
  s2.flkUpd (fun b => { b with load := some { l with units := n, started := last } })

/-- Begin, or begin again, the load of a station. -/
def State.loadBegin (s : State) (k : Nat) (retry late : Bool) : State :=
  let s1 := ((s.raise FLK_STAT_LOADING).fset FLK_LDSTAT_STATION k).fset FLK_LDSTAT_PROGRESS 0
  s1.flkUpd (fun b => { b with
    load := some { st := k, units := 0, started := false, retry := retry, late := late } })

/-- A load has failed: retried once, then FAULT. -/
def State.loadFailed (s : State) (l : FlkLoad) : State :=
  if !l.retry then s.loadBegin l.st true l.late
  else ((s.loadEnd 4).fstTo l.st 4).raise FLK_EVT_LOAD_FAIL

/-! ### Image, start, INPUT, EXCHANGE (R425, R426) -/

/-- Hand over output words of the cycle at EXCHANGE: station, word, value, quality. -/
def State.foldExchange (s : State) (l : List (Nat × Nat × Nat × Bool)) : State :=
  (List.range 16).foldl (fun x k =>
    let mine := l.filter (fun e => e.1 = k)
    if mine.isEmpty then x
    else
      let old := match (x.fst k).out with
        | some (_, q, ws) => (q, ws)
        | none => (0, List.replicate (x.outWords k) 0)
      let new := mine.foldl (fun (o : Nat × List Nat) e =>
        (setBit o.1 e.2.1 e.2.2.2, o.2.set e.2.1 e.2.2.1)) old
      let y := x.fstUpd k (fun z => { z with
        out := some (x.cyc.count.toNat % 65536, new.1, new.2) })
      if y.flkUp && y.fstate k = 2 then y.sendImg k else y) s

/-- The start after a load of the bridge: stations ABSENT, forwarding. -/
def State.flkStart (s : State) : State :=
  (s.raise FLK_STAT_FWD).flkUpd (fun b => { b with enumDue := true })

/-- Reset of what the bridge holds beside its registers. -/
def State.flkClear (s : State) : State := { s with flk := .reset }

/-- A local reset closes the bridge's wrapper: what waits in it ends in ISOLATED, and the writes not
performed are dropped and counted (R90). -/
def State.flkAbort (s : State) : State × Nat :=
  let items := s.flk.reads.map (fun r => r.2.2) ++ s.flk.waitTag.map (fun w => w.2)
    ++ s.flk.waitSem.map (fun w => w.2)
  let drops := (items.filter (fun i => i.req.write)).length
    + (List.range 16).foldl (fun n k => n + (s.fst k).writes.length) 0
  (items.foldl (fun x i => x.reply i Resp.isolated.code false 0) s, drops)

/-- INPUT: the live banks flip. -/
def State.flkInput (s : State) : State :=
  (List.range 16).foldl (fun x k => x.fstUpd k (fun z => { z with
    snap := z.live, snapBad := z.lost || s.fstate k ≠ 2, lost := false
    snapErr := z.err, err := false })) s

/-- A station word (Table 16-5) and its quality. -/
def State.foldItem (s : State) (k field : Nat) : Word × Bool :=
  let x := s.fst k
  let up := !s.unitDown 0x2D
  let age := match x.snap.us with
    | some u => s.cyc.ts.toNat - u
    | none => 0xFFFFFFFF
  if field = 0x8000 then
    (BitVec.ofNat 32 (setBit (s.regWord (0x400B0040 + 4 * k)).toNat 24 x.snapErr), up)
  else if field = 0x8001 then (BitVec.ofNat 32 (min age 0xFFFFFFFF), up)
  else if field = 0x8002 then (BitVec.ofNat 32 x.snap.msgs, up)
  else if field = 0x8003 then (BitVec.ofNat 32 x.snap.event, up)
  else (BitVec.ofNat 32 (x.snap.words.getD field 0), up && !x.snapBad && x.snap.us.isSome
    && age ≤ 4 * s.fget FLK_PER_SCAN && bitOf x.snap.qual field)

end Sys2Proof.Machine
end

