-- ==== Sys2Proof/Machine/PairOps.lean ====
section
/-! DEFINITION. Sys2Proof/Machine/PairOps.lean: redundant pair operation: claims, heartbeat records,
mastership, partner status words (R433 to R444). -/

namespace Sys2Proof.Machine

/-- Change the pair unit. -/
def State.pairUpd (s : State) (f : Pair → Pair) : State := { s with pair := f s.pair }

/-- The pair unit runs. -/
def State.pairUp (s : State) : Bool := !s.unitDown 0x2E && s.flag PAIR_CFG_EN

/-! ### Claims (R434, R435) -/

/-- Does a component's condition hold (Table 17-1)? The safe modes are TRIAD, PAIR and PAIR_SOLO; the
reserve core is CORE_D. -/
def State.component (s : State) (b : Nat) : Bool :=
  match b with
  | 0 => s.mode ≠ 3 && s.fget BOOT_STAT_REFUSE = 0
  | 1 => s.mode = 0
  | 2 => (s.laneOn .d).isNone && !s.retired .d
  | 3 => s.trainSync
  | 4 => (List.range 16).all (fun k => !s.foldEn k || s.fstate k = 2)
  | _ => !s.flag PAIR_CFG_REVERT && s.pair.wasMaster

/-- The bonus of a component. -/
def bonus (b : Nat) : Nat := [0x4000, 0x1000, 0x0400, 0x0200, 0x0100, 0x0080].getD b 0

/-- The claim of the components in effect. -/
def claimOf (base eff : Nat) : Nat := base + (bitList 6 eff).foldl (fun n b => n + bonus b) 0

/-- The claim of the boundary: zero in the device safe state (R436). A component whose condition has
broken off since the last boundary has left it. -/
def State.pairClaim (s : State) : State :=
  if s.unitDown 0x2E then s
  else if !s.flag PAIR_CFG_EN then s.fset PAIR_STAT_CLAIM (if s.rst.safe.isSome then 0 else 1)
  else
    let hold := s.fget PAIR_TIME_HOLD * 1000000
    let held (b : Nat) : Option Nat := s.pair.since.toList.getD b none
    let since (b : Nat) : Option Nat := if !s.component b then none else some ((held b).getD s.ts)
    let inEff (b : Nat) : Bool := match since b with
      | none => false
      | some t => (s.pair.eff.getLsbD b && (held b).isSome) || b = 5 || (b = 0 && s.pair.first)
          || t + hold ≤ s.ts
    let eff := (List.range 6).foldl (fun n b => if inEff b then n + 2 ^ b else n) 0
    let waits := (List.range 6).any (fun b => (since b).isSome && !inEff b)
    let s1 := s.pairUpd (fun p => { p with
      since := Vector.ofFn (fun i => since i.val), eff := BitVec.ofNat 6 eff, first := false })
    (s1.fset PAIR_STAT_CLAIM (if s.rst.safe.isSome then 0
      else claimOf (s.fget PAIR_CFG_BASE) eff)).show PAIR_STAT_PENDING waits

/-! ### Records (R437, R438) -/

/-- The own health word (Table 17-5). -/
def State.health (s : State) : Nat :=
  s.pair.eff.toNat + 64 * s.fget PAIR_STAT_MASTER + 2 ^ 8 * s.fget TRI_STRAYLOG_COUNT
    + 2 ^ 16 * s.fget BOOT_STAT_REFUSE + 2 ^ 22 * s.mode + 2 ^ 24 * (s.pair.stest % 256)

/-- CRC-32C of a record with PAIR_ID as initial value. -/
def hbCrc (id : Nat) (b : List Byte) : Nat := Nat.xor (crcBytesR 0x82F63B78 id b) 0xFFFFFFFF

/-- The heartbeat record (Table 17-2). -/
def State.hbRecord (s : State) : List Byte :=
  let b := [1] ++ leBytes 1 (s.fget PAIR_CFG_UNIT + 2 * s.fget PAIR_STAT_MASTER)
    ++ leBytes 2 s.claimNow ++ leBytes 4 s.pair.seq ++ leBytes 4 s.cyc.count.toNat
    ++ leBytes 4 s.health
  b ++ leBytes 4 (hbCrc (s.fget PAIR_ID_ID) b)

/-- CLAIM of a record. -/
def hbClaim (b : List Byte) : Nat := leAt b 2 2
/-- SEQ of a record. -/
def hbSeq (b : List Byte) : Nat := leAt b 4 4

/-- Is a record valid but for its UNIT: length, CRC and VER? -/
def State.hbOk (s : State) (b : List Byte) : Bool :=
  b.length = 20 && leAt b 0 1 = 1 && leAt b 16 4 = hbCrc (s.fget PAIR_ID_ID) (b.take 16)

/-! ### Hearing the partner and mastership (R440) -/

/-- The partner is heard on Ethernet. -/
def State.heardEth (s : State) : Bool :=
  let i := s.fget PAIR_SESS_SUB
  s.flag PAIR_CFG_ETH_EN && s.pair.ethOk && !s.flag (PDE_SSTAT_s_TIMEDOUT i) && s.pdBound i

/-- The partner's claim, 0 when it is not heard. -/
def State.partnerClaim (s : State) : Nat :=
  match s.pair.used with
  | some b => if s.flag PAIR_STAT_HEARD_LINK || s.flag PAIR_STAT_HEARD_ETH then hbClaim b else 0
  | none => 0

/-- Show who hears whom, the link as given, and decide mastership. -/
def State.pairJudgeWith (s : State) (link : Bool) : State :=
  if !s.pairUp then s
  else
    let eth := s.heardEth
    let was := s.fget PAIR_STAT_HEARD_LINK + s.fget PAIR_STAT_HEARD_ETH
    let s1 := (s.show PAIR_STAT_HEARD_LINK link).show PAIR_STAT_HEARD_ETH eth
    let wasMaster := s.flag PAIR_STAT_MASTER
    let p := s1.partnerClaim
    let own := s.claimNow
    let m := (!eth && !link) || p < own || (p = own && s.fget PAIR_CFG_UNIT = 0)
    let s2 := s1.show PAIR_STAT_MASTER m
    let s3 := s2.when (m && !wasMaster) (fun x => x.raise PAIR_EVT_TAKEOVER)
    let s4 := s3.when (!m && wasMaster) (fun x => x.raise PAIR_EVT_RELEASE)
    let s5 := s4.when (m != wasMaster) (fun x => (x.bump PAIR_CNT_CHANGES).count 18)
    (s5.when (was ≠ 0 && !eth && !link) (fun x => x.raise PAIR_EVT_PARTNER_LOST)).when
      (was = 2 && (eth != link)) (fun x => x.raise PAIR_EVT_PATH_LOSS)

/-- The same with the link as it is. -/
def State.pairJudge (s : State) : State := s.pairJudgeWith (s.flag PAIR_STAT_HEARD_LINK)

/-- The record in use: of the latest valid records of both paths the one with the higher SEQ. -/
def State.pairPick (s : State) : State :=
  s.pairUpd (fun p => { p with used := match p.link, p.eth with
    | some (a, _), some (b, _) =>
      if (hbSeq b + 2 ^ 32 - hbSeq a) % 2 ^ 32 < 2 ^ 31 then some b else some a
    | some (a, _), none => some a
    | none, some (b, _) => some b
    | none, none => none })

/-- A record of the partner arrives on a path (R433, R438 to R440). -/
def State.pairReceive (s : State) (eth : Bool) (b : List Byte) : State :=
  if !s.pairUp || (eth && !s.flag PAIR_CFG_ETH_EN) then s
  else if !s.hbOk b || bitsOf (leAt b 1 1) 0 1 = s.fget PAIR_CFG_UNIT then
    let s1 := s.bump PAIR_CNT_LINK_ERR
    let s2 := s1.when (s.hbOk b) (fun x => x.raise PAIR_EVT_UNIT_CLASH)
    (if eth then s2.pairUpd (fun p => { p with ethOk := false }) else s2).pairJudge
  else
    let other := if eth then s.pair.link else s.pair.eth
    let clash := match other with
      | some (o, _) => decide (hbSeq o = hbSeq b ∧ o ≠ b)
      | none => false
    if clash then
      let s1 := s.pairUpd (fun p => { p with
        link := none, eth := none, ethOk := if eth then true else p.ethOk })
      (s1.raise PAIR_EVT_PATH_DIFF).pairJudgeWith (!eth || s.flag PAIR_STAT_HEARD_LINK)
    else
      let s1 := s.pairUpd (fun p =>
        if eth then { p with eth := some (b, s.ts), ethOk := true }
        else { p with link := some (b, s.ts) })
      s1.pairPick.pairJudgeWith (!eth || s.flag PAIR_STAT_HEARD_LINK)

/-! ### Boundary, INPUT, start -/

/-- The claim and mastership of a boundary; component I takes who was master when the cycle ended. -/
def State.pairBoundary (s : State) : State :=
  (s.pairUpd (fun p => { p with wasMaster := s.flag PAIR_STAT_MASTER })).pairClaim.pairJudge

/-- The device safe state: the claim is zero at once, and mastership follows (R436, R440). -/
def State.pairSafe (s : State) : State := (s.fset PAIR_STAT_CLAIM 0).pairJudge

/-- ms since a record, saturating. -/
def State.msSince (s : State) (r : Option (List Byte × Nat)) : Nat :=
  match r with
  | some (_, t) => min ((s.ts - t) / 1000) 0xFFFFFFFF
  | none => 0xFFFFFFFF

/-- INPUT latches the partner status words (Table 17-4). -/
def State.pairInput (s : State) : State :=
  let up := !s.unitDown 0x2E
  let heard := s.flag PAIR_STAT_HEARD_LINK || s.flag PAIR_STAT_HEARD_ETH
  let rec_ := s.pair.used.getD []
  let w : List (Nat × Bool) :=
    [((s.regWord 0x400C0010).toNat, up), (s.claimNow + 2 ^ 16 * s.partnerClaim, up),
     (leAt rec_ 12 4, up && heard), (leAt rec_ 8 4, up && heard),
     (s.msSince s.pair.link, up && heard), (s.msSince s.pair.eth, up && heard),
     (leAt rec_ 4 4, up && heard), (s.health, up)]
  s.pairUpd (fun p => { p with snap := w })

/-- A partner status word and its quality. -/
def State.pairItem (s : State) (i : Nat) : Word × Bool :=
  let x := s.pair.snap.getD i (0, false)
  (BitVec.ofNat 32 x.1, x.2)

/-- Reset of what the pair unit holds beside its registers. -/
def State.pairClear (s : State) : State := { s with pair := .reset }

end Sys2Proof.Machine
end

