-- ==== Sys2Proof/Machine/UpdOps.lean ====
section
/-! DEFINITION. Sys2Proof/Machine/UpdOps.lean: the update unit's shared operations: pages, the header
buffer, settings halves and records (R463 to R472). -/

namespace Sys2Proof.Machine

/-- Change the update unit. -/
def State.updUpd (s : State) (f : Upd → Upd) : State := { s with upd := f s.upd }

/-- UPD_STAT.STATE: 0 idle, 1 erasing, 2 open, 3 writing, 4 fetching, 5 verifying, 6 closed, 7 armed,
8 activating. -/
def State.updState (s : State) : Nat := s.fget UPD_STAT_STATE

/-- End a command: STATE and RESULT; an abort that came too late shows as such (R467). -/
def State.updEnd (s : State) (st result : Nat) : State :=
  ((s.fset UPD_STAT_STATE st).fset UPD_STAT_RESULT (if s.upd.late then 8 else result)).updUpd
    (fun u => { u with job := none, left := 0, begun := false, late := false })

/-- The reads of a FETCH are given up: one on the link is answered to nobody. -/
def State.fetchDrop (s : State) : State :=
  s.flkUpd (fun b => { b with
    reads := b.reads.map (fun r => if r.2.2.kind = 9 then (r.1, r.2.1, { r.2.2 with seq := 0xFFFFFFFF }) else r)
    waitTag := b.waitTag.filter (fun w => w.2.kind ≠ 9)
    waitSem := b.waitSem.filter (fun w => w.2.kind ≠ 9) })

/-- The waiting flash operations of the update unit are withdrawn. -/
def State.updDrop (s : State) : State :=
  let w := s.flc.waiting.filter (fun op => op.cls ≠ 3 ∧ op.cls ≠ 5)
  ({ s with flc := { s.flc with waiting := w } }).fetchDrop

/-- Refuse a command with a RESULT and an error response. -/
def State.updRefuse (s : State) (result : Nat) : State :=
  (s.fset UPD_STAT_RESULT result).answer .target

/-- The slot that OPEN named, false = A. -/
def State.updSlot (s : State) : Bool := s.flag UPD_STAT_SLOT

/-- The header buffer as a page. -/
def State.updPage (s : State) : List Byte := mapBytes flashDflt s.upd.hdr 0 4096

/-- Queue a flash operation of the running command. -/
def State.updQueue (s : State) (op : FlashOp) : State :=
  (s.flashQueue op).updUpd (fun u => { u with left := u.left + 1 })

/-- The bytes of a command split at its offset into pages of at most 256 bytes. -/
def pages (a : Nat) : Nat → List Byte → List (Nat × List Byte)
  | 0, _ => []
  | n + 1, bs => if bs.isEmpty then [] else (a, bs.take 256) :: pages (a + 256) n (bs.drop 256)

/-- The next page of a WRITE or FETCH: programmed if it reads all 0xFF, otherwise RESULT 0x4 (R465). -/
def State.updNextPage (s : State) : State :=
  match s.upd.job with
  | some (.write [] r) => s.updEnd 2 r
  | some (.write ((a, bs) :: t) r) =>
    if (s.flashBytes (a / 256 * 256) 256).all (· = 0xFF) then
      (s.updQueue (.program 5 a bs)).updUpd (fun u => { u with job := some (.write ((a, bs) :: t) r) })
    else s.updEnd 2 4
  | _ => s

/-- Take the bytes of a WRITE or FETCH: header bytes go to the buffer, the rest becomes pages. -/
def State.updBytes (s : State) (ofs : Nat) (bs : List Byte) (result st : Nat) : State :=
  let hb := bs.take (0x1000 - ofs)
  let s1 := s.updUpd (fun u => { u with hdr := mapPut flashDflt u.hdr ofs hb })
  let rest := bs.drop (0x1000 - ofs)
  let a := s.slotBase s.updSlot + max ofs 0x1000
  let s2 := (s1.fset UPD_STAT_STATE st).updUpd (fun u => { u with
    job := some (.write (pages a 17 rest) result), begun := false, late := false })
  s2.updNextPage

/-! ### FETCH (R465) -/

/-- A read of a FETCH: 8 bytes of a station window under semaphore class 3. -/
def fetchItem (src k : Nat) : HubItem :=
  { req := { init := .update, write := false, addr := src + 8 * k, size := 8, data := 0, tag := 0 }
    named := true, kind := 9, mask := 0xFF, seq := BitVec.ofNat 32 k, lanes := [] }

/-- The reads that may be made now: up to 16 outstanding, none after an error response. -/
def State.fetchIssue (s : State) : Nat → State
  | 0 => s
  | fuel + 1 =>
    match s.upd.job with
    | some (.fetch src ofs len next got) =>
      if next < (len + 7) / 8 && next < got.length + 16 && got.all (fun g => g.2.1 = 0) then
        let s1 := s.updUpd (fun u => { u with job := some (.fetch src ofs len (next + 1) got) })
        (if s1.unitDown 0x2D then s1.reply (fetchItem src next) Resp.isolated.code false 0
         else s1.foldAccess (fetchItem src next)).fetchIssue fuel
      else s
    | _ => s

/-- A FETCH goes on: reads are made, and once every one is answered the bytes before the first error
response are written. -/
def State.fetchPump (s : State) : State :=
  let s1 := s.fetchIssue 16
  match s1.upd.job with
  | some (.fetch _ ofs len next got) =>
    let n := (len + 7) / 8
    let word (k : Nat) : Option DWord :=
      (got.find? (fun g => g.1 = k ∧ g.2.1 = 0)).map (fun g => g.2.2)
    let good := (List.range n).takeWhile (fun k => (word k).isSome)
    let bytes := (good.flatMap (fun k => leBytes 8 ((word k).getD 0).toNat)).take len
    if got.length < next || (next < n && got.all (fun g => g.2.1 = 0)) then s1
    else s1.updBytes ofs bytes (if good.length = n then 1 else 5) 4
  | _ => s1

/-! ### Settings (R470 to R472) -/

/-- The base of a half of the settings area, and its size. -/
def State.setBase (s : State) (h : Nat) : Nat := s.dirField 28 + h * (s.dirField 32 / 2)

/-- The size of a half. -/
def State.setSize (s : State) : Nat := s.dirField 32 / 2

/-- The header of a half: FORMAT and HGEN where it is valid. -/
def State.setHdr (s : State) (h : Nat) : Option (Nat × Nat) :=
  let b := s.flashBytes (s.setBase h) 16
  if s.boot.dirOk && leAt b 0 4 = 0x5453545A && leAt b 12 4 = crc32c (b.take 12) then
    some (leAt b 4 2, leAt b 8 4)
  else none

/-- A settings record: offset in its half, SEQ, KEY, FORMAT, LEN, valid. -/
structure SetRec where
  ofs : Nat
  seq : Nat
  key : Nat
  fmt : Nat
  len : Nat
  ok : Bool
  deriving DecidableEq, Repr

/-- Bytes that a record of LEN takes. -/
def recSize (len : Nat) : Nat := 32 + (len + 15) / 16 * 16

/-- The records of a half from an offset on; the first blank place ends them. -/
def State.setRecs (s : State) (h : Nat) : Nat → Nat → List SetRec
  | 0, _ => []
  | n + 1, o =>
    let a := s.setBase h + o
    let b := s.flashBytes a 16
    let len := leAt b 6 2
    if s.setSize ≤ o || b.all (· = 0xFF) then []
    else
      let d := recSize len
      let ok := leAt b 12 4 = crc32c (b.take 12 ++ s.flashBytes (a + 16) len)
        && s.flashLe (a + d - 16) 4 = 0x5654545A && 1 ≤ len && len ≤ 4080
      { ofs := o, seq := leAt b 0 4, key := leAt b 8 4, fmt := leAt b 4 2, len := len, ok := ok }
        :: s.setRecs h n (o + d)

/-- All records of a half. -/
def State.setAll (s : State) (h : Nat) : List SetRec := s.setRecs h (s.setSize / 48) 16

/-- The first free offset of a half. -/
def State.setFree (s : State) (h : Nat) : Nat :=
  (s.setAll h).foldl (fun _ r => r.ofs + recSize r.len) 16

/-- The half of a FORMAT with the highest HGEN. -/
def State.setHalf (s : State) (fmt : Nat) : Option Nat :=
  match s.setHdr 0, s.setHdr 1 with
  | some (f0, g0), some (f1, g1) =>
    if f0 = fmt ∧ f1 = fmt then (if g0 < g1 then some 1 else some 0)
    else if f0 = fmt then some 0 else if f1 = fmt then some 1 else none
  | some (f0, _), none => if f0 = fmt then some 0 else none
  | none, some (f1, _) => if f1 = fmt then some 1 else none
  | none, none => none

/-- The own half (R471). -/
def State.ownHalf (s : State) : Option Nat := s.setHalf s.boot.act.format

/-- Is a half protected (R471)? -/
def State.setProt (s : State) (h : Nat) : Bool :=
  let other := !s.boot.act.slot
  let trial := !wordSet (s.page s.boot.act.slot) 0xF08 && s.slotValid other
  s.ownHalf = some h || (trial && s.setHalf (leAt (s.page other) 0x14 2) = some h)

/-- The highest SEQ of the area. -/
def State.setSeq (s : State) : Nat :=
  (s.setAll 0 ++ s.setAll 1).foldl (fun m r => if r.ok then max m r.seq else m) 0

/-- The highest HGEN of the area. -/
def State.setGen (s : State) : Nat :=
  [0, 1].foldl (fun m h => match s.setHdr h with
    | some (_, g) => max m g
    | none => m) 0

/-- A record without its VALID word. -/
def setRecord (seq fmt key : Nat) (data : List Byte) : List Byte :=
  let h := leBytes 4 seq ++ leBytes 2 fmt ++ leBytes 2 data.length ++ leBytes 4 key
  h ++ leBytes 4 (crc32c (h ++ data)) ++ data ++ List.replicate ((16 - data.length % 16) % 16) 0

/-- Program a record at an offset of a half, its VALID word by a separate program. -/
def State.setProgram (s : State) (h o : Nat) (r : List Byte) : State :=
  let a := s.setBase h + o
  (s.updQueue (.program 3 a r)).updQueue
    (.program 3 (a + r.length) (leBytes 4 0x5654545A ++ List.replicate 12 0))

/-- The current record of every KEY of the running format in the own half, in SEQ order. -/
def State.setCurrent (s : State) (h : Nat) : List SetRec :=
  let l := (s.setAll h).filter (fun r => r.ok && r.fmt = s.boot.act.format)
  let best := l.filter (fun r => l.all (fun x => x.key ≠ r.key || x.seq ≤ r.seq))
  best.foldl (fun acc r => acc.takeWhile (fun x => x.seq < r.seq) ++ [r]
    ++ acc.dropWhile (fun x => x.seq < r.seq)) []

/-- Reset of what the update unit holds beside its registers: the command in progress is abandoned
(R467). -/
def State.updClear (s : State) : State := { s.updDrop with upd := .reset }

end Sys2Proof.Machine
end

