-- ==== Sys2Proof/Machine/Units.lean ====
section
/-! DEFINITION. Sys2Proof/Machine/Units.lean: what the device safe state, a local reset and the start
after a reload do to each unit beside its registers. -/

namespace Sys2Proof.Machine

/-- Step 3 of R23 in the units: the CAN channels and the Drove channels (Table 18-8); the
semaphores, the claim; the heartbeat and the publications stop by their own checks of the safe state. -/
def State.unitsSafe (s : State) : State :=
  ([0, 1, 2, 3].foldl (fun t n => t.canSafe n) s).drvSafe.flkSafe.fetchPump.pairSafe

/-- Reset of what a unit holds beside its registers. -/
def State.unitClear (s : State) (u : Nat) : State :=
  match u with
  | 0x20 => s.ethClear
  | 0x21 => { s with pde := .reset }
  | 0x22 => s.timClear
  | 0x28 => s.canClear 0
  | 0x29 => s.canClear 1
  | 0x2A => s.canClear 2
  | 0x2B => s.canClear 3
  | 0x2C => s.drvClear
  | 0x2D => s.flkClear
  | 0x2E => s.pairClear
  | 0x30 => s.sigClear
  | 0x38 =>
    let w := s.flc.waiting.filter (fun op => op.cls ≠ 4)
    { s with recd := .reset, flc := { s.flc with waiting := w } }
  | 0x39 => s.updClear
  | _ => s

/-- The start of a unit after its configuration has been loaded (R91, R164). -/
def State.unitStart (s : State) (u : Nat) : State :=
  match u with
  | 0x20 => s.fset ETH_STAT_FWD 1
  | 0x21 => s.pdeStart
  | 0x28 => s.canStart 0
  | 0x29 => s.canStart 1
  | 0x2A => s.canStart 2
  | 0x2B => s.canStart 3
  | 0x2C => s.drvStart
  | 0x2D => s.flkStart
  | 0x30 => s.sigStart
  | 0x38 => s.recRestore
  | _ => s

end Sys2Proof.Machine
end

