-- ==== Sys2Proof/Machine/Reset.lean ====
section
/-! DEFINITION. Sys2Proof/Machine/Reset.lean: the service sets, the device safe state, the bypass
holds, resets of device reach with their release sequence, and the paddock and unit episodes
(chapters 01, 02, 04). -/

namespace Sys2Proof.Machine

/-! ### Bypass holds (R55, R57) -/

/-- The conditions that release both holds: a device episode, CLOCK_HOLD, a start without the
any-service set (R19), a reserved role (R45). -/
def State.holdsOff (s : State) : Bool :=
  s.rst.active || s.clk.hold || s.fget BOOT_STAT_MISSING ≠ 0 || s.flag BOOT_STAT_MODE_INVALID

/-- A local episode, its planned drain included, that covers a unit. -/
def State.inLocal (s : State) (u : Nat) : Bool :=
  s.rst.locals.any (fun e => (targetUnits e.target).contains u)

/-- BYP_HOLD_ETH: asserted while the switch forwards on every configured train-line port and no
release condition is present. -/
def State.bypEth (s : State) : Bool :=
  s.flag ETH_STAT_FWD && !s.holdsOff && s.fget (pstat .net) = 2 && !s.inLocal 0x20

/-- BYP_HOLD_FLK: asserted while the bridge forwards and no release condition is present. -/
def State.bypFlk (s : State) : Bool :=
  s.flag FLK_STAT_FWD && !s.holdsOff && s.fget (pstat .bus) = 2 && !s.inLocal 0x2D

/-! ### The barrier link -/

/-- Send a command frame to the field die; nothing leaves in CLOCK_HOLD (R111) or while the clock
of island HUB is gated (R113). -/
def State.linkSend (s : State) (f : LinkFrame) : State :=
  if s.clk.hold || !bitOf (s.fget CLK_GMAP_ISLAND) 8 then s else { s with link := { s.link with toField := s.link.toField ++ [f] } }

/-- The 16 bytes of a COMMIT (TYPE 0x03) or REFRESH (TYPE 0x04) frame (Table 11-2). -/
def outFrame (type : Nat) (o : OutImg) : List Byte :=
  let b := leBytes 1 type ++ leBytes 1 o.seq ++ leBytes 2 o.val.toNat ++ leBytes 2 o.qg.toNat
    ++ leBytes 1 o.bl.toNat ++ [0] ++ leBytes 4 o.cyc.toNat
  b ++ leBytes 4 (crc32c b)

/-! ### The device safe state (R23) -/

/-- Is the application running: the first cycle has started, no episode has begun since, and the
device is not in CLOCK_HOLD? -/
def State.inService (s : State) : Bool :=
  s.fget BOOT_STAT_PHASE = 7 && !s.rst.active && !s.clk.hold

/-- Enter the device safe state. In force already, the first cause stands. -/
def State.safeEnter (s : State) (code : Nat) : State :=
  match s.rst.safe with
  | some _ => s
  | none =>
    let s1 := { s with rst := { s.rst with safe := some code }
                       pins := { s.pins with safeOut := false } }
    let s2 := (s1.linkSend .safe).unitsSafe
    let s3 := (s2.count 9).fset (REC_CNT_c_VAL 10) code
    let s4 := s3.when (s3.flag REC_CFG_SAFESNAP) (fun x => x.recSnapshot 3)
    { s4 with bkup := { s4.bkup with pendSafe := BitVec.ofNat 8 code } }

/-- Commit transactions are accepted (R23 step 1). -/
def State.accepts (s : State) : Bool := s.rst.safe.isNone && !s.clk.hold && !s.rst.active

/-! ### The minimum service sets (R19 to R22) -/

/-- Cores that count towards the service sets. -/
def State.healthyCores (s : State) : List CoreId := allCores.filter s.healthy

/-- The any-service set is present (Table 01-4). -/
def State.anyService (s : State) : Bool :=
  s.boot.shepOk = 3 && s.healthyCores ≠ [] && !s.flc.dead && s.fget (pstat .common) = 2

/-- The safe-service set is present (Table 01-4). -/
def State.safeService (s : State) : Bool :=
  s.boot.shepOk = 3 && s.mode ≠ 3 && 2 ≤ s.voting.length
    && s.flogicUp && s.fpowerUp && s.fget FLD_STAT_LINK = 2

/-- Has a window already answered a transaction of its lanes: it has been released, or its read made,
and the transaction is the one released or made? -/
def Win.answers (w : Win) (t : Txn) : Bool :=
  w.seq = t.seq && !t.poison
    && (match w.made with
        | some u => u = t
        | none => false
      || w.released && match w.verdict with
        | some v => v.txn = t
        | none => false)

/-- What a lane that leaves the voting still has to send on its own: what waits in its skew buffers,
then what it has not sent, without what has been answered for it. -/
def State.unanswered (s : State) (l : LaneId) : List Txn :=
  let buf := s.triad.wins.flatMap (fun w => if w.released then [] else
    (w.arr.filter (fun p => p.1 = l)).map (fun p => p.2))
  (buf ++ (s.lane l).out).filter (fun t => !s.triad.wins.any (fun w => w.answers t))

/-- A voting lane becomes independent: it sends what is unanswered again, lane by lane, and takes no
response to a read that it did not ask for. -/
def State.lanePart (s : State) (l : LaneId) : State :=
  let out := s.unanswered l
  let mine (q : BitVec 32) : Bool := out.all (fun t => t.seq ≠ q)
  let s1 := (s.updLane l (fun x => { x with out := out })).fset (laneStateF l) 3
  { s1 with
    triad := { s1.triad with
      resps := s1.triad.resps.map (fun r =>
        if mine r.seq then r else { r with lanes := r.lanes.filter (· ≠ l) }) }
    memx := { s1.memx with
      hubQ := s1.memx.hubQ.map (fun i =>
        if mine i.seq then i else { i with lanes := i.lanes.filter (· ≠ l) }) } }

/-- Continue in SOLO on the lanes that remain (R21): every voting lane becomes independent. DESIGN
CHOICE (log entry 111): what the lanes had sent without a release is forwarded lane by lane, as
transactions of SOLO; a read that was made for them is not made again. -/
def State.soloFallback (s : State) : State :=
  let s1 := (s.voting.foldl State.lanePart s).fset TRI_MODE_CUR 3
  { s1 with triad := { s1.triad with wins := [], safeRefused := true } }

/-- Evaluate both sets (R22), as an event or at a boundary. -/
def State.evalSets (s : State) : State :=
  if !s.inService || s.rst.safe.isSome then s
  else if !s.anyService then s.safeEnter 1
  else if s.safeService then s
  else if s.safetyCfg then s.safeEnter 2
  else if s.mode ≠ 3 then s.soloFallback
  else s

/-! ### Episodes of device reach (R80 to R87) -/

/-- The SYS_RSTCAUSE bit of a source; EXT_LONG is set apart (R77). -/
def RstSrc.bit : RstSrc → Nat
  | .por => 0 | .brownout _ => 1 | .resetN => 2 | .sheepdog => 4 | .voter => 5 | .clock => 6
  | .soft => 7 | .debug => 8

/-- The paddock states that a reset leaves: BKUP and AON ON, the field paddocks as their supplies
are, and at device-warm the compute paddocks that are on (R74). -/
def State.paddocksAfter (s : State) (cold : Bool) (t : State) : State :=
  let keep (x : State) (p : Paddock) : State :=
    x.fset (pstat p) (if !cold && s.fget (pstat p) ≥ 2 then 2 else 0)
  let t1 := seqOrder.foldl keep t
  (t1.fset (pstat .flogic) (if s.phys.ok.getLsbD 6 then 2 else 0)).fset (pstat .fpower)
    (if s.phys.ok.getLsbD 7 then 2 else 0)

/-- Clear what a reset of device reach clears (Table 04-1) and keep the rest: BKUP with its
retained memory, at device-warm the trims and the wear register file, the flash, the levels of
the outside world, the field die, and the episode's own record. -/
def State.deviceClear (s : State) (cold : Bool) : State :=
  let t : State :=
    { State.reset with
      pending := s.pending
      regs := s.regs.afterReset cold
      mem := s.mem.filter (fun p => 0xF0000000 ≤ p.1 && p.1 < 0xF0004000)
      flash := s.flash, phys := s.phys, board := s.board, bkup := s.bkup
      pins := { s.pins with safeOut := false, rstOut := false, ppsOut := false }
      rst := { s.rst with locals := [], safe := none, trimCopy := none, step := 0
                          step4Done := false }
      wear := { file := if cold then [] else s.wear.file
                history := if cold then [] else s.wear.history
                pendWear := [], pendStray := [] }
      clk := { State.reset.clk with restartHrc := s.clk.restartHrc }
      fd := s.fd
      link := { State.reset.link with toField := s.link.toField, toComp := s.link.toComp }
      now := { State.reset.now with epNs := s.now.epNs }
      resp := s.resp, rdata := s.rdata, rtag := s.rtag, reff := s.reff, freeCtr := s.freeCtr }
  s.paddocksAfter cold t

/-- SYS_RSTCAUSE at the start of an episode (R86): every field zero but BO_RAIL, which is 0xF, and
SAFECODE, which takes the pending latch (R87). -/
def State.causeStart (s : State) : State :=
  let prev := s.regWord 0x40000004
  let s1 := s.setReg 0x40000004 0
  let s2 := (s1.fset SYS_RSTCAUSE_BO_RAIL 0xF).fset SYS_RSTCAUSE_SAFECODE s.bkup.pendSafe.toNat
  { s2 with bkup := { s2.bkup with causePrev := prev, pendSafe := 0 } }

/-- The start of a device episode (R80, R86): cause registers, the clearing of the reach, the
RESET frame to the field die, RST_OUT_N and SAFE_OUT_N low. -/
def State.episodeStart (s : State) (cold : Bool) : State :=
  let s1 := s.causeStart.linkSend .reset
  let s2 := s1.deviceClear cold
  let s3 := { s2 with rst := { s2.rst with active := true, sources := [], counted := false
                                           minLowDone := false, porSeen := false }
                      now := { s2.now with epNs := 0 } }
  s3.fset SYS_RSTCAUSE_REACH (if cold then 2 else 1)

/-- A source joins the episode in progress (R81, R83): the release sequence stops, what the widest
reach clears is clear again, and the sequence will begin from step 1. -/
def State.episodeJoin (s : State) (cold : Bool) : State :=
  let c := cold || s.fget SYS_RSTCAUSE_REACH = 2
  (s.deviceClear c).fset SYS_RSTCAUSE_REACH (if c then 2 else 1)

/-- Assert a source of device reach: start an episode, or join the one in progress. -/
def State.assertDevice (s : State) (src : RstSrc) (cold : Bool) : State :=
  let s1 := if s.rst.active then s.episodeJoin cold else s.episodeStart cold
  let s3 := s1.raise ⟨0x40000004, src.bit, 1⟩
  { s3 with rst := { s3.rst with sources := if s3.rst.sources.contains src then s3.rst.sources
                                            else s3.rst.sources ++ [src] } }

/-- A clock fault (R105, R112, R113, Table 05-3): the code stays in BKUP, the steps of R23 are
taken, outside an episode whose reset has them in effect already (R80, R83), and the clock source
asserts. After codes 2 and 6 both HRC oscillators are restarted (R103). -/
def State.clockFault (s : State) (code : Nat) : State :=
  let s1 := s.fset CLK_FCAUSE_CODE code
  let s2 := s1.when (!s1.rst.active) (fun x => x.safeEnter 6)
  let s3 := { s2 with clk := { s2.clk with
    restartHrc := s2.clk.restartHrc || code = 2 || code = 6 } }
  s3.assertDevice .clock false

/-- A voter fault (R207): recorded, the steps of R23, then a reset with cause VOTER. -/
def State.voterFault (s : State) (cause shep lane : Nat) : State :=
  let s1 := ((((s.raise TRI_VFLAST_VALID).fset TRI_VFLAST_CAUSE cause).fset TRI_VFLAST_SHEP
    shep).fset TRI_VFLAST_LANE lane).fset TRI_VFLAST_CYC s.cyc.count.toNat
  (s1.safeEnter 3).assertDevice .voter false

/-! ### The release sequence (R88) -/

/-- Sample the straps (R44). -/
def State.sampleStraps (s : State) (st : Straps) : State :=
  ((s.fset SYS_PINSTAT_MODE st.mode.toNat).show SYS_PINSTAT_TEST_EN st.testEn).fset
    SYS_PINSTAT_SLOT_ID st.slotId.toNat

/-- Compare, repair and increment the reset counter, once per episode (R86, R97). Both forms zero
are BKUP's cleared content and count from zero (R98). -/
def State.countEpisode (s : State) : State :=
  if s.rst.counted then s
  else
    let c := s.fget SYS_RSTCNT_COUNT
    let m := (~~~s.bkup.rstcntM).toNat
    let cleared := c = 0 ∧ s.bkup.rstcntM = 0
    let v := if c = m ∨ cleared then c else max c m
    let s1 := s.when (decide (¬(c = m ∨ cleared))) (fun x => x.raise SYS_RSTSTAT_RSTCNT_REPAIRED)
    let n := min (v + 1) 0xFFFFFFFF
    let s2 := s1.fset SYS_RSTCNT_COUNT n
    { s2 with bkup := { s2.bkup with rstcntM := ~~~(BitVec.ofNat 32 n) }
              rst := { s2.rst with counted := true } }

/-- Does an entry of the wear register file retire a core (Table 01-8)? -/
def State.wearRetired (s : State) (k : CoreId) : Bool :=
  s.wear.file.any (fun e => e.kind = 1 && e.unit = k.num)

/-- Close the switch of the first paddock of the sequencer's list. -/
def State.rampHead (s : State) : State :=
  match s.pwr.ramp with
  | [] => s
  | p :: _ => s.fset (pstat p) 1

/-- Steps 1 and 2 of Table 04-3, with the start of steps 3 and 4. -/
def State.releaseStart (s : State) (st : Straps) : State :=
  let s1 := (s.sampleStraps st).countEpisode
  let cold := s1.fget SYS_RSTCAUSE_REACH = 2
  let off := seqOrder.filter (fun p => decide cold ||
    (s1.fget (pstat p) = 0 && !(match p.core with
      | some k => s1.wearRetired k
      | none => false)))
  let s2 := off.foldl (fun x p => (x.fset (pstat p) 0).lower (pfault p)) s1
  let restart := s2.clk.restartHrc
  let s3 := { s2 with
    pwr := { s2.pwr with ramp := off }
    rst := { s2.rst with step := 4, step4Done := false, trimCopy := none }
    clk := { s2.clk with qual := .off, hrc1Stopped := restart, hrc2Stopped := restart
                         hrc1Settling := !restart, hrc2Settling := !restart
                         restartHrc := false, monXH := true, monHH := true, monXH1 := true }
    now := { s2.now with epNs := if s2.rst.porSeen then s2.now.epNs else 0 } }
  s3.rampHead

/-- The release sequence begins when every source of the episode has released (R82). -/
def State.tryRelease (s : State) (st : Straps) : State :=
  if s.rst.active ∧ s.rst.sources = [] ∧ s.rst.step = 0 then s.releaseStart st else s

/-- A source of device reach releases. -/
def State.releaseSource (s : State) (src : RstSrc) (st : Straps) : State :=
  ({ s with rst := { s.rst with sources := s.rst.sources.filter (· ≠ src) } }).tryRelease st

/-- Rebuild the wear register file from the retained and flash copies (R35): every valid entry of
either copy; the flash copy where they differ. Entries that one copy lacks are written to it. The
stray history of a core is its eight records with the highest SEQ (R200). DESIGN CHOICE (log entry
111): chapter 19 gives the record of WEAR_CONFLICT no word and no place; it stands in a field of the
recorder of its own, which no register shows and no restore replaces. -/
def State.wearRebuild (s : State) : State :=
  let fl := s.flashWear
  let rt := s.retainedWear
  let conflict := rt.any (fun e => fl.any (fun f => f.seq = e.seq ∧ f ≠ e))
  let all := rt.foldl (fun acc e => insertWear e acc)
    (fl.foldl (fun acc e => insertWear e acc) [])
  let s1 := all.foldl (fun x e => x.retainWear e) s
  let missing := all.filter (fun e => !fl.contains e)
  let s2 := { s1 with wear := { s1.wear with file := all } }
  let s3 := missing.foldl (fun x e => x.pendWearFlash e) s2
  let sorted := s.flashStrays.foldl (fun acc e => insertStray e acc) []
  let hist (k : Nat) : List StrayE :=
    let h := sorted.filter (fun x => x.core = k)
    h.drop (h.length - 8)
  let s4 := { s3 with wear := { s3.wear with history := hist 0 ++ hist 1 ++ hist 2 ++ hist 3 } }
  s4.when conflict (fun x => { x with recd := { x.recd with wearConflict := true } })

/-- Apply one substitution of the wear register file (R35, R91). -/
def State.wearApply (s : State) (e : WearE) : State :=
  match e.kind with
  | 1 => (s.raise (retiredF (coreOf e.unit))).raise (preq (coreOf e.unit).paddock)
  | 2 => s.fset (laneCoreF (laneOf e.detail)) e.unit
  | 3 =>
    let f := MEM_BANK_n_ROWS_LEFT e.unit
    let used := bankRows e.unit - s.fget f
    let s1 := s.fset f (s.fget f - 1)
    { s1 with memx := { s1.memx with remaps := s1.memx.remaps ++ [(e.unit, e.detail, used)] } }
  | 4 => s.fset (MEM_BANK_n_COLS_LEFT e.unit) (s.fget (MEM_BANK_n_COLS_LEFT e.unit) - 1)
  | _ => s

/-- TRI_STRAYCNT as evaluated at start (R199). -/
def State.strayCounts (s : State) : State :=
  (List.range 4).foldl (fun x k =>
    x.fset ⟨0x40010014, 8 * k, 8⟩ (min (x.strayCount k) 255)) s

/-- Flash discovery, phase S2 (R150, R151): SFDP as the fitted device reports it. -/
def State.flashDiscovery (s : State) : State :=
  let s1 := ((((s.fset BOOT_XSPI_DENSITY s.board.density).fset BOOT_XSPI_DUMMY
    s.board.dummy).show BOOT_XSPI_SUSPEND s.board.suspend).show BOOT_XSPI_MODE s.board.octal)
  (s1.show BOOT_STAT_SLOW_FLASH (!s.board.octal)).fset BOOT_STAT_PHASE 2

/-- Factory test (R46): TEST_EN sampled high. -/
def State.factoryTest (s : State) : Bool := s.flag SYS_PINSTAT_TEST_EN

/-- The field die in factory test: every output off and the brake loop open (R46). -/
def Fd.opened (f : Fd) : Fd :=
  { f with loop := if f.loop = .fault then .fault else .opened, hsOn := false, lsOn := false
           extOpen := false }

/-- Step 9: RST_OUT_N high, the TS counter starts (R254), start-up goes on by the role straps (R45,
R46). A reserved role holds functional reset: the step is not completed. DESIGN CHOICE (log entry
111): RST_OUT_N and every unit stay in reset there, and a later source joins the same episode. -/
def State.releaseEnd (s : State) : State :=
  let mode := s.fget SYS_PINSTAT_MODE
  if !s.factoryTest && mode ≥ 2 then s.raise BOOT_STAT_MODE_INVALID
  else
    let s1 := { s with rst := { s.rst with active := false, step := 9, sources := [] }
                       pins := { s.pins with rstOut := true }
                       now := { s.now with hubRun := true, hubNs := 0 } }
    if s1.factoryTest then { s1 with fd := s1.fd.opened }
    else if mode = 1 then s1.raise FLK_STAT_FWD
    else (s1.fset BOOT_STAT_PHASE 1).flashDiscovery

/-- Steps 5 to 9, once the sequencer and steps 3 and 4 have completed. -/
def State.releaseAdvance (s : State) : State :=
  if s.rst.active ∧ s.rst.step = 4 ∧ s.rst.step4Done ∧ s.pwr.ramp = [] then
    let s1 := s.when (s.fget SYS_RSTCAUSE_REACH = 2) State.wearRebuild
    let s2 := (s1.wear.file.foldl State.wearApply s1).strayCounts
    let s3 := allCores.foldl (fun x k =>
      if x.retired k then x.fset (pstat k.paddock) 0 else x) s2
    let s4 := { s3 with rst := { s3.rst with step := 8 } }
    if s4.rst.minLowDone then s4.releaseEnd else s4
  else s

/-! ### Paddock and unit episodes (R89 to R93) -/

/-- A target that a request may name (Table 04-4). -/
def localTarget (t : Nat) : Bool :=
  [0x07, 0x08, 0x09, 0x0A, 0x20, 0x21, 0x22, 0x28, 0x29, 0x2A, 0x2B, 0x2C, 0x2D, 0x2E, 0x30,
   0x38, 0x39].contains t

/-- A target of paddock reach. -/
def paddockTarget (t : Nat) : Bool := [0x07, 0x08, 0x09, 0x0A].contains t

/-- Does resetting a target release a bypass hold? -/
def releasesHold (t : Nat) : Bool := [0x07, 0x08, 0x0B, 0x0C, 0x20, 0x2D].contains t

/-- Does target `t` cover target `u`? -/
def targetCovers (t u : Nat) : Bool :=
  t = u || (targetUnits u).all (fun x => (targetUnits t).contains x)

/-- Reset the registers and the state of a unit. -/
def State.unitReset (s : State) (u : Nat) : State :=
  let r := unitRange u
  ({ s with regs := s.regs.clear r.1 r.2 }).unitClear u

/-- Write the active set's configuration registers of a unit again, the fields of its register load
list that have one bank included, and start it (R91). -/
def State.unitReload (s : State) (u : Nat) : State :=
  let r := unitRange u
  let mine := s.boot.act.rwl.filter (fun p => r.1 ≤ p.1 && p.1 < r.1 + r.2)
  let rw := s.boot.act.heldRw.filter (fun p => r.1 ≤ p.1 && p.1 < r.1 + r.2)
  let m := mine.foldl (fun (m : RegMap) (p : Nat × Word) => m.setWord p.1 p.2) s.regs
  let m2 := rw.foldl (fun (m : RegMap) (p : Nat × Word) =>
    m.setWord p.1 (mergeW (m.word p.1) (rwMask p.1) p.2)) m
  ({ s with regs := m2 }).unitStart u

/-- The configuration registers of the field die (R311): FLD_ and SAF_ field registers. -/
def fieldCfgRegs (m : RegMap) : RegMap :=
  m.filter (fun p => (0x40040000 ≤ p.1 && p.1 < 0x40050000)
    || (0x400E0014 = p.1) || (0x400E0100 ≤ p.1 && p.1 < 0x400E0200))

/-- Start a reload of the field die, of which no status frame stands any more: RESET, then LOAD with the configuration of the active set as
the compute die's registers hold it, and the substitutions of the wear register file (R311). -/
def State.fieldReload (s : State) : State :=
  let subs := (s.wear.file.filter (fun e => e.kind = 5 ∨ e.kind = 6)).map
    (fun e => (e.kind, e.unit, e.detail))
  let s1 := (s.linkSend .reset).linkSend (.load (fieldCfgRegs s.regs) subs)
  let s2 := { s1 with link := { s1.link with acked := false, img := .zero, toComp := [], rx := none } }
  (s2.fset FLD_STAT_LINK 1).lower FLD_STAT_CFG_OK

/-- Does a target supply the registers or the window at an address? The FLD window belongs to FLOGIC. -/
def targetHolds (t a : Nat) : Bool :=
  (targetUnits t).contains (unitOfAddr a) || (t = 0x0A && 0x40040000 ≤ a && a < 0x40050000)

/-- Close the wrapper of a target and reset it: reads that wait for it end in ISOLATED, posted writes
that it accepted and has not performed are dropped and counted (R90); of those nothing else tells
the sender (R92). -/
def State.localAssert (s : State) (t : Nat) : State × Nat :=
  let hit (i : HubItem) : Bool := targetHolds t i.req.addr
  let lost := s.memx.hubQ.filter hit
  let drops := (lost.filter (fun i => i.req.write)).length
  let s1 := { s with memx := { s.memx with hubQ := s.memx.hubQ.filter (fun i => !hit i) } }
  let s2 := lost.foldl (fun x i =>
    x.reply i (if i.req.write then Resp.okay.code else Resp.isolated.code) false 0) s1
  let (s2, fw) := if (targetUnits t).contains 0x2D then s2.flkAbort else (s2, 0)
  let s2 := s2.fetchPump
  let s3 := if t = 0x0A then (s2.linkSend .reset).fset FLD_STAT_LINK 0
            else (targetUnits t).foldl State.unitReset s2
  (s3, drops + fw)

/-- Change the episodes of a target. -/
def State.localMap (s : State) (t : Nat) (f : LocalEp → LocalEp) : State :=
  { s with rst := { s.rst with locals := s.rst.locals.map (fun e => if e.target = t then f e else e) } }

/-- A source that stays asserted by itself; a software request lasts for the clocks of the hold
(Table 04-2). -/
def srcStays : LocalSrc → Bool
  | .software => false
  | .powerOn => true | .brownout => true | .debug => true

/-- An episode whose target has just been reset anew, with one more source (R82, R84). -/
def LocalEp.again (e : LocalEp) (src : LocalSrc) (drops : Nat) : LocalEp :=
  let held := if srcStays src && !e.held.contains src then e.held ++ [src] else e.held
  { e with held := held, phase := if held.isEmpty then .hold else .asserted, wdrop := e.wdrop + drops }

/-- Assert the reset of a target whose episode is `e`, which takes in the episodes that it covers
with their sources (R90, R93). -/
def State.localAbsorb (s : State) (e : LocalEp) (src : LocalSrc) : State :=
  let inner := s.rst.locals.filter (fun x => targetCovers e.target x.target)
  let kept := s.rst.locals.filter (fun x => !targetCovers e.target x.target)
  let r := ({ s with rst := { s.rst with locals := kept } }).localAssert e.target
  let held := inner.foldl (fun h x => h ++ x.held.filter (fun y => !h.contains y)) []
  let w := inner.foldl (fun n x => n + x.wdrop) 0
  let e1 := ({ e with held := held, wdrop := w } : LocalEp).again src r.2
  { r.1 with rst := { r.1.rst with locals := r.1.rst.locals ++ [e1] } }

/-- The running episode that covers a target. -/
def State.localOver (s : State) (t : Nat) : Option LocalEp :=
  s.rst.locals.find? (fun e => targetCovers e.target t)

/-- A local source asserts for a target (R84, R90). During a device episode it has no effect. Inside a
running episode that covers the target it joins: in a planned drain a source other than a request
resets at once, and after the reset has been asserted the target is reset anew. Otherwise an episode
begins, for a request that releases a bypass hold with the 20 ms of R56. -/
def State.localBegin (s : State) (t : Nat) (src : LocalSrc) : State :=
  if s.rst.active then s
  else match s.localOver t with
  | some e =>
    if e.phase = .drain && src = .software then s
    else s.localAbsorb e src
  | none =>
    let e : LocalEp := { target := t, src := src, held := [], phase := .hold, wdrop := 0 }
    if src = .software && releasesHold t then
      { s with rst := { s.rst with locals := s.rst.locals ++ [{ e with phase := .drain }] } }
    else s.localAbsorb e src


/-- Is there an episode of a target in a phase? -/
def State.localIn (s : State) (t : Nat) (p : LPhase) : Bool :=
  s.rst.locals.any (fun e => e.target = t ∧ e.phase = p)

/-- A source of an episode releases; the hold of R90 begins when the last one has (R82). -/
def LocalEp.release (e : LocalEp) (src : LocalSrc) : LocalEp :=
  let held := e.held.filter (· ≠ src)
  { e with held := held
           phase := if e.phase = .asserted && held.isEmpty then .hold else e.phase }

/-- A local source releases wherever it is asserted. -/
def State.localReleased (s : State) (src : LocalSrc) : State :=
  { s with rst := { s.rst with locals := s.rst.locals.map (fun e => e.release src) } }

/-- The wrapper of every target that has been reloaded opens, and SYS_LRST records it (R90). -/
def State.localOpen (s : State) : State :=
  let done := s.rst.locals.filter (fun e => e.phase = .boundary)
  let srcCode (x : LocalSrc) : Nat :=
    match x with
    | .powerOn => 0 | .brownout => 1 | .software => 2 | .debug => 3
  let s1 := { s with rst := { s.rst with locals := s.rst.locals.filter (fun e => e.phase ≠ .boundary) } }
  done.foldl (fun x e =>
    (((x.fset SYS_LRST_TARGET e.target).fset SYS_LRST_SRC (srcCode e.src)).bump
      SYS_LRST_COUNT).fset SYS_LRST_WDROP (min e.wdrop 255)) s1

end Sys2Proof.Machine
end

