-- ==== Sys2Proof/Machine/Field.lean ====
section
/-! DEFINITION. Sys2Proof/Machine/Field.lean: the field die: digital inputs and their front ends,
outputs, the brake loop with its direct trip, and the barrier link (chapter 11). -/

namespace Sys2Proof.Machine

/-! ### What the field die drives -/

/-- FLOGIC and FPOWER are supplied, outside factory test: the switches can conduct (R46, R50). -/
def State.fieldPowered (s : State) : Bool := s.flogicUp && s.fpowerUp && !s.factoryTest

/-- The switch that commands output `n`: output 2p of a pair (R300). -/
def Fd.cmdBase (f : Fd) (n : Nat) : Nat :=
  if bitOf (f.cfg.fget FLD_DOCFG_PAIR) (n / 2) then n / 2 * 2 else n

/-- The commanded value of output `n` (R299). -/
def Fd.doCmd (f : Fd) (n : Nat) : Bool :=
  let b := f.cmdBase n
  let safeOn := bitOf (f.cfg.fget FLD_DOCFG_SAFEON) b
  if f.safeLatch || f.timedOut then safeOn
  else if f.img.qg.getLsbD b then f.img.val.getLsbD b else safeOn

/-- Both switches of a pair are off while either is latched (R300). -/
def Fd.doLatched (f : Fd) (n : Nat) : Bool :=
  let b := f.cmdBase n
  (f.outs.toList.zipIdx).any (fun x => f.cmdBase x.2 = b && x.1.latched)

/-- Is output `n` pulsed off by its test (R303)? -/
def Fd.doPulsing (f : Fd) (n : Nat) : Bool :=
  let b := f.cmdBase n
  (f.outs.toList.zipIdx).any (fun x => f.cmdBase x.2 = b && x.1.pulsing)

/-- Is the switch of output `n` on (R299)? -/
def State.doOn (s : State) (n : Nat) : Bool :=
  s.fieldPowered && s.fd.cfgd && !s.fd.doLatched n && !s.fd.doPulsing n && s.fd.doCmd n

/-! ### Digital inputs (R294, R295, R308) -/

/-- N of the filter of input `n`. -/
def Fd.filtN (f : Fd) (n : Nat) : Nat :=
  16 * 2 ^ f.cfg.fget (FLD_DIFILT_n_FILT (n / 8) (n % 8))

/-- The item of input `n` carries quality good: the filter has taken N samples, and the input has
a working front end. -/
def Fd.diGood (f : Fd) (n : Nat) : Bool :=
  f.filtN n ≤ f.taken.toList.getD n 0 && !f.diFault.getLsbD n

/-- The trip inputs in their trip state, lowest first (R308). -/
def Fd.trips (f : Fd) : List Nat :=
  (bitList 32 (f.cfg.fget SAF_DTMASK_MASK)).filter (fun n =>
    f.filt.getLsbD n = bitOf (f.cfg.fget SAF_DTLEVEL_LEVEL) n || !f.diGood n)

/-! ### The brake loop (R304 to R309) -/

/-- The conditions of R305 beside the supplies. -/
def Fd.closeOk (f : Fd) : Bool :=
  f.cfgd && f.img.bl = 3 && f.demandMet && !f.latched && f.loopFault = 0 && !f.safeLatch
    && !f.timedOut

/-- A brake-loop fault: both switches off, FAULT latched (R306). -/
def Fd.loopFail (f : Fd) (code : Nat) : Fd :=
  { f with loop := .fault, loopFault := code, hsOn := false, lsOn := false, extOpen := false }

/-- Apply R305, R308 and R309 to what now holds: a lapsed condition opens both switches at once; a
condition met starts the close sequence. -/
def State.loopEval (s : State) : State :=
  let f := s.fd
  let t := if f.cfgd then f.trips else []
  let f1 : Fd :=
    match t with
    | n :: _ => if f.latched then f else { f with latched := true, first := n, zeroSeen := false }
    | [] => if f.latched && f.zeroSeen then { f with latched := false } else f
  let f2 : Fd :=
    if f1.loop = .fault then f1
    else if f1.closeOk && s.fieldPowered then
      if f1.loop = .opened then { f1 with loop := .closeHs, hsOn := true } else f1
    else { f1 with loop := .opened, hsOn := false, lsOn := false, extOpen := false }
  { s with fd := f2 }

/-- Change the field die and evaluate the loop; nothing happens in a die without supply or
configuration. -/
def State.fdUpd (s : State) (f : Fd → Fd) : State :=
  if s.flogicUp && s.fd.cfgd then ({ s with fd := f s.fd }).loopEval else s

/-- An event of the field die: its FLD_EVT bit travels with the next status frame. -/
def Fd.evt (f : Fd) (b : Nat) : Fd := { f with evts := BitVec.ofNat 10 (setBit f.evts.toNat b true) }

/-! ### Outputs seen by commands (R301) -/

/-- A latched output without retry returns once its commanded value has been seen 0 and then 1. -/
def Fd.relatch (f : Fd) : Fd :=
  { f with outs := f.outs.mapIdx (fun n o =>
      if o.latched && !bitOf (f.cfg.fget FLD_DOOPT_RETRY) (f.cmdBase n) then
        if !f.doCmd n then { o with seenZero := true }
        else if o.seenZero then
          { o with latched := false, seenZero := false, short := false, hot := false }
        else o
      else o) }

/-- An open load is judged anew when its switch changes: DESIGN CHOICE (log entry 74), the spec names no other
end of the state. -/
def Fd.reopen (f g : Fd) : Fd :=
  { g with outs := g.outs.mapIdx (fun n o =>
      if f.doCmd n ≠ g.doCmd n then { o with openLoad := false } else o) }

/-! ### Frames at the field die -/

/-- Take the oldest command frame from the link if it is of the kind that `p` accepts. -/
def State.popField (s : State) (p : LinkFrame → Bool) : Option (LinkFrame × State) :=
  match s.link.toField with
  | [] => none
  | f :: t => if p f then some (f, { s with link := { s.link with toField := t } }) else none

/-- A RESET frame: microcode, configuration, substitutions and latches are dropped (Table 11-1). -/
def State.fieldDrop (s : State) : State := { s with fd := .reset }

/-- What a LOAD leaves (R295, R311): the configuration as received, the substitutions, filters at
0, the brake loop open until it has been seen open. SAFE_LATCH is left to RESET (R292). -/
def Fd.loaded (safeLatch : Bool) (cfg : RegMap) (subs : List (Nat × Nat × Nat)) : Fd :=
  let f := { Fd.reset with cfgd := true, loadOk := true, cfg := cfg, safeLatch := safeLatch }
  subs.foldl (fun f e =>
    if e.1 = 5 then
      { f with spares := vecUpd f.spares e.2.2 (fun p => { p with used := true, input := e.2.1 }) }
    else if e.1 = 6 then
      { f with outs := vecUpd f.outs e.2.1 (fun o => { o with resvUsed := true, off := some e.2.2 }) }
    else f) f

/-- The output image of a frame of a TYPE: 16 bytes that end in their CRC (Table 11-2). -/
def frameImg (type : Nat) (b : List Byte) : Option OutImg :=
  if b.length = 16 && ofLe (b.take 1) = type && ofLe (b.drop 12) = crc32c (b.take 12) then
    some { seq := ofLe ((b.drop 1).take 1), val := BitVec.ofNat 16 (ofLe ((b.drop 2).take 2))
           qg := BitVec.ofNat 16 (ofLe ((b.drop 4).take 2)), bl := BitVec.ofNat 2 (ofLe ((b.drop 6).take 1))
           cyc := BitVec.ofNat 32 (ofLe ((b.drop 8).take 4)) }
  else none

/-- A valid COMMIT or REFRESH frame (R290, R291, R309). -/
def Fd.applyImage (f : Fd) (o : OutImg) : Fd :=
  let f1 := { f with timedOut := false }
  if f.safeLatch then f1
  else
    let f2 := { f1 with img := o, zeroSeen := f1.zeroSeen || (f1.latched && o.bl ≠ 3) }
    (f.reopen f2).relatch

/-- FIELD_RESET_FRAME: the field die takes a RESET frame. -/
def execFieldResetFrame (crcOk : Bool) (s : State) : Out :=
  .next (match s.popField (· = .reset) with
    | some (_, t) => if crcOk && t.flogicUp then t.fieldDrop else t
    | none => s)

/-- FIELD_LOAD_FRAME: the field die takes the LOAD frames of a reload; what fails its CRC is discarded,
and the answer to it does not match (R161, R289). -/
def execFieldLoadFrame (crcOk : Bool) (s : State) : Out :=
  .next (match s.link.toField with
    | .load cfg subs :: t =>
      let s1 := { s with link := { s.link with toField := t } }
      if !s1.flogicUp then s1
      else if crcOk then ({ s1 with fd := Fd.loaded s1.fd.safeLatch cfg subs }).loopEval
      else { s1 with fd := { s1.fd with loadOk := false } }
    | _ => s)

/-- A frame that reaches a configured field die with a good CRC, unless the die treats its link as
silent (R115). -/
def State.fdTake (s : State) (crcOk : Bool) (f : Fd → Fd) : State :=
  s.when (crcOk && !s.fd.oscBad) (fun x => x.fdUpd f)

/-- The field die takes a frame with an output image; `crcOk`: it was not corrupted on its way. -/
def State.fdImage (s : State) (crcOk : Bool) (type : Nat) (b : List Byte) : State :=
  match frameImg type b with
  | some o => s.fdTake crcOk (fun f => f.applyImage o)
  | none => s

/-- FIELD_COMMIT_FRAME: the field die takes a COMMIT frame. -/
def execFieldCommitFrame (crcOk : Bool) (s : State) : Out :=
  .next (match s.link.toField with
    | .commit b :: t => ({ s with link := { s.link with toField := t } }).fdImage crcOk 3 b
    | _ => s)

/-- FIELD_REFRESH_FRAME: the field die takes a REFRESH frame. -/
def execFieldRefreshFrame (crcOk : Bool) (s : State) : Out :=
  .next (match s.link.toField with
    | .refresh b :: t => ({ s with link := { s.link with toField := t } }).fdImage crcOk 4 b
    | _ => s)

/-- FIELD_SAFE_FRAME: SAFE_LATCH is set, also in a die without a configuration, outputs to their safe
state, loop open (R292). -/
def execFieldSafeFrame (crcOk : Bool) (s : State) : Out :=
  .next (match s.popField (· = .safe) with
    | some (_, t) =>
      if crcOk && !t.fd.oscBad && t.flogicUp then
        let g := { t.fd with timedOut := false, safeLatch := true }
        ({ t with fd := (t.fd.reopen g).relatch }).loopEval
      else t
    | none => s)

/-- The field die is timed out on link silence (R14, R291). -/
def State.fieldTimeout (s : State) : State :=
  s.fdUpd (fun f =>
    let g := { f with timedOut := true, toRecord := true }
    (f.reopen g).relatch)

/-- FIELD_LINK_TIMEOUT. -/
def execFieldLinkTimeout (s : State) : Out := .next s.fieldTimeout

/-- FIELD_OSC_MISMATCH: the comparison of the RC oscillator with the bit clock. While they differ by
more than 5 % the link counts as silent (R115). -/
def execFieldOscMismatch (ppm : Nat) (s : State) : Out :=
  let s1 := { s with fd := { s.fd with oscBad := decide (ppm > 50000) } }
  .next (s1.when (ppm > 50000) State.fieldTimeout)

/-! ### Frames from the compute die and status frames -/

/-- REFRESH_SEND_TICK: from the acknowledgement of a reload on, every 50 us (R290, R291). -/
def execRefreshSendTick (s : State) : Out :=
  .next (s.when s.link.acked (fun x => x.linkSend (.refresh (outFrame 4 x.link.img))))

/-- Diagnostics of either switch of a pair are reported on bit 2p (R300). -/
def Fd.diagBits (f : Fd) (p : FdOut → Bool) : Nat :=
  (f.outs.toList.zipIdx).foldl (fun a x => if p x.1 then setBit a (f.cmdBase x.2) true else a) 0

/-- The code of SAF_BLSTAT.STATE. -/
def LoopSt.code : LoopSt → Nat
  | .opened => 0 | .closeHs => 1 | .closeExt => 1 | .closeLs => 1 | .closed => 2
  | .testHs => 3 | .testLs => 4 | .fault => 5

/-- The words of a status frame by register address (Table 11-6). -/
def State.statusWords (s : State) : RegMap :=
  let f := s.fd
  let on := (List.range 16).foldl (fun a n => if s.doOn n then a + 2 ^ n else a) 0
  let w (a v : Nat) (m : RegMap) : RegMap := m.setWord a (BitVec.ofNat 32 v)
  let spares := (f.spares.toList.zipIdx).foldl (fun a x =>
    a + 2 ^ (8 * x.2) * (bitNat x.1.bad * 128 + bitNat x.1.used * 64 + x.1.input % 32)) 0
  (w 0x40040010 f.filt.toNat <| w 0x40040014 f.raw.toNat <| w 0x40040030 spares
    <| w 0x40040034 f.diFault.toNat
    <| w 0x40040048 (f.diagBits (·.latched) * 65536 + on)
    <| w 0x4004004C (f.diagBits (·.short) * 65536 + f.diagBits (·.openLoad))
    <| w 0x40040050 (f.diagBits (·.stuck) * 65536 + f.diagBits (·.hot))
    <| w 0x40040054 (f.diagBits (·.drift2) * 65536 + f.diagBits (·.resvUsed))
    <| w 0x40040060 (ofSigned 16 f.temp * 65536 + f.mv % 65536)
    <| w 0x400E0104 (f.loopFault * 256 + bitNat f.extOpen * 32 + bitNat f.latched * 16
        + bitNat f.demandMet * 8 + f.loop.code)
    <| w 0x400E0110 (bitNat f.latched * 2 ^ 31 + f.first) [])

/-- Is segment `g` active: not turned off, nor being turned off, and for the reserve brought in (R302)? -/
def FdOut.active (o : FdOut) (g : Nat) : Bool :=
  o.off ≠ some g && o.handover ≠ some g && (g < 3 || (g = 3 && o.resvUsed))

/-- The on-resistance comparison of one output in one status frame (R302). `segs`: its segments
above the level. -/
def driftOne (segs : List Nat) (o : FdOut) : FdOut × Option Nat × Bool :=
  let cnt (g : Nat) : Nat :=
    match o.drift.find? (fun p => p.1 = g) with
    | some p => p.2
    | none => 0
  let d := (segs.filter o.active).map (fun g => (g, min (cnt g + 1) 16))
  match d.find? (fun p => p.2 ≥ 16) with
  | none => ({ o with drift := d }, none, false)
  | some p =>
    if o.resvUsed then ({ o with drift := d, drift2 := true }, none, !o.drift2)
    else ({ o with drift := d.filter (fun q => q.1 ≠ p.1), resvUsed := true
                   handover := some p.1 }, some p.1, false)

/-- The comparisons of every output that is on and carries 100 mA; the others make none. -/
def State.driftAll (s : State) (cmp : BitVec 16) (dr : List (Nat × Nat)) : State :=
  (List.range 16).foldl (fun x n =>
    if x.doOn n && cmp.getLsbD n then
      let segs := (dr.filter (fun p => p.1 = n)).map (fun p => p.2)
      let r := driftOne segs (x.fd.outs.toList.getD n .reset)
      let f1 := { x.fd with outs := vecUpd x.fd.outs n (fun _ => r.1) }
      let f2 := match r.2.1 with
        | some g => { f1.evt 4 with subs := f1.subs ++ [(6, n, g)] }
        | none => f1
      { x with fd := if r.2.2 then f2.evt 5 else f2 }
    else x) s

/-- STATUS_FRAME_TICK: every 62.5 us the field die measures, compares and sends a status frame
(R293, R302, R310). -/
def execStatusFrameTick (m : FieldMeas) (s : State) : Out :=
  .next (if s.flogicUp && s.fd.cfgd && !s.fd.oscBad then
    let s1 := ({ s with fd := { s.fd with mv := m.mv, temp := m.tempDc } }).driftAll m.compared m.drift
    let good := (List.range 32).foldl (fun a n => if s1.fd.diGood n then a + 2 ^ n else a) 0
    let fr : StatusFrame :=
      { words := s1.statusWords, diGood := BitVec.ofNat 32 good, timeout := s1.fd.toRecord
        safeLatch := s1.fd.safeLatch, evts := s1.fd.evts, subs := s1.fd.subs }
    { s1 with link := { s1.link with toComp := s1.link.toComp ++ [fr] }
              fd := { s1.fd with evts := 0 } }
  else s)

/-- The compute die takes a reported substitution: the wear log entry, unless it has it already, and
the exhaustion entry when the last spare of its kind has been used (R28, R30, R297, R302). -/
def State.fieldSubst (s : State) (e : Nat × Nat × Nat) : State :=
  if s.wear.file.any (fun x => x.kind = e.1 && x.unit = e.2.1 && x.detail = e.2.2) then s
  else
    let s1 := s.wearLog e.1 e.2.1 e.2.2
    let used := (s1.wear.file.filter (fun x => x.kind = e.1)).length
    s1.when (used = (if e.1 = 5 then 4 else 16)) (fun x => x.spareExhausted e.1)

/-- STATUS_FRAME_RECEIVED: a valid frame goes into the field-die receive bank and shows in the
registers; an invalid one counts in CRCERR (R293, Table 11-5). -/
def execStatusFrameReceived (crcOk : Bool) (s : State) : Out :=
  .next (match s.link.toComp with
    | [] => s
    | fr :: t =>
      let s1 := { s with link := { s.link with toComp := t } }
      if s1.clk.hold || s1.rst.active then s1
      else if !crcOk then s1.bump FLD_STAT_CRCERR
      else
        let regs := [0x40040010, 0x40040014, 0x40040030, 0x40040034, 0x40040048, 0x4004004C,
          0x40040050, 0x40040054, 0x40040060, 0x400E0104, 0x400E0110].foldl
            (fun m a => m.setWord a (fr.words.word a)) s1.regs
        let s2 := { s1 with regs := regs, link := { s1.link with rx := some fr } }
        let s3 := (s2.show FLD_STAT_TIMEOUT fr.timeout).show FLD_STAT_SAFE_LATCH fr.safeLatch
        let s4 := (bitList 10 fr.evts.toNat).foldl (fun x b => x.raise ⟨0x40040004, b, 1⟩) s3
        fr.subs.foldl State.fieldSubst s4)

/-- The compute die declares a barrier-link failure (R293): the safe state with a safety function
configured; otherwise the field inputs carry quality bad and the field die is reloaded. -/
def State.linkFailure (s : State) : State :=
  let s1 := ((s.fset FLD_STAT_LINK 3).raise FLD_EVT_LINK_FAIL).lower FLD_STAT_CFG_OK
  let s2 := { s1 with link := { s1.link with acked := false } }
  let s3 := s2.when (s2.inService && s2.safetyCfg) (fun x => x.safeEnter 8)
  s3.evalSets

/-- BARRIER_LINK_FAILURE: no valid status frame for 500 us. In service it is declared also after a reload
that was not answered, or a loss of VFL. -/
def execBarrierLinkFailure (s : State) : Out :=
  .next (s.when (s.fget FLD_STAT_LINK = 2 || (s.inService && s.fget FLD_STAT_LINK ≠ 3)) State.linkFailure)

/-! ### Input filters and front ends -/

/-- INPUT_FILTER_SAMPLE: each filter takes its sample (R294). -/
def execInputFilterSample (raw : BitVec 32) (s : State) : Out :=
  .next (s.fdUpd (fun f =>
    let cnt := f.cnt.mapIdx (fun n c =>
      if f.holdInput = some n then c
      else if raw.getLsbD n then min (c + 1) (f.filtN n) else c - 1)
    let filt := (List.range 32).foldl (fun a n =>
      let c := cnt.toList.getD n 0
      let b := if c = 0 then false else if c ≥ f.filtN n then true else f.filt.getLsbD n
      if b then a + 2 ^ n else a) 0
    { f with cnt := cnt, raw := raw, filt := BitVec.ofNat 32 filt, holdInput := none
             taken := f.taken.mapIdx (fun n t =>
               if f.holdInput = some n then t else min (t + 1) (f.filtN n)) }))

/-- The carrier of a test: the lowest-numbered spare that is neither substituted nor BAD, beside
the one under test (R296, R298). -/
def Fd.carrier (f : Fd) (but : Option Nat) : Option Nat :=
  (List.range 4).find? (fun k =>
    some k ≠ but &&
      match f.spares.toList[k]? with
      | some p => !p.used && !p.bad
      | none => false)

/-- The pin of input `i` is left to `c` (R297). `old`: the spare that carried it before. -/
def Fd.substitute (f : Fd) (i : Nat) (old : Option Nat) (c : Nat) : Fd :=
  let sp1 := match old with
    | some k => vecUpd f.spares k (fun p => { p with used := false, bad := true })
    | none => f.spares
  let sp2 := vecUpd sp1 c (fun p => { p with used := true, input := i, fails := 0 })
  ({ f with spares := sp2, subs := f.subs ++ [(5, i, c)] }).evt 1

/-- The counted test of a front end that carries input `i`: `fails` so far, `bad` the outcome. -/
def Fd.testInput (f : Fd) (i : Nat) (old : Option Nat) (car : Option Nat) (fails : Nat)
    (bad : Bool) : Fd :=
  let n := if bad then fails + 1 else 0
  let f1 := match old with
    | none => { f with feFails := vecUpd f.feFails i (fun _ => n) }
    | some k => { f with spares := vecUpd f.spares k (fun p => { p with fails := n }) }
  let f2 := { f1 with holdInput := if car.isNone then some i else f1.holdInput }
  if n < 2 then f2
  else match car with
    | some c => f2.substitute i old c
    | none =>
      if f2.diFault.getLsbD i then f2
      else ({ f2 with diFault := f2.diFault ||| BitVec.ofNat 32 (2 ^ i) }).evt 2

/-- An idle spare that misreads its internal levels is BAD (R297). -/
def Fd.spareBad (f : Fd) (k : Nat) : Fd :=
  if (match f.spares.toList[k]? with
      | some p => p.bad
      | none => true) then f
  else ({ f with spares := vecUpd f.spares k (fun q => { q with bad := true }) }).evt 3

/-- One front-end test (R296 to R298). -/
def Fd.feTest (f : Fd) (r : FeResult) : Fd :=
  let k := f.testIdx
  let f0 := { f with testIdx := (k + 1) % 36 }
  let input (i : Nat) (old : Option Nat) (fails : Nat) : Fd :=
    match f0.carrier old with
    | some c =>
      if !r.carrierOk then f0.spareBad c
      else f0.testInput i old (some c) fails (!r.primaryOk || !r.compareOk)
    | none => f0.testInput i old none fails (!r.primaryOk)
  if k < 32 then
    if f.spares.toList.any (fun p => p.used && p.input = k) then f0
    else input k none (f.feFails.toList.getD k 0)
  else
    match f.spares.toList[k - 32]? with
    | none => f0
    | some p =>
      if p.used then input p.input (some (k - 32)) p.fails
      else if r.primaryOk then f0
      else f0.spareBad (k - 32)

/-- FRONT_END_TEST: every 25 ms one front end is tested. -/
def execFrontEndTest (r : FeResult) (s : State) : Out := .next (s.fdUpd (fun f => f.feTest r))

/-! ### Output diagnostics and tests -/

/-- Change output `n`. -/
def Fd.outUpd (f : Fd) (n : Nat) (g : FdOut → FdOut) : Fd := { f with outs := vecUpd f.outs n g }

/-- OUTPUT_SHORT: the switch is off at once (R301). -/
def execOutputShort (n : BitVec 4) (s : State) : Out :=
  .next (s.when (s.doOn n.toNat) (fun x => x.fdUpd (fun f =>
    (f.outUpd n.toNat (fun o => { o with short := true, latched := true, seenZero := false })).evt 6)))

/-- OUTPUT_OVERTEMP: the switch is off at once (R301). -/
def execOutputOvertemp (n : BitVec 4) (s : State) : Out :=
  .next (s.fdUpd (fun f =>
    (f.outUpd n.toNat (fun o => { o with hot := true, latched := true, seenZero := false })).evt 8))

/-- OUTPUT_OPEN_LOAD: reported only (R301). -/
def execOutputOpenLoad (n : BitVec 4) (s : State) : Out :=
  .next (s.fdUpd (fun f => (f.outUpd n.toNat (fun o => { o with openLoad := true })).evt 7))

/-- OUTPUT_RETRY_EXPIRY: with RETRY = 1 the switch is tried again after 100 ms, and after cooling
for over-temperature (R301). -/
def execOutputRetryExpiry (n : BitVec 4) (cooled : Bool) (s : State) : Out :=
  .next (s.fdUpd (fun f =>
    if bitOf (f.cfg.fget FLD_DOOPT_RETRY) (f.cmdBase n.toNat) then
      f.outUpd n.toNat (fun o =>
        if o.latched && (!o.hot || cooled) then
          { o with latched := false, short := false, hot := false, seenZero := false }
        else o)
    else f))

/-- SEGMENT_HANDOVER_EXPIRY: 10 us after the reserve, the drifted segment is off (R302). -/
def execSegmentHandoverExpiry (n : BitVec 4) (s : State) : Out :=
  .next (s.fdUpd (fun f => f.outUpd n.toNat (fun o =>
    match o.handover with
    | some g => { o with handover := none, off := some g }
    | none => o)))

/-- OUTPUT_TEST_PULSE: the output's place in the interval (R303). -/
def execOutputTestPulse (n : BitVec 4) (s : State) : Out :=
  .next (s.fdUpd (fun f =>
    if bitOf (f.cfg.fget FLD_DOOPT_TEST) n.toNat && f.cmdBase n.toNat = n.toNat
        && s.doOn n.toNat && f.loop ≠ .testHs && f.loop ≠ .testLs then
      f.outUpd n.toNat (fun o => { o with pulsing := true })
    else f))

/-- OUTPUT_TEST_PULSE_END: an output that did not fall is STUCK and opens the brake loop (R303). -/
def execOutputTestPulseEnd (n : BitVec 4) (fell : Bool) (s : State) : Out :=
  .next (s.fdUpd (fun f =>
    if (f.outs.toList.getD n.toNat .reset).pulsing then
      let f1 := f.outUpd n.toNat (fun o => { o with pulsing := false })
      if fell then f1
      else ((f1.outUpd n.toNat (fun o => { o with stuck := true })).evt 9).loopFail 6
    else f))

/-! ### Brake-loop events -/

/-- BRAKE_LOOP_DEMAND_MET: both switches off and the sense low for 10 ms (R304). -/
def execBrakeLoopDemandMet (s : State) : Out :=
  .next (s.fdUpd (fun f => if f.hsOn || f.lsOn then f else { f with demandMet := true }))

/-- BL_HS_SENSE_HIGH: step 2 of the close sequence reads BL_LS_SENSE (R305). -/
def execBlHsSenseHigh (lsHigh : Bool) (s : State) : Out :=
  .next (s.fdUpd (fun f =>
    if f.loop = .closeHs then
      if lsHigh then { f with loop := .closeLs, lsOn := true }
      else { f with loop := .closeExt, extOpen := true }
    else f))

/-- BL_HS_SENSE_TIMEOUT: the high side fails to close (R305). -/
def execBlHsSenseTimeout (s : State) : Out :=
  .next (s.fdUpd (fun f => if f.loop = .closeHs then f.loopFail 3 else f))

/-- BL_LS_SENSE_HIGH: the loop is whole outside; the low side closes (R305). -/
def execBlLsSenseHigh (s : State) : Out :=
  .next (s.fdUpd (fun f =>
    if f.loop = .closeExt then { f with loop := .closeLs, lsOn := true, extOpen := false } else f))

/-- BL_LS_SENSE_LOW: the loop is CLOSED (R305). -/
def execBlLsSenseLow (s : State) : Out :=
  .next (s.fdUpd (fun f => if f.loop = .closeLs then { f with loop := .closed } else f))

/-- BL_LS_SENSE_TIMEOUT: the low side fails to close (R305). -/
def execBlLsSenseTimeout (s : State) : Out :=
  .next (s.fdUpd (fun f => if f.loop = .closeLs then f.loopFail 4 else f))

/-- BRAKE_LOOP_TEST_PULSE: one switch of a closed loop is turned off for PULSE, the sides in
turn (R307). -/
def execBrakeLoopTestPulse (s : State) : Out :=
  .next (s.fdUpd (fun f =>
    if f.loop = .closed then
      if f.testLsNext then { f with loop := .testLs, lsOn := false }
      else { f with loop := .testHs, hsOn := false }
    else f))

/-- BRAKE_LOOP_TEST_END: the sense answered within the pulse, or the switch is stuck on and the
other one is opened (R307). -/
def execBrakeLoopTestEnd (senseOk : Bool) (s : State) : Out :=
  .next (s.fdUpd (fun f =>
    match f.loop with
    | .testHs => if senseOk then { f with loop := .closed, hsOn := true, testLsNext := true }
                 else f.loopFail 1
    | .testLs => if senseOk then { f with loop := .closed, lsOn := true, testLsNext := false }
                 else f.loopFail 2
    | _ => f))

end Sys2Proof.Machine
end

