-- ==== Sys2Proof/Machine/Power.lean ====
section
/-! DEFINITION. Sys2Proof/Machine/Power.lean: the supply monitors, power-up, the backup domain and
switching paddocks off (chapter 03). -/

namespace Sys2Proof.Machine

/-! ### Monitors -/

/-- The PWR_MON.OK bit of a rail; the monitors of VBKUP and of FVS_HIGH have none (Table 03-7). -/
def railOkBit : Rail → Option Nat
  | .vddAon => some 0 | .vddPll => some 1 | .vddCore => some 2 | .vddIoa => some 3
  | .vddIob => some 4 | .vddSer => some 5 | .vfl => some 6 | .fvs => some 7
  | .vbkup => none | .vbkWarn => none | .fvsHigh => none

/-- The state with the level of a rail's monitor. -/
def State.setOk (s : State) (r : Rail) (b : Bool) : State :=
  match railOkBit r with
  | some n =>
    { s with phys := { s.phys with ok := BitVec.ofNat 8 (setBit s.phys.ok.toNat n b) } }
  | none => s

/-- The six compute monitors have released (R63). -/
def State.railsGood (s : State) : Bool := s.phys.ok.toNat % 64 = 63

/-- A compute brown-out: BROWNOUT with BO_RAIL of the first rail of the episode. -/
def State.brownout (s : State) (r : Rail) (code : Nat) : State :=
  let s1 := s.assertDevice (.brownout r) (r = .vddAon)
  s1.when (s1.fget SYS_RSTCAUSE_BO_RAIL = 0xF) (fun x => x.fset SYS_RSTCAUSE_BO_RAIL code)

/-- VFL fails: FLOGIC is in reset, nothing on the link arrives (Table 03-2). -/
def State.vflLost (s : State) : State :=
  let s1 := ((s.raise PWR_EVT_VFL_BO).fset (pstat .flogic) 0).fset FLD_STAT_LINK 0
  let s2 := s1.lower FLD_STAT_CFG_OK
  { s2 with fd := .reset
            link := { s2.link with toField := [], toComp := [], acked := false, rx := none } }

/-- BKUP runs from VBKUP: below the loss level its content is lost (R69). -/
def State.toVbk (s : State) : State :=
  { s with phys := { s.phys with onVbk := true }
           bkup := { s.bkup with lost := s.bkup.lost || s.phys.vbkDown } }

/-- SUPPLY_MONITOR_TRIP (R59, R60, Table 03-2). `vbkup`: the loss level of VBKUP; `vbkWarn`: its
warning level; `fvsHigh`: FVS above 36.0 V. -/
def execSupplyMonitorTrip (r : Rail) (s : State) : Out :=
  let s1 := s.setOk r false
  .next (match r with
    | .vddAon => s1.toVbk.brownout r 0
    | .vddPll => s1.brownout r 1
    | .vddCore => s1.brownout r 2
    | .vddIoa => s1.brownout r 3
    | .vddIob => ((s1.raise PWR_EVT_IOB_BO).localBegin 0x0B .brownout).evalSets
    | .vddSer => ((s1.raise PWR_EVT_SER_BO).localBegin 0x0C .brownout).evalSets
    | .vfl => s1.vflLost.evalSets
    | .fvs =>
      (((s1.raise PWR_EVT_FVS_LOW).fset (pstat .fpower) 0).loopEval).evalSets
    | .vbkup =>
      let s2 := { s1 with phys := { s1.phys with vbkDown := true } }
      if s2.phys.onVbk then s2.toVbk else s2
    | .vbkWarn => { s1.raise PWR_EVT_VBK_LOW with phys := { s1.phys with vbkLow := true } }
    | .fvsHigh => { s1.raise PWR_EVT_FVS_HIGH with phys := { s1.phys with fvsHigh := true } })

/-- The whole of BKUP is cleared after a loss (R69); the episode in progress keeps the cause that
it is recording. -/
def State.bkupClear (s : State) : State :=
  if s.bkup.lost then
    let s1 := (((s.fset SYS_RSTCNT_COUNT 0).lower SYS_RSTSTAT_RSTCNT_REPAIRED).fset
      CLK_FCAUSE_CODE 0).memClear 0xF0000000 0x4000
    { s1.raise PWR_BKSTAT_BKUP_LOST with
        bkup := { rstcntM := 0, causePrev := 0, lastCycLo := 0, lastCycHi := 0, lastTime := 0
                  stampValid := false, rtc := 0, app := Vector.replicate 16 0, pendSafe := 0
                  lost := false } }
  else s

/-- FIELD_WAIT stands while start-up waits for the field die's supplies (R65). -/
def State.fieldWaitEnd (s : State) : State :=
  s.when (s.fget BOOT_STAT_PHASE = 6 && s.flogicUp && s.fpowerUp && s.fget FLD_STAT_LINK ≠ 3)
    (fun x => x.lower BOOT_STAT_FIELD_WAIT)

/-- The field die starts when VFL is good, unless the application has switched FLOGIC off, and waits
for its reload (R65, R73). Start-up's reload follows where the die was absent at its time. -/
def State.fieldStart (s : State) : State :=
  let s1 := s.setOk .vfl true
  if s1.flag (preq .flogic) then s1
  else
    let s2 := { s1.fset (pstat .flogic) 2 with fd := .reset }
    (s2.when (s2.fget BOOT_STAT_PHASE = 6 && s2.fget FLD_STAT_LINK = 0) State.fieldReload).fieldWaitEnd

/-- FVS is good: FPOWER is present, unless the application has switched it off (R73). -/
def State.fpowerStart (s : State) : State :=
  (s.when (!s.flag (preq .fpower)) (fun x => x.fset (pstat .fpower) 2)).fieldWaitEnd

/-- SUPPLY_MONITOR_RELEASE: the rail's source releases (R59, R82). When VDD_AON is good again, the
power-on source holds the device until power good (R63, R76). -/
def execSupplyMonitorRelease (r : Rail) (st : Straps) (s : State) : Out :=
  let s1 := s.setOk r true
  let group (x : State) : State :=
    if x.phys.ok.getLsbD 4 && x.phys.ok.getLsbD 5 then x.localReleased .brownout else x
  .next (match r with
    | .vddAon =>
      let s2 := { s1 with phys := { s1.phys with onVbk := false } }
      (s2.assertDevice .por true).releaseSource (.brownout r) st
    | .vddPll => s1.releaseSource (.brownout r) st
    | .vddCore => s1.releaseSource (.brownout r) st
    | .vddIoa => s1.releaseSource (.brownout r) st
    | .vddIob => group s1
    | .vddSer => group s1
    | .vfl => s1.fieldStart
    | .fvs => s1.fpowerStart
    | .vbkup => { s1 with phys := { s1.phys with vbkDown := false } }
    | .vbkWarn => { s1 with phys := { s1.phys with vbkLow := false } }
    | .fvsHigh => { s1 with phys := { s1.phys with fvsHigh := false } })

/-- OVERVOLTAGE_EVENT: the event and the extreme, no reset (Table 03-2, R474). -/
def execOvervoltageEvent (r : Rail) (mv : Nat) (s : State) : Out :=
  .next (match r with
    | .fvs =>
      let s1 := { s.raise PWR_EVT_FVS_HIGH with phys := { s.phys with fvsHigh := true } }
      s1.when (s1.flag REC_CFG_EN) (fun x => x.extMax 2 mv 0)
    | .vfl => s
    | .vbkup => s
    | .vbkWarn => s
    | .fvsHigh => s
    | .vddCore =>
      (s.raise PWR_EVT_OV).when (s.flag REC_CFG_EN) (fun x => x.extMax 6 mv 0)
    | .vddAon => s.raise PWR_EVT_OV
    | .vddPll => s.raise PWR_EVT_OV
    | .vddIoa => s.raise PWR_EVT_OV
    | .vddIob => s.raise PWR_EVT_OV
    | .vddSer => s.raise PWR_EVT_OV)

/-- CORE_WARN: the stamps, STAMP_VALID last (R66, R100). -/
def execCoreWarn (s : State) : Out :=
  .next { s.raise PWR_EVT_CORE_WARN with
    bkup := { s.bkup with
      lastCycLo := BitVec.ofNat 32 s.cyc.count.toNat
      lastCycHi := BitVec.ofNat 32 (s.cyc.count.toNat / 2 ^ 32)
      lastTime := BitVec.ofNat 32 s.now.trainNs, stampValid := true } }

/-- VBK_LOW: VBKUP below 2.2 V. -/
def execVbkLow (s : State) : Out :=
  .next { s.raise PWR_EVT_VBK_LOW with phys := { s.phys with vbkLow := true } }

/-- BKUP_CHANGEOVER: BKUP runs from VDD_AON while its monitor reports it good (R58). -/
def execBkupChangeover (s : State) : Out :=
  .next (if s.phys.ok.getLsbD 0 then { s with phys := { s.phys with onVbk := false } } else s.toVbk)

/-! ### Power-up -/

/-- Power good: a loss of BKUP is made good, before the episode is counted; the time to the first cycle
counts from here, and the POR source releases (R63, R69, R98). -/
def State.powerGood (s : State) (st : Straps) : State :=
  let s1 := s.bkupClear
  if s1.rst.sources.contains .por then
    ({ s1 with rst := { s1.rst with porSeen := true }
               now := { s1.now with epNs := 0 } }).releaseSource .por st
  else s1

/-- POWER_GOOD: the monitors of R63 have all released. -/
def execPowerGood (st : Straps) (s : State) : Out :=
  .next (s.when s.railsGood (fun x => x.powerGood st))

/-- The sequencer goes on to the next paddock of its list (R64). -/
def State.rampNext (s : State) : State :=
  ({ s with pwr := { s.pwr with ramp := s.pwr.ramp.tail } }).rampHead.releaseAdvance

/-- The islands of a paddock with its paddock gate, by their gate codes (Table 05-4). -/
def paddockGates (p : Paddock) : List Nat :=
  match p with
  | .coreA => [0x02] | .coreB => [0x03] | .coreC => [0x04] | .coreD => [0x05]
  | .common => [0x06, 0x07, 0x08, 0x09]
  | .net => [0x0A, 0x0B, 0x0C]
  | .bus => [0x0D, 0x0E, 0x0F, 0x10, 0x48]
  | .signal => [0x11, 0x49]
  | .bkup => [] | .aon => [] | .flogic => [] | .fpower => []

/-- The paddock is on and its clocks run. DESIGN CHOICE (log entry 111): its gates are open then. -/
def State.paddockOn (s : State) (p : Paddock) : State :=
  (paddockGates p).foldl (fun x c => x.raise (gateF c)) (s.fset (pstat p) 2)

/-- A paddock that the application switched on has power (R73): its units reload. The field die starts
and reloads; FPOWER needs no reload. -/
def State.appOn (s : State) (p : Paddock) : State :=
  match p with
  | .flogic => if s.phys.ok.getLsbD 6 then ({ s.fset (pstat p) 2 with fd := .reset }).fieldReload
               else s.fset (pstat p) 0
  | .fpower => s.fset (pstat p) (if s.phys.ok.getLsbD 7 then 2 else 0)
  | _ =>
    let s1 := (s.paddockOn p).when (s.flag (preq p)) (fun x => x.fset (pstat p) 3)
    { s1 with pwr := { s1.pwr with reload := s1.pwr.reload ++ [p] } }

/-- PADDOCK_POWER_GOOD: the paddock whose switch is closed is on (R64, R73). Its power-on source
releases (Table 04-2). -/
def execPaddockPowerGood (s : State) : Out :=
  .next (match s.pwr.ramp with
    | p :: _ => (s.paddockOn p).rampNext
    | [] =>
      match s.pwr.appRamp with
      | p :: t =>
        (({ s with pwr := { s.pwr with appRamp := t } }).appOn p).localReleased .powerOn
      | [] => s)

/-- PADDOCK_POWER_TIMEOUT: no power good within 500 us: the paddock stays off, marked FAULT. -/
def execPaddockPowerTimeout (s : State) : Out :=
  .next (match s.pwr.ramp with
    | p :: _ => ((s.fset (pstat p) 0).raise (pfault p)).rampNext
    | [] =>
      match s.pwr.appRamp with
      | p :: t =>
        let s1 := (s.fset (pstat p) 0).when (p ≠ .flogic ∧ p ≠ .fpower) (fun x => x.raise (pfault p))
        { s1 with pwr := { s1.pwr with
            appRamp := t, drain20 := s1.pwr.drain20.filter (· ≠ p), offAt := s1.pwr.offAt.filter (· ≠ p) } }
      | [] => s)

/-- FIELD_DIE_POWER_ON: VFL has risen above its power-on level (R65). -/
def execFieldDiePowerOn (s : State) : Out := .next s.fieldStart

/-- RTC_TICK: only while VDD_AON is good, from the selected system reference (R68, R101). -/
def execRtcTick (s : State) : Out :=
  .next (if s.phys.ok.getLsbD 0 && s.fget CLK_STAT_SRC ≠ 0 && !s.clk.hold then
    { s with bkup := { s.bkup with rtc := s.bkup.rtc + 1 } } else s)

/-! ### Switching paddocks off (R70 to R73) -/

/-- No session, PTP or pair heartbeat of the active set uses NET (Table 01-2); the heartbeat does with
EN and ETH_EN (R439). -/
def State.netUnused (s : State) : Bool :=
  leAt (s.boot.act.sect 5 0) 6 2 = 0 && s.fget TIM_CFG_MODE ≠ 1
    && !(s.flag PAIR_CFG_EN && s.flag PAIR_CFG_ETH_EN)

/-- No unit of BUS is configured by the active set. -/
def State.busUnused (s : State) : Bool :=
  (List.range 4).all (fun n => s.fget (CAN_n_CFG_MODE n) = 0) && s.fget DRV_CFG_EN = 0
    && s.fget FLK_CFG_EN = 0 && s.fget PAIR_CFG_EN = 0

/-- No channel of SIGNAL is configured. -/
def State.signalUnused (s : State) : Bool :=
  (List.range 12).all (fun n => s.fget (SIG_CH_n_CFG_EN n) = 0)

/-- Table 03-3: may the paddock be switched off now? -/
def State.offPermitted (s : State) (p : Paddock) : Bool :=
  match p with
  | .bkup => false
  | .aon => false
  | .common => false
  | .net => s.netUnused
  | .bus => s.busUnused
  | .signal => s.signalUnused
  | .flogic => !s.safetyCfg
  | .fpower => !s.safetyCfg
  | .coreA => !s.retired .a && s.laneOn .a = none && s.mode ≠ 0
  | .coreB => !s.retired .b && s.laneOn .b = none && s.mode ≠ 0
  | .coreC => !s.retired .c && s.laneOn .c = none && s.mode ≠ 0
  | .coreD => !s.retired .d && s.laneOn .d = none && s.mode ≠ 0

/-- Has the paddock a request bit (R70)? -/
def hasReq : Paddock → Bool
  | .bkup => false | .aon => false | .common => false
  | _ => true

/-- A write of 1 to a request bit (R70, R72). A paddock that is OFF stays so with the bit set; one in
DRAIN goes on draining. -/
def State.reqOff (s : State) (p : Paddock) : State :=
  if !(hasReq p) || !s.offPermitted p then s.answer .target
  else
    let s1 := (s.raise (preq p)).answer .okay
    if s.fget (pstat p) = 0 || s.fget (pstat p) = 3 then s1
    else
      let s2 := s1.fset (pstat p) 3
      if p = .net ∨ p = .bus then
        { s2 with pwr := { s2.pwr with drain20 := s2.pwr.drain20 ++ [p] } }
      else { s2 with pwr := { s2.pwr with offAt := s2.pwr.offAt ++ [p] } }

/-- Is the supply of a paddock present? The field paddocks have their own (Table 03-1). -/
def State.supplied (s : State) (p : Paddock) : Bool :=
  match p with
  | .flogic => s.phys.ok.getLsbD 6
  | .fpower => s.phys.ok.getLsbD 7
  | _ => true

/-- The state of a paddock whose switch-off is cancelled or abandoned: ON, RAMP while its switch still
closes, OFF where its supply is gone. -/
def State.goesOn (s : State) (p : Paddock) : State :=
  s.fset (pstat p) (if !s.supplied p then 0 else if s.pwr.appRamp.contains p then 1 else 2)

/-- A write of 0 to the request bit of a paddock in DRAIN (R73). -/
def State.reqCancel (s : State) (p : Paddock) : State :=
  if s.fget (pstat p) = 3 then
    let s1 := (s.lower (preq p)).goesOn p
    ({ s1 with pwr := { s1.pwr with drain20 := s1.pwr.drain20.filter (· ≠ p)
                                    offAt := s1.pwr.offAt.filter (· ≠ p) } }).answer .okay
  else s.answer .okay

/-- A write of 0 to the request bit of a paddock that is OFF (R71, R73): it goes through RAMP to ON.
A field paddock without its supply stays OFF until its monitor releases. -/
def State.reqOn (s : State) (p : Paddock) : State :=
  let retiredCore := match p.core with
    | some k => s.retired k
    | none => false
  if retiredCore || !(hasReq p) then s.answer .target
  else
    let s1 := (s.lower (preq p)).answer .okay
    if s.fget (pstat p) ≠ 0 || !s.supplied p then s1
    else
      let s2 := s1.fset (pstat p) 1
      { s2 with pwr := { s2.pwr with appRamp := s2.pwr.appRamp ++ [p] } }

/-- The paddocks with a request bit. -/
def reqPaddocks : List Paddock :=
  [.coreA, .coreB, .coreC, .coreD, .net, .bus, .signal, .flogic, .fpower]

/-- The request that the new value of a bit makes. A 0 for a paddock that is neither OFF nor in DRAIN,
and a 1 for a bit that is set, ask for nothing. -/
def State.reqBit (s : State) (p : Paddock) (b : Bool) : State :=
  if b then (if s.flag (preq p) then s.answer .okay else s.reqOff p)
  else if s.fget (pstat p) = 3 then s.reqCancel p
  else if s.fget (pstat p) = 0 || s.flag (preq p) then s.reqOn p
  else s.answer .okay

/-- A write of the whole of PWR_REQ: a write that asks for anything refused changes nothing and is
answered with an error (R11, R70, R71). -/
def State.writePwrReq (s : State) (v : Nat) : State :=
  if reqPaddocks.any (fun p => (s.reqBit p (bitOf v p.index)).resp = .target) then s.answer .target
  else reqPaddocks.foldl (fun x p => x.reqBit p (bitOf v p.index)) (s.answer .okay)

/-- PWR_REQ_SWITCH_OFF. -/
def execPwrReqSwitchOff (p : Paddock) (s : State) : Out := .next (s.reqOff p)

/-- PWR_REQ_CANCEL. -/
def execPwrReqCancel (p : Paddock) (s : State) : Out := .next (s.reqCancel p)

/-- PWR_REQ_SWITCH_ON. -/
def execPwrReqSwitchOn (p : Paddock) (s : State) : Out := .next (s.reqOn p)

/-- The units of a paddock by their codes of Table 04-4. -/
def paddockUnits (p : Paddock) : List Nat :=
  match p with
  | .net => targetUnits 0x07 | .bus => targetUnits 0x08 | .signal => targetUnits 0x09
  | _ => []

/-- PADDOCK_RELOAD_DONE: the units have their configuration from the active set and take part from
the next boundary (R73). -/
def execPaddockReloadDone (p : Paddock) (s : State) : Out :=
  .next (if s.pwr.reload.contains p then
    let s1 := (paddockUnits p).foldl (fun x u => x.unitReload u) s
    { s1 with pwr := { s1.pwr with reload := s1.pwr.reload.filter (· ≠ p)
                                   join := s1.pwr.join ++ [p] } }
  else s)

/-- PLANNED_DRAIN_EXPIRY: the 20 ms of R56 end before a switch-off or a local reset. -/
def execPlannedDrainExpiry (k : DrainKey) (s : State) : Out :=
  .next (match k with
    | .switchOff p =>
      if s.pwr.drain20.contains p then
        { s with pwr := { s.pwr with drain20 := s.pwr.drain20.filter (· ≠ p)
                                     offAt := s.pwr.offAt ++ [p] } }
      else s
    | .localReset t =>
      match s.rst.locals.find? (fun e => e.target = t && e.phase = .drain) with
      | some e => (s.localAbsorb e .software).evalSets
      | none => s)

/-- A close that waits for its handshake ends where its paddock is switched off (R120). -/
def State.gateEnd (s : State) (p : Paddock) : State :=
  s.when (s.flag CLK_GSTAT_PENDING && (paddockGates p).contains (s.fget CLK_GSTAT_CODE))
    (fun x => (x.lower CLK_GSTAT_PENDING).fset CLK_GSTAT_RESULT 1)

/-- Close a paddock's wrapper, gate its clocks and open its switch (R72, R120). The scrub of a core's
bank begins anew when the core is on again (R135). -/
def State.paddockOff (s : State) (p : Paddock) : State :=
  let s1 := (paddockUnits p).foldl (fun x u => (x.localAssert u).1) s
  let s2 := (paddockGates p).foldl (fun x c => x.lower (gateF c)) (s1.gateEnd p)
  let drop (l : List Paddock) : List Paddock := l.filter (· ≠ p)
  let s3 := { s2.fset (pstat p) 0 with pwr := { s2.pwr with
    appRamp := drop s2.pwr.appRamp, reload := drop s2.pwr.reload, join := drop s2.pwr.join } }
  match p with
  | .flogic =>
    { (s3.fset FLD_STAT_LINK 0).lower FLD_STAT_CFG_OK with
        fd := .reset, link := { s3.link with toField := [], toComp := [], acked := false, rx := none } }
  | .fpower => s3.loopEval
  | _ =>
    match p.core with
    | some k => { s3 with memx := { s3.memx with scrub := s3.memx.scrub.filter (fun x => x.1 ≠ k.num) } }
    | none => s3

/-- Step 5 of R172: the switch-off checks against the mode and set now in force (R71, R72). A
paddock that was switched on joins, and its power-on episode is recorded (R73, R86). -/
def State.boundaryOff (s : State) : State :=
  let gone (x : State) (p : Paddock) : Bool := match p.core with
    | some k => x.retired k
    | none => false
  let s1 := s.pwr.offAt.foldl (fun x p =>
    if gone x p then x
    else if x.offPermitted p then x.paddockOff p
    else ((x.goesOn p).lower (preq p)).raise PWR_EVT_ABANDON)
      { s with pwr := { s.pwr with offAt := [] } }
  let code (p : Paddock) : Option Nat :=
    match p with
    | .net => some 0x07 | .bus => some 0x08 | .signal => some 0x09
    | _ => none
  let s2 := s1.pwr.join.foldl (fun x p =>
    match code p with
    | some t => (((x.fset SYS_LRST_TARGET t).fset SYS_LRST_SRC 0).bump SYS_LRST_COUNT).fset
        SYS_LRST_WDROP 0
    | none => x) s1
  { s2 with pwr := { s2.pwr with join := [] } }

end Sys2Proof.Machine
end

