-- ==== Sys2Proof/Machine/ResetCmds.lean ====
section
/-! DEFINITION. Sys2Proof/Machine/ResetCmds.lean: the commands of chapter 04: reset sources, trim
loading and local resets, and the retry of the wear log's flash writes (R33). -/

namespace Sys2Proof.Machine

/-- WEAR_FLASH_RETRY_TICK: while no boundary occurs, outstanding flash writes of the wear log are
tried again every second of TS (R33). -/
def execWearFlashRetryTick (s : State) : Out := .next s.retryWear

/-- RESET_N_LOW_FILTERED: low for 10 us (R77). -/
def execResetNLowFiltered (s : State) : Out :=
  .next (({ s with phys := { s.phys with resetNLow := true } }).assertDevice .resetN false)

/-- RESET_N_LOW_WIDENED: low for 100 ms (R77, R81). -/
def execResetNLowWidened (s : State) : Out :=
  .next (if s.phys.resetNLow then
    (s.assertDevice .resetN true).raise SYS_RSTCAUSE_EXT_LONG
  else s)

/-- RESET_N_RELEASE. -/
def execResetNRelease (st : Straps) (s : State) : Out :=
  .next (({ s with phys := { s.phys with resetNLow := false } }).releaseSource .resetN st)

/-- The source of a fixed assertion. -/
def stretchSrc : StretchSrc → RstSrc
  | .sheepdog => .sheepdog | .voter => .voter | .clock => .clock | .soft => .soft

/-- RESET_STRETCH_EXPIRY: 100 us have passed (R76). -/
def execResetStretchExpiry (src : StretchSrc) (st : Straps) (s : State) : Out :=
  .next (s.releaseSource (stretchSrc src) st)

/-- May a local reset of the target be requested, beside its listing in Table 04-4 (R75, R93)? -/
def State.localAllowed (s : State) (t : Nat) : Bool := localTarget t && !(t = 0x0A && s.safetyCfg)

/-- A debug request of paddock or unit reach; `fits`: the target has that reach. A target that Table
04-4 does not list or refuses gets an error response (R75, R89). -/
def State.debugLocal (s : State) (target : Nat) (fits : Bool) : State :=
  if s.localAllowed target && fits then ((s.answer .okay).localBegin target .debug).evalSets
  else s.answer .target

/-- DEBUG_RESET_COMMAND: accepted while DBG_TRST_N is high (R79). -/
def execDebugResetCommand (trstHigh : Bool) (reach : Reach) (target : Nat) (s : State) : Out :=
  .next (if !trstHigh then s
  else match reach with
    | .deviceCold => s.assertDevice .debug true
    | .deviceWarm => s.assertDevice .debug false
    | .paddock => s.debugLocal target (paddockTarget target)
    | .unit => s.debugLocal target (!paddockTarget target))

/-- DEBUG_RESET_RELEASE: the TAP command ends: its device source releases, and the local resets
that it holds go on. -/
def execDebugResetRelease (st : Straps) (s : State) : Out :=
  .next ((s.localReleased .debug).releaseSource .debug st)

/-- RST_OUT_MIN_LOW_EXPIRY: RST_OUT_N has been low for 1 ms (R80, step 9 of Table 04-3). -/
def execRstOutMinLowExpiry (s : State) : Out :=
  .next (if s.rst.active then
    let s1 := { s with rst := { s.rst with minLowDone := true } }
    if s1.rst.step = 8 then s1.releaseEnd else s1
  else s)

/-! ### Trim loading (R94 to R96) -/

/-- The trims that pass are applied; a first HRC_1 window may begin. -/
def State.trimDone (s : State) : State := { s with rst := { s.rst with trimCopy := none }
                                                   clk := { s.clk with qual := .hrc1 } }

/-- TRIM_COPY_DONE. -/
def execTrimCopyDone (crcOk : Bool) (s : State) : Out :=
  .next (match s.rst.trimCopy with
    | none => s
    | some c =>
      if crcOk then
        (((s.raise SYS_RSTSTAT_TRIM_VALID).fset SYS_RSTSTAT_TRIM_SRC (c + 1)).lower
          SYS_RSTSTAT_TRIM_FAULT).trimDone
      else if c = 0 then { s with rst := { s.rst with trimCopy := some 1 } }
      else ((s.fset SYS_RSTSTAT_TRIM_SRC 3).raise SYS_RSTSTAT_TRIM_FAULT).trimDone)

/-! ### Software requests (R78, Table 04-12) -/

/-- A keyed store with reach device-warm. A request is a commit: one that the Shepherds do not pass
starts no reset (R78, R23). -/
def State.swrstWarm (s : State) (key : Nat) : State :=
  if key = 0xA5 ∧ s.flag SYS_RSTCFG_SW_WARM_EN ∧ s.accepts then (s.answer .okay).assertDevice .soft false
  else s.answer .target

/-- A keyed store with reach paddock or unit. -/
def State.swrstLocal (s : State) (key target : Nat) (paddock : Bool) : State :=
  if key = 0xA5 ∧ s.flag SYS_RSTCFG_SW_LOCAL_EN ∧ s.localAllowed target
      ∧ paddockTarget target = paddock ∧ s.accepts then
    ((s.answer .okay).localBegin target .software).evalSets
  else s.answer .target

/-- A store to SYS_SWRST. -/
def State.writeSwrst (s : State) (v : Nat) : State :=
  match bitsOf v 16 2 with
  | 0 => s.swrstLocal (bitsOf v 24 8) (bitsOf v 0 8) false
  | 1 => s.swrstLocal (bitsOf v 24 8) (bitsOf v 0 8) true
  | 2 => s.swrstWarm (bitsOf v 24 8)
  | _ => s.answer .target

/-- SWRST_DEVICE_WARM. -/
def execSwrstDeviceWarm (key : BitVec 8) (s : State) : Out := .next (s.swrstWarm key.toNat)

/-- SWRST_PADDOCK. -/
def execSwrstPaddock (key : BitVec 8) (target : Nat) (s : State) : Out :=
  .next (s.swrstLocal key.toNat target true)

/-- SWRST_UNIT. -/
def execSwrstUnit (key : BitVec 8) (target : Nat) (s : State) : Out :=
  .next (s.swrstLocal key.toNat target false)

/-! ### Local episodes (R90, R91) -/

/-- LOCAL_RESET: a local source asserts for a target of Table 04-4. -/
def execLocalReset (target : Nat) (src : LocalSrc) (s : State) : Out :=
  let listed := s.localAllowed target || ((target = 0x0B || target = 0x0C) && src = .brownout)
  .next (s.when listed (fun x => (x.localBegin target src).evalSets))

/-- LOCAL_RESET_HOLD_EXPIRY: 64 or 16 clocks after all sources have released the target reloads. -/
def execLocalResetHoldExpiry (target : Nat) (s : State) : Out :=
  .next (if s.localIn target .hold then
    let s1 := s.localMap target (fun e => if e.phase = .hold then { e with phase := .reload } else e)
    s1.when (target = 0x0A) State.fieldReload
  else s)

/-- LOCAL_RESET_RELOAD_DONE: the units hold the active set's configuration again and wait for the
next boundary (R91). -/
def execLocalResetReloadDone (target : Nat) (s : State) : Out :=
  .next (if s.localIn target .reload then
    let s1 := (targetUnits target).foldl (fun x u => x.unitReload u) s
    s1.localMap target (fun e => if e.phase = .reload then { e with phase := .boundary } else e)
  else s)

end Sys2Proof.Machine
end

