-- ==== Sys2Proof/Machine/Clock.lean ====
section
/-! DEFINITION. Sys2Proof/Machine/Clock.lean: qualification of the oscillators, the clock monitor,
CLOCK_HOLD, disciplining, gating and the clock outputs (chapter 05). -/

namespace Sys2Proof.Machine

/-! ### Qualification (R103 to R106) -/

/-- Does a window of `count` edges lie within `pct` percent of the nominal 4,096? -/
def windowOk (count pct : Nat) : Bool :=
  (count - 4096) * 100 ≤ pct * 4096 && (4096 - count) * 100 ≤ pct * 4096

/-- Once both oscillators have settled in step 4, the trims are loaded where none are valid, and
HRC_1 windows begin. -/
def State.settled (s : State) : State :=
  if s.rst.active ∧ s.rst.step = 4 ∧ s.clk.qual = .off ∧ !s.clk.hrc1Settling
      ∧ !s.clk.hrc2Settling ∧ !s.clk.hrc1Stopped ∧ !s.clk.hrc2Stopped then
    if s.flag SYS_RSTSTAT_TRIM_VALID then { s with clk := { s.clk with qual := .hrc1 } }
    else { s with clk := { s.clk with qual := .trim }, rst := { s.rst with trimCopy := some 0 } }
  else s

/-- HRC_SETTLE_EXPIRY: 20 us since the oscillator was started. -/
def execHrcSettleExpiry (o : Hrc) (s : State) : Out :=
  .next (match o with
    | .hrc1 =>
      if s.clk.hrc1Stopped then s
      else ({ s with clk := { s.clk with hrc1Settling := false } }).settled
    | .hrc2 =>
      if s.clk.hrc2Stopped then s
      else ({ s with clk := { s.clk with hrc2Settling := false } }).settled)

/-- HRC1_RESTART_EXPIRY: the 10 us stop ends (R103, R109). -/
def execHrc1RestartExpiry (s : State) : Out :=
  .next { s with clk := { s.clk with
    hrc1Settling := s.clk.hrc1Settling || s.clk.hrc1Stopped
    hrc2Settling := s.clk.hrc2Settling || s.clk.hrc2Stopped
    hrc1Stopped := false, hrc2Stopped := false } }

/-- HRC_1's limit in percent: wide while the trims are the defaults (R104). -/
def State.hrc1Pct (s : State) : Nat := if s.fget SYS_RSTSTAT_TRIM_SRC = 3 then 11 else 3

/-- An HRC_1 window has passed. -/
def State.hrc1Qualify (s : State) : State :=
  let s1 := (s.raise CLK_STAT_HRC1_Q).show CLK_STAT_WIDE (s.fget SYS_RSTSTAT_TRIM_SRC = 3)
  { s1 with clk := { s1.clk with monHH := true, monXH1 := true } }

/-- QUAL_WINDOW_END: a window of step 4, of R109 or of CLOCK_HOLD (R112) has been counted. -/
def execQualWindowEnd (o : Osc) (count : Nat) (s : State) : Out :=
  .next (match o with
    | .hrc1 =>
      if !windowOk count s.hrc1Pct || s.flag CLK_STAT_HRC1_Q || s.clk.hrc1Settling
          || s.clk.hrc1Stopped then s
      else if s.clk.qual = .hrc1 then
        let s1 := s.hrc1Qualify
        { s1 with clk := { s1.clk with qual := .xtal } }
      else if s.clk.qual = .done then
        let s1 := s.hrc1Qualify.raise CLK_EVT_HRC1_REQUAL
        s1.when s1.clk.hold (fun x => x.clockFault 1)
      else s
    | .xtal =>
      if !windowOk count 2 then s
      else if s.clk.qual = .xtal then
        let s1 := (s.raise CLK_STAT_XTAL_Q).fset CLK_STAT_SRC 1
        { s1 with clk := { s1.clk with qual := .pll } }
      else if s.clk.hold then (s.raise CLK_STAT_XTAL_Q).clockFault 1
      else s)

/-- PLL_LOCK: all three PLLs report lock; step 4 ends. -/
def execPllLock (s : State) : Out :=
  .next (if s.clk.qual = .pll then
    let s1 := ((s.raise CLK_STAT_PLL_C_LOCK).raise CLK_STAT_PLL_V_LOCK).raise CLK_STAT_PLL_S_LOCK
    ({ s1 with clk := { s1.clk with qual := .done, monXH := true, monHH := true, monXH1 := true }
               rst := { s1.rst with step4Done := true } }).releaseAdvance
  else s)

/-- HRC1_QUAL_TIMEOUT: HRC_1 has not qualified 50 ms after the start of step 4 (R105). -/
def execHrc1QualTimeout (s : State) : Out :=
  .next (if s.rst.active ∧ s.rst.step = 4
      ∧ (s.clk.qual = .off ∨ s.clk.qual = .trim ∨ s.clk.qual = .hrc1) then s.clockFault 3
  else s)

/-- XTAL_QUAL_TIMEOUT: the PLLs lock to HRC_1 (R106). -/
def execXtalQualTimeout (s : State) : Out :=
  .next (if s.clk.qual = .xtal then
    let s1 := (s.raise CLK_EVT_XTAL_FAIL_START).fset CLK_STAT_SRC 2
    { s1 with clk := { s1.clk with qual := .pll } }
  else s)

/-! ### The monitor at run time (R107 to R112) -/

/-- CLOCK_HOLD (R110, R111): no reference is in use, every island outside AON is gated and the switched
compute paddocks are in functional reset, so that the lanes, the Shepherds and the hub do nothing;
SAFE_OUT_N and RST_OUT_N low, code 0x06 pending, and the effect of steps 1 and 3 of R23. -/
def State.enterHold (s : State) : State :=
  let s1 := (s.unitsSafe.fset CLK_STAT_SRC 0).fset CLK_GMAP_ISLAND 3
  { s1 with clk := { s1.clk with hold := true }
            pins := { s1.pins with safeOut := false, rstOut := false, ppsOut := false }
            bkup := { s1.bkup with pendSafe := 6 }
            now := { s1.now with hubRun := false }
            laneA := .reset, laneB := .reset, laneC := .reset
            triad := State.reset.triad
            memx := { s1.memx with hubQ := [], credits := [], granted := [] }
            rst := { s1.rst with locals := []
                                 safe := match s1.rst.safe with
                                   | some c => some c
                                   | none => some 6 } }

/-- HRC_1 loss (R109). -/
def State.hrc1Loss (s : State) : State :=
  let s1 := (s.lower CLK_STAT_HRC1_Q).raise CLK_EVT_HRC1_LOST
  let s2 := { s1 with clk := { s1.clk with hrc1Stopped := true, hrc1Settling := false
                                           monHH := true, monXH1 := true } }
  s2.when (s2.fget CLK_STAT_SRC = 2) State.enterHold

/-- Crystal loss (R108, R110). DESIGN CHOICE (log entry 112): XTAL_LOST is set too where the loss leads
to CLOCK_HOLD and nothing is switched. -/
def State.xtalLoss (s : State) : State :=
  let s1 := (s.lower CLK_STAT_XTAL_Q).raise CLK_EVT_XTAL_LOST
  let s2 := { s1 with clk := { s1.clk with monXH := true, monXH1 := true } }
  if s2.flag CLK_STAT_HRC1_Q then s2.fset CLK_STAT_SRC 2 else s2.enterHold

/-- Table 05-3 on the latest results; the pairs of an unqualified oscillator count as passing. -/
def State.attribute (s : State) : State :=
  if s.clk.qual ≠ .done ∨ s.clk.hold then s
  else
    let xq := s.flag CLK_STAT_XTAL_Q
    let hq := s.flag CLK_STAT_HRC1_Q
    let xh := s.clk.monXH || !xq
    let hh := s.clk.monHH || !hq
    let x1 := s.clk.monXH1 || !xq || !hq
    match xh, hh, x1 with
    | true, true, true => s
    | true, _, _ => s.hrc1Loss
    | false, true, _ => s.xtalLoss
    | false, false, _ => s.clockFault 6

/-- Does the monitor compare its pairs now: from the end of step 4, outside CLOCK_HOLD? What it does not
attribute counts as passing (R107). -/
def State.monitors (s : State) : Bool := s.clk.qual = .done && !s.clk.hold

/-- MONITOR_WINDOW_END: the operands are the deviations in ppm of the pairs whose window ends. -/
def execMonitorWindowEnd (xh hh xh1 : Option Nat) (s : State) : Out :=
  let upd (old : Bool) (d : Option Nat) (lim : Nat) : Bool :=
    match d with
    | some p => decide (p ≤ lim)
    | none => old
  .next (s.when s.monitors (fun x => State.attribute { x with clk := { x.clk with
    monXH := upd x.clk.monXH xh 20000
    monHH := upd x.clk.monHH hh 30000
    monXH1 := upd x.clk.monXH1 xh1 20000 } }))

/-- MISSING_EDGE_TRIP: no crystal edge for 200 ns while the crystal is the reference. -/
def execMissingEdgeTrip (s : State) : Out :=
  .next (if s.monitors && s.fget CLK_STAT_SRC = 1 then
    State.attribute { s with clk := { s.clk with monXH := false, monXH1 := false } }
  else s)

/-- CLOCK_HOLD_TIMEOUT: 50 ms of CLOCK_HOLD (R112). -/
def execClockHoldTimeout (s : State) : Out := .next (s.when s.clk.hold (fun x => x.clockFault 2))

/-- The islands that a PLL clocks (Table 05-4), as a pattern of gate codes. -/
def pllIslands : Pll → Nat
  | .pllC => 0x7C | .pllV => 0x80 | .pllS => 0x3FF00

/-- PLL_LOCK_LOSS: its islands are gated, then a clock fault with code 0x4 (R113). -/
def execPllLockLoss (p : Pll) (s : State) : Out :=
  .next (if s.clk.qual = .done ∧ !s.clk.hold then
    let f : Fld := match p with
      | .pllC => CLK_STAT_PLL_C_LOCK | .pllV => CLK_STAT_PLL_V_LOCK | .pllS => CLK_STAT_PLL_S_LOCK
    let s1 := s.lower f
    let keep := (List.range 18).foldl (fun a n =>
      if bitOf (s1.fget CLK_GMAP_ISLAND) n && !bitOf (pllIslands p) n then a + 2 ^ n else a) 0
    (s1.fset CLK_GMAP_ISLAND keep).clockFault 4
  else s)

/-- SERREF_LOSS: the four SGMII ports go down (R114); a link that was up went down (Table 13-12). -/
def execSerrefLoss (s : State) : Out :=
  let s1 := (s.raise CLK_EVT_SERREF_BAD).when (s.fget ETH_STAT_LINK ≠ 0)
    (fun x => x.raise ETH_EVT_LINK_CHG)
  .next { (s1.fset ETH_STAT_LINK 0).fset ETH_STAT_SPEED 0 with
    phys := { s.phys with serrefOk := false } }

/-- SERREF_RETURN: the ports come up again with their links. -/
def execSerrefReturn (s : State) : Out := .next { s with phys := { s.phys with serrefOk := true } }

/-! ### Disciplining (R116, R117) -/

/-- The channel that DRV_CFG names is ACTIVE (R411). -/
def State.droveSync (s : State) : Bool :=
  s.fget (DRV_n_STAT_STATE (s.fget DRV_CFG_DISC_CH)) = 4

/-- Is a disciplining source available? The crystal is refused for HRC_1 while SRC is HRC_1 (R116).
DESIGN CHOICE (log entry 112): the write to CLK_DISC is accepted, and the source counts as unavailable
while the condition holds. -/
def State.discAvail (s : State) (src : Nat) : Bool :=
  match src with
  | 1 => s.flag CLK_STAT_XTAL_Q && s.fget CLK_STAT_SRC = 1
  | 2 => s.fget TIM_CFG_MODE = 1 && s.fget TIM_STAT_STATE = 2
  | _ => s.droveSync

/-- One disciplining step of an oscillator with offset `ofs`: the offset, the state of CLK_STAT and
whether the limit was reached. `err` above 0 asks for a faster oscillator. An offset beyond a limit
that has been lowered comes back by one step per second. -/
def discMove (ofs err : Int) (limit : Nat) : Int × Nat × Bool :=
  let lim : Int := limit
  let t := if ofs > lim then ofs - 1
    else if ofs < -lim then ofs + 1
    else if err > 0 then min (ofs + 1) lim
    else if err < 0 then max (ofs - 1) (-lim)
    else ofs
  let atLim : Bool := t ≥ lim || t ≤ -lim
  (t, if atLim then 3 else 1, (t = lim || t = -lim) && t ≠ ofs)

/-- DISCIPLINE_STEP: once per second. -/
def execDisciplineStep (o : Hrc) (err : Int) (s : State) : Out :=
  let srcF := match o with
    | .hrc1 => CLK_DISC_SRC1 | .hrc2 => CLK_DISC_SRC2
  let ofsF := match o with
    | .hrc1 => CLK_TRIM_OFS1 | .hrc2 => CLK_TRIM_OFS2
  let stF := match o with
    | .hrc1 => CLK_STAT_DISC1 | .hrc2 => CLK_STAT_DISC2
  let src := s.fget srcF
  .next (if src = 0 then s.fset stF 0
  else if !s.discAvail src then
    (s.when (s.fget stF ≠ 2) (fun x => x.raise CLK_EVT_DISC_HOLD)).fset stF 2
  else
    let r := discMove (toSigned 16 (s.fget ofsF)) err (min (s.fget CLK_DISC_LIMIT) 500)
    ((s.fset ofsF (ofSigned 16 r.1)).fset stF r.2.1).when r.2.2
      (fun x => x.raise CLK_EVT_DISC_LIMIT))

/-! ### Gating (R118 to R120) -/

/-- A gate code of Table 05-4. -/
def gateCode (c : Nat) : Bool := c ≤ 0x11 || c = 0x48 || c = 0x49

/-- A gate that CLK_GATE may move. -/
def gateable (c : Nat) : Bool := (0x0B ≤ c && c ≤ 0x11) || c = 0x48 || c = 0x49

/-- The paddock gate of an island gate. -/
def gateParent (c : Nat) : Option Nat :=
  if 0x0D ≤ c ∧ c ≤ 0x10 then some 0x48 else if c = 0x11 then some 0x49 else none

/-- Does the active set configure the process data engine: sessions, or message queues? -/
def State.pdeUsed (s : State) : Bool :=
  let c := s.boot.act
  c.has 5 0 && (c.pdN ≠ 0 || c.sqN ≠ 0 || c.rqN ≠ 0)

/-- Is the unit of a gate configured by the active set? -/
def State.gateUsed (s : State) (c : Nat) : Bool :=
  match c with
  | 0x0B => s.pdeUsed
  | 0x0C => decide (s.fget TIM_CFG_MODE ≠ 0)
  | 0x0D => (List.range 4).any (fun n => s.fget (CAN_n_CFG_MODE n) ≠ 0)
  | 0x0E => decide (s.fget DRV_CFG_EN ≠ 0)
  | 0x0F => s.flag FLK_CFG_EN
  | 0x10 => s.flag PAIR_CFG_EN
  | 0x11 => !s.signalUnused
  | 0x48 => !s.busUnused
  | 0x49 => !s.signalUnused
  | _ => false

/-- The result of a request: REFUSED, or the request goes on. -/
def State.gateRefused (s : State) (c : Nat) (opening : Bool) : Bool :=
  !gateable c || s.gateUsed c
    || (if opening then match gateParent c with
          | some p => !s.flag (gateF p)
          | none => false
        else (gateKids c).any (fun k => s.flag (gateF k) || s.clk.opening.contains k))

/-- A CLK_GATE write. -/
def State.gateWrite (s : State) (c : Nat) (opening : Bool) : State :=
  if s.flag CLK_GSTAT_PENDING || !gateCode c then s.answer .target
  else
    let s1 := (s.fset CLK_GSTAT_CODE c).answer .okay
    if s1.gateRefused c opening then s1.fset CLK_GSTAT_RESULT 2
    else if opening then
      { s1.fset CLK_GSTAT_RESULT 1 with clk := { s1.clk with opening := s1.clk.opening ++ [c] } }
    else if !s1.flag (gateF c) then
      { s1.fset CLK_GSTAT_RESULT 1 with
          clk := { s1.clk with opening := s1.clk.opening.filter (· ≠ c) } }
    else (s1.fset CLK_GSTAT_RESULT 0).raise CLK_GSTAT_PENDING

/-- CLK_GATE_OPEN. -/
def execClkGateOpen (code : BitVec 8) (s : State) : Out := .next (s.gateWrite code.toNat true)

/-- CLK_GATE_CLOSE. -/
def execClkGateClose (code : BitVec 8) (s : State) : Out := .next (s.gateWrite code.toNat false)

/-- BUS_QUIET_HANDSHAKE: the gate closes. -/
def execBusQuietHandshake (s : State) : Out :=
  .next (if s.flag CLK_GSTAT_PENDING then
    ((s.lower (gateF (s.fget CLK_GSTAT_CODE))).lower CLK_GSTAT_PENDING).fset CLK_GSTAT_RESULT 1
  else s)

/-- GATE_CLOSE_TIMEOUT: 1,024 island clocks without the handshake: BUSY, the gate stays open. -/
def execGateCloseTimeout (s : State) : Out :=
  .next (if s.flag CLK_GSTAT_PENDING then
    (s.lower CLK_GSTAT_PENDING).fset CLK_GSTAT_RESULT 3
  else s)

/-- GATE_OPEN_EFFECT: 16 island clocks after the write (R119). -/
def execGateOpenEffect (s : State) : Out :=
  .next (match s.clk.opening with
    | c :: t => { s.raise (gateF c) with clk := { s.clk with opening := t } }
    | [] => s)

/-- A close that waits for its handshake and whose unit the set now in force configures ends REFUSED
(R118, R120). -/
def State.closeRefuse (s : State) : State :=
  s.when (s.flag CLK_GSTAT_PENDING && s.gateUsed (s.fget CLK_GSTAT_CODE))
    (fun x => (x.lower CLK_GSTAT_PENDING).fset CLK_GSTAT_RESULT 2)

/-- A swap opens the gates of the units that the new set configures (R120). -/
def State.openUsedGates (s : State) : State :=
  (([0x0B, 0x0C, 0x0D, 0x0E, 0x0F, 0x10, 0x11] : List Nat).foldl (fun x c =>
    if x.gateUsed c then
      match gateParent c with
      | some p => (x.raise (gateF p)).raise (gateF c)
      | none => x.raise (gateF c)
    else x) s).closeRefuse

/-! ### Clock outputs (R121, R122) -/

/-- A reserved CLK_OUTCFG value: no PPS width, or CLK_OUT above 50 MHz. -/
def outcfgReserved (v : Nat) : Bool :=
  bitsOf v 24 8 = 0 || (bitsOf v 0 2 = 3 && bitsOf v 8 8 = 0)

/-- A write to CLK_OUTCFG. -/
def State.writeOutcfg (s : State) (v : Nat) : State :=
  if outcfgReserved v then s.answer .target
  else
    let s1 := (((s.fset CLK_OUTCFG_PPS_W (bitsOf v 24 8)).fset CLK_OUTCFG_PPS_EN
      (bitsOf v 16 1)).fset CLK_OUTCFG_DIV (bitsOf v 8 8)).fset CLK_OUTCFG_SEL (bitsOf v 0 2)
    { s1.answer .okay with pins := { s1.pins with ppsOut := s1.pins.ppsOut && bitOf v 16 } }

/-- CLK_OUTCFG_WRITE. -/
def execClkOutcfgWrite (v : BitVec 32) (s : State) : Out := .next (s.writeOutcfg v.toNat)

/-- PPS_OUT_PULSE: a whole second of the time unit's time. -/
def execPpsOutPulse (s : State) : Out :=
  .next { s with pins := { s.pins with ppsOut := s.flag CLK_OUTCFG_PPS_EN } }

/-- PPS_OUT_PULSE_END: PPS_W ms later. -/
def execPpsOutPulseEnd (s : State) : Out :=
  .next { s with pins := { s.pins with ppsOut := false } }

end Sys2Proof.Machine
end

