-- ==== Sys2Proof/Machine/Memory.lean ====
section
/-! DEFINITION. Sys2Proof/Machine/Memory.lean: the memory banks: scrubbing,
spare rows and columns, the region table and the held-read buffer (chapter 06). -/

namespace Sys2Proof.Machine

/-- Is the bank in service: its core neither retired nor switched off (R135)? -/
def State.bankOn (s : State) : Bank → Bool
  | .priv k => !s.retired k && s.fget (pstat k.paddock) ≥ 2
  | .shared => s.fget (pstat .common) = 2
  | .comm => s.fget (pstat .common) = 2

/-! ### Scrubbing and repairs -/

/-- The next word of a bank's scrub. -/
def State.scrubPtr (s : State) (b : Nat) : Nat :=
  match s.memx.scrub.find? (fun x => x.1 = b) with
  | some x => x.2
  | none => 0

/-- The state with a bank's next scrub word. -/
def State.setScrub (s : State) (b n : Nat) : State :=
  { s with memx := { s.memx with
      scrub := s.memx.scrub.filter (fun y => y.1 ≠ b) ++ (if n = 0 then [] else [(b, n)]) } }

/-- The upsets of a bank's stored bits since its latest scrub step: word indices and bits. -/
def State.upset (s : State) (bank : Bank) (flips : List (Nat × List Nat)) : State :=
  flips.foldl (fun x p => x.flipBits bank p.1 p.2) s

/-- SCRUB_STEP: the upsets since the step before reach the bank; then one word is read, corrected and
written back (R135). The scrubber of a bank that is out of service stops. -/
def execScrubStep (bank : Bank) (flips : List (Nat × List Nat)) (s : State) : Out :=
  let b := bankNum bank
  let s0 := s.upset bank flips
  .next (if !s0.bankOn bank then s0
  else
    let w := s0.scrubPtr b
    let s1 := s0.wordScrub bank (w * bankWord bank) 2
    if (w + 1) * bankWord bank < bankSize bank then s1.setScrub b (w + 1)
    else (s1.setScrub b 0).when (b = 5) (fun x => x.bump MEM_STAT_PASS))

/-- TRACKER_ENTRY_EXPIRY: 24 h after the row's first counted correction. -/
def execTrackerEntryExpiry (bank : Bank) (row : Nat) (s : State) : Out :=
  .next { s with memx := { s.memx with tracks := s.memx.tracks.filter (fun x =>
    ¬(x.1 = bankNum bank ∧ x.2.row = row)) } }

/-- REPAIR_BUSY of a bank. -/
def repairBusyF (b : Nat) : Fld := ⟨0x40020000, b, 1⟩

/-- The bank of a number. -/
def bankOf (b : Nat) : Bank := if b < 4 then .priv (coreOf b) else if b = 4 then .shared else .comm

/-- COLUMN_REPAIR_ROW_COPY: the repair copies one row and advances (R140). -/
def execColumnRepairRowCopy (bank : Bank) (s : State) : Out :=
  let b := bankNum bank
  .next (match s.memx.colReps.find? (fun c => c.bank = b) with
    | none => s
    | some c =>
      let s1 := s.rowCopy bank c.row
      let rest := s1.memx.colReps.filter (fun x => x ≠ c)
      if c.row + 1 < (c.sub + 1) * 512 then
        { s1 with memx := { s1.memx with colReps := { c with row := c.row + 1 } :: rest } }
      else
        ({ s1 with memx := { s1.memx with colReps := rest } }).show (repairBusyF b)
          (rest.any (fun x => x.bank = b)))

/-- Remap one row that is due into the bank's next spare row (R139, R30). DESIGN CHOICE: the row's
tracker entry ends with the remap, also where no spare row is left; the spec does not say what becomes
of it (log entry 114). -/
def State.remapRow (s : State) (b row : Nat) : State :=
  let f := MEM_BANK_n_ROWS_LEFT b
  let s0 := { s with memx := { s.memx with
    dueRows := s.memx.dueRows.filter (fun x => ¬(x.1 = b ∧ x.2 = row))
    tracks := s.memx.tracks.filter (fun x => ¬(x.1 = b ∧ x.2.row = row)) } }
  if s0.fget f = 0 then s0
  else
    let used := bankRows b - s0.fget f
    let s1 := (s0.fset f (s0.fget f - 1)).raise MEM_EVT_REMAP
    let rest := s1.memx.remaps.filter (fun x => ¬(x.1 = b ∧ x.2.1 = row))
    let s2 := { s1 with memx := { s1.memx with remaps := rest ++ [(b, row, used)] } }
    let s3 := (s2.rowCopy (bankOf b) row).wearLog 3 b row
    s3.when (s3.fget f = 0) (fun x => (x.spareExhausted 3).raise MEM_EVT_SPARE_EXH)

/-- Start the repair of one column that is due (R140, R30). -/
def State.startColumn (s : State) (c : Nat × Nat × Nat) : State :=
  let f := MEM_BANK_n_COLS_LEFT c.1
  let s1 := ((s.fset f (s.fget f - 1)).raise MEM_EVT_REMAP).raise (repairBusyF c.1)
  let new : ColRep := { bank := c.1, sub := c.2.1, bit := c.2.2, row := c.2.1 * 512 }
  let s2 := { s1 with memx := { s1.memx with colReps := s1.memx.colReps ++ [new] } }
  ((s2.wearLog 4 c.1 (c.2.1 * 4096 + c.2.2 % 4096)).spareExhausted 4).raise MEM_EVT_SPARE_EXH

/-- The remaps of a boundary (R31, R139): what is due in the private memory of a retired core is
dropped; one row of each bank; the columns that are due start. -/
def State.boundaryRemaps (s : State) : State :=
  let gone (b : Nat) : Bool := b < 4 && s.retired (coreOf b)
  let s1 := { s with memx := { s.memx with
    dueRows := s.memx.dueRows.filter (fun x => !gone x.1)
    dueCols := s.memx.dueCols.filter (fun x => !gone x.1) } }
  let s2 := (List.range 6).foldl (fun x b =>
    match x.memx.dueRows.find? (fun y => y.1 = b) with
    | some y => x.remapRow y.1 y.2
    | none => x) s1
  let cols := s2.memx.dueCols
  cols.foldl State.startColumn { s2 with memx := { s2.memx with dueCols := [] } }

/-! ### The region table (R141, R142) -/

/-- The attributes of an address: WR, EFFECT, SOLO_OK. -/
structure Attr where
  wr : Bool
  effect : Bool
  soloOk : Bool
  deriving DecidableEq, Repr

/-- Table 06-3's defaults. -/
def attrDefault (a : Nat) : Attr :=
  let w := a / 0x10000000
  { wr := w ≠ 7, effect := w = 4, soloOk := false }

/-- The attributes of an address (R141). Peripheral windows keep EFFECT = 1, the flash window
WR = 0, whatever an entry says. -/
def State.attrs (s : State) (a : Nat) : Attr :=
  let hit (n : Nat) : Bool := s.flag (MEM_RGN_n_BASE_EN n)
    && s.fget (MEM_RGN_n_BASE_BASE n) ≤ a / 4096 && a / 4096 ≤ s.fget (MEM_RGN_n_LIM_LIMIT n)
  let d : Attr := match (List.range 32).find? hit with
    | some n => { wr := s.flag (MEM_RGN_n_BASE_WR n), effect := s.flag (MEM_RGN_n_BASE_EFFECT n)
                  soloOk := s.flag (MEM_RGN_n_BASE_SOLO_OK n) }
    | none => attrDefault a
  let w := a / 0x10000000
  { d with wr := d.wr && w ≠ 7, effect := d.effect || w = 4 }

/-! ### The held-read buffer (R145) -/

/-- The lane whose buffer MEM_HRB shows; the buffers of the voting lanes are equal. -/
def State.hrbLane (s : State) : Option LaneId := s.running.head?

/-- Replace a lane's buffer. -/
def State.setHeld (s : State) (l : LaneId) (h : List (Nat × DWord)) : State :=
  let s1 := s.updLane l (fun x => { x with held := h })
  s1.when (s.hrbLane = some l) (fun x => x.fset MEM_HRB_OCC h.length)

/-- Do the losses of a lane's buffer count? The equal buffers of the voting lanes count once; an
independent lane has entries of its own. -/
def State.heldCounts (s : State) (l : LaneId) : Bool := s.indep l || s.voting.head? = some l

/-- `n` entries of a lane's buffer were discarded unconsumed (R145). -/
def State.heldLost (s : State) (l : LaneId) (n : Nat) : State :=
  if n = 0 ∨ !s.heldCounts l then s
  else ((s.raise MEM_EVT_LOST_EFFECT_READ).bumpBy MEM_HRB_LOST n).bumpBy (REC_CNT_c_VAL 12) n

/-- The held entry that serves a read. -/
def State.heldAt (s : State) (l : LaneId) (a : Nat) : Option DWord :=
  match (s.lane l).held.find? (fun p => p.1 = a / 8 * 8) with
  | some p => some p.2
  | none => none

/-- A demand read consumes its entry. -/
def State.heldTake (s : State) (l : LaneId) (a : Nat) : State :=
  s.setHeld l ((s.lane l).held.filter (fun p => p.1 ≠ a / 8 * 8))

/-- A store discards the entry that it overlaps. -/
def State.heldStore (s : State) (l : LaneId) (a : Nat) : State :=
  let h := (s.lane l).held
  let k := h.filter (fun p => p.1 ≠ a / 8 * 8)
  if k.length = h.length then s else (s.setHeld l k).heldLost l (h.length - k.length)

/-- A prefetch response with EFFECT = 1 is held; it discards an entry of the same word, and a fifth entry
discards the oldest. -/
def State.heldAdd (s : State) (l : LaneId) (a : Nat) (d : DWord) : State :=
  let old := (s.lane l).held
  let h := old.filter (fun p => p.1 ≠ a / 8 * 8) ++ [(a / 8 * 8, d)]
  let h4 := h.drop (h.length - 4)
  (s.setHeld l h4).heldLost l (old.length + 1 - h4.length)

/-- At END every unconsumed entry is discarded. -/
def State.heldFlush (s : State) (l : LaneId) : State :=
  let n := (s.lane l).held.length
  (s.setHeld l []).heldLost l n

/-! ### The xSPI read window (R123, R152, R153) -/

/-- May an initiator read the flash window (Table 06-1)? -/
def xspiInit : Initiator → Bool
  | .lanes => true | .solo _ => true | .update => true | .boot => true
  | .debug => false | .engine => false

/-- A read of the flash window: DECERR beyond the device or for another initiator; TIMEOUT while a
program or erase runs in a device without suspend. -/
def State.xspiRead (s : State) (ini : Initiator) (a n : Nat) : State :=
  let off := a - 0x70000000
  if !xspiInit ini || a < 0x70000000 || s.flashSize < off + n || 0x10000000 < off + n then
    s.answer .decerr
  else if s.flc.running.isSome && !s.flag BOOT_XSPI_SUSPEND then s.answer .timeout
  else s.answerData (BitVec.ofNat 256 (s.flashLe off n))

/-- XSPI_WINDOW_READ. -/
def execXspiWindowRead (ini : Initiator) (addr size : Nat) (s : State) : Out :=
  .next (s.xspiRead ini addr size)

/-- Answer the oldest waiting request that `p` accepts with a response code; with none waiting, the
request just handled. -/
def State.failOldest (s : State) (p : HubItem → Bool) (r : Resp) : State :=
  match s.memx.hubQ.find? p with
  | some i =>
    let s1 := { s with memx := { s.memx with hubQ := s.memx.hubQ.erase i } }
    s1.reply i r.code false 0
  | none => s.answer r

/-- XSPI_READ_TIMEOUT: the flash has not answered within 50 us (Table 01-5). -/
def execXspiReadTimeout (s : State) : Out :=
  .next (s.failOldest (fun i => i.req.addr / 0x10000000 = 7) .timeout)

/-! ### Ports, grants and credits (R149, Table 01-5) -/

/-- The number of a hub target: the peripheral window, or the memory space. -/
def targetNo (a : Nat) : Nat := if a / 0x10000000 = 4 then a / 0x10000 else a / 0x10000000

/-- The initiator ports of a hub target. -/
def initNo : Initiator → Nat
  | .lanes => 0 | .solo l => 1 + l.num | .debug => 4 | .engine => 5 | .update => 6 | .boot => 7

/-- Posted-write credits of an initiator in use at a target. -/
def State.creditsUsed (s : State) (ini t : Nat) : Nat :=
  match s.memx.credits.find? (fun x => x.1 = ini ∧ x.2.1 = t) with
  | some x => x.2.2
  | none => 0

/-- The state with a number of credits of an initiator in use at a target. -/
def State.setCredits (s : State) (ini t n : Nat) : State :=
  let rest := s.memx.credits.filter (fun x => ¬(x.1 = ini ∧ x.2.1 = t))
  { s with memx := { s.memx with credits := if n = 0 then rest else rest ++ [(ini, t, n)] } }

/-- POSTED_WRITE_CREDIT_RETURN. -/
def execPostedWriteCreditReturn (ini : Initiator) (target : Nat) (s : State) : Out :=
  .next (s.setCredits (initNo ini) target (s.creditsUsed (initNo ini) target - 1))

/-- STARTUP_FLASH_READ_TIMEOUT: retried up to three times; the fourth of one read halts start-up
(R153). -/
def execStartupFlashReadTimeout (again : Bool) (s : State) : Out :=
  .next (if 1 ≤ s.fget BOOT_STAT_PHASE ∧ s.fget BOOT_STAT_PHASE ≤ 6 then
    let n := (if again then s.flc.timeouts else 0) + 1
    let s1 := { s with flc := { s.flc with timeouts := n, dead := s.flc.dead || n ≥ 4 } }
    if n ≥ 4 then (s1.raise ⟨0x40030000, 11, 1⟩).fset BOOT_STAT_PHASE 8 else s1
  else s)

end Sys2Proof.Machine
end

