-- ==== Sys2Proof/Machine/Commit.lean ====
section
/-! DEFINITION. Sys2Proof/Machine/Commit.lean: engine items with their two buffers, and the COMMIT and
EXCHANGE phases (R263 to R266, R285). -/

namespace Sys2Proof.Machine

/-! ### Engine items (R265) -/

/-- An engine item: destination kind of Table 10-6 and key: the session, 4 * controller + item, or
64 * channel + slot. Its write buffer: base and bytes. -/
def State.itemArea (s : State) (kind key : Nat) : Nat × Nat :=
  match kind with
  | 4 =>
    let e := s.boot.act.pdS key
    (e.buf, (e.len + 7) / 8 * 8)
  | 5 => (s.boot.act.canTx (key / 4) + 80 * (key % 4), 80)
  | _ => (s.drvWin (key / 64) (key % 64), 256)

/-- The key of a map entry's engine item. -/
def itemKey (kind inst index : Nat) : Nat :=
  match kind with
  | 4 => index
  | 5 => 4 * inst + index
  | _ => 64 * inst + index

/-- The first write of an item in a cycle keeps what the engine publishes (R265): nothing, where a word
of it has no data. -/
def State.itemTouch (s : State) (kind key : Nat) : State :=
  if s.cyc.engWritten.contains (kind, key) then s
  else
    let a := s.itemArea kind key
    { s with cyc := { s.cyc with
        engWritten := s.cyc.engWritten ++ [(kind, key)]
        pub := s.cyc.pub ++ [(a.1, ((s.engineRead a.1 a.2).2).getD [])] } }

/-- The engine items of the active set: sessions that publish, CAN items, own Drove slots. -/
def State.engItems (s : State) : List (Nat × Nat) :=
  let c := s.boot.act
  let pd := (List.range c.pdN).filterMap (fun i => if (c.pdS i).sub then none else some (4, i))
  let can := (List.range 4).flatMap (fun n =>
    if c.has 6 n then [(5, 4 * n), (5, 4 * n + 1), (5, 4 * n + 2)] else [])
  let drv := (List.range 2).flatMap (fun n => (List.range (s.drvSlots n)).filterMap (fun k =>
    if s.ownSlot n k then some (6, 64 * n + k) else none))
  pd ++ can ++ drv

/-- The engine item whose buffer holds an address. -/
def State.itemAt (s : State) (a : Nat) : Option (Nat × Nat) :=
  s.engItems.find? (fun x =>
    let r := s.itemArea x.1 x.2
    r.1 ≤ a && a < r.1 + r.2)

/-- OWN and SOLO of an engine item (R266). -/
def State.itemOwn (s : State) (kind key : Nat) : Nat × Nat :=
  let c := s.boot.act
  match kind with
  | 4 => ((c.pdS key).own, (c.pdS key).solo)
  | 5 =>
    let b := c.sect 6 (key / 4)
    (bitsOf (leAt b 0x10 1) (key % 4) 1, bitsOf (leAt b 0x11 1) (2 * (key % 4)) 2)
  | _ =>
    let o := s.slotF (key / 64) (key % 64) 6 1
    (o % 2, bitsOf o 1 2)

/-- Does an initiator own an item of an owner class in the present mode (R266)? -/
def State.owns (s : State) (ini : Initiator) (own solo : Nat) : Bool :=
  match ini with
  | .lanes => s.mode ≠ 3 && own = 0
  | .solo l => if s.mode = 3 then decide (solo = l.num) else own = 1
  | _ => false

/-! ### The words of the cycle (R263) -/

/-- A written output item: destination, value and quality. -/
structure OutW where
  kind : Nat
  inst : Nat
  index : Nat
  field : Nat
  val : Nat
  q : Bool
  deriving DecidableEq, Repr

/-- An output item as COMMIT reads it from the output image. DESIGN CHOICE (log entry 115): an item in an
uncorrectable word is handed over as zero with quality bad (R130). -/
def State.outWord (s : State) (k : Nat) : State × OutW :=
  let e := s.boot.act.outE k
  let r := s.engineRead (s.boot.act.outBase + 8 * k) 8
  let b := r.2.getD []
  (r.1, { kind := e.kind, inst := e.inst, index := e.index, field := e.field
          val := leAt b 0 4, q := bitOf (leAt b 4 1) 0 })

/-- The output items that were written in the cycle, in order of their first write. -/
def State.cycWords (s : State) : State × List OutW :=
  s.cyc.written.foldl (fun p k =>
    let r := p.1.outWord k
    (r.1, p.2 ++ [r.2])) (s, [])

/-- A field word in the output image (R264, Table 11-2). -/
def OutImg.take (o : OutImg) (w : OutW) : OutImg :=
  if w.kind = 1 then
    { o with val := BitVec.ofNat 16 (setBit o.val.toNat w.index (bitOf w.val 0))
             qg := BitVec.ofNat 16 (setBit o.qg.toNat w.index w.q) }
  else if w.kind = 2 then { o with bl := BitVec.ofNat 2 (bitNat (bitOf w.val 0) + 2 * bitNat w.q) }
  else o

/-- An output, or the close request, that goes to its safe state (R285). -/
def OutImg.drop (o : OutImg) (d : Nat × Nat) : OutImg :=
  if d.1 = 1 then { o with qg := BitVec.ofNat 16 (setBit o.qg.toNat d.2 false) }
  else { o with bl := 0 }

/-- An OUT-mapped word of an engine item goes into its write buffer. -/
def State.itemWord (s : State) (w : OutW) : State :=
  if w.kind = 4 || w.kind = 5 || w.kind = 6 then
    let key := itemKey w.kind w.inst w.index
    let s1 := s.itemTouch w.kind key
    s1.burstPutLe ((s1.itemArea w.kind key).1 + 4 * w.field) 4 w.val
  else s

/-- COMMIT: every written item is handed to its destination; the field destinations leave in one
COMMIT frame (R263, R264, R290). -/
def State.commitWords (s : State) (ws : List OutW) : State :=
  let s1 := ws.foldl State.itemWord s
  let img := ws.foldl OutImg.take (s.cyc.unmapped.foldl OutImg.drop s.link.img)
  let img2 := { img with seq := (img.seq + 1) % 256, cyc := BitVec.ofNat 32 s.cyc.count.toNat }
  let s2 := { s1 with link := { s1.link with img := img2 } }
  (s2.linkSend (.commit (outFrame 3 img2))).fset CYC_PHASES_COMMIT_T (50 + ws.length / 4)

/-- The quality of a handover: the AND of the qualities of the words mapped to the item; good for an
item written only by stores (R344, R379, R406). -/
def itemQual (ws : List OutW) (kind key : Nat) : Bool :=
  ws.all (fun w => !(w.kind = kind && itemKey w.kind w.inst w.index = key) || w.q)

/-- The unit of an engine item: the PDE, a CAN controller, DROVE. -/
def itemUnit (kind key : Nat) : Nat :=
  match kind with
  | 4 => 0x21
  | 5 => 0x28 + key / 4
  | _ => 0x2C

/-- Hand one engine item over; a unit that is off or in reset takes nothing, and a CAN item with an uncorrectable word makes no request (R130). -/
def State.itemHand (s : State) (ws : List OutW) (x : Nat × Nat) : State :=
  let q := itemQual ws x.1 x.2
  if s.unitDown (itemUnit x.1 x.2) then s
  else match x.1 with
  | 4 => s.pdHand x.2 q
  | 5 =>
    let r := s.engineRead (s.itemArea 5 x.2).1 80
    match r.2 with
    | some b => r.1.canHand (x.2 / 4) (x.2 % 4) b q
    | none => r.1
  | _ => s.drvHand (x.2 / 64) (x.2 % 64) q

/-- EXCHANGE: every written engine item exchanges its buffers, the stations' blocks leave (R265,
R425). -/
def State.exchange (s : State) (ws : List OutW) : State :=
  let s1 := s.cyc.engWritten.foldl (fun x e => x.itemHand ws e) s
  let s2 := s1.foldExchange ((ws.filter (fun w => w.kind = 7)).map (fun w =>
    (w.index, w.field, w.val, w.q)))
  { s2 with cyc := { s2.cyc with written := [], engWritten := [], pub := [], unmapped := [] } }

/-- COMMIT and EXCHANGE (Table 10-1). -/
def State.commitPhase (s : State) : State :=
  let r := (s.fset CYC_STAT_PHASE 2).cycWords
  let ws := r.2
  let s1 := (r.1.commitWords ws).mdSendAll.mdFree.dirDue
  (s1.exchange ws).fset CYC_STAT_PHASE 3

/-! ### The end of EXECUTE (Table 10-1, R262) -/

/-- Has a lane ended its EXECUTE phase, or will it send nothing more? -/
def Lane.over (x : Lane) : Bool := x.exec = .ended || x.exec = .halted || x.exec = .idle

/-- EXECUTE ends when the END is released and the injection after it flagged, and in PAIR_SOLO
the independent lane has sent END or halted; COMMIT and EXCHANGE follow. -/
def State.tryCommit (s : State) : State :=
  let inds := allLanes.filter s.indep
  if s.fget CYC_STAT_PHASE = 1 && s.triad.endReleased && !s.triad.injPending
      && inds.all (fun l => (s.lane l).over) && s.accepts then
    s.commitPhase
  else s

end Sys2Proof.Machine
end

