-- ==== Sys2Proof/Machine/Encoding.lean ====
section
/-! DEFINITION. Sys2Proof/Machine/Encoding.lean: which 32-bit words are Benub instructions, and which of
them write gd (Tables 09-4 to 09-16, R220). A word that is none of them is ILLEGAL. -/

namespace Sys2Proof.Machine

/-- The conditions of Table 09-6; the others are reserved. -/
def condListed (c : Nat) : Bool := c < 0x14

/-- The functions of major 0x01: FN bit 10 is W, bits 9:6 are zero but for bit 6 of the immediate shifts,
whose amounts of 32 or more are ILLEGAL with .W. -/
def intListed (fn : Nat) : Bool :=
  let op := bitsOf fn 0 6
  if 0x2C ≤ op ∧ op ≤ 0x2F then
    decide (bitsOf fn 7 3 = 0) && !(bitOf fn 10 && bitOf fn 6)
  else
    bitsOf fn 6 4 = 0 && (op ≤ 0x16 || (0x20 ≤ op && op ≤ 0x37))

/-- The functions of major 0x02: FN bit 10 is P; B of FSQRT and D of FCMP are zero. -/
def floatListed (fn d b : Nat) : Bool :=
  let op := bitsOf fn 0 6
  bitsOf fn 6 4 = 0 && op ≤ 0x0B && (decide (b = 0) || op ≠ 0x04)
    && (decide (d = 0) || op ≠ 0x0A)

/-- The functions of major 0x03 (Table 09-9). -/
def cmpListed (fn d b : Nat) : Bool :=
  match bitsOf fn 0 6 with
  | 0 => bitsOf fn 6 4 = 0 && d = 0
  | 1 => bitsOf fn 6 4 = 0 && d = 0
  | 2 => bitsOf fn 6 5 = 0 && condListed b
  | 3 => condListed (bitsOf fn 6 5)
  | _ => false

/-- The functions of major 0x04 (Table 09-12): SZ in bits 9:8 for SEXT, ZEXT, NRW and NRWU, P in bit 10
for the conversions of a float and an integer, and nothing else. -/
def cvtListed (fn : Nat) : Bool :=
  let op := bitsOf fn 0 6
  let sized := op = 0x00 || op = 0x01 || op = 0x0A || op = 0x0B
  let prec := 0x02 ≤ op && op ≤ 0x07
  op ≤ 0x0D && bitsOf fn 6 2 = 0
    && (if sized then decide (bitsOf fn 8 2 < 3) else bitsOf fn 8 2 = 0)
    && (prec || !bitOf fn 10)

/-- Is a 32-bit word an instruction that this chapter lists, with every field that its format or its
table marks zero equal to zero and no reserved condition, selector or size (R220)? A register field
that an operation does not name and that no table marks zero may hold anything. -/
def wordListed (w : Nat) : Bool :=
  let d := bitsOf w 21 5
  let a := bitsOf w 16 5
  let b := bitsOf w 11 5
  let fn := bitsOf w 0 11
  let imm := bitsOf w 0 16
  match bitsOf w 26 6 with
  | 0x01 => intListed fn
  | 0x02 => floatListed fn d b
  | 0x03 => cmpListed fn d b
  | 0x04 => cvtListed fn
  | 0x08 => true | 0x09 => true | 0x0A => true | 0x0B => true | 0x0C => true
  | 0x0D => a = 0
  | 0x0E => d = 0 | 0x0F => d = 0
  | 0x10 => !bitOf w 14 && bitsOf w 15 2 < 2 && (!bitOf w 20 || (!bitOf w 19 && bitsOf w 15 2 = 0))
  | 0x11 => true | 0x12 => true | 0x13 => true | 0x14 => true
  | 0x15 => true | 0x16 => true | 0x17 => true
  | 0x18 => true | 0x19 => true | 0x1A => true | 0x1B => true
  | 0x20 => condListed d
  | 0x21 => true | 0x22 => true
  | 0x23 => fn ≤ 6
  | 0x24 => bitsOf w 13 3 < 5
  | 0x25 => bitsOf w 19 2 < 2
  | 0x28 => a ≤ 6 && a ≠ 2 && (a < 4 || imm = 0)
  | 0x29 => imm < 256
  | 0x2A => a = 0 && imm < 256
  | 0x2B => d = 0 && 1 ≤ imm && imm ≤ 3
  | 0x2C => bitsOf w 0 26 = 0
  | 0x2D => a = 0 && imm < 6
  | 0x2E => d = 0 && imm < 6 && imm ≠ 3
  | 0x2F => a = 0 && imm < 4
  | 0x30 => bitsOf w 0 26 = 0
  | _ => false

end Sys2Proof.Machine
end

