-- ==== Sys2Proof/Machine/Lane.lean ====
section
/-! DEFINITION. Sys2Proof/Machine/Lane.lean: what every Benub instruction shares: registers and
status, the lane's own memory with its write signature, transactions, traps, the dispatcher
(chapters 08 to 10). -/

namespace Sys2Proof.Machine

/-! ### Registers and status (R215, R216) -/

/-- A general register; g0 reads as zero. -/
def Lane.gpr (x : Lane) (r : GReg) : DWord := if r = 0 then 0 else x.g.toList.getD r.toNat 0

/-- The lane with a general register written; a write to g0 is discarded. -/
def Lane.setGpr (x : Lane) (r : GReg) (v : DWord) : Lane :=
  if r = 0 then x else { x with g := vecUpd x.g r.toNat (fun _ => v) }

/-- A bit of ST. -/
def Lane.stBit (x : Lane) (n : Nat) : Bool := x.st.getLsbD n

/-- The lane with a bit of ST. -/
def Lane.setSt (x : Lane) (n : Nat) (b : Bool) : Lane :=
  { x with st := BitVec.ofNat 16 (setBit x.st.toNat n b) }

/-- The lane with the four flags Z, N, C, V. -/
def Lane.setZncv (x : Lane) (z n c v : Bool) : Lane :=
  (((x.setSt 0 z).setSt 1 n).setSt 2 c).setSt 3 v

/-- The lane with Z and N. -/
def Lane.setZn (x : Lane) (z n : Bool) : Lane := (x.setSt 0 z).setSt 1 n

/-- ST at the entry of a program unit: the reset values, the sticky float bits kept (R258). -/
def Lane.entrySt (x : Lane) : BitVec 16 := BitVec.ofNat 16 (bitsOf x.st.toNat 8 5 * 256 + 16)

/-! ### Ranges of the active set -/

/-- Is an address in the code range of the active set? -/
def State.inCode (s : State) (a : Nat) : Bool :=
  let b := s.actBase + s.boot.act.codeOfs
  b ≤ a && a < b + s.boot.act.codeLen

/-- Is an address in the constant range of the active set? -/
def State.inConst (s : State) (a : Nat) : Bool :=
  let b := s.actBase + s.boot.act.constOfs
  b ≤ a && a < b + s.boot.act.constLen

/-- Do `n` bytes from an address lie in the active half? -/
def State.inActive (s : State) (a n : Nat) : Bool :=
  s.actBase ≤ a && a + n ≤ s.actBase + 0x200000

/-- Is an address in private memory? -/
def isPrivate (a : Nat) : Bool := 0x10000000 ≤ a && a < 0x10400000

/-- The start of the stack range. -/
def State.stackLo (s : State) : Nat := s.actBase + s.boot.act.stackOfs

/-- The end of the stack range, exclusive. -/
def State.stackHi (s : State) : Nat := s.stackLo + s.boot.act.stackLen

/-- A target that a branch may have (R227). -/
def State.targetOk (s : State) (a : Nat) : Bool := a % 4 = 0 && s.inCode a

/-! ### Private memory of a lane -/

/-- The private bank of a lane's core. -/
def State.lbank (s : State) (l : LaneId) : Bank := .priv (s.coreOfLane l)

/-- The memory key of a private address of a lane. -/
def State.lkey (s : State) (l : LaneId) (a : Nat) : Nat := bankKey (s.lbank l) (a - 0x10000000)

/-- `n` bytes of a word of a lane's private memory that has data, as a number. -/
def State.lread (s : State) (l : LaneId) (a n : Nat) : Nat := s.privVal (s.coreOfLane l) a n

/-- Does the private word that holds an address have a detected uncorrectable error? -/
def State.lbad (s : State) (l : LaneId) (a : Nat) : Bool := s.wordBad (s.lbank l) (a - 0x10000000)

/-- Is the private word that holds an address free of errors? -/
def State.lclean (s : State) (l : LaneId) (a : Nat) : Bool :=
  decide (s.upsetsAt (wordKey (s.lbank l) (a - 0x10000000)) = [])

/-- What a lane's read of a private word that has data leaves (R133, R138). -/
def State.lseen (s : State) (l : LaneId) (a : Nat) : State := s.privSeen (s.coreOfLane l) a

/-- The 16 bytes of a write-signature record (R194). -/
def sigRecord (a mask data : Nat) : List Byte :=
  leBytes 4 (a / 8 * 8 - 0x10000000) ++ leBytes 1 mask ++ [0, 0, 0] ++ leBytes 8 data

/-- Fold a store of the `n` bytes `v` at `a` into the write signature. -/
def Lane.fold (x : Lane) (a n v : Nat) : Lane :=
  let sh := a % 8
  let rec_ := sigRecord a (((2 ^ n - 1) * 2 ^ sh) % 256) (v % 2 ^ (8 * n) * 2 ^ (8 * sh) % 2 ^ 64)
  { x with sig := BitVec.ofNat 64 (crcBytesL 64 0x42F0E1EBA9EA3693 x.sig.toNat rec_) }

/-- A private store of `n` bytes, folded into the write signature; a store of a whole word replaces an
uncorrectable one, a smaller one reads and corrects its word (R133). -/
def State.lstore (s : State) (l : LaneId) (a n v : Nat) : State :=
  let off := a - 0x10000000
  let t := if off % 8 + n ≤ 8 then (s.wordStore (s.lbank l) off n v 0).1
    else s.bankPut (s.lbank l) off 0 (leBytes n v)
  t.updLane l (fun x => x.fold a n v)

/-! ### Transactions (R178, R179) -/

/-- Kinds that are commit points with a response of their own. -/
def kindCommit (k : Nat) : Bool := k < 4

/-- Send a transaction to both Shepherds. -/
def State.send (s : State) (l : LaneId) (kind addr data mask : Nat) : State :=
  s.updLane l (fun x =>
    let t : Txn := { kind := BitVec.ofNat 4 kind, addr := addr, data := BitVec.ofNat 64 data
                     mask := mask, poison := x.poison, seq := x.seq, held := false }
    { x with out := x.out ++ [t], seq := x.seq + 1
             commits := if kindCommit kind then x.commits ++ [(x.seq, addr)] else x.commits })

/-! ### Safe-state action, PRIV_DED and traps (R134, R247 to R250) -/

/-- Has everything that a lane sent before been released or made? -/
def State.drained (s : State) (l : LaneId) : Bool :=
  (s.lane l).out.isEmpty
    && s.triad.wins.all (fun w => w.released || w.made.isSome || w.arr.all (fun p => p.1 ≠ l))

/-- Lanes in a safe-state action whose preceding transactions have left enter it (R250). -/
def State.safeDrain (s : State) : State :=
  if allLanes.any (fun l => (s.lane l).exec = .toSafe && s.drained l) then s.safeEnter 7 else s

/-- The safe-state action of R250: the independent lane of PAIR_SOLO halts, and the safe pair's cycle,
which may have waited for it, goes on; any other lane enters the device safe state. -/
def State.safeAction (s : State) (l : LaneId) : State :=
  if s.mode = 2 && s.indep l then (s.updLane l (fun x => { x with exec := .halted })).tryCommit
  else (s.updLane l (fun x => { x with exec := .toSafe })).safeDrain

/-- The handling of an uncorrectable private word (R134, R249): everything that the lane sends
from now on is poisoned, and it sends one END. -/
def State.privDedTake (s : State) (l : LaneId) (a : Nat) : State :=
  let off := a - 0x10000000
  let s1 := (s.recordUe (.priv (s.coreOfLane l)) off 0).raise MEM_EVT_PRIV_DED
  let s2 := s1.updLane l (fun x => { x with poison := true, exec := .stopped })
  s2.send l 4 0 (s2.lane l).sig.toNat 0xFF

/-- Trap entry (R249). -/
def State.trapEnter (s : State) (l : LaneId) (code faddr resp : Nat) : State :=
  let e := s.actBase + s.boot.act.constOfs + 8 * code
  let x := s.lane l
  if s.lbad l e then s.privDedTake l e
  else
    let s := s.lseen l e
    let h := s.lread l e 4
    let i := s.lread l (e + 4) 4
    let isSafe := h = 0 || !s.targetOk h || i % 16 ≠ 0 || !s.inActive i 1
    let sb := x.sb.toNat
    if x.stBit 5 || s.stackHi < sb + 32 || isSafe then s.safeAction l
    else
      let w := code + resp * 2 ^ 8 + x.st.toNat * 2 ^ 16 + faddr % 2 ^ 32 * 2 ^ 32
      let s1 := (((s.lstore l sb 8 x.lk.toNat).lstore l (sb + 8) 8 x.ib.toNat).lstore l (sb + 16) 8
        x.pc.toNat).lstore l (sb + 24) 8 w
      s1.updLane l (fun y => { y.setSt 5 true with
        sb := BitVec.ofNat 32 (sb + 32), ib := BitVec.ofNat 32 i, lk := 0
        pc := BitVec.ofNat 32 h, exec := .run })

/-! ### Instructions -/

/-- What an instruction's operation answers: it goes on to the next instruction or to an address,
the lane waits or has ended, a trap with its FADDR, or an uncorrectable private word was read. -/
inductive IRes where
  | done (s : State)
  | goto (s : State) (pc : Nat)
  | hold (s : State)
  | trap (code faddr : Nat)
  | ded (s : State) (a : Nat)

/-- Run an instruction on a lane that executes: the fetch and its checks (R220, R134), then its
operation. A word that is no listed instruction is ILLEGAL, whatever instruction the command names. -/
def State.instr (s : State) (l : LaneId) (f : State → Lane → IRes) : State :=
  let x := s.lane l
  let pc := x.pc.toNat
  if x.exec ≠ .run then s
  else if !s.inCode pc then s.trapEnter l 3 pc 0
  else if s.lbad l pc then s.privDedTake l pc
  else if !wordListed (s.lread l pc 4) then (s.lseen l pc).trapEnter l 1 0 0
  else match f (s.lseen l pc) x with
    | .done t => t.updLane l (fun y => { y with pc := BitVec.ofNat 32 (pc + 4) })
    | .goto t a => t.updLane l (fun y => { y with pc := BitVec.ofNat 32 a })
    | .hold t => t
    | .trap c a => (s.lseen l pc).trapEnter l c a 0
    | .ded t a => t.privDedTake l a

/-- An instruction that changes only its lane. -/
def State.instrLane (s : State) (l : LaneId) (f : Lane → Lane) : State :=
  s.instr l (fun t _ => .done (t.updLane l f))

/-! ### The dispatcher (R258 to R261) -/

/-- Does a unit class apply to a lane in the present mode (R260)? -/
def State.unitApplies (s : State) (l : LaneId) (cls : Nat) : Bool :=
  if s.mode = 3 then cls % 4 ≠ 0
  else if s.indep l then s.mode = 2 && bitOf cls 1
  else bitOf cls 0

/-- Units of the active set by index. -/
def State.unitsFrom (s : State) (i : Nat) : List Nat :=
  (List.range (s.boot.act.units - i)).map (fun k => i + k)

/-- The next unit that a lane runs, from index `i` on. -/
def State.nextUnit (s : State) (l : LaneId) (i : Nat) : Option Nat :=
  (s.unitsFrom i).find? (fun k =>
    let e := s.boot.act.unitE k
    s.unitApplies l e.cls && (e.period ≤ 1 || (s.lane l).due.contains k))

/-- END once every commit of the cycle has its response: POSTED, or the END transaction (R245). -/
def State.endReady (s : State) (l : LaneId) : State :=
  match (s.lane l).commitErr with
  | some e => s.trapEnter l 0x18 e.1 e.2
  | none =>
    (s.heldFlush l).send l 4 0 (s.lane l).sig.toNat 0xFF |>.updLane l (fun x =>
      { x with exec := .ended })

/-- Execute END, the program's or the dispatcher's (R245). -/
def State.endBegin (s : State) (l : LaneId) (disp : Bool) : State :=
  let s1 := s.updLane l (fun x =>
    { x with exec := .waitEnd disp, pc := if disp then 0 else x.pc })
  if (s.lane l).commits.isEmpty then s1.endReady l else s1

/-- The dispatcher goes on with the first unit from index `i` that applies and is due, or ends the
lane's EXECUTE phase (R258). -/
def State.dispatch (s : State) (l : LaneId) (i : Nat) : State :=
  match s.nextUnit l i with
  | none => s.endBegin l true
  | some k =>
    let e := s.boot.act.unitE k
    s.updLane l (fun x =>
      { x with unit := k + 1, due := x.due.filter (fun j => j ≠ k), exec := .run
               ib := BitVec.ofNat 32 (s.actBase + e.inst), cb := BitVec.ofNat 32 (s.actBase + e.cb)
               sb := BitVec.ofNat 32 s.stackLo, lk := 0, st := x.entrySt
               pc := BitVec.ofNat 32 (s.actBase + e.entry) })

/-- The due flags of a cycle (R261). -/
def State.dueFlags (s : State) (old : List Nat) : List Nat :=
  (s.unitsFrom 0).filter (fun k =>
    let e := s.boot.act.unitE k
    old.contains k || (2 ≤ e.period && s.cyc.count.toNat % e.period = e.phase))

/-- A transfer to a register's target: RET or a branch to register with target 0 ends the unit
(R259); any other target is checked as R227 states. -/
def State.transfer (s : State) (l : LaneId) (x : Lane) (a : Nat) (unitEnd : Bool) : IRes :=
  if unitEnd && a = 0 && !x.stBit 5 && x.sb.toNat = s.stackLo then .hold (s.dispatch l x.unit)
  else if a % 4 ≠ 0 then .trap 2 a
  else if !s.inCode a then .trap 3 a
  else .goto s a

/-! ### Local accesses (R218, R230 to R232) -/

/-- Do `n` bytes from an address reach into a range? -/
def overlaps (a n lo len : Nat) : Bool := a < lo + len && lo < a + n

/-- Do `n` bytes from an address reach into the code or the constant range of the active set? -/
def State.fixedRange (s : State) (a n : Nat) : Bool :=
  overlaps a n (s.actBase + s.boot.act.codeOfs) s.boot.act.codeLen
    || overlaps a n (s.actBase + s.boot.act.constOfs) s.boot.act.constLen

/-- A load of `n` bytes from the active half: the value, or the trap. -/
def State.localLoad (s : State) (l : LaneId) (a n : Nat) (k : State → Nat → IRes) : IRes :=
  if a % n ≠ 0 then .trap 2 a
  else if !s.inActive a n then .trap 3 a
  else if s.lbad l a then .ded s a
  else k (s.lseen l a) (s.lread l a n)

/-- A store of `n` bytes into the active half, outside code and constants. -/
def State.localStore (s : State) (l : LaneId) (a n v : Nat) : IRes :=
  if a % n ≠ 0 then .trap 2 a
  else if !s.inActive a n || s.fixedRange a n then .trap 3 a
  else if n ≠ 8 && s.lbad l a then .ded s a
  else .done (s.lstore l a n v)

/-- The bytes of a size code. -/
def sizeBytes (sz : BitVec 2) : Nat := 2 ^ sz.toNat

/-- A loaded value in a register: sign-extended or zero-extended. -/
def extend (signed : Bool) (n v : Nat) : DWord :=
  if signed then BitVec.ofInt 64 (toSigned (8 * n) v) else BitVec.ofNat 64 (v % 2 ^ (8 * n))

end Sys2Proof.Machine
end

