-- ==== Sys2Proof/Machine/Operands.lean ====
section
/-! DEFINITION. Sys2Proof/Machine/Operands.lean: the operand forms of Benub instructions: register
operands at a width, immediates, displacements and effective addresses (R219, R220, R230, R231). -/

namespace Sys2Proof.Machine

/-- The width of an integer operation: 32 with .W. -/
def opWidth (w : Bool) : Nat := if w then 32 else 64

/-- A register operand at the operation's width. -/
def Lane.opv (x : Lane) (w : Bool) (r : GReg) : Nat := (x.gpr r).toNat % 2 ^ opWidth w

/-- A register operand at the operation's width, signed. -/
def Lane.opvS (x : Lane) (w : Bool) (r : GReg) : Int := toSigned (opWidth w) (x.gpr r).toNat

/-- Write a result of the operation's width, sign-extended with .W (R219). -/
def Lane.wr (x : Lane) (w : Bool) (d : GReg) (r : Nat) : Lane :=
  x.setGpr d (BitVec.ofInt 64 (toSigned (opWidth w) r))

/-- A sign-extended 16-bit immediate, as a 64-bit pattern. -/
def immS (i : BitVec 16) : Nat := ofSigned 64 (toSigned 16 i.toNat)

/-- The target of a displacement of `n` bits: PC + 4 * DISP. -/
def Lane.dispTo (x : Lane) (n : Nat) (d : Nat) : Nat :=
  ofSigned 32 ((x.pc.toNat : Int) + 4 * toSigned n d)

/-- The low 32 bits of a register, where an address is taken (Table 09-3). -/
def Lane.addr (x : Lane) (r : GReg) : Nat := (x.gpr r).toNat % 2 ^ 32

/-- The effective address of a general load or store. -/
def Lane.ea (x : Lane) (a : GReg) (i : BitVec 16) : Nat :=
  ofSigned 32 ((x.addr a : Int) + toSigned 16 i.toNat)

end Sys2Proof.Machine
end

