-- ==== Sys2Proof/Machine/Flags.lean ====
section
/-! DEFINITION. Sys2Proof/Machine/Flags.lean: the conditions of Table 09-6 and every flag computation
of the integer instructions (R222, R224, R225). -/

namespace Sys2Proof.Machine

/-- The result of an integer operation at its width, with C and V. -/
structure Alu where
  r : Nat
  c : Bool
  v : Bool
  deriving DecidableEq, Repr

/-- Does a signed number fit `n` bits? -/
def fitsS (n : Nat) (x : Int) : Bool := -(2 ^ (n - 1) : Int) ≤ x && x < 2 ^ (n - 1)

/-- Plain addition. -/
def aluAdd (n a b : Nat) : Alu :=
  { r := (a + b) % 2 ^ n, c := 2 ^ n ≤ a + b, v := !fitsS n (toSigned n a + toSigned n b) }

/-- Plain subtraction; C is no-borrow. -/
def aluSub (n a b : Nat) : Alu :=
  { r := (a + 2 ^ n - b) % 2 ^ n, c := b ≤ a, v := !fitsS n (toSigned n a - toSigned n b) }

/-- A signed result that wraps, C = 0, V when it does not fit. -/
def aluInt (n : Nat) (x : Int) : Alu := { r := ofSigned n x, c := false, v := !fitsS n x }

/-- A saturating signed result. -/
def aluSat (n : Nat) (x : Int) : Alu :=
  { r := ofSigned n (satSigned n x), c := false, v := !fitsS n x }

/-- A saturating unsigned result. -/
def aluSatU (n : Nat) (x : Int) : Alu :=
  if x < 0 then { r := 0, c := false, v := true }
  else if x ≥ 2 ^ n then { r := 2 ^ n - 1, c := false, v := true }
  else { r := x.toNat, c := false, v := false }

/-- A result with C = 0 and V = 0. -/
def aluVal (n r : Nat) : Alu := { r := r % 2 ^ n, c := false, v := false }

/-- Z and N of a result of `n` bits. -/
def Lane.zn (x : Lane) (n r : Nat) : Lane := x.setZn (r % 2 ^ n = 0) (bitOf r (n - 1))

/-- Set all four flags from a result. -/
def Lane.aluFlags (x : Lane) (n : Nat) (a : Alu) : Lane :=
  x.setZncv (a.r % 2 ^ n = 0) (bitOf a.r (n - 1)) a.c a.v

/-- Write a result and set all four flags. -/
def Lane.aluOut (x : Lane) (w : Bool) (d : GReg) (a : Alu) : Lane :=
  (x.wr w d a.r).aluFlags (opWidth w) a

/-- Write a result and set Z and N only. -/
def Lane.znOut (x : Lane) (w : Bool) (d : GReg) (r : Nat) : Lane :=
  (x.wr w d r).zn (opWidth w) r

/-- A shift or rotate: its result and the bit that C takes. -/
structure Shf where
  r : Nat
  c : Bool
  deriving DecidableEq, Repr

/-- Logical left. -/
def shfL (n a k : Nat) : Shf := { r := a * 2 ^ k % 2 ^ n, c := k ≠ 0 && bitOf a (n - k) }

/-- Logical right. -/
def shfR (a k : Nat) : Shf := { r := a / 2 ^ k, c := k ≠ 0 && bitOf a (k - 1) }

/-- Arithmetic right. -/
def shfA (n a k : Nat) : Shf :=
  { r := ofSigned n (toSigned n a / 2 ^ k), c := k ≠ 0 && bitOf a (k - 1) }

/-- Rotate left: C is bit 0 of the result. -/
def rotL (n a k : Nat) : Shf :=
  let r := (a * 2 ^ k % 2 ^ n) + a / 2 ^ (n - k)
  { r := r, c := k ≠ 0 && bitOf r 0 }

/-- Rotate right: C is the top bit of the result. -/
def rotR (n a k : Nat) : Shf :=
  let r := a / 2 ^ k + (a * 2 ^ (n - k) % 2 ^ n)
  { r := r, c := k ≠ 0 && bitOf r (n - 1) }

/-- Write a shift's result, with Z, N and C. -/
def Lane.shfOut (x : Lane) (w : Bool) (d : GReg) (f : Shf) : Lane :=
  (x.znOut w d f.r).setSt 2 f.c

/-- Does a condition hold (Table 09-6)? none for the reserved codes. -/
def Lane.cond (x : Lane) (c : BitVec 5) : Option Bool :=
  let z := x.stBit 0
  let n := x.stBit 1
  let cy := x.stBit 2
  let v := x.stBit 3
  let q := x.stBit 4
  match c.toNat with
  | 0x00 => some true
  | 0x01 => some z
  | 0x02 => some (!z)
  | 0x03 => some (n != v)
  | 0x04 => some (n == v)
  | 0x05 => some (z || n != v)
  | 0x06 => some (!z && n == v)
  | 0x07 => some (!cy)
  | 0x08 => some cy
  | 0x09 => some (!cy || z)
  | 0x0A => some (cy && !z)
  | 0x0B => some n
  | 0x0C => some (!n)
  | 0x0D => some v
  | 0x0E => some (!v)
  | 0x0F => some q
  | 0x10 => some (!q)
  | 0x11 => some (!z && !n && !cy)
  | 0x12 => some (z || (!n && !cy))
  | 0x13 => some cy
  | _ => none

end Sys2Proof.Machine
end

