-- ==== Sys2Proof/Machine/Alu.lean ====
section
/-! DEFINITION. Sys2Proof/Machine/Alu.lean: integer and saturating arithmetic (Table 09-7, R222,
R223). -/

namespace Sys2Proof.Machine

/-- The remainder; the minimum by -1 overflows as the quotient does. -/
def aluRem (n : Nat) (a b : Int) : Alu :=
  { r := ofSigned n (a.tmod b), c := false, v := !fitsS n (a.tdiv b) }

/-- The limited value of `d` between `a` and `b`. -/
def aluLimit (n : Nat) (d a b : Int) : Alu :=
  let r := min (max d a) b
  { r := ofSigned n r, c := false, v := r ≠ d }

/-- A division: DIV0 where the divisor is zero at the operation's width (R223). -/
def State.divide (s : State) (l : LaneId) (w : Bool) (b : GReg) (f : Lane → Lane) : State :=
  s.instr l (fun s x => if x.opv w b = 0 then .trap 5 0 else .done (s.updLane l f))

/-- ADD: gd := ga + gb. -/
def execAdd (l : LaneId) (w : Bool) (d a b : GReg) (s : State) : Out :=
  .next (s.instrLane l (fun x => x.aluOut w d (aluAdd (opWidth w) (x.opv w a) (x.opv w b))))

/-- SUB: gd := ga - gb. -/
def execSub (l : LaneId) (w : Bool) (d a b : GReg) (s : State) : Out :=
  .next (s.instrLane l (fun x => x.aluOut w d (aluSub (opWidth w) (x.opv w a) (x.opv w b))))

/-- MUL: the low half of the product; V when it does not fit signed. -/
def execMul (l : LaneId) (w : Bool) (d a b : GReg) (s : State) : Out :=
  .next (s.instrLane l (fun x => x.aluOut w d (aluInt (opWidth w) (x.opvS w a * x.opvS w b))))

/-- MULH: the high half of the signed product. -/
def execMulh (l : LaneId) (w : Bool) (d a b : GReg) (s : State) : Out :=
  .next (s.instrLane l (fun x =>
    x.aluOut w d (aluVal (opWidth w) (ofSigned (2 * opWidth w) (x.opvS w a * x.opvS w b) / 2 ^ opWidth w))))

/-- MULHU: the high half of the unsigned product. -/
def execMulhu (l : LaneId) (w : Bool) (d a b : GReg) (s : State) : Out :=
  .next (s.instrLane l (fun x =>
    x.aluOut w d (aluVal (opWidth w) (x.opv w a * x.opv w b / 2 ^ opWidth w))))

/-- DIV: the signed quotient, truncated toward zero. -/
def execDiv (l : LaneId) (w : Bool) (d a b : GReg) (s : State) : Out :=
  .next (s.divide l w b (fun x =>
    x.aluOut w d (aluInt (opWidth w) ((x.opvS w a).tdiv (x.opvS w b)))))

/-- DIVU: the unsigned quotient. -/
def execDivu (l : LaneId) (w : Bool) (d a b : GReg) (s : State) : Out :=
  .next (s.divide l w b (fun x => x.aluOut w d (aluVal (opWidth w) (x.opv w a / x.opv w b))))

/-- REM: the signed remainder, with the sign of ga; minimum by -1 gives 0 with V = 1. -/
def execRem (l : LaneId) (w : Bool) (d a b : GReg) (s : State) : Out :=
  .next (s.divide l w b (fun x => x.aluOut w d (aluRem (opWidth w) (x.opvS w a) (x.opvS w b))))

/-- REMU: the unsigned remainder. -/
def execRemu (l : LaneId) (w : Bool) (d a b : GReg) (s : State) : Out :=
  .next (s.divide l w b (fun x => x.aluOut w d (aluVal (opWidth w) (x.opv w a % x.opv w b))))

/-- ADDS: signed saturating sum. -/
def execAdds (l : LaneId) (w : Bool) (d a b : GReg) (s : State) : Out :=
  .next (s.instrLane l (fun x => x.aluOut w d (aluSat (opWidth w) (x.opvS w a + x.opvS w b))))

/-- SUBS: signed saturating difference. -/
def execSubs (l : LaneId) (w : Bool) (d a b : GReg) (s : State) : Out :=
  .next (s.instrLane l (fun x => x.aluOut w d (aluSat (opWidth w) (x.opvS w a - x.opvS w b))))

/-- MULS: signed saturating product. -/
def execMuls (l : LaneId) (w : Bool) (d a b : GReg) (s : State) : Out :=
  .next (s.instrLane l (fun x => x.aluOut w d (aluSat (opWidth w) (x.opvS w a * x.opvS w b))))

/-- ADDSU: unsigned saturating sum. -/
def execAddsu (l : LaneId) (w : Bool) (d a b : GReg) (s : State) : Out :=
  .next (s.instrLane l (fun x =>
    x.aluOut w d (aluSatU (opWidth w) ((x.opv w a : Int) + x.opv w b))))

/-- SUBSU: unsigned saturating difference. -/
def execSubsu (l : LaneId) (w : Bool) (d a b : GReg) (s : State) : Out :=
  .next (s.instrLane l (fun x =>
    x.aluOut w d (aluSatU (opWidth w) ((x.opv w a : Int) - x.opv w b))))

/-- NEG: gd := 0 - ga, flags as a subtraction. -/
def execNeg (l : LaneId) (w : Bool) (d a : GReg) (s : State) : Out :=
  .next (s.instrLane l (fun x => x.aluOut w d (aluSub (opWidth w) 0 (x.opv w a))))

/-- NEGS: as NEG, but the minimum gives the maximum. -/
def execNegs (l : LaneId) (w : Bool) (d a : GReg) (s : State) : Out :=
  .next (s.instrLane l (fun x => x.aluOut w d (aluSat (opWidth w) (-(x.opvS w a)))))

/-- ABS: the magnitude; the minimum gives the minimum with V = 1. -/
def execAbs (l : LaneId) (w : Bool) (d a : GReg) (s : State) : Out :=
  .next (s.instrLane l (fun x => x.aluOut w d (aluInt (opWidth w) (x.opvS w a).natAbs)))

/-- ABSS: the magnitude; the minimum gives the maximum. -/
def execAbss (l : LaneId) (w : Bool) (d a : GReg) (s : State) : Out :=
  .next (s.instrLane l (fun x => x.aluOut w d (aluSat (opWidth w) (x.opvS w a).natAbs)))

/-- MIN: the signed minimum. -/
def execMin (l : LaneId) (w : Bool) (d a b : GReg) (s : State) : Out :=
  .next (s.instrLane l (fun x =>
    x.aluOut w d (aluVal (opWidth w) (ofSigned (opWidth w) (min (x.opvS w a) (x.opvS w b))))))

/-- MAX: the signed maximum. -/
def execMax (l : LaneId) (w : Bool) (d a b : GReg) (s : State) : Out :=
  .next (s.instrLane l (fun x =>
    x.aluOut w d (aluVal (opWidth w) (ofSigned (opWidth w) (max (x.opvS w a) (x.opvS w b))))))

/-- MINU: the unsigned minimum. -/
def execMinu (l : LaneId) (w : Bool) (d a b : GReg) (s : State) : Out :=
  .next (s.instrLane l (fun x => x.aluOut w d (aluVal (opWidth w) (min (x.opv w a) (x.opv w b)))))

/-- MAXU: the unsigned maximum. -/
def execMaxu (l : LaneId) (w : Bool) (d a b : GReg) (s : State) : Out :=
  .next (s.instrLane l (fun x => x.aluOut w d (aluVal (opWidth w) (max (x.opv w a) (x.opv w b)))))

/-- LIMIT: gd := min(max(gd, ga), gb); V = 1 when gd changed. -/
def execLimit (l : LaneId) (w : Bool) (d a b : GReg) (s : State) : Out :=
  .next (s.instrLane l (fun x =>
    x.aluOut w d (aluLimit (opWidth w) (x.opvS w d) (x.opvS w a) (x.opvS w b))))

/-- ADDI: gd := ga + sign-extended IMM, flags as ADD. -/
def execAddi (l : LaneId) (w : Bool) (d a : GReg) (imm : BitVec 16) (s : State) : Out :=
  .next (s.instrLane l (fun x =>
    x.aluOut w d (aluAdd (opWidth w) (x.opv w a) (immS imm % 2 ^ opWidth w))))

end Sys2Proof.Machine
end

