-- ==== Sys2Proof/Machine/FloatOps.lean ====
section
/-! DEFINITION. Sys2Proof/Machine/FloatOps.lean: IEEE 754-2019 binary32 and binary64 by exact integer
arithmetic and one rounding (R228). -/

namespace Sys2Proof.Machine

/-- A binary format: fraction bits and exponent bits. -/
structure Fmt where
  mb : Nat
  eb : Nat
  deriving DecidableEq, Repr

/-- binary32 with P = 0, binary64 with P = 1. -/
def fmtOf (p : Bool) : Fmt := if p then { mb := 52, eb := 11 } else { mb := 23, eb := 8 }

/-- The exponent bias. -/
def Fmt.bias (f : Fmt) : Int := 2 ^ (f.eb - 1) - 1

/-- The exponent of the lowest fraction bit of subnormals. -/
def Fmt.elow (f : Fmt) : Int := 1 - f.bias - f.mb

/-- The width of the format. -/
def Fmt.width (f : Fmt) : Nat := f.mb + f.eb + 1

/-- A datum: a finite one is (-1)^sign * m * 2^e. -/
inductive FV where
  | nan (signalling : Bool)
  | inf (sign : Bool)
  | fin (sign : Bool) (m : Nat) (e : Int)
  deriving DecidableEq, Repr

/-- The exceptions that an operation raises: invalid, overflow, underflow, inexact, division by
zero. -/
structure FX where
  fi : Bool
  fo : Bool
  fu : Bool
  fx : Bool
  fz : Bool
  deriving DecidableEq, Repr

/-- No exception. -/
def FX.none : FX := { fi := false, fo := false, fu := false, fx := false, fz := false }

/-- Invalid. -/
def FX.invalid : FX := { FX.none with fi := true }

/-- The datum that a bit pattern holds. -/
def unpack (f : Fmt) (v : Nat) : FV :=
  let fr := bitsOf v 0 f.mb
  let ex := bitsOf v f.mb f.eb
  let s := bitOf v (f.mb + f.eb)
  if ex = 2 ^ f.eb - 1 then
    if fr = 0 then .inf s else .nan (!bitOf fr (f.mb - 1))
  else if ex = 0 then .fin s fr f.elow
  else .fin s (fr + 2 ^ f.mb) (f.elow + ex - 1)

/-- The canonical quiet NaN. -/
def nanBits (f : Fmt) : Nat := (2 ^ f.eb - 1) * 2 ^ f.mb + 2 ^ (f.mb - 1)

/-- The sign bit. -/
def signBits (f : Fmt) (s : Bool) : Nat := if s then 2 ^ (f.mb + f.eb) else 0

/-- An infinity. -/
def infBits (f : Fmt) (s : Bool) : Nat := signBits f s + (2 ^ f.eb - 1) * 2 ^ f.mb

/-- The greatest finite magnitude. -/
def maxBits (f : Fmt) (s : Bool) : Nat := infBits f s - 1

/-- The number of significant bits. -/
def bitLen (m : Nat) : Nat := if m = 0 then 0 else Nat.log2 m + 1

/-- Round `m * 2^e` (with `st`: a little more than that) to a multiple of 2^q: the multiple and
whether it is inexact. Modes as ST.RM: 0 nearest even, 1 toward zero, 2 up, 3 down. -/
def roundAt (rm : Nat) (s : Bool) (m : Nat) (e : Int) (st : Bool) (q : Int) : Nat × Bool :=
  if q ≤ e then (m * 2 ^ (e - q).toNat, st)
  else
    let k := (q - e).toNat
    let hi := m / 2 ^ k
    let lo := m % 2 ^ k
    let half := 2 ^ (k - 1)
    let inex := lo ≠ 0 || st
    let up := match rm with
      | 0 => lo > half || (lo = half && (st || hi % 2 = 1))
      | 1 => false
      | 2 => inex && !s
      | _ => inex && s
    (if up then hi + 1 else hi, inex)

/-- Round and pack a finite nonzero value, with its exceptions; tininess after rounding. -/
def roundPack (f : Fmt) (rm : Nat) (s : Bool) (m : Nat) (e : Int) (st : Bool) : Nat × FX :=
  let p : Int := f.mb + 1
  let q0 : Int := e + bitLen m - p
  let q := max q0 f.elow
  let r := roundAt rm s m e st q
  let q2 := if r.1 = 2 ^ (f.mb + 1) then q + 1 else q
  let m2 := if r.1 = 2 ^ (f.mb + 1) then 2 ^ f.mb else r.1
  let r0 := roundAt rm s m e st q0
  let tiny := if r0.1 = 2 ^ (f.mb + 1) then decide (q0 + 1 < f.elow) else decide (q0 < f.elow)
  if 2 ^ f.mb ≤ m2 ∧ q2 + f.mb > f.bias then
    let toInf := rm = 0 || (rm = 2 && !s) || (rm = 3 && s)
    (if toInf then infBits f s else maxBits f s, { FX.none with fo := true, fx := true })
  else
    let bits := if m2 < 2 ^ f.mb then m2
      else ((q2 - f.elow).toNat + 1) * 2 ^ f.mb + (m2 - 2 ^ f.mb)
    (signBits f s + bits, { FX.none with fx := r.2, fu := tiny && r.2 })

/-- Round and pack a value that may be zero; an exact zero has the sign `s`. -/
def packVal (f : Fmt) (rm : Nat) (s : Bool) (m : Nat) (e : Int) (st : Bool) : Nat × FX :=
  if m = 0 then (signBits f s, FX.none) else roundPack f rm s m e st

/-- The exact signed sum of two finite values at their lower exponent. -/
def sumExact (s1 : Bool) (m1 : Nat) (e1 : Int) (s2 : Bool) (m2 : Nat) (e2 : Int) : Int × Int :=
  let e := min e1 e2
  let a : Int := m1 * 2 ^ (e1 - e).toNat
  let b : Int := m2 * 2 ^ (e2 - e).toNat
  ((if s1 then -a else a) + (if s2 then -b else b), e)

/-- The sign of an exact zero sum: that of both operands where they agree, otherwise plus, or minus
when rounding down. -/
def zeroSign (rm : Nat) (s1 s2 : Bool) : Bool := if s1 = s2 then s1 else rm = 3

/-- Is either operand a signalling NaN? -/
def anySnan (a b : FV) : Bool := a = .nan true || b = .nan true

/-- The canonical NaN with FI for a signalling operand. -/
def nanRes (f : Fmt) (inv : Bool) : Nat × FX := (nanBits f, { FX.none with fi := inv })

/-- Addition. -/
def fAdd (f : Fmt) (rm : Nat) (a b : FV) : Nat × FX :=
  match a, b with
  | .nan _, _ => nanRes f (anySnan a b)
  | _, .nan _ => nanRes f (anySnan a b)
  | .inf s, .inf t => if s = t then (infBits f s, FX.none) else nanRes f true
  | .inf s, .fin _ _ _ => (infBits f s, FX.none)
  | .fin _ _ _, .inf t => (infBits f t, FX.none)
  | .fin s1 m1 e1, .fin s2 m2 e2 =>
    let r := sumExact s1 m1 e1 s2 m2 e2
    if r.1 = 0 then (signBits f (zeroSign rm s1 s2), FX.none)
    else packVal f rm (r.1 < 0) r.1.natAbs r.2 false

/-- The negated datum. -/
def fvNeg : FV → FV
  | .nan q => .nan q
  | .inf s => .inf (!s)
  | .fin s m e => .fin (!s) m e

/-- Multiplication. -/
def fMul (f : Fmt) (rm : Nat) (a b : FV) : Nat × FX :=
  match a, b with
  | .nan _, _ => nanRes f (anySnan a b)
  | _, .nan _ => nanRes f (anySnan a b)
  | .inf s, .inf t => (infBits f (s != t), FX.none)
  | .inf s, .fin t m _ => if m = 0 then nanRes f true else (infBits f (s != t), FX.none)
  | .fin t m _, .inf s => if m = 0 then nanRes f true else (infBits f (s != t), FX.none)
  | .fin s1 m1 e1, .fin s2 m2 e2 => packVal f rm (s1 != s2) (m1 * m2) (e1 + e2) false

/-- Division. -/
def fDiv (f : Fmt) (rm : Nat) (a b : FV) : Nat × FX :=
  match a, b with
  | .nan _, _ => nanRes f (anySnan a b)
  | _, .nan _ => nanRes f (anySnan a b)
  | .inf _, .inf _ => nanRes f true
  | .inf s, .fin t _ _ => (infBits f (s != t), FX.none)
  | .fin s _ _, .inf t => (signBits f (s != t), FX.none)
  | .fin s1 m1 e1, .fin s2 m2 e2 =>
    if m2 = 0 then
      if m1 = 0 then nanRes f true
      else (infBits f (s1 != s2), { FX.none with fz := true })
    else
      let k := f.mb + 4 + bitLen m2
      let n := m1 * 2 ^ k
      packVal f rm (s1 != s2) (n / m2) (e1 - e2 - k) (n % m2 ≠ 0)

/-- The integer square root, bit by bit from 2^(k-1) down. -/
def isqrt (n : Nat) : Nat → Nat → Nat
  | 0, r => r
  | k + 1, r =>
    let t := r + 2 ^ k
    isqrt n k (if t * t ≤ n then t else r)

/-- Square root. -/
def fSqrt (f : Fmt) (rm : Nat) (a : FV) : Nat × FX :=
  match a with
  | .nan q => nanRes f q
  | .inf s => if s then nanRes f true else (infBits f false, FX.none)
  | .fin s m e =>
    if m = 0 then (signBits f s, FX.none)
    else if s then nanRes f true
    else
      let k := 2 * (f.mb + 4) + (if e % 2 = 0 then 0 else 1)
      let n := m * 2 ^ k
      let r := isqrt n (bitLen n / 2 + 1) 0
      packVal f rm false r ((e - k) / 2) (r * r ≠ n)

/-- Is one factor an infinity and the other a zero? -/
def infZero (a b : FV) : Bool :=
  match a, b with
  | .inf _, .fin _ m _ => m = 0
  | .fin _ m _, .inf _ => m = 0
  | _, _ => false

/-- Fused multiply-add: c + a * b, rounded once; FI for infinity by zero whatever the addend. -/
def fMa (f : Fmt) (rm : Nat) (a b c : FV) : Nat × FX :=
  let sn := anySnan a b || c = .nan true
  if infZero a b then nanRes f true
  else match a, b, c with
  | .nan _, _, _ => nanRes f sn
  | _, .nan _, _ => nanRes f sn
  | _, _, .nan _ => nanRes f sn
  | .fin s1 m1 e1, .fin s2 m2 e2, .fin s3 m3 e3 =>
    let sp := s1 != s2
    let r := sumExact sp (m1 * m2) (e1 + e2) s3 m3 e3
    if r.1 = 0 then (signBits f (zeroSign rm sp s3), FX.none)
    else packVal f rm (r.1 < 0) r.1.natAbs r.2 false
  | .fin _ _ _, .fin _ _ _, .inf t => (infBits f t, FX.none)
  | .inf s, .inf t, .fin _ _ _ => (infBits f (s != t), FX.none)
  | .inf s, .fin t _ _, .fin _ _ _ => (infBits f (s != t), FX.none)
  | .fin s _ _, .inf t, .fin _ _ _ => (infBits f (s != t), FX.none)
  | .inf s, .inf t, .inf u => if (s != t) = u then (infBits f u, FX.none) else nanRes f true
  | .inf s, .fin t _ _, .inf u => if (s != t) = u then (infBits f u, FX.none) else nanRes f true
  | .fin s _ _, .inf t, .inf u => if (s != t) = u then (infBits f u, FX.none) else nanRes f true

/-- Is `a < b` among ordered data, with -0 below +0 where `zeros`? -/
def fLess (zeros : Bool) (a b : FV) : Bool :=
  match a, b with
  | .inf s, .inf t => s && !t
  | .inf s, .fin _ _ _ => s
  | .fin _ _ _, .inf t => !t
  | .fin s1 m1 e1, .fin s2 m2 e2 =>
    let r := sumExact s1 m1 e1 (!s2) m2 e2
    r.1 < 0 || (zeros && m1 = 0 && m2 = 0 && s1 && !s2)
  | _, _ => false

/-- Are two ordered data equal? -/
def fEq (a b : FV) : Bool :=
  match a, b with
  | .inf s, .inf t => s = t
  | .fin s1 m1 e1, .fin s2 m2 e2 => (sumExact s1 m1 e1 (!s2) m2 e2).1 = 0
  | _, _ => false

/-- minimumNumber and maximumNumber on the patterns of two operands. -/
def fMinMax (f : Fmt) (wantMax : Bool) (va vb : Nat) : Nat × FX :=
  let a := unpack f va
  let b := unpack f vb
  let x : FX := { FX.none with fi := anySnan a b }
  match a, b with
  | .nan _, .nan _ => (nanBits f, x)
  | .nan _, _ => (vb, x)
  | _, .nan _ => (va, x)
  | _, _ => (if fLess true a b != wantMax then va else vb, x)

/-- The class bit of FCLASS. -/
def fClass (f : Fmt) (v : Nat) : Nat :=
  match unpack f v with
  | .inf true => 0
  | .inf false => 7
  | .nan true => 8
  | .nan false => 9
  | .fin s m _ =>
    if m = 0 then (if s then 3 else 4)
    else if m < 2 ^ f.mb then (if s then 2 else 5)
    else (if s then 1 else 6)

/-- A finite value rounded to an integer; whether it is inexact. -/
def fToInt (rm : Nat) (s : Bool) (m : Nat) (e : Int) : Int × Bool :=
  let r := roundAt rm s m e false 0
  (if s then -(r.1 : Int) else r.1, r.2)

end Sys2Proof.Machine
end

