-- ==== Sys2Proof/Machine/Float.lean ====
section
/-! DEFINITION. Sys2Proof/Machine/Float.lean: the float instructions (Table 09-11, R228). -/

namespace Sys2Proof.Machine

/-- A float operand at its precision; a binary32 ignores the upper half of its register. -/
def Lane.fop (x : Lane) (p : Bool) (r : GReg) : Nat := (x.gpr r).toNat % 2 ^ (fmtOf p).width

/-- A float operand as a datum. -/
def Lane.fval (x : Lane) (p : Bool) (r : GReg) : FV := unpack (fmtOf p) (x.fop p r)

/-- ST.RM. -/
def Lane.rm (x : Lane) : Nat := bitsOf x.st.toNat 6 2

/-- Set a bit of ST where `b` holds; a sticky bit is never cleared here. -/
def Lane.stick (x : Lane) (n : Nat) (b : Bool) : Lane := if b then x.setSt n true else x

/-- Each exception sets its sticky bit in ST. -/
def Lane.sticky (x : Lane) (e : FX) : Lane :=
  ((((x.stick 8 e.fi).stick 9 e.fo).stick 10 e.fu).stick 11 e.fx).stick 12 e.fz

/-- Write a float result, bits 63:32 zero for binary32, with its exceptions. -/
def Lane.fout (x : Lane) (d : GReg) (r : Nat × FX) : Lane :=
  (x.setGpr d (BitVec.ofNat 64 r.1)).sticky r.2

/-- FADD: ga + gb. -/
def execFadd (l : LaneId) (p : Bool) (d a b : GReg) (s : State) : Out :=
  .next (s.instrLane l (fun x => x.fout d (fAdd (fmtOf p) x.rm (x.fval p a) (x.fval p b))))

/-- FSUB: ga - gb. -/
def execFsub (l : LaneId) (p : Bool) (d a b : GReg) (s : State) : Out :=
  .next (s.instrLane l (fun x => x.fout d (fAdd (fmtOf p) x.rm (x.fval p a) (fvNeg (x.fval p b)))))

/-- FMUL: ga * gb. -/
def execFmul (l : LaneId) (p : Bool) (d a b : GReg) (s : State) : Out :=
  .next (s.instrLane l (fun x => x.fout d (fMul (fmtOf p) x.rm (x.fval p a) (x.fval p b))))

/-- FDIV: ga / gb. -/
def execFdiv (l : LaneId) (p : Bool) (d a b : GReg) (s : State) : Out :=
  .next (s.instrLane l (fun x => x.fout d (fDiv (fmtOf p) x.rm (x.fval p a) (x.fval p b))))

/-- FSQRT: the square root of ga. -/
def execFsqrt (l : LaneId) (p : Bool) (d a : GReg) (s : State) : Out :=
  .next (s.instrLane l (fun x => x.fout d (fSqrt (fmtOf p) x.rm (x.fval p a))))

/-- FMA: gd + ga * gb, rounded once. -/
def execFma (l : LaneId) (p : Bool) (d a b : GReg) (s : State) : Out :=
  .next (s.instrLane l (fun x => x.fout d (fMa (fmtOf p) x.rm (x.fval p a) (x.fval p b) (x.fval p d))))

/-- FMIN: minimumNumber. -/
def execFmin (l : LaneId) (p : Bool) (d a b : GReg) (s : State) : Out :=
  .next (s.instrLane l (fun x => x.fout d (fMinMax (fmtOf p) false (x.fop p a) (x.fop p b))))

/-- FMAX: maximumNumber. -/
def execFmax (l : LaneId) (p : Bool) (d a b : GReg) (s : State) : Out :=
  .next (s.instrLane l (fun x => x.fout d (fMinMax (fmtOf p) true (x.fop p a) (x.fop p b))))

/-- FABS: the sign bit cleared. -/
def execFabs (l : LaneId) (p : Bool) (d a : GReg) (s : State) : Out :=
  .next (s.instrLane l (fun x => x.fout d (x.fop p a % 2 ^ ((fmtOf p).width - 1), FX.none)))

/-- FNEG: the sign bit inverted. -/
def execFneg (l : LaneId) (p : Bool) (d a : GReg) (s : State) : Out :=
  .next (s.instrLane l (fun x =>
    x.fout d (Nat.xor (x.fop p a) (2 ^ ((fmtOf p).width - 1)), FX.none)))

/-- Is either datum a NaN? -/
def unordered : FV → FV → Bool
  | .nan _, _ => true
  | _, .nan _ => true
  | _, _ => false

/-- FCMP: Z equal, N less, C unordered, V cleared; FI for a signalling NaN. -/
def execFcmp (l : LaneId) (p : Bool) (a b : GReg) (s : State) : Out :=
  .next (s.instrLane l (fun x =>
    let u := x.fval p a
    let v := x.fval p b
    (x.setZncv (fEq u v) (fLess false u v) (unordered u v) false).sticky
      { FX.none with fi := anySnan u v }))

/-- FCLASS: one bit set by the class of ga. -/
def execFclass (l : LaneId) (p : Bool) (d a : GReg) (s : State) : Out :=
  .next (s.instrLane l (fun x =>
    x.setGpr d (BitVec.ofNat 64 (2 ^ fClass (fmtOf p) (x.fop p a)))))

end Sys2Proof.Machine
end

