-- ==== Sys2Proof/Machine/Convert.lean ====
section
/-! DEFINITION. Sys2Proof/Machine/Convert.lean: the conversions (Table 09-12, R229). -/

namespace Sys2Proof.Machine

/-- Write an integer result of 64 bits, with Z and N. -/
def Lane.intOut (x : Lane) (d : GReg) (r : Nat) : Lane := x.znOut false d r

/-- A conversion with a size code: the reserved size is ILLEGAL. -/
def State.sized (s : State) (l : LaneId) (sz : BitVec 2) (f : State → Nat → Lane → IRes) : State :=
  s.instr l (fun s x => if sz = 3 then .trap 1 0 else f s (8 * 2 ^ sz.toNat) x)

/-- SEXT: sign-extension from SZ. -/
def execSext (l : LaneId) (sz : BitVec 2) (d a : GReg) (s : State) : Out :=
  .next (s.sized l sz (fun s n x =>
    .done (s.updLane l (fun y => y.intOut d (ofSigned 64 (toSigned n (x.gpr a).toNat))))))

/-- ZEXT: zero-extension from SZ. -/
def execZext (l : LaneId) (sz : BitVec 2) (d a : GReg) (s : State) : Out :=
  .next (s.sized l sz (fun s n x =>
    .done (s.updLane l (fun y => y.intOut d ((x.gpr a).toNat % 2 ^ n)))))

/-- An integer as a float of a format. -/
def intToFloat (f : Fmt) (rm : Nat) (v : Int) : Nat × FX :=
  packVal f rm (v < 0) v.natAbs 0 false

/-- CVT.IF: Int64 to float, rounded by RM. -/
def execCvtIf (l : LaneId) (p : Bool) (d a : GReg) (s : State) : Out :=
  .next (s.instrLane l (fun x =>
    x.fout d (intToFloat (fmtOf p) x.rm (toSigned 64 (x.gpr a).toNat))))

/-- CVT.UF: UInt64 to float, rounded by RM. -/
def execCvtUf (l : LaneId) (p : Bool) (d a : GReg) (s : State) : Out :=
  .next (s.instrLane l (fun x => x.fout d (intToFloat (fmtOf p) x.rm (x.gpr a).toNat)))

/-- A float to an integer between `lo` and `hi`: CONV for a NaN, an infinity or a rounded value out
of range; FX when the operand was not an integer. -/
def State.toInt (s : State) (l : LaneId) (p : Bool) (d a : GReg) (trunc : Bool) (lo hi : Int) :
    State :=
  s.instr l (fun s x =>
    match x.fval p a with
    | .nan _ => .trap 6 0
    | .inf _ => .trap 6 0
    | .fin sg m e =>
      let r := fToInt (if trunc then 1 else x.rm) sg m e
      if r.1 < lo || hi < r.1 then .trap 6 0
      else .done (s.updLane l (fun y =>
        (y.intOut d (ofSigned 64 r.1)).sticky { FX.none with fx := r.2 })))

/-- CVT.FI: float to Int64, rounded by RM. -/
def execCvtFi (l : LaneId) (p : Bool) (d a : GReg) (s : State) : Out :=
  .next (s.toInt l p d a false (-(2 ^ 63)) (2 ^ 63 - 1))

/-- CVT.FU: float to UInt64, rounded by RM. -/
def execCvtFu (l : LaneId) (p : Bool) (d a : GReg) (s : State) : Out :=
  .next (s.toInt l p d a false 0 (2 ^ 64 - 1))

/-- TRUNC.FI: float to Int64, toward zero. -/
def execTruncFi (l : LaneId) (p : Bool) (d a : GReg) (s : State) : Out :=
  .next (s.toInt l p d a true (-(2 ^ 63)) (2 ^ 63 - 1))

/-- TRUNC.FU: float to UInt64, toward zero. -/
def execTruncFu (l : LaneId) (p : Bool) (d a : GReg) (s : State) : Out :=
  .next (s.toInt l p d a true 0 (2 ^ 64 - 1))

/-- A datum in another format; a NaN is canonical, a signalling one sets FI. -/
def fToF (f : Fmt) (rm : Nat) : FV → Nat × FX
  | .nan q => nanRes f q
  | .inf sg => (infBits f sg, FX.none)
  | .fin sg m e => packVal f rm sg m e false

/-- CVT.SD: binary32 to binary64, exact. -/
def execCvtSd (l : LaneId) (d a : GReg) (s : State) : Out :=
  .next (s.instrLane l (fun x => x.fout d (fToF (fmtOf true) x.rm (x.fval false a))))

/-- CVT.DS: binary64 to binary32, rounded by RM. -/
def execCvtDs (l : LaneId) (d a : GReg) (s : State) : Out :=
  .next (s.instrLane l (fun x => x.fout d (fToF (fmtOf false) x.rm (x.fval true a))))

/-- NRW: gd := ga when it fits the signed SZ, else CONV. -/
def execNrw (l : LaneId) (sz : BitVec 2) (d a : GReg) (s : State) : Out :=
  .next (s.sized l sz (fun s n x =>
    if fitsS n (toSigned 64 (x.gpr a).toNat) then
      .done (s.updLane l (fun y => y.intOut d (x.gpr a).toNat))
    else .trap 6 0))

/-- NRWU: gd := ga when it fits the unsigned SZ, else CONV. -/
def execNrwu (l : LaneId) (sz : BitVec 2) (d a : GReg) (s : State) : Out :=
  .next (s.sized l sz (fun s n x =>
    if (x.gpr a).toNat < 2 ^ n then
      .done (s.updLane l (fun y => y.intOut d (x.gpr a).toNat))
    else .trap 6 0))

/-- The 16 nibbles of a doubleword, least significant first. -/
def nibbles (v : Nat) : List Nat := (List.range 16).map (fun i => bitsOf v (4 * i) 4)

/-- The number whose digits of base `b` are given least significant first. -/
def ofDigits (b : Nat) : List Nat → Nat
  | [] => 0
  | x :: xs => x + b * ofDigits b xs

/-- The `n` digits of base 10 of a number, least significant first. -/
def decDigits : Nat → Nat → List Nat
  | 0, _ => []
  | n + 1, v => v % 10 :: decDigits n (v / 10)

/-- BCD2I: 16 BCD digits to an unsigned value; CONV with a nibble above 9. -/
def execBcd2i (l : LaneId) (d a : GReg) (s : State) : Out :=
  .next (s.instr l (fun s x =>
    let ns := nibbles (x.gpr a).toNat
    if ns.any (fun n => 9 < n) then .trap 6 0
    else .done (s.updLane l (fun y => y.intOut d (ofDigits 10 ns)))))

/-- I2BCD: an unsigned value to 16 BCD digits; CONV from 10^16 on. -/
def execI2bcd (l : LaneId) (d a : GReg) (s : State) : Out :=
  .next (s.instr l (fun s x =>
    let v := (x.gpr a).toNat
    if 10 ^ 16 ≤ v then .trap 6 0
    else .done (s.updLane l (fun y => y.intOut d (ofDigits 16 (decDigits 16 v))))))

end Sys2Proof.Machine
end

