-- ==== Sys2Proof/Machine/MemAccess.lean ====
section
/-! DEFINITION. Sys2Proof/Machine/MemAccess.lean: instance, constant and general loads and stores
(R230 to R234). -/

namespace Sys2Proof.Machine

/-- The byte mask of an access within its aligned 8-byte word. -/
def laneMask (a n : Nat) : Nat := (2 ^ n - 1) * 2 ^ (a % 8)

/-- The address base + OFF * size of an instance or constant access. -/
def xAddr (base : Word) (off : BitVec 14) (sz : BitVec 2) : Nat :=
  (base.toNat + off.toNat * sizeBytes sz) % 2 ^ 32

/-- A local load into a register. -/
def State.loadTo (s : State) (l : LaneId) (d : GReg) (a n : Nat) (signed : Bool) : IRes :=
  s.localLoad l a n (fun s v => .done (s.updLane l (fun y => y.setGpr d (extend signed n v))))

/-- LDI: sign-extended instance load. -/
def execLdi (l : LaneId) (sz : BitVec 2) (d : GReg) (off : BitVec 14) (s : State) : Out :=
  .next (s.instr l (fun s x => s.loadTo l d (xAddr x.ib off sz) (sizeBytes sz) true))

/-- LDIU: zero-extended instance load. -/
def execLdiu (l : LaneId) (sz : BitVec 2) (d : GReg) (off : BitVec 14) (s : State) : Out :=
  .next (s.instr l (fun s x => s.loadTo l d (xAddr x.ib off sz) (sizeBytes sz) false))

/-- STI: instance store. -/
def execSti (l : LaneId) (sz : BitVec 2) (d : GReg) (off : BitVec 14) (s : State) : Out :=
  .next (s.instr l (fun s x => s.localStore l (xAddr x.ib off sz) (sizeBytes sz) (x.gpr d).toNat))

/-- LDC: sign-extended constant load. -/
def execLdc (l : LaneId) (sz : BitVec 2) (d : GReg) (off : BitVec 14) (s : State) : Out :=
  .next (s.instr l (fun s x => s.loadTo l d (xAddr x.cb off sz) (sizeBytes sz) true))

/-- LDCU: zero-extended constant load. -/
def execLdcu (l : LaneId) (sz : BitVec 2) (d : GReg) (off : BitVec 14) (s : State) : Out :=
  .next (s.instr l (fun s x => s.loadTo l d (xAddr x.cb off sz) (sizeBytes sz) false))

/-- Send a READ and wait for its replicated response. -/
def State.readSend (s : State) (l : LaneId) (a mask : Nat) (dst : ReadDest) : State :=
  let q := (s.lane l).seq
  (s.send l 8 a 0 mask).updLane l (fun x => { x with exec := .waitRead q dst })

/-- A demand read that the held-read buffer serves (R145): its READ is voted and not made, and it
consumes the entry. -/
def State.readHeld (s : State) (l : LaneId) (d : GReg) (a n : Nat) (signed : Bool) (w : DWord) :
    State :=
  let x := s.lane l
  let t : Txn := { kind := 8, addr := a / 8 * 8, data := 0, mask := laneMask a n
                   poison := x.poison, seq := x.seq, held := true }
  let s1 := s.updLane l (fun y => { y with out := y.out ++ [t], seq := y.seq + 1 })
  (s1.heldTake l a).updLane l (fun y =>
    y.setGpr d (extend signed n (w.toNat / 2 ^ (8 * (a % 8)))))

/-- After a general load whose READ is made at the target, the core prefetches the next word of a
region with EFFECT = 0 (R144); a load that R142 refuses is not followed by one. -/
def State.prefetchNext (s : State) (l : LaneId) (a : Nat) : State :=
  let n := (a / 8 * 8 + 8) % 2 ^ 32
  let refused := s.mode = 2 && s.indep l && !(s.attrs a).soloOk
  if isPrivate n || (s.attrs n).effect || refused then s
  else
    let q := (s.lane l).seq
    (s.send l 9 n 0 0xFF).updLane l (fun x => { x with prefetch := x.prefetch ++ [q] })

/-- A general load (R231). DESIGN CHOICE (log entry 114): a load of a word whose prefetch has not been
answered makes its own READ at the target. -/
def State.genLoad (s : State) (l : LaneId) (d : GReg) (a n : Nat) (signed : Bool) : IRes :=
  if a % n ≠ 0 then .trap 2 a
  else if isPrivate a then s.loadTo l d a n signed
  else match s.heldAt l a with
    | some w => .done (s.readHeld l d a n signed w)
    | none => .done ((s.readSend l (a / 8 * 8) (laneMask a n) (.load d (a % 8) n signed)).prefetchNext l a)

/-- LD: general load, sign-extended. -/
def execLd (l : LaneId) (sz : BitVec 2) (d a : GReg) (imm : BitVec 16) (s : State) : Out :=
  .next (s.instr l (fun s x => s.genLoad l d (x.ea a imm) (sizeBytes sz) true))

/-- LDU: general load, zero-extended; there is no LDU.D (Table 09-5). -/
def execLdu (l : LaneId) (sz : BitVec 2) (d a : GReg) (imm : BitVec 16) (s : State) : Out :=
  .next (s.instr l (fun s x =>
    if sz = 3 then .trap 1 0 else s.genLoad l d (x.ea a imm) (sizeBytes sz) false))

/-- ST: general store: local in the active half, elsewhere the commit point STORE (R231, R232). -/
def execSt (l : LaneId) (sz : BitVec 2) (d a : GReg) (imm : BitVec 16) (s : State) : Out :=
  .next (s.instr l (fun s x =>
    let e := x.ea a imm
    let n := sizeBytes sz
    let v := (x.gpr d).toNat
    if e % n ≠ 0 then .trap 2 e
    else if isPrivate e then s.localStore l e n v
    else .done ((s.heldStore l e).send l 0 (e / 8 * 8)
      (v % 2 ^ (8 * n) * 2 ^ (8 * (e % 8))) (laneMask e n))))

end Sys2Proof.Machine
end

