-- ==== Sys2Proof/Machine/Timers.lean ====
section
/-! DEFINITION. Sys2Proof/Machine/Timers.lean: timers and edge detectors (R235 to R237, R283). -/

namespace Sys2Proof.Machine

/-- A timer slot: the start stamp, RUN and PIN. -/
structure Slot where
  start : Nat
  run : Bool
  pin : Bool
  deriving DecidableEq, Repr

/-- The slot at an address of a lane's memory. -/
def State.slotAt (s : State) (l : LaneId) (a : Nat) : Slot :=
  let f := s.lread l (a + 8) 8
  { start := s.lread l a 8, run := bitOf f 0, pin := bitOf f 1 }

/-- A slot written back whole: two records of the write signature. -/
def State.slotPut (s : State) (l : LaneId) (a : Nat) (t : Slot) : State :=
  (s.lstore l a 8 t.start).lstore l (a + 8) 8 (bitNat t.run + 2 * bitNat t.pin)

/-- The checks of a slot access and what follows them; a slot that is written may not lie in the
code or constant range (R232). -/
def State.withSlot (s : State) (l : LaneId) (writes : Bool) (slot : BitVec 13)
    (f : State → Lane → Nat → IRes) : State :=
  s.instr l (fun s x =>
    let a := (x.ib.toNat + 16 * slot.toNat) % 2 ^ 32
    if a % 8 ≠ 0 then .trap 2 a
    else if !s.inActive a 16 || (writes && s.fixedRange a 16) then .trap 3 a
    else if s.lbad l a then .ded s a
    else if s.lbad l (a + 8) then .ded (s.lseen l a) (a + 8)
    else f ((s.lseen l a).lseen l (a + 8)) x a)

/-- The input of a timer or edge. -/
def Lane.inBit (x : Lane) (d : GReg) : Bool := x.gpr d ≠ 0

/-- The preset: a signed Time, zero or less acts as zero. -/
def Lane.preset (x : Lane) (p : GReg) : Nat := (toSigned 64 (x.gpr p).toNat).toNat

/-- Time since a start stamp, unsigned 64 bits. -/
def State.elapsed (s : State) (st : Nat) : Nat := (s.cyc.ts.toNat + 2 ^ 64 - st) % 2 ^ 64

/-- A timer: the new slot and the output from the old slot, the input and the preset (R236). -/
def State.timer (s : State) (l : LaneId) (d p : GReg) (slot : BitVec 13)
    (f : Slot → Bool → Nat → Slot × Bool) : State :=
  s.withSlot l true slot (fun s x a =>
    let r := f (s.slotAt l a) (x.inBit d) (x.preset p)
    .done ((s.slotPut l a { r.1 with pin := x.inBit d }).updLane l (fun y =>
      y.setGpr d (BitVec.ofNat 64 (bitNat r.2)))))

/-- TON: on-delay. -/
def execTon (l : LaneId) (d p : GReg) (slot : BitVec 13) (s : State) : Out :=
  .next (s.timer l d p slot (fun t i pt =>
    if !i then ({ t with run := false }, false)
    else if !t.run then ({ t with start := s.cyc.ts.toNat, run := true }, pt = 0)
    else (t, pt ≤ s.elapsed t.start)))

/-- TOF: off-delay. -/
def execTof (l : LaneId) (d p : GReg) (slot : BitVec 13) (s : State) : Out :=
  .next (s.timer l d p slot (fun t i pt =>
    if i then ({ t with run := false }, true)
    else
      let t1 : Slot := if t.pin then { t with start := s.cyc.ts.toNat, run := true } else t
      let run := t1.run && !(pt ≤ s.elapsed t1.start)
      ({ t1 with run := run }, run)))

/-- TP: pulse, not retriggerable. -/
def execTp (l : LaneId) (d p : GReg) (slot : BitVec 13) (s : State) : Out :=
  .next (s.timer l d p slot (fun t i pt =>
    let run := t.run && !(pt ≤ s.elapsed t.start)
    if i && !t.pin && !run then
      ({ t with start := s.cyc.ts.toNat, run := pt ≠ 0 }, pt ≠ 0)
    else ({ t with run := run }, run)))

/-- TET: the elapsed time up to PT while running, else 0; the slot is not written. -/
def execTet (l : LaneId) (d p : GReg) (slot : BitVec 13) (s : State) : Out :=
  .next (s.withSlot l false slot (fun s x a =>
    let t := s.slotAt l a
    let v := if t.run then min (s.elapsed t.start) (x.preset p) else 0
    .done (s.updLane l (fun y => y.setGpr d (BitVec.ofNat 64 v)))))

/-- TRST: the slot and gd become zero. -/
def execTrst (l : LaneId) (d : GReg) (slot : BitVec 13) (s : State) : Out :=
  .next (s.withSlot l true slot (fun s _ a =>
    .done ((s.slotPut l a { start := 0, run := false, pin := false }).updLane l (fun y =>
      y.setGpr d 0))))

/-- Show the live prime entries in CYC_XSTAT; the copies of the running lanes are equal. -/
def State.showPrimes (s : State) : State :=
  match s.running.head? with
  | some l => s.fset CYC_XSTAT_PRIMES (s.lane l).primes.length
  | none => s.fset CYC_XSTAT_PRIMES 0

/-- An edge detector: a live prime entry gives q := 0, otherwise q is `q in M`; M := in, and the
entry is written to zero (R237, R283). -/
def State.edge (s : State) (l : LaneId) (d : GReg) (bit : BitVec 19) (q : Bool → Bool → Bool) :
    State :=
  s.instr l (fun s x =>
    let a := (x.ib.toNat + bit.toNat / 8) % 2 ^ 32
    let n := bit.toNat % 8
    if !s.inActive a 1 || s.fixedRange a 1 then .trap 3 a
    else if s.lbad l a then .ded s a
    else
      let b := s.lread l a 1
      let i := x.inBit d
      let s1 := s.lstore l a 1 (setBit b n i)
      match x.primes.find? (fun p => p.2.1 = a ∧ p.2.2 = n) with
      | some p =>
        let s2 := (s1.lstore l p.1 8 0).updLane l (fun y =>
          { y.setGpr d 0 with primes := y.primes.erase p })
        .done s2.showPrimes
      | none =>
        .done (s1.updLane l (fun y =>
          y.setGpr d (BitVec.ofNat 64 (bitNat (q i (bitOf b n)))))))

/-- R_TRIG: rising edge. -/
def execRTrig (l : LaneId) (d : GReg) (bit : BitVec 19) (s : State) : Out :=
  .next (s.edge l d bit (fun i m => i && !m))

/-- F_TRIG: falling edge. -/
def execFTrig (l : LaneId) (d : GReg) (bit : BitVec 19) (s : State) : Out :=
  .next (s.edge l d bit (fun i m => !i && m))

end Sys2Proof.Machine
end

