-- ==== Sys2Proof/Machine/Io.lean ====
section
/-! DEFINITION. Sys2Proof/Machine/Io.lean: the I/O image and the message queues (R238, R240, R241,
R246). -/

namespace Sys2Proof.Machine

/-- IN: a READ of the input item; beyond the image BOUND. -/
def State.inRead (s : State) (l : LaneId) (d : GReg) (item : Nat) (signed : Bool) : State :=
  s.instr l (fun s _ =>
    let a := s.boot.act.inBase + 8 * item
    if s.boot.act.inItems ≤ item then .trap 3 a
    else .done (s.readSend l a 0x1F (.item d signed)))

/-- IN. -/
def execInItem (l : LaneId) (d : GReg) (item : BitVec 16) (s : State) : Out :=
  .next (s.inRead l d item.toNat false)

/-- IN.S. -/
def execInItemS (l : LaneId) (d : GReg) (item : BitVec 16) (s : State) : Out :=
  .next (s.inRead l d item.toNat true)

/-- OUT: the commit of gd bits 31:0 with quality Q. -/
def execOutItem (l : LaneId) (d : GReg) (item : BitVec 16) (s : State) : Out :=
  .next (s.instr l (fun s x =>
    let a := s.boot.act.outBase + 8 * item.toNat
    if s.boot.act.outItems ≤ item.toNat then .trap 3 a
    else .done (s.send l 1 a (x.addr d + 2 ^ 32 * bitNat (x.stBit 4)) 0x1F)))

/-- QGET: gd := Q. -/
def execQget (l : LaneId) (d : GReg) (s : State) : Out :=
  .next (s.instrLane l (fun x => x.setGpr d (BitVec.ofNat 64 (bitNat (x.stBit 4)))))

/-- QPUT: Q := (gd is not 0). -/
def execQput (l : LaneId) (d : GReg) (s : State) : Out :=
  .next (s.instrLane l (fun x => x.setSt 4 (x.inBit d)))

/-- QAND: Q := Q and (gd is not 0). -/
def execQand (l : LaneId) (d : GReg) (s : State) : Out :=
  .next (s.instrLane l (fun x => x.setSt 4 (x.stBit 4 && x.inBit d)))

/-- The start of the switch packet buffer partition (Table 06-1). -/
def partBase : Nat := 0x20180000

/-- Do `n` bytes lie in communication memory below the switch partition? -/
def commBelow (a n : Nat) : Bool := 0x20000000 ≤ a && a + n ≤ partBase

/-- SEND: a message is committed to queue q; a bad buffer or length is BOUND (R240). -/
def execSend (l : LaneId) (a d : GReg) (q : BitVec 8) (s : State) : Out :=
  .next (s.instr l (fun s x =>
    let b := x.addr a
    let n := (x.gpr d).toNat
    if b % 8 ≠ 0 || n = 0 || 1432 < n || !commBelow b n then .trap 3 b
    else .done (s.send l 2 (0x40078000 + 8 * q.toNat) (b + 2 ^ 32 * n) 0x3F)))

/-- RECV: a READ of queue q. -/
def execRecv (l : LaneId) (d : GReg) (q : BitVec 8) (s : State) : Out :=
  .next (s.instr l (fun s _ =>
    .done (s.readSend l (0x40079000 + 8 * q.toNat) 0xFF (.recv d))))

end Sys2Proof.Machine
end

