-- ==== Sys2Proof/Machine/Update.lean ====
section
/-! DEFINITION. Sys2Proof/Machine/Update.lean: the flash controller's operations and the commands of
the update unit (R463 to R472). -/

namespace Sys2Proof.Machine

/-! ### Flash operations (R463) -/

/-- The operation that starts next: the lowest class, within it the oldest. -/
def nextOp (l : List FlashOp) : Option FlashOp :=
  l.foldl (fun m op => match m with
    | none => some op
    | some x => if op.cls < x.cls then some op else some x) none

/-- Does a slot hold the active set or a loaded shadow set (R174)? -/
def State.slotInUse (s : State) (b : Bool) : Bool :=
  (s.boot.act.loaded && s.boot.act.slot == b) || (s.boot.shd.loaded && s.boot.shd.slot == b)

/-- Does an operation touch a slot in use? -/
def State.touchesUsed (s : State) (op : FlashOp) : Bool :=
  let hit (a : Nat) : Bool := s.boot.dirOk && [false, true].any (fun b =>
    s.slotInUse b && s.slotBase b ≤ a && a < s.slotBase b + s.slotSize)
  match op with
  | .wear _ => false | .stray _ => false
  | .eraseSector _ a => hit a
  | .program _ a _ => hit a

/-- An operation completes with PERM (R174): what waits of its command is withdrawn, and the command
ends with RESULT 0x3. -/
def State.opPerm (s : State) : State :=
  (({ s with flc := { s.flc with running := none, retry := false } }).updDrop.updEnd 0 3).raise
    MEM_EVT_PERM

/-- FLASH_OP_START: one operation at a time, none once the flash has stopped answering (R153); the start of one of the update unit's is its commit
point (R463, R467). -/
def execFlashOpStart (s : State) : Out :=
  .next (match s.flc.running, nextOp s.flc.waiting with
    | none, some op =>
      let s1 := { s with flc := { s.flc with
        waiting := s.flc.waiting.erase op, running := some op, retry := false } }
      if s.flc.dead then s
      else if s.touchesUsed op then s1.opPerm
      else s1.when (op.cls = 3 || op.cls = 5) (fun x => x.updUpd (fun u =>
        { u with begun := u.job.isSome }))
    | _, _ => s)

/-- The place of a stray record; a full area gives up the sector that holds the oldest (R200). -/
def State.strayProgram (s : State) (e : StrayE) : State :=
  let a := s.dirField 20 + 0x8000 + 16 * ((e.seq - 1) % 2048)
  let s1 := s.when ((s.flashBytes a 16).any (· ≠ 0xFF)) (fun x => x.flashErase a)
  s1.flashProgram a (strayBytes e)

/-- What an operation does to the flash. -/
def State.flashApply (s : State) (op : FlashOp) : State :=
  match op with
  | .wear e => s.flashProgram (s.dirField 20 + 16 * ((e.seq - 1) % 512)) (wearBytes e)
  | .stray e => s.strayProgram e
  | .eraseSector _ a => s.flashErase a
  | .program _ a bs => s.flashProgram a bs

/-- A wear log or stray write has succeeded. -/
def State.wearDone (s : State) (op : FlashOp) : State :=
  let w : Wear := match op with
    | .wear e => { s.wear with pendWear := s.wear.pendWear.erase e }
    | .stray e => { s.wear with pendStray := s.wear.pendStray.erase e }
    | _ => s.wear
  ({ s with wear := w }).show BOOT_STAT_WEAR_FLASH_PENDING
    (!w.pendWear.isEmpty || !w.pendStray.isEmpty)

/-- The place of the running snapshot is used; after the last one the area is full (R476, R477). -/
def State.recPlaceUsed (s : State) : State :=
  let next := s.fget REC_STAT_NEXT + 1
  let s1 := (s.lower REC_STAT_WRITING).fset REC_STAT_NEXT next
  let s2 := { s1 with recd := { s1.recd with writing := none } }
  s2.when (next = 256) (fun x => (x.raise REC_FULL_FULL).raise REC_EVT_FULL)

/-- The recorder's operation has ended: the VALID word completes a snapshot (R476), the last sector
an ERASE (R477). -/
def State.recOpDone (s : State) (op : FlashOp) : State :=
  match op with
  | .eraseSector _ _ =>
    let n := s.recd.erasing - 1
    let s1 := { s with recd := { s.recd with erasing := n } }
    s1.when (n = 0) (fun x => ((x.fset REC_STAT_NEXT x.recScan.1).raise REC_EVT_ERASED))
  | .program _ a _ =>
    if s.recd.writing = some (a - 1020) then
      s.recPlaceUsed.fset REC_STAT_LASTSEQ s.recd.seq
    else s
  | _ => s

/-- The recorder's operation has failed twice: the snapshot is given up, and its place, perhaps written, is
not used again (R476). -/
def State.recOpFail (s : State) (op : FlashOp) : State :=
  match op with
  | .program _ _ _ =>
    let w := s.flc.waiting.filter (fun
      | .program 4 _ _ => false
      | _ => true)
    ({ s with flc := { s.flc with waiting := w } }).recPlaceUsed.raise REC_EVT_WRITE_FAIL
  | _ => s.recOpDone op

/-- An operation of the update unit has succeeded: the next page, or the end of the command. -/
def State.updOpDone (s : State) : State :=
  let s1 := s.updUpd (fun u => { u with left := u.left - 1 })
  match s.upd.job with
  | some (.write (p :: t) r) =>
    let s2 := s1.bumpBy UPD_PROG_BYTES p.2.length
    (s2.updUpd (fun u => { u with job := some (.write t r) })).updNextPage
  | some .open_ =>
    if s1.upd.left = 0 then (s1.fset UPD_PROG_BYTES 0).updEnd 2 1 else s1
  | some .close => if s1.upd.left = 0 then s1.updEnd 6 1 else s1
  | some (.setwrite back) => if s1.upd.left = 0 then s1.updEnd back 1 else s1
  | _ => s

/-- It has failed twice: the command ends with RESULT 0xB. -/
def State.updOpFail (s : State) : State :=
  match s.upd.job with
  | some .open_ => s.updDrop.updEnd 0 0xB
  | some (.setwrite back) => s.updDrop.updEnd back 0xB
  | some _ => s.updDrop.updEnd 2 0xB
  | none => s

/-- FLASH_OP_COMPLETE: a failure is retried once; the second one sets FLASH_FAIL and ends the
operation as its class provides. A wear log or stray write stays outstanding (R33, R463). -/
def execFlashOpComplete (ok : Bool) (s : State) : Out :=
  .next (match s.flc.running with
    | none => s
    | some op =>
      let s1 := { s with flc := { s.flc with running := none, retry := false } }
      if s.flc.dead then s
      else if s.touchesUsed op then s.opPerm
      else if ok then
        let s2 := s1.flashApply op
        match op.cls with
        | 2 => s2.wearDone op
        | 4 => s2.recOpDone op
        | _ => s2.updOpDone
      else if !s.flc.retry then { s with flc := { s.flc with retry := true } }
      else
        let s2 := s1.raise UPD_EVT_FLASH_FAIL
        match op.cls with
        | 2 => s2
        | 4 => s2.recOpFail op
        | _ => s2.updOpFail)

/-! ### Writing an image (R464 to R467) -/

/-- Start a command: RESULT reads none, STATE as given. -/
def State.updBegin (s : State) (st : Nat) (j : UpdJob) : State :=
  ((s.answer .okay).fset UPD_STAT_STATE st).fset UPD_STAT_RESULT 0 |>.updUpd (fun u =>
    { u with job := some j, left := 0, begun := false, late := false })

/-- The common checks of a command: the unit runs and the key is right. -/
def State.updKey (s : State) (key : Nat) (k : State → State) : State :=
  if s.unitDown 0x39 then s.answer .isolated
  else if key ≠ 0x9E then s.answer .target
  else k s

/-- OPEN: the header page is erased first, then every other sector (R464). -/
def State.updOpen (s : State) (slot : Bool) : State :=
  if s.slotInUse slot then ((s.fset UPD_STAT_RESULT 3).answer .perm).raise MEM_EVT_PERM
  else if s.updState ≠ 0 || s.upd.job.isSome then s.updRefuse 2
  else if !s.boot.dirOk then s.updRefuse 5
  else
    let s1 := (((s.updBegin 1 .open_).show UPD_STAT_SLOT slot).lower UPD_STAT_RESTART_NEEDED).lower
      UPD_STAT_HELD_HDR
    let s2 := s1.updUpd (fun u => { u with hdr := [] })
    (List.range (s.slotSize / 4096)).foldl (fun x i =>
      x.updQueue (.eraseSector 5 (s.slotBase slot + 4096 * i))) s2

/-- UPD_OPEN. -/
def execUpdOpen (key : BitVec 8) (slot : Bool) (s : State) : Out :=
  .next (s.updKey key.toNat (fun s => s.updOpen slot))

/-- Do UPD_ARG_OFS, UPD_ARG_LEN and the alignment of the source meet R465? -/
def State.argsOk (s : State) : Bool :=
  let o := s.fget UPD_ARG_OFS_OFS
  let n := s.fget UPD_ARG_LEN_LEN
  o % 256 = 0 && 1 ≤ n && n ≤ 4096 && o + n ≤ s.slotSize && s.fget UPD_ARG_SRC_SRC % 8 = 0

/-- The bytes of communication memory from an address on, up to the first word without data, and whether
all of them could be read. -/
def State.srcBytes (s : State) (a n : Nat) : State × List Byte × Bool :=
  let r := s.engineRead a n
  match r.2 with
  | some b => (r.1, b, true)
  | none =>
    match (List.range n).find? (fun i => (s.engineRead (a + i) 1).2.isNone) with
    | some i => (r.1, ((s.engineRead a i).2).getD [], false)
    | none => (r.1, [], false)

/-- Copy the bytes of a source into the open slot, then end with a result. -/
def State.updCopy (s : State) (st : Nat) (bs : List Byte) (ok : Bool) : State :=
  (s.updBegin st (.write [] 0)).updBytes (s.fget UPD_ARG_OFS_OFS) bs (if ok then 1 else 5) st

/-- WRITE (R465). -/
def State.updWrite (s : State) : State :=
  let a := s.fget UPD_ARG_SRC_SRC
  let n := s.fget UPD_ARG_LEN_LEN
  if s.updState ≠ 2 || s.upd.job.isSome then s.updRefuse 2
  else if !s.argsOk || !commBelow a n then s.updRefuse 5
  else
    let r := s.srcBytes a n
    r.1.updCopy 3 r.2.1 r.2.2

/-- UPD_WRITE. -/
def execUpdWrite (key : BitVec 8) (s : State) : Out :=
  .next (s.updKey key.toNat (fun s => s.updWrite))

/-- FETCH: the source is read through the Fold link bridge (R465). -/
def State.updFetch (s : State) : State :=
  let a := s.fget UPD_ARG_SRC_SRC
  if s.updState ≠ 2 || s.upd.job.isSome then s.updRefuse 2
  else if !s.argsOk || a / 0x10000000 ≠ 6 || (s.attrs a).effect then s.updRefuse 5
  else
    (s.updBegin 4 (.fetch a (s.fget UPD_ARG_OFS_OFS) (s.fget UPD_ARG_LEN_LEN) 0 [])).fetchPump

/-- UPD_FETCH. -/
def execUpdFetch (key : BitVec 8) (s : State) : Out :=
  .next (s.updKey key.toNat State.updFetch)

/-- The header page as it is programmed: the buffer with the state words blank. -/
def State.updHeader (s : State) : List Byte :=
  s.updPage.take 0xF00 ++ List.replicate 16 0xFF ++ s.updPage.drop 0xF10

/-- TYPE, INST and CRC of the sections whose change needs a restart. -/
def engineSecs (l : List (Nat × Nat × Nat)) : List (Nat × Nat × Nat) :=
  l.filter (fun e => e.1 = 0xD || e.1 = 0xE || e.1 = 0xF)

/-- Do two lists hold the same entries? -/
def sameEntries (a b : List (Nat × Nat × Nat)) : Bool := a.all b.contains && b.all a.contains

/-- The verification of CLOSE (R466). -/
def State.closeOk (s : State) : Bool :=
  let p := s.updHeader
  slotCode p s.slotSize s.board.gradeW ≤ 3 && leAt p 8 4 ≠ leAt (s.page (!s.updSlot)) 8 4

/-- CLOSE. -/
def State.updClose (s : State) (hold : Bool) : State :=
  if s.updState ≠ 2 || s.upd.job.isSome then s.updRefuse 2
  else if !s.closeOk then ((s.answer .okay).raise UPD_EVT_VERIFY_FAIL).updEnd 0 6
  else
    let new := engineSecs ((secTable s.updHeader).map (fun e => (e.type, e.inst, e.crc)))
    let old := engineSecs (s.boot.act.secs.map (fun e => (e.type, e.inst, e.crc)))
    let s1 := (s.updBegin 5 .close).show UPD_STAT_RESTART_NEEDED (!sameEntries new old)
    if hold then (s1.raise UPD_STAT_HELD_HDR).updEnd 6 1
    else s1.updQueue (.program 5 (s.slotBase s.updSlot) s.updHeader)

/-- UPD_CLOSE. -/
def execUpdClose (key : BitVec 8) (hold : Bool) (s : State) : Out :=
  .next (s.updKey key.toNat (fun s => s.updClose hold))

/-- ABORT: before the commit point the command stops and the slot stays invalid; at or after it the
operation completes and RESULT reads ABORT_LATE (R428, R467). An open slot between two commands, and
a header that is held, have not been committed. -/
def State.updAbort (s : State) : State :=
  let s0 := s.answer .okay
  let stop (x : State) : State :=
    ((x.updDrop.updEnd 0 7).lower UPD_STAT_HELD_HDR).updUpd (fun u => { u with hdr := [], armed := none })
  match s.upd.job with
  | some (.setwrite back) =>
    if s.upd.begun then (s0.raise UPD_EVT_ABORT_LATE).updUpd (fun u => { u with late := true })
    else s0.updDrop.updEnd back 7
  | some _ =>
    if s.upd.begun then (s0.raise UPD_EVT_ABORT_LATE).updUpd (fun u => { u with late := true })
    else stop s0
  | none =>
    if s.updState = 2 || (s.flag UPD_STAT_HELD_HDR && s.updState ≠ 8) then stop s0
    else (s0.raise UPD_EVT_ABORT_LATE).fset UPD_STAT_RESULT 8

/-- UPD_ABORT. -/
def execUpdAbort (key : BitVec 8) (s : State) : Out :=
  .next (s.updKey key.toNat (fun s => s.updAbort))

/-! ### Scheduled activation (R468, R469) -/

/-- ARM. -/
def State.updArm (s : State) : State :=
  let win := s.fget UPD_ACTWIN_MS
  let swap := s.flag BOOT_SSTAT_READY && !s.flag BOOT_SSTAT_NEEDS_RESTART
    && s.boot.shd.loaded && s.boot.shd.slot == s.updSlot
  let restart := s.flag UPD_STAT_RESTART_NEEDED && s.flag UPD_STAT_HELD_HDR
    && s.flag SYS_RSTCFG_SW_WARM_EN
  if (s.updState ≠ 6 && s.updState ≠ 7) || win = 0 || 60000 < win || !(swap || restart) then
    s.updRefuse 0xA
  else
    let t := s.fget UPD_ACTTIME_LO_NS + 2 ^ 32 * s.fget UPD_ACTTIME_HI_NS
    (((s.answer .okay).fset UPD_STAT_STATE 7).fset UPD_STAT_RESULT 1).updUpd (fun u =>
      { u with armed := some (!swap, t, win) })

/-- UPD_ARM. -/
def execUpdArm (key : BitVec 8) (s : State) : Out :=
  .next (s.updKey key.toNat (fun s => s.updArm))

/-- The activation is over or off: the slot is closed. -/
def State.updDisarm (s : State) : State :=
  (s.when (s.updState = 7) (fun x => x.fset UPD_STAT_STATE 6)).updUpd (fun u => { u with armed := none })

/-- UPD_DISARM. -/
def execUpdDisarm (key : BitVec 8) (s : State) : Out :=
  .next (s.updKey key.toNat (fun s => (s.answer .okay).updDisarm))

/-- ACTIVATION_HEADER_PROGRAMMED: the held header stands in the slot, and the software source
asserts with reach device-warm (R469). -/
def execActivationHeaderProgrammed (ok : Bool) (s : State) : Out :=
  .next (if s.updState ≠ 8 then s
    else if ok then
      let s1 := s.flashProgram (s.slotBase s.updSlot) s.updHeader
      (s1.raise UPD_EVT_ACT_DONE).assertDevice .soft false
    else ((s.raise UPD_EVT_FLASH_FAIL).fset UPD_STAT_STATE 6).fset UPD_STAT_RESULT 0xB)

/-! ### Settings (R472) -/

/-- The half that a compaction goes to: the other half of the own one; where there is no own half,
one that is not protected, a half without a valid header first. -/
def State.setOther (s : State) : Option Nat :=
  let l := match s.ownHalf with
    | some h => [1 - h]
    | none => [0, 1]
  let free := l.filter (fun h => !s.setProt h)
  match free.find? (fun h => (s.setHdr h).isNone) with
  | some h => some h
  | none => match free, s.setHdr 0, s.setHdr 1 with
    | [_, _], some (_, g0), some (_, g1) => if g1 < g0 then some 1 else some 0
    | x, _, _ => x.head?

/-- The header of a half. -/
def setHeader (fmt gen : Nat) : List Byte :=
  let b := leBytes 4 0x5453545A ++ leBytes 2 fmt ++ [0, 0] ++ leBytes 4 gen
  b ++ leBytes 4 (crc32c b)

/-- Compact into half `h`, then write the new record. -/
def State.setCompact (s : State) (h : Nat) (new : List Byte) : State :=
  let cur : List (List Byte) := match s.ownHalf with
    | some o => (s.setCurrent o).map (fun r => s.flashBytes (s.setBase o + r.ofs) (recSize r.len - 16))
    | none => []
  let s1 := (List.range (s.setSize / 4096)).foldl (fun x i =>
    x.updQueue (.eraseSector 3 (s.setBase h + 4096 * i))) s
  let put (p : State × Nat) (r : List Byte) : State × Nat :=
    (p.1.setProgram h p.2 r, p.2 + r.length + 16)
  let p := cur.foldl put (s1, 16)
  let s2 := p.1.updQueue (.program 3 (s.setBase h) (setHeader s.boot.act.format (s.setGen + 1)))
  (s2.setProgram h p.2 new).raise UPD_EVT_SET_COMPACT

/-- SETWRITE. -/
def State.updSetwrite (s : State) : State :=
  let n := s.fget UPD_ARG_LEN_LEN
  let a := s.fget UPD_ARG_SRC_SRC
  let st := s.updState
  if s.upd.job.isSome || st = 8 then s.updRefuse 2
  else if n = 0 || 4080 < n || a % 8 ≠ 0 || !commBelow a n || !s.boot.dirOk then s.updRefuse 5
  else
    let src := s.srcBytes a n
    let s := src.1
    if !src.2.2 then (s.answer .okay).updEnd st 5
    else
      let r := setRecord (s.setSeq + 1) s.boot.act.format (s.fget UPD_ARG_OFS_OFS) src.2.1
      let s1 := s.updBegin 3 (.setwrite st)
      let fits := match s.ownHalf with
        | some h => decide (s.setFree h + r.length + 16 ≤ s.setSize)
        | none => false
      match fits, s.ownHalf, s.setOther with
      | true, some h, _ => s1.setProgram h (s.setFree h) r
      | _, _, some h => s1.setCompact h r
      | _, _, none => (s1.raise UPD_EVT_SET_FULL).updEnd st 0xC

/-- UPD_SETWRITE. -/
def execUpdSetwrite (key : BitVec 8) (s : State) : Out :=
  .next (s.updKey key.toNat (fun s => s.updSetwrite))

end Sys2Proof.Machine
end

