-- ==== Sys2Proof/Machine/RegWrite.lean ====
section
/-! DEFINITION. Sys2Proof/Machine/RegWrite.lean: writes of registers: listed values (R11), the fields
that a configuration set holds in its bank (R6, R157, R166), and the registers with one bank that a
load list may write. -/

namespace Sys2Proof.Machine

/-! ### Listed values (R11) -/

/-- The index of an address in an array of registers. -/
def arrIdx (a base stride n : Nat) : Option Nat :=
  if base ≤ a ∧ (a - base) % stride = 0 ∧ (a - base) / stride < n then some ((a - base) / stride)
  else none

/-- Does a number lie in a range? -/
def within (lo hi v : Nat) : Bool := lo ≤ v && v ≤ hi

/-- PER of SIG_CH_n_SCS: at least 3R, which follows from R17, or 0 for a channel of the sync group
(Table 12-5). -/
def scsOk (r17 grp : Bool) (v : Nat) : Bool := (v = 0 && grp) || 3 * (if r17 then 16 else 8) ≤ v

/-- The listed values of SIG_CH_n_CFG (chapter 12). -/
def sigCfgOk (v : Nat) : Bool :=
  bitsOf v 29 2 < 2 && bitsOf v 22 3 < 7
    && (if bitsOf v 27 2 < 3 then decide (bitsOf v 0 16 = 0) else within 100 2000 (bitsOf v 0 16))

/-- The listed values of the registers of one CAN controller, by offset. -/
def canRegOk (o v : Nat) : Bool :=
  match o with
  | 0x08 => 1 ≤ bitsOf v 19 8 && bitsOf v 5 7 ≤ bitsOf v 12 7
  | 0x0C => bitsOf v 14 4 ≤ bitsOf v 18 4
  | 0x10 => bitsOf v 0 2 < 3
  | _ => true

/-- Do all fields of a register hold listed values when its word is `v`? `m`: the other registers of
the same bank. The keyed command registers are judged by their own operations. -/
def valueOk (m : RegMap) (a v : Nat) : Bool :=
  match a with
  | 0x4000020C =>
    bitsOf v 14 2 ≠ 1 && within 1 500 (bitsOf v 0 10)
  | 0x40010018 => bitsOf v 16 16 ≠ 0 && within 1 8 (bitsOf v 0 4)
  | 0x40010100 => within 100 1000000 (bitsOf v 0 20)
  | 0x40040008 => within 10 5000 (bitsOf v 0 16)
  | 0x40060014 => within 10 3600 (bitsOf v 0 16)
  | 0x4006001C => within 10 1000 (bitsOf v 16 16) && within 100 10000 (bitsOf v 0 16)
  | 0x40080008 => bitsOf v 2 2 ≠ 3
  | 0x4008000C => within 1000 1000000000 v
  | 0x40080024 => bitsOf v 0 16 ≠ 0
  | 0x400B0000 => within 1 8 (bitsOf v 0 4)
  | 0x400B0004 => within 10 500 (bitsOf v 0 16)
  | 0x400B0008 => within 50 10000 (bitsOf v 16 16) && within 50 1000 (bitsOf v 0 16)
  | 0x400C0000 => within 2 15 (bitsOf v 16 4) && bitsOf v 8 7 ≠ 0
  | 0x400C0004 => within 1 3600 (bitsOf v 16 16) && within 1 100 (bitsOf v 0 7)
  | 0x400C001C => within 1 3600 (bitsOf v 0 16)
  | 0x400D0008 => bitsOf v 0 16 ≠ 0
  | 0x400E0100 => within 1 3600 (bitsOf v 8 16) && within 10 40 (bitsOf v 0 8)
  | 0x400F0014 => within 1 4096 (bitsOf v 0 13)
  | 0x400F0020 => within 1 60000 (bitsOf v 0 16)
  | _ =>
    match arrIdx a 0x40050010 4 3, arrIdx a 0x40050040 4 12, arrIdx a 0x40050080 4 12,
        arrIdx a 0x40060020 4 5 with
    | some _, _, _, _ => within 10 200 (bitsOf v 0 8)
    | _, some _, _, _ => sigCfgOk v
    | _, _, some n, _ => scsOk (m.fget (SIG_CH_n_CFG_R17 n) = 1)
        (n < 4 && m.fget (SIG_CH_n_CFG_SYNC_EN n) = 1) (bitsOf v 0 16)
    | _, _, _, some _ => within 1 4094 (bitsOf v 16 12) && bitsOf v 0 7 ≤ 100
    | _, _, _, _ =>
      if 0x40090000 ≤ a && a < 0x400A0000 then canRegOk ((a - 0x40090000) % 0x4000) v else true

/-! ### The banked fields of a set (R166) -/

/-- Write the banked bits of a register. -/
def RegMap.bankWrite (m : RegMap) (a : Nat) (v : Word) : RegMap :=
  m.setWord a (mergeW (m.word a) (rwlMask a) v)

/-- The bank that the registers hold: the RWL bits of every register, the rest at reset. -/
def RegMap.bankOf (m : RegMap) : RegMap :=
  m.foldl (fun (acc : RegMap) (p : Nat × Word) =>
    if rwlMask p.1 = 0 then acc else acc.setWord p.1 (mergeW (regReset p.1) (rwlMask p.1) p.2)) []

/-- The registers with every RWL bit as a bank holds it. -/
def RegMap.bankLoad (m bank : RegMap) : RegMap :=
  let cleared := m.foldl (fun (acc : RegMap) (p : Nat × Word) =>
    if rwlMask p.1 = 0 then acc else acc.setWord p.1 (mergeW p.2 (rwlMask p.1) (regReset p.1))) m
  bank.foldl (fun (acc : RegMap) (p : Nat × Word) => acc.bankWrite p.1 p.2) cleared

/-! ### The safety parameter registers (R451) -/

/-- The registers of Table 18-4. -/
def safetyRegs : List Nat :=
  [SAF_BLCFG_PULSE.addr, SAF_DTMASK_MASK.addr, SAF_DTLEVEL_LEVEL.addr, SAF_SAFEOUT_OUT.addr,
   CYC_LIMIT_LIMIT.addr, TRI_RETIRE_COUNT.addr, TRI_MODE_CFG.addr, TIM_JUMP_MAX_NS.addr]

/-- The registers: the peripheral windows and the backup registers (R8). -/
def isRegAddr (a : Nat) : Bool :=
  (0x40000000 ≤ a && a < 0x40100000) || (0xF0004000 ≤ a && a < 0xF0004080)

/-- The key of a keyed command register (Table 04-8 and the registers of the other chapters). -/
def keyOf (a : Nat) : Option Nat :=
  match a with
  | 0x40000014 => some 0xA5 | 0x40030020 => some 0x5A | 0x40030028 => some 0xC3
  | 0x40070020 => some 0x6D | 0x40080020 => some 0x71 | 0x400A0004 => some 0x3D
  | 0x400B0014 => some 0x2F | 0x400D000C => some 0xE7 | 0x400F0008 => some 0x9E
  | _ => (arrIdx a 0x40090014 0x4000 4).map (fun _ => 0x4B)

/-- A keyed command register takes a word only with its key (R11). -/
def keyRight (a v : Nat) : Bool :=
  match keyOf a with
  | some k => bitsOf v 24 8 = k
  | none => true

/-- May a register load list write a value at an address into a bank that is being loaded (R157)?
`rgn`: the window that the section may address; `own`: the write comes from the register entries of
the set's safety parameter section; `safety`: the set has SAFETY = 1. -/
def listOk (m : RegMap) (rgn : Nat → Bool) (own safety : Bool) (a v : Nat) : Bool :=
  rgn a && a % 4 = 0 && isRegAddr a && valueOk m a v && keyRight a v
    && (if own then safetyRegs.contains a else !(safety && safetyRegs.contains a))

/-! ### Registers with one bank -/

/-- A write of a register's RW bits. -/
def State.rwWrite (s : State) (a v : Nat) : State :=
  if !valueOk s.regs a v then s.answer .target
  else
    (s.setReg a (mergeW (s.regWord a) (rwMask a) (BitVec.ofNat 32 v))).answer .okay

/-- A write of a backup register; a write of an RO or unlisted one is ignored (R99). -/
def State.bkrWrite (s : State) (a v : Nat) : State :=
  let o := a - 0xF0004000
  if o = 0x14 then
    if bitOf v 0 then { s with bkup := { s.bkup with stampValid := false } } else s
  else if 0x40 ≤ o ∧ o < 0x80 then
    { s with bkup := { s.bkup with
        app := vecUpd s.bkup.app ((o - 0x40) / 4) (fun _ => BitVec.ofNat 32 v) } }
  else s

/-- A write of an RW register by the loader (R157): the registers whose writes act have their own
operations. -/
def State.rwLoad (s : State) (a v : Nat) : State :=
  if a = PWR_REQ_REQ_HI.addr then s.writePwrReq v
  else if a = CLK_OUTCFG_SEL.addr then s.writeOutcfg v
  else if 0xF0004000 ≤ a then (s.bkrWrite a v).answer .okay
  else match arrIdx a 0x400B0080 4 16 with
    | some n => s.semWrite n 0 v
    | none => s.rwWrite a v

/-! ### Configured values (R494) -/

/-- Is a unit or channel of a set without effect, so that the register's fields are exempt? `loop`: the
set maps the brake-loop close request. -/
def cfgExempt (m : RegMap) (loop : Bool) (a : Nat) : Bool :=
  let off (f : Fld) : Bool := m.fget f = 0
  match a with
  | 0x4000020C => bitsOf (m.word a).toNat 12 4 = 0
  | 0x40060014 => off ETH_PORTCFG_EN
  | 0x4006001C => off ETH_PORTCFG_PRP
  | 0x4008000C => off TIM_CFG_MODE
  | 0x40080024 => off TIM_CFG_MODE
  | 0x400B0000 => off FLK_CFG_EN
  | 0x400B0004 => off FLK_CFG_EN
  | 0x400B0008 => off FLK_CFG_EN
  | 0x400C0000 => off PAIR_CFG_EN
  | 0x400C0004 => off PAIR_CFG_EN
  | 0x400C001C => off PAIR_CFG_EN
  | 0x400D0008 => off REC_CFG_EN
  | 0x400E0100 => off FLD_DOOPT_TEST && !loop
  | _ =>
    match arrIdx a 0x40050010 4 3, arrIdx a 0x40050040 4 12, arrIdx a 0x40050080 4 12,
        arrIdx a 0x40060020 4 5 with
    | some k, _, _, _ => off (SIG_CLKOUT_k_EN k)
    | _, some n, _, _ => off (SIG_CH_n_CFG_EN n)
    | _, _, some n, _ => off (SIG_CH_n_CFG_EN n) || m.fget (SIG_CH_n_CFG_MODE n) ≠ 1
    | _, _, _, some n =>
      if n = 4 then off ETH_PORTCFG_EN else !bitOf (m.fget ETH_PORTCFG_EN) n
    | _, _, _, _ =>
      match (a - 0x40090000) % 0x4000 with
      | 0x08 => off (CAN_n_CFG_MODE ((a - 0x40090000) / 0x4000))
      | 0x0C => off (CAN_n_CFG_MODE ((a - 0x40090000) / 0x4000))
          || off (CAN_n_CFG_SWITCH_EN ((a - 0x40090000) / 0x4000))
      | _ => false

/-- The registers with a configured field whose reset value or range is restricted. -/
def cfgRegs : List Nat :=
  [0x4000020C, 0x40010018, 0x40010100, 0x40040008, 0x40060014, 0x4006001C, 0x40080008, 0x4008000C,
   0x40080024, 0x400B0000, 0x400B0004, 0x400B0008, 0x400C0000, 0x400C0004, 0x400C001C, 0x400D0008,
   0x400E0100]
    ++ (List.range 3).map (fun k => 0x40050010 + 4 * k)
    ++ (List.range 12).flatMap (fun n => [0x40050040 + 4 * n, 0x40050080 + 4 * n])
    ++ (List.range 5).map (fun n => 0x40060020 + 4 * n)
    ++ (List.range 4).flatMap (fun n =>
      [0x40090008 + 0x4000 * n, 0x4009000C + 0x4000 * n, 0x40090010 + 0x4000 * n])

/-- R494: every configured field of a bank holds a listed value, unless it is without effect. -/
def bankOk (m : RegMap) (loop : Bool) : Bool :=
  cfgRegs.all (fun a => cfgExempt m loop a || valueOk m a (m.word a).toNat)

end Sys2Proof.Machine
end

