-- ==== Sys2Proof/Machine/Load.lean ====
section
/-! DEFINITION. Sys2Proof/Machine/Load.lean: reading a slot's image into a configuration set: the checks
of its sections, the register load lists, the private half and its instances, the check value
(R154 to R157, R160, R167, R267 to R273, R279 to R283, R448 to R455, R494). A section must have the
form that its tables give: magic number, version, counts and listed values. DEDUCED (log entry 46). -/

namespace Sys2Proof.Machine

/-! ### Areas in the half (R272) -/

/-- The size of a half (R166). -/
def halfSize : Nat := 0x200000

/-- A set with its section table: what a load works on. -/
structure Img where
  page : List Byte
  tab : List SecE
  set : CfgSet
  deriving DecidableEq, Repr

/-- The image of a slot as the flash holds it (R155, R162). -/
def State.readImg (s : State) (b : Bool) : Img :=
  let page := s.page b
  let tab := secTable page
  let flags := leAt page 0x12 2
  { page := page, tab := tab
    set := { loaded := true, slot := b, gen := leAt page 8 4, safety := bitOf flags 0
             lockFlag := bitOf flags 1, format := leAt page 0x14 2, toolOk := markOk page
             secs := tab.map (fun e => { type := e.type, inst := e.inst, crc := e.crc
                                         bytes := s.secBytes b e })
             rwl := [], heldRw := [] } }

/-- The areas of the half that the loader checks: code, constants, stack, exchange area, the
program section, the migration table and every instance. -/
def Img.areas (g : Img) : List (Nat × Nat) :=
  let c := g.set
  let own := (g.tab.filter (fun e => e.type = 3 || e.type = 0x10)).map (fun e => (e.load, e.len))
  ([(c.codeOfs, c.codeLen), (c.constOfs, c.constLen), (c.stackOfs, c.stackLen), (c.xOfs, 8192)]
    ++ own ++ c.instList.map (fun i => (i.ofs, i.size))).filter (fun p => p.2 ≠ 0)

/-- The loader's checks of R272. -/
def Img.layoutOk (g : Img) : Bool :=
  g.areas.all (fun p => p.1 + p.2 ≤ halfSize) && areasDisjoint g.areas

/-! ### The program unit and instance table (R267 to R270) -/

/-- Communication memory below the switch partition (Table 10-2). -/
def ioArea (base items : Nat) : Bool :=
  base % 8 = 0 && 0x20000000 ≤ base && base + 8 * items ≤ 0x20180000

/-- Are all bytes zero? -/
def zeros (bs : List Byte) : Bool := bs.all (· = 0)

/-- The header of Table 10-2 and the LENGTH of R267. -/
def CfgSet.progHdrOk (c : CfgSet) : Bool :=
  let p := c.prog
  64 ≤ p.length && leAt p 0 4 = 0x5550545A && leAt p 4 2 = 1
    && p.length = 64 + 24 * c.units + 32 * c.insts + 8 * (c.inItems + c.outItems)
    && within 1 1024 c.units && c.insts ≤ 4096 && c.inItems ≤ 16384 && c.outItems ≤ 8192
    && leAt p 10 2 = 0 && zeros ((p.drop 0x34).take 12)
    && c.codeOfs % 4 = 0 && c.constOfs % 16 = 0 && 256 ≤ c.constLen
    && c.stackOfs % 16 = 0 && within 1024 262144 c.stackLen && c.stackLen % 16 = 0
    && c.xOfs % 16 = 0 && ioArea c.inBase c.inItems && ioArea c.outBase c.outItems

/-- Unit entries (Table 10-3). -/
def CfgSet.unitsOk (c : CfgSet) : Bool :=
  let us := (List.range c.units).map c.unitE
  us.Pairwise (fun a b => a.id ≠ b.id)
    && us.all (fun u =>
      u.entry % 4 = 0 && c.codeOfs ≤ u.entry && u.entry < c.codeOfs + c.codeLen
      && c.instList.any (fun i => i.ofs = u.inst)
      && u.cb % 16 = 0 && c.constOfs ≤ u.cb && u.cb < c.constOfs + c.constLen
      && within 1 4096 u.period && u.phase < u.period && within 1 3 u.cls)

/-- Instance entries (Table 10-4). -/
def CfgSet.instsOk (c : CfgSet) : Bool :=
  c.instList.Pairwise (fun a b => a.id ≠ b.id)
    && c.instList.all (fun i =>
      i.ofs % 16 = 0 && within 16 262144 i.size && i.size % 16 = 0 && i.nt ≤ 4096
      && (i.init = 0xFFFFFFFF
        || (c.constOfs ≤ i.init && i.init + i.size ≤ c.constOfs + c.constLen)))

/-! ### Map entries (R270, R328, R343, R377, R407, R426) -/

/-- Words of a payload. -/
def wordsOf (len : Nat) : Nat := (len + 3) / 4

/-- OWNER of a Drove slot in a set; 0xFF where the schedule has no such slot. -/
def CfgSet.drvOwner (c : CfgSet) (n k : Nat) : Nat :=
  if c.has 7 n && 1 ≤ k && k < leAt (c.sect 7 n) 6 1 then leAt (c.sect 7 n) (32 + 8 * (k - 1) + 3) 1
  else 0xFF

/-- LEN of a Drove slot in a set. -/
def CfgSet.drvLen (c : CfgSet) (n k : Nat) : Nat := leAt (c.sect 7 n) (32 + 8 * (k - 1) + 4) 1

/-- A source: kind, instance, index and field (Table 10-6). A source that the configuration does not
hold is valid and has quality bad (R256). -/
def CfgSet.inOk (c : CfgSet) (e : MapE) : Bool :=
  e.own = 0 && e.solo = 0
    && match e.kind with
      | 0 => e.inst = 0 && e.index = 0
      | 1 => e.inst = 0 && e.index ≤ 31
      | 2 => e.inst = 0 && e.index ≤ 63
      | 3 => e.inst = 0 && e.index ≤ 11 && e.field ≤ 3
      | 4 =>
        e.inst = 0 && e.index ≤ 511
          && (c.pdN ≤ e.index || ((c.pdS e.index).sub
            && (e.field < wordsOf (c.pdS e.index).len || within 0x8000 0x8003 e.field)))
      | 5 => e.inst ≤ 3 && e.index ≤ 63 && e.field ≤ 19
      | 6 =>
        e.inst ≤ 1 && e.index ≤ 63
          && (if e.index = 0 then e.field = 0 || within 0x8000 0x8001 e.field
            else if c.has 7 e.inst && e.index < leAt (c.sect 7 e.inst) 6 1 then
              c.drvOwner e.inst e.index ≠ 0xFF
                && c.drvOwner e.inst e.index ≠ leAt (c.sect 7 e.inst) 7 1
                && (e.field < wordsOf (c.drvLen e.inst e.index) || within 0x8000 0x8001 e.field)
            else true)
      | 7 =>
        e.inst = 0 && e.index ≤ 15
          && (e.field < c.foldF e.index 8 1 || within 0x8000 0x8003 e.field)
      | 8 => e.inst = 0 && e.index ≤ 15
      | 9 => e.inst = 0 && e.index ≤ 7
      | _ => false

/-- A destination. -/
def CfgSet.outOk (c : CfgSet) (e : MapE) : Bool :=
  e.own ≤ 1 && e.solo ≤ 3
    && match e.kind with
      | 0 => e.inst = 0 && e.index = 0
      | 1 => e.inst = 0 && e.index ≤ 15
      | 2 => e.inst = 0 && e.index = 0 && e.own = 0
      | 4 =>
        e.inst = 0 && e.index < c.pdN && !(c.pdS e.index).sub
          && e.field < (if (c.pdS e.index).vsc then ((c.pdS e.index).len - 16) / 4
              else wordsOf (c.pdS e.index).len)
      | 5 => e.inst ≤ 3 && e.index ≤ 2 && e.field ≤ 18
      | 6 =>
        e.inst ≤ 1 && e.index ≠ 0 && c.has 7 e.inst && e.index < leAt (c.sect 7 e.inst) 6 1
          && c.drvOwner e.inst e.index = leAt (c.sect 7 e.inst) 7 1
          && e.field < wordsOf (c.drvLen e.inst e.index)
      | 7 => e.inst = 0 && e.index ≤ 15 && e.field < c.foldF e.index 9 1
      | _ => false

/-- Every map entry of a set. -/
def CfgSet.mapsOk (c : CfgSet) : Bool :=
  (List.range c.inItems).all (fun k => c.inOk (c.inE k))
    && (List.range c.outItems).all (fun k => c.outOk (c.outE k))

/-! ### The migration table (R279) -/

/-- Form and kinds. -/
def CfgSet.migOk (c : CfgSet) : Bool :=
  let t := c.sect 0x10 0
  !c.has 0x10 0
    || (16 ≤ t.length && leAt t 0 4 = 0x474D545A && leAt t 4 2 = 1 && leAt t 6 2 ≤ 8192
      && t.length = 16 + 24 * leAt t 6 2 && leAt t 12 4 = 0
      && (records 24 (leAt t 6 2) (t.drop 16)).all (fun b =>
        within 1 3 (leAt b 0 1) && leAt b 2 2 = 0
        && (if leAt b 0 1 = 1 then leAt b 1 1 = 0 && leAt b 12 4 % 8 = 0 && leAt b 16 4 % 8 = 0
              && leAt b 20 4 % 8 = 0
            else leAt b 4 4 = 0 && leAt b 12 4 = 0
              && leAt b 1 1 ≤ (if leAt b 0 1 = 3 then 1 else 0))))

/-! ### The engines' sections (R341, R373, R374, R393, R416, R450 to R453) -/

/-- NKEY of a set's safety parameter section. -/
def CfgSet.nkey (c : CfgSet) : Nat := leAt (c.sect 0x0B 0) 0x0A 2

/-- The session table. -/
def CfgSet.pdOk (c : CfgSet) : Bool :=
  let t := c.sect 5 0
  !c.has 5 0
    || (32 ≤ t.length && leAt t 0 4 = 0x5344545A && leAt t 4 2 = 1 && c.pdN ≤ 512 && c.sqN ≤ 32
      && c.rqN ≤ 32 && c.dirN ≤ 4096
      && t.length = 32 + 48 * c.pdN + 16 * (c.sqN + c.rqN + c.dirN)
      && (List.range c.pdN).all (fun i => !(c.pdS i).vsc || (c.pdS i).keyix < c.nkey))

/-- A CAN filter table. -/
def CfgSet.canOk (c : CfgSet) (n : Nat) : Bool :=
  let t := c.sect 6 n
  !c.has 6 n
    || (32 ≤ t.length && leAt t 0 4 = 0x4E43545A && leAt t 4 2 = 1 && leAt t 6 2 ≤ 256
      && t.length = 32 + 12 * leAt t 6 2
      && (canFilters t).all (fun e => e.mat ≤ 3 && e.dest ≤ 2))

/-- SCHED_ID as R391 computes it. -/
def schedId (t : List Byte) : Nat :=
  crc32c ((t.drop 0x0C).take 4 ++ (t.drop 0x10).take 2 ++ (t.drop 0x13).take 3
    ++ (records 8 (leAt t 6 1 - 1) (t.drop 32)).flatMap (fun b => b.take 5))

/-- A Drove schedule. -/
def CfgSet.drvOk (c : CfgSet) (n : Nat) : Bool :=
  let t := c.sect 7 n
  !c.has 7 n
    || (32 ≤ t.length && leAt t 0 4 = 0x5644545A && leAt t 4 2 = 1 && within 1 64 (leAt t 6 1)
      && t.length = 32 + 8 * (leAt t 6 1 - 1) && leAt t 8 4 = schedId t)

/-- The Fold station table. -/
def CfgSet.flkOk (c : CfgSet) : Bool :=
  let t := c.sect 8 0
  !c.has 8 0 || (t.length = 528 && leAt t 0 4 = 0x4B46545A && leAt t 4 2 = 1)

/-- The digests of the safety parameter section: TYPE, INST, CRC. -/
def CfgSet.digests (c : CfgSet) : List (Nat × Nat × Nat) :=
  let t := c.sect 0x0B 0
  (records 8 (leAt t 6 1) (t.drop 32)).map (fun b => (leAt b 0 2, leAt b 2 2, leAt b 4 4))

/-- The register entries of the safety parameter section. -/
def CfgSet.safEntries (c : CfgSet) : List (Nat × Nat) :=
  let t := c.sect 0x0B 0
  (records 8 (leAt t 8 2) (t.drop (32 + 8 * leAt t 6 1))).map (fun b => (leAt b 0 4, leAt b 4 4))

/-- The sections that a digest must name (R452). -/
def digested (t : Nat) : Bool := t = 1 || t = 2 || t = 3 || t = 5 || t = 9 || t = 0x10

/-- The safety parameter section's form and digests. -/
def CfgSet.safOk (c : CfgSet) : Bool :=
  let t := c.sect 0x0B 0
  let crcs (ty i : Nat) : List Nat :=
    (c.secs.filter (fun x => x.type = ty ∧ x.inst = i)).map (fun x => x.crc)
  let digs (ty i : Nat) : List Nat :=
    (c.digests.filter (fun d => d.1 = ty ∧ d.2.1 = i)).map (fun d => d.2.2)
  !c.has 0x0B 0
    || (32 ≤ t.length && leAt t 0 4 = 0x4653545A && leAt t 4 2 = 1 && within 1 8 (leAt t 6 1)
      && within 1 256 (leAt t 8 2) && c.nkey ≤ 512
      && t.length = 32 + 8 * (leAt t 6 1 + leAt t 8 2) + 4 * c.nkey
      && c.digests.all (fun d => digs d.1 d.2.1 = crcs d.1 d.2.1)
      && c.secs.all (fun x => !digested x.type || digs x.type x.inst = crcs x.type x.inst))

/-- Every section of a set has its form. -/
def CfgSet.formsOk (c : CfgSet) : Bool :=
  c.progHdrOk && c.unitsOk && c.instsOk && c.mapsOk && c.migOk && c.pdOk
    && c.canOk 0 && c.canOk 1 && c.canOk 2 && c.canOk 3 && c.drvOk 0 && c.drvOk 1
    && c.flkOk && c.safOk

/-! ### Register load lists (R157, R311, R330, R451) -/

/-- The entries of a list section: address and value. -/
def listEntries (bs : List Byte) : List (Nat × Nat) :=
  (records 8 (bs.length / 8) bs).map (fun b => (leAt b 0 4, leAt b 4 4))

/-- The entries of the lists of a set in the order in which the loader writes them: the section of a
register load list, the field configuration, the signal configuration, and the registers of the
safety parameter section; with each its window and whether it is the last. -/
def CfgSet.entries (c : CfgSet) : List (Bool × (Nat → Bool) × Nat × Nat) :=
  let tag (own : Bool) (w : Nat → Bool) (l : List (Nat × Nat)) : List (Bool × (Nat → Bool) × Nat × Nat) :=
    l.map (fun e => (own, w, e.1, e.2))
  c.secs.flatMap (fun x =>
    match x.type with
    | 4 => tag false (fun _ => true) (listEntries x.bytes)
    | 9 => tag false (fun a => 0x40040000 ≤ a && a < 0x40050000) (listEntries x.bytes)
    | 10 => tag false (fun a => 0x40050000 ≤ a && a < 0x40060000) (listEntries x.bytes)
    | 11 => tag true (fun _ => true) c.safEntries
    | _ => [])

/-- The bank that the lists write; none where an entry would complete with an error (R157). -/
def CfgSet.bank (c : CfgSet) : Option RegMap :=
  c.entries.foldl (fun (m : Option RegMap) (e : Bool × (Nat → Bool) × Nat × Nat) =>
    match m with
    | none => none
    | some b =>
      if listOk b e.2.1 e.1 c.safety e.2.2.1 e.2.2.2 then
        some (b.bankWrite e.2.2.1 (BitVec.ofNat 32 e.2.2.2))
      else none) (some [])

/-- The entries that address registers with one bank. -/
def CfgSet.rwEntries (c : CfgSet) : List (Nat × Word) :=
  (c.entries.filter (fun e => rwMask e.2.2.1 ≠ 0 || 0xF0004000 ≤ e.2.2.1)).map (fun e => (e.2.2.1, BitVec.ofNat 32 e.2.2.2))

/-- Does a set map the brake-loop close request? -/
def CfgSet.mapsLoop (c : CfgSet) : Bool :=
  (List.range c.outItems).any (fun k => (c.outE k).kind = 2)

/-- The image with its bank, when every check of a load passes: section CRCs (R160), forms, layout,
lists and configured values. -/
def State.loadImg (s : State) (b : Bool) : Option Img :=
  let g := s.readImg b
  if g.set.secs.all (fun x => x.crc = crc32c x.bytes) && g.set.formsOk && g.layoutOk
      && g.set.secs.all (fun x => !(x.type = 4 || x.type = 9 || x.type = 10) || x.bytes.length % 8 = 0) then
    match g.set.bank with
    | none => none
    | some m =>
      if bankOk m g.set.mapsLoop then
        some { g with set := { g.set with rwl := m, heldRw := g.set.rwEntries } }
      else none
  else none

/-! ### Writing a half (R167, R271, R273) -/

/-- Relocate an entry of a trap table: HANDLER and INSTANCE of an entry whose HANDLER is not zero. -/
def relocEntry (hb : Nat) (e : List Byte) : List Byte :=
  if leAt e 0 4 = 0 then e else leBytes 4 (leAt e 0 4 + hb) ++ leBytes 4 (leAt e 4 4 + hb)

/-- Relocate the trap table at the start of a core's constant range (R271). A word that can no longer be
read is left as it is. -/
def State.relocate (s : State) (k : CoreId) (hb cofs : Nat) : State :=
  (List.range 32).foldl (fun x i =>
    let a := hb + cofs + 8 * i
    let r := x.bankBytes (.priv k) (a - 0x10000000) 8 4
    match r.2 with
    | some e => if leAt e 0 4 = 0 then r.1 else r.1.privPut k a (relocEntry hb e)
    | none => r.1) s

/-- Write an instance from its initial-value image, or with zeros (R273). -/
def State.instInit (s : State) (k : CoreId) (hb : Nat) (i : InstE) : State :=
  if i.init = 0xFFFFFFFF then s.privPut k (hb + i.ofs) (List.replicate i.size 0)
  else
    let r := s.bankBytes (.priv k) (hb + i.init - 0x10000000) i.size 4
    match r.2 with
    | some bs => r.1.privPut k (hb + i.ofs) bs
    | none => r.1

/-- Write the private sections and the instances of an image into a half of one core. A section is
written whole from its LOAD offset on. DESIGN CHOICE (log entry 113): also where it ends beyond the
half, which no rule bounds. -/
def State.coreLoad (s : State) (g : Img) (h : Nat) (k : CoreId) : State :=
  let hb := halfBase h
  let s1 := ((g.tab.zip g.set.secs).filter (fun p => secPrivate p.1.type)).foldl
    (fun x p => x.privPut k (hb + p.1.load) p.2.bytes) s
  g.set.instList.foldl (fun x i => x.instInit k hb i) (s1.relocate k hb g.set.constOfs)

/-- The cores that are loaded: those that are powered and not retired. -/
def State.loadCores (s : State) : List CoreId :=
  allCores.filter (fun k => !s.retired k && 2 ≤ s.fget (pstat k.paddock))

/-- The resident copy of a set in shared memory, 512 KB (R91, R166). -/
def residentBytes (c : CfgSet) : List Byte :=
  let l := c.secs.map (fun x => (x.type, x.inst, x.bytes))
  (List.range 0x80000).map (fun i => Config.residentByte l i)

/-- Load an image into a half, and the resident copy of its set into shared memory, through the hub's
configuration path, which no region table entry stops (R166, R167). -/
def State.halfLoad (s : State) (g : Img) (h : Nat) : State :=
  (s.loadCores.foldl (fun x k => x.coreLoad g h k) s).burstPut (0x500000 + 0x80000 * h)
    (residentBytes g.set)

/-! ### Check value and record (R448, R454, R455) -/

/-- The check value of a set; 0 where it has no safety parameter section. -/
def CfgSet.checkVal (c : CfgSet) : Nat := if c.has 0x0B 0 then crc32c (c.sect 0x0B 0) else 0

/-- The commissioning confirmation record: CHECKVAL and PARAM_LEN, when it is valid. -/
def CfgSet.confRec (c : CfgSet) : Option (Nat × Nat) :=
  let b := c.sect 0x0C 0
  if b.length = 32 && leAt b 28 4 = crc32c (b.take 28) then some (leAt b 0 4, leAt b 16 4) else none

/-- A set matches: SAFETY = 0, or its record confirms the computed value `v`. -/
def CfgSet.matchOk (c : CfgSet) (v : Nat) : Bool :=
  !c.safety
    || (match c.confRec with
      | some r => v ≠ 0 && r.1 = v && r.2 = (c.sect 0x0B 0).length
      | none => false)

/-- SAF_FUNC of a set (R448). -/
def CfgSet.funcs (c : CfgSet) : Nat :=
  let pd := (List.range c.pdN).map c.pdS
  bitNat c.mapsLoop + 2 * bitNat (c.rwl.fget SAF_DTMASK_MASK ≠ 0)
    + 4 * bitNat (c.rwl.fget SAF_SAFEOUT_OUT ≠ 0) + 8 * bitNat (pd.any (fun p => p.vsc && p.sub))
    + 16 * bitNat (pd.any (fun p => p.vsc && !p.sub))

/-- Show the check of the active set; `v`: its check value, 0 where the units disagree. -/
def State.showCheck (s : State) (v : Nat) : State :=
  let c := s.boot.act
  let r := match c.confRec with
    | some r => r.1
    | none => 0
  let s1 := ((s.fset SAF_CHECKVAL_VAL v).fset SAF_CONFVAL_VAL r).show SAF_STAT_RECORD c.confRec.isSome
  let s2 := (s1.show SAF_STAT_MATCH (c.matchOk v)).show SAF_STAT_UNITS_AGREE (v = c.checkVal)
  s2.fset ⟨0x400E0010, 0, 5⟩ c.funcs

/-! ### Migration: which edges are carried and which are primed (R280, R283, R287) -/

/-- The instance of an INST_ID in a set. -/
def CfgSet.instById (c : CfgSet) (id : Nat) : Option InstE := c.instList.find? (fun i => i.id = id)

/-- Is a slot (KIND 2) or an edge (KIND 3) of an instance named by a record of a table? -/
def migNamed (l : List MigR) (kind id n : Nat) : Bool :=
  l.any (fun r => r.kind = kind && r.newId = id && r.newOfs ≤ n && n < r.newOfs + r.len)

/-- Is an edge named by a record with FIRE = 1? -/
def migFires (l : List MigR) (id n : Nat) : Bool :=
  l.any (fun r => r.kind = 3 && r.fire && r.newId = id && r.newOfs ≤ n && n < r.newOfs + r.len)

/-- The edges of a set that a migration into it primes: those not carried from the old set, and in the
forward direction not named with FIRE = 1. `l`: the records of the table in force. -/
def primedEdges (old new : CfgSet) (l : List MigR) (back : Bool) : List (InstE × Nat) :=
  new.instList.flatMap (fun i =>
    let carried := match old.instById i.id with
      | some o => min o.ne i.ne
      | none => 0
    ((List.range i.ne).filter (fun e =>
      (carried ≤ e || migNamed l 3 i.id e) && (back || !migFires l i.id e))).map (fun e => (i, e)))

/-- Do both migrations between the active and a new set stay within 1,024 primed edges (R283)? -/
def primesOk (old new : CfgSet) : Bool :=
  (primedEdges old new new.migs false).length ≤ 1024
    && (primedEdges new old new.migs true).length ≤ 1024

/-- The checks of R281 on the DATA records of a shadow set. -/
def dataOk (old new : CfgSet) : Bool :=
  new.migs.all (fun r => r.kind ≠ 1
    || ((match new.instById r.newId with
        | some i => decide (r.newOfs + r.len ≤ i.size)
        | none => false)
      && (old.gen ≠ new.fromGen
        || (match old.instById r.oldId with
          | some i => decide (r.oldOfs + r.len ≤ i.size)
          | none => false))))

end Sys2Proof.Machine
end

