-- ==== Sys2Proof/Machine/Triad.lean ====
section
/-! DEFINITION. Sys2Proof/Machine/Triad.lean: the Shepherds: transactions, verdicts, strays,
replicated reads and the run-time injection (chapter 08). -/

namespace Sys2Proof.Machine

/-! ### Comparing transactions (R178, R180) -/

/-- Do two transactions agree? A poisoned one differs from every other. -/
def Txn.agrees (t u : Txn) : Bool := !t.poison && !u.poison && t = u

/-- The field classes in which two transactions differ, a bit per class of Table 08-2. -/
def Txn.classes (t u : Txn) : Nat :=
  let d (i : Nat) : Bool := bitsOf t.data.toNat (16 * i) 16 ≠ bitsOf u.data.toNat (16 * i) 16
  bitNat (t.addr ≠ u.addr) + 2 * bitNat (d 0) + 4 * bitNat (d 1) + 8 * bitNat (d 2)
    + 16 * bitNat (d 3) + 32 * bitNat (t.mask ≠ u.mask)
    + 64 * bitNat (t.kind ≠ u.kind || t.poison || u.poison) + 128 * bitNat (t.seq ≠ u.seq)

/-- The transaction on which two arrivals agree. -/
def agreed (arr : List (LaneId × Txn)) : Option Txn :=
  (arr.map (fun p => p.2)).find? (fun t =>
    2 ≤ (arr.filter (fun p => p.2.agrees t)).length)

/-! ### Retirement and strays (R191, R193, R199) -/

/-- Retire a core (R199, R201 to R203): the wear log entry, and the lane that it carries becomes
absent until the boundary. A core that carries no lane is switched off at the boundary. -/
def State.retireCore (s : State) (k : CoreId) : State :=
  let s1 := (((s.wearLog 1 k.num 0).raise (retiredF k)).raise TRI_EVT_RETIRE).count 4
  let s2 := s1.raise (preq k.paddock)
  let s3 := match s.laneOn k with
    | some l =>
      let s4 := s2.fset (laneStateF l) 2
      { s4 with triad := { s4.triad with lost := s4.triad.lost ++ [l] } }
    | none => { s2 with triad := { s2.triad with retireOff := s2.triad.retireOff ++ [k] } }
  s3.evalSets

/-- A window that has not been released, without a lane's entries; a verdict that two of the other
entries do not bear is reached anew (R186). -/
def Win.without (w : Win) (l : LaneId) : Win :=
  if w.released then w
  else
    let arr := w.arr.filter (fun p => p.1 ≠ l)
    { w with
      arr := arr, arr2 := w.arr2.filter (fun p => p.1 ≠ l)
      verdict := match w.verdict with
        | some v => if 2 ≤ (arr.filter (fun p => p.2.agrees v.txn)).length then some v else none
        | none => none }

/-- The requests on their way over the Fold link, each changed. -/
def State.foldItems (s : State) (f : HubItem → HubItem) : State :=
  { s with flk := { s.flk with
      reads := s.flk.reads.map (fun p => (p.1, p.2.1, f p.2.2))
      waitTag := s.flk.waitTag.map (fun p => (p.1, f p.2))
      waitSem := s.flk.waitSem.map (fun p => (p.1, f p.2)) } }

/-- Everything that a lane has sent and that has not been released, and every response still owed
to it, is discarded. -/
def State.discardLane (s : State) (l : LaneId) : State :=
  let off (i : HubItem) : HubItem := { i with lanes := i.lanes.filter (· ≠ l) }
  let s := s.foldItems off
  let wins := (s.triad.wins.map (fun w => w.without l)).filter
      (fun w => w.released || !w.arr.isEmpty || !w.arr2.isEmpty)
  let s1 := s.updLane l (fun x =>
    { x with out := [], held := [], commits := [], commitErr := none, prefetch := [] })
  { s1 with
    triad := { s1.triad with
      wins := wins
      resps := (s1.triad.resps.map (fun r => { r with lanes := r.lanes.filter (· ≠ l) })).filter
        (fun r => !r.lanes.isEmpty) }
    memx := { s1.memx with
      hubQ := s1.memx.hubQ.map off } }

/-- A lane becomes a stray. Causes: 1 DIFFER, 2 LATE, 3 POISON, 4 LATENT. -/
def State.stray (s : State) (l : LaneId) (cause kind cls : Nat) : State :=
  let k := s.coreOfLane l
  let s1 := ((s.discardLane l).updLane l (fun x => { x with exec := .halted })).fset
    (laneStateF l) 1
  let s2 := ((((((s1.raise TRI_EVT_STRAY).raise TRI_STRAYLOG_VALID).fset TRI_STRAYLOG_LANE
    l.num).fset TRI_STRAYLOG_CORE k.num).fset TRI_STRAYLOG_CAUSE cause).fset TRI_STRAYLOG_KIND
    kind).fset TRI_STRAYLOG_CLASS cls
  let s3 := ((s2.bump TRI_STRAYLOG_COUNT).fset TRI_STRAYCYC_CYC s2.cyc.count.toNat).count k.num
  let s4 := s3.strayRecord k.num l.num cause
  let n := s4.strayCount k.num
  let s5 := s4.fset ⟨0x40010014, 8 * k.num, 8⟩ (min n 255)
  if s5.fget TRI_RETIRE_COUNT ≤ n then s5.retireCore k else s5

/-! ### Voting windows (R182 to R184) -/

/-- Change the window of a sequence number. -/
def State.updWin (s : State) (q : BitVec 32) (f : Win → Win) : State :=
  { s with triad := { s.triad with
      wins := s.triad.wins.map (fun w => if w.seq = q then f w else w) } }

/-- The window of a sequence number. -/
def State.winAt (s : State) (q : BitVec 32) : Option Win :=
  s.triad.wins.find? (fun w => w.seq = q)

/-- What one Shepherd finds in a window: no verdict yet; Clean or Majority with the transaction, the
entries that differ and the lanes that are late; None. -/
inductive Judg where
  | open_
  | majority (t : Txn) (bad : List (LaneId × Txn)) (late : List LaneId)
  | none_
  deriving DecidableEq, Repr

/-- One Shepherd judges its entries as Table 08-4 and R183 say; `closed` at the window close; `fixed`:
the transaction that has been released. -/
def judgeArr (votes : List LaneId) (closed : Bool) (fixed : Option Txn) (all : List (LaneId × Txn)) :
    Judg :=
  let arr := all.filter (fun p => votes.contains p.1)
  match fixed.or (agreed arr) with
  | some t => .majority t (arr.filter (fun p => !p.2.agrees t))
      (if closed then votes.filter (fun l => arr.all (fun p => p.1 ≠ l)) else [])
  | none => if !arr.isEmpty && (closed || arr.length = votes.length) then .none_ else .open_

/-- The transaction of a finding. -/
def Judg.txn : Judg → Option Txn
  | .majority t _ _ => some t
  | .open_ => none
  | .none_ => none

/-- Where the Shepherds' findings differ, what each would release cannot be the same (R185): the
verdicts stand against each other until they are exchanged. -/
def State.splitWin (s : State) (q : BitVec 32) (a b : Judg) : State :=
  match a.txn.or b.txn with
  | some t => s.updWin q (fun x =>
      if x.released then x else { x with verdict := some { txn := t, split := true, exchanged := false } })
  | none => s

/-- Judge one window in both Shepherds (R206). Their common verdict makes strays, or ends in the device
safe state. -/
def State.judgeWin (s : State) (q : BitVec 32) (closed : Bool) : State :=
  match s.winAt q with
  | none => s
  | some w =>
    let fixed := if w.released then w.verdict.map (·.txn) else none
    let a := judgeArr s.voting closed fixed w.arr
    let b := judgeArr s.voting closed fixed w.arr2
    if a ≠ b then s.splitWin q a b
    else match a with
    | .open_ => s
    | .none_ => s.safeEnter 4
    | .majority t bad late =>
      let s1 := s.updWin q (fun x => match x.verdict with
        | some v => { x with verdict := some { v with split := false } }
        | none => { x with verdict := some { txn := t, split := false, exchanged := false } })
      let s2 := bad.foldl (fun x p =>
        x.stray p.1 (if p.2.poison then 3 else 1) t.kind.toNat (p.2.classes t)) s1
      late.foldl (fun x l => x.stray l 2 t.kind.toNat 0) s2

/-- Judge a window; when a lane becomes a stray, the other windows are judged without it. -/
def State.judge (s : State) (q : BitVec 32) (closed : Bool) : State :=
  let s1 := s.judgeWin q closed
  if s1.voting.length < s.voting.length then
    (s1.triad.wins.map (fun w => w.seq)).foldl (fun x p => x.judgeWin p false) s1
  else s1

/-! ### Releasing (R185 to R188, R210) -/

/-- A request to the hub. -/
def hubItem (ini : Initiator) (t : Txn) (lanes : List LaneId) : HubItem :=
  { req := { init := ini, write := t.kind.toNat < 8, addr := t.addr, size := 8,
             data := t.data.zeroExtend 256, tag := 0 }
    named := false, kind := t.kind, mask := t.mask, seq := t.seq, lanes := lanes }

/-- Hand a request to the hub. -/
def State.hubPush (s : State) (i : HubItem) : State :=
  { s with memx := { s.memx with hubQ := s.memx.hubQ ++ [i] } }

/-- The effect of a SYSOP after its release (Table 09-16). -/
def State.sysopDone (s : State) (fn : Nat) (v : DWord) : State :=
  match fn with
  | 1 => { s with triad := { s.triad with modeReq := some (v.truncate 2) } }
  | 2 => s.safeEnter 7
  | 3 => (s.ringAdd v.toNat).count 21
  | _ => s

/-- Perform or forward a released transaction of some lanes: END begins the injection, a SYSOP
takes effect, everything else goes to the hub. -/
def State.perform (s : State) (ini : Initiator) (t : Txn) (lanes : List LaneId) : State :=
  match t.kind.toNat with
  | 3 => (s.sysopDone t.addr t.data).hubReply (hubItem ini t lanes) 0 false 0
  | 4 => { s with triad := { s.triad with endReleased := true, injPending := true } }
  | _ => if t.held then s else s.hubPush (hubItem ini t lanes)

/-- Is it a commit point? Commits are not accepted in the device safe state (R23). -/
def Txn.commit (t : Txn) : Bool := t.kind.toNat < 5

/-- Windows that have been released and whose lanes have all arrived are finished. -/
def State.purgeWins (s : State) : State :=
  let votes := s.voting
  let live (w : Win) : Bool := !(w.released && votes.all (fun l => w.arr.any (fun p => p.1 = l)
    && w.arr2.any (fun p => p.1 = l)))
  { s with triad := { s.triad with wins := s.triad.wins.filter live } }

/-- The read made on an outvoted leader's request goes to no lane (R187): its response, or the request
where it still waits or is on its way over the Fold link. -/
def State.dropMade (s : State) (q : BitVec 32) : State :=
  let off (i : HubItem) : HubItem :=
    if i.seq = q ∧ i.req.init = .lanes ∧ !i.named then { i with lanes := [] } else i
  let s1 := s.foldItems off
  { s1 with triad := { s1.triad with resps := s1.triad.resps.filter (fun r => r.seq ≠ q) }
            memx := { s1.memx with hubQ := s1.memx.hubQ.filter (fun i =>
              ¬(i.seq = q ∧ i.req.init = .lanes ∧ !i.named)) } }

/-- Release one window, all lower ones having been released or made: its agreed transaction once
the verdicts have been exchanged; a read of a region with EFFECT = 0 on the leading lane's
request; otherwise it holds. Answers whether the next window may go on. -/
def State.releaseWin (s : State) (w : Win) : State × Bool :=
  let done (x : State) : State := x.updWin w.seq (fun y => { y with released := true })
  let lead : Option (LaneId × Txn) := match s.voting with
    | l :: _ => w.arr.find? (fun p => p.1 = l && w.arr2.contains p)
    | [] => none
  if w.released then (s, true)
  else match w.verdict with
  | some v =>
    if !v.exchanged then (s, w.made.isSome)
    else if v.txn.commit && !s.accepts then (s, false)
    else if w.made = some v.txn then (done s, true)
    else
      let s1 := if w.made.isSome then s.dropMade w.seq else s
      ((done s1).perform .lanes v.txn s1.voting, true)
  | none =>
    match w.made, lead with
    | some _, _ => (s, true)
    | none, some p =>
      if 8 ≤ p.2.kind.toNat && !p.2.held && !p.2.poison && !(s.attrs p.2.addr).effect then
        ((s.updWin w.seq (fun y => { y with made := some p.2 })).hubPush
          (hubItem .lanes p.2 s.voting), true)
      else (s, false)
    | none, none => (s, false)

/-- Release windows in SEQ order as far as possible (R186). -/
def State.releaseFrom (s : State) : List Win → State
  | [] => s
  | w :: t => match s.releaseWin w with
    | (s1, true) => s1.releaseFrom t
    | (s1, false) => s1

/-- Release what can be released, then let lanes that wait for it enter the safe state. -/
def State.releaseAll (s : State) : State :=
  ((s.releaseFrom s.triad.wins).purgeWins).safeDrain

/-! ### Independent lanes (R142, R210) -/

/-- Is a transaction of a lane a general load, its prefetch or a general store (R142)? -/
def State.generalTxn (s : State) (l : LaneId) (t : Txn) : Bool :=
  t.kind = 0 || t.kind = 9 ||
    (t.kind = 8 && match (s.lane l).exec with
      | .waitRead q (.load _ _ _ _) => decide (q = t.seq)
      | _ => false)

/-- Have all independent lanes sent their END or halted? -/
def State.soloOver (s : State) : Bool :=
  allLanes.all (fun m => !s.indep m || ((s.lane m).over && (s.lane m).out.isEmpty))

/-- A transaction of an independent lane: checked and forwarded in order (R210, R142). DESIGN CHOICE
(log entry 114): a prefetch into a region with SOLO_OK = 0 that follows a load from one with SOLO_OK = 1
is judged as the general load is: PERM, with its event. -/
def State.forward (s : State) (l : LaneId) (t : Txn) : State :=
  if t.poison then s.safeAction l
  else if t.commit && !s.accepts then s
  else if t.kind = 4 then
    if s.mode = 3 && s.soloOver then
      { s with triad := { s.triad with endReleased := true, injPending := true } }
    else s.tryCommit
  else if s.mode = 2 && s.generalTxn l t && !t.held && !(s.attrs t.addr).soloOk then
    s.hubReply (hubItem (.solo l) t [l]) Resp.perm.code false 0
  else s.perform (.solo l) t [l]

/-! ### Entries of the skew buffers (R178, R206, R207) -/

/-- A stored entry with bit `n` flipped: ADDR, DATA, MASK, KIND, POISON, SEQ in field order, 141 bits; the
parity bits that follow are no part of the transaction. -/
def Txn.flip (t : Txn) (n : Nat) : Txn :=
  if n < 32 then { t with addr := setBit t.addr n (!bitOf t.addr n) }
  else if n < 96 then { t with data := t.data ^^^ BitVec.ofNat 64 (2 ^ (n - 32)) }
  else if n < 104 then { t with mask := setBit t.mask (n - 96) (!bitOf t.mask (n - 96)) }
  else if n < 108 then { t with kind := t.kind ^^^ BitVec.ofNat 4 (2 ^ (n - 104)) }
  else if n = 108 then { t with poison := !t.poison }
  else if n < 141 then { t with seq := t.seq ^^^ BitVec.ofNat 32 (2 ^ (n - 109)) }
  else t

/-- The 16-bit group of a stored bit; its parity bit is bit 141 + group. -/
def parityGroup (n : Nat) : Nat := if n < 141 then n / 16 else n - 141

/-- Does every group of an entry pass its even parity when these bits of it have flipped? -/
def parityPass (bits : List Nat) : Bool :=
  (List.range 9).all (fun g => (bits.filter (fun n => parityGroup n = g)).length % 2 = 0)

/-- The flipped bits of one Shepherd's buffer. -/
def flipsOf (second : Bool) (flips : List (Bool × Nat)) : List Nat :=
  (flips.filter (fun f => f.1 = second)).map (fun f => f.2)

/-- The code of TRI_VFLAST.SHEP of the Shepherds for which a check failed. -/
def shepCode (ok1 ok2 : Bool) : Nat := bitNat (!ok1) + 2 * bitNat (!ok2)

/-- Entries of a lane's skew buffer, the fuller one: its transactions that are not yet released. -/
def State.skewUsed (s : State) (l : LaneId) : Nat :=
  let n (f : Win → List (LaneId × Txn)) : Nat :=
    (s.triad.wins.filter (fun w => !w.released && (f w).any (fun p => p.1 = l))).length
  max (n (·.arr)) (n (·.arr2))

/-- The window of a sequence number is open. -/
def State.openWin (s : State) (q : BitVec 32) : State :=
  match s.winAt q with
  | some _ => s
  | none =>
    let w : Win := { seq := q, arr := [], arr2 := [], verdict := none, made := none, released := false }
    { s with triad := { s.triad with wins := s.triad.wins ++ [w] } }

/-- A voting lane's transaction enters its window as each Shepherd holds it, is judged, and releases
follow. -/
def State.arrive (s : State) (l : LaneId) (t u : Txn) : State :=
  let s1 := (s.openWin t.seq).openWin u.seq
  let s2 := s1.updWin t.seq (fun w => { w with arr := w.arr ++ [(l, t)] })
  let s3 := s2.updWin u.seq (fun w => { w with arr2 := w.arr2 ++ [(l, u)] })
  let s4 := s3.judge t.seq false
  (if u.seq = t.seq then s4 else s4.judge u.seq false).releaseAll

/-- SHEPHERD_TRANSACTION: the next transaction of a lane arrives at both Shepherds; `flips` are the bits
that flip in the stored entries, of Shepherd_2 where `true`. A full skew buffer lets the lane wait
(R181); an entry that fails its parity, and a check of an independent lane that differs, are voter
faults (R207, R210). -/
def execShepherdTransaction (l : LaneId) (flips : List (Bool × Nat)) (s : State) : Out :=
  .next (match (s.lane l).out with
    | [] => s
    | t :: rest =>
      if s.skewUsed l ≥ 16 then s
      else
        let s1 := s.updLane l (fun x => { x with out := rest })
        let ok1 := parityPass (flipsOf false flips)
        let ok2 := parityPass (flipsOf true flips)
        let t1 := (flipsOf false flips).foldl Txn.flip t
        let t2 := (flipsOf true flips).foldl Txn.flip t
        if !(ok1 && ok2) then s1.voterFault 2 (shepCode ok1 ok2) l.num
        else if s.votes l then s1.arrive l t1 t2
        else if s.indep l then
          if t1 = t2 then (s1.forward l t1).safeDrain else s1.voterFault 1 3 l.num
        else s1)

/-- VOTING_WINDOW_CLOSE: 64 core clocks after the window opened. -/
def execVotingWindowClose (seq : BitVec 32) (s : State) : Out :=
  .next ((s.judge seq true).releaseAll)

/-- VERDICT_EXCHANGE: verdict and digest of the other Shepherd; `same`: they come through the exchange as
they were sent. -/
def execVerdictExchange (seq : BitVec 32) (same : Bool) (s : State) : Out :=
  .next (match s.winAt seq with
    | some w =>
      (match w.verdict with
      | some v =>
        if v.exchanged then s
        else if same && !v.split then
          (s.updWin seq (fun x => { x with verdict := some { v with exchanged := true } })).releaseAll
        else s.voterFault 1 3 3
      | none => s)
    | none => s)

/-- VERDICT_EXCHANGE_TIMEOUT: a Shepherd, Shepherd_2 where `second`, has no verdict from the other one
within 16 clocks. -/
def execVerdictExchangeTimeout (seq : BitVec 32) (second : Bool) (s : State) : Out :=
  .next (match s.winAt seq with
    | some w =>
      (match w.verdict with
      | some v => if v.exchanged then s else s.voterFault 4 (shepCode (second) (!second)) 3
      | none => s)
    | none => s)

/-! ### Replicated reads (R189, R144 to R146) -/

/-- May a lane take a response: its own transaction has arrived and agrees with the one made? -/
def State.mayTake (s : State) (l : LaneId) (r : RdResp) : Bool :=
  r.lanes.contains l &&
    (match s.winAt r.seq with
    | none => true
    | some w =>
      let t := match w.verdict with
        | some v => some v.txn
        | none => w.made
      match w.arr.find? (fun p => p.1 = l), t with
      | some p, some u => p.2.agrees u
      | _, _ => !s.votes l)

/-- The response is taken from what is owed to a lane. -/
def State.respTaken (s : State) (l : LaneId) (r : RdResp) : State :=
  let one (x : RdResp) : RdResp := if x = r then { x with lanes := x.lanes.filter (· ≠ l) } else x
  let rs := (s.triad.resps.map one).filter (fun x => !x.lanes.isEmpty)
  { s with triad := { s.triad with resps := rs } }

/-- What a demand read's response does in its lane: data and flags, or the bus trap. -/
def State.readDone (s : State) (l : LaneId) (d : ReadDest) (r : RdResp) (a : Nat) : State :=
  if r.code ≠ 0 then
    (s.updLane l (fun x => { x with exec := .run, pc := x.pc - 4 })).trapEnter l (0x10 + r.code) a
      r.code
  else
    let v := r.data.toNat
    let s1 := s.updLane l (fun x =>
      let y := { x with exec := .run }
      match d with
      | .load g o n sg => y.setGpr g (extend sg n (v / 2 ^ (8 * o)))
      | .item g sg => (y.setGpr g (extend sg 4 v)).setSt 4 (bitOf v 32)
      | .recv g => (y.setGpr g r.data).setSt 0 (v = 0))
    s1.when (r.effect && !(s.attrs r.addr).effect) (fun x => x.raise MEM_EVT_EFFECT_UNMARKED)

/-- The address that a demand read names for FADDR: the access itself. -/
def readAddr (d : ReadDest) (r : RdResp) : Nat :=
  match d with
  | .load _ o _ _ => r.addr + o
  | _ => r.addr

/-- A replicated response with bit `n` of its entry flipped: data, code, EFFECT; bit 68 is the parity. -/
def flipResp (c : Nat × Bool × DWord) (n : Nat) : Nat × Bool × DWord :=
  if n < 64 then (c.1, c.2.1, c.2.2 ^^^ BitVec.ofNat 64 (2 ^ n))
  else if n < 67 then (setBit c.1 (n - 64) (!bitOf c.1 (n - 64)), c.2.1, c.2.2)
  else if n = 67 then (c.1, !c.2.1, c.2.2)
  else c

/-- REPLICATED_READ_RESPONSE: a lane takes the next response owed to it and compares the copies of
both Shepherds; `flips` are the bits that flip in their replication buffers. An error response to a
prefetch is discarded (R234). DESIGN CHOICE (log entry 114): the data of a prefetch with EFFECT = 0 is
not kept; a later load of that word makes its own READ. -/
def execReplicatedReadResponse (l : LaneId) (flips : List (Bool × Nat)) (s : State) : Out :=
  .next (match s.triad.resps.find? (fun r => s.mayTake l r) with
    | none => s
    | some r0 =>
      let ok1 := decide ((flipsOf false flips).length % 2 = 0)
      let ok2 := decide ((flipsOf true flips).length % 2 = 0)
      let c1 := (flipsOf false flips).foldl flipResp (r0.code, r0.effect, r0.data)
      let c2 := (flipsOf true flips).foldl flipResp r0.twin
      if !(ok1 && ok2) then s.voterFault 3 (shepCode ok1 ok2) l.num
      else if c1 ≠ c2 then s.voterFault 3 3 l.num
      else
        let r : RdResp := { r0 with code := c1.1, effect := c1.2.1, data := c1.2.2 }
        let s1 := s.respTaken l r0
        let x := s.lane l
        if x.prefetch.contains r.seq then
          let s2 := s1.updLane l (fun y => { y with prefetch := y.prefetch.erase r.seq })
          if r.code = 0 && r.effect then s2.heldAdd l r.addr r.data else s2
        else match x.exec with
          | .waitRead q d => if q = r.seq then s1.readDone l d r (readAddr d r) else s1
          | _ => s1)

/-! ### Run-time injection (R209) -/

/-- RUNTIME_INJECTION_FLAGGED: both Shepherds must flag the triple after the END. -/
def execRuntimeInjectionFlagged (shep1 shep2 : Bool) (s : State) : Out :=
  .next (if !s.triad.injPending then s
    else
      let p := s.fget TRI_INJ_RT_NEXT
      if shep1 && shep2 then
        let s1 := s.fset TRI_INJ_RT_NEXT ((p + 1) % 48)
        ({ s1 with triad := { s1.triad with injPending := false } }).tryCommit
      else s.voterFault 5 (shepCode shep1 shep2) (p / 16))

/-- SOLO_LATE_HALT: the independent lane of PAIR_SOLO has not sent END by CYC_LIMIT (R262). -/
def execSoloLateHalt (l : LaneId) (s : State) : Out :=
  .next (if s.mode = 2 && s.indep l && s.triad.endReleased && !(s.lane l).over then
    (((s.updLane l (fun x => { x with exec := .halted, out := [] })).raise
      CYC_EVT_SOLO_LATE).raise CYC_STAT_SOLO_LATE).tryCommit
  else s)

end Sys2Proof.Machine
end

