-- ==== Sys2Proof/Machine/Boot.lean ====
section
/-! DEFINITION. Sys2Proof/Machine/Boot.lean: the start-up phases S3 to S7, the shadow load, and the
requests to swap and to confirm (R154 to R174, R208, R213). -/

namespace Sys2Proof.Machine

/-- Change the boot controller. -/
def State.bootUpd (s : State) (f : Boot → Boot) : State := { s with boot := f s.boot }

/-- The phase that BOOT_STAT shows: 1 to 6 for S2 to S7, 7 running, 8 halted. -/
def State.phase (s : State) : Nat := s.fget BOOT_STAT_PHASE

/-- Run a phase's work in that phase alone. -/
def State.inPhase (s : State) (p : Nat) (f : State → State) : State := if s.phase = p then f s else s

/-! ### S3: directory and slot selection (R154, R159) -/

/-- Use the flash copy of the wear log from now on, and write to it what it lacks (R33). -/
def State.wearResync (s : State) : State :=
  let s1 := s.bootUpd (fun b => { b with dirOk := true })
  let fl := s1.flashWear
  let lack := s1.retainedWear.filter (fun e => !fl.contains e && !s1.wear.pendWear.contains e)
  let s2 := lack.foldl (fun x e => x.pendWearFlash e) s1
  s2.retryWear

/-- Show a slot in BOOT_SLOT and BOOT_GEN_A or BOOT_GEN_B. -/
def State.showSlot (s : State) (b : Bool) : State :=
  let page := s.page b
  let code := slotCode page s.slotSize s.board.gradeW
  let gen := if hdrOk page s.slotSize then leAt page 8 4 else 0
  if b then ((s.fset BOOT_SLOT_B_STATE code).show BOOT_SLOT_B_MARK (markOk page)).fset
    BOOT_GEN_B_GENERATION gen
  else ((s.fset BOOT_SLOT_A_STATE code).show BOOT_SLOT_A_MARK (markOk page)).fset
    BOOT_GEN_A_GENERATION gen

/-- A start that cannot go on (R154, R159). -/
def State.noImage (s : State) : State := (s.raise BOOT_STAT_NO_IMAGE).fset BOOT_STAT_PHASE 8

/-- Select slot `b`: its start is recorded in its trial words unless it is confirmed. -/
def State.takeSlot (s : State) (b ok : Bool) : State :=
  let page := s.page b
  let s1 :=
    if wordSet page 0xF08 then s
    else if wordSet page 0xF00 then s.programWord b 0xF04 ok
    else s.programWord b 0xF00 ok
  (s1.show BOOT_STAT_SLOT b).fset BOOT_STAT_PHASE 3

/-- Reject slot `b` during selection (R159) or because its load failed (R160). -/
def State.rejectSlot (s : State) (b ok : Bool) : State :=
  (s.programWord b 0xF0C ok).raise BOOT_STAT_FALLBACK

/-- Does a slot that is a candidate fall out because its two trials are used up? -/
def State.trialsUsed (s : State) (b : Bool) : Bool :=
  wordSet (s.page b) 0xF04 && !wordSet (s.page b) 0xF08

/-- The loop of R159 over the candidates. -/
def State.selectLoop (s : State) (ok : Bool) : Nat → List Bool → State
  | 0, _ => s.noImage
  | n + 1, cand =>
    let gen (b : Bool) : Nat := leAt (s.page b) 8 4
    let pick : Option Bool :=
      match cand with
      | [] => none
      | [b] => some b
      | _ => some (gen false < gen true)
    match pick with
    | none => s.noImage
    | some b =>
      let s1 := s.when (cand.length = 2 && gen false = gen true) (fun x => x.raise BOOT_STAT_GEN_TIE)
      if s1.trialsUsed b then (s1.rejectSlot b ok).selectLoop ok n (cand.filter (· ≠ b))
      else s1.takeSlot b ok

/-- Show the slots looked at; one whose section has failed in this start keeps the code of that. -/
def State.showSlots (s : State) (l : List Bool) : State :=
  l.foldl (fun x b =>
    if x.fget (if b then BOOT_SLOT_B_STATE else BOOT_SLOT_A_STATE) = 8 then x else x.showSlot b) s

/-- The start-up reads of a phase have succeeded (R153). -/
def State.flashAnswered (s : State) : State := { s with flc := { s.flc with timeouts := 0 } }

/-- Phase S3. DESIGN CHOICE (log entry 113): where no directory copy is valid no slot is looked at, and
BOOT_SLOT keeps its reset value. -/
def State.selectSlot (s : State) (ok : Bool) : State :=
  if s.dir.isNone then s.noImage
  else
    let s1 := s.show BOOT_STAT_DIR_MISMATCH (s.dirValid 0 && s.dirValid 1 && s.dirBytes 0 ≠ s.dirBytes 1)
    let s2 := s1.wearResync
    let among := if s2.boot.cand.isEmpty then [false, true] else s2.boot.cand
    let s3 := s2.selectLoop ok 3 (among.filter s2.slotValid)
    s3.showSlots among

/-- SLOT_SELECTION. -/
def execSlotSelection (progOk : Bool) (s : State) : Out :=
  .next (s.inPhase 2 (fun x => x.flashAnswered.selectSlot progOk))

/-! ### S4: memory and self-tests (R163) -/

/-- The any-service set at start: what is missing shows in BOOT_STAT.MISSING (R19). COMMON has no bit
there; without its power good start-up ends too (R64). -/
def State.missingCheck (s : State) (k : State → State) : State :=
  let s1 := ((s.show ⟨0x40030000, 8, 1⟩ (!s.boot.shepOk.getLsbD 0)).show ⟨0x40030000, 9, 1⟩
    (!s.boot.shepOk.getLsbD 1)).show ⟨0x40030000, 10, 1⟩ s.healthyCores.isEmpty
  if s1.fget BOOT_STAT_MISSING ≠ 0 || s1.fget (pstat .common) ≠ 2 then s1.fset BOOT_STAT_PHASE 8
  else k s1

/-- MEMORY_INIT_SELFTEST: every word but retained memory is initialised. -/
def execMemoryInitSelftest (coreOk : BitVec 4) (shep1Ok shep2Ok : Bool) (s : State) : Out :=
  .next (s.inPhase 3 (fun x =>
    let y := { x with mem := x.mem.filter (fun p => 0xF0000000 ≤ p.1 && p.1 < 0xF0004000)
                      memx := { x.memx with poisoned := [], upsets := [] }
                      boot := { x.boot with coreOk := coreOk
                                            shepOk := BitVec.ofNat 2 (bitNat shep1Ok + 2 * bitNat shep2Ok) } }
    y.missingCheck (fun z => z.fset BOOT_STAT_PHASE 4)))

/-! ### S5: loading the sections (R157, R160, R167) -/

/-- A load that failed: the slot is rejected and start-up goes back to S3 with the other one. -/
def State.loadFail (s : State) (b ok : Bool) : State :=
  let s1 := (s.rejectSlot b ok).fset (if b then BOOT_SLOT_B_STATE else BOOT_SLOT_A_STATE) 8
  (s1.bootUpd (fun t => { t with cand := [!b], act := .empty })).fset BOOT_STAT_PHASE 2

/-- Write the entries of registers with one bank, in list order; whether every write succeeded. -/
def State.rwEntries (s : State) (l : List (Nat × Word)) : State × Bool :=
  let r := l.foldl (fun (p : State × Bool) (e : Nat × Word) =>
    let t := p.1.rwLoad e.1 e.2.toNat
    (t, p.2 && t.resp = .okay)) (s, true)
  ({ r.1 with resp := s.resp, rdata := s.rdata }, r.2)

/-- The image of a start becomes set 0 (R166). -/
def State.startSet (s : State) (g : Img) (agree : Bool) : State :=
  let s1 := (s.bootUpd (fun b =>
      { b with act := g.set, shd := .empty, prevUnconf := false })).lower
    BOOT_STAT_ACTIVE_SET
  let s2 := { s1 with regs := s1.regs.bankLoad g.set.rwl }
  let s3 := (s2.halfLoad g 0).show BOOT_SSTAT_CONFIRMED (wordSet g.page 0xF08)
  let s4 := s3.when (!agree && g.set.has 0x0B 0) (fun x => x.raise SAF_EVT_CHK_DIFF)
  (s4.showCheck (if agree then g.set.checkVal else 0)).fset BOOT_STAT_PHASE 5

/-- SECTION_LOAD. A core whose readback check failed at the load and at its retry is marked FAULT: it
counts as a core that failed its self-test, and start-up goes on (R161, R271). -/
def execSectionLoad (unitsAgree progOk : Bool) (coreFail : BitVec 4) (s : State) : Out :=
  .next (s.inPhase 4 (fun x0 =>
    let x := x0.flashAnswered
    let b := x.flag BOOT_STAT_SLOT
    match x.loadImg b with
    | none => x.loadFail b progOk
    | some g =>
      let r := x.rwEntries g.set.heldRw
      if r.2 then (r.1.startSet g unitsAgree).bootUpd (fun t => { t with coreOk := t.coreOk &&& ~~~coreFail })
      else x.loadFail b progOk))

/-! ### S6: field die and engines (R161, R164) -/

/-- Start a unit that is present. -/
def State.unitUp (s : State) (u : Nat) : State := if s.unitDown u then s else s.unitStart u

/-- The units that ENGINE_RELOAD loads, by their codes of Table 04-4. -/
def engineUnits : List Nat :=
  [0x20, 0x21, 0x22, 0x28, 0x29, 0x2A, 0x2B, 0x2C, 0x2D, 0x2E, 0x30, 0x38, 0x39]

/-- ENGINE_RELOAD: the field die and every engine; a unit whose readback differed twice is marked FAULT
(R161); the switch and the bridge forward as the findings say; the recorder counts the episode. -/
def execEngineReload (fwdEth fwdFlk : Bool) (failed : List Nat) (s : State) : Out :=
  .next (s.inPhase 5 (fun x =>
    let x1 := x.bootUpd (fun b => { b with fieldTries := 0, faultUnits := engineUnits.filter failed.contains })
    let x2 := if x1.flogicUp then x1.fieldReload else x1.raise BOOT_STAT_FIELD_WAIT
    let x3 := engineUnits.foldl State.unitUp x2
    let x4 := (x3.when (!fwdEth) (fun y => y.lower ETH_STAT_FWD)).when (!fwdFlk) (fun y =>
      y.lower FLK_STAT_FWD)
    (x4.count 20).fset BOOT_STAT_PHASE 6))

/-- The field die's answer to a reload: accepted, retried once, or given up (R161). From an acceptance on
REFRESH carries zeros until the first COMMIT (R290). -/
def State.fieldAck (s : State) (ok : Bool) : State :=
  if ok then
    let s1 := { s with link := { s.link with acked := true, img := .zero }
                       boot := { s.boot with fieldTries := 0 } }
    ((s1.fset FLD_STAT_LINK 2).raise FLD_STAT_CFG_OK).lower BOOT_STAT_FIELD_WAIT
  else if s.boot.fieldTries = 0 then
    s.fieldReload.bootUpd (fun b => { b with fieldTries := 1 })
  else
    ((s.fset FLD_STAT_LINK 3).raise BOOT_STAT_FIELD_WAIT).bootUpd (fun b => { b with fieldTries := 0 })

/-- FIELD_RELOAD_ACK: the field die has had the LOAD frames of a reload; its answer matches where they
arrived whole (R161, R289). -/
def execFieldReloadAck (crcOk : Bool) (s : State) : Out :=
  .next (s.when (s.fget FLD_STAT_LINK = 1 && s.flogicUp
      && !s.link.toField.any (fun f => match f with
        | .load _ _ => true
        | _ => false)) (fun x => x.fieldAck (crcOk && x.fd.loadOk)))

/-! ### S7: checks and the safe-mode decision (R165, R208, R213) -/

/-- The lowest-numbered healthy core that carries none of the lanes of `used`. -/
def State.freeCore (s : State) (used : List CoreId) : Option CoreId :=
  s.healthyCores.find? (fun k => !used.contains k)

/-- Note that no reserve remains, once (R30, R34). -/
def State.reserveGone (s : State) : State :=
  if s.wear.file.any (fun e => e.kind = 7 && e.unit = 2) then s else s.spareExhausted 2

/-- Give every lane a core at start (R213): a lane whose core is retired or failed its self-test moves
to a free core; without one it is absent. -/
def State.startLanes (s : State) : State :=
  let kept := (allLanes.filter (fun l => s.healthy (s.coreOfLane l))).map s.coreOfLane
  (allLanes.foldl (fun (p : State × List CoreId) l =>
    let x := p.1
    let k := x.coreOfLane l
    if x.healthy k then (x, p.2)
    else match x.freeCore p.2 with
      | none => (x.fset (laneStateF l) 2, p.2)
      | some c =>
        let x1 := x.fset (laneCoreF l) c.num
        let used := p.2 ++ [c]
        let x2 := if x.retired k then
            (x1.wearLog 2 c.num l.num).when (x1.freeCore used).isNone State.reserveGone
          else x1
        (x2, used)) (s, kept)).1

/-- Put the lanes into a mode at start (R210, R213). -/
def State.startMode (s : State) (m : Nat) : State :=
  let pres := allLanes.filter (fun l => s.fget (laneStateF l) ≠ 2)
  let st (i : Nat) : Nat :=
    match m with
    | 0 => 0
    | 1 => if i < 2 then 0 else 2
    | 2 => if i < 2 then 0 else 3
    | _ => 3
  let s1 := (pres.zipIdx).foldl (fun x p => x.fset (laneStateF p.1) (st p.2)) s
  s1.fset TRI_MODE_CUR m

/-- BOOT_STAT.REFUSE (R165). -/
def State.refusal (s : State) (missed : Bool) : Nat :=
  let c := s.boot.act
  let safeSet := s.boot.shepOk = 3 && 2 ≤ s.healthyCores.length && s.flogicUp && s.fpowerUp
    && s.fget FLD_STAT_LINK = 2 && !(c.safety && s.fget TRI_MODE_CFG = 3)
  bitNat (!c.toolOk) + 2 * bitNat (!c.matchOk (s.fget SAF_CHECKVAL_VAL))
    + 4 * bitNat (s.flag SYS_RSTSTAT_TRIM_FAULT) + 8 * bitNat (!s.flag BOOT_LOCK_LOCK)
    + 16 * bitNat missed + 32 * bitNat (!safeSet)

/-- The mode of R213. -/
def State.modeAtStart (s : State) (refused : Bool) : Nat :=
  let cfg := s.fget TRI_MODE_CFG
  let n := s.healthyCores.length
  if refused || n ≤ 1 then 3
  else if n = 2 && (cfg = 0 || cfg = 2) then 1
  else cfg

/-- The checks of S7 once the field die is there. -/
def State.startChecks (s : State) (miss1 miss2 : List Nat) : State :=
  let m1 := (List.range 48).filter miss1.contains
  let m2 := (List.range 48).filter miss2.contains
  let all := (List.range 48).filter (fun p => miss1.contains p || miss2.contains p)
  let s1 := ((s.fset TRI_INJ_S1_START (48 - m1.length)).fset TRI_INJ_S2_START (48 - m2.length)).fset
    TRI_INJ_FIRST_MISS (match all with
      | [] => 0x3F
      | p :: _ => p)
  let c := s1.boot.act
  let s2 := s1.when (c.lockFlag || c.safety) (fun x => x.raise BOOT_LOCK_LOCK)
  let r := s2.refusal (!all.isEmpty)
  let s3 := (s2.fset BOOT_STAT_REFUSE r).startLanes
  let s4 := { s3 with triad := { s3.triad with safeRefused := r ≠ 0 } }
  let s5 := s4.fset TRI_MODE_REQ (s4.fget TRI_MODE_CFG)
  if r ≠ 0 && c.safety then (s5.fset TRI_MODE_RESULT 6).fset BOOT_STAT_PHASE 8
  else
    let s6 := s5.startMode (s5.modeAtStart (r ≠ 0))
    let s7 := if r ≠ 0 && s6.fget TRI_MODE_CFG ≠ 3 then
        (s6.fset TRI_MODE_RESULT 6).raise TRI_EVT_MODE_REFUSED
      else s6.fset TRI_MODE_RESULT 1
    s7.fset BOOT_STAT_PHASE 7

/-- STARTUP_CHECKS: with a safety function the start waits for the field die (R65). -/
def execStartupChecks (miss1 miss2 : List Nat) (s : State) : Out :=
  .next (s.inPhase 6 (fun x =>
    if x.boot.act.safety && !(x.flogicUp && x.fpowerUp && x.fget FLD_STAT_LINK = 2) then
      x.raise BOOT_STAT_FIELD_WAIT
    else x.missingCheck (fun y => y.startChecks miss1 miss2)))

/-! ### The shadow load (R168, R169) -/

/-- A request with its result, refused with an error response or not. -/
def State.sresult (s : State) (r : Nat) (resp : Resp) : State :=
  (s.fset BOOT_SSTAT_RESULT r).answer resp

/-- A store to BOOT_SLOAD that starts a load. -/
def State.sloadStart (s : State) (key : Nat) (b : Bool) : State :=
  if key ≠ 0x5A then s.answer .target
  else if s.flag BOOT_SSTAT_BUSY then s.sresult 2 .target
  else if !s.flag BOOT_SSTAT_CONFIRMED then s.sresult 3 .target
  else if !s.slotValid b then s.sresult 4 .target
  else if s.boot.armed then s.sresult 0xB .target
  else
    let s1 := ((s.raise BOOT_SSTAT_BUSY).lower BOOT_SSTAT_READY).lower BOOT_SSTAT_NEEDS_RESTART
    let s2 := s1.lower SAF_SHCHECKVAL_VAL
    (s2.bootUpd (fun t => { t with loading := some b, shd := .empty, prevUnconf := false })).answer .okay

/-- SHADOW_LOAD_START. -/
def execShadowLoadStart (key : BitVec 8) (slot : Bool) (s : State) : Out :=
  .next (s.sloadStart key.toNat slot)

/-- A store to BOOT_SLOAD with ABORT = 1. -/
def State.sloadAbort (s : State) (key : Nat) : State :=
  if key ≠ 0x5A then s.answer .target
  else if s.boot.loading.isSome then
    ((s.lower BOOT_SSTAT_BUSY).bootUpd (fun t => { t with loading := none })).sresult 6 .okay
  else if s.flag BOOT_SSTAT_READY then s.sresult 7 .okay
  else s.answer .okay

/-- SHADOW_LOAD_ABORT. -/
def execShadowLoadAbort (key : BitVec 8) (s : State) : Out := .next (s.sloadAbort key.toNat)

/-- The microcode and outstation image sections of a set, or its field configuration: type, instance,
CRC. -/
def CfgSet.fixedSecs (c : CfgSet) : List (Nat × Nat × Nat) :=
  (c.secs.filter (fun x => x.type = 9 || within 13 15 x.type)).map (fun x => (x.type, x.inst, x.crc))

/-- Does a new set differ from what only a start reloads (R168)? -/
def State.needsRestart (s : State) (c : CfgSet) : Bool :=
  let a := s.boot.act.fixedSecs
  let n := c.fixedSecs
  let res := if s.fd.cfgd then s.fd.cfg else s.boot.act.rwl
  !(a.all n.contains && n.all a.contains)
    || [SAF_BLCFG_PULSE.addr, SAF_DTMASK_MASK.addr, SAF_DTLEVEL_LEVEL.addr].any (fun r =>
      res.word r ≠ c.rwl.word r)

/-- The end of a shadow load: the set stands in the half that is not active. -/
def State.sloadDone (s : State) (g : Img) (agree : Bool) : State :=
  let v := if agree then g.set.checkVal else 0
  let nr := s.needsRestart g.set
  let s1 := (s.halfLoad g (1 - s.actSet)).bootUpd (fun b => { b with shd := g.set })
  let s2 := ((s1.show BOOT_SSTAT_READY (!nr)).show BOOT_SSTAT_NEEDS_RESTART nr).show
    BOOT_SSTAT_SHADOW_SLOT g.set.slot
  let s3 := s2.when (!agree && g.set.has 0x0B 0) (fun x => x.raise SAF_EVT_CHK_DIFF)
  let s4 := s3.when (!g.set.matchOk v) (fun x => x.raise SAF_EVT_SHADOW_MISMATCH)
  (s4.fset SAF_SHCHECKVAL_VAL v).fset BOOT_SSTAT_RESULT 1

/-- SHADOW_LOAD_DONE. Held entries are checked as writes are (R157). DESIGN CHOICE (log entry 113): a
core that is loaded and whose readback check failed twice ends the load with SECTION_FAIL. -/
def execShadowLoadDone (unitsAgree : Bool) (coreFail : BitVec 4) (s : State) : Out :=
  .next (match s.boot.loading with
    | none => s
    | some b =>
      let s1 := (s.lower BOOT_SSTAT_BUSY).bootUpd (fun t => { t with loading := none })
      match s1.loadImg b with
      | none => s1.fset BOOT_SSTAT_RESULT 5
      | some g =>
        if dataOk s1.boot.act g.set && primesOk s1.boot.act g.set && (s1.rwEntries g.set.heldRw).2
            && s1.loadCores.all (fun k => !coreFail.getLsbD k.num) then s1.sloadDone g unitsAgree
        else s1.fset BOOT_SSTAT_RESULT 5)

/-! ### CFG_SWAP (R171, R173) -/

/-- The shadow set comes from another slot that has had its two trials. -/
def State.shadowUsedUp (s : State) : Bool :=
  s.boot.shd.loaded && s.boot.shd.slot ≠ s.boot.act.slot && s.trialsUsed s.boot.shd.slot

/-- Is a swap refused (R171)? -/
def State.swapRefused (s : State) : Bool :=
  !s.flag BOOT_SSTAT_READY || s.flag BOOT_SSTAT_NEEDS_RESTART
    || !s.boot.shd.matchOk (s.fget SAF_SHCHECKVAL_VAL) || s.shadowUsedUp

/-- Arm a swap for the next boundary, or refuse it; whether it is armed. -/
def State.armSwap (s : State) (ok : Bool) : State × Bool :=
  if s.swapRefused then
    ((s.when s.shadowUsedUp (fun x => x.programWord x.boot.shd.slot 0xF0C ok)).fset
      BOOT_SSTAT_RESULT 9, false)
  else (s.bootUpd (fun b => { b with armed := true, swapBack := b.prevUnconf }), true)

/-- A store to CFG_SWAP with ACTION = swap. -/
def State.cfgSwap (s : State) (key : Nat) (ok : Bool) : State :=
  if key ≠ 0xC3 then s.answer .target
  else
    let r := s.armSwap ok
    r.1.answer (if r.2 then .okay else .target)

/-- CFG_SWAP_ARM. -/
def execCfgSwapArm (key : BitVec 8) (progOk : Bool) (s : State) : Out :=
  .next (s.cfgSwap key.toNat progOk)

/-- A store to CFG_SWAP with ACTION = confirm. A swap back that the trial timer armed in the cycle is
not made (R286). -/
def State.cfgConfirm (s : State) (key : Nat) (ok : Bool) : State :=
  if key ≠ 0xC3 then s.answer .target
  else
    let b := s.boot.act.slot
    let s1 := if wordSet (s.page b) 0xF08 then s else s.programWord b 0xF08 ok
    let auto := s1.boot.armed && s1.boot.swapBack && s1.fget CYC_XCFG_TRIAL ≠ 0
      && !s1.flag CYC_XSTAT_TRIAL_RUN
    let s2 := s1.when auto (fun x => (x.bootUpd (fun t => { t with armed := false })).lower
      CYC_EVT_AUTO_BACK)
    let s3 := (s2.raise BOOT_SSTAT_CONFIRMED).lower CYC_XSTAT_TRIAL_RUN
    (s3.bootUpd (fun t => { t with prevUnconf := false, swapBack := false })).sresult 0xA .okay

/-- CFG_SWAP_CONFIRM. -/
def execCfgSwapConfirm (key : BitVec 8) (progOk : Bool) (s : State) : Out :=
  .next (s.cfgConfirm key.toNat progOk)

/-- BOOT_LOCK_SET. -/
def execBootLockSet (s : State) : Out := .next ((s.raise BOOT_LOCK_LOCK).answer .okay)

/-- TRIAL_TIMER_EXPIRY: the set was not confirmed in time; a swap back is armed (R286). -/
def execTrialTimerExpiry (s : State) : Out :=
  .next (if s.flag CYC_XSTAT_TRIAL_RUN then
    let s1 := s.lower CYC_XSTAT_TRIAL_RUN
    let r := s1.armSwap true
    r.1.when r.2 (fun x => x.raise CYC_EVT_AUTO_BACK)
  else s)

end Sys2Proof.Machine
end

