-- ==== Sys2Proof/Machine/Compare.lean ====
section
/-! DEFINITION. Sys2Proof/Machine/Compare.lean: compare and select (Table 09-9, R221, R225). -/

namespace Sys2Proof.Machine

/-- CMP: the flags of ga - gb as SUB. -/
def execCmp (l : LaneId) (w : Bool) (a b : GReg) (s : State) : Out :=
  .next (s.instrLane l (fun x =>
    x.aluFlags (opWidth w) (aluSub (opWidth w) (x.opv w a) (x.opv w b))))

/-- TST: Z and N from ga AND gb, C and V cleared. -/
def execTst (l : LaneId) (w : Bool) (a b : GReg) (s : State) : Out :=
  .next (s.instrLane l (fun x =>
    x.aluFlags (opWidth w) (aluVal (opWidth w) (Nat.land (x.opv w a) (x.opv w b)))))

/-- An instruction that tests a condition; a reserved code is ILLEGAL. -/
def State.instrCond (s : State) (l : LaneId) (c : BitVec 5) (f : State → Lane → Bool → IRes) : State :=
  s.instr l (fun s x => match x.cond c with
    | none => .trap 1 0
    | some b => f s x b)

/-- SET: 1 if the condition holds, else 0; flags unchanged. -/
def execSet (l : LaneId) (d : GReg) (cond : BitVec 5) (s : State) : Out :=
  .next (s.instrCond l cond (fun s _ b => .done (s.updLane l (fun x => x.wr false d (bitNat b)))))

/-- SEL: ga if the condition holds, else gb; flags unchanged. -/
def execSel (l : LaneId) (d a b : GReg) (cond : BitVec 5) (s : State) : Out :=
  .next (s.instrCond l cond (fun s _ c =>
    .done (s.updLane l (fun x => x.setGpr d (if c then x.gpr a else x.gpr b)))))

/-- CMPI: the flags of ga - sign-extended IMM. -/
def execCmpi (l : LaneId) (a : GReg) (imm : BitVec 16) (s : State) : Out :=
  .next (s.instrLane l (fun x => x.aluFlags 64 (aluSub 64 (x.opv false a) (immS imm))))

/-- CMPIU: the flags of ga - zero-extended IMM. -/
def execCmpiu (l : LaneId) (a : GReg) (imm : BitVec 16) (s : State) : Out :=
  .next (s.instrLane l (fun x => x.aluFlags 64 (aluSub 64 (x.opv false a) imm.toNat)))

end Sys2Proof.Machine
end

