-- ==== Sys2Proof/Machine/Branch.lean ====
section
/-! DEFINITION. Sys2Proof/Machine/Branch.lean: branch and call (Table 09-10, R226, R227, R251, R259). -/

namespace Sys2Proof.Machine

/-- Go to a target that is 4-byte aligned and in the code range; otherwise ALIGN or BOUND. -/
def State.jump (s : State) (a : Nat) (t : State) : IRes :=
  if a % 4 ≠ 0 then .trap 2 a else if !s.inCode a then .trap 3 a else .goto t a

/-- BR: PC + 4 * DISP where the condition holds. -/
def execBr (l : LaneId) (cond : BitVec 5) (disp : BitVec 21) (s : State) : Out :=
  .next (s.instrCond l cond (fun s x b =>
    if b then s.jump (x.dispTo 21 disp.toNat) s else .done s))

/-- The lane with LK at the instruction after the present one. -/
def Lane.link (x : Lane) : Lane := { x with lk := BitVec.ofNat 32 (x.pc.toNat + 4) }

/-- CALL: LK := PC + 4. -/
def execCall (l : LaneId) (disp : BitVec 26) (s : State) : Out :=
  .next (s.instr l (fun s x => s.jump (x.dispTo 26 disp.toNat) (s.updLane l Lane.link)))

/-- The common part of CALL.FB and CALLR.FB (R226, R227): the new IB and the target are checked
before the stack, then the frame is stored. -/
def State.callFb (s : State) (l : LaneId) (x : Lane) (ib a : Nat) : IRes :=
  let sb := x.sb.toNat
  if ib % 16 ≠ 0 then .trap 2 ib
  else if a % 4 ≠ 0 then .trap 2 a
  else if !s.inActive ib 1 then .trap 3 ib
  else if !s.inCode a then .trap 3 a
  else if s.stackHi < sb + 16 || sb < s.stackLo then .trap 4 0
  else
    let s1 := (s.lstore l sb 8 x.lk.toNat).lstore l (sb + 8) 8 x.ib.toNat
    .goto (s1.updLane l (fun y =>
      { y.link with sb := BitVec.ofNat 32 (sb + 16), ib := BitVec.ofNat 32 ib })) a

/-- CALL.FB. -/
def execCallFb (l : LaneId) (d : GReg) (disp : BitVec 21) (s : State) : Out :=
  .next (s.instr l (fun s x => s.callFb l x (x.addr d) (x.dispTo 21 disp.toNat)))

/-- CALLR.FB: IB := gd, PC := ga. -/
def execCallrFb (l : LaneId) (d a : GReg) (s : State) : Out :=
  .next (s.instr l (fun s x => s.callFb l x (x.addr d) (x.addr a)))

/-- JMPR: PC := ga; target 0 at the unit's stack start ends the unit (R259). -/
def execJmpr (l : LaneId) (a : GReg) (s : State) : Out :=
  .next (s.instr l (fun s x => s.transfer l x (x.addr a) true))

/-- CALLR: LK := PC + 4, PC := ga. -/
def execCallr (l : LaneId) (a : GReg) (s : State) : Out :=
  .next (s.instr l (fun s x =>
    if x.addr a = 0 && !x.stBit 5 && x.sb.toNat = s.stackLo then
      .hold ((s.updLane l Lane.link).dispatch l x.unit)
    else s.jump (x.addr a) (s.updLane l Lane.link)))

/-- RET: PC := LK; target 0 at the unit's stack start ends the unit (R259). -/
def execRet (l : LaneId) (s : State) : Out :=
  .next (s.instr l (fun s x => s.transfer l x x.lk.toNat true))

/-- RET.FB: the frame below SB is restored (R226). -/
def execRetFb (l : LaneId) (s : State) : Out :=
  .next (s.instr l (fun s x =>
    let sb := x.sb.toNat
    let a := x.lk.toNat
    if a % 4 ≠ 0 then .trap 2 a
    else if !s.inCode a then .trap 3 a
    else if sb < s.stackLo + 16 then .trap 4 0
    else if s.lbad l (sb - 16) then .ded s (sb - 16)
    else if s.lbad l (sb - 8) then .ded (s.lseen l (sb - 16)) (sb - 8)
    else
      let s := (s.lseen l (sb - 16)).lseen l (sb - 8)
      let lk := s.lread l (sb - 16) 8
      let ib := s.lread l (sb - 8) 8
      .goto (s.updLane l (fun y => { y with
        sb := BitVec.ofNat 32 (sb - 16), lk := BitVec.ofNat 32 lk, ib := BitVec.ofNat 32 ib })) a))

/-- Does the instruction word at an address write gd, and which register is it (Tables 09-5 to
09-15)? R251 clears it after a trap. -/
def wordWrites (w : Nat) : Option GReg :=
  let op := bitsOf w 26 6
  let fn := bitsOf w 0 6
  let d : GReg := BitVec.ofNat 5 (bitsOf w 21 5)
  let yes (b : Bool) : Option GReg := if b then some d else none
  match op with
  | 0x01 => some d
  | 0x02 => yes (fn ≠ 0x0A)
  | 0x03 => yes (bitsOf w 0 2 ≥ 2)
  | 0x04 => some d
  | 0x08 => some d | 0x09 => some d | 0x0A => some d | 0x0B => some d | 0x0C => some d
  | 0x0D => some d
  | 0x10 => yes (!bitOf w 20)
  | 0x11 => some d | 0x12 => some d | 0x13 => some d | 0x14 => some d
  | 0x15 => some d | 0x16 => some d | 0x17 => some d
  | 0x24 => some d | 0x25 => some d
  | 0x28 => yes (bitsOf w 16 5 = 0 || bitsOf w 16 5 = 1 || bitsOf w 16 5 = 4)
  | 0x2A => some d | 0x2D => some d | 0x2F => some d
  | _ => none

/-- RET.TRAP (R251): the state at trap entry is restored; after POSTED the END is executed again,
after any other trap the instruction's result is zero with bad quality. -/
def execRetTrap (l : LaneId) (s : State) : Out :=
  .next (s.instr l (fun s x =>
    let sb := x.sb.toNat
    if !x.stBit 5 then .trap 1 0
    else if sb < s.stackLo + 32 then .trap 4 0
    else
      let frame := [sb - 32, sb - 24, sb - 16, sb - 8]
      match frame.find? (fun a => s.lbad l a) with
      | some a => .ded ((frame.takeWhile (fun b => b ≠ a)).foldl (fun t b => t.lseen l b) s) a
      | none =>
        let s := frame.foldl (fun t b => t.lseen l b) s
        let lk := s.lread l (sb - 32) 8
        let ib := s.lread l (sb - 24) 8
        let p := s.lread l (sb - 16) 8 % 2 ^ 32
        let w := s.lread l (sb - 8) 8
        let s1 := s.updLane l (fun y =>
          (({ y with sb := BitVec.ofNat 32 (sb - 32), lk := BitVec.ofNat 32 lk
                     ib := BitVec.ofNat 32 ib
                     st := BitVec.ofNat 16 (bitsOf w 16 16 % 2 ^ 13) }).setSt 5 false).setSt 4 false)
        if w % 256 = 0x18 then
          let s2 := s1.updLane l (fun y => { y with commitErr := none })
          if p = 0 then .hold (s2.endBegin l true) else .goto s2 p
        else
          let s2 := match wordWrites (s.lread l p 4) with
            | some d => s1.updLane l (fun y => y.setGpr d 0)
            | none => s1
          .goto s2 (p + 4)))

/-- CHK: INDEX if ga is not below gb, unsigned. -/
def execChk (l : LaneId) (a b : GReg) (s : State) : Out :=
  .next (s.instr l (fun s x =>
    if x.opv false b ≤ x.opv false a then .trap 7 0 else .done s))

end Sys2Proof.Machine
end

