-- ==== Sys2Proof/Machine/System.lean ====
section
/-! DEFINITION. Sys2Proof/Machine/System.lean: the system instructions (R239, R242 to R245). -/

namespace Sys2Proof.Machine

/-- SYSOP: the commit of a system request; an operand out of its range is ILLEGAL. -/
def State.sysop (s : State) (l : LaneId) (fn : Nat) (ok : Bool) (v : DWord) : IRes :=
  if ok then .done (s.send l 3 fn v.toNat 0xFF) else .trap 1 0

/-- SYSOP MODE: the operand is a mode code. -/
def execSysopMode (l : LaneId) (a : GReg) (s : State) : Out :=
  .next (s.instr l (fun s x => s.sysop l 1 ((x.gpr a).toNat < 4) (x.gpr a)))

/-- SYSOP SAFE: the operand is zero. -/
def execSysopSafe (l : LaneId) (a : GReg) (s : State) : Out :=
  .next (s.instr l (fun s x => s.sysop l 2 (x.gpr a = 0) (x.gpr a)))

/-- SYSOP EVENT: any operand. -/
def execSysopEvent (l : LaneId) (a : GReg) (s : State) : Out :=
  .next (s.instr l (fun s x => s.sysop l 3 true (x.gpr a)))

/-- END: the lane's EXECUTE phase ends once every commit has its response (R245). -/
def execEndUnit (l : LaneId) (s : State) : Out :=
  .next (s.instr l (fun s _ => .hold (s.endBegin l false)))

/-- END_COMMIT_WAIT_DONE: the last commit response has arrived. -/
def execEndCommitWaitDone (l : LaneId) (s : State) : Out :=
  .next (match (s.lane l).exec with
    | .waitEnd _ => if (s.lane l).commits.isEmpty then s.endReady l else s
    | _ => s)

/-- A special register by its code (Table 09-1), zero-extended. -/
def Lane.special (x : Lane) (c : BitVec 3) : Option DWord :=
  match c.toNat with
  | 0 => some (x.ib.zeroExtend 64)
  | 1 => some (x.cb.zeroExtend 64)
  | 2 => some (x.sb.zeroExtend 64)
  | 3 => some (x.pc.zeroExtend 64)
  | 4 => some (x.lk.zeroExtend 64)
  | 5 => some (x.st.zeroExtend 64)
  | _ => none

/-- MFS: gd := special register; an unlisted code is ILLEGAL. -/
def execMfs (l : LaneId) (d : GReg) (code : BitVec 3) (s : State) : Out :=
  .next (s.instr l (fun s x => match x.special code with
    | some v => .done (s.updLane l (fun y => y.setGpr d v))
    | none => .trap 1 0))

/-- MTS: special register := ga, with the checks of R243. -/
def execMts (l : LaneId) (a : GReg) (code : BitVec 3) (s : State) : Out :=
  .next (s.instr l (fun s x =>
    let v := x.addr a
    let w := BitVec.ofNat 32 v
    let base := v % 16 = 0 && s.inActive v 1
    let stack := v % 16 = 0 && s.stackLo ≤ v && v ≤ s.stackHi
    let upd (b : Bool) (f : Lane → Lane) : IRes := if b then .done (s.updLane l f) else .trap 3 v
    match code.toNat with
    | 0 => upd base (fun y => { y with ib := w })
    | 1 => upd base (fun y => { y with cb := w })
    | 2 => upd stack (fun y => { y with sb := w })
    | 4 => upd true (fun y => { y with lk := w })
    | 5 => upd true (fun y =>
        { y with st := BitVec.ofNat 16 (setBit (v % 2 ^ 13) 5 (x.stBit 5)) })
    | _ => .trap 1 0))

/-- GETC: a value latched at the INPUT phase (Table 09-17). -/
def execGetc (l : LaneId) (d : GReg) (sel : BitVec 2) (s : State) : Out :=
  .next (s.instrLane l (fun x => x.setGpr d (match sel.toNat with
    | 0 => s.cyc.ts
    | 1 => s.cyc.count
    | 2 => s.cyc.train
    | _ => s.cyc.mode.zeroExtend 64)))

/-- NOP: nothing but the advance of the PC. -/
def execNop (l : LaneId) (s : State) : Out := .next (s.instrLane l (fun x => x))

end Sys2Proof.Machine
end

