-- ==== Sys2Proof/Machine/Can.lean ====
section
/-! DEFINITION. Sys2Proof/Machine/Can.lean: the commands of the CAN FD controllers (R370 to R386). -/

namespace Sys2Proof.Machine

/-- A controller that receives: error active or passive, restricted, or silent (R370, R371, R386). -/
def State.canHears (s : State) (n : Nat) : Bool :=
  s.canUp n && (s.canState n = 2 || s.canState n = 3 || s.canState n = 7
    || (s.canState n = 6 && (s.canCtl n).joined))

/-- CAN_BUS_INTEGRATION: after 11 recessive bits an integrating controller joins with both counters
at zero, error active in normal mode, restricted otherwise; a restricted one that waited after an
error receives again (R371). -/
def execCanBusIntegration (n : BitVec 2) (s : State) : Out :=
  let k := n.toNat
  .next (if !s.canUp k then s
    else if s.canState k = 1 then
      let s1 := s.canUpd k (fun c => { c with joined := true })
      let s2 := (s1.fset (CAN_n_STAT_TEC k) 0).fset (CAN_n_STAT_REC k) 0
      s2.fset (CAN_n_STAT_STATE k) (if s2.fget (CAN_n_CFG_MODE k) = 2 then 6 else 2)
    else if s.canState k = 6 then s.canUpd k (fun c => { c with joined := true })
    else s)

/-- CAN_FRAME_RECEIVED: the frame is filtered and stored; an FD frame needs FD_EN = 1 (R374, R375,
R378). -/
def execCanFrameReceived (n : BitVec 2) (f : CanFrame) (s : State) : Out :=
  let k := n.toNat
  .next (if !s.canHears k then s
    else if f.fdf && !s.flag (CAN_n_CFG_FD_EN k) then s
    else (s.canRecDown k).canReceive k f)

/-- The item in arbitration, if any. -/
def State.canArb (s : State) (k : Nat) : Option Nat := [0, 1, 2].find? (fun b => s.canSt k b = 2)

/-- CAN_START_OF_FRAME: the time stamp and the filter of the frame are fixed, and in normal operation
one PENDING item enters arbitration (R380, R385, R386). -/
def execCanStartOfFrame (n : BitVec 2) (s : State) : Out :=
  let k := n.toNat
  .next (if !s.canHears k then s
    else
      let sec := s.boot.act.sect 6 k
      let s1 := s.canUpd k (fun c => { c with sofUs := s.ts, filter := sec })
      if s1.canState k = 2 || s1.canState k = 3 then
        match if s1.canSuspended k || (s1.canArb k).isSome then none else s1.canChoose k with
        | none => s1
        | some b =>
          let f := s1.canFrameOf k (s1.canItem k b).content
          (s1.canSetSt k b 2).canUpd k (fun c => { c with tx := some f })
      else s1)

/-- CAN_TRANSMISSION_END: the frame in arbitration succeeds, or loses or errs and is retried
(R380, R381, R384, R385); a delay beyond its limit is a bit error of the frame (R369). A frame whose item
has left arbitration, in the safe state or at a swap, ends without one (R386). -/
def execCanTransmissionEnd (n : BitVec 2) (r : CanTxEnd) (delay : Nat) (s : State) : Out :=
  let k := n.toNat
  .next (if !s.canUp k then s
    else
      let d := if r = .lost then (s, false) else s.canDelay k delay
      let s1 := d.1.canUpd k (fun c => { c with
        tx := none, lastEnd := if r = .lost then c.lastEnd else some s.now.hubNs })
      if d.2 then
        let s2 := s1.canError k .transmitter
        match s2.canArb k with
        | some b => s2.canFailed k b 1
        | none => s2
      else
        match s1.canArb k with
        | some b => if r = .sent then s1.canSent k b else s1.canFailed k b 1
        | none => s1)

/-- CAN_ERROR: counters, error state and bus-off (R371, R382, R383). -/
def execCanError (n : BitVec 2) (e : CanErr) (s : State) : Out :=
  .next (if s.canHears n.toNat then s.canError n.toNat e else s)

/-- The RECOVER command of CAN_n_CMD (R383). -/
def State.canCmd (s : State) (n key : Nat) : State :=
  if !s.canUp n then s.answer .isolated
  else if key = 0x4B && s.canState n = 4 then
    (s.fset (CAN_n_STAT_STATE n) 5).answer .okay
  else s.answer .target

/-- CAN_RECOVER: a keyed recovery request at bus-off; in any other state an error response. -/
def execCanRecover (n : BitVec 2) (key : BitVec 8) (s : State) : Out :=
  .next (s.canCmd n.toNat key.toNat)

/-- CAN_RECOVERY_DONE: error active, both counters at zero, and every held request pending (R383). -/
def execCanRecoveryDone (n : BitVec 2) (s : State) : Out :=
  let k := n.toNat
  .next (if !s.canUp k || s.canState k ≠ 5 then s
    else
      let s1 := (s.fset (CAN_n_STAT_TEC k) 0).fset (CAN_n_STAT_REC k) 0
      let s2 := (s1.fset (CAN_n_STAT_STATE k) 2).raise (CAN_n_EVT_RECOVERED k)
      [0, 1, 2].foldl (fun x b => if x.canSt k b = 4 then x.canSetSt k b 1 else x) s2)

/-- A store to TXCANCEL. -/
def State.canCancels (s : State) (n mask : Nat) : State :=
  ([0, 1, 2].foldl (fun x b => if bitOf mask b then x.canCancel n b else x) s).answer .okay

/-- CAN_TX_CANCEL: each named request is cancelled as its status allows (R384). -/
def execCanTxCancel (n : BitVec 2) (mask : BitVec 3) (s : State) : Out :=
  .next (if s.canUp n.toNat then s.canCancels n.toNat mask.toNat else s.answer .isolated)

/-- A store to FIFOACK. -/
def State.canAck (s : State) (n : Nat) (ack : Bool) : State :=
  if s.fget (CAN_n_FIFOSTAT_FILL n) = 0 then s.answer .target
  else if !ack then s.answer .okay
  else
    let s1 := s.fset (CAN_n_FIFOSTAT_FILL n) (s.fget (CAN_n_FIFOSTAT_FILL n) - 1)
    (s1.fset (CAN_n_FIFOSTAT_GET n) ((s.fget (CAN_n_FIFOSTAT_GET n) + 1) % 32)).answer .okay

/-- CAN_FIFO_ACK: release the oldest entry; with FILL 0 an error response (R378). -/
def execCanFifoAck (n : BitVec 2) (ack : Bool) (s : State) : Out :=
  .next (if s.canUp n.toNat then s.canAck n.toNat ack else s.answer .isolated)

end Sys2Proof.Machine
end

