-- ==== Sys2Proof/Machine/Swap.lean ====
section
/-! DEFINITION. Sys2Proof/Machine/Swap.lean: the exchange of the two sets at a boundary and the migration
of the running program's state (R171 to R173, R278 to R288). -/

namespace Sys2Proof.Machine

/-! ### Hardware copies in one core (R278) -/

/-- A private word of a core holds a detected uncorrectable error. -/
def State.dedAt (s : State) (k : CoreId) (a : Nat) : Bool := s.wordBad (.priv k) (a - 0x10000000)

/-- The migration has read an uncorrectable word: the lane takes PRIV_DED at the start of its next
EXECUTE phase, for the first such word (R134, R278). -/
def State.migDed (s : State) (l : LaneId) (a : Nat) : State :=
  s.updLane l (fun x => { x with dedNext := some (x.dedNext.getD a) })

/-- Copy one 8-byte word; from an uncorrectable word nothing is copied. -/
def State.migWord (s : State) (l : LaneId) (k : CoreId) (src dst : Nat) : State :=
  if s.dedAt k src then s.migDed l src
  else (s.privSeen k src).privPut k dst (leBytes 8 (s.privVal k src 8))

/-- Copy `n` bytes, word by word. -/
def State.migCopy (s : State) (l : LaneId) (k : CoreId) (src dst n : Nat) : State :=
  (List.range (n / 8)).foldl (fun x i => x.migWord l k (src + 8 * i) (dst + 8 * i)) s

/-- Copy one M bit between edge areas. -/
def State.migEdge (s : State) (l : LaneId) (k : CoreId) (src dst e : Nat) : State :=
  let a := src + e / 8
  let d := dst + e / 8
  if s.dedAt k a then s.migDed l a
  else if s.dedAt k d then s.migDed l d
  else
    let b := bitOf (s.privVal k a 1) (e % 8)
    ((s.privSeen k a).privSeen k d).privPut k d (leBytes 1 (setBit (s.privVal k d 1) (e % 8) b))

/-! ### What a migration carries (R280, R281, R287) -/

/-- A migration from the set that is left into the one that enters service: the halves' bases, and
whether it is a swap back, which uses the table of the set it leaves. -/
structure Mig where
  old : CfgSet
  new : CfgSet
  oldBase : Nat
  newBase : Nat
  back : Bool

/-- The records in force. -/
def Mig.recs (m : Mig) : List MigR := if m.back then m.old.migs else m.new.migs

/-- The set whose table is in force has one. -/
def Mig.hasTable (m : Mig) : Bool := if m.back then m.old.has 0x10 0 else m.new.has 0x10 0

/-- DATA records are applied: the generation is the one that the table was written for. -/
def Mig.dataFits (m : Mig) : Bool :=
  if m.back then m.new.gen = m.old.fromGen else m.old.gen = m.new.fromGen

/-- The pairs of instances present in both sets. -/
def Mig.pairs (m : Mig) : List (InstE × InstE) :=
  m.new.instList.filterMap (fun i => (m.old.instById i.id).map (fun o => (o, i)))

/-- The timer slots carried between two instances. -/
def Mig.slots (m : Mig) (p : InstE × InstE) : List Nat :=
  (List.range (min p.1.nt p.2.nt)).filter (fun n => !migNamed m.recs 2 p.2.id n)

/-- The edges carried between two instances. -/
def Mig.edges (m : Mig) (p : InstE × InstE) : List Nat :=
  (List.range (min p.1.ne p.2.ne)).filter (fun e => !migNamed m.recs 3 p.2.id e)

/-- The DATA copies: source offset, destination offset, length, in table order. A record that does not
fit the instances is not applied. -/
def Mig.copies (m : Mig) : List (Nat × Nat × Nat) :=
  if !m.dataFits then []
  else (m.recs.filter (fun r => r.kind = 1)).filterMap (fun r =>
    let src := if m.back then (r.newId, r.newOfs) else (r.oldId, r.oldOfs)
    let dst := if m.back then (r.oldId, r.oldOfs) else (r.newId, r.newOfs)
    match m.old.instById src.1, m.new.instById dst.1 with
    | some o, some i =>
      if src.2 + r.len ≤ o.size && dst.2 + r.len ≤ i.size then
        some (o.ofs + src.2, i.ofs + dst.2, r.len)
      else none
    | _, _ => none)

/-- The edges that are primed: address of the M byte and bit position. -/
def Mig.primes (m : Mig) : List (Nat × Nat) :=
  (primedEdges m.old m.new m.recs m.back).map (fun p =>
    (m.newBase + p.1.ofs + 16 * p.1.nt + p.2 / 8, p.2 % 8))

/-- The prime entries of a lane's core: entry address, address of the M byte, bit (R283). -/
def Mig.entries (m : Mig) : List (Nat × Nat × Nat) :=
  (m.primes.zipIdx).map (fun p => (m.newBase + m.new.xOfs + 8 * p.2, p.1.1, p.1.2))

/-- The migration in the core of one lane. -/
def State.migLane (s : State) (m : Mig) (l : LaneId) : State :=
  let k := s.coreOfLane l
  let s1 := m.pairs.foldl (fun x p =>
    let y := (m.slots p).foldl (fun z n =>
      z.migCopy l k (m.oldBase + p.1.ofs + 16 * n) (m.newBase + p.2.ofs + 16 * n) 16) x
    (m.edges p).foldl (fun z e =>
      z.migEdge l k (m.oldBase + p.1.ofs + 16 * p.1.nt) (m.newBase + p.2.ofs + 16 * p.2.nt) e) y) s
  let s2 := m.copies.foldl (fun x c => x.migCopy l k (m.oldBase + c.1) (m.newBase + c.2.1) c.2.2) s1
  let s3 := s2.privPut k (m.newBase + m.new.xOfs) (List.replicate 8192 0)
  let s4 := m.entries.foldl (fun x e =>
    x.privPut k e.1 (leBytes 4 e.2.1 ++ leBytes 1 e.2.2 ++ [0, 0, 0])) s3
  s4.updLane l (fun x => { x with
    g := Vector.replicate 32 0, due := [], primes := m.entries })

/-- The duration of a migration in us, rounded up (R284). -/
def Mig.us (m : Mig) : Nat :=
  let up (a b : Nat) : Nat := (a + b - 1) / b
  let bytes := (m.pairs.map (fun p => 16 * (m.slots p).length)).sum + (m.copies.map (fun c => c.2.2)).sum
  let edges := (m.pairs.map (fun p => (m.edges p).length)).sum
  up (up bytes 32 + up edges 64 + 4 * (m.new.insts + m.recs.length)) 800

/-- The migration of R278 in every lane that runs units. -/
def State.migrate (s : State) (m : Mig) : State :=
  let live := s.running.any (fun l => !(s.lane l).primes.isEmpty)
  let s1 := allLanes.foldl (fun x l => x.updLane l (fun y =>
    { y with g := Vector.replicate 32 0, due := [], primes := [] })) s
  let s2 := s1.running.foldl (fun x l => x.migLane m l) s1
  let s3 := (s2.when live (fun x => x.raise CYC_EVT_PRIME_DROP)).when
    (m.hasTable && !m.dataFits) (fun x => x.raise CYC_EVT_MIG_GEN)
  (s3.fset CYC_XSTAT_PRIMES m.primes.length).fset CYC_XSTAT_MIG_US (min m.us 4095)

/-! ### The swap (R171, R173, R285) -/

/-- Where an old value of an input item comes from in the new map (R256). -/
def lastGoodMap (old new : CfgSet) (l : List (Nat × Word)) : List (Nat × Word) :=
  (List.range new.inItems).filterMap (fun k =>
    match l.find? (fun p => p.1 < old.inItems && (old.inE p.1) = new.inE k && (new.inE k).kind ≠ 0) with
    | some p => some (k, p.2)
    | none => none)

/-- The field destinations that a set maps: kind and index. -/
def CfgSet.fieldOuts (c : CfgSet) : List (Nat × Nat) :=
  ((List.range c.outItems).map (fun k => ((c.outE k).kind, (c.outE k).index))).filter (fun d =>
    d.1 = 1 || d.1 = 2)

/-- The state words of a swap (R173). -/
def State.swapWords (s : State) (ok : Bool) : State :=
  let a := s.boot.act.slot
  let b := s.boot.shd.slot
  if a = b then s
  else if s.boot.swapBack then s.programWord a 0xF0C ok
  else if wordSet (s.page b) 0xF08 then s
  else if wordSet (s.page b) 0xF00 then s.programWord b 0xF04 ok
  else s.programWord b 0xF00 ok

/-- Exchange the parts of the two sets: records, banks, check values, status (R166, R171). -/
def State.exchangeSets (s : State) : State :=
  let old := { s.boot.act with rwl := s.regs.bankOf }
  let new := s.boot.shd
  let v := s.fget SAF_SHCHECKVAL_VAL
  let s1 := (s.fset SAF_SHCHECKVAL_VAL (s.fget SAF_CHECKVAL_VAL)).bootUpd (fun b =>
    { b with act := new, shd := old, armed := false, swapBack := false })
  let s2 := { s1 with regs := s1.regs.bankLoad new.rwl }
  let s3 := (s2.rwEntries new.heldRw).1
  let s4 := ((((s3.fset BOOT_STAT_ACTIVE_SET (1 - s.actSet)).show BOOT_STAT_SLOT new.slot).show
    BOOT_SSTAT_SHADOW_SLOT old.slot).raise BOOT_SSTAT_READY).lower BOOT_SSTAT_NEEDS_RESTART
  let conf := wordSet (s4.page new.slot) 0xF08
  let s5 := (((s4.show BOOT_SSTAT_CONFIRMED conf).fset BOOT_SSTAT_RESULT 8).showCheck v).fset
    BOOT_STAT_REFUSE (setBit (s4.fget BOOT_STAT_REFUSE) 0 (!new.toolOk))
  (s5.bootUpd (fun b => { b with prevUnconf := !conf, trialStart := s5.ts })).show
    CYC_XSTAT_TRIAL_RUN (!conf && s5.fget CYC_XCFG_TRIAL ≠ 0)

/-- Does a signal channel restart because a swap or a write changed what it depends on: its own
configuration, or EN or DIV of its clock output (R315)? -/
def sigChanged (a b : RegMap) (n : Nat) : Bool :=
  let k := b.fget (SIG_CH_n_CFG_CKSRC n)
  a.word (0x40050040 + 4 * n) ≠ b.word (0x40050040 + 4 * n)
    || (k < 3 && (a.fget (SIG_CLKOUT_k_EN k) ≠ b.fget (SIG_CLKOUT_k_EN k)
      || a.fget (SIG_CLKOUT_k_DIV k) ≠ b.fget (SIG_CLKOUT_k_DIV k)))

/-- The clock outputs and the enabled channels that a change of registers concerns (R313, R315). -/
def State.sigFollow (s : State) (old : RegMap) : State :=
  (List.range 12).foldl (fun x n =>
    x.when (sigChanged old x.regs n && x.flag (SIG_CH_n_CFG_EN n)) (fun y => y.sigRestart n))
    s.clkFollow

/-- What the engines do with a new set (R344, R379, R401, R315). -/
def State.engineSwap (s : State) (old : CfgSet) (oldRegs : RegMap) : State :=
  let s1 := s.openUsedGates.pdeSwap old
  let s2 := [0, 1, 2, 3].foldl (fun x n => x.canSwap n oldRegs) s1
  let s3 := [0, 1].foldl (fun x n => x.drvSwap n old oldRegs) s2
  let s4 := s3.sigFollow oldRegs
  s4.when (s4.fget TIM_CFG_MODE = 0) (fun x => x.timTo 0)

/-- The swap of step 3 of R172. A swap that would prime more than 1,024 edges is refused (R283). -/
def State.doSwap (s : State) (ok : Bool) : State :=
  let old := s.boot.act
  let new := s.boot.shd
  let oldRegs := s.regs
  let m : Mig := { old := old, new := new, oldBase := s.actBase, newBase := halfBase (1 - s.actSet)
                   back := s.boot.swapBack }
  if 1024 < m.primes.length then
    (s.bootUpd (fun b => { b with armed := false, swapBack := false })).fset BOOT_SSTAT_RESULT 9
  else
    let s1 := (s.swapWords ok).exchangeSets
    let s2 := { s1 with cyc := { s1.cyc with
      lastGood := lastGoodMap old new s1.cyc.lastGood
      unmapped := old.fieldOuts.filter (fun d => !new.fieldOuts.contains d) } }
    let req := s2.fget TRI_MODE_CFG
    let s3 := if req ≠ oldRegs.fget TRI_MODE_CFG then
        { s2 with triad := { s2.triad with cfgReq := some (BitVec.ofNat 2 req) } }
      else s2
    let s4 := (s3.engineSwap old oldRegs).migrate m
    ((s4.raise CYC_EVT_SWAP).bump CYC_XSTAT_SWAPS).count 19

/-- Step 3 of R172: an armed swap, unless the device safe state has been entered. -/
def State.swapStep (s : State) (ok : Bool) : State :=
  if !s.boot.armed then s
  else if s.rst.safe.isSome then s.bootUpd (fun b => { b with armed := false, swapBack := false })
  else s.doSwap ok

end Sys2Proof.Machine
end

