-- ==== Sys2Proof/Machine/Modes.lean ====
section
/-! DEFINITION. Sys2Proof/Machine/Modes.lean: copies between cores, the state survey, substitution,
reintegration and mode requests (R192 to R205, R210 to R213). -/

namespace Sys2Proof.Machine

/-! ### The copier (R192) -/

/-- What the copier makes of one private word with bits in error, its offset given: a word with data is
copied with new check bits, an uncorrectable one stays one in the copy (DESIGN CHOICE, log entry 114). -/
def State.copyWord (s : State) (ks kd : CoreId) (off : Nat) : State :=
  let r := s.wordRead (.priv ks) off 4
  let dst := bankKey (.priv kd) off
  match r.2 with
  | some d => r.1.memPutLe dst 8 d
  | none => r.1.setUpsets dst (s.upsetsAt (wordKey (.priv ks) off))

/-- Copy a private range from a core into another (R192). -/
def State.copyRange (s : State) (ks kd : CoreId) (lo n : Nat) : State :=
  let src := privKey ks lo
  let dst := privKey kd lo
  let bad := s.memx.upsets.filter (fun p => src ≤ p.1 && p.1 < src + n)
  let s1 := { s with
    mem := copyPriv s.mem ks kd lo n
    memx := { s.memx with upsets := s.memx.upsets.filter (fun p => !(dst ≤ p.1 && p.1 < dst + n)) } }
  bad.foldl (fun x p => x.copyWord ks kd (p.1 - privKey ks 0 - 0x10000000)) s1

/-- A full copy of a lane's core into the core that is to carry lane `dst`: the active half, the shadow
half unless it is empty, the registers and the sequence counter. -/
def State.fullCopy (s : State) (src dst : LaneId) (kd : CoreId) : State :=
  let halves := if s.boot.shd.loaded then [s.actSet, 1 - s.actSet] else [s.actSet]
  let s1 := halves.foldl (fun x h => x.copyRange (x.coreOfLane src) kd (halfBase h) halfSize) s
  s1.setLane dst { s1.lane src with
    exec := .idle, out := [], held := [], commits := [], commitErr := none, prefetch := []
    poison := false, dedNext := none }

/-- Change the triad's boundary work. -/
def State.triUpd (s : State) (f : Triad → Triad) : State := { s with triad := f s.triad }

/-- Begin the full copy of the boundary into a core for a lane; its self-test follows. -/
def State.startCopy (s : State) (l : LaneId) (k : CoreId) : State :=
  match s.voting.head? with
  | none => s
  | some src =>
    let s1 := (s.fullCopy src l k).triUpd (fun t => { t with testing := [(l, k)] })
    { s1 with cyc := { s1.cyc with copied := true } }

/-- The cores that carry lanes or are promised to one. -/
def State.usedCores (s : State) : List CoreId :=
  ((allLanes.filter (fun l => s.fget (laneStateF l) ≠ 2)) ++ s.triad.joinWait).map s.coreOfLane

/-- The lowest-numbered idle healthy core. -/
def State.idleCore (s : State) : Option CoreId := s.freeCore s.usedCores

/-! ### Substitution (R201) -/

/-- Step 1 of R204: a healthy unused core takes a retired lane. -/
def State.substitute (s : State) : State :=
  match s.triad.lost, s.idleCore with
  | l :: _, some k => if s.mode = 0 then s.startCopy l k else s
  | _, _ => s

/-- The self-test of a substituted core has ended. -/
def State.substituted (s : State) (l : LaneId) (k : CoreId) (pass : Bool) : State :=
  if pass then
    let old := s.coreOfLane l
    let s1 := ((s.fset (laneCoreF l) k.num).fset (laneStateF l) 0).wearLog 2 k.num l.num
    let s2 := s1.when s1.idleCore.isNone State.reserveGone
    let s3 := ((s2.raise TRI_EVT_SUBST).count 5).triUpd (fun t =>
      { t with lost := t.lost.filter (fun m => m ≠ l) })
    s3.paddockOff old.paddock
  else
    let s1 := (s.raise TRI_EVT_REINT_FAIL).retireCore k
    s1.when s1.idleCore.isNone State.reserveGone

/-! ### The survey (R195 to R198) -/

/-- Hash a region in a core, every word read through its code; none where a word is uncorrectable
(R196). -/
def State.regionHash (s : State) (k : CoreId) (r : Nat) : State × Option Nat :=
  let b := s.bankBytes (.priv k) (0x10000 * r) 0x10000 0
  (b.1, b.2.map (crcBytesL 64 0x42F0E1EBA9EA3693 (2 ^ 64 - 1)))

/-- The hashes of a region in the cores of some lanes. -/
def State.regionHashes (s : State) (r : Nat) (ls : List LaneId) : State × List (LaneId × Option Nat) :=
  ls.foldl (fun p l =>
    let h := p.1.regionHash (p.1.coreOfLane l) r
    (h.1, p.2 ++ [(l, h.2)])) (s, [])

/-- Do two hashes agree? An invalid hash differs from every other. -/
def hashAgree (a b : Option Nat) : Bool := a.isSome && a = b

/-- A lane's region differs from an agreeing majority. -/
def State.latent (s : State) (l src : LaneId) (r n : Nat) : State :=
  let inWin := (s.triad.latents.filter (fun p => p.1 = l && n < p.2 + 1000)) ++ [(l, n)]
  let other := s.triad.latents.filter (fun p => p.1 ≠ l)
  let s1 := ((((s.raise TRI_EVT_LATENT).bump TRI_LATENT_TOTAL).fset TRI_LATENT_LANE l.num).fset
    TRI_LATENT_REGION r).count 6
  if 3 ≤ inWin.length then
    ((s1.fset TRI_LATENT_INWIN 0).triUpd (fun t => { t with latents := other })).stray l 4 0 0
  else
    let s2 := (s1.fset TRI_LATENT_INWIN inWin.length).triUpd (fun t =>
      { t with latents := other ++ inWin })
    (s2.copyRange (s2.coreOfLane src) (s2.coreOfLane l) (0x10000000 + 0x10000 * r) 0x10000).raise
      TRI_EVT_RESEED

/-- Vote the hashes of a region. -/
def State.surveyRegion (s : State) (r n : Nat) : State :=
  let x := s.regionHashes r s.voting
  let s := x.1
  let hs := x.2
  let agree (p : LaneId × Option Nat) : Nat := (hs.filter (fun q => hashAgree p.2 q.2)).length
  if hs.all (fun p => agree p = hs.length) then s
  else
    match hs.find? (fun p => 2 ≤ agree p), hs.find? (fun p => agree p < 2) with
    | some p, some q => s.latent q.1 p.1 r n
    | _, _ => s.safeEnter 4

/-- Step 2 of R204 at the boundary that ends cycle `n`. -/
def State.survey (s : State) (n : Nat) : State :=
  let r := n % 256
  if s.mode = 3 || 64 ≤ r then s
  else
    let skip := s.boot.loading.isSome && r / 32 = 1 - s.actSet
    let s1 := if skip then s else s.surveyRegion r n
    ((s1.show TRI_SURVEY_SKIPPED skip).fset TRI_SURVEY_NEXT ((r + 1) % 64)).when (r = 63)
      (fun x => x.bump TRI_SURVEY_PASSES)

/-! ### Reintegration (R192, R193) -/

/-- Step 3 of R204: a stray whose core is not retired is copied. -/
def State.reintegrate (s : State) : State :=
  match allLanes.find? (fun l => s.fget (laneStateF l) = 1 && !s.retired (s.coreOfLane l)) with
  | some l => if s.cyc.copied then s else s.startCopy l (s.coreOfLane l)
  | none => s

/-- The self-test after a reintegration has ended. -/
def State.reintegrated (s : State) (l : LaneId) (k : CoreId) (pass : Bool) : State :=
  if pass then s.fset (laneStateF l) 0 else (s.raise TRI_EVT_REINT_FAIL).retireCore k

/-! ### Modes (R203, R210 to R213) -/

/-- A lane leaves: its core is idle. -/
def State.leave (s : State) (l : LaneId) : State :=
  ((s.discardLane l).updLane l (fun x => { x with exec := .idle })).fset (laneStateF l) 2

/-- Enter a mode. -/
def State.setMode (s : State) (m : Nat) : State :=
  ((s.fset TRI_MODE_CUR m).raise TRI_EVT_MODE_CHG).triUpd (fun t => { t with joinWait := [] })

/-- The retired cores of lanes that stay without one are switched off (R71). -/
def State.dropLost (s : State) : State :=
  (s.triad.lost.foldl (fun x l =>
    x.when (x.retired (x.coreOfLane l)) (fun y => y.paddockOff (x.coreOfLane l).paddock)) s).triUpd
      (fun t => { t with lost := [] })

/-- PAIR with the two lowest-lettered voting lanes. -/
def State.toPair (s : State) : State :=
  let keep := s.voting.take 2
  ((allLanes.foldl (fun x l =>
    if keep.contains l || x.fget (laneStateF l) = 2 then x else x.leave l) s).dropLost).setMode 1

/-- SOLO: every running lane is independent. -/
def State.toSolo (s : State) : State :=
  ((allLanes.foldl (fun x l =>
    match x.fget (laneStateF l) with
    | 0 => x.fset (laneStateF l) 3
    | 1 => x.leave l
    | _ => x) s).dropLost).setMode 3

/-- Does the active set assign units to an independent lane? -/
def State.soloUnits (s : State) : Bool :=
  (List.range s.boot.act.units).any (fun i => bitOf (s.boot.act.unitE i).cls 1)

/-- Set a lane up as independent: the instances of units of class I only take their initial values, and
the due flags of those units are cleared (R212). -/
def State.soloSetup (s : State) (l : LaneId) : State :=
  let c := s.boot.act
  let us := (List.range c.units).map (fun i => (i, c.unitE i))
  let voted := (us.filter (fun u => bitOf u.2.cls 0)).map (fun u => u.2.inst)
  let only := (us.filter (fun u => u.2.cls = 2 && !voted.contains u.2.inst)).map (fun u => u.2.inst)
  let s1 := (c.instList.filter (fun i => only.contains i.ofs)).foldl (fun x i =>
    x.instInit (x.coreOfLane l) x.actBase i) s
  (s1.updLane l (fun x => { x with
    due := x.due.filter (fun i => (c.unitE i).cls ≠ 2), exec := .idle })).fset (laneStateF l) 3

/-- A lane joins on a core: copied now, or at the next boundary (R205). -/
def State.joinLane (s : State) (l : LaneId) (k : CoreId) : State :=
  let s1 := s.fset (laneCoreF l) k.num
  if s1.cyc.copied then s1.triUpd (fun t => { t with joinWait := t.joinWait ++ [l] })
  else s1.startCopy l k

/-- TRIAD to PAIR_SOLO: the highest-lettered voting lane of three becomes independent. -/
def State.triadToSolo (s : State) : State :=
  let keep := s.voting.take 2
  match allLanes.find? (fun l => !keep.contains l) with
  | none => s.setMode 2
  | some l =>
    if s.votes l && !s.cyc.copied then
      let s1 := (s.setMode 2).soloSetup l
      { s1 with cyc := { s1.cyc with copied := true } }
    else if s.fget (laneStateF l) ≠ 2 then
      ((s.leave l).setMode 2).triUpd (fun t => { t with joinWait := [l] })
    else s.dropLost.setMode 2

/-- The lowest absent letter. -/
def State.absentLane (s : State) : LaneId :=
  (allLanes.find? (fun l => !s.votes l)).getD .c

/-- PAIR_SOLO to TRIAD: the independent lane's core is overwritten as its lane joins. -/
def State.soloToTriad (s : State) : State :=
  let l := s.absentLane
  if s.indep l then
    let k := s.coreOfLane l
    ((s.leave l).setMode 0).joinLane l k
  else
    let s1 := s.setMode 0
    match s.idleCore with
    | some k => s1.joinLane l k
    | none => s1.triUpd (fun t => { t with lost := t.lost ++ [l] })

/-- A mode request that is done. -/
def State.modeDone (s : State) : State := s.fset TRI_MODE_RESULT 1

/-- A mode request that is refused. -/
def State.modeRefuse (s : State) (r : Nat) : State :=
  (s.fset TRI_MODE_RESULT r).raise TRI_EVT_MODE_REFUSED

/-- Table 08-7. -/
def State.handleMode (s : State) (q : Nat) : State :=
  let x := s.fset TRI_MODE_REQ q
  if q = s.mode then x.modeDone
  else if q ≠ 3 && s.fget BOOT_STAT_REFUSE ≠ 0 then x.modeRefuse 6
  else if s.mode = 3 then x.modeRefuse 4
  else match q with
    | 3 => if s.safetyCfg then x.modeRefuse 2 else x.toSolo.modeDone
    | 1 => x.toPair.modeDone
    | 2 =>
      if s.mode = 0 then (if s.soloUnits then x.triadToSolo.modeDone else x.modeRefuse 5)
      else match s.idleCore with
        | none => x.modeRefuse 3
        | some k =>
          if s.soloUnits then ((x.setMode 2).joinLane s.absentLane k).modeDone else x.modeRefuse 5
    | _ =>
      if s.mode = 2 then x.soloToTriad.modeDone
      else match s.idleCore with
        | none => x.modeRefuse 3
        | some k => ((x.setMode 0).joinLane s.absentLane k).modeDone

/-- Step 4 of R172. `forced`: a lane's core is retired and no reserve remains (R203). -/
def State.modeStep (s : State) (forced : Bool) : State :=
  let q := match s.triad.cfgReq with
    | some b => some b.toNat
    | none => s.triad.modeReq.map BitVec.toNat
  let x := s.triUpd (fun t => { t with cfgReq := none, modeReq := none })
  if forced then
    let y := x.toPair
    match q with
    | some m => (y.fset TRI_MODE_REQ m).fset TRI_MODE_RESULT 7
    | none => y
  else match q with
    | some m => x.handleMode m
    | none => x

/-- A swap may make a set active whose tool mark is absent or wrong: every safe mode is refused for it
(R26, R165). DESIGN CHOICE (log entry 113): a safe mode in force is left as where the safe-service set is
lost (R21): SOLO with SAFETY = 0, else the device safe state. -/
def State.unmarked (s : State) : State :=
  if s.mode = 3 || !bitOf (s.fget BOOT_STAT_REFUSE) 0 then s
  else if s.safetyCfg then s.safeEnter 2
  else s.toSolo

/-- A lane that waited for its copy is copied now (R205). -/
def State.joinWaiting (s : State) : State :=
  match s.triad.joinWait with
  | l :: t =>
    if s.cyc.copied then s
    else (s.triUpd (fun x => { x with joinWait := t })).startCopy l (s.coreOfLane l)
  | [] => s

/-- The self-test of a joining or new independent lane has ended. -/
def State.joined (s : State) (l : LaneId) (k : CoreId) (pass : Bool) : State :=
  if pass then (if s.mode = 2 then s.soloSetup l else s.fset (laneStateF l) 0)
  else
    let s1 := (s.raise TRI_EVT_REINT_FAIL).retireCore k
    if s1.mode = 0 then s1.triUpd (fun t => { t with lost := t.lost ++ [l] }) else s1

end Sys2Proof.Machine
end

