-- ==== Sys2Proof/Machine/Input.lean ====
section
/-! DEFINITION. Sys2Proof/Machine/Input.lean: the INPUT phase: what is latched, the input image, the
scheduled activation, and the dispatch of the lanes (R254 to R261, R276, R312, R469). -/

namespace Sys2Proof.Machine

/-! ### Sources (R256, Table 10-6) -/

/-- The field status words by index (Table 11-6). -/
def statusRegs : List Nat :=
  [0x40040010, 0x40040014, 0x40040034, 0x40040030, 0x40040048, 0x4004004C, 0x40040050, 0x40040054,
   0x400E0104, 0x400E0110, 0x40040060]

/-- The field die's words are good: the link is up and FLOGIC answers. -/
def State.fieldGood (s : State) : Bool := s.fget FLD_STAT_LINK = 2 && s.flogicUp

/-- A digital input: filtered state and quality (R295). -/
def State.diItem (s : State) (n : Nat) : Word × Bool :=
  match s.link.bank with
  | some f => (BitVec.ofNat 32 (bitNat ((f.words.word 0x40040010).getLsbD n)),
      s.fieldGood && f.diGood.getLsbD n)
  | none => (0, false)

/-- A field status word (R312). -/
def State.statusItem (s : State) (n : Nat) : Word × Bool :=
  match s.link.bank, statusRegs[n]? with
  | some f, some a => (f.words.word a, s.fieldGood)
  | _, _ => (0, false)

/-- What the source of an input item delivers, and whether it is good. A source that the configuration
does not hold is bad. -/
def State.source (s : State) (e : MapE) : Word × Bool :=
  let c := s.boot.act
  match e.kind with
  | 1 => s.diItem e.index
  | 2 => s.statusItem e.index
  | 3 => s.sigItem e.index e.field
  | 4 => if e.index < c.pdN then s.pdItem e.index e.field else (0, false)
  | 5 => if c.has 6 e.inst then s.canWord e.inst e.index e.field else (0, false)
  | 6 => if e.index < s.drvSlots e.inst then s.drvItem e.inst e.index e.field else (0, false)
  | 7 => if s.foldEn e.index then s.foldItem e.index e.field else (0, false)
  | 8 => s.pairItem e.index
  | 9 => s.timItem e.index
  | _ => (0, false)

/-- Does an item always show the latest content, also with quality bad: FIELD 1 to 3 of a sigma-delta
source, the status words of a Drove slot (R329, R408)? -/
def showsLatest (e : MapE) : Bool :=
  (e.kind = 3 && e.field ≠ 0) || (e.kind = 6 && 0x8000 ≤ e.field)

/-- The value and quality of input item `k`: of a bad source the last good value, or zero. -/
def State.inputItem (s : State) (k : Nat) : Word × Bool :=
  let v := s.source (s.boot.act.inE k)
  if v.2 || showsLatest (s.boot.act.inE k) then v
  else match s.cyc.lastGood.find? (fun p => p.1 = k) with
    | some p => (p.2, false)
    | none => (0, false)

/-- The bytes of communication memory that the source of an input item reads: a payload word of a
session, a CAN buffer, a Drove slot. -/
def State.sourceMem (s : State) (e : MapE) : Option (Nat × Nat) :=
  match e.kind with
  | 4 => if e.field < 0x8000 then some ((s.boot.act.pdS e.index).buf + 4 * e.field, 4) else none
  | 5 => some (s.boot.act.canRx e.inst + 80 * e.index + 4 * e.field, 4)
  | 6 => if e.field < 0x8000 then some (s.drvWin e.inst e.index + 4 * e.field, 4) else none
  | _ => none

/-- What reading the sources of the input image leaves in memory: corrections and uncorrectable words
recorded (R130, R138). -/
def State.sourceSeen (s : State) : State :=
  (List.range s.boot.act.inItems).foldl (fun x k => match x.sourceMem (x.boot.act.inE k) with
    | some r => (x.engineRead r.1 r.2).1
    | none => x) s

/-- Fill the input image: value in bytes 3:0, quality in bit 0 of byte 4. -/
def State.fillImage (s : State) : State :=
  let c := s.boot.act
  let s := s.sourceSeen
  let items := (List.range c.inItems).map s.inputItem
  let good := (items.zipIdx.filter (fun p => p.1.2)).map (fun p => (p.2, p.1.1))
  let kept := s.cyc.lastGood.filter (fun p => !good.any (fun g => g.1 = p.1))
  let bytes := items.flatMap (fun v => leBytes 4 v.1.toNat ++ leBytes 4 (bitNat v.2))
  let s1 := s.burstPut c.inBase bytes
  { s1 with cyc := { s1.cyc with lastGood := kept ++ good } }

/-! ### The scheduled activation (R469) -/

/-- The check at an INPUT latch with the time unit synchronised. -/
def State.updInput (s : State) : State :=
  match s.upd.armed with
  | none => s
  | some (restart, t, win) =>
    if s.unitDown 0x39 || !s.trainSync || s.trainTime < t then s
    else
      let s1 := s.updUpd (fun u => { u with armed := none })
      if t + win * 1000000 ≤ s.trainTime then
        ((s1.raise UPD_EVT_ACT_LATE).fset UPD_STAT_RESULT 9).fset UPD_STAT_STATE 6
      else if restart then s1.fset UPD_STAT_STATE 8
      else
        let r := s1.armSwap s1.cyc.progOk
        if r.2 then ((r.1.raise UPD_EVT_ACT_DONE).fset UPD_STAT_RESULT 1).fset UPD_STAT_STATE 0
        else ((r.1.raise UPD_EVT_ACT_FAIL).fset UPD_STAT_RESULT 0xA).fset UPD_STAT_STATE 6

/-! ### INPUT (R255) -/

/-- Step 1: what GETC returns, CYC_COUNT, and the limit of the cycle (R244, R274). -/
def State.latchCycle (s : State) : State :=
  let c := { s.cyc with
    limit := s.fget CYC_LIMIT_LIMIT
    skipNow := s.cyc.skipNext, skipNext := false
    ts := BitVec.ofNat 64 s.ts, train := BitVec.ofNat 64 s.trainTime
    mode := BitVec.ofNat 2 s.mode, stage := 0, copied := false }
  let s1 := { s with cyc := c, tim := { s.tim with snapNs := s.trainTime } }
  (s1.fset CYC_COUNT_COUNT s.cyc.count.toNat).fset CYC_COUNTH_COUNT (s.cyc.count.toNat / 2 ^ 32)

/-- Step 2: sticky float bits and write signature of every lane; the cycle's commit errors are gone. -/
def State.freshLanes (s : State) : State :=
  allLanes.foldl (fun x l => x.updLane l (fun y =>
    { y with st := BitVec.ofNat 16 (setBits y.st.toNat 8 5 0), sig := 0xFFFFFFFFFFFFFFFF
             unit := 0, commitErr := none, commits := [] })) s

/-- Step 3: every receive bank is flipped. -/
def State.flipBanks (s : State) : State :=
  let s1 := s.cyc.rx.foldl (fun x p => x.burstPut p.1 p.2) s
  let s2 := { s1 with cyc := { s1.cyc with rx := [] }, link := { s1.link with bank := s1.link.rx } }
  let s3 := [0, 1, 2, 3].foldl State.canInput s2.sigInput.pdeInput
  s3.drvInput.flkInput.pairInput

/-- A lane's EXECUTE phase begins (R258, R261, R276, R278); a halted lane stays halted (R250). -/
def State.beginLane (s : State) (l : LaneId) : State :=
  let s1 := s.updLane l (fun x => { x with due := s.dueFlags x.due })
  if (s1.lane l).exec = .halted then s1
  else match (s1.lane l).dedNext with
  | some a => (s1.updLane l (fun x => { x with dedNext := none })).privDedTake l a
  | none => if s1.cyc.skipNow then s1.endBegin l true else s1.dispatch l 0

/-- INPUT, and the start of EXECUTE. -/
def State.inputPhase (s : State) : State :=
  let s1 := s.latchCycle.freshLanes.flipBanks.updInput
  let s2 := s1.fillImage
  let s3 := (s2.fset CYC_PHASES_INPUT_T (min (100 + s2.boot.act.inItems / 4) 0xFFFF)).lower
    CYC_STAT_SOLO_LATE
  let s4 := s3.triUpd (fun t => { t with endReleased := false, injPending := false })
  (s4.running.foldl State.beginLane s4).fset CYC_STAT_PHASE 1

end Sys2Proof.Machine
end

