-- ==== Sys2Proof/Machine/Cycle.lean ====
section
/-! DEFINITION. Sys2Proof/Machine/Cycle.lean: the cycle boundary in the order of R172, the self-tests that
it waits for, and the sheepdog (R172, R192, R201, R204, R253, R274 to R277). -/

namespace Sys2Proof.Machine

/-! ### The end of a cycle (R253, R275) -/

/-- The duration of the cycle that ends: registers, recorder, overrun. -/
def State.closeCycle (s : State) : State :=
  let dur := s.now.hubNs - s.cyc.startNs
  let ns := min dur 0xFFFFFFFF
  let s1 := (s.fset CYC_LAST_NS ns).fset CYC_MAX_NS (max ns (s.fget CYC_MAX_NS))
  let s2 := s1.when (s1.flag REC_CFG_EN) (fun x =>
    (x.extMax 0 ns 0).when (!x.cyc.skipNow) (fun y =>
      y.histAdd 0 (dur * 32 / (y.cyc.limit * 1000))))
  let late := !s.cyc.skipNow && s.cyc.limit * 1000 < dur
  let s3 := s2.when late (fun x =>
    ((((x.raise CYC_EVT_OVERRUN).raise CYC_EVT_SKIP).bump CYC_SKIPS_COUNT).count 7).count 8)
  let s4 := s3.show CYC_STAT_SKIP_PREV s.cyc.skipNow
  { s4 with cyc := { s4.cyc with skipNext := late, count := s4.cyc.count + 1 } }

/-- The first boundary of an episode. -/
def State.firstCycle (s : State) : State :=
  let s1 := { s with cyc := { s.cyc with started := true, count := 0, skipNow := false, skipNext := false } }
  let s2 := s1.fset BOOT_TIME_US (min (s.now.epNs / 1000) 0xFFFFFFFF)
  if s2.rst.safe.isSome then s2 else { s2 with pins := { s2.pins with safeOut := true } }

/-! ### The stages of a boundary -/

/-- Stop at a self-test if a copy has begun. -/
def State.waitTest (s : State) (stage : Nat) (k : State → State) : State :=
  if s.triad.testing.isEmpty then k s else { s with cyc := { s.cyc with stage := stage } }

/-- The standby self-test after step 5 (R443): every pattern is flagged by both Shepherds, or a voter
fault ends the cycle. -/
def State.standbyTest (s : State) (k : State → State) : State :=
  if s.pairUp && !s.flag PAIR_STAT_MASTER
      && s.pair.stestUs + s.fget PAIR_STEST_PER * 1000000 ≤ s.ts then
    match s.cyc.sweepMiss with
    | some (p, shep) => s.voterFault 5 shep.toNat (p / 16)
    | none => k (s.pairUpd (fun p => { p with stest := (p.stest + 1) % 256, stestUs := s.ts }))
  else k s

/-- Step 5 of R172, what follows steps 4 and 5, and INPUT. -/
def State.boundaryEnd (s : State) : State :=
  s.pairBoundary.boundaryOff.standbyTest (fun x => x.dirSwitch.localOpen.inputPhase)

/-- Step 4 of R172: the mode. -/
def State.boundaryMode (s : State) (forced : Bool) : State :=
  (s.unmarked.modeStep forced).waitTest 4 State.boundaryEnd

/-- Steps 2 (remaps) and 3, and a copy that waited. -/
def State.boundarySwap (s : State) (forced : Bool) : State :=
  ((s.boundaryRemaps.swapStep s.cyc.progOk).joinWaiting).waitTest 3 (fun x => x.boundaryMode forced)

/-- Step 2: survey and reintegration. -/
def State.boundarySurvey (s : State) (forced : Bool) : State :=
  let s1 := if s.cyc.count = 0 then s else s.survey (s.cyc.count.toNat - 1)
  s1.reintegrate.waitTest 2 (fun x => x.boundarySwap forced)

/-- Region table writes take effect (R143, R170). -/
def State.regionWrites (s : State) : State :=
  let s1 := s.memx.rgnPend.foldl (fun x p => x.setReg p.1 p.2) s
  { s1 with memx := { s1.memx with rgnPend := [] } }

/-- Step 1, substitution, and what else is due at each boundary. -/
def State.boundaryBegin (s : State) (ok : Bool) (sweep : Option (Nat × BitVec 2)) : State :=
  let s1 := if s.cyc.started then s.closeCycle else s.evalSets.firstCycle
  let s2 := { s1 with cyc := { s1.cyc with startNs := s1.now.hubNs, progOk := ok, sweepMiss := sweep } }
  let s3 := (s2.fset CYC_STAT_PHASE 0).regionWrites.evalSets.retryWear
  let s4 := s3.when (s3.fget FLD_STAT_LINK = 3 && s3.flogicUp && !s3.safetyCfg) State.fieldReload
  let s5 := (s4.triad.retireOff.foldl (fun x k => x.paddockOff k.paddock) s4).triUpd (fun t =>
    { t with retireOff := [] })
  let forced := s5.mode = 0 && !s5.triad.lost.isEmpty && s5.idleCore.isNone
  s5.substitute.waitTest 1 (fun x => x.boundarySurvey forced)

/-- May a boundary begin: the first at the end of S7, the others when EXCHANGE is complete? -/
def State.boundaryDue (s : State) : Bool :=
  s.cyc.stage = 0 && !s.rst.active && !s.clk.hold && s.phase = 7
    && (!s.cyc.started || s.fget CYC_STAT_PHASE = 3)

/-- CYCLE_BOUNDARY. The first one waits for the any-service set (R19): without it start-up has ended. -/
def execCycleBoundary (progOk : Bool) (sweepMiss : Option (Nat × BitVec 2)) (s : State) : Out :=
  .next (s.when s.boundaryDue (fun x =>
    if !x.cyc.started && !x.anyService then x.fset BOOT_STAT_PHASE 8 else x.boundaryBegin progOk sweepMiss))

/-- The test that the boundary waits for, in one of some stages. -/
def State.testOf (s : State) (l : LaneId) (stages : List Nat) : Option CoreId :=
  if stages.contains s.cyc.stage then (s.triad.testing.find? (fun p => p.1 = l)).map (fun p => p.2)
  else none

/-- The test is over. -/
def State.testOver (s : State) : State := s.triUpd (fun t => { t with testing := [] })

/-- SUBSTITUTION_SELFTEST_DONE. -/
def execSubstitutionSelftestDone (l : LaneId) (pass : Bool) (s : State) : Out :=
  .next (match s.testOf l [1] with
    | some k => (s.testOver.substituted l k pass).boundarySurvey false
    | none => s)

/-- REINTEGRATION_SELFTEST_DONE: the self-test after the copy of a stray or of a joining or new
independent lane. -/
def execReintegrationSelftestDone (l : LaneId) (pass : Bool) (s : State) : Out :=
  .next (match s.testOf l [2, 3, 4] with
    | some k =>
      let s1 := s.testOver
      (match s.cyc.stage with
      | 2 => (s1.reintegrated l k pass).boundarySwap false
      | 3 => (s1.joined l k pass).boundaryMode false
      | _ => (s1.joined l k pass).boundaryEnd)
    | none => s)

/-- Is CORE_D an unused reserve: healthy, switched on, and without a lane (Table 08-6)? -/
def State.reserveIdle (s : State) : Bool :=
  s.healthyCores.contains .d && !s.usedCores.contains .d && s.fget (pstat .coreD) = 2

/-- RESERVE_SELFTEST_FAIL: the unused reserve is retired (R202). -/
def execReserveSelftestFail (s : State) : Out :=
  .next (if s.reserveIdle then ((s.retireCore .d).reserveGone).raise TRI_EVT_RESERVE_FAIL else s)

/-- SHEEPDOG_TRIP: a cycle has run for 4 x CYC_LIMIT (R277, R24). -/
def execSheepdogTrip (s : State) : Out :=
  .next (s.when s.cyc.started (fun x => (x.safeEnter 5).assertDevice .sheepdog false))

end Sys2Proof.Machine
end

