-- ==== Sys2Proof/Machine/Drove.lean ====
section
/-! DEFINITION. Sys2Proof/Machine/Drove.lean: the commands of the Drove bus (R395 to R406). -/

namespace Sys2Proof.Machine

/-- A channel that is loaded and not silenced: neither OFF nor SILENT. -/
def State.drvLive (s : State) (n : Nat) : Bool :=
  s.drvUp && s.drvState n ≠ 0 && s.drvState n ≠ 6

/-- DROVE_CYCLE_START: counters and the states that change at a cycle start (R395, R398, R400). -/
def execDroveCycleStart (ch : Bool) (s : State) : Out :=
  .next (if s.drvUp then s.drvCycleStart (bitNat ch) else s)

/-- The membership vector that this node sends: the nodes heard in the previous cycle and itself
(R399). -/
def State.drvMemb (s : State) (n : Nat) : Nat :=
  ((s.drvCh n).heardPrev ||| (1#32 <<< s.drvNode n)).toNat

/-- Put a frame on the bus. -/
def State.drvSend (s : State) (n : Nat) (b : List Byte) : State :=
  s.drvUpd n (fun d => { d with tx := b })

/-- DROVE_REF_SEND: an ACTIVE ranked node sends REF unless a reference of a lower rank was used in
the cycle; the first reference of the cycle makes its sender the bellwether (R397 to R399). -/
def execDroveRefSend (ch : Bool) (s : State) : Out :=
  let n := bitNat ch
  let r := s.drvRank n
  let lower := match (s.drvCh n).used with
    | some u => decide (u.rank < r)
    | none => false
  .next (if !s.drvLive n || s.drvState n ≠ 4 || r = 0xFF || lower then s
    else if !s.crookOpen n (r * s.drvRstep n) (s.refStart n r) then s.drvBlock n
    else
      let m := s.drvMemb n
      let s1 := (s.drvSend n (s.drvFrame n 1 r 0 false (leBytes 4 m))).drvMark n (s.drvCh n).c
      match (s.drvCh n).used with
      | some _ => s1
      | none =>
        let u : DrvRef := { start := (s.drvCh n).c, cyc := s.fget (DRV_n_CYC_CYC n), rank := r }
        ((s1.drvUse n u (s.drvNode n) m true).drvUpd n (fun d => { d with base := none })).fset
          (DRV_n_CORR_D n) 0)

/-- A COLD frame: the crook allows it in its coldstart window or in a synchronised one, and blocks it
otherwise (R401, R403). -/
def State.drvCold (s : State) (n : Nat) : State :=
  let sync := s.crookSync n
    && s.crookOpen n (s.drvRank n * s.drvRstep n) (s.refStart n (s.drvRank n))
  if (s.drvCh n).coldWin || sync then
    let b := s.drvFrame n 3 (s.drvRank n) 0 false (leBytes 4 (s.drvMemb n))
    ((s.drvSend n b).drvMark n (s.drvCh n).c).drvUpd n (fun d => { d with coldWin := false })
  else s.drvBlock n

/-- DROVE_COLD_SEND: a COLDSTART node sends COLD in its sub-slot (R401). -/
def execDroveColdSend (ch : Bool) (s : State) : Out :=
  let n := bitNat ch
  .next (if s.drvLive n && s.drvState n = 2 then s.drvCold n else s)

/-- DROVE_SLOT_BUFFER_COPY: the publish buffer of an own slot with its QG; a slot that was never
handed over stays zero (R406), one with an uncorrectable word goes out as zero with quality bad (R130). -/
def execDroveSlotBufferCopy (ch : Bool) (slot : Nat) (s : State) : Out :=
  let n := bitNat ch
  .next (if !s.drvLive n || !s.ownSlot n slot then s
    else
      let x := (s.drvCh n).slots.toList.getD slot .reset
      let len := s.slotLen n slot
      let r := if x.handed then s.pubRead (s.drvWin n slot) len else (s, none)
      r.1.drvUpd n (fun d => { d with slots := vecUpd d.slots slot (fun y =>
        { y with buf := r.2.getD (List.replicate len 0), bufQ := r.2.isSome && x.qual }) }))

/-- DROVE_SLOT_TRANSMIT: an ACTIVE or COLDSTART node sends the copied buffer of its slot (R395, R401,
R406). -/
def execDroveSlotTransmit (ch : Bool) (slot : Nat) (s : State) : Out :=
  let n := bitNat ch
  .next (if !s.drvLive n || !s.ownSlot n slot || (s.drvState n ≠ 4 && s.drvState n ≠ 2) then s
    else if !s.crookOpen n (s.slotOfs n slot) (s.slotStart n slot) then s.drvBlock n
    else
      let x := (s.drvCh n).slots.toList.getD slot .reset
      let len := s.slotLen n slot
      let pay := x.buf.take len ++ List.replicate (len - x.buf.length) 0
      s.drvSend n (s.drvFrame n 2 0 slot x.bufQ pay))

/-- DROVE_DATA_FRAME_RECEIVED: the checks of R396 and the live bank (R396, R405). -/
def execDroveDataFrameReceived (ch : Bool) (f : DroveFrame) (s : State) : Out :=
  .next (if s.drvUp then s.drvData (bitNat ch) f else s)

/-- DROVE_REF_RECEIVED: use or check of a REF frame (R397, R398, R400). -/
def execDroveRefReceived (ch : Bool) (f : DroveFrame) (s : State) : Out :=
  .next (if s.drvUp then s.drvRefIn (bitNat ch) 1 f else s)

/-- DROVE_COLD_RECEIVED: COLD frames integrate like REF frames (R401, R402). -/
def execDroveColdReceived (ch : Bool) (f : DroveFrame) (s : State) : Out :=
  .next (if s.drvUp then s.drvRefIn (bitNat ch) 3 f else s)

/-- DROVE_LISTEN_TIMEOUT: a ranked node in LISTEN enters COLDSTART, takes its cycle start from the
moment of sending and sends COLD with CYC 0 (R400, R401). -/
def execDroveListenTimeout (ch : Bool) (s : State) : Out :=
  let n := bitNat ch
  .next (if !s.drvLive n || s.drvState n ≠ 1 || s.drvRank n = 0xFF then s
    else
      let c : Int := (s.drvNow : Int) - 8 * (s.drvRank n * s.drvRstep n : Nat)
      let s1 := ((s.drvTo n 2).raise (DRV_EVT_COLDSTART n)).fset (DRV_n_CYC_CYC n) 0
      (s1.drvUpd n (fun d => { d with
        c := c, meas := [], base := none, first := none, join := false, used := none
        heard := 0, heardPrev := 0 })).drvCold n)

/-- DROVE_READBACK_MISMATCH: BACKOFF in COLDSTART, PASSIVE in ACTIVE (R400, R402). -/
def execDroveReadbackMismatch (ch : Bool) (s : State) : Out :=
  let n := bitNat ch
  .next (if s.drvLive n then s.drvMismatch n 2 else s)

/-- CROOK_BLOCK: a transmit enable outside the crook's windows (R403). -/
def execCrookBlock (ch : Bool) (s : State) : Out :=
  let n := bitNat ch
  .next (if s.drvLive n then s.drvBlock n else s)

/-- CROOK_COLDSTART_WINDOW: without two marks one cycle apart a ranked node's crook opens a window.
An idle line before a coldstart leaves no marks (R403). -/
def execCrookColdstartWindow (ch : Bool) (s : State) : Out :=
  let n := bitNat ch
  .next (if !s.drvLive n || s.drvRank n = 0xFF || (s.drvState n = 2 && s.crookSync n) then s
    else s.drvUpd n (fun d => { d with
      coldWin := true, marks := if s.drvState n = 2 then d.marks else [] }))

/-- A DRV_CMD request for the channels of a mask. -/
def State.drvCmd (s : State) (passive resume : Nat) : State :=
  let one (x : State) (n : Nat) : State :=
    if bitOf passive n then
      let y := x.raise (DRV_n_STAT_HOLD n)
      y.when (y.drvState n = 4) (fun z => z.drvUpd n (fun d => { d with passiveNext := true }))
    else if bitOf resume n then
      (x.lower (DRV_n_STAT_HOLD n)).drvUpd n (fun d => { d with passiveNext := false })
    else x
  ([0, 1].foldl one s).answer .okay

/-- The key of DRV_CMD; PASSIVE and RESUME of one channel together are reserved. -/
def State.drvKeyed (s : State) (key passive resume : Nat) : State :=
  if !s.drvUp then s.answer .isolated
  else if key ≠ 0x3D || Nat.land passive resume ≠ 0 then s.answer .target
  else s.drvCmd passive resume

/-- DRV_CMD_PASSIVE: an application hold; an ACTIVE channel is PASSIVE from its next cycle start
(R400). -/
def execDrvCmdPassive (key : BitVec 8) (mask : BitVec 2) (s : State) : Out :=
  .next (s.drvKeyed key.toNat mask.toNat 0)

/-- DRV_CMD_RESUME: the hold ends; the node rejoins when its two references hold (R400). -/
def execDrvCmdResume (key : BitVec 8) (mask : BitVec 2) (s : State) : Out :=
  .next (s.drvKeyed key.toNat 0 mask.toNat)

end Sys2Proof.Machine
end

