-- ==== Sys2Proof/Machine/Ethernet.lean ====
section
/-! DEFINITION. Sys2Proof/Machine/Ethernet.lean: the commands of the switch, the PRP pairs and the
protocols of the internal port (R331 to R340). -/

namespace Sys2Proof.Machine

/-- Does a COMID belong to a DUAL subscribe session of pair `p` (R339)? -/
def State.dualComid (s : State) (c p : Nat) : Bool :=
  (List.range s.pde.sess.length).any (fun i =>
    let e := s.boot.act.pdS i
    e.sub && e.dual && e.pair = p && e.comid = c)

/-- Has a frame a length of 64 to 1,522 bytes; an RCT's 6 bytes count like the rest? -/
def frameLenOk (f : EthFrame) : Bool := 64 ≤ f.len && f.len ≤ 1522

/-- SWITCH_FRAME_RECEIVED (R332, R333, R338). -/
def execSwitchFrameReceived (port : Nat) (f : EthFrame) (s : State) : Out :=
  .next (if !s.ethUp || !s.portUp port then s
    else if !frameLenOk f then s.ethDrop port (some ETH_EVT_OVERSIZE)
    else if !f.fcsOk then s.ethDrop port none
    else if f.pause then s
    else if s.prpPort port then
      match s.prpReceive port s.dualComid f with
      | (s1, some g) => s1.switchFrame port g
      | (s1, none) => s1
    else s.switchFrame port f)

/-- The frame as it leaves: a transit event message carries its residence time where both ports
are transparent clocks (Table 13-9). -/
def State.departing (s : State) (e : QEnt) : EthFrame :=
  if e.frame.ptpEvent && e.inPort < 4 && e.port < 4 && s.flag (TIM_PORT_n_CFG_TC e.inPort)
      && s.flag (TIM_PORT_n_CFG_TC e.port) then
    { e.frame with corr := e.frame.corr + (s.now.hubNs - e.inNs : Nat) }
  else e.frame

/-- SWITCH_EGRESS_TRANSMIT: the next frame of a port is read from its cells; an uncorrectable word among
them inverts the FCS (R334). -/
def execSwitchEgressTransmit (port : Nat) (s : State) : Out :=
  .next (if !s.ethUp || !s.portUp port then s
    else match s.egressNext port with
    | none => s
    | some e =>
      let r := s.cellRead e.cells e.frame.len
      let f := { s.departing e with
        fcsOk := r.2.isSome, body := (r.2.getD e.frame.body).take e.frame.body.length }
      let s1 := { r.1 with eth := { r.1.eth with
        queue := r.1.eth.queue.erase e
        sent := vecUpd r.1.eth.sent port (fun _ => some f) } }
      s1.when r.2.isNone (fun x => x.raise ETH_EVT_UNCORR_DROP))

/-- MAC_ENTRY_AGEING: a learned entry ages out (R332). -/
def execMacEntryAgeing (mac : BitVec 48) (vid : BitVec 12) (s : State) : Out :=
  .next { s with eth := { s.eth with
    learned := s.eth.learned.filter (fun e => ¬(e.1 = mac.toNat ∧ e.2.1 = vid.toNat)) } }

/-- A write of ETH_MDIO: one access at a time (R336). -/
def State.mdioWrite (s : State) (v : Nat) : State :=
  if s.flag ETH_MDIO_GO then s
  else
    let s1 := (((s.fset ETH_MDIO_READ (bitsOf v 30 1)).fset ETH_MDIO_PHYAD (bitsOf v 21 5)).fset
      ETH_MDIO_REGAD (bitsOf v 16 5)).fset ETH_MDIO_DATA (bitsOf v 0 16)
    s1.fset ETH_MDIO_GO (bitsOf v 31 1)

/-- MDIO_ACCESS. -/
def execMdioAccess (v : BitVec 32) (s : State) : Out :=
  .next (if s.unitDown 0x20 then s.answer .isolated else (s.mdioWrite v.toNat).answer .okay)

/-- MDIO_ACCESS_DONE. -/
def execMdioAccessDone (data : BitVec 16) (s : State) : Out :=
  .next (if !s.flag ETH_MDIO_GO then s
    else
      ((s.when (s.flag ETH_MDIO_READ) (fun x => x.fset ETH_MDIO_DATA data.toNat)).lower
        ETH_MDIO_GO).raise ETH_EVT_MDIO_DONE)

/-- The supervision frame of a pair. PRESUMED (log entry 85): destination and Ethertype of IEC 62439-3. -/
def State.supvFrame (s : State) : EthFrame :=
  { dst := 0x01154E000100, src := BitVec.ofNat 48 s.ownMac, vid := none, pcp := 0, len := 64
    fcsOk := true, pause := false, rct := none, comid := none, frag := none, ptpEvent := false
    corr := 0, body := [0x88, 0xFB] }

/-- PRP_SUPERVISION_TICK (R337). -/
def execPrpSupervisionTick (pair : Bool) (s : State) : Out :=
  let p := bitNat pair
  .next (if s.ethUp && bitOf (s.fget ETH_PORTCFG_PRP) p then
    let s1 := s.prpSend p (s.fget (ETH_PORT_n_CFG_PCP 4) / 2) false (fun _ => s.supvFrame)
    { s1 with eth := { s1.eth with supv := vecUpd s1.eth.supv p (fun n => n + 1) } }
  else s)

/-- PRP_ENTRY_EXPIRY: an entry is forgotten (R338). -/
def execPrpEntryExpiry (pair : Bool) (src : BitVec 48) (seq : BitVec 16) (s : State) : Out :=
  .next { s with eth := { s.eth with
    dup := vecUpd s.eth.dup (bitNat pair) (fun l => l.erase (src.toNat, seq.toNat)) } }

/-- Enter an address into the ARP cache of 1,024 entries. -/
def State.arpLearn (s : State) (ip mac : Nat) : State :=
  s.pdeUpd (fun p =>
    let l := p.arp.filter (fun e => e.1 ≠ ip) ++ [(ip, mac)]
    { p with arp := l.drop (l.length - 1024) })

/-- ARP_REQUEST_RECEIVED: the PDE answers for its own address (R340). PRESUMED (log entry 85): an answered
request's sender enters the cache (RFC 826). -/
def execArpRequestReceived (target sender : BitVec 32) (mac : BitVec 48) (s : State) : Out :=
  .next (if s.pdeUp && target.toNat = s.fget PDE_IPADDR_ADDR then
    (s.arpLearn sender.toNat mac.toNat).netSend (.arpReply sender.toNat mac.toNat)
  else s)

/-- Is an address the next hop of a directory address (R340)? -/
def State.arpWanted (s : State) (ip : Nat) : Bool :=
  s.pde.dir.any (fun e => e.valid && e.ip ≠ 0 && s.nextHop e.ip = ip)

/-- ARP_CACHE_REFRESH: an entry is requested again after 60 s; the next hop of a directory address is
requested while the cache does not hold it. -/
def execArpCacheRefresh (ip : BitVec 32) (s : State) : Out :=
  .next (if s.pdeUp && (s.pde.arp.any (fun e => e.1 = ip.toNat) || s.arpWanted ip.toNat) then
    s.netSend (.arpRequest ip.toNat)
  else s)

/-- ICMP_ECHO_REQUEST: an echo reply to a request for the own address. -/
def execIcmpEchoRequest (dst src : BitVec 32) (s : State) : Out :=
  .next (if s.pdeUp && dst.toNat = s.fget PDE_IPADDR_ADDR then s.netSend (.echoReply src.toNat)
    else s)

/-- The multicast groups that the subscriptions name. -/
def State.groups (s : State) : List Nat :=
  ((((List.range s.pde.sess.length).map s.boot.act.pdS).filter
    (fun e => e.sub && e.mcast ≠ 0)).map (fun e => e.mcast)).eraseDups

/-- IGMP_QUERY_RECEIVED: a membership report for every group. -/
def execIgmpQueryReceived (s : State) : Out :=
  .next (if s.pdeUp && !s.groups.isEmpty then s.netSend (.membership s.groups) else s)

/-- IP_REASSEMBLY_TIMEOUT: a reassembly held for 100 ms is dropped. -/
def execIpReassemblyTimeout (id : Nat) (s : State) : Out :=
  .next (s.pdeUpd (fun p => { p with reasm := p.reasm.filter (fun i => i ≠ id) }))

/-- ETH_LINK_CHANGE (R332, R336): 10 Mbit/s, half duplex or a lost SER_REFCLK keep a port down. -/
def execEthLinkChange (port : Nat) (up : Bool) (speed : BitVec 2) (fullDuplex : Bool) (s : State) :
    Out :=
  .next (if port < 4 && !s.unitDown 0x20 then
    let on := up && fullDuplex && (speed = 1 || speed = 2) && s.phys.serrefOk
      && bitOf (s.fget ETH_PORTCFG_EN) port
    let link := setBit (s.fget ETH_STAT_LINK) port on
    let sp := setBits (s.fget ETH_STAT_SPEED) (2 * port) 2 (if on then speed.toNat else 0)
    let chg := link ≠ s.fget ETH_STAT_LINK || sp ≠ s.fget ETH_STAT_SPEED
    ((s.fset ETH_STAT_LINK link).fset ETH_STAT_SPEED sp).when chg
      (fun x => x.raise ETH_EVT_LINK_CHG)
  else s)

end Sys2Proof.Machine
end

