-- ==== Sys2Proof/Machine/Fold.lean ====
section
/-! DEFINITION. Sys2Proof/Machine/Fold.lean: the commands of the Fold link bridge as controller
(R412 to R429). -/

namespace Sys2Proof.Machine

/-! ### The ring -/

/-- FOLD_RING_SYNC_LOSS: RING_DOWN (R412). -/
def execFoldRingSyncLoss (s : State) : Out :=
  .next (if s.flkUp then (s.lower FLK_STAT_RING_UP).raise FLK_EVT_RING_DOWN else s)

/-- FOLD_RING_SYNC_GAIN: FLK_IN is in sync (R412). -/
def execFoldRingSyncGain (s : State) : Out :=
  .next (if s.flkUp then s.raise FLK_STAT_RING_UP else s)

/-- The frame that a node forwards: HOP incremented, CRC recomputed, a bad frame ended with the
complement (R413). -/
def foForward (f : FoldFrame) : List Byte :=
  let b := f.bytes.take 6 ++ leBytes 1 (foHop f + 1) ++ (f.bytes.drop 7).take (f.bytes.length - 11)
  let c := crc32c b
  b ++ leBytes 4 (if foCrcOk f then c else 0xFFFFFFFF - c)

/-- Kinds that a controller addresses to one station (Table 16-2). -/
def foToStation (k : Nat) : Bool := [1, 2, 6, 8, 0xD, 0xE].contains k

/-- Kinds that a controller sends (Table 16-2). -/
def foOfController (k : Nat) : Bool := foToStation k || [0xA, 0xB, 0xC].contains k

/-- Does this node remove the frame (R413)? A controller removes frames of its own CTRL, a station
those addressed to it. -/
def State.foldMine (s : State) (f : FoldFrame) : Bool :=
  if s.fget SYS_PINSTAT_MODE = 1 then foToStation (foKind f) && s.station.num = some (foSt f)
  else foCtrl f = s.fget FLK_CFG_CTRL

/-- FOLD_FRAME_FORWARD: a frame not for this node goes on; one that arrives with HOP 18 or more is
discarded (R413). A station hears the controller whose frame passes (R430). -/
def execFoldFrameForward (f : FoldFrame) (s : State) : Out :=
  .next (if s.unitDown 0x2D || !s.flag FLK_STAT_FWD then s
    else
      let s1 := (s.when (!foCrcOk f) (fun x => x.raise FLK_EVT_CRC_ERR)).when
        (s.fget SYS_PINSTAT_MODE = 1 && foCrcOk f && foOfController (foKind f)) (fun x => x.stnHear f)
      if s1.foldMine f || 18 ≤ foHop f then s1 else s1.foldOut (foForward f))

/-! ### Reads and writes -/

/-- FOLD_TAG_FREED: 1 ms in quarantine has passed (R422). -/
def execFoldTagFreed (st : BitVec 4) (tag : BitVec 8) (s : State) : Out :=
  let k := st.toNat
  .next (if (s.fst k).quar.contains tag.toNat then
      (s.fstUpd k (fun x => { x with quar := x.quar.erase tag.toNat })).tagFreed k |>.fetchPump
    else s)

/-- The read under way of a station and tag. -/
def State.foldPending (s : State) (k t : Nat) : Option HubItem :=
  (s.flk.reads.find? (fun r => r.1 = k ∧ r.2.1 = t)).map (fun r => r.2.2)

/-- It is no longer under way. -/
def State.foldDone (s : State) (k t : Nat) : State :=
  s.flkUpd (fun b => { b with reads := b.reads.filter (fun r => ¬(r.1 = k ∧ r.2.1 = t)) })

/-- FOLD_RSP_RECEIVED: CODE, EFFECT and DATA go to the requester; the response of a quarantined tag
is discarded and counted (R422). -/
def execFoldRspReceived (f : FoldFrame) (s : State) : Out :=
  .next (s.foldIn f 3 10 (fun s =>
    let k := foSt f
    let t := foTs f % 256
    let b := foBody f
    match s.foldPending k t with
    | some i =>
      ((s.foldDone k t).reply i (leAt b 0 1 % 8) (bitOf (leAt b 0 1) 3)
        (BitVec.ofNat 64 (leAt b 2 8))).tagFreed k |>.fetchPump
    | none =>
      if (s.fst k).quar.contains t then
        ((s.bump FLK_STAT_LATE_RSP).fstUpd k (fun x => { x with quar := x.quar.erase t })).tagFreed k |>.fetchPump
      else s))

/-- FOLD_READ_TIMEOUT: TIMEOUT to the requester; the tag is quarantined (R422). -/
def execFoldReadTimeout (st : BitVec 4) (tag : BitVec 8) (s : State) : Out :=
  let k := st.toNat
  let t := tag.toNat
  .next (match s.foldPending k t with
    | some i =>
      ((s.foldDone k t).reply i Resp.timeout.code false 0).fstUpd k (fun x =>
        { x with quar := x.quar ++ [t] }) |>.fetchPump
    | none => s)

/-- FOLD_WACK_RECEIVED: the credits of every SEQ up to TS return (R423). -/
def execFoldWackReceived (f : FoldFrame) (s : State) : Out :=
  .next (s.foldIn f 4 0 (fun s => s.fstUpd (foSt f) (fun x =>
    { x with writes := x.writes.filter (fun w => 2 ^ 15 ≤ (foTs f + 65536 - w.1) % 65536) })))

/-- A write ends in a late error: its credit returns. -/
def State.writeErr (s : State) (k seq code : Nat) : State :=
  match (s.fst k).writes.find? (fun w => w.1 = seq) with
  | some w => (s.fstUpd k (fun x => { x with writes := x.writes.erase w })).lateErr k seq code w.2
  | none => s

/-- FOLD_WERR_RECEIVED: a late error with the station's code (R423, R424). -/
def execFoldWerrReceived (f : FoldFrame) (s : State) : Out :=
  .next (s.foldIn f 5 4 (fun s => s.writeErr (foSt f) (foTs f) (leAt (foBody f) 0 1 % 8)))

/-- FOLD_WRITE_ACK_TIMEOUT: a late error with TIMEOUT (R423). -/
def execFoldWriteAckTimeout (st : BitVec 4) (seq : BitVec 16) (s : State) : Out :=
  .next (s.writeErr st.toNat seq.toNat Resp.timeout.code)

/-! ### Supervision and the image -/

/-- The enabled stations. -/
def State.foldStations (s : State) : List Nat := (List.range 16).filter s.foldEn

/-- FOLD_SUP_TICK: a SUP that has not returned counts as a miss of every station; the next one is
sent (R420). -/
def execFoldSupTick (s : State) : Out :=
  .next (if !s.flkUp then s
    else
      let s1 := if s.flk.supOut then s.foldStations.foldl State.stationMiss s else s
      (s1.flkUpd (fun b => { b with supOut := true })).foldSend 10 0 0 (List.replicate 8 0))

/-- FOLD_SUP_RETURNED: each station's two bits; stations without a number make an enumeration due
(R417, R420). -/
def execFoldSupReturned (f : FoldFrame) (s : State) : Out :=
  .next (s.foldIn f 10 8 (fun s =>
    let b := foBody f
    let un := leAt b 4 1 ≠ 0
    let s1 := (s.flkUpd (fun x => { x with supOut := false, enumDue := x.enumDue || un })).show
      FLK_STAT_UNADDR un
    s1.foldStations.foldl (fun x k => x.stationReport k (bitsOf (leAt b 0 4) (2 * k) 2)) s1))

/-- FOLD_SCAN_TICK: IMGRD to each station in service that has inputs, and the latest output block
again (R425). -/
def execFoldScanTick (s : State) : Out :=
  .next (if !s.flkUp then s
    else (s.foldStations.filter (fun k => s.fstate k = 2)).foldl (fun x k =>
      (x.when (x.inWords k ≠ 0) (fun y => y.foldSend 6 k 0 [])).sendImg k) s)

/-- FOLD_IMGIN_RECEIVED: the input block goes into the live bank (R425). -/
def execFoldImginReceived (f : FoldFrame) (s : State) : Out :=
  let k := foSt f
  .next (s.foldIn f 7 (8 + 4 * s.inWords k) (fun s =>
    if !s.foldEn k || s.fstate k ≠ 2 then s
    else
      let b := foBody f
      s.fstUpd k (fun x => { x with live := { x.live with
        qual := leAt b 0 8, words := (records 4 (s.inWords k) (b.drop 8)).map (fun w => leAt w 0 4)
        us := some s.ts } })))

/-- FOLD_MSG_RECEIVED: the event goes into the live bank (R426, R427). -/
def execFoldMsgReceived (f : FoldFrame) (s : State) : Out :=
  .next (s.foldIn f 9 4 (fun s => s.fstUpd (foSt f) (fun x => { x with live := { x.live with
    msgs := (x.live.msgs + 1) % 2 ^ 32, event := leAt (foBody f) 0 4 } })))

/-! ### Enumeration and loading -/

/-- Send ENUMQ. -/
def State.enumq (s : State) : State := s.foldSend 11 0 0 (List.replicate 12 0)

/-- FOLD_ENUMERATION: after the first cycle has started, where an enumeration is due; one whose ENUMQ
was lost begins anew (R417). -/
def execFoldEnumeration (s : State) : Out :=
  .next (if !s.flkUp || !s.cyc.started || !s.flk.enumDue then s
    else (s.flkUpd (fun b => { b with enumDue := false, enumRun := true })).enumq)

/-- The entry that a UID is assigned to (R417). -/
def State.uidEntry (s : State) (uid : Nat) : Option Nat :=
  match s.foldStations.find? (fun k => s.boot.act.foldF k 16 8 = uid) with
  | some k => some k
  | none =>
    match s.foldStations.find? (fun k => (s.fst k).uid = some uid) with
    | some k => some k
    | none => s.foldStations.find? (fun k =>
        s.boot.act.foldF k 16 8 = 0 && (s.fst k).uid.isNone)

/-- Assign a found UID: ENUMSET, and the station is to be loaded or in FAULT. -/
def State.enumAssign (s : State) (uid ident k : Nat) : State :=
  let s1 := (s.fstUpd k (fun x => { x with numbered := true, uid := some uid, miss := 0 })).foldSend
    12 0 0 (leBytes 8 uid ++ [BitVec.ofNat 8 k, 0, 0, 0])
  let want := s.boot.act.foldF k 24 4
  if want ≠ 0 && want ≠ ident then (s1.fstTo k 4).raise FLK_EVT_IDENT_FAULT
  else if s.fstate k = 4 || s.fstate k = 5 then s1
  else s1.fstTo k 1

/-- FOLD_ENUMQ_RETURNED: a UID of zero ends the enumeration; another one is assigned and ENUMQ
repeated (R417). -/
def execFoldEnumqReturned (f : FoldFrame) (s : State) : Out :=
  .next (s.foldIn f 11 12 (fun s =>
    let uid := leAt (foBody f) 0 8
    if !s.flk.enumRun then s
    else if uid = 0 then s.flkUpd (fun b => { b with enumRun := false })
    else (match s.uidEntry uid with
      | some k => s.enumAssign uid (leAt (foBody f) 8 4) k
      | none => s.raise FLK_EVT_UNKNOWN_UID).enumq))

/-- FOLD_STATION_LOAD: stations are loaded one at a time in station order; each command sends one
256-byte unit of the image in two LDATA frames, for which two credits must be free, the last one LSTART
as well (R418). -/
def execFoldStationLoad (st : BitVec 4) (s : State) : Out :=
  let k := st.toNat
  let next (x : State) : State := match x.flk.load with
    | some l => if l.st = k && !l.started && (x.fst k).writes.length + 2 ≤ 8 then x.loadStep l else x
    | none => x
  .next (if !s.flkUp then s
    else match s.flk.load with
    | some _ => next s
    | none =>
      if s.foldStations.find? (fun j => s.fstate j = 1) = some k then next (s.loadBegin k false false)
      else s)

/-- FOLD_LACK_RECEIVED: CODE 0 puts the station in service (R418, R428). -/
def execFoldLackReceived (f : FoldFrame) (s : State) : Out :=
  .next (s.foldIn f 15 8 (fun s =>
    match s.flk.load with
    | some l =>
      if l.st ≠ foSt f || !l.started then s
      else if leAt (foBody f) 0 1 ≠ 0 then s.loadFailed l
      else
        let s1 := (s.toService l.st).bump (FLK_ST_k_RELOADS l.st)
        (s1.fstUpd l.st (fun x => { x with live := .zero })).loadEnd (if l.late then 3 else 1)
    | none => s))

/-- FOLD_LACK_TIMEOUT: the load has failed once more (R418). -/
def execFoldLackTimeout (st : BitVec 4) (s : State) : Out :=
  .next (match s.flk.load with
    | some l => if l.st = st.toNat && l.started then s.loadFailed l else s
    | none => s)

/-- An abort of a station's load (R428): before LSTART it stops, at or after it ABORT_LATE. -/
def State.ldAbort (s : State) (k : Nat) : State :=
  let late (x : State) : State :=
    ((x.raise FLK_EVT_ABORT_LATE).fset FLK_LDSTAT_RESULT 3).answer .okay
  match s.flk.load with
  | some l =>
    if l.st = k then
      if l.started then late (s.flkUpd (fun b => { b with load := some { l with late := true } }))
      else ((s.loadEnd 2).fstTo k 5).answer .okay
    else if s.fstate k = 1 then ((s.fstTo k 5).fset FLK_LDSTAT_RESULT 2).answer .okay
    else late s
  | none =>
    if s.fstate k = 1 then ((s.fstTo k 5).fset FLK_LDSTAT_RESULT 2).answer .okay else late s

/-- A reload request: a numbered station is to be loaded. -/
def State.ldReload (s : State) (k : Nat) : State :=
  (if (s.fst k).numbered then s.fstTo k 1 else s).answer .okay

/-- An FLK_LDCMD command. -/
def State.ldCmd (s : State) (key action k : Nat) : State :=
  if !s.flkUp then s.answer .isolated
  else if key ≠ 0x2F then s.answer .target
  else if !s.foldEn k then (s.fset FLK_LDSTAT_RESULT 5).answer .target
  else if action = 1 then s.ldAbort k
  else s.ldReload k

/-- FLK_LDCMD_ABORT (R428). -/
def execFlkLdcmdAbort (key : BitVec 8) (st : BitVec 4) (s : State) : Out :=
  .next (s.ldCmd key.toNat 1 st.toNat)

/-- FLK_LDCMD_RELOAD (R419, R428). -/
def execFlkLdcmdReload (key : BitVec 8) (st : BitVec 4) (s : State) : Out :=
  .next (s.ldCmd key.toNat 2 st.toNat)

/-! ### The log and the semaphores -/

/-- A store to FLK_LELPOP. -/
def State.lelPop (s : State) (pop : Bool) : State :=
  if pop && s.flk.log.isEmpty then s.answer .target
  else (if pop then (s.flkUpd (fun b => { b with log := b.log.drop 1 })).lelShow else s).answer .okay

/-- FLK_LELPOP: the oldest entry is removed (R424). -/
def execFlkLelpop (pop : Bool) (s : State) : Out :=
  .next (if s.unitDown 0x2D then s.answer .isolated else s.lelPop pop)

/-- A store to FLK_DEGCLR. -/
def State.degClr (s : State) (mask : Nat) : State :=
  ((List.range 16).foldl (fun x k => x.when (bitOf mask k) (fun y =>
    y.lower (FLK_ST_k_DEGRADED k))) s).answer .okay

/-- FLK_DEGCLR: DEGRADED of the named stations is cleared (R424). -/
def execFlkDegclr (mask : BitVec 16) (s : State) : Out :=
  .next (if s.unitDown 0x2D then s.answer .isolated else s.degClr mask.toNat)

/-- FLK_SEM_ACQUIRE: the read of FLK_SEM_n (R429). -/
def execFlkSemAcquire (n : BitVec 4) (ini : Initiator) (s : State) : Out :=
  .next (if s.unitDown 0x2D then s.answer .isolated
    else
      let (s1, w) := s.semAcquire n.toNat (semClass ini)
      s1.answerData (BitVec.ofNat 256 w))

/-- FLK_SEM_RELEASE: the write of 0 to HELD (R429). -/
def execFlkSemRelease (n : BitVec 4) (ini : Initiator) (s : State) : Out :=
  .next (if s.unitDown 0x2D then s.answer .isolated else (s.semWrite n.toNat (semClass ini) 0).fetchPump)

/-- FLK_SEM_EXPIRY: 1 ms without an access of the holder (R429). -/
def execFlkSemExpiry (n : BitVec 4) (s : State) : Out :=
  .next (if s.flag (FLK_SEM_n_HELD n.toNat) then
    ((s.semFree n.toNat).raise FLK_EVT_SEM_EXPIRED).fetchPump else s)

end Sys2Proof.Machine
end

