-- ==== Sys2Proof/Machine/Process.lean ====
section
/-! DEFINITION. Sys2Proof/Machine/Process.lean: the commands of the process data engine (R344 to R360). -/

namespace Sys2Proof.Machine

/-- PD_PUBLISH_INSTANT (R344, R345, R359): held, or sent with its lateness recorded (R473); an
uncorrectable word of the publish buffer lets the period pass without a frame. -/
def execPdPublishInstant (sess : Nat) (unitsAgree : Bool) (lateNs : Nat) (s : State) : Out :=
  let e := s.boot.act.pdS sess
  .next (if !s.pdeUp || s.pde.sess.length ≤ sess || e.sub then s
    else if !s.pdMaySend sess e then
      ((s.raise (PDE_SSTAT_s_HELD sess)).lower (PDE_SSTAT_s_UP sess)).when
        (e.vsc && !s.trainSync) (fun x => x.raise PDE_EVT_NOSYNC)
    else
      let r := s.pubRead e.buf e.pubLen
      let x := r.1
      match r.2 with
      | none => x
      | some data =>
      if e.vsc && !unitsAgree then x.vscInt sess
      else
        let f := x.pdFrame sess e data
        let s1 := (x.netSend (.pd f (x.nextHop f.dst))).pdUpd sess (fun y => { y with
          seq := (y.seq + 1) % 2 ^ 32, ssn := if e.vsc then (y.ssn + 1) % 2 ^ 32 else y.ssn })
        let s2 := (s1.lower (PDE_SSTAT_s_HELD sess)).raise (PDE_SSTAT_s_UP sess)
        s2.when (s2.flag REC_CFG_EN) (fun y => (y.lateAdd lateNs).extMax 7 (min lateNs 0xFFFFFFFF) sess))

/-- The pair unit checks the payload of each acceptance on its subscribe session (R439). -/
def State.pairSession (s : State) (i : Nat) (f : PdFrame) : State :=
  if s.flag PAIR_CFG_ETH_EN && i = s.fget PAIR_SESS_SUB then s.pairReceive true f.data else s

/-- PD_FRAME_RECEIVED: match, check, accept or compare (R346, R358, R360). -/
def execPdFrameReceived (lan : Option Bool) (f : PdFrame) (unitsAgree : Bool) (s : State) : Out :=
  .next (if !s.pdeUp || f.msgType = 0x5072 then s
    else match s.pdMatch f with
    | none => s
    | some i =>
      let e := s.boot.act.pdS i
      if e.vsc && s.flag SAF_STAT_VSC_STOP then s
      else match s.pdCheck i e f unitsAgree with
      | none => s
      | some 0 => if e.dual then s.pdDual i e (lan.getD false) f else (s.pdAccept i e f).pairSession i f
      | some c => s.pdFail i c)

/-- PD_SESSION_TIMEOUT: not while a valid copy waits for its partner (R347). -/
def execPdSessionTimeout (sess : Nat) (s : State) : Out :=
  .next (if !s.pdeUp || s.pde.sess.length ≤ sess || !(s.boot.act.pdS sess).sub
      || (s.pd sess).dual.isSome || s.flag (PDE_SSTAT_s_TIMEDOUT sess) then s
    else
      let s1 := s.pdUpd sess (fun x => { x with anySeq := true })
      ((((s1.raise (PDE_SSTAT_s_TIMEDOUT sess)).lower (PDE_SSTAT_s_UP sess)).raise
        PDE_EVT_TIMEOUT).count 13).pairJudge)

/-- DUAL_WINDOW_CLOSE: the first copy is accepted and the missing lane's loss counted (R360). -/
def execDualWindowClose (sess : Nat) (s : State) : Out :=
  .next (match (s.pd sess).dual with
    | some (l0, f0) =>
      if s.pdeUp then (s.pdAccept sess (s.boot.act.pdS sess) f0).pdLoss sess l0 else s
    | none => s)

/-- DIRECTORY_COMMIT: a keyed store to PDE_DIRCMD (R349). -/
def execDirectoryCommit (key : BitVec 8) (ofs : BitVec 24) (s : State) : Out :=
  .next (if s.unitDown 0x21 then s.answer .isolated else s.dirCommand key.toNat ofs.toNat)

/-- DIRECTORY_COPY_DONE: the copy, made from the end of the COMMIT phase on, is checked (R349). -/
def execDirectoryCopyDone (s : State) : Out :=
  .next (if s.fget PDE_DIRSTAT_STATE = 1 && s.pde.imageDue then s.dirCopied else s)

/-- MD_MESSAGE_RECEIVED: for the own address; a fragmented message ends its reassembly. -/
def execMdMessageReceived (m : MdMsg) (s : State) : Out :=
  let held := match m.reasm with
    | some i => s.pde.reasm.contains i
    | none => true
  let s1 := match m.reasm with
    | some i => s.pdeUpd (fun p => { p with reasm := p.reasm.filter (fun j => j ≠ i) })
    | none => s
  .next (if s.pdeUp && held && m.dst = s.fget PDE_IPADDR_ADDR then s1.mdReceive m else s)

/-- MD_REPLY_TIMEOUT (R355). -/
def execMdReplyTimeout (q : Nat) (s : State) : Out := .next (if s.pdeUp then s.mdTimeout q else s)

end Sys2Proof.Machine
end

