-- ==== Sys2Proof/Machine/Recorder.lean ====
section
/-! DEFINITION. Sys2Proof/Machine/Recorder.lean: the commands of the event recorder (R473 to R477). -/

namespace Sys2Proof.Machine

/-- The bin of a value, `w` wide from `lo` on, with everything below in bin 0. -/
def envBin (v lo w : Int) : Nat := ((v - lo) / w).toNat

/-- Nominal VDD_CORE in mV (Table 20-2). -/
def coreNom : Int := 800

/-- RECORDER_ENV_SAMPLE: FVS (not while FLOGIC is absent), die temperature in 0.1 degC and VDD_CORE at
VCORE_SENSE in mV (R473, R474). -/
def execRecorderEnvSample (tempDc : Int) (coreMv : Nat) (s : State) : Out :=
  .next (if s.unitDown 0x38 || !s.flag REC_CFG_EN then s
    else
      let mv := s.fget FLD_FVS_MV
      let s1 := s.when (s.fget (pstat .flogic) = 2) (fun x =>
        ((x.histAdd 1 (envBin mv 8000 500)).extMin 1 mv).extMax 2 mv 0)
      let s2 := ((s1.histAdd 2 (envBin tempDc (-500) 30)).extMin 3 tempDc).extMax 4 tempDc 0
      ((s2.histAdd 3 (envBin (coreMv * 200 : Nat) (168 * coreNom) coreNom)).extMin 5 coreMv).extMax 6 coreMv 0)

/-- RECORDER_SNAPSHOT_PERIOD (R475). -/
def execRecorderSnapshotPeriod (s : State) : Out :=
  .next (if s.unitDown 0x38 then s else s.recSnapshot 1)

/-- An ERASE command: the 64 sectors in order; FULL is cleared (R477). -/
def State.recErase (s : State) : State :=
  let s1 := (s.lower REC_FULL_FULL).fset REC_FULL_MISSED 0
  let s2 := { s1 with recd := { s1.recd with erasing := 64 } }
  (List.range 64).foldl (fun x i => x.flashQueue (.eraseSector 4 (s.dirField 24 + 4096 * i))) s2

/-- The commands of REC_CMD. -/
def State.recCmd (s : State) (key : Nat) (erase snap : Bool) : State :=
  if s.unitDown 0x38 then s.answer .isolated
  else if key ≠ 0xE7 || (snap && s.flag REC_STAT_WRITING) then s.answer .target
  else
    let s1 := (s.answer .okay).when snap (fun x => x.recSnapshot 2)
    s1.when (erase && s1.boot.dirOk && s1.recd.erasing = 0) State.recErase

/-- REC_CMD_SNAP: an error response while WRITING is 1 (R475). -/
def execRecCmdSnap (key : BitVec 8) (s : State) : Out := .next (s.recCmd key.toNat false true)

/-- REC_CMD_ERASE (R477). -/
def execRecCmdErase (key : BitVec 8) (s : State) : Out := .next (s.recCmd key.toNat true false)

end Sys2Proof.Machine
end

