-- ==== Sys2Proof/Machine/Signal.lean ====
section
/-! DEFINITION. Sys2Proof/Machine/Signal.lean: the commands of the signal unit (chapter 12). -/

namespace Sys2Proof.Machine

/-- Edges expected in a window of 2,000 SIG clocks, as a fraction; 0 while the clock output is off
(R314). -/
def State.sigExpected (s : State) (n : Nat) : Nat × Nat :=
  let k := s.fget (SIG_CH_n_CFG_CKSRC n)
  if k = 3 then (s.fget (SIG_CH_n_CFG_XCLK n), 10)
  else if s.flag (SIG_CLKOUT_k_EN k) then (2000, s.fget (SIG_CLKOUT_k_DIV k)) else (0, 1)

/-- Is a count of edges more than 2 % from the expected one? -/
def edgesBad (e : Nat × Nat) (edges : Nat) : Bool :=
  let n := edges * e.2
  e.1 = 0 || e.1 < 50 * (if n < e.1 then e.1 - n else n - e.1)

/-- A channel clock has failed. -/
def State.sigClkBad (s : State) (n : Nat) : State :=
  ((s.sigUpd n (fun c => { c with goodWin := 0 })).when (!s.flag (SIG_CH_n_STAT_CLK_BAD n))
    (fun x => x.sigEvt n SIG_EVT_CLK_BAD)).raise (SIG_CH_n_STAT_CLK_BAD n)

/-- SD_CLOCK_WINDOW: the edges of 10 us, at most 2 % off; two good windows clear CLK_BAD (R314). -/
def execSdClockWindow (ch : BitVec 4) (edges : Nat) (s : State) : Out :=
  let n := ch.toNat
  .next (if !s.sigOn n then s
    else
      if edgesBad (s.sigExpected n) edges then s.sigClkBad n
      else
        let g := min ((s.sigCh n).goodWin + 1) 2
        (s.sigUpd n (fun c => { c with goodWin := g })).when (g = 2)
          (fun x => x.lower (SIG_CH_n_STAT_CLK_BAD n)))

/-- SD_CLOCK_MISSING: no edge within 2 us. -/
def execSdClockMissing (ch : BitVec 4) (s : State) : Out :=
  .next (if s.sigOn ch.toNat then s.sigClkBad ch.toNat else s)

/-- SD_BITSTREAM_STUCK: no change of the bit for 1,024 modulator periods (R316). -/
def execSdBitstreamStuck (ch : BitVec 4) (s : State) : Out :=
  let n := ch.toNat
  .next (if s.sigOn n then
    (s.when (!s.flag (SIG_CH_n_STAT_STUCK n)) (fun x => x.sigEvt n SIG_EVT_STUCK)).raise
      (SIG_CH_n_STAT_STUCK n)
  else s)

/-- SINC3_OUTPUT: the R bits of one decimation period give a sinc3 output (R317, R321). -/
def execSinc3Output (ch : BitVec 4) (bits : List Bool) (s : State) : Out :=
  let n := ch.toNat
  .next (if s.sigOn n && !s.sigScs n && bits.length = s.sigR n then
    (s.sigBits n bits).sigQueue n
  else s)

/-- ENGINE_SLOT: the 16 clocks of a channel in a round, whether or not it is enabled; the slots come in
channel order (R320). A slot out of its turn does not occur. -/
def execEngineSlot (ch : BitVec 4) (s : State) : Out :=
  let n := ch.toNat
  .next (if s.sigSlot ≠ n || s.unitDown 0x30 || !s.flag SIG_STAT_RUNNING then s
    else
      let s1 := { s with sigSlot := (n + 1) % 12 }
      if s1.sigOn n then
        let clk := 16 + (s1.sigCh n).spent
        ((s1.sigUpd n (fun c => { c with spent := 0 })).sigRun n 256 clk).sigGroupWrite n
      else s1)

/-- Restart the channels of a mask. -/
def State.sigRestartMask (s : State) (mask : Nat) : State :=
  (bitList 12 mask).foldl (fun x n => x.when (x.sigOn n) (fun y => y.sigRestart n)) s

/-- A synchronisation event restarts the sync group; a single-cycle channel without a period
starts a conversion (R325, R327). -/
def State.sigSync (s : State) : State :=
  let grp := (List.range 4).filter (fun n => s.sigOn n && s.flag (SIG_CH_n_CFG_SYNC_EN n))
  let s1 := grp.foldl (fun x n => (x.sigRestart n).sigUpd n (fun c =>
    { c with asked := x.sigScs n && x.fget (SIG_CH_n_SCS_PER n) = 0 })) s
  s1.when (!grp.isEmpty) (fun x => x.raise SIG_EVT_SYNC)

/-- SIG_CMD RESTART (R324); behind a closed wrapper ISOLATED (R16). -/
def execSigCmdRestart (mask : BitVec 12) (s : State) : Out :=
  .next (if s.unitDown 0x30 then s.answer .isolated
    else (s.sigRestartMask mask.toNat).answer .okay)

/-- SIG_CMD SYNC, if SRC allows the command (R325). -/
def execSigCmdSync (s : State) : Out :=
  .next (if s.unitDown 0x30 then s.answer .isolated
    else (s.when (bitOf (s.fget SIG_SYNCCFG_SRC) 1) State.sigSync).answer .okay)

/-- SYNC_DF_EDGE, if SRC allows the ball and the edge is the configured one. -/
def execSyncDfEdge (falling : Bool) (s : State) : Out :=
  .next (if bitOf (s.fget SIG_SYNCCFG_SRC) 0 && s.flag SIG_SYNCCFG_FALL = falling
      && !s.unitDown 0x30 then s.sigSync
  else s)

/-- SCS_CONVERSION_START: at each period, or at a synchronisation event where PER = 0; a running
conversion is abandoned (R327). `bit` is SD_DAT_nn at its last edge before: between conversions the bits
make no result, but a change clears STUCK (R316). -/
def execScsConversionStart (ch : BitVec 4) (bit : Bool) (s : State) : Out :=
  let n := ch.toNat
  let due := s.fget (SIG_CH_n_SCS_PER n) ≠ 0 || (s.sigCh n).asked
  .next (if s.sigOn n && s.sigScs n then
    let s1 := s.sigBits n [bit]
    if due then s1.sigUpd n (fun c => { c with hist := [], converting := true, asked := false })
    else s1
  else s)

/-- SCS_CONVERSION_DONE: the 3R - 2 bits of a conversion give one result (R327). -/
def execScsConversionDone (ch : BitVec 4) (bits : List Bool) (s : State) : Out :=
  let n := ch.toNat
  .next (if s.sigOn n && (s.sigCh n).converting && bits.length = 3 * s.sigR n - 2 then
    ((s.sigBits n bits).sigQueue n).sigUpd n (fun c => { c with converting := false })
  else s)

end Sys2Proof.Machine
end

