-- ==== Sys2Proof/Machine/Time.lean ====
section
/-! DEFINITION. Sys2Proof/Machine/Time.lean: the commands of the time unit (R361 to R366). -/

namespace Sys2Proof.Machine

/-- The time unit runs. -/
def State.timUp (s : State) : Bool := !s.unitDown 0x22

/-- PTP_SYNC_RECEIVED: a one-step Sync completes origin and arrival; a two-step one waits for its
Follow_Up. The arrival is stamped with the own train time. -/
def execPtpSyncReceived (m : PtpMsg) (s : State) : Out :=
  .next (if !s.timUp || !s.timFromParent m then s
    else if m.twoStep then s.timUpd (fun t => { t with sync := some (m, s.now.trainNs) })
    else s.timSynced m.port (m.ts + m.corr) s.now.trainNs)

/-- PTP_FOLLOW_UP_RECEIVED: the origin time of the Sync that waits. -/
def execPtpFollowUpReceived (m : PtpMsg) (s : State) : Out :=
  .next (match s.tim.sync with
    | some (y, arr) =>
      if s.timUp && s.timFromParent m && y.seq = m.seq && y.port = m.port then
        s.timSynced m.port (m.ts + m.corr + y.corr) arr
      else s
    | none => s)

/-- A request of a port departs: its sequence number and departure are kept. With one-step a Delay_Req
carries its origin time, otherwise zero. -/
def State.timRequest (s : State) (port : Nat) (peer : Bool) : State :=
  let q := (s.tim.reqSeq + 1) % 2 ^ 16
  let m : PtpMsg := { port := port, domain := s.fget TIM_CFG_DOMAIN, clock := s.ownMac, seq := q
                      ts := if s.flag (TIM_PORT_n_CFG_ONESTEP port) && !peer then s.now.trainNs else 0
                      corr := 0, twoStep := false, l2 := s.flag TIM_CFG_L2 }
  (s.timUpd (fun t => { t with
    reqSeq := q, reqs := vecUpd t.reqs port (fun _ => some (q, s.now.trainNs)) })).netSend
    (if peer then .pdelayReq m else .delayReq m)

/-- PTP_DELAY_REQ_SEND: a Pdelay_Req on a port of the peer delay mechanism, a Delay_Req on one of the
delay request-response mechanism that has the parent. -/
def execPtpDelayReqSend (port : Nat) (s : State) : Out :=
  .next (if !s.timUp || s.fget TIM_CFG_MODE ≠ 1 || !(port < 4) then s
    else if s.flag (TIM_PORT_n_CFG_P2P port) then s.timRequest port true
    else match s.tim.parent with
      | some a => if a.port = port then s.timRequest port false else s
      | none => s)

/-- Store a measured path delay. -/
def State.timSetDelay (s : State) (port : Nat) (d : Int) : State :=
  s.timUpd (fun t => { t with delay := vecUpd t.delay port (fun _ => some d) })

/-- PTP_DELAY_RESP_RECEIVED: the mean of both directions is the path delay; the first one completes
the first offset measurement. -/
def execPtpDelayRespReceived (m : PtpMsg) (s : State) : Out :=
  .next (match s.tim.reqs.toList.getD m.port none, s.tim.t12 with
    | some (q, t3), some (p, t1, t2) =>
      if s.timUp && s.timFromParent m && q = m.seq && p = m.port then
        let d := (((t2 : Int) - t1) + ((m.ts : Int) - m.corr - t3)) / 2
        let s1 := (s.timSetDelay m.port d).timUpd (fun t => { t with
          reqs := vecUpd t.reqs m.port (fun _ => none) })
        if s1.flag TIM_STAT_STEPPED then s1 else s1.timMeasure ((t2 : Int) - t1 - d) none
      else s
    | _, _ => s)

/-- Does a port take peer-delay messages of a transport? -/
def State.timPeer (s : State) (m : PtpMsg) : Bool :=
  s.timUp && m.port < 4 && s.fget TIM_CFG_MODE = 1 && s.flag (TIM_PORT_n_CFG_P2P m.port)
    && m.l2 == s.flag TIM_CFG_L2

/-- PTP_PDELAY_REQ_RECEIVED: answered with Pdelay_Resp. One-step inserts the turnaround time in its
correction; two-step gives the arrival, and the departure in a Pdelay_Resp_Follow_Up (Table 13-9).
PRESUMED (log entry 85): the time stamps and corrections of IEEE 1588. -/
def execPtpPdelayReqReceived (m : PtpMsg) (turnNs : Nat) (s : State) : Out :=
  let arr := s.now.trainNs
  .next (if !s.timPeer m then s
    else if s.flag (TIM_PORT_n_CFG_ONESTEP m.port) then
      s.netSend (.pdelayResp m.clock { m with
        clock := s.ownMac, ts := 0, corr := m.corr + turnNs, twoStep := false } none)
    else
      s.netSend (.pdelayResp m.clock
        { m with clock := s.ownMac, ts := arr, corr := 0, twoStep := true }
        (some { m with clock := s.ownMac, ts := arr + turnNs, twoStep := false })))

/-- The mean delay of a peer: (own round trip - turnaround) / 2. -/
def peerDelay (req arr : Nat) (turn : Int) : Int := ((arr : Int) - req - turn) / 2

/-- The departure of the request of a port that a peer-delay message answers. -/
def State.timAsked (s : State) (m : PtpMsg) : Option Nat :=
  match s.tim.reqs.toList.getD m.port none with
  | some (q, t) => if s.timPeer m && q = m.seq then some t else none
  | none => none

/-- PTP_PDELAY_RESP_RECEIVED: of the port's own request; complete when one-step (its correction is the
turnaround), else it waits for its follow-up with its arrival. -/
def execPtpPdelayRespReceived (m : PtpMsg) (s : State) : Out :=
  .next (match s.timAsked m with
    | none => s
    | some t =>
      if m.twoStep then
        s.timUpd (fun x => { x with pdelay := vecUpd x.pdelay m.port (fun _ => some (m, s.now.trainNs)) })
      else (s.timSetDelay m.port (peerDelay t s.now.trainNs m.corr)).timUpd (fun x =>
        { x with reqs := vecUpd x.reqs m.port (fun _ => none) }))

/-- PTP_PDELAY_RESP_FOLLOW_UP: of the response that waits and its clock; `ts` is the response's departure;
the response carried the request's arrival. -/
def execPtpPdelayRespFollowUp (m : PtpMsg) (s : State) : Out :=
  .next (match s.timAsked m, s.tim.pdelay.toList.getD m.port none with
    | some t, some (r, arr) =>
      if r.seq = m.seq && r.clock = m.clock then
        (s.timSetDelay m.port (peerDelay t arr ((m.ts : Int) - r.ts + m.corr + r.corr))).timUpd (fun x =>
          { x with reqs := vecUpd x.reqs m.port (fun _ => none)
                   pdelay := vecUpd x.pdelay m.port (fun _ => none) })
      else s
    | _, _ => s)

/-- PTP_ANNOUNCE_RECEIVED: the best master clock algorithm over the messages of the domain. -/
def execPtpAnnounceReceived (m : Announce) (s : State) : Out :=
  .next (if s.timUp && s.fget TIM_CFG_MODE = 1 && m.domain = s.fget TIM_CFG_DOMAIN
      && m.l2 == s.flag TIM_CFG_L2 then
    (s.timUpd (fun t => { t with
      masters := t.masters.filter (fun a => ¬(a.clock = m.clock ∧ a.port = m.port)) ++ [m] })).timSelect
  else s)

/-- ANNOUNCE_RECEIPT_TIMEOUT: the parent is lost; the algorithm goes over the masters that remain
(R364). -/
def execAnnounceReceiptTimeout (s : State) : Out :=
  .next (match s.tim.parent with
    | some a =>
      if s.timUp && s.fget TIM_CFG_MODE = 1 then
        (s.timHold.timUpd (fun t => { t with
          masters := t.masters.filter (fun b => ¬(b.clock = a.clock ∧ b.port = a.port)) })).timSelect
      else s
    | none => s)

/-- The offset of the own count from the nearest whole second. -/
def wholeOffset (ns : Nat) : Int :=
  let r := ns % 1000000000
  if r < 500000000 then r else (r : Int) - 1000000000

/-- PPS_IN_EDGE: a whole second (R362, R363). Before the step an edge measures nothing. -/
def execPpsInEdge (refPpb : Int) (s : State) : Out :=
  .next (if !s.timUp || s.fget TIM_CFG_MODE ≠ 2 then s
    else if s.tim.secset && !s.flag TIM_STAT_STEPPED then
      (s.timUpd (fun t => { t with secset := false })).timStep
        (s.fget TIM_SECSET_SEC * 1000000000 : Nat)
    else if !s.flag TIM_STAT_STEPPED then s
    else (s.timUpd (fun t => { t with secset := false })).timMeasure (wholeOffset s.now.trainNs)
      (if s.flag TIM_CFG_REFIN then some refPpb else none))

/-- PPS_IN_MISSING: no edge for 2 s (R364). -/
def execPpsInMissing (s : State) : Out :=
  .next (if s.timUp && s.fget TIM_CFG_MODE = 2 then s.timHold.raise TIM_EVT_PPS_MISS else s)

/-- HOLDOVER_EXPIRY (R364). -/
def execHoldoverExpiry (s : State) : Out :=
  .next (if s.fget TIM_STAT_STATE = 3 then (s.timTo 4).raise TIM_EVT_EXPIRED else s)

/-- TIM_ACCEPT_JUMP (R365). -/
def execTimAcceptJump (key : BitVec 8) (s : State) : Out :=
  .next (if s.unitDown 0x22 then s.answer .isolated else s.timCommand key.toNat 1)

/-- TIM_SECSET_APPLY (R365). -/
def execTimSecsetApply (key : BitVec 8) (s : State) : Out :=
  .next (if s.unitDown 0x22 then s.answer .isolated else s.timCommand key.toNat 2)

end Sys2Proof.Machine
end

