-- ==== Sys2Proof/Machine/Hub.lean ====
section
/-! DEFINITION. Sys2Proof/Machine/Hub.lean: the hub: the address map, requests to memory, to the message
ports, to the flash window and to the Fold link, reads and writes of the registers (R5 to R11, R123 to
R125, R130, R131, R142, R147 to R149, R170, R240, R241, R257, R266, R342, R353, R404). -/

namespace Sys2Proof.Machine

/-! ### Requests -/

/-- May an initiator access a whole 256-bit word (R131)? -/
def wideInit : Initiator → Bool
  | .engine => true | .update => true | .boot => true
  | .lanes => false | .solo _ => false | .debug => false

/-- A well-formed request: 1, 2, 4 or 8 bytes, or the whole word of an engine, at an aligned 32-bit
address. DESIGN CHOICE (log entry 20): any other one gets the response TARGET. -/
def busOk (r : BusReq) : Bool :=
  (r.size = 1 || r.size = 2 || r.size = 4 || r.size = 8 || (r.size = 32 && wideInit r.init))
    && r.addr % r.size = 0 && r.addr < 2 ^ 32

/-- The request of an initiator as the droveway carries it: an aligned word and a mask. -/
def busItem (r : BusReq) : HubItem :=
  let w := if r.size = 32 then 32 else 8
  let o := r.addr % w
  { req := { r with addr := r.addr / w * w, size := w
                    data := BitVec.ofNat 256 (r.data.toNat % 2 ^ (8 * r.size) * 2 ^ (8 * o)) }
    named := true, kind := if r.write then 0 else 8, mask := (2 ^ r.size - 1) * 2 ^ o, seq := 0
    lanes := [] }

/-- Is the initiator a lane, voted or independent? -/
def isLane : Initiator → Bool
  | .lanes => true | .solo _ => true
  | .debug => false | .engine => false | .update => false | .boot => false

/-- Does an initiator reach the range that holds an address (Table 06-1)? The update unit and the boot
controller reach the memories as engines do. -/
def hubReach (ini : Initiator) (a : Nat) : Bool :=
  let debug : Bool := ini = .debug
  if (burstBank a).isSome then !debug || (0x20180000 ≤ a)
  else if 0x40000000 ≤ a ∧ a < 0x40100000 then isLane ini || debug
  else if a / 0x10000000 = 6 then isLane ini || ini = .update
  else if a / 0x10000000 = 7 then xspiInit ini
  else if 0xF0000000 ≤ a ∧ a < 0xF0004080 then isLane ini
  else false

/-! ### Memory -/

/-- The 8-byte word of memory that holds an address. -/
def State.memWord (s : State) (a : Nat) : DWord := BitVec.ofNat 64 (s.memLe (a / 8 * 8) 8)

/-- The word of memory from a request's address on, as a read of a word with data gives it. -/
def State.memVal (s : State) (i : HubItem) (bk : Bank) (off : Nat) : Nat :=
  match s.finding bk off with
  | .wrong d _ => d / 2 ^ (8 * (i.req.addr % 32))
  | _ => s.memLe i.req.addr i.req.size

/-- A read of shared or communication memory. -/
def State.memRead (s : State) (i : HubItem) (bk : Bank) (off : Nat) : State :=
  let r := s.wordRead bk off (if isLane i.req.init then 0 else 3)
  match r.2 with
  | some _ => r.1.replyNat i 0 false (s.memVal i bk off)
  | none => r.1.reply i 1 false 0

/-- A store: of less than a word a read-modify-write inside the bank (R131). -/
def State.memWrite (s : State) (i : HubItem) (bk : Bank) (off : Nat) : State :=
  let r := s.wordStore bk off i.len i.val 1
  if r.2 then r.1.reply i 0 false 0 else r.1.reply i 1 false 0

/-- Is an address in the second bank of a double-buffered area (R342, R379, R404)? -/
def State.secondBank (s : State) (a : Nat) : Bool :=
  let c := s.boot.act
  let inR (lo n : Nat) : Bool := lo ≤ a && a < lo + n
  (List.range c.pdN).any (fun k =>
      let b := ((c.pdS k).len + 7) / 8 * 8
      inR ((c.pdS k).buf + b) b)
    || (List.range 4).any (fun n => c.has 6 n
      && (inR (c.canRx n + 5120) 5120 || inR (c.canTx n + 240) 240))
    || (List.range 2).any (fun n => (List.range (s.drvSlots n)).any (fun k =>
      inR (s.drvWin n k + 256) 256))

/-- Is an address in a snapshot area (R257), or in the pair unit's publish buffer (R439)? -/
def State.snapArea (s : State) (a : Nat) : Bool :=
  let c := s.boot.act
  let inR (lo n : Nat) : Bool := lo ≤ a && a < lo + n
  let pub := s.flag PAIR_CFG_EN && s.flag PAIR_CFG_ETH_EN
  (List.range c.pdN).any (fun k =>
      ((c.pdS k).sub || (pub && s.fget PAIR_SESS_PUB = k))
        && inR (c.pdS k).buf (((c.pdS k).len + 7) / 8 * 8))
    || (List.range 4).any (fun n => c.has 6 n && inR (c.canRx n) 5120)
    || (List.range 2).any (fun n => (List.range (s.drvSlots n)).any (fun k =>
      !s.ownSlot n k && inR (s.drvWin n k) 256))

/-- A general store to memory: never to a snapshot area; an engine item by its owner only, and its
first store of the cycle keeps the publish content (R257, R265, R266). A store that is not performed
leaves the item as it was. -/
def State.memStore (s : State) (i : HubItem) (bk : Bank) (off : Nat) : State :=
  if s.snapArea i.at then s.reply i 2 false 0
  else match s.itemAt i.at with
  | none => s.memWrite i bk off
  | some (k, key) =>
    let o := s.itemOwn k key
    if !s.owns i.req.init o.1 o.2 then s.reply i 2 false 0
    else if s.wordBad bk off then s.memWrite i bk off
    else (s.itemTouch k key).memWrite i bk off

/-- An OUT: the item of the output image and, once it is written, its flag (R263, R266). -/
def State.memOut (s : State) (i : HubItem) : State :=
  let k := (i.req.addr - s.boot.act.outBase) / 8
  let e := s.boot.act.outE k
  match burstBank i.at with
  | none => s.reply i 3 false 0
  | some (bk, off) =>
    if !s.owns i.req.init e.own e.solo then s.reply i 2 false 0
    else if s.wordBad bk off then s.memWrite i bk off
    else
      let s1 := if s.cyc.written.contains k then s
        else { s with cyc := { s.cyc with written := s.cyc.written ++ [k] } }
      s1.memWrite i bk off

/-! ### Message ports (R240, R241, R353) -/

/-- The message port at an address: whether it is a receive port, and its queue. -/
def mdPort (a : Nat) : Option (Bool × Nat) :=
  match arrIdx (a / 8 * 8) 0x40078000 8 32, arrIdx (a / 8 * 8) 0x40079000 8 32 with
  | some q, _ => some (false, q)
  | _, some q => some (true, q)
  | _, _ => none

/-- A SEND to its queue. -/
def State.mdPortSend (s : State) (i : HubItem) : State :=
  let q := (i.req.addr - 0x40078000) / 8
  let e := s.boot.act.sendQ q
  if s.unitDown 0x21 then s.reply i 5 false 0
  else if s.pde.sendQ.length ≤ q then s.reply i 6 false 0
  else if !s.owns i.req.init e.own e.solo then s.reply i 2 false 0
  else
    let r := s.mdSend q (bitsOf i.req.data.toNat 0 32) (bitsOf i.req.data.toNat 32 16)
    r.1.reply i r.2.code false 0

/-- A RECV, or a load from a receive port. A port without a queue is empty. -/
def State.mdPortRecv (s : State) (i : HubItem) (q : Nat) : State :=
  let e := s.boot.act.recvQ q
  if s.unitDown 0x21 then s.reply i 5 false 0
  else if s.pde.recvQ.length ≤ q then s.reply i 0 false 0
  else if !s.owns i.req.init e.own e.solo then s.reply i 2 false 0
  else
    let r := s.mdTake q
    r.1.reply i 0 (decide (r.2 ≠ 0)) r.2

/-! ### Isolation wrappers (R16, R119) -/

/-- The unit whose wrapper stands before an address: 0 for none. -/
def wrapUnit (a : Nat) : Nat :=
  match a / 0x10000000 with
  | 4 => unitOfAddr a
  | 6 => 0x2D
  | _ => 0

/-- Is the target at an address behind a closed isolation wrapper? DEDUCED (log entry 36): the FLD window
lies behind that of FLOGIC, closed from the start of a local reset of target 0x0A to its end (R90). -/
def State.hubIsolated (s : State) (a : Nat) : Bool :=
  (wrapUnit a ≠ 0 && s.unitDown (wrapUnit a))
    || s.rst.locals.any (fun e => e.phase ≠ .drain && targetHolds e.target a)

/-- Does the wrapper of a target accept no new request because a close of its gate waits for the bus-quiet
handshake, and nothing else keeps it closed (R119)? -/
def State.hubQuiet (s : State) (a : Nat) : Bool :=
  wrapUnit a ≠ 0 && s.gateClosing (wrapUnit a) && !s.unitShut (wrapUnit a)

/-! ### Registers -/

/-- Latent divergences within the last 1,000 cycles of the lane that TRI_LATENT names (R198). -/
def State.latentNow (s : State) : Nat :=
  (s.triad.latents.filter (fun p => p.1.num = s.fget TRI_LATENT_LANE
    && s.cyc.count.toNat < p.2 + 1000)).length

/-- VSC_INT events within the last 1,000 cycles, 0 to 2 (R460). -/
def State.vscIntNow (s : State) : Nat :=
  min (s.pde.vscInts.filter (fun c => s.cyc.count.toNat < c + 1000)).length 2

/-- The fields that show something now and are held in no register. -/
def State.live (s : State) (a : Nat) : List (Fld × Nat) :=
  match a with
  | 0x40000000 => [(SYS_DEVID_GRADE, bitNat s.board.gradeW)]
  | 0x40000080 => [(SYS_PINSTAT_SAFE_OUT, bitNat s.pins.safeOut),
      (SYS_PINSTAT_BYP_ETH, bitNat s.bypEth), (SYS_PINSTAT_BYP_FLK, bitNat s.bypFlk)]
  | 0x40000108 => [(PWR_MON_OK, s.phys.ok.toNat), (PWR_MON_FVS_HIGH, bitNat s.phys.fvsHigh)]
  | 0x40000110 => [(PWR_BKSTAT_VBK_NOW_LOW, bitNat s.phys.vbkLow)]
  | 0x40010004 => [(TRI_STAT_IDLE, (allCores.filter (fun k =>
      s.healthy k && (s.laneOn k).isNone)).foldl (fun n k => n + 2 ^ k.num) 0)]
  | 0x4001001C => [(TRI_LATENT_INWIN, s.latentNow)]
  | 0x400E0018 => [(SAF_VSCINT_INWIN, s.vscIntNow)]
  | 0x40030000 => [(BOOT_STAT_TRIM_FAULT, s.fget SYS_RSTSTAT_TRIM_FAULT)]
  | 0x40050020 => [(SIG_TNOW_T, s.now.sigNs / 5)]
  | 0x40060000 => [(ETH_STAT_PHYINT, s.phys.phyInt.toNat)]
  | 0x40080010 => [(TIM_NS_LO_NS, s.now.trainNs)]
  | 0x40080014 => [(TIM_NS_HI_NS, s.tim.hiLatch)]
  | 0x400F0028 =>
    let own := s.ownHalf
    let fill := match own with
      | some h => if s.setSize = 0 then 0 else min 255 (s.setFree h * 256 / s.setSize)
      | none => 0
    [(UPD_SETSTAT_FORMAT, s.boot.act.format), (UPD_SETSTAT_FILL, fill),
     (UPD_SETSTAT_PROT, bitNat (s.setProt 0) + 2 * bitNat (s.setProt 1)),
     (UPD_SETSTAT_OWN, own.getD 0), (UPD_SETSTAT_VALID, bitNat own.isSome)]
  | _ => []

/-- The word that a register shows: WO fields and reserved fields read as zero (R6, R9). -/
def State.regView (s : State) (a : Nat) : Word :=
  let w := (s.regWord a &&& ~~~(accMask (fun c => decide (c = .wo)) a)).toNat
  BitVec.ofNat 32 ((s.live a).foldl (fun x p => setBits x p.1.lo p.1.width p.2) w)

/-- A word of a CAN controller's read-only window: FIFO entries and live receive buffers. -/
def State.canWindow (s : State) (n o : Nat) : Option Word :=
  let c := s.canCtl n
  let cut (b : List Byte) (k : Nat) : Word := BitVec.ofNat 32 (leAt b k 4)
  if 0x1000 ≤ o ∧ o < 0x1A00 then
    some (cut (c.fifo.toList.getD ((o - 0x1000) / 80) []) ((o - 0x1000) % 80))
  else if 0x2000 ≤ o ∧ o < 0x3400 then
    some (cut (c.bufs.toList.getD ((o - 0x2000) / 80) { bytes := [], since := 0, stored := none }).bytes ((o - 0x2000) % 80))
  else none

/-- The CAN window word at an address. -/
def State.canWindowAt (s : State) (a : Nat) : Option Word :=
  if 0x40090000 ≤ a ∧ a < 0x400A0000 then
    s.canWindow ((a - 0x40090000) / 0x4000) ((a - 0x40090000) % 0x4000)
  else none

/-- A read of a register: the state, the word, and whether the read changed anything. -/
def State.regRead (s : State) (ini : Initiator) (a : Nat) : State × Word × Bool :=
  match arrIdx a 0x400B0080 4 16, s.canWindowAt a with
  | some n, _ =>
    let r := s.semAcquire n (semClass ini)
    (r.1, BitVec.ofNat 32 r.2, true)
  | _, some w => (s, w, false)
  | none, none =>
    if a = 0x40080010 then
      ({ s with tim := { s.tim with hiLatch := s.now.trainNs / 2 ^ 32 % 2 ^ 32 } }, s.regView a, true)
    else (s, s.regView a, false)

/-- A backup register (Table 04-5). -/
def State.bkrRead (s : State) (a : Nat) : Word :=
  match a - 0xF0004000 with
  | 0x00 => s.bkup.rstcntM | 0x04 => s.bkup.causePrev | 0x08 => s.bkup.lastCycLo
  | 0x0C => s.bkup.lastCycHi | 0x10 => s.bkup.lastTime
  | 0x14 => BitVec.ofNat 32 (bitNat s.bkup.stampValid)
  | 0x18 => s.bkup.rtc
  | o => if 0x40 ≤ o ∧ o < 0x80 then s.bkup.app.toList.getD ((o - 0x40) / 4) 0 else 0

/-- The bits of a W1C and W1S register after a write (R6). -/
def w1Merge (a : Nat) (w v : Word) : Word :=
  (w &&& ~~~(v &&& accMask (fun c => decide (c = .w1c)) a))
    ||| (v &&& accMask (fun c => decide (c = .w1s)) a)

/-- What follows a direct write of RWL fields (R170): the engines take the new bank. -/
def State.rwlFollow (s : State) (old : RegMap) : State :=
  let s1 := [0, 1, 2, 3].foldl (fun x n => x.canSwap n old) (s.sigFollow old)
  let s2 := [0, 1].foldl (fun x n => x.drvSwap n x.boot.act old) s1
  s2.when (s2.fget TIM_CFG_MODE = 0) (fun x => x.timTo 0)

/-- A write of RWL fields: an error response once the lock is set, or for a safety parameter of a set
with SAFETY = 1 (R170, R451); a region entry takes effect at the next boundary. -/
def State.rwlWrite (s : State) (a v : Nat) : State :=
  let w := BitVec.ofNat 32 v
  if s.flag BOOT_LOCK_LOCK || (s.boot.act.safety && safetyRegs.contains a) then s.answer .target
  else if !valueOk s.regs a v then s.answer .target
  else if 0x40020100 ≤ a ∧ a < 0x40020200 then
    let rest := s.memx.rgnPend.filter (fun p => p.1 ≠ a)
    { s with memx := { s.memx with
        rgnPend := rest ++ [(a, mergeW (s.regWord a) (rwlMask a) w)] } }.answer .okay
  else
    let new := w1Merge a (mergeW (s.regWord a) (rwlMask a ||| rwMask a) w) w
    ((s.setReg a new).rwlFollow s.regs).answer .okay

/-- A write of a register that has no operation of its own, by access code (R6, R9, R11). -/
def State.plainWrite (s : State) (a v : Nat) : State :=
  let w := BitVec.ofNat 32 v
  if rwlMask a ≠ 0 then s.rwlWrite a v
  else if !valueOk s.regs a v then s.answer .target
  else (s.setReg a (w1Merge a (mergeW (s.regWord a) (rwMask a) w) w)).answer .okay

/-- A store to UPD_CMD. -/
def State.updStore (s : State) (v : Nat) : State :=
  let act := bitsOf v 0 4
  s.updKey (bitsOf v 24 8) (fun x => match act with
    | 1 => x.updOpen (bitOf v 8)
    | 2 => x.updWrite
    | 3 => x.updFetch
    | 4 => x.updClose (bitOf v 16)
    | 5 => x.updArm
    | 6 => (x.answer .okay).updDisarm
    | 7 => x.updAbort
    | 8 => x.updSetwrite
    | _ => x.answer .target)

/-- Stores to the command registers below the bus windows; `none`: another register. -/
def State.cmdStore (s : State) (a v : Nat) : Option State :=
  match a with
  | 0x40000014 => some (s.writeSwrst v)
  | 0x40000104 => some (s.writePwrReq v)
  | 0x40000214 => some (s.gateWrite (bitsOf v 0 8) (bitOf v 8))
  | 0x40000220 => some (s.writeOutcfg v)
  | 0x40030020 => some (if bitOf v 8 then s.sloadAbort (bitsOf v 24 8)
      else s.sloadStart (bitsOf v 24 8) (bitOf v 0))
  | 0x40030028 => some (match bitsOf v 0 2 with
      | 1 => s.cfgSwap (bitsOf v 24 8) true
      | 2 => s.cfgConfirm (bitsOf v 24 8) true
      | _ => s.answer .target)
  | 0x40050008 =>
    let s1 := s.sigRestartMask (bitsOf v 16 12)
    some ((s1.when (bitOf v 0 && bitOf (s1.fget SIG_SYNCCFG_SRC) 1) State.sigSync).answer .okay)
  | 0x40060018 => some ((s.mdioWrite v).answer .okay)
  | 0x40070020 => some (s.dirCommand (bitsOf v 24 8) (bitsOf v 0 24))
  | 0x40080020 => some (s.timCommand (bitsOf v 24 8) (bitsOf v 0 2))
  | 0x400A0004 => some (s.drvKeyed (bitsOf v 24 8) (bitsOf v 0 2) (bitsOf v 8 2))
  | 0x400B0014 => some (if bitsOf v 8 2 = 1 || bitsOf v 8 2 = 2 then
      s.ldCmd (bitsOf v 24 8) (bitsOf v 8 2) (bitsOf v 0 4) else s.answer .target)
  | 0x400B001C => some (s.degClr (bitsOf v 0 16))
  | 0x400B002C => some (s.lelPop (bitOf v 0))
  | 0x400D000C => some (s.recCmd (bitsOf v 24 8) (bitOf v 1) (bitOf v 0))
  | 0x400F0008 => some (s.updStore v)
  | _ => none

/-- A store to a register of a CAN controller with an operation of its own. -/
def State.canStoreReg (s : State) (n o v : Nat) : Option State :=
  match o with
  | 0x14 => some (if bitOf v 0 then s.canCmd n (bitsOf v 24 8)
      else s.answer (if bitsOf v 24 8 = 0x4B then .okay else .target))
  | 0x1C => some (s.canCancels n (bitsOf v 0 3))
  | 0x3C => some (s.canAck n (bitOf v 0))
  | _ => if (s.canWindow n o).isSome then some (s.answer .target) else none

/-- A store of a register. -/
def State.regStore (s : State) (ini : Initiator) (a v : Nat) : State :=
  match s.cmdStore a v, arrIdx a 0x400B0080 4 16 with
  | some t, _ => t
  | none, some n => (s.semWrite n (semClass ini) v).fetchPump
  | none, none =>
    if 0x40090000 ≤ a ∧ a < 0x400A0000 then
      match s.canStoreReg ((a - 0x40090000) / 0x4000) ((a - 0x40090000) % 0x4000) v with
      | some t => t
      | none => s.plainWrite a v
    else s.plainWrite a v

/-- An access of a peripheral window (R5, R8, R16). -/
def State.regAccess (s : State) (i : HubItem) : State :=
  let a := i.at
  match mdPort a with
  | some (recv, q) =>
    if i.req.write then s.reply i 6 false 0
    else if recv then s.mdPortRecv i q
    else s.reply i 0 false 0
  | none =>
    if s.hubIsolated a then s.reply i 5 false 0
    else if i.len ≠ 4 || a % 4 ≠ 0 then s.reply i 6 false 0
    else if i.req.write then
      let t := s.regStore i.req.init a i.val
      t.reply i t.resp.code false 0
    else
      let r := s.regRead i.req.init a
      r.1.reply i 0 r.2.2 (BitVec.ofNat 64 (r.2.1.toNat * 2 ^ (8 * i.ofs)))

/-- An access of the retained memory or of a backup register (R32, R99). -/
def State.bkupAccess (s : State) (i : HubItem) : State :=
  let a := i.at
  if a < 0xF0004000 then
    if !i.req.write then s.reply i 0 false (s.memWord a)
    else if 0xF0002000 ≤ a then s.reply i 2 false 0
    else (s.memPutLe a i.len i.val).reply i 0 false 0
  else if i.len ≠ 4 || a % 4 ≠ 0 then s.reply i 6 false 0
  else if i.req.write then (s.bkrWrite a i.val).reply i 0 false 0
  else s.reply i 0 false (BitVec.ofNat 64 ((s.bkrRead a).toNat * 2 ^ (8 * i.ofs)))

/-- An access of the flash window. -/
def State.xspiAccess (s : State) (i : HubItem) : State :=
  let t := s.xspiRead i.req.init i.at i.len
  t.reply i t.resp.code false (BitVec.ofNat 64 (t.rdata.toNat * 2 ^ (8 * i.ofs)))

/-! ### The hub -/

/-- Does an attribute or a fixed protection refuse a request (R125, R142, R342, R404)? -/
def State.hubPerm (s : State) (i : HubItem) : Bool :=
  let a := i.at
  let solo : Bool := match i.req.init with
    | .solo _ => s.mode = 2 && i.lanes.isEmpty && !(s.attrs a).soloOk
    | _ => false
  (0x20180000 ≤ a && a < 0x20200000) || (i.req.write && !(s.attrs a).wr) || solo
    || (isLane i.req.init && s.secondBank a)

/-- Perform or refuse a request (R123, R149). A commit that the hub still holds when the device safe
state is entered takes no effect (R23); DESIGN CHOICE (log entry 22): its response is TARGET. -/
def State.hubAccess (s : State) (i : HubItem) : State :=
  let a := i.at
  if i.req.write && isLane i.req.init && s.rst.safe.isSome then s.reply i 6 false 0
  else if i.kind = 1 then s.memOut i
  else if i.kind = 2 then s.mdPortSend i
  else if !hubReach i.req.init a then s.reply i 3 false 0
  else if s.hubPerm i then s.reply i 2 false 0
  else match burstBank a with
  | some (bk, off) =>
    if !i.req.write then s.memRead i bk off
    else if isLane i.req.init then s.memStore i bk off
    else s.memWrite i bk off
  | none =>
    if i.req.size = 32 then s.reply i 6 false 0
    else match a / 0x10000000 with
    | 4 => s.regAccess i
    | 6 => if s.unitDown 0x2D then s.reply i 5 false 0 else s.foldAccess i
    | 7 => s.xspiAccess i
    | _ => s.bkupAccess i

/-- Does a request draw on posted-write credits (R149, Table 01-5)? The Fold link bridge counts the
credits of its stations itself; a closed wrapper answers at once. -/
def State.hubPosted (s : State) (i : HubItem) : Bool :=
  i.req.write && i.req.addr / 0x10000000 ≠ 6 && !s.hubIsolated i.req.addr

/-- Does a request wait: at a wrapper that goes quiet, or for a posted-write credit of its initiator at its
target? -/
def State.hubWait (s : State) (i : HubItem) : Bool :=
  s.hubQuiet i.req.addr || s.hubPosted i && 8 ≤ s.creditsUsed (initNo i.req.init) (targetNo i.req.addr)

/-- A posted write takes its credit. -/
def State.hubCredit (s : State) (i : HubItem) : State :=
  if s.hubPosted i then
    s.setCredits (initNo i.req.init) (targetNo i.req.addr)
      (s.creditsUsed (initNo i.req.init) (targetNo i.req.addr) + 1)
  else s

/-- Is the hub stopped: a device reset, or CLOCK_HOLD? Where a reserved role holds functional reset after
S2, COMMON has been released (R45). -/
def State.hubStopped (s : State) : Bool :=
  (s.rst.active && !s.flag BOOT_STAT_MODE_INVALID) || s.clk.hold

/-- The requests that wait at a target, oldest first. -/
def State.waitingAt (s : State) (t : Nat) : List HubItem :=
  s.memx.hubQ.filter (fun i => targetNo i.req.addr = t)

/-- The request that a target grants next: the oldest one of the next initiator in round-robin order
whose oldest request there does not wait for a credit (R149). -/
def State.hubNext (s : State) (t : Nat) : Option HubItem :=
  let last := match s.memx.granted.find? (fun p => p.1 = t) with
    | some p => p.2
    | none => 7
  (List.range 8).findSome? (fun k =>
    match (s.waitingAt t).find? (fun i => initNo i.req.init = (last + 1 + k) % 8) with
    | some i => if s.hubWait i then none else some i
    | none => none)

/-- The request leaves the queue of its target, which has now granted its initiator. -/
def State.hubTake (s : State) (i : HubItem) : State :=
  let t := targetNo i.req.addr
  { s with memx := { s.memx with
      hubQ := s.memx.hubQ.erase i
      granted := s.memx.granted.filter (fun p => p.1 ≠ t) ++ [(t, initNo i.req.init)] } }

/-- A target grants a request and performs it. -/
def State.hubGrant (s : State) (t : Nat) : State :=
  if s.hubStopped then s
  else match s.hubNext t with
    | some i => ((s.hubTake i).hubCredit i).hubAccess i
    | none => s

/-- A request of an initiator that the command names: performed at once where no request waits at its
target and a write finds a credit, else it waits there. DESIGN CHOICE (log entry 23): a stopped hub
answers ISOLATED. -/
def State.hubPresent (s : State) (r : BusReq) : State :=
  if s.hubStopped then ({ s with rtag := r.tag, reff := false }).answer .isolated
  else if !busOk r then ({ s with rtag := r.tag, reff := false }).answer .target
  else
    let i := busItem r
    if !(s.waitingAt (targetNo i.req.addr)).isEmpty || s.hubWait i then s.hubPush i
    else (s.hubCredit i).hubAccess i

/-- HUB_REQUEST: a request is presented, or a target grants one that waits. -/
def execHubRequest (c : HubCmd) (s : State) : Out :=
  .next (match c with
    | .present r => s.hubPresent r
    | .grant t => s.hubGrant t)

/-- TARGET_RESPONSE_TIMEOUT: the target has not answered the request within 2 us of its acceptance; its
isolation wrapper does (Table 01-5). -/
def execTargetResponseTimeout (c : HubCmd) (s : State) : Out :=
  .next (match c with
    | .present r => ({ s with rtag := r.tag, reff := false }).answer .timeout
    | .grant t => match s.hubNext t with
      | some i => (s.hubTake i).reply i Resp.timeout.code false 0
      | none => s)

/-- REGISTER_WRITE: a write of a register by its access code. -/
def execRegisterWrite (ini : Initiator) (addr size : Nat) (v : BitVec 64) (s : State) : Out :=
  .next (if isRegAddr addr then
      s.hubPresent { init := ini, write := true, addr := addr, size := size
                     data := v.zeroExtend 256, tag := 0 }
    else s.answer .decerr)

end Sys2Proof.Machine
end

