-- ==== Sys2Proof/Machine/Logic.lean ====
section
/-! DEFINITION. Sys2Proof/Machine/Logic.lean: logic and bit operations (Table 09-8, R224). -/

namespace Sys2Proof.Machine

/-- Trailing zeros among the `n` lowest bits. -/
def ctz : Nat → Nat → Nat
  | 0, _ => 0
  | n + 1, v => if v % 2 = 1 then 0 else ctz n (v / 2) + 1

/-- Leading zeros among the `n` lowest bits. -/
def clz : Nat → Nat → Nat
  | 0, _ => 0
  | n + 1, v => if bitOf v n then 0 else clz n v + 1

/-- An immediate shift: an amount of 32 or more with .W is ILLEGAL. -/
def State.shiftImm (s : State) (l : LaneId) (w : Bool) (n : BitVec 6) (f : Lane → Lane) : State :=
  s.instr l (fun s _ => if w && n.toNat ≥ 32 then .trap 1 0 else .done (s.updLane l f))

/-- The position of a BEXT or BINS field. -/
def fieldPos (b : DWord) : Nat := bitsOf b.toNat 0 6

/-- The length of a BEXT or BINS field at a width, cut at the top. -/
def fieldLen (n : Nat) (b : DWord) : Nat :=
  let len := bitsOf b.toNat 8 6
  min (if len = 0 then n else len) (n - fieldPos b)

/-- AND: bitwise. -/
def execAnd (l : LaneId) (w : Bool) (d a b : GReg) (s : State) : Out :=
  .next (s.instrLane l (fun x => x.znOut w d (Nat.land (x.opv w a) (x.opv w b))))

/-- OR: bitwise. -/
def execOr (l : LaneId) (w : Bool) (d a b : GReg) (s : State) : Out :=
  .next (s.instrLane l (fun x => x.znOut w d (Nat.lor (x.opv w a) (x.opv w b))))

/-- XOR: bitwise. -/
def execXor (l : LaneId) (w : Bool) (d a b : GReg) (s : State) : Out :=
  .next (s.instrLane l (fun x => x.znOut w d (Nat.xor (x.opv w a) (x.opv w b))))

/-- ANDN: ga AND NOT gb. -/
def execAndn (l : LaneId) (w : Bool) (d a b : GReg) (s : State) : Out :=
  .next (s.instrLane l (fun x =>
    x.znOut w d (Nat.land (x.opv w a) (2 ^ opWidth w - 1 - x.opv w b))))

/-- ORN: ga OR NOT gb. -/
def execOrn (l : LaneId) (w : Bool) (d a b : GReg) (s : State) : Out :=
  .next (s.instrLane l (fun x =>
    x.znOut w d (Nat.lor (x.opv w a) (2 ^ opWidth w - 1 - x.opv w b))))

/-- XNOR: NOT (ga XOR gb). -/
def execXnor (l : LaneId) (w : Bool) (d a b : GReg) (s : State) : Out :=
  .next (s.instrLane l (fun x =>
    x.znOut w d (2 ^ opWidth w - 1 - Nat.xor (x.opv w a) (x.opv w b))))

/-- NOT: NOT ga. -/
def execNot (l : LaneId) (w : Bool) (d a : GReg) (s : State) : Out :=
  .next (s.instrLane l (fun x => x.znOut w d (2 ^ opWidth w - 1 - x.opv w a)))

/-- SHL: logical left by gb modulo the width. -/
def execShl (l : LaneId) (w : Bool) (d a b : GReg) (s : State) : Out :=
  .next (s.instrLane l (fun x =>
    x.shfOut w d (shfL (opWidth w) (x.opv w a) (x.opv w b % opWidth w))))

/-- SHR: logical right. -/
def execShr (l : LaneId) (w : Bool) (d a b : GReg) (s : State) : Out :=
  .next (s.instrLane l (fun x => x.shfOut w d (shfR (x.opv w a) (x.opv w b % opWidth w))))

/-- SAR: arithmetic right. -/
def execSar (l : LaneId) (w : Bool) (d a b : GReg) (s : State) : Out :=
  .next (s.instrLane l (fun x =>
    x.shfOut w d (shfA (opWidth w) (x.opv w a) (x.opv w b % opWidth w))))

/-- ROL: rotate left. -/
def execRol (l : LaneId) (w : Bool) (d a b : GReg) (s : State) : Out :=
  .next (s.instrLane l (fun x =>
    x.shfOut w d (rotL (opWidth w) (x.opv w a) (x.opv w b % opWidth w))))

/-- ROR: rotate right. -/
def execRor (l : LaneId) (w : Bool) (d a b : GReg) (s : State) : Out :=
  .next (s.instrLane l (fun x =>
    x.shfOut w d (rotR (opWidth w) (x.opv w a) (x.opv w b % opWidth w))))

/-- SHLI: logical left by n. -/
def execShli (l : LaneId) (w : Bool) (d a : GReg) (n : BitVec 6) (s : State) : Out :=
  .next (s.shiftImm l w n (fun x => x.shfOut w d (shfL (opWidth w) (x.opv w a) n.toNat)))

/-- SHRI: logical right by n. -/
def execShri (l : LaneId) (w : Bool) (d a : GReg) (n : BitVec 6) (s : State) : Out :=
  .next (s.shiftImm l w n (fun x => x.shfOut w d (shfR (x.opv w a) n.toNat)))

/-- SARI: arithmetic right by n. -/
def execSari (l : LaneId) (w : Bool) (d a : GReg) (n : BitVec 6) (s : State) : Out :=
  .next (s.shiftImm l w n (fun x => x.shfOut w d (shfA (opWidth w) (x.opv w a) n.toNat)))

/-- RORI: rotate right by n. -/
def execRori (l : LaneId) (w : Bool) (d a : GReg) (n : BitVec 6) (s : State) : Out :=
  .next (s.shiftImm l w n (fun x => x.shfOut w d (rotR (opWidth w) (x.opv w a) n.toNat)))

/-- CLZ: leading zeros; a zero operand gives the width. -/
def execClz (l : LaneId) (w : Bool) (d a : GReg) (s : State) : Out :=
  .next (s.instrLane l (fun x => x.znOut w d (clz (opWidth w) (x.opv w a))))

/-- CTZ: trailing zeros; a zero operand gives the width. -/
def execCtz (l : LaneId) (w : Bool) (d a : GReg) (s : State) : Out :=
  .next (s.instrLane l (fun x => x.znOut w d (ctz (opWidth w) (x.opv w a))))

/-- POPC: ones. -/
def execPopc (l : LaneId) (w : Bool) (d a : GReg) (s : State) : Out :=
  .next (s.instrLane l (fun x => x.znOut w d (popCount (opWidth w) (x.opv w a))))

/-- BSET: ga with bit (gb mod width) set; flags unchanged. -/
def execBset (l : LaneId) (w : Bool) (d a b : GReg) (s : State) : Out :=
  .next (s.instrLane l (fun x => x.wr w d (setBit (x.opv w a) (x.opv w b % opWidth w) true)))

/-- BCLR: ga with bit (gb mod width) cleared; flags unchanged. -/
def execBclr (l : LaneId) (w : Bool) (d a b : GReg) (s : State) : Out :=
  .next (s.instrLane l (fun x => x.wr w d (setBit (x.opv w a) (x.opv w b % opWidth w) false)))

/-- BTST: bit (gb mod width) of ga; Z = 1 when it is 0. -/
def execBtst (l : LaneId) (w : Bool) (d a b : GReg) (s : State) : Out :=
  .next (s.instrLane l (fun x =>
    x.znOut w d (bitNat (bitOf (x.opv w a) (x.opv w b % opWidth w)))))

/-- BEXT: the field of ga that gb names, zero-extended; flags unchanged. -/
def execBext (l : LaneId) (w : Bool) (d a b : GReg) (s : State) : Out :=
  .next (s.instrLane l (fun x =>
    x.wr w d (bitsOf (x.opv w a) (fieldPos (x.gpr b)) (fieldLen (opWidth w) (x.gpr b)))))

/-- BINS: the field of gd that gb names takes the low bits of ga; flags unchanged. -/
def execBins (l : LaneId) (w : Bool) (d a b : GReg) (s : State) : Out :=
  .next (s.instrLane l (fun x =>
    let n := fieldLen (opWidth w) (x.gpr b)
    if n = 0 then x
    else x.wr w d (setBits (x.opv w d) (fieldPos (x.gpr b)) n (x.opv w a))))

/-- ANDI, with zero-extended IMM. -/
def execAndi (l : LaneId) (d a : GReg) (imm : BitVec 16) (s : State) : Out :=
  .next (s.instrLane l (fun x => x.znOut false d (Nat.land (x.opv false a) imm.toNat)))

/-- ORI, with zero-extended IMM. -/
def execOri (l : LaneId) (d a : GReg) (imm : BitVec 16) (s : State) : Out :=
  .next (s.instrLane l (fun x => x.znOut false d (Nat.lor (x.opv false a) imm.toNat)))

/-- XORI, with zero-extended IMM. -/
def execXori (l : LaneId) (d a : GReg) (imm : BitVec 16) (s : State) : Out :=
  .next (s.instrLane l (fun x => x.znOut false d (Nat.xor (x.opv false a) imm.toNat)))

/-- LUI: IMM * 65,536, sign-extended from bit 31; flags unchanged. -/
def execLui (l : LaneId) (d : GReg) (imm : BitVec 16) (s : State) : Out :=
  .next (s.instrLane l (fun x => x.wr true d (imm.toNat * 65536)))

end Sys2Proof.Machine
end

