-- ==== Sys2Proof/Machine/PairCmds.lean ====
section
/-! DEFINITION. Sys2Proof/Machine/PairCmds.lean: the commands of the pair link (R437 to R440). -/

namespace Sys2Proof.Machine

/-- HEARTBEAT_TICK: a record is built, sent on the pair link and, with ETH_EN, handed to the publish
session; none in the device safe state (R437, R439, Table 18-8). -/
def execHeartbeatTick (s : State) : Out :=
  .next (if !s.pairUp || s.rst.safe.isSome then s
    else
      let b := s.hbRecord
      let s1 := s.pairUpd (fun p => { p with seq := (p.seq + 1) % 2 ^ 32, tx := b })
      if !s1.flag PAIR_CFG_ETH_EN then s1
      else
        let i := s1.fget PAIR_SESS_PUB
        (s1.burstPut (s1.boot.act.pdS i).buf b).pdHand i true)

/-- HEARTBEAT_RECORD_RECEIVED: checks, the record in use, mastership (R433, R438 to R440). -/
def execHeartbeatRecordReceived (eth : Bool) (r : HbRecord) (s : State) : Out :=
  .next (s.pairReceive eth r.bytes)

/-- PARTNER_LINK_TIMEOUT: the partner is not heard on the link (R440). -/
def execPartnerLinkTimeout (s : State) : Out :=
  .next (s.pairJudgeWith false)

end Sys2Proof.Machine
end

