-- ==== Sys2Proof/Machine/Station.lean ====
section
/-! DEFINITION. Sys2Proof/Machine/Station.lean: a ZT9 in outstation mode as a station of the Fold link
(R413, R417, R418, R420, R425, R430 to R432). -/

namespace Sys2Proof.Machine

/-! ### Frames -/

/-- Does this ZT9 act as a station (R432)? -/
def State.stationUp (s : State) : Bool := s.fget SYS_PINSTAT_MODE = 1 && !s.unitDown 0x2D

/-- WDOG in ns, 1 to 100 ms. -/
def stationWdogNs : Nat := (Config.stationWdog % 100 + 1) * 1000000

/-- A frame of a KIND, with a body of a length that `len` accepts, reaches FLK_IN with a correct CRC;
`own`: only one addressed to this station. A bad CRC sets CRC_ERR. -/
def State.stnIn (s : State) (f : FoldFrame) (kind : Nat) (len : Nat → Bool) (own : Bool)
    (k : State → State) : State :=
  if !s.stationUp then s
  else if !foCrcOk f then s.raise FLK_EVT_CRC_ERR
  else if foKind f ≠ kind || !len (foBody f).length then s
  else if own && s.station.num ≠ some (foSt f) then s
  else k (s.stnHear f)

/-- Has a CTRL been heard within WDOG? -/
def State.stnHeard (s : State) (n : Nat) : Bool :=
  match s.station.heardNs.toList.getD n none with
  | some t => s.now.hubNs - t < stationWdogNs
  | none => false

/-- The master: the higher CLAIM among those heard within WDOG, CTRL 0 when they are equal (R430). -/
def State.stnMaster (s : State) : Nat :=
  let c (n : Nat) : Nat := s.station.claim.toList.getD n 0
  if s.stnHeard 1 && (!s.stnHeard 0 || c 0 < c 1) then 1 else 0

/-- Is a frame from the master? -/
def State.fromMaster (s : State) (f : FoldFrame) : Bool := foCtrl f = s.stnMaster

/-- The station answers a frame: its CTRL and CLAIM are the request's. -/
def State.stnSend (s : State) (f : FoldFrame) (kind ts : Nat) (body : List Byte) : State :=
  s.foldOut (foldBytes kind (foCtrl f) (s.station.num.getD 0) (foClaim f) ts 0 body)

/-- A frame goes on with another body: HOP incremented, CRC recomputed; one that arrives with HOP 18 or
more is discarded (R413). -/
def State.stnPass (s : State) (f : FoldFrame) (body : List Byte) : State :=
  if 18 ≤ foHop f then s
  else
    let b := f.bytes.take 6 ++ leBytes 1 (foHop f + 1) ++ (f.bytes.drop 7).take 1 ++ body
    s.foldOut (b ++ leBytes 4 (crc32c b))

/-! ### The window (R432) -/

/-- The register at a window offset: FLD_ registers at 0, the SAF_ field registers at 0x01_0000. -/
def stnReg (o : Nat) : Option Nat :=
  if o < 0x10000 then some (0x40040000 + o)
  else if o = 0x10014 ∨ (0x10100 ≤ o ∧ o < 0x10200) then some (0x400E0000 + (o - 0x10000))
  else none

/-- The words of the input block: the field status words of Table 11-6. -/
def State.stnInputs (s : State) : List Nat := statusRegs.map (fun a => (s.regWord a).toNat)

/-- A word of the window outside the registers: the input block and the output block. -/
def State.stnWord (s : State) (o : Nat) : Nat :=
  if 0x20000 ≤ o ∧ o < 0x2002C then s.stnInputs.getD ((o - 0x20000) / 4) 0
  else if o = 0x20100 then s.station.out.1
  else if o = 0x20104 then s.station.out.2
  else 0

/-- A read of the window: response code and the 8-byte word. Registers as R8 says; an offset that holds
nothing reads zero (R9). No read of the window has an effect. -/
def State.stnRead (s : State) (o mask : Nat) : Nat × Nat :=
  if 0x30000 ≤ o then (Resp.decerr.code, 0)
  else if o < 0x20000 then
    let a := o + (if mask = 0xF0 then 4 else 0)
    if mask ≠ 0x0F && mask ≠ 0xF0 then (Resp.target.code, 0)
    else
      let w := match stnReg a with
        | some r => (s.regView r).toNat
        | none => 0
      (0, if mask = 0xF0 then w * 2 ^ 32 else w)
  else (0, s.stnWord o + 2 ^ 32 * s.stnWord (o + 4))

/-- A write of the window: the state and the response code. The input block ignores writes. -/
def State.stnWrite (s : State) (o mask data : Nat) : State × Nat :=
  if 0x30000 ≤ o then (s, Resp.decerr.code)
  else if o < 0x20000 then
    let a := o + (if mask = 0xF0 then 4 else 0)
    let v := if mask = 0xF0 then bitsOf data 32 32 else bitsOf data 0 32
    if mask ≠ 0x0F && mask ≠ 0xF0 then (s, Resp.target.code)
    else match stnReg a with
      | some r =>
        let t := s.plainWrite r v
        (t, t.resp.code)
      | none => (s, 0)
  else if o = 0x20100 then
    let x (lo : Nat) (old : Nat) : Nat :=
      (List.range 4).foldl (fun w b => if bitOf mask (lo + b) then
        setBits w (8 * b) 8 (bitsOf data (8 * (lo + b)) 8) else w) old
    (s.stnUpd (fun t => { t with out := (x 0 t.out.1, x 4 t.out.2) }), 0)
  else (s, 0)

/-- STATION_RD: the answer to an RD; the answer to the controller that is not the master, too, since no
read of the window has an effect (R430). -/
def execStationRd (f : FoldFrame) (s : State) : Out :=
  .next (s.stnIn f 1 (· = 4) true (fun s =>
    let r := s.stnRead (leAt (foBody f) 0 3) (leAt (foBody f) 3 1)
    s.stnSend f 3 (foTs f) (leBytes 1 r.1 ++ [0] ++ leBytes 8 r.2)))

/-- Perform a WR and acknowledge it. -/
def State.stnPerform (s : State) (f : FoldFrame) : State :=
  let b := foBody f
  let r := s.stnWrite (leAt b 0 3) (leAt b 3 1) (leAt b 4 8)
  let s1 := r.1.stnUpd (fun x => { x with
    nextSeq := vecUpd x.nextSeq (foCtrl f) (fun _ => (foTs f + 1) % 65536) })
  if r.2 = 0 then s1.stnSend f 4 (foTs f) []
  else s1.stnSend f 5 (foTs f) (leBytes 1 r.2 ++ [0, 0, 0])

/-- STATION_WR: in SEQ order; a SEQ ahead of the expected one ends the expected one with TIMEOUT; SEQ 0
is always the next expected (R431). -/
def execStationWr (f : FoldFrame) (s : State) : Out :=
  .next (s.stnIn f 2 (· = 12) true (fun s =>
    let want := s.station.nextSeq.toList.getD (foCtrl f) 0
    let d := (foTs f + 65536 - want) % 65536
    if !s.fromMaster f then s
    else if d = 0 || foTs f = 0 then s.stnPerform f
    else if d < 2 ^ 15 then
      (s.stnSend f 5 want (leBytes 1 Resp.timeout.code ++ [0, 0, 0])).stnPerform f
    else s))

/-- STATION_IMGRD: the input block with its qualities (R425). -/
def execStationImgrd (f : FoldFrame) (s : State) : Out :=
  .next (s.stnIn f 6 (· = 0) true (fun s =>
    let q := if s.fieldGood then 2 ^ statusRegs.length - 1 else 0
    s.stnSend f 7 0 (leBytes 8 q ++ s.stnInputs.flatMap (fun w => leBytes 4 w))))

/-- The output image of an IMGOUT: a word of bad quality is its safe value (R425). -/
def stnImage (old : OutImg) (oseq qual w0 w1 : Nat) : OutImg :=
  { seq := (old.seq + 1) % 256, val := BitVec.ofNat 16 w0
    qg := if bitOf qual 0 then 0xFFFF else 0
    bl := BitVec.ofNat 2 (w1 % 2 + 2 * bitNat (bitOf qual 1)), cyc := BitVec.ofNat 32 oseq }

/-- STATION_IMGOUT: from the master, to a loaded station, unless it is an old duplicate; it becomes a
COMMIT frame (R430 to R432). -/
def execStationImgout (f : FoldFrame) (s : State) : Out :=
  .next (s.stnIn f 8 (· = 16) true (fun s =>
    let b := foBody f
    let c := foCtrl f
    let old := match s.station.oseq.toList.getD c none with
      | some o => decide (2 ^ 15 ≤ (foTs f + 65536 - o) % 65536)
      | none => false
    if !s.fromMaster f || !s.station.loaded || old then s
    else
      let w0 := leAt b 8 4 % 65536
      let w1 := leAt b 12 4 % 2
      let s1 := s.stnUpd (fun x => { x with
        oseq := vecUpd x.oseq c (fun _ => some (foTs f)), expired := false, out := (w0, w1) })
      let img := stnImage s1.link.img (foTs f) (leAt b 0 8) w0 w1
      { s1 with link := { s1.link with img := img } }.linkSend (.commit (outFrame 3 img))))

/-- The two bits of a SUP: 1 not loaded, 2 loaded, 3 loaded with the watchdog expired (R420). -/
def Station.report (x : Station) : Nat := if !x.loaded then 1 else if x.expired then 3 else 2

/-- STATION_SUP: a numbered station ORs its state into a SUP, any other one increments UNADDR; the
frame goes on (R420). -/
def execStationSup (f : FoldFrame) (s : State) : Out :=
  .next (s.stnIn f 10 (· = 8) false (fun s =>
    let b := foBody f
    let st := leAt b 0 4
    let un := leAt b 4 1
    s.stnPass f (match s.station.num with
      | some n => leBytes 4 (Nat.lor st (s.station.report * 2 ^ (2 * n))) ++ b.drop 4
      | none => leBytes 4 st ++ leBytes 1 (min 255 (un + 1)) ++ b.drop 5)))

/-- IDENT of a ZT9 in outstation mode (R432). -/
def stationIdent : Nat := 0x0D090002

/-- STATION_ENUMQ: a station without a number writes its UID and IDENT where the UID is zero; the frame
goes on (R417). -/
def execStationEnumq (f : FoldFrame) (s : State) : Out :=
  .next (s.stnIn f 11 (· = 12) false (fun s =>
    let b := foBody f
    s.stnPass f (if s.station.num.isNone && leAt b 0 8 = 0 then
      leBytes 8 Config.stationUid.toNat ++ leBytes 4 stationIdent else b)))

/-- STATION_ENUMSET: the station named by its UID takes its number and keeps it (R417). -/
def execStationEnumset (f : FoldFrame) (s : State) : Out :=
  .next (s.stnIn f 12 (· = 12) false (fun s =>
    let b := foBody f
    if s.station.num.isNone && leAt b 0 8 = Config.stationUid.toNat then
      s.stnUpd (fun x => { x with num := some (leAt b 8 1 % 16) })
    else s))

/-- The load is dropped: outputs to the safe state, SAFE_OUT_N low (R431, R432). -/
def State.stnDrop (s : State) : State :=
  let s1 := s.stnUpd (fun x => { x with image := [], loaded := false, expired := false })
  { s1 with pins := { s1.pins with safeOut := false } }.linkSend .safe

/-- STATION_LDATA: image bytes from the master; the first after a load drops the load (R431). -/
def execStationLdata (f : FoldFrame) (s : State) : Out :=
  .next (s.stnIn f 13 (fun n => 5 ≤ n && n ≤ 132) true (fun s =>
    let b := foBody f
    if !s.fromMaster f then s
    else
      let s1 := s.when s.station.loaded State.stnDrop
      s1.stnUpd (fun x => { x with image := mapPut memDflt x.image (leAt b 0 3) (b.drop 4) })))

/-- The field configuration list of an image, after its microcode (R311, R432): address and value. -/
def stnList (img : List Byte) : List (Nat × Nat) :=
  let l := img.drop Config.stationMicro
  (records 8 (l.length / 8) l).map (fun b => (leAt b 0 4, leAt b 4 4))

/-- The registers after the list; `none` where an entry would end in an error (R157). -/
def stnBank (m : RegMap) (l : List (Nat × Nat)) : Option RegMap :=
  l.foldl (fun acc e => match acc with
    | some b =>
      if 0x40040000 ≤ e.1 && e.1 < 0x40050000 && e.1 % 4 = 0 && valueOk b e.1 e.2 then
        some (b.bankWrite e.1 (BitVec.ofNat 32 e.2))
      else none
    | none => none) (some m)

/-- STATION_LSTART: LACK with CODE 0 where the image's CRC matches and its list can be written; the
station is loaded and its field die reloaded (R418, R432). -/
def execStationLstart (f : FoldFrame) (s : State) : Out :=
  .next (s.stnIn f 14 (· = 8) true (fun s =>
    let b := foBody f
    let img := mapBytes memDflt s.station.image 0 (leAt b 0 4)
    let crc := crc32c img
    let ack (x : State) (code : Nat) : State :=
      x.stnSend f 15 0 (leBytes 1 code ++ [0, 0, 0] ++ leBytes 4 crc)
    if !s.fromMaster f then s
    else if crc ≠ leAt b 4 4 then ack s Resp.target.code
    else match stnBank s.regs (stnList img) with
      | none => ack s Resp.target.code
      | some m =>
        let s1 := ({ s with regs := m }).stnUpd (fun x => { x with
          loaded := true, expired := false, oseq := Vector.replicate 2 none })
        let on := s1.rst.safe.isNone && !s1.rst.active
        ack ({ s1 with pins := { s1.pins with safeOut := on } }.fieldReload) 0))

/-- STATION_WATCHDOG_EXPIRY: no IMGOUT has been applied for WDOG: SAFE goes to the field die (R431,
R432). -/
def execStationWatchdogExpiry (s : State) : Out :=
  .next (if s.stationUp && s.station.loaded then
    (s.stnUpd (fun x => { x with expired := true })).linkSend .safe
  else s)

end Sys2Proof.Machine
end

