-- ==== Sys2Proof/Machine/Dispatch.lean ====
section
/-! DEFINITION. Sys2Proof/Machine/Dispatch.lean: the meaning of every command, one arm per row of
spec/opcode_table.json. -/

namespace Sys2Proof.Machine

/-- The effect of a command on everything but the queue. -/
def exec (i : Instr) (s : State) : Host.Outcome State Fault Refusal :=
  match i with
  | .registerWrite ini addr size v => Sys2Proof.Machine.execRegisterWrite ini addr size v s
  | .wearFlashRetryTick => Sys2Proof.Machine.execWearFlashRetryTick s
  | .plannedDrainExpiry k => Sys2Proof.Machine.execPlannedDrainExpiry k s
  | .supplyMonitorTrip r => Sys2Proof.Machine.execSupplyMonitorTrip r s
  | .supplyMonitorRelease r st => Sys2Proof.Machine.execSupplyMonitorRelease r st s
  | .overvoltageEvent r mv => Sys2Proof.Machine.execOvervoltageEvent r mv s
  | .coreWarn => Sys2Proof.Machine.execCoreWarn s
  | .vbkLow => Sys2Proof.Machine.execVbkLow s
  | .bkupChangeover => Sys2Proof.Machine.execBkupChangeover s
  | .powerGood st => Sys2Proof.Machine.execPowerGood st s
  | .paddockPowerGood => Sys2Proof.Machine.execPaddockPowerGood s
  | .paddockPowerTimeout => Sys2Proof.Machine.execPaddockPowerTimeout s
  | .fieldDiePowerOn => Sys2Proof.Machine.execFieldDiePowerOn s
  | .rtcTick => Sys2Proof.Machine.execRtcTick s
  | .pwrReqSwitchOff p => Sys2Proof.Machine.execPwrReqSwitchOff p s
  | .pwrReqCancel p => Sys2Proof.Machine.execPwrReqCancel p s
  | .pwrReqSwitchOn p => Sys2Proof.Machine.execPwrReqSwitchOn p s
  | .paddockReloadDone p => Sys2Proof.Machine.execPaddockReloadDone p s
  | .resetNLowFiltered => Sys2Proof.Machine.execResetNLowFiltered s
  | .resetNLowWidened => Sys2Proof.Machine.execResetNLowWidened s
  | .resetNRelease st => Sys2Proof.Machine.execResetNRelease st s
  | .resetStretchExpiry src st => Sys2Proof.Machine.execResetStretchExpiry src st s
  | .debugResetCommand trstHigh reach target => Sys2Proof.Machine.execDebugResetCommand trstHigh reach target s
  | .trimCopyDone crcOk => Sys2Proof.Machine.execTrimCopyDone crcOk s
  | .swrstDeviceWarm key => Sys2Proof.Machine.execSwrstDeviceWarm key s
  | .swrstPaddock key target => Sys2Proof.Machine.execSwrstPaddock key target s
  | .swrstUnit key target => Sys2Proof.Machine.execSwrstUnit key target s
  | .localReset target src => Sys2Proof.Machine.execLocalReset target src s
  | .localResetHoldExpiry target => Sys2Proof.Machine.execLocalResetHoldExpiry target s
  | .localResetReloadDone target => Sys2Proof.Machine.execLocalResetReloadDone target s
  | .hrcSettleExpiry o => Sys2Proof.Machine.execHrcSettleExpiry o s
  | .qualWindowEnd o count => Sys2Proof.Machine.execQualWindowEnd o count s
  | .pllLock => Sys2Proof.Machine.execPllLock s
  | .hrc1QualTimeout => Sys2Proof.Machine.execHrc1QualTimeout s
  | .xtalQualTimeout => Sys2Proof.Machine.execXtalQualTimeout s
  | .monitorWindowEnd xh hh xh1 => Sys2Proof.Machine.execMonitorWindowEnd xh hh xh1 s
  | .missingEdgeTrip => Sys2Proof.Machine.execMissingEdgeTrip s
  | .hrc1RestartExpiry => Sys2Proof.Machine.execHrc1RestartExpiry s
  | .clockHoldTimeout => Sys2Proof.Machine.execClockHoldTimeout s
  | .pllLockLoss p => Sys2Proof.Machine.execPllLockLoss p s
  | .serrefLoss => Sys2Proof.Machine.execSerrefLoss s
  | .fieldOscMismatch ppm => Sys2Proof.Machine.execFieldOscMismatch ppm s
  | .disciplineStep o err => Sys2Proof.Machine.execDisciplineStep o err s
  | .clkGateOpen code => Sys2Proof.Machine.execClkGateOpen code s
  | .clkGateClose code => Sys2Proof.Machine.execClkGateClose code s
  | .busQuietHandshake => Sys2Proof.Machine.execBusQuietHandshake s
  | .gateCloseTimeout => Sys2Proof.Machine.execGateCloseTimeout s
  | .gateOpenEffect => Sys2Proof.Machine.execGateOpenEffect s
  | .clkOutcfgWrite v => Sys2Proof.Machine.execClkOutcfgWrite v s
  | .ppsOutPulse => Sys2Proof.Machine.execPpsOutPulse s
  | .ppsOutPulseEnd => Sys2Proof.Machine.execPpsOutPulseEnd s
  | .hubRequest c => Sys2Proof.Machine.execHubRequest c s
  | .targetResponseTimeout c => Sys2Proof.Machine.execTargetResponseTimeout c s
  | .postedWriteCreditReturn ini target => Sys2Proof.Machine.execPostedWriteCreditReturn ini target s
  | .scrubStep bank flips => Sys2Proof.Machine.execScrubStep bank flips s
  | .trackerEntryExpiry bank row => Sys2Proof.Machine.execTrackerEntryExpiry bank row s
  | .columnRepairRowCopy bank => Sys2Proof.Machine.execColumnRepairRowCopy bank s
  | .xspiWindowRead ini addr size => Sys2Proof.Machine.execXspiWindowRead ini addr size s
  | .xspiReadTimeout => Sys2Proof.Machine.execXspiReadTimeout s
  | .startupFlashReadTimeout again => Sys2Proof.Machine.execStartupFlashReadTimeout again s
  | .slotSelection progOk => Sys2Proof.Machine.execSlotSelection progOk s
  | .memoryInitSelftest coreOk shep1Ok shep2Ok => Sys2Proof.Machine.execMemoryInitSelftest coreOk shep1Ok shep2Ok s
  | .sectionLoad unitsAgree progOk coreFail => Sys2Proof.Machine.execSectionLoad unitsAgree progOk coreFail s
  | .engineReload fwdEth fwdFlk failed => Sys2Proof.Machine.execEngineReload fwdEth fwdFlk failed s
  | .fieldReloadAck crcOk => Sys2Proof.Machine.execFieldReloadAck crcOk s
  | .startupChecks miss1 miss2 => Sys2Proof.Machine.execStartupChecks miss1 miss2 s
  | .shadowLoadStart key slot => Sys2Proof.Machine.execShadowLoadStart key slot s
  | .shadowLoadAbort key => Sys2Proof.Machine.execShadowLoadAbort key s
  | .shadowLoadDone unitsAgree coreFail => Sys2Proof.Machine.execShadowLoadDone unitsAgree coreFail s
  | .cfgSwapArm key progOk => Sys2Proof.Machine.execCfgSwapArm key progOk s
  | .cfgSwapConfirm key progOk => Sys2Proof.Machine.execCfgSwapConfirm key progOk s
  | .bootLockSet => Sys2Proof.Machine.execBootLockSet s
  | .shepherdTransaction l flips => Sys2Proof.Machine.execShepherdTransaction l flips s
  | .votingWindowClose seq => Sys2Proof.Machine.execVotingWindowClose seq s
  | .verdictExchange seq same => Sys2Proof.Machine.execVerdictExchange seq same s
  | .verdictExchangeTimeout seq second => Sys2Proof.Machine.execVerdictExchangeTimeout seq second s
  | .replicatedReadResponse l flips => Sys2Proof.Machine.execReplicatedReadResponse l flips s
  | .reintegrationSelftestDone l pass => Sys2Proof.Machine.execReintegrationSelftestDone l pass s
  | .substitutionSelftestDone l pass => Sys2Proof.Machine.execSubstitutionSelftestDone l pass s
  | .reserveSelftestFail => Sys2Proof.Machine.execReserveSelftestFail s
  | .runtimeInjectionFlagged shep1 shep2 => Sys2Proof.Machine.execRuntimeInjectionFlagged shep1 shep2 s
  | .add l w d a b => Sys2Proof.Machine.execAdd l w d a b s
  | .sub l w d a b => Sys2Proof.Machine.execSub l w d a b s
  | .mul l w d a b => Sys2Proof.Machine.execMul l w d a b s
  | .mulh l w d a b => Sys2Proof.Machine.execMulh l w d a b s
  | .mulhu l w d a b => Sys2Proof.Machine.execMulhu l w d a b s
  | .div l w d a b => Sys2Proof.Machine.execDiv l w d a b s
  | .divu l w d a b => Sys2Proof.Machine.execDivu l w d a b s
  | .rem l w d a b => Sys2Proof.Machine.execRem l w d a b s
  | .remu l w d a b => Sys2Proof.Machine.execRemu l w d a b s
  | .adds l w d a b => Sys2Proof.Machine.execAdds l w d a b s
  | .subs l w d a b => Sys2Proof.Machine.execSubs l w d a b s
  | .muls l w d a b => Sys2Proof.Machine.execMuls l w d a b s
  | .addsu l w d a b => Sys2Proof.Machine.execAddsu l w d a b s
  | .subsu l w d a b => Sys2Proof.Machine.execSubsu l w d a b s
  | .neg l w d a => Sys2Proof.Machine.execNeg l w d a s
  | .negs l w d a => Sys2Proof.Machine.execNegs l w d a s
  | .abs l w d a => Sys2Proof.Machine.execAbs l w d a s
  | .abss l w d a => Sys2Proof.Machine.execAbss l w d a s
  | .min l w d a b => Sys2Proof.Machine.execMin l w d a b s
  | .max l w d a b => Sys2Proof.Machine.execMax l w d a b s
  | .minu l w d a b => Sys2Proof.Machine.execMinu l w d a b s
  | .maxu l w d a b => Sys2Proof.Machine.execMaxu l w d a b s
  | .limit l w d a b => Sys2Proof.Machine.execLimit l w d a b s
  | .addi l w d a imm => Sys2Proof.Machine.execAddi l w d a imm s
  | .and l w d a b => Sys2Proof.Machine.execAnd l w d a b s
  | .or l w d a b => Sys2Proof.Machine.execOr l w d a b s
  | .xor l w d a b => Sys2Proof.Machine.execXor l w d a b s
  | .andn l w d a b => Sys2Proof.Machine.execAndn l w d a b s
  | .orn l w d a b => Sys2Proof.Machine.execOrn l w d a b s
  | .xnor l w d a b => Sys2Proof.Machine.execXnor l w d a b s
  | .not l w d a => Sys2Proof.Machine.execNot l w d a s
  | .shl l w d a b => Sys2Proof.Machine.execShl l w d a b s
  | .shr l w d a b => Sys2Proof.Machine.execShr l w d a b s
  | .sar l w d a b => Sys2Proof.Machine.execSar l w d a b s
  | .rol l w d a b => Sys2Proof.Machine.execRol l w d a b s
  | .ror l w d a b => Sys2Proof.Machine.execRor l w d a b s
  | .shli l w d a n => Sys2Proof.Machine.execShli l w d a n s
  | .shri l w d a n => Sys2Proof.Machine.execShri l w d a n s
  | .sari l w d a n => Sys2Proof.Machine.execSari l w d a n s
  | .rori l w d a n => Sys2Proof.Machine.execRori l w d a n s
  | .clz l w d a => Sys2Proof.Machine.execClz l w d a s
  | .ctz l w d a => Sys2Proof.Machine.execCtz l w d a s
  | .popc l w d a => Sys2Proof.Machine.execPopc l w d a s
  | .bset l w d a b => Sys2Proof.Machine.execBset l w d a b s
  | .bclr l w d a b => Sys2Proof.Machine.execBclr l w d a b s
  | .btst l w d a b => Sys2Proof.Machine.execBtst l w d a b s
  | .bext l w d a b => Sys2Proof.Machine.execBext l w d a b s
  | .bins l w d a b => Sys2Proof.Machine.execBins l w d a b s
  | .andi l d a imm => Sys2Proof.Machine.execAndi l d a imm s
  | .ori l d a imm => Sys2Proof.Machine.execOri l d a imm s
  | .xori l d a imm => Sys2Proof.Machine.execXori l d a imm s
  | .lui l d imm => Sys2Proof.Machine.execLui l d imm s
  | .cmp l w a b => Sys2Proof.Machine.execCmp l w a b s
  | .tst l w a b => Sys2Proof.Machine.execTst l w a b s
  | .set l d cond => Sys2Proof.Machine.execSet l d cond s
  | .sel l d a b cond => Sys2Proof.Machine.execSel l d a b cond s
  | .cmpi l a imm => Sys2Proof.Machine.execCmpi l a imm s
  | .cmpiu l a imm => Sys2Proof.Machine.execCmpiu l a imm s
  | .br l cond disp => Sys2Proof.Machine.execBr l cond disp s
  | .call l disp => Sys2Proof.Machine.execCall l disp s
  | .callFb l d disp => Sys2Proof.Machine.execCallFb l d disp s
  | .jmpr l a => Sys2Proof.Machine.execJmpr l a s
  | .callr l a => Sys2Proof.Machine.execCallr l a s
  | .ret l => Sys2Proof.Machine.execRet l s
  | .retFb l => Sys2Proof.Machine.execRetFb l s
  | .retTrap l => Sys2Proof.Machine.execRetTrap l s
  | .callrFb l d a => Sys2Proof.Machine.execCallrFb l d a s
  | .chk l a b => Sys2Proof.Machine.execChk l a b s
  | .fadd l p d a b => Sys2Proof.Machine.execFadd l p d a b s
  | .fsub l p d a b => Sys2Proof.Machine.execFsub l p d a b s
  | .fmul l p d a b => Sys2Proof.Machine.execFmul l p d a b s
  | .fdiv l p d a b => Sys2Proof.Machine.execFdiv l p d a b s
  | .fsqrt l p d a => Sys2Proof.Machine.execFsqrt l p d a s
  | .fma l p d a b => Sys2Proof.Machine.execFma l p d a b s
  | .fmin l p d a b => Sys2Proof.Machine.execFmin l p d a b s
  | .fmax l p d a b => Sys2Proof.Machine.execFmax l p d a b s
  | .fabs l p d a => Sys2Proof.Machine.execFabs l p d a s
  | .fneg l p d a => Sys2Proof.Machine.execFneg l p d a s
  | .fcmp l p a b => Sys2Proof.Machine.execFcmp l p a b s
  | .fclass l p d a => Sys2Proof.Machine.execFclass l p d a s
  | .sext l sz d a => Sys2Proof.Machine.execSext l sz d a s
  | .zext l sz d a => Sys2Proof.Machine.execZext l sz d a s
  | .cvtIf l p d a => Sys2Proof.Machine.execCvtIf l p d a s
  | .cvtUf l p d a => Sys2Proof.Machine.execCvtUf l p d a s
  | .cvtFi l p d a => Sys2Proof.Machine.execCvtFi l p d a s
  | .cvtFu l p d a => Sys2Proof.Machine.execCvtFu l p d a s
  | .truncFi l p d a => Sys2Proof.Machine.execTruncFi l p d a s
  | .truncFu l p d a => Sys2Proof.Machine.execTruncFu l p d a s
  | .cvtSd l d a => Sys2Proof.Machine.execCvtSd l d a s
  | .cvtDs l d a => Sys2Proof.Machine.execCvtDs l d a s
  | .nrw l sz d a => Sys2Proof.Machine.execNrw l sz d a s
  | .nrwu l sz d a => Sys2Proof.Machine.execNrwu l sz d a s
  | .bcd2i l d a => Sys2Proof.Machine.execBcd2i l d a s
  | .i2bcd l d a => Sys2Proof.Machine.execI2bcd l d a s
  | .ldi l sz d off => Sys2Proof.Machine.execLdi l sz d off s
  | .ldiu l sz d off => Sys2Proof.Machine.execLdiu l sz d off s
  | .sti l sz d off => Sys2Proof.Machine.execSti l sz d off s
  | .ldc l sz d off => Sys2Proof.Machine.execLdc l sz d off s
  | .ldcu l sz d off => Sys2Proof.Machine.execLdcu l sz d off s
  | .ld l sz d a imm => Sys2Proof.Machine.execLd l sz d a imm s
  | .ldu l sz d a imm => Sys2Proof.Machine.execLdu l sz d a imm s
  | .st l sz d a imm => Sys2Proof.Machine.execSt l sz d a imm s
  | .ton l d p slot => Sys2Proof.Machine.execTon l d p slot s
  | .tof l d p slot => Sys2Proof.Machine.execTof l d p slot s
  | .tp l d p slot => Sys2Proof.Machine.execTp l d p slot s
  | .tet l d p slot => Sys2Proof.Machine.execTet l d p slot s
  | .trst l d slot => Sys2Proof.Machine.execTrst l d slot s
  | .rTrig l d bit => Sys2Proof.Machine.execRTrig l d bit s
  | .fTrig l d bit => Sys2Proof.Machine.execFTrig l d bit s
  | .inItem l d item => Sys2Proof.Machine.execInItem l d item s
  | .inItemS l d item => Sys2Proof.Machine.execInItemS l d item s
  | .outItem l d item => Sys2Proof.Machine.execOutItem l d item s
  | .qget l d => Sys2Proof.Machine.execQget l d s
  | .qput l d => Sys2Proof.Machine.execQput l d s
  | .qand l d => Sys2Proof.Machine.execQand l d s
  | .send l a d q => Sys2Proof.Machine.execSend l a d q s
  | .recv l d q => Sys2Proof.Machine.execRecv l d q s
  | .sysopMode l a => Sys2Proof.Machine.execSysopMode l a s
  | .sysopSafe l a => Sys2Proof.Machine.execSysopSafe l a s
  | .sysopEvent l a => Sys2Proof.Machine.execSysopEvent l a s
  | .endUnit l => Sys2Proof.Machine.execEndUnit l s
  | .endCommitWaitDone l => Sys2Proof.Machine.execEndCommitWaitDone l s
  | .mfs l d code => Sys2Proof.Machine.execMfs l d code s
  | .mts l a code => Sys2Proof.Machine.execMts l a code s
  | .getc l d sel => Sys2Proof.Machine.execGetc l d sel s
  | .nop l => Sys2Proof.Machine.execNop l s
  | .cycleBoundary progOk sweepMiss => Sys2Proof.Machine.execCycleBoundary progOk sweepMiss s
  | .soloLateHalt l => Sys2Proof.Machine.execSoloLateHalt l s
  | .sheepdogTrip => Sys2Proof.Machine.execSheepdogTrip s
  | .trialTimerExpiry => Sys2Proof.Machine.execTrialTimerExpiry s
  | .refreshSendTick => Sys2Proof.Machine.execRefreshSendTick s
  | .fieldResetFrame crcOk => Sys2Proof.Machine.execFieldResetFrame crcOk s
  | .fieldLoadFrame crcOk => Sys2Proof.Machine.execFieldLoadFrame crcOk s
  | .fieldCommitFrame crcOk => Sys2Proof.Machine.execFieldCommitFrame crcOk s
  | .fieldRefreshFrame crcOk => Sys2Proof.Machine.execFieldRefreshFrame crcOk s
  | .fieldSafeFrame crcOk => Sys2Proof.Machine.execFieldSafeFrame crcOk s
  | .fieldLinkTimeout => Sys2Proof.Machine.execFieldLinkTimeout s
  | .statusFrameTick m => Sys2Proof.Machine.execStatusFrameTick m s
  | .statusFrameReceived crcOk => Sys2Proof.Machine.execStatusFrameReceived crcOk s
  | .barrierLinkFailure => Sys2Proof.Machine.execBarrierLinkFailure s
  | .inputFilterSample raw => Sys2Proof.Machine.execInputFilterSample raw s
  | .frontEndTest r => Sys2Proof.Machine.execFrontEndTest r s
  | .outputShort n => Sys2Proof.Machine.execOutputShort n s
  | .outputOvertemp n => Sys2Proof.Machine.execOutputOvertemp n s
  | .outputOpenLoad n => Sys2Proof.Machine.execOutputOpenLoad n s
  | .outputRetryExpiry n cooled => Sys2Proof.Machine.execOutputRetryExpiry n cooled s
  | .segmentHandoverExpiry n => Sys2Proof.Machine.execSegmentHandoverExpiry n s
  | .outputTestPulse n => Sys2Proof.Machine.execOutputTestPulse n s
  | .outputTestPulseEnd n fell => Sys2Proof.Machine.execOutputTestPulseEnd n fell s
  | .brakeLoopDemandMet => Sys2Proof.Machine.execBrakeLoopDemandMet s
  | .blHsSenseHigh lsHigh => Sys2Proof.Machine.execBlHsSenseHigh lsHigh s
  | .blHsSenseTimeout => Sys2Proof.Machine.execBlHsSenseTimeout s
  | .blLsSenseHigh => Sys2Proof.Machine.execBlLsSenseHigh s
  | .blLsSenseLow => Sys2Proof.Machine.execBlLsSenseLow s
  | .blLsSenseTimeout => Sys2Proof.Machine.execBlLsSenseTimeout s
  | .brakeLoopTestPulse => Sys2Proof.Machine.execBrakeLoopTestPulse s
  | .brakeLoopTestEnd senseOk => Sys2Proof.Machine.execBrakeLoopTestEnd senseOk s
  | .sdClockWindow ch edges => Sys2Proof.Machine.execSdClockWindow ch edges s
  | .sdClockMissing ch => Sys2Proof.Machine.execSdClockMissing ch s
  | .sdBitstreamStuck ch => Sys2Proof.Machine.execSdBitstreamStuck ch s
  | .sinc3Output ch bits => Sys2Proof.Machine.execSinc3Output ch bits s
  | .engineSlot ch => Sys2Proof.Machine.execEngineSlot ch s
  | .sigCmdRestart mask => Sys2Proof.Machine.execSigCmdRestart mask s
  | .sigCmdSync => Sys2Proof.Machine.execSigCmdSync s
  | .syncDfEdge falling => Sys2Proof.Machine.execSyncDfEdge falling s
  | .scsConversionStart ch bit => Sys2Proof.Machine.execScsConversionStart ch bit s
  | .scsConversionDone ch bits => Sys2Proof.Machine.execScsConversionDone ch bits s
  | .switchFrameReceived port f => Sys2Proof.Machine.execSwitchFrameReceived port f s
  | .switchEgressTransmit port => Sys2Proof.Machine.execSwitchEgressTransmit port s
  | .macEntryAgeing mac vid => Sys2Proof.Machine.execMacEntryAgeing mac vid s
  | .mdioAccess v => Sys2Proof.Machine.execMdioAccess v s
  | .mdioAccessDone data => Sys2Proof.Machine.execMdioAccessDone data s
  | .prpSupervisionTick pair => Sys2Proof.Machine.execPrpSupervisionTick pair s
  | .prpEntryExpiry pair src seq => Sys2Proof.Machine.execPrpEntryExpiry pair src seq s
  | .arpRequestReceived target sender mac => Sys2Proof.Machine.execArpRequestReceived target sender mac s
  | .arpCacheRefresh ip => Sys2Proof.Machine.execArpCacheRefresh ip s
  | .icmpEchoRequest dst src => Sys2Proof.Machine.execIcmpEchoRequest dst src s
  | .igmpQueryReceived => Sys2Proof.Machine.execIgmpQueryReceived s
  | .ipReassemblyTimeout id => Sys2Proof.Machine.execIpReassemblyTimeout id s
  | .pdPublishInstant sess unitsAgree lateNs => Sys2Proof.Machine.execPdPublishInstant sess unitsAgree lateNs s
  | .pdFrameReceived lan f unitsAgree => Sys2Proof.Machine.execPdFrameReceived lan f unitsAgree s
  | .pdSessionTimeout sess => Sys2Proof.Machine.execPdSessionTimeout sess s
  | .dualWindowClose sess => Sys2Proof.Machine.execDualWindowClose sess s
  | .directoryCommit key ofs => Sys2Proof.Machine.execDirectoryCommit key ofs s
  | .directoryCopyDone => Sys2Proof.Machine.execDirectoryCopyDone s
  | .mdMessageReceived m => Sys2Proof.Machine.execMdMessageReceived m s
  | .mdReplyTimeout q => Sys2Proof.Machine.execMdReplyTimeout q s
  | .ptpSyncReceived m => Sys2Proof.Machine.execPtpSyncReceived m s
  | .ptpFollowUpReceived m => Sys2Proof.Machine.execPtpFollowUpReceived m s
  | .ptpDelayReqSend port => Sys2Proof.Machine.execPtpDelayReqSend port s
  | .ptpDelayRespReceived m => Sys2Proof.Machine.execPtpDelayRespReceived m s
  | .ptpPdelayReqReceived m turnNs => Sys2Proof.Machine.execPtpPdelayReqReceived m turnNs s
  | .ptpPdelayRespReceived m => Sys2Proof.Machine.execPtpPdelayRespReceived m s
  | .ptpPdelayRespFollowUp m => Sys2Proof.Machine.execPtpPdelayRespFollowUp m s
  | .ptpAnnounceReceived m => Sys2Proof.Machine.execPtpAnnounceReceived m s
  | .announceReceiptTimeout => Sys2Proof.Machine.execAnnounceReceiptTimeout s
  | .ppsInEdge refPpb => Sys2Proof.Machine.execPpsInEdge refPpb s
  | .ppsInMissing => Sys2Proof.Machine.execPpsInMissing s
  | .holdoverExpiry => Sys2Proof.Machine.execHoldoverExpiry s
  | .timAcceptJump key => Sys2Proof.Machine.execTimAcceptJump key s
  | .timSecsetApply key => Sys2Proof.Machine.execTimSecsetApply key s
  | .canBusIntegration n => Sys2Proof.Machine.execCanBusIntegration n s
  | .canFrameReceived n f => Sys2Proof.Machine.execCanFrameReceived n f s
  | .canStartOfFrame n => Sys2Proof.Machine.execCanStartOfFrame n s
  | .canTransmissionEnd n r delay => Sys2Proof.Machine.execCanTransmissionEnd n r delay s
  | .canError n e => Sys2Proof.Machine.execCanError n e s
  | .canRecover n key => Sys2Proof.Machine.execCanRecover n key s
  | .canRecoveryDone n => Sys2Proof.Machine.execCanRecoveryDone n s
  | .canTxCancel n mask => Sys2Proof.Machine.execCanTxCancel n mask s
  | .canFifoAck n ack => Sys2Proof.Machine.execCanFifoAck n ack s
  | .droveCycleStart ch => Sys2Proof.Machine.execDroveCycleStart ch s
  | .droveRefSend ch => Sys2Proof.Machine.execDroveRefSend ch s
  | .droveColdSend ch => Sys2Proof.Machine.execDroveColdSend ch s
  | .droveSlotBufferCopy ch slot => Sys2Proof.Machine.execDroveSlotBufferCopy ch slot s
  | .droveSlotTransmit ch slot => Sys2Proof.Machine.execDroveSlotTransmit ch slot s
  | .droveDataFrameReceived ch f => Sys2Proof.Machine.execDroveDataFrameReceived ch f s
  | .droveRefReceived ch f => Sys2Proof.Machine.execDroveRefReceived ch f s
  | .droveColdReceived ch f => Sys2Proof.Machine.execDroveColdReceived ch f s
  | .droveListenTimeout ch => Sys2Proof.Machine.execDroveListenTimeout ch s
  | .droveReadbackMismatch ch => Sys2Proof.Machine.execDroveReadbackMismatch ch s
  | .crookBlock ch => Sys2Proof.Machine.execCrookBlock ch s
  | .crookColdstartWindow ch => Sys2Proof.Machine.execCrookColdstartWindow ch s
  | .drvCmdPassive key mask => Sys2Proof.Machine.execDrvCmdPassive key mask s
  | .drvCmdResume key mask => Sys2Proof.Machine.execDrvCmdResume key mask s
  | .foldRingSyncLoss => Sys2Proof.Machine.execFoldRingSyncLoss s
  | .foldFrameForward f => Sys2Proof.Machine.execFoldFrameForward f s
  | .foldTagFreed st tag => Sys2Proof.Machine.execFoldTagFreed st tag s
  | .foldRspReceived f => Sys2Proof.Machine.execFoldRspReceived f s
  | .foldReadTimeout st tag => Sys2Proof.Machine.execFoldReadTimeout st tag s
  | .foldWackReceived f => Sys2Proof.Machine.execFoldWackReceived f s
  | .foldWerrReceived f => Sys2Proof.Machine.execFoldWerrReceived f s
  | .foldWriteAckTimeout st seq => Sys2Proof.Machine.execFoldWriteAckTimeout st seq s
  | .foldSupTick => Sys2Proof.Machine.execFoldSupTick s
  | .foldSupReturned f => Sys2Proof.Machine.execFoldSupReturned f s
  | .foldScanTick => Sys2Proof.Machine.execFoldScanTick s
  | .foldImginReceived f => Sys2Proof.Machine.execFoldImginReceived f s
  | .foldMsgReceived f => Sys2Proof.Machine.execFoldMsgReceived f s
  | .foldEnumeration => Sys2Proof.Machine.execFoldEnumeration s
  | .foldEnumqReturned f => Sys2Proof.Machine.execFoldEnumqReturned f s
  | .foldStationLoad st => Sys2Proof.Machine.execFoldStationLoad st s
  | .foldLackReceived f => Sys2Proof.Machine.execFoldLackReceived f s
  | .foldLackTimeout st => Sys2Proof.Machine.execFoldLackTimeout st s
  | .flkLdcmdAbort key st => Sys2Proof.Machine.execFlkLdcmdAbort key st s
  | .flkLdcmdReload key st => Sys2Proof.Machine.execFlkLdcmdReload key st s
  | .flkLelpop pop => Sys2Proof.Machine.execFlkLelpop pop s
  | .flkDegclr mask => Sys2Proof.Machine.execFlkDegclr mask s
  | .flkSemAcquire n ini => Sys2Proof.Machine.execFlkSemAcquire n ini s
  | .flkSemRelease n ini => Sys2Proof.Machine.execFlkSemRelease n ini s
  | .flkSemExpiry n => Sys2Proof.Machine.execFlkSemExpiry n s
  | .stationRd f => Sys2Proof.Machine.execStationRd f s
  | .stationWr f => Sys2Proof.Machine.execStationWr f s
  | .stationImgrd f => Sys2Proof.Machine.execStationImgrd f s
  | .stationImgout f => Sys2Proof.Machine.execStationImgout f s
  | .stationSup f => Sys2Proof.Machine.execStationSup f s
  | .stationEnumq f => Sys2Proof.Machine.execStationEnumq f s
  | .stationEnumset f => Sys2Proof.Machine.execStationEnumset f s
  | .stationLdata f => Sys2Proof.Machine.execStationLdata f s
  | .stationLstart f => Sys2Proof.Machine.execStationLstart f s
  | .stationWatchdogExpiry => Sys2Proof.Machine.execStationWatchdogExpiry s
  | .heartbeatTick => Sys2Proof.Machine.execHeartbeatTick s
  | .heartbeatRecordReceived eth r => Sys2Proof.Machine.execHeartbeatRecordReceived eth r s
  | .partnerLinkTimeout => Sys2Proof.Machine.execPartnerLinkTimeout s
  | .flashOpStart => Sys2Proof.Machine.execFlashOpStart s
  | .flashOpComplete ok => Sys2Proof.Machine.execFlashOpComplete ok s
  | .updOpen key slot => Sys2Proof.Machine.execUpdOpen key slot s
  | .updWrite key => Sys2Proof.Machine.execUpdWrite key s
  | .updFetch key => Sys2Proof.Machine.execUpdFetch key s
  | .updClose key hold => Sys2Proof.Machine.execUpdClose key hold s
  | .updArm key => Sys2Proof.Machine.execUpdArm key s
  | .updDisarm key => Sys2Proof.Machine.execUpdDisarm key s
  | .updAbort key => Sys2Proof.Machine.execUpdAbort key s
  | .updSetwrite key => Sys2Proof.Machine.execUpdSetwrite key s
  | .activationHeaderProgrammed ok => Sys2Proof.Machine.execActivationHeaderProgrammed ok s
  | .recorderEnvSample tempDc coreMv => Sys2Proof.Machine.execRecorderEnvSample tempDc coreMv s
  | .recorderSnapshotPeriod => Sys2Proof.Machine.execRecorderSnapshotPeriod s
  | .recCmdSnap key => Sys2Proof.Machine.execRecCmdSnap key s
  | .recCmdErase key => Sys2Proof.Machine.execRecCmdErase key s
  | .foldRingSyncGain => Sys2Proof.Machine.execFoldRingSyncGain s
  | .ethLinkChange port up speed fullDuplex => Sys2Proof.Machine.execEthLinkChange port up speed fullDuplex s
  | .debugResetRelease st => Sys2Proof.Machine.execDebugResetRelease st s
  | .rstOutMinLowExpiry => Sys2Proof.Machine.execRstOutMinLowExpiry s
  | .serrefReturn => Sys2Proof.Machine.execSerrefReturn s

end Sys2Proof.Machine
end

