-- ==== Sys2Proof/Machine/Tick.lean ====
section
/-! DEFINITION. Sys2Proof/Machine/Tick.lean: what passes while no command waits. -/

namespace Sys2Proof.Machine

/-- One ns of the time unit's count, with its rate correction of TIM_RATE in ppb (R361, R363). -/
def State.trainTick (s : State) : State :=
  let f := (s.now.trainFrac : Int) + 1000000000 + toSigned 32 (s.fget TIM_RATE_PPB)
  { s with now := { s.now with
      trainNs := ((s.now.trainNs : Int) + f / 1000000000).toNat % 2 ^ 64
      trainFrac := (f % 1000000000).toNat } }

/-- One nanosecond passes with nothing commanded: the counters of time that run advance. DESIGN
CHOICE (log entry 2): the spec names no tick; every timed event of the block is a command of its own. -/
def State.tick (s : State) : State :=
  let s1 := { s with now := { s.now with
      hubNs := if s.now.hubRun then s.now.hubNs + 1 else s.now.hubNs
      sigNs := if s.unitDown 0x30 then s.now.sigNs else s.now.sigNs + 1
      epNs := s.now.epNs + 1 } }
  if s1.unitDown 0x22 then s1 else s1.trainTick

/-- The queue without its front. -/
def State.popped (s : State) (rest : List Instr) : State := { s with pending := rest }

end Sys2Proof.Machine
end

