-- ==== Sys2Proof/Machine/Balls.lean ====
section
/-! DEFINITION. Sys2Proof/Machine/Balls.lean: the state of every signal ball (Tables 02-2, 02-3 and 02-7,
R37 to R41, R48, R50), as a function of the block's state: no ball holds state of its own. -/

namespace Sys2Proof.Machine

/-- The signals of Tables 02-3 and 02-7; an index is the instance number. -/
inductive Ball where
  | xspiCk | xspiCsN | xspiDqs | xspiResetN | xspiDq (n : Nat)
  | dbgTck | dbgTms | dbgTdi | dbgTdo | dbgTrstN
  | modeStrap (n : Nat) | testEn | slotId (n : Nat) | resetN | rstOutN | safeOutN
  | xtal | refIn | ppsIn | ppsOut | clkOut | tdiode | sense
  | ethTx (n : Nat) | ethRx (n : Nat) | serRefclk
  | flkOut | flkIn | pairTx | pairRx
  | sdDat (n : Nat) | sdCki (n : Nat) | sdClkout (n : Nat) | syncDf
  | mdc | mdio | phyRstN (n : Nat) | phyIntN (n : Nat)
  | canTx (n : Nat) | canRx (n : Nat) | canStb (n : Nat)
  | drvTx (n : Nat) | drvRx (n : Nat) | drvDe (n : Nat) | drvReN (n : Nat)
  | bypHoldEth | bypHoldFlk
  | di (n : Nat) | dout (n : Nat) | blHs | blLs | blSense
  deriving DecidableEq, Repr

/-- The codes of Table 02-2; `used` is a ball that its unit drives or reads as its protocol says. -/
inductive BallState where
  | z | zpu | zpd | low | high | off | on | analog | used
  deriving DecidableEq, Repr

/-- A driven level. -/
def lvl (b : Bool) : BallState := if b then .high else .low

/-- The paddock that a ball belongs to. -/
def Ball.paddock : Ball → Paddock
  | .xspiCk | .xspiCsN | .xspiDqs | .xspiResetN | .xspiDq _ => .common
  | .dbgTck | .dbgTms | .dbgTdi | .dbgTdo | .dbgTrstN => .aon
  | .modeStrap _ | .testEn | .slotId _ | .resetN | .rstOutN | .safeOutN => .aon
  | .xtal | .clkOut | .tdiode | .sense | .bypHoldEth | .bypHoldFlk => .aon
  | .refIn | .ppsIn | .ppsOut | .ethTx _ | .ethRx _ | .serRefclk => .net
  | .mdc | .mdio | .phyRstN _ | .phyIntN _ => .net
  | .flkOut | .flkIn | .pairTx | .pairRx => .bus
  | .canTx _ | .canRx _ | .canStb _ | .drvTx _ | .drvRx _ | .drvDe _ | .drvReN _ => .bus
  | .sdDat _ | .sdCki _ | .sdClkout _ | .syncDf => .signal
  | .di _ | .blSense => .flogic
  | .dout _ | .blHs | .blLs => .fpower

/-- The PWR_MON.OK bit of the rail of a ball's I/O bank (Table 02-8): 3 VDD_IOA, 4 VDD_IOB, 5
VDD_SER, 6 VFL. -/
def Ball.rail : Ball → Nat
  | .bypHoldEth | .bypHoldFlk => 4
  | .mdc | .mdio | .phyRstN _ | .phyIntN _ => 4
  | .canTx _ | .canRx _ | .canStb _ | .drvTx _ | .drvRx _ | .drvDe _ | .drvReN _ => 4
  | .sdDat _ | .sdCki _ | .sdClkout _ | .syncDf => 4
  | .ethTx _ | .ethRx _ | .serRefclk | .flkOut | .flkIn | .pairTx | .pairRx => 5
  | .di _ | .dout _ | .blHs | .blLs | .blSense => 6
  | _ => 3

/-- The column 'Unpowered': Z, an input's load, or an open switch. -/
def Ball.unpowered : Ball → BallState
  | .di _ => .analog
  | .dout _ | .blHs | .blLs => .off
  | _ => .z

/-- The column 'In reset'. -/
def Ball.inReset : Ball → BallState
  | .xspiCk | .xspiResetN | .rstOutN | .safeOutN | .ppsOut | .clkOut => .low
  | .sdClkout _ | .mdc | .phyRstN _ | .drvDe _ | .drvReN _ => .low
  | .xspiCsN | .canTx _ | .canStb _ | .drvTx _ => .high
  | .dbgTms | .dbgTdi | .resetN | .mdio | .phyIntN _ | .canRx _ | .drvRx _ => .zpu
  | .xspiDqs | .xspiDq _ | .dbgTck | .dbgTrstN | .modeStrap _ | .testEn | .slotId _ => .zpd
  | .refIn | .ppsIn | .sdDat _ | .sdCki _ | .syncDf => .zpd
  | .dbgTdo | .ethTx _ | .ethRx _ | .serRefclk | .flkOut | .flkIn | .pairTx | .pairRx => .z
  | .bypHoldEth | .bypHoldFlk | .blSense => .z
  | .xtal | .tdiode | .sense | .di _ => .analog
  | .dout _ | .blHs | .blLs => .off

/-- A paddock's code of Table 04-4, with the group codes that include it. -/
def paddockCodes : Paddock → List Nat
  | .net => [0x07, 0x0B, 0x0C]
  | .bus => [0x08, 0x0B, 0x0C]
  | .signal => [0x09, 0x0B]
  | .flogic => [0x0A]
  | .fpower => [0x0A]
  | _ => []

/-- Is a ball's paddock in reset of any reach, or switched off (R39 to R41)? A paddock in RAMP is held in
reset until its power good (Table 04-2), a local reset ends before the reload (R90), and CLOCK_HOLD
holds every compute paddock outside AON (R111). The field die does not follow the compute die: it
counts while it holds no configuration and from the start of a device episode to the reload of S6,
with which LINK leaves 0. -/
def State.ballHeld (s : State) (b : Ball) : Bool :=
  let p := b.paddock
  s.rst.active || (p ≠ .aon && s.fget (pstat p) < 2)
    || (s.clk.hold && p ≠ .aon && p ≠ .flogic && p ≠ .fpower)
    || s.rst.locals.any (fun e => (e.phase = .asserted || e.phase = .hold)
        && (paddockCodes p).contains e.target)
    || ((p = .flogic || p = .fpower) && (!s.flogicUp || !s.fd.cfgd || s.fget FLD_STAT_LINK = 0))

/-- The column 'After boot'. -/
def State.ballRun (s : State) : Ball → BallState
  | .xspiCk => if s.flc.running.isSome then .used else .low
  | .xspiResetN => .high
  | .rstOutN => lvl s.pins.rstOut
  | .safeOutN => lvl s.pins.safeOut
  | .ppsOut => lvl (s.pins.ppsOut && s.flag CLK_OUTCFG_PPS_EN)
  | .clkOut => if s.fget CLK_OUTCFG_SEL = 0 then .low else .used
  | .sdClkout n => lvl (s.clkLevel n && !s.unitDown 0x30)
  | .phyRstN n => lvl (bitOf (s.fget ETH_PORTCFG_EN) n)
  | .canTx n => if s.fget (CAN_n_CFG_MODE n) = 0 then .high else .used
  | .canStb n => lvl (s.fget (CAN_n_CFG_MODE n) = 0)
  | .drvDe n => if bitOf (s.fget DRV_CFG_EN) n then .used else .low
  | .drvReN _ => .low
  | .bypHoldEth => if s.bypEth then .low else .z
  | .bypHoldFlk => if s.bypFlk then .low else .z
  | .dout n => if s.doOn n then .on else .off
  | .blHs => if s.fieldPowered && s.fd.hsOn then .on else .off
  | .blLs => if s.fieldPowered && s.fd.lsOn then .on else .off
  | .blSense | .xtal | .tdiode | .sense => .analog
  | .dbgTdo => .z
  | .dbgTck | .dbgTrstN | .modeStrap _ | .testEn | .slotId _ => .zpd
  | .dbgTms | .dbgTdi | .resetN | .mdio | .phyIntN _ | .canRx _ | .drvRx _ => .zpu
  | .xspiCsN | .xspiDqs | .xspiDq _ | .refIn | .ppsIn | .ethTx _ | .ethRx _ | .serRefclk => .used
  | .flkOut | .flkIn | .pairTx | .pairRx | .sdDat _ | .sdCki _ | .syncDf | .mdc => .used
  | .drvTx _ | .di _ => .used

/-- The state of a ball. RST_OUT_N and SAFE_OUT_N are what the reset controller drives. DESIGN CHOICE
(log entry 111): a bank rail counts as absent while its monitor has not released; the spec gives no
level of absence. -/
def State.ball (s : State) (b : Ball) : BallState :=
  if !s.phys.ok.getLsbD b.rail then b.unpowered
  else if b = .rstOutN ∨ b = .safeOutN then s.ballRun b
  else if s.ballHeld b then b.inReset
  else s.ballRun b

end Sys2Proof.Machine
end

