-- ==== Sys2Proof/Safety.lean ====
section
/-! DEFINITION. Sys2Proof/Safety.lean: what counts as a safe run: no stop, and the outputs that the
spec demands in the device safe state. -/

namespace Sys2Proof.Machine

/-- A step that goes on. -/
def goesOn (s : State) : Prop := ∃ t, step s = .next t

/-- The device safe state and an episode of device reach hold SAFE_OUT_N low (R23, R80, R88). -/
def safeOutLow (s : State) : Prop :=
  s.rst.safe.isSome ∨ s.rst.active = true → s.pins.safeOut = false

/-- The three sparse maps of a state are in canonical form, so that equal contents are equal data. -/
def State.wf (s : State) : Prop :=
  memWf s.mem = true ∧ flashWf s.flash = true ∧ regWf s.regs = true

end Sys2Proof.Machine
end

