-- ==== Sys2Proof/Certificates/Slice0/Obligations.lean ====
section
/-! DEFINITION. Sys2Proof/Certificates/Slice0/Obligations.lean: the statements for the provers. -/

set_option linter.constructorNameAsVariable false

/-! ### The words of the statements -/

namespace Sys2Proof.Claims

open Sys2Proof.Machine

/-- The command goes on, to a state that has a property. -/
def Yields (o : Out) (P : State → Prop) : Prop := ∃ t, o = .next t ∧ P t

/-- A lane that executes an instruction: it runs, its pc is in the code range, the word there has no
bit in error and is a listed instruction (R220, R133). -/
abbrev Ready (s : State) (l : LaneId) : Prop :=
  (s.lane l).exec = .run ∧ s.inCode (s.lane l).pc.toNat = true
    ∧ s.lclean l (s.lane l).pc.toNat = true
    ∧ wordListed (s.lread l (s.lane l).pc.toNat 4) = true

/-- A general register (R215): g0 reads as zero. -/
def reg (x : Lane) (r : GReg) : DWord := if r = 0 then 0 else x.g[r.toFin]

/-- The general registers after a write (R215): a write to g0 is discarded. -/
def put (x : Lane) (d : GReg) (v : DWord) : Vector DWord 32 :=
  if d = 0 then x.g else x.g.set d.toFin v

/-- An operand at the operation's width (R219). -/
def opd (x : Lane) (w : Bool) (r : GReg) : BitVec (opWidth w) := (reg x r).setWidth (opWidth w)

/-- ST with new flags: V, C, N and Z in bits 3 to 0 (R216). -/
def flags (x : Lane) (z n c v : Bool) : BitVec 16 :=
  x.st.extractLsb' 4 12 ++ BitVec.ofBool v ++ BitVec.ofBool c ++ BitVec.ofBool n ++ BitVec.ofBool z

/-- The lane after an instruction: the registers and ST given, the pc at the next instruction. -/
def after (x : Lane) (g : Vector DWord 32) (st : BitVec 16) : Lane :=
  { x with g := g, st := st, pc := x.pc + 4 }

/-- The lane after an operation with result `r` and flags C and V: with .W the result is
sign-extended (R219); Z and N come from the result. -/
def res (x : Lane) (w : Bool) (d : GReg) (r : BitVec (opWidth w)) (c v : Bool) : Lane :=
  after x (put x d (r.signExtend 64)) (flags x (r == 0) r.msb c v)

/-- The lane after an operation that leaves C and V as they are. -/
def resZN (x : Lane) (w : Bool) (d : GReg) (r : BitVec (opWidth w)) : Lane :=
  res x w d r (x.st.getLsbD 2) (x.st.getLsbD 3)

/-- The lane after an operation that leaves the flags as they are. -/
def resOnly (x : Lane) (w : Bool) (d : GReg) (r : BitVec (opWidth w)) : Lane :=
  after x (put x d (r.signExtend 64)) x.st

/-- The integer instructions of Tables 09-7 to 09-9 with given operands. -/
def integerInstrs (l : LaneId) (w : Bool) (d a b : GReg) (imm : BitVec 16) (n : BitVec 6)
    (cond : BitVec 5) : List Instr :=
  ([.add l w d a b, .sub l w d a b, .mul l w d a b, .mulh l w d a b, .mulhu l w d a b] : List Instr)
    ++ ([.adds l w d a b, .subs l w d a b, .muls l w d a b, .addsu l w d a b, .subsu l w d a b] : List Instr)
    ++ ([.min l w d a b, .max l w d a b, .minu l w d a b, .maxu l w d a b, .limit l w d a b] : List Instr)
    ++ ([.and l w d a b, .or l w d a b, .xor l w d a b, .andn l w d a b, .orn l w d a b] : List Instr)
    ++ ([.xnor l w d a b, .shl l w d a b, .shr l w d a b, .sar l w d a b, .rol l w d a b] : List Instr)
    ++ ([.ror l w d a b, .bset l w d a b, .bclr l w d a b, .btst l w d a b, .bext l w d a b] : List Instr)
    ++ ([.bins l w d a b, .div l w d a b, .divu l w d a b, .rem l w d a b, .remu l w d a b] : List Instr)
    ++ ([.neg l w d a, .negs l w d a, .abs l w d a, .abss l w d a, .not l w d a] : List Instr)
    ++ ([.clz l w d a, .ctz l w d a, .popc l w d a, .addi l w d a imm, .andi l d a imm] : List Instr)
    ++ ([.ori l d a imm, .xori l d a imm, .lui l d imm, .shli l w d a n, .shri l w d a n] : List Instr)
    ++ ([.sari l w d a n, .rori l w d a n, .cmp l w a b, .tst l w a b, .cmpi l a imm] : List Instr)
    ++ ([.cmpiu l a imm, .set l d cond, .sel l d a b cond] : List Instr)

/-- The float instructions of Table 09-11 and the conversions that never trap, with given operands. -/
def floatInstrs (l : LaneId) (p : Bool) (d a b : GReg) : List Instr :=
  ([.fadd l p d a b, .fsub l p d a b, .fmul l p d a b, .fdiv l p d a b, .fsqrt l p d a] : List Instr)
    ++ ([.fma l p d a b, .fmin l p d a b, .fmax l p d a b, .fabs l p d a, .fneg l p d a] : List Instr)
    ++ ([.fcmp l p a b, .fclass l p d a, .cvtIf l p d a, .cvtUf l p d a] : List Instr)
    ++ ([.cvtSd l d a, .cvtDs l d a] : List Instr)

/-- The signed number of `n` bits nearest to `i`. -/
def clampS (n : Nat) (i : Int) : Int := max (-(2 ^ (n - 1))) (min i (2 ^ (n - 1) - 1))

/-- The unsigned number of `n` bits nearest to `i`. -/
def clampU (n : Nat) (i : Int) : Int := max 0 (min i (2 ^ n - 1))

/-- The lane after a saturating operation whose exact result is `i`: V where it was cut. -/
def resSat (x : Lane) (w : Bool) (d : GReg) (i cut : Int) : Lane :=
  res x w d (BitVec.ofInt (opWidth w) cut) false (i != cut)

/-- A shift leaves V as it is and sets C. -/
def resShift (x : Lane) (w : Bool) (d : GReg) (r : BitVec (opWidth w)) (c : Bool) : Lane :=
  res x w d r c (x.st.getLsbD 3)

/-- The smaller of two signed numbers. -/
def sminB {n : Nat} (a b : BitVec n) : BitVec n := if a.slt b then a else b

/-- The larger of two signed numbers. -/
def smaxB {n : Nat} (a b : BitVec n) : BitVec n := if a.slt b then b else a

/-- ST with the flags of `a - b` (R222, SUB). -/
def subFlags (x : Lane) {n : Nat} (a b : BitVec n) : BitVec 16 :=
  flags x (a == b) (a - b).msb (b.ule a) (a.ssubOverflow b)

/-- The field that gb names, as ones at its place: position gb bits 5:0, length gb bits 13:8 with 0
the width, cut at the top (R224). -/
def fieldMask (w : Bool) (b : DWord) : BitVec (opWidth w) :=
  (if b.extractLsb' 8 6 = 0 then BitVec.allOnes (opWidth w)
   else BitVec.twoPow (opWidth w) (b.extractLsb' 8 6).toNat - 1) <<< (b.extractLsb' 0 6).toNat

/-- Only one lane changes. -/
def laneTo (s : State) (l : LaneId) (f : Lane → Lane) : Out := .next (s.setLane l (f (s.lane l)))

/-- The target of a displacement of words (R226). -/
def dispTarget {n : Nat} (x : Lane) (disp : BitVec n) : Word := x.pc + (disp.signExtend 32 <<< 2)

/-- The low 32 bits of a register, as an address. -/
def low (x : Lane) (r : GReg) : Word := (reg x r).setWidth 32

/-- The lane with its pc elsewhere. -/
def goTo (x : Lane) (pc : Word) : Lane := { x with pc := pc }

/-- The lane after a call: LK at the next instruction. -/
def callTo (x : Lane) (pc : Word) : Lane := { x with pc := pc, lk := x.pc + 4 }

/-- Every byte of memory outside `n` bytes from key `k` on reads as before. -/
def MemSame (s t : State) (k n : Nat) : Prop :=
  ∀ j, (j < k ∨ k + n ≤ j) → t.byteAt j = s.byteAt j

/-- Every byte outside the private memories of the cores reads as before. -/
def PublicSame (s t : State) : Prop := ∀ j, j < 0x100000000 → t.byteAt j = s.byteAt j

/-- The number that a finite pattern stands for (IEEE 754): binary64 where `p`, otherwise binary32
in the low half. -/
def fnum (p : Bool) (v : DWord) : Option Rat :=
  if p then
    let e := (v.extractLsb' 52 11).toNat
    let m := (v.extractLsb' 0 52).toNat + (if e = 0 then 0 else 2 ^ 52)
    let i : Int := if v.getLsbD 63 then -(m : Int) else m
    if e = 2047 then none else some (mkRat (i * 2 ^ max e 1) (2 ^ 1075))
  else
    let e := (v.extractLsb' 23 8).toNat
    let m := (v.extractLsb' 0 23).toNat + (if e = 0 then 0 else 2 ^ 23)
    let i : Int := if v.getLsbD 31 then -(m : Int) else m
    if e = 255 then none else some (mkRat (i * 2 ^ max e 1) (2 ^ 150))

/-- Is a pattern a NaN? -/
def fnan (p : Bool) (v : DWord) : Bool :=
  if p then v.extractLsb' 52 11 == 2047#11 && v.extractLsb' 0 52 != 0
  else v.extractLsb' 23 8 == 255#8 && v.extractLsb' 0 23 != 0

/-- Is a NaN pattern signalling: its top fraction bit is 0? -/
def fsig (p : Bool) (v : DWord) : Bool := fnan p v && !v.getLsbD (if p then 51 else 22)

/-- The canonical quiet NaN (R228). -/
def qnan (p : Bool) : DWord := if p then 0x7FF8000000000000 else 0x7FC00000

/-- The pattern that a float register holds: binary32 is the low half. -/
def fpat (p : Bool) (v : DWord) : DWord := if p then v else v &&& 0xFFFFFFFF

/-- ST with FI (bit 8) set where `b` holds. -/
def withFI (st : BitVec 16) (b : Bool) : BitVec 16 := if b then st ||| 0x0100 else st

/-- The class of a pattern, as Table 09-11 numbers it. -/
def fclassNo (p : Bool) (v : DWord) : Nat :=
  let sg := v.getLsbD (if p then 63 else 31)
  match fnum p v with
  | some q =>
    if q = 0 then (if sg then 3 else 4)
    else if (if p then v.extractLsb' 52 11 == 0#11 else v.extractLsb' 23 8 == 0#8) then
      (if sg then 2 else 5)
    else (if sg then 1 else 6)
  | none => if fnan p v then (if fsig p v then 8 else 9) else (if sg then 0 else 7)

/-- Nibble `i` of a doubleword. -/
def nib (v : DWord) (i : Nat) : Nat := (v.extractLsb' (4 * i) 4).toNat

/-- The lane after an instruction that writes `v` to gd and changes no flag. -/
def wrote (x : Lane) (d : GReg) (v : DWord) : Lane := after x (put x d v) x.st

/-- The lane after an integer result of 64 bits, Z and N from it. -/
def wroteZN (x : Lane) (d : GReg) (v : DWord) : Lane :=
  after x (put x d v) (flags x (v == 0) v.msb (x.st.getLsbD 2) (x.st.getLsbD 3))

/-- The lane after a truncation of `q`: FX (bit 11 of ST) where something was cut. -/
def truncTo (x : Lane) (d : GReg) (q : Rat) : Lane :=
  let y := wroteZN x d (BitVec.ofInt 64 (q.num.tdiv q.den))
  { y with st := if q.den = 1 then y.st else y.st ||| 0x0800 }

/-- What a call with a frame leaves (R226). -/
def FrameCalled (s : State) (l : LaneId) (ib pc : Word) (t : State) : Prop :=
  t.lread l (s.lane l).sb.toNat 8 = (s.lane l).lk.toNat ∧
  t.lread l ((s.lane l).sb.toNat + 8) 8 = (s.lane l).ib.toNat ∧
  MemSame s t (s.lkey l (s.lane l).sb.toNat) 16 ∧
  (t.lane l).sb = (s.lane l).sb + 16 ∧ (t.lane l).ib = ib ∧ (t.lane l).lk = (s.lane l).pc + 4 ∧
  (t.lane l).pc = pc ∧ (t.lane l).g = (s.lane l).g ∧ (t.lane l).st = (s.lane l).st ∧
  t.regs = s.regs ∧ (∀ k, k ≠ l → t.lane k = s.lane k)

/-- The row of the trap table for a code (R248): at the start of the constants of the active set. -/
def trapRow (s : State) (code : Nat) : Nat := s.actBase + s.boot.act.constOfs + 8 * code

/-- What trap entry leaves (R249). -/
def TrapEntered (s t : State) (l : LaneId) (code faddr rsp : Nat) : Prop :=
  t.lread l (s.lane l).sb.toNat 8 = (s.lane l).lk.toNat ∧
  t.lread l ((s.lane l).sb.toNat + 8) 8 = (s.lane l).ib.toNat ∧
  t.lread l ((s.lane l).sb.toNat + 16) 8 = (s.lane l).pc.toNat ∧
  t.lread l ((s.lane l).sb.toNat + 24) 1 = code ∧
  t.lread l ((s.lane l).sb.toNat + 25) 1 = rsp ∧
  t.lread l ((s.lane l).sb.toNat + 26) 2 = (s.lane l).st.toNat ∧
  t.lread l ((s.lane l).sb.toNat + 28) 4 = faddr % 2 ^ 32 ∧
  MemSame s t (s.lkey l (s.lane l).sb.toNat) 32 ∧
  (t.lane l).sb = (s.lane l).sb + 32 ∧ (t.lane l).lk = 0 ∧
  (t.lane l).pc = BitVec.ofNat 32 (s.lread l (trapRow s code) 4) ∧
  (t.lane l).ib = BitVec.ofNat 32 (s.lread l (trapRow s code + 4) 4) ∧
  (t.lane l).st = (s.lane l).st ||| 0x0020 ∧ (t.lane l).g = (s.lane l).g ∧
  t.regs = s.regs ∧ (∀ k, k ≠ l → t.lane k = s.lane k)

/-- The number of bytes of a size code (Table 09-3). -/
def nbytes (sz : BitVec 2) : Nat := 2 ^ sz.toNat

/-- The address of an instance or constant access: base + OFF * size (R230). -/
def offAddr (base : Word) (off : BitVec 14) (sz : BitVec 2) : Word :=
  base + (off.setWidth 32 <<< sz.toNat)

/-- The effective address of a general load or store (R231). -/
def effAddr (x : Lane) (a : GReg) (imm : BitVec 16) : Word := low x a + imm.signExtend 32

/-- A local access is allowed: aligned, inside the active half (R230, R231). -/
abbrev LocalOk (s : State) (sz : BitVec 2) (a : Word) : Prop :=
  a.toNat % nbytes sz = 0 ∧ s.inActive a.toNat (nbytes sz) = true

/-- A local store is allowed: beside that, outside code and constants (R232). -/
abbrev StoreOk (s : State) (sz : BitVec 2) (a : Word) : Prop :=
  LocalOk s sz a ∧ s.fixedRange a.toNat (nbytes sz) = false

/-- The bytes that a lane reads at a private address. -/
def bytesAt (s : State) (l : LaneId) (sz : BitVec 2) (a : Word) : BitVec (8 * nbytes sz) :=
  BitVec.ofNat _ (s.lread l a.toNat (nbytes sz))

/-- A local store has been made: the bytes at the address hold the low bytes of the register, no
other byte of memory changed, and of the lane only its pc and its write signature (R194). -/
def LocalStored (s : State) (l : LaneId) (sz : BitVec 2) (a : Word) (v : DWord) (t : State) : Prop :=
  bytesAt t l sz a = v.setWidth (8 * nbytes sz) ∧
  MemSame s t (s.lkey l a.toNat) (nbytes sz) ∧
  t.lane l = { after (s.lane l) (s.lane l).g (s.lane l).st with sig := (t.lane l).sig } ∧
  t.regs = s.regs ∧ (∀ k, k ≠ l → t.lane k = s.lane k)

/-- A transaction of a lane (Table 08-2). -/
def txn (x : Lane) (kind : BitVec 4) (addr : Nat) (data : DWord) (mask : Nat) : Txn :=
  { kind := kind, addr := addr, data := data, mask := mask, poison := x.poison, seq := x.seq
    held := false }

/-- The lane after it has sent a commit: the transaction queued for the Shepherds, the sequence
counter advanced, the response awaited (R178, R245). -/
def committed (x : Lane) (kind : BitVec 4) (addr : Nat) (data : DWord) (mask : Nat) : Lane :=
  { after x x.g x.st with
    out := x.out ++ [txn x kind addr data mask], seq := x.seq + 1
    commits := x.commits ++ [(x.seq, addr)] }

/-- The lane after it has sent a READ: it waits for the replicated response (R189). -/
def reading (x : Lane) (addr mask : Nat) (d : ReadDest) : Lane :=
  { after x x.g x.st with
    out := x.out ++ [txn x 8 addr 0 mask], seq := x.seq + 1, exec := .waitRead x.seq d }

/-- A slot of a timer is allowed (R232, R235, R237). -/
abbrev SlotOk (s : State) (l : LaneId) (a : Word) : Prop :=
  a.toNat % 8 = 0 ∧ s.inActive a.toNat 16 = true ∧ s.fixedRange a.toNat 16 = false ∧
  s.lclean l a.toNat = true ∧ s.lclean l (a.toNat + 8) = true

/-- The address of a timer slot. -/
def slotAddr (x : Lane) (slot : BitVec 13) : Word := x.ib + (slot.setWidth 32 <<< 4)

/-- A timer has run: its slot and gd hold the outcome, no other byte of memory changed. -/
def TimerRan (s : State) (l : LaneId) (d : GReg) (a : Word) (r : Slot × Bool) (t : State) : Prop :=
  t.slotAt l a.toNat = r.1 ∧ MemSame s t (s.lkey l a.toNat) 16 ∧
  t.lane l = { wrote (s.lane l) d (if r.2 then 1 else 0) with sig := (t.lane l).sig } ∧
  t.regs = s.regs ∧ (∀ k, k ≠ l → t.lane k = s.lane k)

/-- TON as the pseudocode of R236 gives it: input, preset, TS, slot. -/
def tonRule (i : Bool) (pt ts : Nat) (x : Slot) : Slot × Bool :=
  let el := (BitVec.ofNat 64 ts - BitVec.ofNat 64 x.start).toNat
  if i then
    if x.run then ({ x with pin := i }, decide (pt ≤ el))
    else ({ start := ts, run := true, pin := i }, decide (pt ≤ 0))
  else ({ x with run := false, pin := i }, false)

/-- TOF as the pseudocode of R236 gives it. -/
def tofRule (i : Bool) (pt ts : Nat) (x : Slot) : Slot × Bool :=
  if i then ({ x with run := false, pin := i }, true)
  else
    let y : Slot := if x.pin then { x with start := ts, run := true } else x
    let el := if x.pin then 0 else (BitVec.ofNat 64 ts - BitVec.ofNat 64 x.start).toNat
    let run := y.run && !decide (pt ≤ el)
    ({ y with run := run, pin := i }, run)

/-- TP as the pseudocode of R236 gives it. -/
def tpRule (i : Bool) (pt ts : Nat) (x : Slot) : Slot × Bool :=
  let el := (BitVec.ofNat 64 ts - BitVec.ofNat 64 x.start).toNat
  let run := x.run && !decide (pt ≤ el)
  if i && !x.pin && !run then
    ({ start := ts, run := decide (pt ≠ 0), pin := i }, decide (pt ≠ 0))
  else ({ x with run := run, pin := i }, run)

/-- The preset of a timer: a signed Time, negative acts as zero (R235). -/
def presetOf (x : Lane) (p : GReg) : Nat := (reg x p).toInt.toNat

/-- The byte of an edge detector's bit (R237). -/
def bitAddr (x : Lane) (bit : BitVec 19) : Word := x.ib + (bit.setWidth 32 >>> 3)

/-- An edge detector has run: gd is the edge of the input against its bit, the bit is the input, the
other bits of its byte and every other byte of memory are as before. -/
def EdgeRan (s : State) (l : LaneId) (d : GReg) (bit : BitVec 19) (f : Bool → Bool → Bool)
    (t : State) : Prop :=
  let a := (bitAddr (s.lane l) bit)
  let n := bit.toNat % 8
  let i := reg (s.lane l) d != 0
  bytesAt t l 0 a = (if i then bytesAt s l 0 a ||| BitVec.twoPow _ n
    else bytesAt s l 0 a &&& ~~~(BitVec.twoPow _ n)) ∧
  MemSame s t (s.lkey l a.toNat) 1 ∧
  t.lane l = { wrote (s.lane l) d (if f i ((bytesAt s l 0 a).getLsbD n) then 1 else 0) with
    sig := (t.lane l).sig } ∧
  t.regs = s.regs ∧ (∀ k, k ≠ l → t.lane k = s.lane k)

/-! #### Commands of the block -/

/-- The registers of the windows change in exactly these fields, which take these values. -/
def Regs (s t : State) (fs : List (Fld × Nat)) : Prop :=
  (∀ p ∈ fs, t.fget p.1 = p.2) ∧
  (∀ f : Fld, (∀ p ∈ fs, p.1.apart f = true) → t.fget f = s.fget f)

/-- No register field outside a range of addresses changes. -/
def RegsOutside (s t : State) (lo hi : Nat) : Prop :=
  ∀ f : Fld, (f.addr < lo ∨ hi ≤ f.addr) → t.fget f = s.fget f

/-- Memory, flash, the lanes and the waiting commands are as before. -/
def Quiet (s t : State) : Prop :=
  t.mem = s.mem ∧ t.flash = s.flash ∧ (∀ l, t.lane l = s.lane l) ∧ t.pending = s.pending

/-- The fields of an oscillator's disciplining: source, trim offset, state (R116, R117). -/
def discSrcF : Hrc → Fld | .hrc1 => CLK_DISC_SRC1 | .hrc2 => CLK_DISC_SRC2
def discOfsF : Hrc → Fld | .hrc1 => CLK_TRIM_OFS1 | .hrc2 => CLK_TRIM_OFS2
def discStF : Hrc → Fld | .hrc1 => CLK_STAT_DISC1 | .hrc2 => CLK_STAT_DISC2

/-- The signed trim offset of an oscillator. -/
def discOfs (s : State) (o : Hrc) : Int := (BitVec.ofNat 16 (s.fget (discOfsF o))).toInt

/-- The lock bit of a PLL, and the islands that it does not clock (Table 05-4). -/
def pllLockF : Pll → Fld
  | .pllC => CLK_STAT_PLL_C_LOCK | .pllV => CLK_STAT_PLL_V_LOCK | .pllS => CLK_STAT_PLL_S_LOCK
def pllKeeps : Pll → BitVec 18 | .pllC => 0x3FF83 | .pllV => 0x3FF7F | .pllS => 0xFF

/-- A source of device reach asserts (R76, R80 to R83, Table 04-1): its cause bit is set, the episode's
release begins anew, the safe outputs and the clock qualification fall, the lanes are reset, and of the
memory what is retained stays. -/
def Asserted (s t : State) (src : RstSrc) : Prop :=
  t.rst.active = true ∧ src ∈ t.rst.sources ∧ t.rst.step = 0 ∧
  t.fget ⟨0x40000004, src.bit, 1⟩ = 1 ∧ t.fget CLK_STAT_HRC1_Q = 0 ∧
  t.pins.safeOut = false ∧ t.pins.rstOut = false ∧
  t.mem = s.mem.filter (fun p => 0xF0000000 ≤ p.1 && p.1 < 0xF0004000) ∧ t.flash = s.flash ∧
  t.pending = s.pending ∧ (∀ l, t.lane l = Lane.reset)

/-- A voter fault (R207): the voter source asserts, and TRI_VFLAST names the cause, the Shepherds for
which a check failed and the lane. -/
def VoterFault (s t : State) (cause shep lane : Nat) : Prop :=
  Asserted s t .voter ∧ t.fget TRI_VFLAST_VALID = 1 ∧ t.fget TRI_VFLAST_CAUSE = cause ∧
  t.fget TRI_VFLAST_SHEP = shep ∧ t.fget TRI_VFLAST_LANE = lane

/-- A request is refused with the error response TARGET, and nothing else changes (R11). -/
def refusedWith (s : State) : Out := .next { s with resp := .target, rdata := 0 }

/-- The value of a counter field after one more, saturated (R478). -/
def plusOne (s : State) (f : Fld) : Nat := min (s.fget f + 1) (2 ^ f.width - 1)

/-- The update unit runs no FETCH. -/
def noFetch (s : State) : Bool :=
  match s.upd.job with
  | some (.fetch ..) => false
  | _ => true

/-- The byte of the flash at an address. -/
def cellAt (s : State) (a : Nat) : Byte := smGet flashDflt s.flash a

/-- Only the field die changes. -/
def FieldOnly (s t : State) : Prop := Regs s t [] ∧ Quiet s t ∧ t.link = s.link

/-- An output of the field die. -/
def outAt (s : State) (n : BitVec 4) : FdOut := s.fd.outs.toList.getD n.toNat .reset

end Sys2Proof.Claims


/-! ### The statements -/

open Sys2Proof Sys2Proof.Machine Sys2Proof.Claims

/-- ADD, SUB, MUL, MULH, MULHU, NEG, ABS, MIN, MAX, MINU, MAXU, LIMIT and ADDI on a lane that executes (R222,
Table 09-7): the lane's result register, its four flags and its pc take the values that the table gives, at both widths
and for every register number, g0 among them; nothing else of the state changes. -/
def Obligations.WrappingArithmetic : Prop :=
  ∀ (s : State),
    ∀ (l : LaneId) (w : Bool) (d a b : GReg) (imm : BitVec 16),
    Ready s l →
    exec (.add l w d a b) s = laneTo s l (fun x =>
      res x w d (opd x w a + opd x w b) ((opd x w a).uaddOverflow (opd x w b))
        ((opd x w a).saddOverflow (opd x w b))) ∧
    exec (.sub l w d a b) s = laneTo s l (fun x =>
      res x w d (opd x w a - opd x w b) (!(opd x w a).usubOverflow (opd x w b))
        ((opd x w a).ssubOverflow (opd x w b))) ∧
    exec (.mul l w d a b) s = laneTo s l (fun x =>
      res x w d (opd x w a * opd x w b) false ((opd x w a).smulOverflow (opd x w b))) ∧
    exec (.mulh l w d a b) s = laneTo s l (fun x =>
      res x w d (((opd x w a).signExtend 128 * (opd x w b).signExtend 128).extractLsb' (opWidth w)
        (opWidth w)) false false) ∧
    exec (.mulhu l w d a b) s = laneTo s l (fun x =>
      res x w d (((opd x w a).setWidth 128 * (opd x w b).setWidth 128).extractLsb' (opWidth w)
        (opWidth w)) false false) ∧
    exec (.neg l w d a) s = laneTo s l (fun x =>
      res x w d (-(opd x w a)) (opd x w a == 0) (opd x w a == BitVec.intMin (opWidth w))) ∧
    exec (.abs l w d a) s = laneTo s l (fun x =>
      res x w d (opd x w a).abs false (opd x w a == BitVec.intMin (opWidth w))) ∧
    exec (.min l w d a b) s = laneTo s l (fun x =>
      res x w d (sminB (opd x w a) (opd x w b)) false false) ∧
    exec (.max l w d a b) s = laneTo s l (fun x =>
      res x w d (smaxB (opd x w a) (opd x w b)) false false) ∧
    exec (.minu l w d a b) s = laneTo s l (fun x =>
      res x w d (if (opd x w a).ult (opd x w b) then opd x w a else opd x w b) false false) ∧
    exec (.maxu l w d a b) s = laneTo s l (fun x =>
      res x w d (if (opd x w a).ult (opd x w b) then opd x w b else opd x w a) false false) ∧
    exec (.limit l w d a b) s = laneTo s l (fun x =>
      res x w d (sminB (smaxB (opd x w d) (opd x w a)) (opd x w b)) false
        (sminB (smaxB (opd x w d) (opd x w a)) (opd x w b) != opd x w d)) ∧
    exec (.addi l w d a imm) s = laneTo s l (fun x =>
      res x w d (opd x w a + imm.signExtend (opWidth w))
        ((opd x w a).uaddOverflow (imm.signExtend (opWidth w)))
        ((opd x w a).saddOverflow (imm.signExtend (opWidth w))))

/-- ADDS, SUBS, MULS, ADDSU, SUBSU, NEGS and ABSS on a lane that executes (R222): the exact result, cut to the range
of the width, V where it was cut, C = 0; nothing else of the state changes. -/
def Obligations.SaturatingArithmetic : Prop :=
  ∀ (s : State),
    ∀ (l : LaneId) (w : Bool) (d a b : GReg),
    Ready s l →
    exec (.adds l w d a b) s = laneTo s l (fun x =>
      resSat x w d ((opd x w a).toInt + (opd x w b).toInt) (clampS (opWidth w) ((opd x w a).toInt + (opd x w b).toInt))) ∧
    exec (.subs l w d a b) s = laneTo s l (fun x =>
      resSat x w d ((opd x w a).toInt - (opd x w b).toInt) (clampS (opWidth w) ((opd x w a).toInt - (opd x w b).toInt))) ∧
    exec (.muls l w d a b) s = laneTo s l (fun x =>
      resSat x w d ((opd x w a).toInt * (opd x w b).toInt) (clampS (opWidth w) ((opd x w a).toInt * (opd x w b).toInt))) ∧
    exec (.addsu l w d a b) s = laneTo s l (fun x =>
      resSat x w d (((opd x w a).toNat : Int) + (opd x w b).toNat) (clampU (opWidth w) (((opd x w a).toNat : Int) + (opd x w b).toNat))) ∧
    exec (.subsu l w d a b) s = laneTo s l (fun x =>
      resSat x w d (((opd x w a).toNat : Int) - (opd x w b).toNat) (clampU (opWidth w) (((opd x w a).toNat : Int) - (opd x w b).toNat))) ∧
    exec (.negs l w d a) s = laneTo s l (fun x =>
      resSat x w d (-(opd x w a).toInt) (clampS (opWidth w) (-(opd x w a).toInt))) ∧
    exec (.abss l w d a) s = laneTo s l (fun x =>
      resSat x w d (((opd x w a).toInt.natAbs : Int)) (clampS (opWidth w) (((opd x w a).toInt.natAbs : Int))))

/-- DIV, DIVU, REM and REMU on a lane that executes (R222, R223): with a divisor that is not zero at the operation's
width the quotient truncated toward zero or the remainder with the sign of ga, V only for the minimum by -1; with a zero
divisor the trap DIV0 (code 5), gd and the arithmetic flags as before. No other integer instruction of Tables 09-7 to 09-9 traps on its value: each goes
on to the next word, an immediate shift whose amount the width admits and a condition that is not reserved. -/
def Obligations.Division : Prop :=
  ∀ (s : State),
    (∀ (l : LaneId) (w : Bool) (d a b : GReg),
     Ready s l →
     opd (s.lane l) w b ≠ 0 →
     exec (.div l w d a b) s = laneTo s l (fun x =>
       res x w d ((opd x w a).sdiv (opd x w b)) false
         (opd x w a == BitVec.intMin (opWidth w) && opd x w b == -1)) ∧
     exec (.divu l w d a b) s = laneTo s l (fun x =>
       res x w d (opd x w a / opd x w b) false false) ∧
     exec (.rem l w d a b) s = laneTo s l (fun x =>
       res x w d ((opd x w a).srem (opd x w b)) false
         (opd x w a == BitVec.intMin (opWidth w) && opd x w b == -1)) ∧
     exec (.remu l w d a b) s = laneTo s l (fun x =>
       res x w d (opd x w a % opd x w b) false false)) ∧
    (∀ (l : LaneId) (w : Bool) (d a b : GReg),
     Ready s l →
     opd (s.lane l) w b = 0 →
     exec (.div l w d a b) s = .next (s.trapEnter l 5 0 0) ∧
     exec (.divu l w d a b) s = .next (s.trapEnter l 5 0 0) ∧
     exec (.rem l w d a b) s = .next (s.trapEnter l 5 0 0) ∧
     exec (.remu l w d a b) s = .next (s.trapEnter l 5 0 0) ∧
     ((s.trapEnter l 5 0 0).lane l).g = (s.lane l).g ∧
     ((s.trapEnter l 5 0 0).lane l).st &&& 0x000F = (s.lane l).st &&& 0x000F) ∧
    (∀ (l : LaneId) (w : Bool) (d a b : GReg) (imm : BitVec 16) (n : BitVec 6) (cond : BitVec 5),
     Ready s l →
     opd (s.lane l) w b ≠ 0 →
     n.toNat < opWidth w →
     cond.toNat < 0x14 →
     ∀ i ∈ integerInstrs l w d a b imm n cond, ∃ y, exec i s = .next (s.setLane l y) ∧ y.pc = (s.lane l).pc + 4)

/-- AND, OR, XOR, ANDN, ORN, XNOR, NOT, ANDI, ORI, XORI and LUI on a lane that executes (R224, Table 09-8): the bitwise
result, Z and N from it, C and V as before; LUI leaves every flag as it is. -/
def Obligations.Logic : Prop :=
  ∀ (s : State),
    ∀ (l : LaneId) (w : Bool) (d a b : GReg) (imm : BitVec 16),
    Ready s l →
    exec (.and l w d a b) s = laneTo s l (fun x =>
      resZN x w d (opd x w a &&& opd x w b)) ∧
    exec (.or l w d a b) s = laneTo s l (fun x =>
      resZN x w d (opd x w a ||| opd x w b)) ∧
    exec (.xor l w d a b) s = laneTo s l (fun x =>
      resZN x w d (opd x w a ^^^ opd x w b)) ∧
    exec (.andn l w d a b) s = laneTo s l (fun x =>
      resZN x w d (opd x w a &&& ~~~(opd x w b))) ∧
    exec (.orn l w d a b) s = laneTo s l (fun x =>
      resZN x w d (opd x w a ||| ~~~(opd x w b))) ∧
    exec (.xnor l w d a b) s = laneTo s l (fun x =>
      resZN x w d (~~~(opd x w a ^^^ opd x w b))) ∧
    exec (.not l w d a) s = laneTo s l (fun x =>
      resZN x w d (~~~(opd x w a))) ∧
    exec (.andi l d a imm) s = laneTo s l (fun x =>
      resZN x false d (opd x false a &&& imm.setWidth (opWidth false))) ∧
    exec (.ori l d a imm) s = laneTo s l (fun x =>
      resZN x false d (opd x false a ||| imm.setWidth (opWidth false))) ∧
    exec (.xori l d a imm) s = laneTo s l (fun x =>
      resZN x false d (opd x false a ^^^ imm.setWidth (opWidth false))) ∧
    exec (.lui l d imm) s = laneTo s l (fun x =>
      resOnly x true d (imm.setWidth (opWidth true) <<< 16))

/-- SHL, SHR, SAR, ROL, ROR by gb modulo the width and SHLI, SHRI, SARI, RORI by n (R224): result, Z and N from it, C the
last bit shifted out or carried round and 0 for an amount of zero, V as before; an immediate of 32 or more with .W traps with
ILLEGAL (code 1). -/
def Obligations.ShiftsAndRotates : Prop :=
  ∀ (s : State),
    (∀ (l : LaneId) (w : Bool) (d a b : GReg),
     Ready s l →
     exec (.shl l w d a b) s = laneTo s l (fun x =>
       resShift x w d (opd x w a <<< ((opd x w b).toNat % opWidth w)) ((opd x w b).toNat % opWidth w != 0 && (opd x w a).getLsbD (opWidth w - (opd x w b).toNat % opWidth w))) ∧
     exec (.shr l w d a b) s = laneTo s l (fun x =>
       resShift x w d (opd x w a >>> ((opd x w b).toNat % opWidth w)) ((opd x w b).toNat % opWidth w != 0 && (opd x w a).getLsbD ((opd x w b).toNat % opWidth w - 1))) ∧
     exec (.sar l w d a b) s = laneTo s l (fun x =>
       resShift x w d ((opd x w a).sshiftRight ((opd x w b).toNat % opWidth w)) ((opd x w b).toNat % opWidth w != 0 && (opd x w a).getLsbD ((opd x w b).toNat % opWidth w - 1))) ∧
     exec (.rol l w d a b) s = laneTo s l (fun x =>
       resShift x w d ((opd x w a).rotateLeft ((opd x w b).toNat % opWidth w)) ((opd x w b).toNat % opWidth w != 0 && ((opd x w a).rotateLeft ((opd x w b).toNat % opWidth w)).getLsbD 0)) ∧
     exec (.ror l w d a b) s = laneTo s l (fun x =>
       resShift x w d ((opd x w a).rotateRight ((opd x w b).toNat % opWidth w)) ((opd x w b).toNat % opWidth w != 0 && ((opd x w a).rotateRight ((opd x w b).toNat % opWidth w)).msb))) ∧
    (∀ (l : LaneId) (w : Bool) (d a : GReg) (n : BitVec 6),
     Ready s l →
     n.toNat < opWidth w →
     exec (.shli l w d a n) s = laneTo s l (fun x =>
       resShift x w d (opd x w a <<< n.toNat) (n != 0 && (opd x w a).getLsbD (opWidth w - n.toNat))) ∧
     exec (.shri l w d a n) s = laneTo s l (fun x =>
       resShift x w d (opd x w a >>> n.toNat) (n != 0 && (opd x w a).getLsbD (n.toNat - 1))) ∧
     exec (.sari l w d a n) s = laneTo s l (fun x =>
       resShift x w d ((opd x w a).sshiftRight n.toNat) (n != 0 && (opd x w a).getLsbD (n.toNat - 1))) ∧
     exec (.rori l w d a n) s = laneTo s l (fun x =>
       resShift x w d ((opd x w a).rotateRight n.toNat) (n != 0 && ((opd x w a).rotateRight n.toNat).msb))) ∧
    (∀ (l : LaneId) (d a : GReg) (n : BitVec 6),
     Ready s l →
     32 ≤ n.toNat →
     exec (.shli l true d a n) s = .next (s.trapEnter l 1 0 0) ∧
     exec (.shri l true d a n) s = .next (s.trapEnter l 1 0 0) ∧
     exec (.sari l true d a n) s = .next (s.trapEnter l 1 0 0) ∧
     exec (.rori l true d a n) s = .next (s.trapEnter l 1 0 0))

/-- CLZ, CTZ, POPC, BSET, BCLR, BTST, BEXT and BINS on a lane that executes (R224, Table 09-8). The field of BEXT and BINS
is cut at the top of the width; cut to nothing, BEXT writes 0 and BINS leaves gd unchanged. BSET, BCLR, BEXT and BINS leave the
flags as they are. -/
def Obligations.BitOperations : Prop :=
  ∀ (s : State),
    ∀ (l : LaneId) (w : Bool) (d a b : GReg),
    Ready s l →
    exec (.clz l w d a) s = laneTo s l (fun x => resZN x w d (opd x w a).clz) ∧
    exec (.ctz l w d a) s = laneTo s l (fun x => resZN x w d (opd x w a).ctz) ∧
    exec (.popc l w d a) s = laneTo s l (fun x =>
      resZN x w d (BitVec.ofNat (opWidth w)
        ((List.range (opWidth w)).countP (fun i => (opd x w a).getLsbD i)))) ∧
    exec (.bset l w d a b) s = laneTo s l (fun x =>
      resOnly x w d (opd x w a ||| BitVec.twoPow (opWidth w) ((opd x w b).toNat % opWidth w))) ∧
    exec (.bclr l w d a b) s = laneTo s l (fun x =>
      resOnly x w d (opd x w a &&& ~~~(BitVec.twoPow (opWidth w) ((opd x w b).toNat % opWidth w)))) ∧
    exec (.btst l w d a b) s = laneTo s l (fun x =>
      resZN x w d (if (opd x w a).getLsbD ((opd x w b).toNat % opWidth w) then 1 else 0)) ∧
    exec (.bext l w d a b) s = laneTo s l (fun x =>
      resOnly x w d ((opd x w a &&& fieldMask w (reg x b)) >>> ((reg x b).extractLsb' 0 6).toNat)) ∧
    exec (.bins l w d a b) s = laneTo s l (fun x =>
      if fieldMask w (reg x b) = 0 then after x x.g x.st
      else resOnly x w d ((opd x w d &&& ~~~(fieldMask w (reg x b)))
        ||| ((opd x w a <<< ((reg x b).extractLsb' 0 6).toNat) &&& fieldMask w (reg x b))))

/-- CMP, TST, CMPI and CMPIU write only the flags (R225); SET and SEL write gd from a condition that the lane's flags
hold, and a reserved condition code traps with ILLEGAL (code 1). -/
def Obligations.CompareAndSelect : Prop :=
  ∀ (s : State),
    (∀ (l : LaneId) (w : Bool) (a b : GReg) (imm : BitVec 16),
     Ready s l →
     exec (.cmp l w a b) s = laneTo s l (fun x =>
       after x x.g (subFlags x (opd x w a) (opd x w b))) ∧
     exec (.tst l w a b) s = laneTo s l (fun x =>
       after x x.g (flags x (opd x w a &&& opd x w b == 0) (opd x w a &&& opd x w b).msb false false)) ∧
     exec (.cmpi l a imm) s = laneTo s l (fun x =>
       after x x.g (subFlags x (reg x a) (imm.signExtend 64))) ∧
     exec (.cmpiu l a imm) s = laneTo s l (fun x =>
       after x x.g (subFlags x (reg x a) (imm.setWidth 64)))) ∧
    (∀ (l : LaneId) (d a b : GReg) (cond : BitVec 5) (h : Bool),
     Ready s l →
     (s.lane l).cond cond = some h →
     exec (.set l d cond) s = laneTo s l (fun x => after x (put x d (if h then 1 else 0)) x.st) ∧
     exec (.sel l d a b cond) s = laneTo s l (fun x =>
       after x (put x d (if h then reg x a else reg x b)) x.st)) ∧
    (∀ (l : LaneId) (d a b : GReg) (cond : BitVec 5),
     Ready s l →
     0x14 ≤ cond.toNat →
     exec (.set l d cond) s = .next (s.trapEnter l 1 0 0) ∧
     exec (.sel l d a b cond) s = .next (s.trapEnter l 1 0 0))

/-- A lane whose flags are those of A - B (CMP, R225) finds with the condition codes of Table 09-6: equal, not equal, and
the four orders, signed and unsigned. -/
def Obligations.ConditionsAfterCompare : Prop :=
  ∀ (x : Lane) (w : Bool) (A B : BitVec (opWidth w)) (y : Lane), y.st = subFlags x A B →
    y.cond 0x00 = some true ∧
    y.cond 0x01 = some (A == B) ∧ y.cond 0x02 = some (A != B) ∧
    y.cond 0x03 = some (A.slt B) ∧ y.cond 0x04 = some (B.sle A) ∧
    y.cond 0x05 = some (A.sle B) ∧ y.cond 0x06 = some (B.slt A) ∧
    y.cond 0x07 = some (A.ult B) ∧ y.cond 0x08 = some (B.ule A) ∧
    y.cond 0x09 = some (A.ule B) ∧ y.cond 0x0A = some (B.ult A)

/-- BR, CALL, JMPR, CALLR, RET and CHK on a lane that executes (R226, Table 09-10): to a target in the code range the pc
and, for the calls, LK take their new values and nothing else of the state changes; a condition that does not hold goes on at
the next instruction; a target out of the code range traps with BOUND (code 3) before anything changes (R227); CHK traps with
INDEX (code 7) from ga = gb on. -/
def Obligations.BranchesAndCalls : Prop :=
  ∀ (s : State),
    (∀ (l : LaneId) (cond : BitVec 5) (disp : BitVec 21),
     Ready s l →
     (s.lane l).cond cond = some true →
     s.targetOk (dispTarget (s.lane l) disp).toNat = true →
     exec (.br l cond disp) s = laneTo s l (fun x => goTo x (dispTarget x disp))) ∧
    (∀ (l : LaneId) (cond : BitVec 5) (disp : BitVec 21),
     Ready s l →
     (s.lane l).cond cond = some false →
     exec (.br l cond disp) s = laneTo s l (fun x => goTo x (x.pc + 4))) ∧
    (∀ (l : LaneId) (disp : BitVec 26),
     Ready s l →
     (s.lane l).pc.toNat % 4 = 0 →
     s.inCode (dispTarget (s.lane l) disp).toNat = false →
     exec (.call l disp) s = .next (s.trapEnter l 3 (dispTarget (s.lane l) disp).toNat 0)) ∧
    (∀ (l : LaneId) (disp : BitVec 26),
     Ready s l →
     s.targetOk (dispTarget (s.lane l) disp).toNat = true →
     exec (.call l disp) s = laneTo s l (fun x => callTo x (dispTarget x disp))) ∧
    (∀ (l : LaneId) (a : GReg),
     Ready s l →
     low (s.lane l) a ≠ 0 →
     s.targetOk (low (s.lane l) a).toNat = true →
     exec (.jmpr l a) s = laneTo s l (fun x => goTo x (low x a)) ∧
     exec (.callr l a) s = laneTo s l (fun x => callTo x (low x a))) ∧
    (∀ (l : LaneId) (a : GReg),
     Ready s l →
     (low (s.lane l) a).toNat % 4 ≠ 0 →
     exec (.jmpr l a) s = .next (s.trapEnter l 2 (low (s.lane l) a).toNat 0) ∧
     exec (.callr l a) s = .next (s.trapEnter l 2 (low (s.lane l) a).toNat 0)) ∧
    (∀ (l : LaneId),
     Ready s l →
     (s.lane l).lk ≠ 0 →
     s.targetOk (s.lane l).lk.toNat = true →
     exec (.ret l) s = laneTo s l (fun x => goTo x x.lk)) ∧
    (∀ (l : LaneId) (a b : GReg),
     Ready s l →
     (reg (s.lane l) a).ult (reg (s.lane l) b) = true →
     exec (.chk l a b) s = laneTo s l (fun x => goTo x (x.pc + 4))) ∧
    (∀ (l : LaneId) (a b : GReg),
     Ready s l →
     (reg (s.lane l) b).ule (reg (s.lane l) a) = true →
     exec (.chk l a b) s = .next (s.trapEnter l 7 0 0))

/-- CALL.FB and CALLR.FB store LK and IB at SB, move SB by 16, set IB, LK and the pc; RET.FB restores IB and LK, moves SB
back and goes to the old LK (R226). The stored bytes are the 16 at SB of the lane's private memory, and every other byte of
memory, every register of the windows and both other lanes are as before; with less than 16 bytes left both calls trap with
STACK (code 4) and write nothing first. -/
def Obligations.FrameCalls : Prop :=
  ∀ (s : State),
    (∀ (l : LaneId) (d : GReg) (disp : BitVec 21),
     Ready s l →
     (low (s.lane l) d).toNat % 16 = 0 →
     s.inActive (low (s.lane l) d).toNat 1 = true →
     s.targetOk (dispTarget (s.lane l) disp).toNat = true →
     s.stackLo ≤ (s.lane l).sb.toNat →
     (s.lane l).sb.toNat + 16 ≤ s.stackHi →
     s.stackHi < 2 ^ 32 →
     s.lclean l (s.lane l).sb.toNat = true →
     s.lclean l ((s.lane l).sb.toNat + 8) = true →
     s.lclean l ((s.lane l).sb.toNat + 15) = true →
     Yields (exec (.callFb l d disp) s) (FrameCalled s l (low (s.lane l) d) (dispTarget (s.lane l) disp))) ∧
    (∀ (l : LaneId) (d a : GReg),
     Ready s l →
     (low (s.lane l) d).toNat % 16 = 0 →
     s.inActive (low (s.lane l) d).toNat 1 = true →
     s.targetOk (low (s.lane l) a).toNat = true →
     s.stackLo ≤ (s.lane l).sb.toNat →
     (s.lane l).sb.toNat + 16 ≤ s.stackHi →
     s.stackHi < 2 ^ 32 →
     s.lclean l (s.lane l).sb.toNat = true →
     s.lclean l ((s.lane l).sb.toNat + 8) = true →
     s.lclean l ((s.lane l).sb.toNat + 15) = true →
     Yields (exec (.callrFb l d a) s) (FrameCalled s l (low (s.lane l) d) (low (s.lane l) a))) ∧
    (∀ (l : LaneId) (d a : GReg),
     Ready s l →
     (low (s.lane l) d).toNat % 16 = 0 →
     s.inActive (low (s.lane l) d).toNat 1 = true →
     s.targetOk (low (s.lane l) a).toNat = true →
     s.stackHi < (s.lane l).sb.toNat + 16 →
     exec (.callrFb l d a) s = .next (s.trapEnter l 4 0 0)) ∧
    (∀ (l : LaneId),
     Ready s l →
     s.targetOk (s.lane l).lk.toNat = true →
     s.stackLo + 16 ≤ (s.lane l).sb.toNat →
     s.lclean l ((s.lane l).sb.toNat - 16) = true →
     s.lclean l ((s.lane l).sb.toNat - 8) = true →
     exec (.retFb l) s = laneTo s l (fun x => { x with
       sb := x.sb - 16, pc := x.lk
       lk := BitVec.ofNat 32 (s.lread l (x.sb.toNat - 16) 8)
       ib := BitVec.ofNat 32 (s.lread l (x.sb.toNat - 8) 8) }))

/-- Trap entry with a handler (R249): the 32 bytes at SB take LK, IB, the pc and the trap word (code, response, ST, FADDR);
SB moves by 32, T is set, LK is cleared, IB and the pc come from the trap table of the active set. RET.TRAP after a trap other
than POSTED (R251) takes SB, LK, IB and ST back, clears T and Q, and goes on behind the trapped instruction, whose result
register is zero. RET.TRAP outside a trap is ILLEGAL. The fetch (R220, R133, R134), for the integer and float instructions: a
pc out of the code range is BOUND with FADDR the pc, a word that is no listed instruction ILLEGAL; one bit in error is corrected
and counted and the instruction runs; two bits in error stop the lane and poison what it sends from then on. -/
def Obligations.TrapEntryAndReturn : Prop :=
  ∀ (s : State),
    (∀ (l : LaneId) (code faddr rsp : Nat),
     code < 32 →
     rsp < 256 →
     s.lclean l (trapRow s code) = true →
     s.lclean l ((s.lane l).sb.toNat + 0) = true →
     s.lclean l ((s.lane l).sb.toNat + 8) = true →
     s.lclean l ((s.lane l).sb.toNat + 16) = true →
     s.lclean l ((s.lane l).sb.toNat + 24) = true →
     s.lclean l ((s.lane l).sb.toNat + 31) = true →
     (s.lane l).stBit 5 = false →
     (s.lane l).sb.toNat + 32 ≤ s.stackHi →
     s.lread l (trapRow s code) 4 ≠ 0 →
     s.targetOk (s.lread l (trapRow s code) 4) = true →
     s.lread l (trapRow s code + 4) 4 % 16 = 0 →
     s.inActive (s.lread l (trapRow s code + 4) 4) 1 = true →
     TrapEntered s (s.trapEnter l code faddr rsp) l code faddr rsp) ∧
    (∀ (l : LaneId),
     Ready s l →
     (s.lane l).stBit 5 = true →
     s.stackLo + 32 ≤ (s.lane l).sb.toNat →
     s.lclean l ((s.lane l).sb.toNat - 32) = true →
     s.lclean l ((s.lane l).sb.toNat - 24) = true →
     s.lclean l ((s.lane l).sb.toNat - 16) = true →
     s.lclean l ((s.lane l).sb.toNat - 8) = true →
     s.lread l ((s.lane l).sb.toNat - 8) 1 ≠ 0x18 →
     s.lclean l (s.lread l ((s.lane l).sb.toNat - 16) 4) = true →
     exec (.retTrap l) s = laneTo s l (fun x => { x with
       g := match wordWrites (s.lread l (s.lread l (x.sb.toNat - 16) 4) 4) with
         | some d => put x d 0
         | none => x.g
       sb := x.sb - 32
       lk := BitVec.ofNat 32 (s.lread l (x.sb.toNat - 32) 8)
       ib := BitVec.ofNat 32 (s.lread l (x.sb.toNat - 24) 8)
       st := BitVec.ofNat 16 (s.lread l (x.sb.toNat - 6) 2) &&& 0x1FCF
       pc := BitVec.ofNat 32 (s.lread l (x.sb.toNat - 16) 4) + 4 })) ∧
    (∀ (l : LaneId) (w : Bool) (d a b : GReg) (imm : BitVec 16) (n : BitVec 6) (cond : BitVec 5),
     (s.lane l).exec = .run →
     s.inCode (s.lane l).pc.toNat = false →
     ∀ i ∈ integerInstrs l w d a b imm n cond ++ floatInstrs l w d a b,
       exec i s = .next (s.trapEnter l 3 (s.lane l).pc.toNat 0)) ∧
    (∀ (l : LaneId) (w : Bool) (d a b : GReg) (imm : BitVec 16) (n : BitVec 6) (cond : BitVec 5),
     (s.lane l).exec = .run →
     s.inCode (s.lane l).pc.toNat = true →
     s.lclean l (s.lane l).pc.toNat = true →
     wordListed (s.lread l (s.lane l).pc.toNat 4) = false →
     ∀ i ∈ integerInstrs l w d a b imm n cond ++ floatInstrs l w d a b, exec i s = .next (s.trapEnter l 1 0 0)) ∧
    (∀ (l : LaneId) (w : Bool) (d a b : GReg) (imm : BitVec 16) (n : BitVec 6) (cond : BitVec 5) (e : Nat),
     (s.lane l).exec = .run →
     s.inCode (s.lane l).pc.toNat = true →
     s.upsetsAt (wordKey (s.lbank l) ((s.lane l).pc.toNat - 0x10000000)) = [e] →
     wordListed (s.lread l (s.lane l).pc.toNat 4) = true →
     opd (s.lane l) w b ≠ 0 →
     n.toNat < opWidth w →
     cond.toNat < 0x14 →
     ∀ i ∈ integerInstrs l w d a b imm n cond ++ floatInstrs l w d a b,
       ∃ y, exec i s = .next ((s.recordCe (s.lbank l) ((s.lane l).pc.toNat - 0x10000000) [e]).setLane l y) ∧
         y.pc = (s.lane l).pc + 4) ∧
    (∀ (l : LaneId) (w : Bool) (d a b : GReg) (imm : BitVec 16) (n : BitVec 6) (cond : BitVec 5) (e f : Nat),
     (s.lane l).exec = .run →
     s.inCode (s.lane l).pc.toNat = true →
     s.upsetsAt (wordKey (s.lbank l) ((s.lane l).pc.toNat - 0x10000000)) = [e, f] →
     (∀ i ∈ integerInstrs l w d a b imm n cond ++ floatInstrs l w d a b,
       exec i s = .next (s.privDedTake l (s.lane l).pc.toNat)) ∧
     ((s.privDedTake l (s.lane l).pc.toNat).lane l).exec = .stopped ∧
     ((s.privDedTake l (s.lane l).pc.toNat).lane l).poison = true ∧
     (s.privDedTake l (s.lane l).pc.toNat).fget MEM_EVT_PRIV_DED = 1) ∧
    (∀ (l : LaneId),
     Ready s l →
     (s.lane l).stBit 5 = false →
     exec (.retTrap l) s = .next (s.trapEnter l 1 0 0))

/-- FADD, FSUB, FMUL, FDIV, FSQRT and FMA (R228, IEEE 754-2019) on finite operands whose exact result is not zero and is a
finite number of the format: whatever the rounding mode, the result is that number, no sticky bit is set, no flag changes, and
nothing but gd and the pc changes. Both formats, every register number. -/
def Obligations.FloatExactResults : Prop :=
  ∀ (s : State),
    (∀ (l : LaneId) (p : Bool) (d a b : GReg) (qa qb : Rat) (r : DWord),
     Ready s l →
     fnum p (reg (s.lane l) a) = some qa →
     fnum p (reg (s.lane l) b) = some qb →
     fnum p r = some (qa + qb) →
     qa + qb ≠ 0 →
     exec (.fadd l p d a b) s = laneTo s l (fun x => wrote x d (fpat p r))) ∧
    (∀ (l : LaneId) (p : Bool) (d a b : GReg) (qa qb : Rat) (r : DWord),
     Ready s l →
     fnum p (reg (s.lane l) a) = some qa →
     fnum p (reg (s.lane l) b) = some qb →
     fnum p r = some (qa - qb) →
     qa - qb ≠ 0 →
     exec (.fsub l p d a b) s = laneTo s l (fun x => wrote x d (fpat p r))) ∧
    (∀ (l : LaneId) (p : Bool) (d a b : GReg) (qa qb : Rat) (r : DWord),
     Ready s l →
     fnum p (reg (s.lane l) a) = some qa →
     fnum p (reg (s.lane l) b) = some qb →
     fnum p r = some (qa * qb) →
     qa * qb ≠ 0 →
     exec (.fmul l p d a b) s = laneTo s l (fun x => wrote x d (fpat p r))) ∧
    (∀ (l : LaneId) (p : Bool) (d a b : GReg) (qa qb : Rat) (r : DWord),
     Ready s l →
     fnum p (reg (s.lane l) a) = some qa →
     fnum p (reg (s.lane l) b) = some qb →
     qb ≠ 0 →
     fnum p r = some (qa / qb) →
     qa ≠ 0 →
     exec (.fdiv l p d a b) s = laneTo s l (fun x => wrote x d (fpat p r))) ∧
    (∀ (l : LaneId) (p : Bool) (d a : GReg) (q : Rat) (r : DWord),
     Ready s l →
     fnum p (reg (s.lane l) a) = some (q * q) →
     fnum p r = some q →
     0 < q →
     exec (.fsqrt l p d a) s = laneTo s l (fun x => wrote x d (fpat p r))) ∧
    (∀ (l : LaneId) (p : Bool) (d a b : GReg) (qa qb qd : Rat) (r : DWord),
     Ready s l →
     fnum p (reg (s.lane l) a) = some qa →
     fnum p (reg (s.lane l) b) = some qb →
     fnum p (reg (s.lane l) d) = some qd →
     fnum p r = some (qd + qa * qb) →
     qd + qa * qb ≠ 0 →
     exec (.fma l p d a b) s = laneTo s l (fun x => wrote x d (fpat p r)))

/-- Float operations beside rounding (R228, Table 09-11): an arithmetic operation with a NaN operand gives the canonical
quiet NaN and sets FI exactly for a signalling one; FABS and FNEG change only the sign bit; FMIN and FMAX of two ordered unequal
numbers give the smaller and the larger, and of a NaN and a number the number; none of them, nor a conversion to a float, stops
on any operand: each goes on to the next word and changes only the lane; FCMP sets Z, N and C from the order and FI for a
signalling NaN; FCLASS gives the class bit of the table. -/
def Obligations.FloatNaNsAndSigns : Prop :=
  ∀ (s : State),
    (∀ (l : LaneId) (p : Bool) (d a b : GReg),
     Ready s l →
     (fnan p (reg (s.lane l) a) || fnan p (reg (s.lane l) b)) = true →
     exec (.fadd l p d a b) s = laneTo s l (fun x =>
       after x (put x d (qnan p)) (withFI x.st (fsig p (reg x a) || fsig p (reg x b)))) ∧
     exec (.fsub l p d a b) s = laneTo s l (fun x =>
       after x (put x d (qnan p)) (withFI x.st (fsig p (reg x a) || fsig p (reg x b)))) ∧
     exec (.fmul l p d a b) s = laneTo s l (fun x =>
       after x (put x d (qnan p)) (withFI x.st (fsig p (reg x a) || fsig p (reg x b)))) ∧
     exec (.fdiv l p d a b) s = laneTo s l (fun x =>
       after x (put x d (qnan p)) (withFI x.st (fsig p (reg x a) || fsig p (reg x b))))) ∧
    (∀ (l : LaneId) (p : Bool) (d a b : GReg),
     Ready s l →
     ∀ i ∈ floatInstrs l p d a b, ∃ y, exec i s = .next (s.setLane l y) ∧ y.pc = (s.lane l).pc + 4) ∧
    (∀ (l : LaneId) (p : Bool) (d a : GReg),
     Ready s l →
     exec (.fabs l p d a) s = laneTo s l (fun x =>
       wrote x d (reg x a &&& (if p then 0x7FFFFFFFFFFFFFFF else 0x7FFFFFFF))) ∧
     exec (.fneg l p d a) s = laneTo s l (fun x =>
       wrote x d (fpat p (reg x a) ^^^ (if p then 0x8000000000000000 else 0x80000000))) ∧
     exec (.fclass l p d a) s = laneTo s l (fun x =>
       wrote x d (BitVec.twoPow 64 (fclassNo p (reg x a))))) ∧
    (∀ (l : LaneId) (p : Bool) (d a b : GReg) (qa qb : Rat),
     Ready s l →
     fnum p (reg (s.lane l) a) = some qa →
     fnum p (reg (s.lane l) b) = some qb →
     qa < qb →
     exec (.fmin l p d a b) s = laneTo s l (fun x => wrote x d (fpat p (reg x a))) ∧
     exec (.fmin l p d b a) s = laneTo s l (fun x => wrote x d (fpat p (reg x a))) ∧
     exec (.fmax l p d a b) s = laneTo s l (fun x => wrote x d (fpat p (reg x b))) ∧
     exec (.fmax l p d b a) s = laneTo s l (fun x => wrote x d (fpat p (reg x b)))) ∧
    (∀ (l : LaneId) (p : Bool) (d a b : GReg),
     Ready s l →
     fnan p (reg (s.lane l) a) = true →
     fnan p (reg (s.lane l) b) = false →
     exec (.fmin l p d a b) s = laneTo s l (fun x =>
       after x (put x d (fpat p (reg x b))) (withFI x.st (fsig p (reg x a)))) ∧
     exec (.fmax l p d a b) s = laneTo s l (fun x =>
       after x (put x d (fpat p (reg x b))) (withFI x.st (fsig p (reg x a))))) ∧
    (∀ (l : LaneId) (p : Bool) (a b : GReg) (qa qb : Rat),
     Ready s l →
     fnum p (reg (s.lane l) a) = some qa →
     fnum p (reg (s.lane l) b) = some qb →
     exec (.fcmp l p a b) s = laneTo s l (fun x =>
       after x x.g (flags x (qa == qb) (decide (qa < qb)) false false))) ∧
    (∀ (l : LaneId) (p : Bool) (a b : GReg),
     Ready s l →
     (fnan p (reg (s.lane l) a) || fnan p (reg (s.lane l) b)) = true →
     exec (.fcmp l p a b) s = laneTo s l (fun x =>
       after x x.g (withFI (flags x false false true false) (fsig p (reg x a) || fsig p (reg x b)))))

/-- Conversions on a lane that executes (R229): SEXT and ZEXT from a size; NRW and NRWU of a value that fits; integers of up
to 24 (binary32) or 53 bits become floats exactly; floats that are integers in range become those integers, and TRUNC cuts toward
zero and sets FX (bit 11) when it cut; binary32 becomes binary64 exactly and back where it fits; BCD by digits. A NaN operand, a
value that does not fit, a nibble above 9 and a value from 10^16 on trap with CONV (code 6). -/
def Obligations.Conversions : Prop :=
  ∀ (s : State),
    (∀ (l : LaneId) (sz : BitVec 2) (d a : GReg),
     Ready s l →
     sz ≠ 3 →
     exec (.sext l sz d a) s = laneTo s l (fun x =>
       wroteZN x d (((reg x a).setWidth (8 * 2 ^ sz.toNat)).signExtend 64)) ∧
     exec (.zext l sz d a) s = laneTo s l (fun x =>
       wroteZN x d (((reg x a).setWidth (8 * 2 ^ sz.toNat)).setWidth 64))) ∧
    (∀ (l : LaneId) (sz : BitVec 2) (d a : GReg),
     Ready s l →
     sz ≠ 3 →
     ((reg (s.lane l) a).setWidth (8 * 2 ^ sz.toNat)).signExtend 64 = reg (s.lane l) a →
     exec (.nrw l sz d a) s = laneTo s l (fun x => wroteZN x d (reg x a))) ∧
    (∀ (l : LaneId) (sz : BitVec 2) (d a : GReg),
     Ready s l →
     sz ≠ 3 →
     (reg (s.lane l) a).toNat < 2 ^ (8 * 2 ^ sz.toNat) →
     exec (.nrwu l sz d a) s = laneTo s l (fun x => wroteZN x d (reg x a))) ∧
    (∀ (l : LaneId) (p : Bool) (d a : GReg) (r : DWord),
     Ready s l →
     fnum p r = some (reg (s.lane l) a).toInt →
     reg (s.lane l) a ≠ 0 →
     exec (.cvtIf l p d a) s = laneTo s l (fun x => wrote x d (fpat p r))) ∧
    (∀ (l : LaneId) (p : Bool) (d a : GReg) (r : DWord),
     Ready s l →
     fnum p r = some (reg (s.lane l) a).toNat →
     reg (s.lane l) a ≠ 0 →
     exec (.cvtUf l p d a) s = laneTo s l (fun x => wrote x d (fpat p r))) ∧
    (∀ (l : LaneId) (p : Bool) (d a : GReg) (i : Int),
     Ready s l →
     fnum p (reg (s.lane l) a) = some i →
     -(2 ^ 63) ≤ i →
     i < 2 ^ 63 →
     exec (.cvtFi l p d a) s = laneTo s l (fun x => wroteZN x d (BitVec.ofInt 64 i))) ∧
    (∀ (l : LaneId) (p : Bool) (d a : GReg) (i : Int),
     Ready s l →
     fnum p (reg (s.lane l) a) = some i →
     0 ≤ i →
     i < 2 ^ 64 →
     exec (.cvtFu l p d a) s = laneTo s l (fun x => wroteZN x d (BitVec.ofInt 64 i))) ∧
    (∀ (l : LaneId) (p : Bool) (d a : GReg) (q : Rat),
     Ready s l →
     fnum p (reg (s.lane l) a) = some q →
     -(2 ^ 63) ≤ q.num.tdiv q.den →
     q.num.tdiv q.den < 2 ^ 63 →
     exec (.truncFi l p d a) s = laneTo s l (fun x => truncTo x d q)) ∧
    (∀ (l : LaneId) (p : Bool) (d a : GReg) (q : Rat),
     Ready s l →
     fnum p (reg (s.lane l) a) = some q →
     0 ≤ q.num.tdiv q.den →
     q.num.tdiv q.den < 2 ^ 64 →
     exec (.truncFu l p d a) s = laneTo s l (fun x => truncTo x d q)) ∧
    (∀ (l : LaneId) (d a : GReg) (q : Rat) (r : DWord),
     Ready s l →
     fnum false (reg (s.lane l) a) = some q →
     q ≠ 0 →
     fnum true r = some q →
     exec (.cvtSd l d a) s = laneTo s l (fun x => wrote x d r)) ∧
    (∀ (l : LaneId) (d a : GReg) (q : Rat) (r : DWord),
     Ready s l →
     fnum true (reg (s.lane l) a) = some q →
     q ≠ 0 →
     fnum false r = some q →
     exec (.cvtDs l d a) s = laneTo s l (fun x => wrote x d (fpat false r))) ∧
    (∀ (l : LaneId) (d a : GReg) (r : DWord),
     Ready s l →
     ∀ i : Fin 16, nib (reg (s.lane l) a) i ≤ 9 →
     r.toNat = ((List.range 16).map (fun i => nib (reg (s.lane l) a) i * 10 ^ i)).sum →
     exec (.bcd2i l d a) s = laneTo s l (fun x => wroteZN x d r)) ∧
    (∀ (l : LaneId) (d a : GReg) (r : DWord),
     Ready s l →
     (reg (s.lane l) a).toNat < 10 ^ 16 →
     ∀ i : Fin 16, nib r i = (reg (s.lane l) a).toNat / 10 ^ i.val % 10 →
     exec (.i2bcd l d a) s = laneTo s l (fun x => wroteZN x d r)) ∧
    (∀ (l : LaneId) (p : Bool) (d a : GReg),
     Ready s l →
     fnan p (reg (s.lane l) a) = true →
     exec (.cvtFi l p d a) s = .next (s.trapEnter l 6 0 0) ∧
     exec (.cvtFu l p d a) s = .next (s.trapEnter l 6 0 0) ∧
     exec (.truncFi l p d a) s = .next (s.trapEnter l 6 0 0) ∧
     exec (.truncFu l p d a) s = .next (s.trapEnter l 6 0 0)) ∧
    (∀ (l : LaneId) (sz : BitVec 2) (d a : GReg),
     Ready s l →
     sz ≠ 3 →
     ((reg (s.lane l) a).setWidth (8 * 2 ^ sz.toNat)).signExtend 64 ≠ reg (s.lane l) a →
     exec (.nrw l sz d a) s = .next (s.trapEnter l 6 0 0)) ∧
    (∀ (l : LaneId) (sz : BitVec 2) (d a : GReg),
     Ready s l →
     sz ≠ 3 →
     2 ^ (8 * 2 ^ sz.toNat) ≤ (reg (s.lane l) a).toNat →
     exec (.nrwu l sz d a) s = .next (s.trapEnter l 6 0 0)) ∧
    (∀ (l : LaneId) (d a : GReg),
     Ready s l →
     10 ^ 16 ≤ (reg (s.lane l) a).toNat →
     exec (.i2bcd l d a) s = .next (s.trapEnter l 6 0 0))

/-- LDI, LDIU, LDC, LDCU and, at a private address, LD and LDU on a lane that executes (R230, R231): at an allowed address
whose word has no uncorrectable error gd takes the bytes there, sign- or zero-extended; nothing else of the state but the pc
changes. A misaligned address traps with ALIGN (code 2), one outside the active half with BOUND (code 3), and LDU.D is ILLEGAL
(code 1). -/
def Obligations.LocalLoads : Prop :=
  ∀ (s : State),
    (∀ (l : LaneId) (sz : BitVec 2) (d : GReg) (off : BitVec 14),
     Ready s l →
     LocalOk s sz (offAddr (s.lane l).ib off sz) →
     s.lclean l (offAddr (s.lane l).ib off sz).toNat = true →
     exec (.ldi l sz d off) s = laneTo s l (fun x =>
       wrote x d ((bytesAt s l sz (offAddr x.ib off sz)).signExtend 64)) ∧
     exec (.ldiu l sz d off) s = laneTo s l (fun x =>
       wrote x d ((bytesAt s l sz (offAddr x.ib off sz)).setWidth 64))) ∧
    (∀ (l : LaneId) (sz : BitVec 2) (d : GReg) (off : BitVec 14),
     Ready s l →
     LocalOk s sz (offAddr (s.lane l).cb off sz) →
     s.lclean l (offAddr (s.lane l).cb off sz).toNat = true →
     exec (.ldc l sz d off) s = laneTo s l (fun x =>
       wrote x d ((bytesAt s l sz (offAddr x.cb off sz)).signExtend 64)) ∧
     exec (.ldcu l sz d off) s = laneTo s l (fun x =>
       wrote x d ((bytesAt s l sz (offAddr x.cb off sz)).setWidth 64))) ∧
    (∀ (l : LaneId) (sz : BitVec 2) (d a : GReg) (imm : BitVec 16),
     Ready s l →
     LocalOk s sz (effAddr (s.lane l) a imm) →
     isPrivate (effAddr (s.lane l) a imm).toNat = true →
     s.lclean l (effAddr (s.lane l) a imm).toNat = true →
     exec (.ld l sz d a imm) s = laneTo s l (fun x =>
       wrote x d ((bytesAt s l sz (effAddr x a imm)).signExtend 64))) ∧
    (∀ (l : LaneId) (sz : BitVec 2) (d a : GReg) (imm : BitVec 16),
     Ready s l →
     sz ≠ 3 →
     LocalOk s sz (effAddr (s.lane l) a imm) →
     isPrivate (effAddr (s.lane l) a imm).toNat = true →
     s.lclean l (effAddr (s.lane l) a imm).toNat = true →
     exec (.ldu l sz d a imm) s = laneTo s l (fun x =>
       wrote x d ((bytesAt s l sz (effAddr x a imm)).setWidth 64))) ∧
    (∀ (l : LaneId) (d a : GReg) (imm : BitVec 16),
     Ready s l →
     exec (.ldu l 3 d a imm) s = .next (s.trapEnter l 1 0 0)) ∧
    (∀ (l : LaneId) (sz : BitVec 2) (d a : GReg) (imm : BitVec 16),
     Ready s l →
     (effAddr (s.lane l) a imm).toNat % nbytes sz ≠ 0 →
     exec (.ld l sz d a imm) s = .next (s.trapEnter l 2 (effAddr (s.lane l) a imm).toNat 0)) ∧
    (∀ (l : LaneId) (sz : BitVec 2) (d : GReg) (off : BitVec 14),
     Ready s l →
     (offAddr (s.lane l).ib off sz).toNat % nbytes sz = 0 →
     s.inActive (offAddr (s.lane l).ib off sz).toNat (nbytes sz) = false →
     exec (.ldi l sz d off) s = .next (s.trapEnter l 3 (offAddr (s.lane l).ib off sz).toNat 0))

/-- STI, and ST at a private address, on a lane that executes (R230 to R232): at an allowed address outside code and
constants the bytes of the size at that address take the low bytes of gd; every other byte of memory reads as before; of the
lane only the pc and the write signature change, and nothing of the register windows or of the other lanes. A store into the
code or constant range traps with BOUND (code 3) and writes nothing first. -/
def Obligations.LocalStores : Prop :=
  ∀ (s : State),
    (∀ (l : LaneId) (sz : BitVec 2) (d : GReg) (off : BitVec 14),
     Ready s l →
     StoreOk s sz (offAddr (s.lane l).ib off sz) →
     s.lclean l (offAddr (s.lane l).ib off sz).toNat = true →
     Yields (exec (.sti l sz d off) s)
       (LocalStored s l sz (offAddr (s.lane l).ib off sz) (reg (s.lane l) d))) ∧
    (∀ (l : LaneId) (sz : BitVec 2) (d a : GReg) (imm : BitVec 16),
     Ready s l →
     StoreOk s sz (effAddr (s.lane l) a imm) →
     isPrivate (effAddr (s.lane l) a imm).toNat = true →
     s.lclean l (effAddr (s.lane l) a imm).toNat = true →
     Yields (exec (.st l sz d a imm) s)
       (LocalStored s l sz (effAddr (s.lane l) a imm) (reg (s.lane l) d))) ∧
    (∀ (l : LaneId) (sz : BitVec 2) (d : GReg) (off : BitVec 14),
     Ready s l →
     LocalOk s sz (offAddr (s.lane l).ib off sz) →
     s.fixedRange (offAddr (s.lane l).ib off sz).toNat (nbytes sz) = true →
     exec (.sti l sz d off) s = .next (s.trapEnter l 3 (offAddr (s.lane l).ib off sz).toNat 0))

/-- LD, LDU and ST at an address outside private memory on a lane that executes (R231): a load sends READ for the bytes
of its size within their 8-byte word and the lane waits for the response (a prefetch may follow it, R144); a store sends the
commit STORE with the data in its byte lanes, and where the lane holds no prefetched word nothing but the lane changes. -/
def Obligations.GlobalAccesses : Prop :=
  ∀ (s : State),
    (∀ (l : LaneId) (sz : BitVec 2) (d a : GReg) (imm : BitVec 16),
     Ready s l →
     isPrivate (effAddr (s.lane l) a imm).toNat = false →
     (effAddr (s.lane l) a imm).toNat % nbytes sz = 0 →
     s.heldAt l (effAddr (s.lane l) a imm).toNat = none →
     Yields (exec (.ld l sz d a imm) s) (fun t =>
       (t.lane l).exec = .waitRead (s.lane l).seq
         (.load d ((effAddr (s.lane l) a imm).toNat % 8) (nbytes sz) true) ∧
       (t.lane l).out[(s.lane l).out.length]? = some (txn (s.lane l) 8
         ((effAddr (s.lane l) a imm).toNat / 8 * 8) 0
         ((2 ^ nbytes sz - 1) * 2 ^ ((effAddr (s.lane l) a imm).toNat % 8))) ∧
       (t.lane l).out.take (s.lane l).out.length = (s.lane l).out ∧
       (t.lane l).g = (s.lane l).g ∧ (t.lane l).pc = (s.lane l).pc + 4 ∧
       t.mem = s.mem ∧ t.regs = s.regs)) ∧
    (∀ (l : LaneId) (sz : BitVec 2) (d a : GReg) (imm : BitVec 16),
     Ready s l →
     sz ≠ 3 →
     isPrivate (effAddr (s.lane l) a imm).toNat = false →
     (effAddr (s.lane l) a imm).toNat % nbytes sz = 0 →
     s.heldAt l (effAddr (s.lane l) a imm).toNat = none →
     Yields (exec (.ldu l sz d a imm) s) (fun t =>
       (t.lane l).exec = .waitRead (s.lane l).seq
         (.load d ((effAddr (s.lane l) a imm).toNat % 8) (nbytes sz) false) ∧
       (t.lane l).pc = (s.lane l).pc + 4 ∧ t.mem = s.mem ∧ t.regs = s.regs)) ∧
    (∀ (l : LaneId) (sz : BitVec 2) (d a : GReg) (imm : BitVec 16),
     Ready s l →
     isPrivate (effAddr (s.lane l) a imm).toNat = false →
     (effAddr (s.lane l) a imm).toNat % nbytes sz = 0 →
     (s.lane l).held = [] →
     exec (.st l sz d a imm) s = laneTo s l (fun x =>
       committed x 0 ((effAddr x a imm).toNat / 8 * 8)
         (((reg x d).setWidth (8 * nbytes sz)).setWidth 64 <<< (8 * ((effAddr x a imm).toNat % 8)))
         ((2 ^ nbytes sz - 1) * 2 ^ ((effAddr x a imm).toNat % 8))))

/-- TON, TOF, TP, TET, TRST, R_TRIG and F_TRIG on a lane that executes, at an allowed slot or byte (R235 to R237): gd and
the 16-byte slot take what the pseudocode of R236 gives; TET writes no slot; TRST clears slot and gd; an edge detector whose bit
has no prime entry gives the edge and stores the input in its bit alone. No other byte of memory changes. -/
def Obligations.TimersAndEdges : Prop :=
  ∀ (s : State),
    (∀ (l : LaneId) (d p : GReg) (slot : BitVec 13),
     Ready s l →
     SlotOk s l (slotAddr (s.lane l) slot) →
     Yields (exec (.ton l d p slot) s) (TimerRan s l d (slotAddr (s.lane l) slot)
       (tonRule (reg (s.lane l) d != 0) (presetOf (s.lane l) p) s.cyc.ts.toNat
         (s.slotAt l (slotAddr (s.lane l) slot).toNat)))) ∧
    (∀ (l : LaneId) (d p : GReg) (slot : BitVec 13),
     Ready s l →
     SlotOk s l (slotAddr (s.lane l) slot) →
     Yields (exec (.tof l d p slot) s) (TimerRan s l d (slotAddr (s.lane l) slot)
       (tofRule (reg (s.lane l) d != 0) (presetOf (s.lane l) p) s.cyc.ts.toNat
         (s.slotAt l (slotAddr (s.lane l) slot).toNat)))) ∧
    (∀ (l : LaneId) (d p : GReg) (slot : BitVec 13),
     Ready s l →
     SlotOk s l (slotAddr (s.lane l) slot) →
     Yields (exec (.tp l d p slot) s) (TimerRan s l d (slotAddr (s.lane l) slot)
       (tpRule (reg (s.lane l) d != 0) (presetOf (s.lane l) p) s.cyc.ts.toNat
         (s.slotAt l (slotAddr (s.lane l) slot).toNat)))) ∧
    (∀ (l : LaneId) (d p : GReg) (slot : BitVec 13),
     Ready s l →
     SlotOk s l (slotAddr (s.lane l) slot) →
     exec (.tet l d p slot) s = laneTo s l (fun x => wrote x d
       (if (s.slotAt l (slotAddr x slot).toNat).run then
         BitVec.ofNat 64 (min (s.cyc.ts - BitVec.ofNat 64 (s.slotAt l (slotAddr x slot).toNat).start).toNat
           (presetOf x p))
       else 0))) ∧
    (∀ (l : LaneId) (d : GReg) (slot : BitVec 13),
     Ready s l →
     SlotOk s l (slotAddr (s.lane l) slot) →
     Yields (exec (.trst l d slot) s) (TimerRan s l d (slotAddr (s.lane l) slot)
       ({ start := 0, run := false, pin := false }, false))) ∧
    (∀ (l : LaneId) (d : GReg) (bit : BitVec 19),
     Ready s l →
     StoreOk s 0 (bitAddr (s.lane l) bit) →
     s.lclean l (bitAddr (s.lane l) bit).toNat = true →
     (s.lane l).primes = [] →
     Yields (exec (.rTrig l d bit) s) (EdgeRan s l d bit (fun i m => i && !m)) ∧
     Yields (exec (.fTrig l d bit) s) (EdgeRan s l d bit (fun i m => !i && m)))

/-- IN and IN.S of an item of the input image send a READ of its value and quality and wait; OUT of an item of the output
image sends the commit with gd bits 31:0 and Q as quality (R238); beyond its image each traps with BOUND (code 3) and sends
nothing. QGET, QPUT and QAND move Q (bit 4 of ST) and nothing else. -/
def Obligations.ImageAndQuality : Prop :=
  ∀ (s : State),
    (∀ (l : LaneId) (d : GReg) (item : BitVec 16),
     Ready s l →
     item.toNat < s.boot.act.inItems →
     exec (.inItem l d item) s = laneTo s l (fun x =>
       reading x (s.boot.act.inBase + 8 * item.toNat) 0x1F (.item d false)) ∧
     exec (.inItemS l d item) s = laneTo s l (fun x =>
       reading x (s.boot.act.inBase + 8 * item.toNat) 0x1F (.item d true))) ∧
    (∀ (l : LaneId) (d : GReg) (item : BitVec 16),
     Ready s l →
     item.toNat < s.boot.act.outItems →
     exec (.outItem l d item) s = laneTo s l (fun x =>
       committed x 1 (s.boot.act.outBase + 8 * item.toNat)
         ((low x d).setWidth 64 + (if x.st.getLsbD 4 then 0x100000000 else 0)) 0x1F)) ∧
    (∀ (l : LaneId) (d : GReg) (item : BitVec 16),
     Ready s l →
     s.boot.act.outItems ≤ item.toNat →
     exec (.outItem l d item) s = .next (s.trapEnter l 3 (s.boot.act.outBase + 8 * item.toNat) 0)) ∧
    (∀ (l : LaneId) (d : GReg) (item : BitVec 16),
     Ready s l →
     s.boot.act.inItems ≤ item.toNat →
     exec (.inItem l d item) s = .next (s.trapEnter l 3 (s.boot.act.inBase + 8 * item.toNat) 0)) ∧
    (∀ (l : LaneId) (d : GReg),
     Ready s l →
     exec (.qget l d) s = laneTo s l (fun x => wrote x d (if x.st.getLsbD 4 then 1 else 0)) ∧
     exec (.qput l d) s = laneTo s l (fun x => after x x.g
       (if reg x d ≠ 0 then x.st ||| 0x0010 else x.st &&& 0xFFEF)) ∧
     exec (.qand l d) s = laneTo s l (fun x => after x x.g
       (if reg x d ≠ 0 then x.st else x.st &&& 0xFFEF)))

/-- SEND of an aligned buffer in communication memory and a length of 1 to 1,432 sends its commit, a bad one traps with
BOUND (code 3); RECV sends its READ; SYSOP MODE, SAFE and EVENT send their commits; END without an open commit sends the write
signature and ends the lane's phase, and with open commits waits for them (R245); MFS and MTS move the special registers, MTS of
IB and CB checked (R243); GETC gives what INPUT latched (R244); NOP advances the pc. -/
def Obligations.MessagesAndSystem : Prop :=
  ∀ (s : State),
    (∀ (l : LaneId) (a d : GReg) (q : BitVec 8),
     Ready s l →
     (low (s.lane l) a).toNat % 8 = 0 →
     1 ≤ (reg (s.lane l) d).toNat →
     (reg (s.lane l) d).toNat ≤ 1432 →
     0x20000000 ≤ (low (s.lane l) a).toNat →
     (low (s.lane l) a).toNat + (reg (s.lane l) d).toNat ≤ 0x20180000 →
     exec (.send l a d q) s = laneTo s l (fun x => committed x 2 (0x40078000 + 8 * q.toNat)
       ((low x a).setWidth 64 ||| (reg x d <<< 32)) 0x3F)) ∧
    (∀ (l : LaneId) (a d : GReg) (q : BitVec 8),
     Ready s l →
     1432 < (reg (s.lane l) d).toNat →
     exec (.send l a d q) s = .next (s.trapEnter l 3 (low (s.lane l) a).toNat 0)) ∧
    (∀ (l : LaneId) (d : GReg) (q : BitVec 8),
     Ready s l →
     exec (.recv l d q) s = laneTo s l (fun x => reading x (0x40079000 + 8 * q.toNat) 0xFF (.recv d))) ∧
    (∀ (l : LaneId) (a : GReg),
     Ready s l →
     (reg (s.lane l) a).toNat < 4 →
     exec (.sysopMode l a) s = laneTo s l (fun x => committed x 3 1 (reg x a) 0xFF)) ∧
    (∀ (l : LaneId) (a : GReg),
     Ready s l →
     reg (s.lane l) a = 0 →
     exec (.sysopSafe l a) s = laneTo s l (fun x => committed x 3 2 0 0xFF)) ∧
    (∀ (l : LaneId) (a : GReg),
     Ready s l →
     exec (.sysopEvent l a) s = laneTo s l (fun x => committed x 3 3 (reg x a) 0xFF)) ∧
    (∀ (l : LaneId) (a : GReg),
     Ready s l →
     4 ≤ (reg (s.lane l) a).toNat →
     exec (.sysopMode l a) s = .next (s.trapEnter l 1 0 0) ∧ exec (.sysopSafe l a) s = .next (s.trapEnter l 1 0 0)) ∧
    (∀ (l : LaneId),
     Ready s l →
     (s.lane l).commits = [] →
     (s.lane l).commitErr = none →
     Yields (exec (.endUnit l) s) (fun t =>
       t.lane l = { s.lane l with
         out := (s.lane l).out ++ [txn (s.lane l) 4 0 (s.lane l).sig 0xFF]
         seq := (s.lane l).seq + 1, held := [], exec := .ended } ∧ t.mem = s.mem)) ∧
    (∀ (l : LaneId),
     Ready s l →
     (s.lane l).commits ≠ [] →
     exec (.endUnit l) s = laneTo s l (fun x => { x with exec := .waitEnd false })) ∧
    (∀ (l : LaneId) (disp : Bool),
     (s.lane l).exec = .waitEnd disp →
     (s.lane l).commits = [] →
     (s.lane l).commitErr = none →
     Yields (exec (.endCommitWaitDone l) s) (fun t =>
       t.lane l = { s.lane l with
         out := (s.lane l).out ++ [txn (s.lane l) 4 0 (s.lane l).sig 0xFF]
         seq := (s.lane l).seq + 1, held := [], exec := .ended } ∧ t.mem = s.mem)) ∧
    (∀ (l : LaneId) (d : GReg) (code : BitVec 3),
     Ready s l →
     code.toNat ≤ 5 →
     exec (.mfs l d code) s = laneTo s l (fun x => wrote x d
       (match code with
       | 0 => x.ib.setWidth 64 | 1 => x.cb.setWidth 64 | 2 => x.sb.setWidth 64
       | 3 => x.pc.setWidth 64 | 4 => x.lk.setWidth 64 | _ => x.st.setWidth 64))) ∧
    (∀ (l : LaneId) (a : GReg),
     Ready s l →
     (low (s.lane l) a).toNat % 16 = 0 →
     s.inActive (low (s.lane l) a).toNat 1 = true →
     exec (.mts l a 0) s = laneTo s l (fun x => { after x x.g x.st with ib := low x a }) ∧
     exec (.mts l a 1) s = laneTo s l (fun x => { after x x.g x.st with cb := low x a }) ∧
     exec (.mts l a 4) s = laneTo s l (fun x => { after x x.g x.st with lk := low x a }) ∧
     exec (.mts l a 5) s = laneTo s l (fun x =>
       after x x.g (((reg x a).setWidth 16 &&& 0x1FDF) ||| (x.st &&& 0x0020)))) ∧
    (∀ (l : LaneId) (a : GReg),
     Ready s l →
     (low (s.lane l) a).toNat % 16 = 0 →
     s.stackLo ≤ (low (s.lane l) a).toNat →
     (low (s.lane l) a).toNat ≤ s.stackHi →
     exec (.mts l a 2) s = laneTo s l (fun x => { after x x.g x.st with sb := low x a })) ∧
    (∀ (l : LaneId) (a : GReg),
     Ready s l →
     exec (.mts l a 3) s = .next (s.trapEnter l 1 0 0) ∧ exec (.mts l a 6) s = .next (s.trapEnter l 1 0 0) ∧
     exec (.mfs l a 6) s = .next (s.trapEnter l 1 0 0) ∧ exec (.mfs l a 7) s = .next (s.trapEnter l 1 0 0)) ∧
    (∀ (l : LaneId) (d : GReg),
     Ready s l →
     exec (.getc l d 0) s = laneTo s l (fun x => wrote x d s.cyc.ts) ∧
     exec (.getc l d 1) s = laneTo s l (fun x => wrote x d s.cyc.count) ∧
     exec (.getc l d 2) s = laneTo s l (fun x => wrote x d s.cyc.train) ∧
     exec (.getc l d 3) s = laneTo s l (fun x => wrote x d (s.cyc.mode.setWidth 64)) ∧
     exec (.nop l) s = laneTo s l (fun x => after x x.g x.st))

/-- Supply events (chapter 03), for every rail: a brown-out of VDD_AON, VDD_PLL, VDD_CORE or VDD_IOA asserts a device source, in
an episode or out of one, and the first names BO_RAIL; one of VDD_IOB or VDD_SER asserts the local reset of its group, VFL and FVS lose the field die or
its power, and the safety sets are evaluated again (R59, R62); VBKUP and the warning monitors leave their marks. A release goes on with what
the rail held: a compute rail's source, with VDD_AON the power-on source too, the group's local resets when both rails are good, the field die, FPOWER. Over-voltage, CORE_WARN and VBK_LOW set their event
bits, CORE_WARN with the stamps of R66 and R100; the changeover follows the VDD_AON monitor; POWER_GOOD releases the power-on source once the six
compute monitors have released; the field die starts unconfigured; the real-time counter counts while VDD_AON is good and a reference is in use. -/
def Obligations.SupplyEvents : Prop :=
  ∀ (s : State),
    (∀ (r : Rail),
     r = .vddAon ∨ r = .vddPll ∨ r = .vddCore ∨ r = .vddIoa →
     Yields (exec (.supplyMonitorTrip r) s) (fun t =>
       Asserted s t (.brownout r) ∧ t.fget SYS_RSTCAUSE_BO_RAIL ≠ 15)) ∧
    (s.rst.active = true →
     s.fget SYS_RSTCAUSE_BO_RAIL = 15 →
     Yields (exec (.supplyMonitorTrip .vddPll) s) (fun t =>
       Asserted s t (.brownout .vddPll) ∧ t.fget SYS_RSTCAUSE_BO_RAIL = 1 ∧
       t.phys.ok = s.phys.ok &&& 0xFD)) ∧
    (exec (.supplyMonitorTrip .vddIob) s = .next ((((s.setOk .vddIob false).raise PWR_EVT_IOB_BO).localBegin 0x0B .brownout).evalSets) ∧
     exec (.supplyMonitorTrip .vddSer) s = .next ((((s.setOk .vddSer false).raise PWR_EVT_SER_BO).localBegin 0x0C .brownout).evalSets) ∧
     exec (.supplyMonitorTrip .vfl) s = .next ((s.setOk .vfl false).vflLost.evalSets) ∧
     exec (.supplyMonitorTrip .fvs) s = .next (((((s.setOk .fvs false).raise PWR_EVT_FVS_LOW).fset (pstat .fpower) 0).loopEval).evalSets) ∧
     Yields (exec (.supplyMonitorTrip .vbkWarn) s) (fun t =>
       Regs s t [(PWR_EVT_VBK_LOW, 1)] ∧ Quiet s t ∧ t.phys = { s.phys with vbkLow := true }) ∧
     Yields (exec (.supplyMonitorTrip .fvsHigh) s) (fun t =>
       Regs s t [(PWR_EVT_FVS_HIGH, 1)] ∧ Quiet s t ∧ t.phys = { s.phys with fvsHigh := true }) ∧
     Yields (exec (.supplyMonitorTrip .vbkup) s) (fun t =>
       Regs s t [] ∧ Quiet s t ∧ t.phys = { s.phys with vbkDown := true } ∧
       t.bkup = { s.bkup with lost := s.bkup.lost || s.phys.onVbk })) ∧
    (∀ (r : Rail) (st : Straps),
     r = .vddPll ∨ r = .vddCore ∨ r = .vddIoa →
     exec (.supplyMonitorRelease r st) s = .next ((s.setOk r true).releaseSource (.brownout r) st)) ∧
    (∀ (st : Straps),
     exec (.supplyMonitorRelease .vddAon st) s = .next (({ s.setOk .vddAon true with phys := { (s.setOk .vddAon true).phys with onVbk := false } }.assertDevice .por true).releaseSource (.brownout .vddAon) st) ∧
     exec (.supplyMonitorRelease .vfl st) s = .next ((s.setOk .vfl true).fieldStart) ∧
     exec (.supplyMonitorRelease .fvs st) s = .next ((s.setOk .fvs true).fpowerStart) ∧
     Yields (exec (.supplyMonitorRelease .vbkup st) s) (fun t =>
       Regs s t [] ∧ Quiet s t ∧ t.phys = { s.phys with vbkDown := false }) ∧
     Yields (exec (.supplyMonitorRelease .vbkWarn st) s) (fun t =>
       Regs s t [] ∧ Quiet s t ∧ t.phys = { s.phys with vbkLow := false }) ∧
     Yields (exec (.supplyMonitorRelease .fvsHigh st) s) (fun t =>
       Regs s t [] ∧ Quiet s t ∧ t.phys = { s.phys with fvsHigh := false })) ∧
    (∀ (r q : Rail) (st : Straps),
     (r = .vddIob ∧ q = .vddSer) ∨ (r = .vddSer ∧ q = .vddIob) →
     (s.phys.ok.getLsbD (if q = .vddIob then 4 else 5) = true →
       exec (.supplyMonitorRelease r st) s = .next ((s.setOk r true).localReleased .brownout)) ∧
     (s.phys.ok.getLsbD (if q = .vddIob then 4 else 5) = false → exec (.supplyMonitorRelease r st) s = .next (s.setOk r true))) ∧
    (∀ (st : Straps),
     s.fget (preq .fpower) = 0 →
     s.fget BOOT_STAT_PHASE ≠ 6 →
     Yields (exec (.supplyMonitorRelease .fvs st) s) (fun t =>
       Regs s t [(pstat .fpower, 2)] ∧ Quiet s t ∧ t.phys.ok = s.phys.ok ||| 0x80)) ∧
    (∀ (r : Rail) (mv : Nat),
     r = .vddAon ∨ r = .vddPll ∨ r = .vddIoa ∨ r = .vddIob ∨ r = .vddSer ∨ (r = .vddCore ∧ s.fget REC_CFG_EN = 0) →
     Yields (exec (.overvoltageEvent r mv) s) (fun t =>
       Regs s t [(PWR_EVT_OV, 1)] ∧ Quiet s t)) ∧
    (∀ (mv : Nat),
     s.fget REC_CFG_EN = 0 →
     Yields (exec (.overvoltageEvent .fvs mv) s) (fun t =>
       Regs s t [(PWR_EVT_FVS_HIGH, 1)] ∧ Quiet s t ∧ t.phys = { s.phys with fvsHigh := true })) ∧
    (∀ (mv : Nat),
     s.fget REC_CFG_EN = 1 →
     exec (.overvoltageEvent .vddCore mv) s = .next ((s.raise PWR_EVT_OV).extMax 6 mv 0) ∧
     exec (.overvoltageEvent .fvs mv) s =
       .next ({ s.raise PWR_EVT_FVS_HIGH with phys := { s.phys with fvsHigh := true } }.extMax 2 mv 0)) ∧
    (Yields (exec (.coreWarn) s) (fun t =>
       Regs s t [(PWR_EVT_CORE_WARN, 1)] ∧ Quiet s t ∧
       t.bkup = { s.bkup with
         lastCycLo := s.cyc.count.setWidth 32, lastCycHi := (s.cyc.count >>> 32).setWidth 32
         lastTime := BitVec.ofNat 32 s.now.trainNs, stampValid := true })) ∧
    (Yields (exec (.vbkLow) s) (fun t =>
       Regs s t [(PWR_EVT_VBK_LOW, 1)] ∧ Quiet s t ∧ t.phys = { s.phys with vbkLow := true })) ∧
    (Yields (exec (.bkupChangeover) s) (fun t =>
       Regs s t [] ∧ Quiet s t ∧ t.phys = { s.phys with onVbk := !s.phys.ok.getLsbD 0 } ∧
       t.bkup = { s.bkup with lost := s.bkup.lost || (s.phys.vbkDown && !s.phys.ok.getLsbD 0) })) ∧
    (∀ (st : Straps),
     s.phys.ok.extractLsb' 0 6 = 0x3F →
     s.bkup.lost = false →
     RstSrc.por ∈ s.rst.sources →
     exec (.powerGood st) s = .next (({ s with rst := { s.rst with porSeen := true }, now := { s.now with epNs := 0 } }).releaseSource .por st)) ∧
    (∀ (st : Straps),
     s.phys.ok.extractLsb' 0 6 = 0x3F →
     s.bkup.lost = false →
     RstSrc.resetN ∈ s.rst.sources →
     Yields (exec (.powerGood st) s) (fun t =>
       Regs s t [] ∧ Quiet s t ∧ t.rst.active = s.rst.active ∧
       t.rst.sources = s.rst.sources.filter (· ≠ .por))) ∧
    (s.fget (preq .flogic) = 0 →
     s.fget BOOT_STAT_PHASE ≠ 6 →
     Yields (exec (.fieldDiePowerOn) s) (fun t =>
       Regs s t [(pstat .flogic, 2)] ∧ Quiet s t ∧ t.fd = Fd.reset ∧ t.phys.ok = s.phys.ok ||| 0x40)) ∧
    (Yields (exec .fieldDiePowerOn s) (fun t => t.phys.ok = s.phys.ok ||| 0x40 ∧ t.mem = s.mem ∧ t.flash = s.flash)) ∧
    (s.phys.ok.getLsbD 0 = true →
     s.fget CLK_STAT_SRC ≠ 0 →
     s.clk.hold = false →
     Yields (exec (.rtcTick) s) (fun t =>
       Regs s t [] ∧ Quiet s t ∧ t.bkup = { s.bkup with rtc := s.bkup.rtc + 1 })) ∧
    (s.phys.ok.getLsbD 0 = false ∨ s.fget CLK_STAT_SRC = 0 ∨ s.clk.hold = true →
     exec .rtcTick s = .next s)

/-- Paddock power (R64, R70 to R73): power good turns the paddock whose switch is closed ON, in the start-up sequence, which then closes
the next one's, or on the application's request, after which it reloads; without it within the time it stays OFF with its
fault bit; a permitted request to switch off a paddock that is ON sets its request bit and DRAIN and waits for its 20 ms or for the
boundary, and one that is OFF stays so; a cancel takes both back; a request to switch a supplied paddock that is OFF on starts its ramp; a reloaded
paddock joins at the next boundary; the end of the 20 ms leaves it to the boundary. A request that R70 does not permit is
answered TARGET. -/
def Obligations.PaddockSwitching : Prop :=
  ∀ (s : State),
    (∀ (p : Paddock) (ps : List Paddock),
     s.pwr.ramp = [] →
     s.pwr.appRamp = p :: ps →
     p.core ≠ none ∨ p = .net ∨ p = .bus ∨ p = .signal →
     s.fget (preq p) = 0 →
     Yields (exec (.paddockPowerGood) s) (fun t =>
       t.fget (pstat p) = 2 ∧ t.pwr = { s.pwr with appRamp := ps, reload := s.pwr.reload ++ [p] } ∧
       (∀ g ∈ paddockGates p, t.fget (gateF g) = 1) ∧ Quiet s t)) ∧
    (∀ (p q : Paddock) (ps : List Paddock),
     s.pwr.ramp = p :: q :: ps →
     p ≠ q →
     Yields (exec (.paddockPowerGood) s) (fun t =>
       t.fget (pstat p) = 2 ∧ t.fget (pstat q) = 1 ∧ t.pwr = { s.pwr with ramp := q :: ps } ∧ Quiet s t)) ∧
    (∀ (p : Paddock) (ps : List Paddock),
     s.pwr.ramp = [] →
     s.pwr.appRamp = p :: ps →
     p.core ≠ none ∨ p = .net ∨ p = .bus ∨ p = .signal →
     Yields (exec (.paddockPowerTimeout) s) (fun t =>
       Regs s t [(pstat p, 0), (pfault p, 1)] ∧ Quiet s t ∧
       t.pwr = { s.pwr with appRamp := ps, drain20 := s.pwr.drain20.filter (· ≠ p), offAt := s.pwr.offAt.filter (· ≠ p) })) ∧
    (∀ (p q : Paddock) (ps : List Paddock),
     s.pwr.ramp = p :: q :: ps →
     p ≠ q →
     Yields (exec (.paddockPowerTimeout) s) (fun t =>
       Regs s t [(pstat p, 0), (pfault p, 1), (pstat q, 1)] ∧ Quiet s t ∧ t.pwr = { s.pwr with ramp := q :: ps })) ∧
    (∀ (p : Paddock),
     p = .net ∨ p = .bus →
     s.offPermitted p = true →
     s.fget (pstat p) = 1 ∨ s.fget (pstat p) = 2 →
     Yields (exec (.pwrReqSwitchOff p) s) (fun t =>
       Regs s t [(preq p, 1), (pstat p, 3)] ∧ Quiet s t ∧ t.resp = .okay ∧
       t.pwr = { s.pwr with drain20 := s.pwr.drain20 ++ [p] })) ∧
    (∀ (p : Paddock),
     p ≠ .net →
     p ≠ .bus →
     s.offPermitted p = true →
     s.fget (pstat p) = 1 ∨ s.fget (pstat p) = 2 →
     Yields (exec (.pwrReqSwitchOff p) s) (fun t =>
       Regs s t [(preq p, 1), (pstat p, 3)] ∧ Quiet s t ∧ t.resp = .okay ∧
       t.pwr = { s.pwr with offAt := s.pwr.offAt ++ [p] })) ∧
    (∀ (p : Paddock),
     s.offPermitted p = true →
     s.fget (pstat p) = 0 →
     Yields (exec (.pwrReqSwitchOff p) s) (fun t =>
       Regs s t [(preq p, 1)] ∧ Quiet s t ∧ t.resp = .okay ∧ t.pwr = s.pwr)) ∧
    (∀ (p : Paddock),
     s.offPermitted p = false →
     exec (.pwrReqSwitchOff p) s = refusedWith s) ∧
    (∀ (p : Paddock),
     s.fget (pstat p) = 3 →
     s.supplied p = true →
     Yields (exec (.pwrReqCancel p) s) (fun t =>
       Regs s t [(preq p, 0), (pstat p, if p ∈ s.pwr.appRamp then 1 else 2)] ∧ Quiet s t ∧ t.resp = .okay ∧
       t.pwr = { s.pwr with drain20 := s.pwr.drain20.filter (· ≠ p)
                            offAt := s.pwr.offAt.filter (· ≠ p) })) ∧
    (∀ (p : Paddock),
     hasReq p = true →
     p.core.all (fun k => !s.flag (retiredF k)) = true →
     s.fget (pstat p) = 0 →
     s.supplied p = true →
     Yields (exec (.pwrReqSwitchOn p) s) (fun t =>
       Regs s t [(preq p, 0), (pstat p, 1)] ∧ Quiet s t ∧ t.resp = .okay ∧
       t.pwr = { s.pwr with appRamp := s.pwr.appRamp ++ [p] })) ∧
    (∀ (k : CoreId),
     s.flag (retiredF k) = true →
     exec (.pwrReqSwitchOn k.paddock) s = refusedWith s) ∧
    (∀ (k : CoreId),
     k.paddock ∈ s.pwr.reload →
     Yields (exec (.paddockReloadDone k.paddock) s) (fun t =>
       Regs s t [] ∧ Quiet s t ∧
       t.pwr = { s.pwr with reload := s.pwr.reload.filter (· ≠ k.paddock)
                            join := s.pwr.join ++ [k.paddock] })) ∧
    (∀ (p : Paddock),
     p ∈ s.pwr.reload →
     exec (.paddockReloadDone p) s =
       .next (let u := (paddockUnits p).foldl (fun x n => x.unitReload n) s
         { u with pwr := { u.pwr with reload := u.pwr.reload.filter (· ≠ p), join := u.pwr.join ++ [p] } })) ∧
    (∀ (p : Paddock),
     p ∈ s.pwr.drain20 →
     Yields (exec (.plannedDrainExpiry (.switchOff p)) s) (fun t =>
       Regs s t [] ∧ Quiet s t ∧
       t.pwr = { s.pwr with drain20 := s.pwr.drain20.filter (· ≠ p), offAt := s.pwr.offAt ++ [p] })) ∧
    (∀ (e : LocalEp) (es : List LocalEp),
     s.rst.locals = e :: es →
     e.phase = .drain →
     exec (.plannedDrainExpiry (.localReset e.target)) s = .next (s.localAbsorb e .software).evalSets)

/-- Sources of device reach (R76 to R83), inside an episode or out of one: asserted, a source sets its bit of SYS_RSTCAUSE and
the release begins anew; a source that ends while another holds only leaves the list; the last one that ends starts the
release sequence, which samples the straps and counts the episode once; a released role goes on from step 9. A software reset with a
wrong key, or without its enable, and a debug request of a target that Table 04-4 does not list or refuses, is answered TARGET; a debug
request of a listed target begins its local reset, and none is taken while DBG_TRST_N is low. -/
def Obligations.ResetSources : Prop :=
  ∀ (s : State),
    (Yields (exec (.resetNLowFiltered) s) (fun t =>
       Asserted s t .resetN ∧ t.phys = { s.phys with resetNLow := true })) ∧
    (s.phys.resetNLow = true →
     Yields (exec (.resetNLowWidened) s) (fun t =>
       Asserted s t .resetN ∧ t.fget SYS_RSTCAUSE_EXT_LONG = 1 ∧ t.fget SYS_RSTCAUSE_REACH = 2)) ∧
    (∀ (st : Straps) (r : RstSrc),
     r ∈ s.rst.sources →
     r ≠ .resetN →
     Yields (exec (.resetNRelease st) s) (fun t =>
       Regs s t [] ∧ Quiet s t ∧ t.phys = { s.phys with resetNLow := false } ∧
       t.rst = { s.rst with sources := s.rst.sources.filter (· ≠ .resetN) })) ∧
    (∀ (st : Straps),
     s.rst.active = true →
     s.rst.step = 0 →
     s.rst.sources = [.resetN] →
     exec (.resetNRelease st) s =
       .next ({ s with phys := { s.phys with resetNLow := false }, rst := { s.rst with sources := [] } }.releaseStart st)) ∧
    (∀ (src : StretchSrc) (st : Straps),
     s.rst.active = true →
     s.rst.step = 0 →
     s.rst.sources = [stretchSrc src] →
     s.rst.counted = false →
     s.fget SYS_RSTCNT_COUNT = (~~~s.bkup.rstcntM).toNat →
     s.fget SYS_RSTCNT_COUNT < 0xFFFFFFFF →
     Yields (exec (.resetStretchExpiry src st) s) (fun t =>
       t.rst.active = true ∧ t.rst.sources = [] ∧ t.rst.step = 4 ∧ t.rst.counted = true ∧
       t.fget SYS_RSTCNT_COUNT = s.fget SYS_RSTCNT_COUNT + 1 ∧
       t.bkup.rstcntM = ~~~(BitVec.ofNat 32 (s.fget SYS_RSTCNT_COUNT + 1)) ∧
       t.fget SYS_PINSTAT_MODE = st.mode.toNat ∧ t.fget SYS_PINSTAT_SLOT_ID = st.slotId.toNat ∧
       Quiet s t)) ∧
    (∀ (src : StretchSrc) (st : Straps) (r : RstSrc),
     r ∈ s.rst.sources →
     r ≠ stretchSrc src →
     Yields (exec (.resetStretchExpiry src st) s) (fun t =>
       Regs s t [] ∧ Quiet s t ∧
       t.rst = { s.rst with sources := s.rst.sources.filter (· ≠ stretchSrc src) })) ∧
    (∀ (target : Nat),
     Yields (exec (.debugResetCommand true .deviceWarm target) s) (fun t =>
       Asserted s t .debug) ∧
     Yields (exec (.debugResetCommand true .deviceCold target) s) (fun t =>
       Asserted s t .debug ∧ t.fget SYS_RSTCAUSE_REACH = 2)) ∧
    (∀ (target : Nat),
     s.localAllowed target = true →
     (paddockTarget target = true → exec (.debugResetCommand true .paddock target) s =
       .next ((s.answer .okay).localBegin target .debug).evalSets) ∧
     (paddockTarget target = false → exec (.debugResetCommand true .unit target) s =
       .next ((s.answer .okay).localBegin target .debug).evalSets)) ∧
    (∀ (target : Nat),
     s.localAllowed target = false →
     exec (.debugResetCommand true .paddock target) s = refusedWith s ∧ exec (.debugResetCommand true .unit target) s = refusedWith s) ∧
    (∀ (reach : Reach) (target : Nat),
     exec (.debugResetCommand false reach target) s = .next s) ∧
    (∀ (st : Straps) (r : RstSrc),
     r ∈ s.rst.sources →
     r ≠ .debug →
     Yields (exec (.debugResetRelease st) s) (fun t =>
       Regs s t [] ∧ Quiet s t ∧
       t.rst = { s.rst with sources := s.rst.sources.filter (· ≠ .debug)
                            locals := s.rst.locals.map (fun e => e.release .debug) })) ∧
    (∀ (st : Straps),
     s.rst.active = true →
     s.rst.step = 0 →
     s.rst.sources = [.debug] →
     s.rst.locals = [] →
     exec (.debugResetRelease st) s = .next ({ s with rst := { s.rst with sources := [] } }.releaseStart st)) ∧
    (s.rst.active = true →
     s.rst.step = 8 →
     exec .rstOutMinLowExpiry s = .next { s with rst := { s.rst with minLowDone := true } }.releaseEnd) ∧
    (s.rst.active = true →
     s.rst.step = 8 →
     s.fget SYS_PINSTAT_TEST_EN = 0 →
     s.fget SYS_PINSTAT_MODE = 1 →
     Yields (exec (.rstOutMinLowExpiry) s) (fun t =>
       Regs s t [(FLK_STAT_FWD, 1)] ∧ Quiet s t ∧ t.rst.active = false ∧ t.rst.step = 9 ∧
       t.pins = { s.pins with rstOut := true } ∧ t.now.hubRun = true ∧ t.now.hubNs = 0)) ∧
    (s.rst.active = true →
     s.rst.step = 8 →
     s.fget SYS_PINSTAT_TEST_EN = 0 →
     2 ≤ s.fget SYS_PINSTAT_MODE →
     Yields (exec (.rstOutMinLowExpiry) s) (fun t =>
       Regs s t [(BOOT_STAT_MODE_INVALID, 1)] ∧ Quiet s t ∧ t.rst.active = true ∧ t.pins = s.pins)) ∧
    (s.accepts = true →
     s.fget SYS_RSTCFG_SW_WARM_EN = 1 →
     Yields (exec (.swrstDeviceWarm 0xA5) s) (fun t =>
       Asserted s t .soft ∧ t.resp = .okay)) ∧
    (∀ (key : BitVec 8),
     key ≠ 0xA5 ∨ s.fget SYS_RSTCFG_SW_WARM_EN = 0 ∨ s.accepts = false →
     exec (.swrstDeviceWarm key) s = refusedWith s) ∧
    (∀ (key : BitVec 8) (target : Nat),
     key ≠ 0xA5 ∨ s.fget SYS_RSTCFG_SW_LOCAL_EN = 0 ∨ s.accepts = false ∨ s.localAllowed target = false →
     exec (.swrstPaddock key target) s = refusedWith s ∧ exec (.swrstUnit key target) s = refusedWith s)

/-- Paddock and unit episodes (R82, R84, R90, R91), for every target of Table 04-4: a request that may be made begins one, and the
safety sets are evaluated (R93); a planned reset of a target that releases a bypass begins with DRAIN; another reset of a
unit asserts it and clears its registers; inside a running device episode none begins; a source that releases leaves the episodes that it holds; the hold of an episode ends in
its reload, and the reload in the wait for the boundary. A trim copy that passes makes the trims valid and names the copy; copy
A failing hands over to copy B (R94 to R96). -/
def Obligations.LocalResetsAndTrims : Prop :=
  ∀ (s : State),
    (∀ (target : Nat),
     s.accepts = true →
     s.localAllowed target = true →
     s.fget SYS_RSTCFG_SW_LOCAL_EN = 1 →
     (paddockTarget target = true →
       exec (.swrstPaddock 0xA5 target) s = .next ((s.answer .okay).localBegin target .software).evalSets) ∧
     (paddockTarget target = false →
       exec (.swrstUnit 0xA5 target) s = .next ((s.answer .okay).localBegin target .software).evalSets)) ∧
    (s.accepts = true →
     s.inService = false →
     s.rst.locals = [] →
     s.fget SYS_RSTCFG_SW_LOCAL_EN = 1 →
     Yields (exec (.swrstPaddock 0xA5 0x08) s) (fun t =>
       Regs s t [] ∧ Quiet s t ∧ t.resp = .okay ∧
       t.rst = { s.rst with locals := [{ target := 8, src := .software, held := [], phase := .drain, wdrop := 0 }] })) ∧
    (s.accepts = true →
     s.inService = false →
     s.rst.locals = [] →
     s.memx.hubQ = [] →
     s.fget SYS_RSTCFG_SW_LOCAL_EN = 1 →
     Yields (exec (.swrstUnit 0xA5 0x28) s) (fun t =>
       t.resp = .okay ∧ Quiet s t ∧
       t.rst = { s.rst with locals := [{ target := 0x28, src := .software, held := [], phase := .hold, wdrop := 0 }] } ∧
       RegsOutside s t 0x40090000 0x40094000 ∧
       t.fget (CAN_n_CFG_MODE 0) = 0)) ∧
    (∀ (target : Nat) (src : LocalSrc),
     s.localAllowed target = true ∨ ((target = 0x0B ∨ target = 0x0C) ∧ src = .brownout) →
     exec (.localReset target src) s = .next ((s.localBegin target src).evalSets)) ∧
    (∀ (target : Nat) (src : LocalSrc),
     s.localAllowed target = true →
     s.rst.active = false →
     s.rst.locals = [] →
     s.inService = false →
     src ≠ .software →
     Yields (exec (.localReset target src) s) (fun t =>
       t.rst.locals.map (fun e => (e.target, e.src, e.held, e.phase)) = [(target, src, [src], .asserted)])) ∧
    (∀ (target : Nat) (src : LocalSrc),
     s.rst.active = true →
     s.inService = false →
     exec (.localReset target src) s = .next s) ∧
    (∀ (target : Nat) (src : LocalSrc),
     target = 0x0A →
     s.boot.act.loaded = true →
     s.boot.act.safety = true →
     exec (.localReset target src) s = .next s) ∧
    (∀ (target : Nat),
     s.localIn target .hold = true →
     target ≠ 0x0A →
     Yields (exec (.localResetHoldExpiry target) s) (fun t =>
       Regs s t [] ∧ Quiet s t ∧ t.localIn target .reload = true ∧ t.localIn target .hold = false)) ∧
    (s.localIn 0x0A .hold = true →
     Yields (exec (.localResetHoldExpiry 0x0A) s) (fun t =>
       t.localIn 0x0A .reload = true ∧ t.localIn 0x0A .hold = false ∧ t.fget FLD_STAT_LINK = 1 ∧ Quiet s t)) ∧
    (s.localIn 0x0A .reload = true →
     Yields (exec (.localResetReloadDone 0x0A) s) (fun t =>
       t.localIn 0x0A .boundary = true ∧ t.localIn 0x0A .reload = false ∧ Quiet s t)) ∧
    (∀ (target : Nat),
     s.localIn target .reload = true →
     exec (.localResetReloadDone target) s =
       .next (((targetUnits target).foldl (fun x u => x.unitReload u) s).localMap target
         (fun e => if e.phase = .reload then { e with phase := .boundary } else e))) ∧
    (∀ (c : Nat),
     s.rst.trimCopy = some c →
     c < 2 →
     Yields (exec (.trimCopyDone true) s) (fun t =>
       Regs s t [(SYS_RSTSTAT_TRIM_VALID, 1), (SYS_RSTSTAT_TRIM_SRC, c + 1), (SYS_RSTSTAT_TRIM_FAULT, 0)] ∧
       Quiet s t ∧ t.rst = { s.rst with trimCopy := none } ∧ t.clk = { s.clk with qual := .hrc1 })) ∧
    (s.rst.trimCopy = some 0 →
     Yields (exec (.trimCopyDone false) s) (fun t =>
       Regs s t [] ∧ Quiet s t ∧ t.rst = { s.rst with trimCopy := some 1 })) ∧
    (s.rst.trimCopy = some 1 →
     Yields (exec (.trimCopyDone false) s) (fun t =>
       Regs s t [(SYS_RSTSTAT_TRIM_SRC, 3), (SYS_RSTSTAT_TRIM_FAULT, 1)] ∧ Quiet s t ∧
       t.clk = { s.clk with qual := .hrc1 }))

/-- Step 4 of the release (R103 to R106): an oscillator that runs settles; once both HRC oscillators have settled without valid
trims, trim copy A is read; a window within the limit (3 percent, wide limits of 11 while the trims are the defaults) qualifies HRC_1 and then,
within 2 percent, the crystal as reference; a crystal that does not qualify leaves HRC_1 as reference with its event; PLL lock ends the step; HRC_1
not qualified in time is a clock fault with code 3. Later a passing window qualifies HRC_1 again (R109), and in CLOCK_HOLD either oscillator's ends the
hold as a clock fault with code 1 (R112). A window beyond its limit does nothing. -/
def Obligations.ClockQualification : Prop :=
  ∀ (s : State),
    (s.clk.hrc1Stopped = false →
     Yields (exec (.hrcSettleExpiry .hrc1) s) (fun t =>
       Regs s t [] ∧ Quiet s t ∧ t.clk.hrc1Settling = false)) ∧
    (s.clk.hrc2Stopped = false →
     Yields (exec (.hrcSettleExpiry .hrc2) s) (fun t =>
       Regs s t [] ∧ Quiet s t ∧ t.clk.hrc2Settling = false)) ∧
    (s.rst.active = true →
     s.rst.step = 4 →
     s.clk.qual = .off →
     s.clk.hrc2Settling = false →
     s.clk.hrc1Stopped = false →
     s.clk.hrc2Stopped = false →
     s.fget SYS_RSTSTAT_TRIM_VALID = 0 →
     Yields (exec (.hrcSettleExpiry .hrc1) s) (fun t =>
       Regs s t [] ∧ Quiet s t ∧ t.clk = { s.clk with hrc1Settling := false, qual := .trim } ∧
       t.rst = { s.rst with trimCopy := some 0 })) ∧
    (s.clk.hrc1Stopped = true →
     Yields (exec (.hrc1RestartExpiry) s) (fun t =>
       Regs s t [] ∧ Quiet s t ∧ t.clk.hrc1Stopped = false ∧ t.clk.hrc2Stopped = false ∧
       t.clk.hrc1Settling = true ∧ t.clk.hrc2Settling = (s.clk.hrc2Settling || s.clk.hrc2Stopped))) ∧
    (∀ (count : Nat),
     windowOk count s.hrc1Pct = true →
     s.clk.qual = .hrc1 →
     s.fget CLK_STAT_HRC1_Q = 0 →
     s.clk.hrc1Settling = false →
     s.clk.hrc1Stopped = false →
     Yields (exec (.qualWindowEnd .hrc1 count) s) (fun t =>
       Regs s t [(CLK_STAT_HRC1_Q, 1), (CLK_STAT_WIDE, if s.fget SYS_RSTSTAT_TRIM_SRC = 3 then 1 else 0)] ∧
       Quiet s t ∧ t.clk = { s.clk with qual := .xtal, monHH := true, monXH1 := true })) ∧
    (∀ (count : Nat),
     windowOk count s.hrc1Pct = true →
     s.clk.qual = .done →
     s.clk.hold = false →
     s.fget CLK_STAT_HRC1_Q = 0 →
     s.clk.hrc1Settling = false →
     s.clk.hrc1Stopped = false →
     Yields (exec (.qualWindowEnd .hrc1 count) s) (fun t =>
       Regs s t [(CLK_STAT_HRC1_Q, 1), (CLK_STAT_WIDE, if s.fget SYS_RSTSTAT_TRIM_SRC = 3 then 1 else 0),
         (CLK_EVT_HRC1_REQUAL, 1)] ∧ Quiet s t)) ∧
    (∀ (count : Nat),
     4096 - 81 ≤ count →
     count ≤ 4096 + 81 →
     s.clk.qual = .xtal →
     Yields (exec (.qualWindowEnd .xtal count) s) (fun t =>
       Regs s t [(CLK_STAT_XTAL_Q, 1), (CLK_STAT_SRC, 1)] ∧ Quiet s t ∧ t.clk = { s.clk with qual := .pll })) ∧
    (∀ (count : Nat),
     s.clk.hold = true →
     s.clk.qual = .done →
     (windowOk count 2 = true → exec (.qualWindowEnd .xtal count) s = .next ((s.raise CLK_STAT_XTAL_Q).clockFault 1)) ∧
     (windowOk count s.hrc1Pct = true → s.fget CLK_STAT_HRC1_Q = 0 → s.clk.hrc1Settling = false → s.clk.hrc1Stopped = false →
       exec (.qualWindowEnd .hrc1 count) s = .next ((s.hrc1Qualify.raise CLK_EVT_HRC1_REQUAL).clockFault 1))) ∧
    (∀ (count : Nat),
     4096 + 82 ≤ count →
     exec (.qualWindowEnd .xtal count) s = .next s) ∧
    (∀ (count : Nat),
     windowOk count s.hrc1Pct = false →
     exec (.qualWindowEnd .hrc1 count) s = .next s) ∧
    (∀ (count : Nat),
     (windowOk count 3 = true ↔ 3974 ≤ count ∧ count ≤ 4218) ∧ (windowOk count 11 = true ↔ 3646 ≤ count ∧ count ≤ 4546)) ∧
    (s.clk.qual = .pll →
     s.rst.step ≠ 4 →
     Yields (exec (.pllLock) s) (fun t =>
       Regs s t [(CLK_STAT_PLL_C_LOCK, 1), (CLK_STAT_PLL_V_LOCK, 1), (CLK_STAT_PLL_S_LOCK, 1)] ∧
       Quiet s t ∧ t.clk = { s.clk with qual := .done, monXH := true, monHH := true, monXH1 := true } ∧
       t.rst = { s.rst with step4Done := true })) ∧
    (s.clk.qual = .pll →
     exec .pllLock s =
       .next (let u := ((s.raise CLK_STAT_PLL_C_LOCK).raise CLK_STAT_PLL_V_LOCK).raise CLK_STAT_PLL_S_LOCK
         ({ u with clk := { u.clk with qual := .done, monXH := true, monHH := true, monXH1 := true }
                   rst := { u.rst with step4Done := true } }).releaseAdvance)) ∧
    (s.rst.active = true →
     s.rst.step = 4 →
     s.clk.qual = .off ∨ s.clk.qual = .trim ∨ s.clk.qual = .hrc1 →
     Yields (exec (.hrc1QualTimeout) s) (fun t =>
       Asserted s t .clock ∧ t.fget CLK_FCAUSE_CODE = 3)) ∧
    (s.clk.qual = .xtal →
     Yields (exec (.xtalQualTimeout) s) (fun t =>
       Regs s t [(CLK_EVT_XTAL_FAIL_START, 1), (CLK_STAT_SRC, 2)] ∧ Quiet s t ∧ t.clk = { s.clk with qual := .pll }))

/-- Monitoring (R107 to R114): the results of the windows that end are attributed as Table 05-3 gives, outside CLOCK_HOLD and once step 4
has ended; with both oscillators qualified, a crystal that leaves its 20,000 ppm or misses an edge is lost and the
reference changes to HRC_1 with the event; HRC_1 out of its limits is lost and restarted; comparisons within their limits change no
register. The end of CLOCK_HOLD and the loss of a PLL lock are clock faults with codes 2 and 4 and assert the clock source, the islands of the lost PLL gated; the loss of SER_REFCLK
takes the links down, with LINK_CHG where one was up. -/
def Obligations.ClockMonitoring : Prop :=
  ∀ (s : State),
    (∀ (xh hh xh1 : Option Nat),
     s.clk.qual = .done →
     s.clk.hold = false →
     s.fget CLK_STAT_XTAL_Q = 1 →
     s.fget CLK_STAT_HRC1_Q = 1 →
     xh.all (· ≤ 20000) = true →
     hh.all (· ≤ 30000) = true →
     xh1.all (· ≤ 20000) = true →
     s.clk.monXH = true →
     s.clk.monHH = true →
     s.clk.monXH1 = true →
     Yields (exec (.monitorWindowEnd xh hh xh1) s) (fun t =>
       Regs s t [] ∧ Quiet s t ∧ t.clk = s.clk)) ∧
    (∀ (d : Nat),
     s.clk.qual = .done →
     s.clk.hold = false →
     s.fget CLK_STAT_XTAL_Q = 1 →
     s.fget CLK_STAT_HRC1_Q = 1 →
     s.clk.monHH = true →
     20000 < d →
     Yields (exec (.monitorWindowEnd (some d) none none) s) (fun t =>
       Regs s t [(CLK_STAT_XTAL_Q, 0), (CLK_EVT_XTAL_LOST, 1), (CLK_STAT_SRC, 2)] ∧ Quiet s t ∧
       t.clk.qual = .done ∧ t.clk.hold = false)) ∧
    (∀ (d : Nat),
     s.clk.qual = .done →
     s.clk.hold = false →
     s.fget CLK_STAT_XTAL_Q = 1 →
     s.fget CLK_STAT_HRC1_Q = 1 →
     s.clk.monXH = true →
     30000 < d →
     s.fget CLK_STAT_SRC = 1 →
     Yields (exec (.monitorWindowEnd none (some d) none) s) (fun t =>
       Regs s t [(CLK_STAT_HRC1_Q, 0), (CLK_EVT_HRC1_LOST, 1)] ∧ Quiet s t ∧
       t.clk.hrc1Stopped = true ∧ t.clk.hold = false)) ∧
    (∀ (d : Nat),
     s.clk.qual = .done →
     s.clk.hold = false →
     s.fget CLK_STAT_XTAL_Q = 1 →
     s.fget CLK_STAT_HRC1_Q = 1 →
     s.clk.monHH = true →
     s.clk.monXH1 = true →
     d ≤ 20000 →
     Yields (exec (.monitorWindowEnd (some d) none none) s) (fun t =>
       Regs s t [] ∧ Quiet s t ∧ t.clk = { s.clk with monXH := true })) ∧
    (∀ (xh hh xh1 : Option Nat),
     s.clk.qual ≠ .done ∨ s.clk.hold = true →
     exec (.monitorWindowEnd xh hh xh1) s = .next s) ∧
    (s.clk.qual = .done →
     s.clk.hold = false →
     s.fget CLK_STAT_XTAL_Q = 1 →
     s.fget CLK_STAT_HRC1_Q = 1 →
     s.clk.monHH = true →
     s.fget CLK_STAT_SRC = 1 →
     Yields (exec (.missingEdgeTrip) s) (fun t =>
       Regs s t [(CLK_STAT_XTAL_Q, 0), (CLK_EVT_XTAL_LOST, 1), (CLK_STAT_SRC, 2)] ∧ Quiet s t)) ∧
    (s.clk.hold = true →
     Yields (exec (.clockHoldTimeout) s) (fun t =>
       t.rst.active = true ∧ RstSrc.clock ∈ t.rst.sources ∧ t.fget ⟨0x40000004, RstSrc.clock.bit, 1⟩ = 1 ∧
       t.fget CLK_FCAUSE_CODE = 2 ∧ t.rst.step = 0 ∧ t.clk.hold = false)) ∧
    (∀ (p : Pll),
     s.clk.qual = .done →
     s.clk.hold = false →
     exec (.pllLockLoss p) s = .next (((s.lower (pllLockF p)).fset CLK_GMAP_ISLAND
       (BitVec.ofNat 18 (s.fget CLK_GMAP_ISLAND) &&& pllKeeps p).toNat).clockFault 4)) ∧
    (∀ (p : Pll),
     s.clk.qual = .done →
     s.clk.hold = false →
     s.rst.active = true →
     Yields (exec (.pllLockLoss p) s) (fun t =>
       Asserted s t .clock ∧ t.fget CLK_FCAUSE_CODE = 4)) ∧
    (s.fget ETH_STAT_LINK = 0 →
     Yields (exec (.serrefLoss) s) (fun t =>
       Regs s t [(CLK_EVT_SERREF_BAD, 1), (ETH_STAT_LINK, 0), (ETH_STAT_SPEED, 0)] ∧ Quiet s t ∧
       t.phys = { s.phys with serrefOk := false }) ∧
     Yields (exec (.serrefReturn) s) (fun t =>
       Regs s t [] ∧ Quiet s t ∧ t.phys = { s.phys with serrefOk := true })) ∧
    (s.fget ETH_STAT_LINK ≠ 0 →
     Yields (exec (.serrefLoss) s) (fun t =>
       Regs s t [(CLK_EVT_SERREF_BAD, 1), (ETH_EVT_LINK_CHG, 1), (ETH_STAT_LINK, 0), (ETH_STAT_SPEED, 0)] ∧ Quiet s t ∧
       t.phys = { s.phys with serrefOk := false }) ∧
     Yields (exec (.serrefReturn) s) (fun t =>
       Regs s t [] ∧ Quiet s t ∧ t.phys = { s.phys with serrefOk := true }))

/-- Disciplining, of either oscillator, moves a trim by one step toward the source inside the limit, shows 3 with DISC_LIMIT where it reaches the
limit, holds it with DISC_HOLD when the source is gone, and does nothing without a source (R117; the sign of the operand is the model's choice, log entry 34). A gate of an unused unit
closes after the handshake with DONE, or stays open with BUSY after the time-out, and opens with DONE; a request that R118 refuses shows
REFUSED; a request while one is pending, or for a code outside Table 05-4, is answered TARGET (R118, R119). CLK_OUTCFG takes a listed value and refuses a reserved
one (R121); PPS_OUT follows PPS_EN (R122). -/
def Obligations.DiscipliningGatesOutputs : Prop :=
  ∀ (s : State),
    (∀ (o : Hrc) (err v : Int),
     s.fget (discSrcF o) ≠ 0 →
     s.discAvail (s.fget (discSrcF o)) = true →
     v = discOfs s o + err.sign →
     -(min (s.fget CLK_DISC_LIMIT) 500 : Int) < v →
     v < min (s.fget CLK_DISC_LIMIT) 500 →
     -(min (s.fget CLK_DISC_LIMIT) 500 : Int) ≤ discOfs s o →
     discOfs s o ≤ min (s.fget CLK_DISC_LIMIT) 500 →
     Yields (exec (.disciplineStep o err) s) (fun t =>
       Regs s t [(discOfsF o, (BitVec.ofInt 16 v).toNat), (discStF o, 1)] ∧ Quiet s t)) ∧
    (∀ (o : Hrc) (err v : Int),
     s.fget (discSrcF o) ≠ 0 →
     s.discAvail (s.fget (discSrcF o)) = true →
     v = discOfs s o + err.sign →
     err ≠ 0 →
     v.natAbs = min (s.fget CLK_DISC_LIMIT) 500 →
     (discOfs s o).natAbs < min (s.fget CLK_DISC_LIMIT) 500 →
     Yields (exec (.disciplineStep o err) s) (fun t =>
       Regs s t [(discOfsF o, (BitVec.ofInt 16 v).toNat), (discStF o, 3), (CLK_EVT_DISC_LIMIT, 1)] ∧ Quiet s t)) ∧
    (∀ (o : Hrc) (err : Int),
     s.fget (discSrcF o) ≠ 0 →
     s.discAvail (s.fget (discSrcF o)) = false →
     s.fget (discStF o) ≠ 2 →
     Yields (exec (.disciplineStep o err) s) (fun t =>
       Regs s t [(CLK_EVT_DISC_HOLD, 1), (discStF o, 2)] ∧ Quiet s t)) ∧
    (∀ (o : Hrc) (err : Int),
     s.fget (discSrcF o) = 0 →
     Yields (exec (.disciplineStep o err) s) (fun t =>
       Regs s t [(discStF o, 0)] ∧ Quiet s t)) ∧
    (∀ (code : BitVec 8),
     s.fget CLK_GSTAT_PENDING = 0 →
     s.gateRefused code.toNat false = false →
     s.fget (gateF code.toNat) = 1 →
     gateCode code.toNat = true →
     Yields (exec (.clkGateClose code) s) (fun t =>
       Regs s t [(CLK_GSTAT_CODE, code.toNat), (CLK_GSTAT_RESULT, 0), (CLK_GSTAT_PENDING, 1)] ∧ Quiet s t ∧
       t.resp = .okay)) ∧
    (∀ (code : BitVec 8),
     s.fget CLK_GSTAT_PENDING = 0 →
     s.gateRefused code.toNat false = false →
     s.fget (gateF code.toNat) = 0 →
     gateCode code.toNat = true →
     Yields (exec (.clkGateClose code) s) (fun t =>
       Regs s t [(CLK_GSTAT_CODE, code.toNat), (CLK_GSTAT_RESULT, 1)] ∧ Quiet s t ∧ t.resp = .okay ∧
       t.clk = { s.clk with opening := s.clk.opening.filter (· ≠ code.toNat) })) ∧
    (∀ (code : BitVec 8),
     s.fget CLK_GSTAT_PENDING = 0 →
     s.gateRefused code.toNat true = false →
     gateCode code.toNat = true →
     Yields (exec (.clkGateOpen code) s) (fun t =>
       Regs s t [(CLK_GSTAT_CODE, code.toNat), (CLK_GSTAT_RESULT, 1)] ∧ Quiet s t ∧
       t.clk = { s.clk with opening := s.clk.opening ++ [code.toNat] } ∧ t.resp = .okay)) ∧
    (∀ (code : BitVec 8) (b : Bool),
     s.fget CLK_GSTAT_PENDING = 0 →
     s.gateRefused code.toNat b = true →
     gateCode code.toNat = true →
     Yields (exec (if b then .clkGateOpen code else .clkGateClose code) s) (fun t =>
       Regs s t [(CLK_GSTAT_CODE, code.toNat), (CLK_GSTAT_RESULT, 2)] ∧ Quiet s t ∧ t.resp = .okay)) ∧
    (∀ (code : BitVec 8),
     s.fget CLK_GSTAT_PENDING = 1 ∨ gateCode code.toNat = false →
     exec (.clkGateClose code) s = refusedWith s ∧ exec (.clkGateOpen code) s = refusedWith s) ∧
    (∀ (n : Nat),
     s.fget CLK_GSTAT_PENDING = 1 →
     s.fget CLK_GSTAT_CODE = n →
     gateCode n = true →
     Yields (exec (.busQuietHandshake) s) (fun t =>
       Regs s t [(gateF n, 0), (CLK_GSTAT_PENDING, 0), (CLK_GSTAT_RESULT, 1)] ∧ Quiet s t) ∧
     Yields (exec (.gateCloseTimeout) s) (fun t =>
       Regs s t [(CLK_GSTAT_PENDING, 0), (CLK_GSTAT_RESULT, 3)] ∧ Quiet s t)) ∧
    (∀ (n : Nat) (ns : List Nat),
     s.clk.opening = n :: ns →
     gateCode n = true →
     Yields (exec (.gateOpenEffect) s) (fun t =>
       Regs s t [(gateF n, 1)] ∧ Quiet s t ∧ t.clk = { s.clk with opening := ns })) ∧
    (∀ (v : BitVec 32),
     v.extractLsb' 24 8 ≠ 0 →
     v.extractLsb' 0 2 ≠ 3 ∨ v.extractLsb' 8 8 ≠ 0 →
     Yields (exec (.clkOutcfgWrite v) s) (fun t =>
       Regs s t [(CLK_OUTCFG_PPS_W, (v.extractLsb' 24 8).toNat), (CLK_OUTCFG_PPS_EN, (v.extractLsb' 16 1).toNat),
         (CLK_OUTCFG_DIV, (v.extractLsb' 8 8).toNat), (CLK_OUTCFG_SEL, (v.extractLsb' 0 2).toNat)] ∧
       Quiet s t ∧ t.resp = .okay)) ∧
    (∀ (v : BitVec 32),
     v.extractLsb' 24 8 = 0 ∨ (v.extractLsb' 0 2 = 3 ∧ v.extractLsb' 8 8 = 0) →
     exec (.clkOutcfgWrite v) s = refusedWith s) ∧
    (Yields (exec (.ppsOutPulse) s) (fun t =>
       Regs s t [] ∧ Quiet s t ∧
       t.pins = { s.pins with ppsOut := decide (s.fget CLK_OUTCFG_PPS_EN = 1) }) ∧
     Yields (exec (.ppsOutPulseEnd) s) (fun t =>
       Regs s t [] ∧ Quiet s t ∧ t.pins = { s.pins with ppsOut := false }))

/-- Before a scrub step the bits that have flipped since the last one reach the bank (log entry 39). The step of a bank in
service reads the word at its pointer and advances the pointer, at the last word back to row 0 with PASS counted for the last bank;
a word without errors changes no register; an error of one bit in private memory and of at most five symbols elsewhere is corrected
in the bank, sets CE and counts in CECNT (R126, R133); two bits of private memory set UE with address, bank and source 2; a
correction that falls in an address symbol of shared or communication memory sets UE and ADDR_FAULT, and the word is rewritten in
poisoned form, its 32 bytes alone changing (R129, R130); six symbols and more are reported, fall in an address symbol or give
wrong data, as the free value of log entry 39 says. The scrubber of a bank out of service reads nothing (R135). A
tracker entry expires (R138). A column copy copies its row, advances by one and ends with REPAIR_BUSY off (R140). A returned
posted-write credit is free again (R149). -/
def Obligations.ScrubbingAndRepair : Prop :=
  ∀ (s : State),
    (∀ (bk : Bank) (flips : List (Nat × List Nat)),
     exec (.scrubStep bk flips) s = exec (.scrubStep bk []) (s.upset bk flips)) ∧
    (∀ (bk : Bank) (w b : Nat),
     s.bankOn bk = false →
     w * bankWord bk < bankSize bk →
     b < bankBits bk →
     s.upsetsAt (wordKey bk (w * bankWord bk)) = [] →
     Yields (exec (.scrubStep bk [(w, [b])]) s) (fun t =>
       Regs s t [] ∧ Quiet s t ∧
       t.upsetsAt (wordKey bk (w * bankWord bk)) = [b] ∧
       t.scrubPtr (bankNum bk) = s.scrubPtr (bankNum bk))) ∧
    (∀ (bk : Bank) (o : Nat),
     s.bankOn bk = true →
     o = s.scrubPtr (bankNum bk) * bankWord bk →
     o + bankWord bk < bankSize bk →
     s.upsetsAt (wordKey bk o) = [] →
     Yields (exec (.scrubStep bk []) s) (fun t =>
       Regs s t [] ∧ Quiet s t ∧
       t.scrubPtr (bankNum bk) = s.scrubPtr (bankNum bk) + 1)) ∧
    (∀ (bk : Bank) (o : Nat),
     s.bankOn bk = true →
     o = s.scrubPtr (bankNum bk) * bankWord bk →
     o + bankWord bk = bankSize bk →
     s.upsetsAt (wordKey bk o) = [] →
     Yields (exec (.scrubStep bk []) s) (fun t =>
       Regs s t (if bk = .comm then [(MEM_STAT_PASS, plusOne s MEM_STAT_PASS)] else []) ∧ Quiet s t ∧
       t.scrubPtr (bankNum bk) = 0)) ∧
    (∀ (bk : Bank) (o : Nat) (bits : List Nat),
     s.bankOn bk = true →
     o = s.scrubPtr (bankNum bk) * bankWord bk →
     o + bankWord bk < bankSize bk →
     s.poisonedAt bk o = false →
     s.upsetsAt (wordKey bk o) = bits →
     bits ≠ [] →
     (if bankWord bk = 8 then bits.length = 1 else symbolsHit bits ≤ 5 ∧ bits.all (fun b => b < 336) = true) →
     s.memx.tracks.length < 16 →
     Yields (exec (.scrubStep bk []) s) (fun t =>
       Regs s t [(MEM_EVT_CE, 1), (MEM_BANK_n_CECNT (bankNum bk), plusOne s (MEM_BANK_n_CECNT (bankNum bk)))] ∧
       MemSame s t 0 0 ∧ t.flash = s.flash ∧ t.pending = s.pending ∧ (∀ l, t.lane l = s.lane l) ∧
       t.upsetsAt (wordKey bk o) = [] ∧ t.scrubPtr (bankNum bk) = s.scrubPtr (bankNum bk) + 1)) ∧
    (∀ (bk : Bank) (o b1 b2 : Nat),
     bankWord bk = 8 →
     s.bankOn bk = true →
     o = s.scrubPtr (bankNum bk) * bankWord bk →
     o + bankWord bk < bankSize bk →
     s.upsetsAt (wordKey bk o) = [b1, b2] →
     Yields (exec (.scrubStep bk []) s) (fun t =>
       Regs s t [(MEM_EVT_UE, 1), (MEM_UEADDR_ADDR, bankAddr bk (wordOff bk o)), (MEM_UEINFO_BANK, bankNum bk),
         (MEM_UEINFO_SRC, 2), (MEM_UEINFO_COUNT, plusOne s MEM_UEINFO_COUNT), (REC_CNT_c_VAL 11, plusOne s (REC_CNT_c_VAL 11))] ∧ Quiet s t ∧
       t.upsetsAt (wordKey bk o) = [b1, b2] ∧ t.scrubPtr (bankNum bk) = s.scrubPtr (bankNum bk) + 1)) ∧
    (∀ (bk : Bank) (o : Nat) (bits : List Nat),
     bankWord bk = 32 →
     s.bankOn bk = true →
     o = s.scrubPtr (bankNum bk) * bankWord bk →
     o + bankWord bk < bankSize bk →
     s.poisonedAt bk o = false →
     s.upsetsAt (wordKey bk o) = bits →
     symbolsHit bits ≤ 5 →
     bits.any (fun b => 336 ≤ b) = true →
     Yields (exec (.scrubStep bk []) s) (fun t =>
       Regs s t [(MEM_EVT_ADDR_FAULT, 1), (MEM_EVT_UE, 1), (MEM_UEADDR_ADDR, bankAddr bk (wordOff bk o)), (MEM_UEINFO_BANK, bankNum bk),
         (MEM_UEINFO_SRC, 2), (MEM_UEINFO_COUNT, plusOne s MEM_UEINFO_COUNT), (REC_CNT_c_VAL 11, plusOne s (REC_CNT_c_VAL 11))] ∧
       t.memBytes (bankKey bk o) 32 = List.replicate 32 0 ∧ MemSame s t (bankKey bk o) 32 ∧
       t.wordBad bk o = true ∧ t.flash = s.flash ∧ t.pending = s.pending ∧ (∀ l, t.lane l = s.lane l) ∧
       t.scrubPtr (bankNum bk) = s.scrubPtr (bankNum bk) + 1)) ∧
    (∀ (bk : Bank) (o : Nat) (bits : List Nat),
     bankWord bk = 32 →
     s.bankOn bk = true →
     o = s.scrubPtr (bankNum bk) * bankWord bk →
     o + bankWord bk < bankSize bk →
     s.poisonedAt bk o = false →
     s.upsetsAt (wordKey bk o) = bits →
     5 < symbolsHit bits →
     Yields (exec (.scrubStep bk []) s) (fun t =>
       Config.burstWide (bankNum bk) (o / 32) bits (s.memLe (wordKey bk o) 32) = .reported →
       Regs s t [(MEM_EVT_UE, 1), (MEM_UEADDR_ADDR, bankAddr bk (wordOff bk o)), (MEM_UEINFO_BANK, bankNum bk),
         (MEM_UEINFO_SRC, 2), (MEM_UEINFO_COUNT, plusOne s MEM_UEINFO_COUNT), (REC_CNT_c_VAL 11, plusOne s (REC_CNT_c_VAL 11))] ∧
       t.memBytes (bankKey bk o) 32 = List.replicate 32 0 ∧ MemSame s t (bankKey bk o) 32 ∧
       t.wordBad bk o = true ∧ t.flash = s.flash ∧ t.pending = s.pending ∧ (∀ l, t.lane l = s.lane l) ∧
       t.scrubPtr (bankNum bk) = s.scrubPtr (bankNum bk) + 1)) ∧
    (∀ (bk : Bank) (row : Nat),
     Yields (exec (.trackerEntryExpiry bk row) s) (fun t =>
       Regs s t [] ∧ Quiet s t ∧
       t.memx = { s.memx with tracks := s.memx.tracks.filter (fun x => x.1 ≠ bankNum bk || x.2.row ≠ row) })) ∧
    (∀ (bk : Bank) (c : ColRep),
     s.memx.colReps.find? (fun x => x.bank = bankNum bk) = some c →
     c.row + 1 < (c.sub + 1) * 512 →
     exec (.columnRepairRowCopy bk) s = .next { s.rowCopy bk c.row with memx := { (s.rowCopy bk c.row).memx with
       colReps := { c with row := c.row + 1 } :: s.memx.colReps.filter (fun x => x ≠ c) } }) ∧
    (∀ (bk : Bank) (c : ColRep),
     s.memx.colReps.find? (fun x => x.bank = bankNum bk) = some c →
     c.row + 1 < (c.sub + 1) * 512 →
     s.memx.upsets.all (fun p => p.1 < bankKey bk (1024 * c.row) || bankKey bk (1024 * c.row) + 1024 ≤ p.1) = true →
     Yields (exec (.columnRepairRowCopy bk) s) (fun t =>
       Regs s t [] ∧ Quiet s t ∧ t.memx = { s.memx with colReps := { c with row := c.row + 1 } :: s.memx.colReps.filter (fun x => x ≠ c) })) ∧
    (∀ (bk : Bank) (c : ColRep),
     s.memx.colReps = [c] →
     c.bank = bankNum bk →
     c.row + 1 = (c.sub + 1) * 512 →
     s.memx.upsets.all (fun p => p.1 < bankKey bk (1024 * c.row) || bankKey bk (1024 * c.row) + 1024 ≤ p.1) = true →
     Yields (exec (.columnRepairRowCopy bk) s) (fun t =>
       Regs s t [(repairBusyF (bankNum bk), 0)] ∧ Quiet s t ∧ t.memx = { s.memx with colReps := [] })) ∧
    (∀ (ini : Initiator) (k n : Nat),
     s.creditsUsed (initNo ini) k = n + 1 →
     Yields (exec (.postedWriteCreditReturn ini k) s) (fun t =>
       Regs s t [] ∧ Quiet s t ∧ t.creditsUsed (initNo ini) k = n ∧
       (∀ a b, ¬(a = initNo ini ∧ b = k) → t.creditsUsed a b = s.creditsUsed a b)))

/-- A request of an initiator that may reach it to shared or communication memory reads the bytes of its address, or stores
them, takes a posted-write credit and leaves every other byte as it was (R123, R131, R147, R149); where a correction would fall in an
address symbol the read gives no data: the response is UNCORR, UE, its record and ADDR_FAULT are set and the word is poisoned (R129,
R130); a store to a part of a poisoned word is answered UNCORR and takes no place, a store of a whole word replaces it (R131). A
request with another before it, or without a credit, waits, and a grant performs the one that round-robin chooses (R149); a
stopped hub answers ISOLATED (the model's choice, log entry 23). A write of a register without an operation of its own takes the bits of its
access codes, a W1C bit cleared where the written bit is 1, a read-only one ignored (R6); banked bits take the value before the lock (R170); a
register with an operation carries it out; an access of another size is answered TARGET and has no effect (R8), one behind a closed wrapper
ISOLATED (R16). An address without a row of the map is answered DECERR. Every response carries the request's tag (R147). -/
def Obligations.HubRequests : Prop :=
  ∀ (s : State),
    (∀ (bk : Bank) (o : Nat) (r : BusReq),
     s.hubStopped = false →
     busOk r = true →
     s.waitingAt (targetNo (busItem r).req.addr) = [] →
     s.hubPerm (busItem r) = false →
     burstBank r.addr = some (bk, o) →
     r.init ≠ .debug →
     s.poisonedAt bk o = false →
     s.upsetsAt (wordKey bk o) = [] →
     r.write = false →
     exec (.hubRequest (.present r)) s =
       .next { s with resp := .okay, rdata := BitVec.ofNat 256 (s.memLe r.addr r.size), rtag := r.tag, reff := false }) ∧
    (∀ (bk : Bank) (o : Nat) (r : BusReq),
     s.hubStopped = false →
     busOk r = true →
     s.waitingAt (targetNo (busItem r).req.addr) = [] →
     s.hubPerm (busItem r) = false →
     burstBank r.addr = some (bk, o) →
     r.init ≠ .debug →
     s.poisonedAt bk o = false →
     s.upsetsAt (wordKey bk o) = [] →
     r.write = true →
     s.creditsUsed (initNo r.init) (targetNo (busItem r).req.addr) < 8 →
     isLane r.init = false ∨ (s.rst.safe = none ∧ s.snapArea r.addr = false ∧ s.itemAt r.addr = none) →
     Yields (exec (.hubRequest (.present r)) s) (fun t =>
       t.memLe r.addr r.size = r.data.toNat % 2 ^ (8 * r.size) ∧ MemSame s t r.addr r.size ∧ t.regs = s.regs ∧ t.flash = s.flash ∧
       (∀ l, t.lane l = s.lane l) ∧ t.pending = s.pending ∧ t.resp = .okay ∧ t.rtag = r.tag ∧ t.reff = false ∧
       t.creditsUsed (initNo r.init) (targetNo (busItem r).req.addr) = s.creditsUsed (initNo r.init) (targetNo (busItem r).req.addr) + 1)) ∧
    (∀ (bk : Bank) (o : Nat) (bits : List Nat) (r : BusReq),
     s.hubStopped = false →
     busOk r = true →
     s.waitingAt (targetNo (busItem r).req.addr) = [] →
     s.hubPerm (busItem r) = false →
     burstBank r.addr = some (bk, o) →
     r.init ≠ .debug →
     s.poisonedAt bk o = false →
     s.upsetsAt (wordKey bk o) = bits →
     symbolsHit bits ≤ 5 →
     bits.any (fun b => 336 ≤ b) = true →
     r.write = false →
     isLane r.init = false →
     Yields (exec (.hubRequest (.present r)) s) (fun t =>
       Regs s t [(MEM_EVT_ADDR_FAULT, 1), (MEM_EVT_UE, 1), (MEM_UEADDR_ADDR, bankAddr bk (wordOff bk o)), (MEM_UEINFO_BANK, bankNum bk),
         (MEM_UEINFO_SRC, 3), (MEM_UEINFO_COUNT, plusOne s MEM_UEINFO_COUNT), (REC_CNT_c_VAL 11, plusOne s (REC_CNT_c_VAL 11))] ∧
       t.resp = .uncorr ∧ t.rdata = 0 ∧ t.rtag = r.tag ∧ t.wordBad bk o = true)) ∧
    (∀ (bk : Bank) (o : Nat) (r : BusReq),
     s.hubStopped = false →
     busOk r = true →
     s.waitingAt (targetNo (busItem r).req.addr) = [] →
     s.hubPerm (busItem r) = false →
     burstBank r.addr = some (bk, o) →
     r.init ≠ .debug →
     s.poisonedAt bk o = true →
     r.write = true →
     r.size ≠ 32 →
     s.creditsUsed (initNo r.init) (targetNo (busItem r).req.addr) < 8 →
     isLane r.init = false →
     Yields (exec (.hubRequest (.present r)) s) (fun t =>
       Regs s t [] ∧ Quiet s t ∧ t.resp = .uncorr ∧ t.rdata = 0 ∧ t.rtag = r.tag)) ∧
    (∀ (bk : Bank) (o : Nat) (r : BusReq),
     s.hubStopped = false →
     busOk r = true →
     s.waitingAt (targetNo (busItem r).req.addr) = [] →
     s.hubPerm (busItem r) = false →
     burstBank r.addr = some (bk, o) →
     r.init ≠ .debug →
     r.write = true →
     r.size = 32 →
     s.creditsUsed (initNo r.init) (targetNo (busItem r).req.addr) < 8 →
     Yields (exec (.hubRequest (.present r)) s) (fun t =>
       t.wordBad bk o = false ∧ t.memLe r.addr 32 = r.data.toNat ∧ t.resp = .okay)) ∧
    (∀ (r : BusReq),
     s.hubStopped = false →
     busOk r = true →
     s.waitingAt (targetNo (busItem r).req.addr) = [] →
     r.write = false →
     r.addr < 0x70000000 →
     burstBank r.addr = none →
     r.addr / 0x10000000 ≠ 4 →
     r.addr / 0x10000000 ≠ 6 →
     exec (.hubRequest (.present r)) s =
       .next { s with resp := .decerr, rdata := 0, rtag := r.tag, reff := false }) ∧
    (∀ (r : BusReq),
     s.hubStopped = true →
     exec (.hubRequest (.present r)) s =
       .next { s with resp := .isolated, rdata := 0, rtag := r.tag, reff := false } ∧
     exec (.hubRequest (.grant (targetNo r.addr))) s = .next s) ∧
    (∀ (r : BusReq),
     s.hubStopped = false →
     busOk r = true →
     s.waitingAt (targetNo (busItem r).req.addr) ≠ [] ∨ s.hubWait (busItem r) = true →
     exec (.hubRequest (.present r)) s = .next { s with memx := { s.memx with hubQ := s.memx.hubQ ++ [busItem r] } }) ∧
    (∀ (tn : Nat) (i : HubItem),
     s.hubStopped = false →
     s.hubNext tn = some i →
     exec (.hubRequest (.grant tn)) s = .next (((s.hubTake i).hubCredit i).hubAccess i)) ∧
    (∀ (ini : Initiator) (a : Nat) (v : DWord),
     s.hubStopped = false →
     s.rst.safe = none →
     0x40000000 ≤ a ∧ a < 0x40100000 →
     a % 4 = 0 →
     ini = .lanes ∨ ini = .debug →
     (s.attrs a).wr = true →
     s.secondBank a = false →
     s.hubIsolated a = false →
     s.hubQuiet a = false →
     s.waitingAt (targetNo a) = [] →
     s.creditsUsed (initNo ini) (targetNo a) < 8 →
     mdPort a = none →
     s.cmdStore a (BitVec.toNat v % 2 ^ 32) = none →
     a < 0x40090000 ∨ 0x400A0000 ≤ a →
     arrIdx a 0x400B0080 4 16 = none →
     rwlMask a = 0 →
     valueOk s.regs a (BitVec.toNat v % 2 ^ 32) = true →
     Yields (exec (.registerWrite ini a 4 v) s) (fun t =>
       t.regWord a = w1Merge a (mergeW (s.regWord a) (rwMask a) (BitVec.setWidth 32 v)) (BitVec.setWidth 32 v) ∧
       RegsOutside s t a (a + 4) ∧ Quiet s t ∧ t.resp = .okay)) ∧
    (∀ (ini : Initiator) (a : Nat) (v : DWord),
     s.hubStopped = false →
     s.rst.safe = none →
     0x40000000 ≤ a ∧ a < 0x40100000 →
     a % 4 = 0 →
     ini = .lanes ∨ ini = .debug →
     (s.attrs a).wr = true →
     s.secondBank a = false →
     s.hubIsolated a = false →
     s.hubQuiet a = false →
     s.waitingAt (targetNo a) = [] →
     s.creditsUsed (initNo ini) (targetNo a) < 8 →
     mdPort a = none →
     s.cmdStore a (BitVec.toNat v % 2 ^ 32) = none →
     a < 0x40090000 ∨ 0x400A0000 ≤ a →
     arrIdx a 0x400B0080 4 16 = none →
     rwlMask a ≠ 0 →
     valueOk s.regs a (BitVec.toNat v % 2 ^ 32) = true →
     s.fget BOOT_LOCK_LOCK = 0 →
     s.boot.act.safety = false →
     a < 0x40020100 ∨ 0x40020200 ≤ a →
     exec (.registerWrite ini a 4 v) s = .next { (State.rwlFollow ((s.setCredits (initNo ini) (targetNo a) (s.creditsUsed (initNo ini) (targetNo a) + 1)).setReg a
       (w1Merge a (mergeW (s.regWord a) (rwlMask a ||| rwMask a) (BitVec.setWidth 32 v)) (BitVec.setWidth 32 v))) s.regs) with resp := .okay, rdata := 0, rtag := 0, reff := false }) ∧
    (∀ (ini : Initiator) (a : Nat) (v : DWord) (u : State),
     s.hubStopped = false →
     s.rst.safe = none →
     0x40000000 ≤ a ∧ a < 0x40100000 →
     a % 4 = 0 →
     ini = .lanes ∨ ini = .debug →
     (s.attrs a).wr = true →
     s.secondBank a = false →
     s.hubIsolated a = false →
     s.hubQuiet a = false →
     s.waitingAt (targetNo a) = [] →
     s.creditsUsed (initNo ini) (targetNo a) < 8 →
     mdPort a = none →
     (s.setCredits (initNo ini) (targetNo a) (s.creditsUsed (initNo ini) (targetNo a) + 1)).cmdStore a (BitVec.toNat v % 2 ^ 32) = some u →
     u.resp ≠ .perm →
     exec (.registerWrite ini a 4 v) s = .next { u with rdata := 0, rtag := 0, reff := false }) ∧
    (∀ (ini : Initiator) (a n : Nat) (v : DWord),
     s.hubStopped = false →
     s.rst.safe = none →
     n = 1 ∨ n = 2 ∨ n = 8 →
     a % n = 0 →
     0x40000000 ≤ a ∧ a < 0x40100000 →
     ini = .lanes ∨ ini = .debug →
     (s.attrs a).wr = true →
     s.secondBank a = false →
     s.hubIsolated a = false →
     s.hubQuiet a = false →
     s.waitingAt (targetNo a) = [] →
     s.creditsUsed (initNo ini) (targetNo a) < 8 →
     mdPort a = none →
     Yields (exec (.registerWrite ini a n v) s) (fun t =>
       Regs s t [] ∧ Quiet s t ∧ t.resp = .target ∧ t.rdata = 0)) ∧
    (∀ (ini : Initiator) (a : Nat) (v : DWord),
     s.hubStopped = false →
     s.rst.safe = none →
     a % 4 = 0 →
     0x40000000 ≤ a ∧ a < 0x40100000 →
     ini = .lanes ∨ ini = .debug →
     (s.attrs a).wr = true →
     s.secondBank a = false →
     s.hubIsolated a = true →
     s.hubQuiet a = false →
     s.waitingAt (targetNo a) = [] →
     mdPort a = none →
     exec (.registerWrite ini a 4 v) s =
       .next { s with resp := .isolated, rdata := 0, rtag := 0, reff := false })

/-- A read of the flash window inside the fitted device gives its bytes, beyond it DECERR, and TIMEOUT while a program or erase
runs in a device without suspend (R123, R152). A time-out at the flash answers its oldest waiting request, and one at a target the request that the
target has granted, with TIMEOUT (R247). During start-up a flash read is retried three times; the fourth consecutive time-out sets MISSING bit 11 and halts in
phase 8 (R153). The retry queues again every wear and stray record that is not in the flash and neither waits nor runs (R33, R200). -/
def Obligations.FlashReads : Prop :=
  ∀ (s : State),
    (∀ (i : Initiator) (o n : Nat),
     xspiInit i = true →
     s.board.density ≤ 8 →
     o + n ≤ 2 ^ s.board.density * 0x100000 →
     s.flc.running = none →
     exec (.xspiWindowRead i (0x70000000 + o) n) s =
       .next { s with resp := .okay, rdata := BitVec.ofNat 256 (s.flashLe o n) }) ∧
    (∀ (i : Initiator) (o n : Nat),
     2 ^ s.board.density * 0x100000 < o + n ∨ xspiInit i = false →
     exec (.xspiWindowRead i (0x70000000 + o) n) s =
       .next { s with resp := .decerr, rdata := 0 }) ∧
    (∀ (i : Initiator) (o n : Nat) (op : FlashOp),
     xspiInit i = true →
     s.board.density ≤ 8 →
     o + n ≤ 2 ^ s.board.density * 0x100000 →
     s.flc.running = some op →
     s.flag BOOT_XSPI_SUSPEND = false →
     exec (.xspiWindowRead i (0x70000000 + o) n) s =
       .next { s with resp := .timeout, rdata := 0 }) ∧
    (s.memx.hubQ.find? (fun i => i.req.addr / 0x10000000 = 7) = none →
     exec .xspiReadTimeout s = .next { s with resp := .timeout, rdata := 0 }) ∧
    (∀ (i : HubItem),
     s.memx.hubQ.find? (fun i => i.req.addr / 0x10000000 = 7) = some i →
     i.req.write = false →
     i.kind ≠ 9 →
     i.named = false →
     i.lanes ≠ [] →
     Yields (exec (.xspiReadTimeout) s) (fun t =>
       Regs s t [] ∧ Quiet s t ∧ t.memx = { s.memx with hubQ := s.memx.hubQ.erase i } ∧
       t.triad.resps = s.triad.resps ++ [{ seq := i.seq, lanes := i.lanes, code := 4, effect := false, data := 0, twin := (4, false, 0), addr := i.req.addr, kind := i.kind }])) ∧
    (∀ (i : HubItem),
     s.memx.hubQ.find? (fun i => i.req.addr / 0x10000000 = 7) = some i →
     i.kind ≠ 9 →
     i.named = true →
     exec .xspiReadTimeout s = .next { s with memx := { s.memx with hubQ := s.memx.hubQ.erase i }, resp := .timeout, rdata := 0, rtag := i.req.tag, reff := false }) ∧
    (∀ (r : BusReq),
     exec (.targetResponseTimeout (.present r)) s =
       .next { s with resp := .timeout, rdata := 0, rtag := r.tag, reff := false }) ∧
    (∀ (tn : Nat) (i : HubItem),
     s.hubNext tn = some i →
     i.kind ≠ 9 →
     i.named = true →
     exec (.targetResponseTimeout (.grant tn)) s =
       .next { s.hubTake i with resp := .timeout, rdata := 0, rtag := i.req.tag, reff := false }) ∧
    (∀ (tn : Nat) (i : HubItem),
     s.hubNext tn = some i →
     i.kind ≠ 9 →
     i.named = false →
     i.lanes ≠ [] →
     i.req.write = false →
     Yields (exec (.targetResponseTimeout (.grant tn)) s) (fun t =>
       Regs s t [] ∧ Quiet s t ∧ t.memx = (s.hubTake i).memx ∧
       t.triad.resps = s.triad.resps ++ [{ seq := i.seq, lanes := i.lanes, code := 4, effect := false, data := 0, twin := (4, false, 0), addr := i.req.addr, kind := i.kind }])) ∧
    (∀ (again : Bool) (n : Nat),
     1 ≤ s.fget BOOT_STAT_PHASE →
     s.fget BOOT_STAT_PHASE ≤ 6 →
     n = (if again then s.flc.timeouts else 0) →
     n < 3 →
     Yields (exec (.startupFlashReadTimeout again) s) (fun t =>
       Regs s t [] ∧ Quiet s t ∧ t.flc = { s.flc with timeouts := n + 1 })) ∧
    (1 ≤ s.fget BOOT_STAT_PHASE →
     s.fget BOOT_STAT_PHASE ≤ 6 →
     3 ≤ s.flc.timeouts →
     Yields (exec (.startupFlashReadTimeout true) s) (fun t =>
       Regs s t [(⟨0x40030000, 11, 1⟩, 1), (BOOT_STAT_PHASE, 8)] ∧ Quiet s t ∧ t.flc = { s.flc with timeouts := s.flc.timeouts + 1, dead := true })) ∧
    (s.boot.dirOk = true →
     Yields (exec (.wearFlashRetryTick) s) (fun t =>
       Regs s t [] ∧ Quiet s t ∧
       t.flc = { s.flc with waiting := s.flc.waiting ++ List.filter (fun op => !(s.flc.waiting.contains op || s.flc.running == some op)) (s.wear.pendWear.map FlashOp.wear ++ s.wear.pendStray.map FlashOp.stray) })) ∧
    (s.boot.dirOk = false →
     exec .wearFlashRetryTick s = .next s)

/-- The start-up phases (Table 07-7): S3 with only slot A valid and confirmed takes slot A and goes to S4, and halts with NO_IMAGE
without a directory or a valid slot (R159); whatever the images are, S3 ends in S4's phase or halted; S4 takes the self-tests, leaves nothing in memory but retained memory and shows what is missing
(R163); S5 puts a loadable image into service and otherwise rejects the slot and goes back to S3 (R160), a core whose readback failed counting as failed (R161); S6 marks the units whose readback failed, counts the start and
goes to S7; the field die's acknowledgement, its first and its second failure (R161); S7 shows the injection's counts, and with every check met locks a set with FLAGS.LOCK and starts in the
configured TRIAD (R165, R170). A phase's command outside its phase changes nothing. -/
def Obligations.StartUpPhases : Prop :=
  ∀ (s : State),
    (∀ (ok : Bool),
     s.fget BOOT_STAT_PHASE = 2 →
     s.dir.isSome = true →
     s.slotValid false = true →
     s.slotValid true = false →
     wordSet (s.page false) 0xF08 = true →
     s.boot.cand = [] →
     Yields (exec (.slotSelection ok) s) (fun t =>
       t.fget BOOT_STAT_SLOT = 0 ∧ t.fget BOOT_STAT_PHASE = 3 ∧ t.fget BOOT_SLOT_A_STATE = 0 ∧
       t.fget BOOT_GEN_A_GENERATION = leAt (s.page false) 8 4 ∧ t.flash = s.flash ∧ t.pending = s.pending ∧
       (∀ l, t.lane l = s.lane l))) ∧
    (∀ (ok : Bool),
     s.fget BOOT_STAT_PHASE = 2 →
     Yields (exec (.slotSelection ok) s) (fun t =>
       (t.fget BOOT_STAT_PHASE = 3 ∨ (t.fget BOOT_STAT_PHASE = 8 ∧ t.fget BOOT_STAT_NO_IMAGE = 1)) ∧
       t.mem = s.mem ∧ (∀ l, t.lane l = s.lane l) ∧ t.pending = s.pending)) ∧
    (∀ (ok : Bool),
     s.fget BOOT_STAT_PHASE = 2 →
     s.dir.isSome = true →
     s.slotValid false = false →
     s.slotValid true = false →
     s.boot.cand = [] →
     Yields (exec (.slotSelection ok) s) (fun t =>
       t.fget BOOT_STAT_NO_IMAGE = 1 ∧ t.fget BOOT_STAT_PHASE = 8)) ∧
    (∀ (ok : Bool),
     s.fget BOOT_STAT_PHASE = 2 →
     s.dir.isNone = true →
     Yields (exec (.slotSelection ok) s) (fun t =>
       Regs s t [(BOOT_STAT_NO_IMAGE, 1), (BOOT_STAT_PHASE, 8)] ∧ Quiet s t)) ∧
    (∀ (ok : BitVec 4) (k : CoreId),
     s.fget BOOT_STAT_PHASE = 3 →
     ok.getLsbD k.num = true →
     s.flag (retiredF k) = false →
     s.fget (pstat k.paddock) ≠ 0 →
     s.fget ⟨0x40030000, 11, 1⟩ = 0 →
     s.fget (pstat .common) = 2 →
     Yields (exec (.memoryInitSelftest ok true true) s) (fun t =>
       Regs s t [(⟨0x40030000, 8, 1⟩, 0), (⟨0x40030000, 9, 1⟩, 0), (⟨0x40030000, 10, 1⟩, 0), (BOOT_STAT_PHASE, 4)] ∧
       t.mem = s.mem.filter (fun p => 0xF0000000 ≤ p.1 && p.1 < 0xF0004000) ∧ t.flash = s.flash ∧
       (∀ l, t.lane l = s.lane l) ∧ t.pending = s.pending ∧
       t.boot = { s.boot with coreOk := ok, shepOk := 3 })) ∧
    (∀ (ok : BitVec 4) (a b : Bool),
     s.fget BOOT_STAT_PHASE = 3 →
     Yields (exec (.memoryInitSelftest ok a b) s) (fun t =>
       t.mem = s.mem.filter (fun p => 0xF0000000 ≤ p.1 && p.1 < 0xF0004000) ∧ t.memx = { s.memx with poisoned := [], upsets := [] } ∧
       t.boot.coreOk = ok ∧ t.boot.shepOk.getLsbD 0 = a ∧ t.boot.shepOk.getLsbD 1 = b ∧
       t.fget ⟨0x40030000, 8, 1⟩ = (if a then 0 else 1) ∧ t.fget ⟨0x40030000, 9, 1⟩ = (if b then 0 else 1) ∧
       t.fget ⟨0x40030000, 10, 1⟩ = (if t.healthyCores = [] then 1 else 0) ∧
       t.fget BOOT_STAT_PHASE = (if t.fget BOOT_STAT_MISSING = 0 ∧ s.fget (pstat .common) = 2 then 4 else 8) ∧
       t.flash = s.flash ∧ (∀ l, t.lane l = s.lane l) ∧ t.pending = s.pending)) ∧
    (∀ (ok : BitVec 4) (b : Bool),
     s.fget BOOT_STAT_PHASE = 3 →
     Yields (exec (.memoryInitSelftest ok false b) s) (fun t =>
       t.fget ⟨0x40030000, 8, 1⟩ = 1 ∧ t.fget BOOT_STAT_PHASE = 8 ∧ t.flash = s.flash ∧ t.pending = s.pending)) ∧
    (∀ (b : Bool) (g : Img) (ok : Bool) (cf : BitVec 4),
     s.fget BOOT_STAT_PHASE = 4 →
     s.flag BOOT_STAT_SLOT = b →
     s.loadImg b = some g →
     g.set.heldRw = [] →
     Yields (exec (.sectionLoad true ok cf) s) (fun t =>
       t.boot = { s.boot with act := { g.set with heldRw := [] }, shd := .empty, prevUnconf := false, coreOk := s.boot.coreOk &&& ~~~cf } ∧
       t.fget BOOT_STAT_PHASE = 5 ∧ t.fget BOOT_STAT_ACTIVE_SET = 0 ∧
       t.fget BOOT_SSTAT_CONFIRMED = (if wordSet g.page 0xF08 then 1 else 0) ∧ t.flash = s.flash ∧
       t.pending = s.pending ∧ (∀ l, t.lane l = s.lane l) ∧
       (∀ j, (j < 0x500000 ∨ (0x580000 ≤ j ∧ j < 0x100000000)) → t.byteAt j = s.byteAt j))) ∧
    (∀ (b : Bool) (g : Img) (agree ok : Bool) (cf : BitVec 4),
     s.fget BOOT_STAT_PHASE = 4 →
     s.flag BOOT_STAT_SLOT = b →
     s.loadImg b = some g →
     (s.flashAnswered.rwEntries g.set.heldRw).2 = true →
     Yields (exec (.sectionLoad agree ok cf) s) (fun t =>
       t.boot.act = g.set ∧ t.boot.shd = .empty ∧
       t.fget BOOT_STAT_PHASE = 5 ∧ t.fget BOOT_STAT_ACTIVE_SET = 0 ∧
       t.fget SAF_CHECKVAL_VAL = (if agree then g.set.checkVal else 0))) ∧
    (∀ (b ok a : Bool) (cf : BitVec 4),
     s.fget BOOT_STAT_PHASE = 4 →
     s.flag BOOT_STAT_SLOT = b →
     s.loadImg b = none →
     Yields (exec (.sectionLoad a ok cf) s) (fun t =>
       t.fget BOOT_STAT_FALLBACK = 1 ∧ t.fget (if b then BOOT_SLOT_B_STATE else BOOT_SLOT_A_STATE) = 8 ∧ t.fget BOOT_STAT_PHASE = 2 ∧
       t.mem = s.mem ∧ (∀ l, t.lane l = s.lane l) ∧ t.pending = s.pending ∧
       (ok = false → t.fget BOOT_STAT_FLASH_WR_FAIL = 1 ∧ t.flash = s.flash) ∧
       (ok = true → ∀ a, cellAt t a = if s.slotBase b + 0xF0C ≤ a ∧ a < s.slotBase b + 0xF10 then 0 else cellAt s a) ∧ t.boot = { s.boot with cand := [!b], act := .empty })) ∧
    (∀ (a b : Bool) (us : List Nat),
     s.fget BOOT_STAT_PHASE = 5 →
     Yields (exec (.engineReload a b us) s) (fun t =>
       t.fget BOOT_STAT_PHASE = 6 ∧ t.fget (REC_CNT_c_VAL 20) = plusOne s (REC_CNT_c_VAL 20) ∧
       t.boot = { s.boot with fieldTries := 0, faultUnits := engineUnits.filter us.contains } ∧ t.flash = s.flash ∧ t.pending = s.pending ∧
       (∀ l, t.lane l = s.lane l) ∧
       (s.flogicUp = false → t.fget BOOT_STAT_FIELD_WAIT = 1) ∧
       (s.flogicUp = true → t.fget FLD_STAT_LINK = 1 ∧ t.fget FLD_STAT_CFG_OK = 0))) ∧
    (s.fget FLD_STAT_LINK = 1 →
     s.flogicUp = true →
     s.link.toField = [] →
     s.fd.loadOk = true →
     Yields (exec (.fieldReloadAck true) s) (fun t =>
       Regs s t [(FLD_STAT_LINK, 2), (FLD_STAT_CFG_OK, 1), (BOOT_STAT_FIELD_WAIT, 0)] ∧ Quiet s t ∧ t.link = { s.link with acked := true, img := .zero } ∧ t.boot = { s.boot with fieldTries := 0 })) ∧
    (∀ (ok : Bool),
     s.fget FLD_STAT_LINK = 1 →
     s.flogicUp = true →
     s.link.toField = [] →
     s.fd.loadOk = false ∨ ok = false →
     s.boot.fieldTries = 0 →
     Yields (exec (.fieldReloadAck ok) s) (fun t =>
       Regs s t [(FLD_STAT_LINK, 1), (FLD_STAT_CFG_OK, 0)] ∧ Quiet s t ∧ t.boot = { s.boot with fieldTries := 1 } ∧ t.link.img = .zero ∧ t.link.rx = none)) ∧
    (∀ (ok : Bool),
     s.fget FLD_STAT_LINK = 1 →
     s.flogicUp = true →
     s.link.toField = [] →
     s.fd.loadOk = false ∨ ok = false →
     s.boot.fieldTries ≠ 0 →
     Yields (exec (.fieldReloadAck ok) s) (fun t =>
       Regs s t [(FLD_STAT_LINK, 3), (BOOT_STAT_FIELD_WAIT, 1)] ∧ Quiet s t ∧ t.boot = { s.boot with fieldTries := 0 })) ∧
    (s.fget BOOT_STAT_PHASE = 6 →
     (s.healthy .a && s.healthy .b && s.healthy .c) = true →
     s.fget (pstat .common) = 2 →
     (∀ l : LaneId, s.fget (laneCoreF l) = l.num) →
     (∀ l : LaneId, s.fget (laneStateF l) ≠ 2) →
     s.boot.shepOk = 3 →
     s.fget ⟨0x40030000, 11, 1⟩ = 0 →
     s.boot.act.safety = false →
     s.boot.act.lockFlag = true →
     s.boot.act.toolOk = true →
     s.fget SYS_RSTSTAT_TRIM_FAULT = 0 →
     s.flogicUp = true →
     s.fpowerUp = true →
     s.fget FLD_STAT_LINK = 2 →
     s.fget TRI_MODE_CFG = 0 →
     Yields (exec (.startupChecks [] []) s) (fun t =>
       Regs s t [(⟨0x40030000, 8, 1⟩, 0), (⟨0x40030000, 9, 1⟩, 0), (⟨0x40030000, 10, 1⟩, 0), (TRI_INJ_S1_START, 48), (TRI_INJ_S2_START, 48),
         (TRI_INJ_FIRST_MISS, 0x3F), (BOOT_LOCK_LOCK, 1), (BOOT_STAT_REFUSE, 0), (TRI_MODE_REQ, 0),
         (laneStateF .a, 0), (laneStateF .b, 0), (laneStateF .c, 0), (TRI_MODE_CUR, 0), (TRI_MODE_RESULT, 1),
         (BOOT_STAT_PHASE, 7)] ∧ Quiet s t ∧ t.triad.safeRefused = false)) ∧
    (∀ (m n : List Nat),
     s.fget BOOT_STAT_PHASE = 6 →
     s.boot.act.safety = false →
     s.boot.shepOk = 3 →
     s.healthyCores ≠ [] →
     s.fget ⟨0x40030000, 11, 1⟩ = 0 →
     s.fget (pstat .common) = 2 →
     Yields (exec (.startupChecks m n) s) (fun t =>
       t.fget TRI_INJ_S1_START = 48 - ((List.range 48).filter m.contains).length ∧
       t.fget TRI_INJ_S2_START = 48 - ((List.range 48).filter n.contains).length ∧ t.fget BOOT_STAT_PHASE = 7 ∧
       t.mem = s.mem ∧ t.pending = s.pending ∧ (∀ l, t.lane l = s.lane l) ∧
       t.triad.safeRefused = decide (t.fget BOOT_STAT_REFUSE ≠ 0))) ∧
    (∀ (m n : List Nat),
     s.fget BOOT_STAT_PHASE = 6 →
     s.boot.act.safety = false →
     s.boot.shepOk ≠ 3 ∨ s.healthyCores = [] ∨ s.fget ⟨0x40030000, 11, 1⟩ = 1 ∨ s.fget (pstat .common) ≠ 2 →
     Yields (exec (.startupChecks m n) s) (fun t =>
       t.fget BOOT_STAT_PHASE = 8 ∧ Quiet s t)) ∧
    (∀ (m n : List Nat),
     s.fget BOOT_STAT_PHASE = 6 →
     s.boot.act.safety = true →
     s.flogicUp = false →
     Yields (exec (.startupChecks m n) s) (fun t =>
       Regs s t [(BOOT_STAT_FIELD_WAIT, 1)] ∧ Quiet s t)) ∧
    (∀ (a b c : Bool) (v w : BitVec 4) (us : List Nat),
     s.fget BOOT_STAT_PHASE = 7 →
     exec (.slotSelection a) s = .next s ∧ exec (.memoryInitSelftest v a b) s = .next s ∧
     exec (.sectionLoad a b w) s = .next s ∧ exec (.engineReload a c us) s = .next s ∧ exec (.startupChecks us us) s = .next s)

/-- BOOT_SLOAD (R168, R169): with the key, no load running, the active set confirmed, the slot valid and no swap armed, a load
starts and the shadow set is emptied; each refusal shows its RESULT and is answered TARGET; another key changes nothing. An abort
of a running load shows ABORTED (6). At the end a loadable image is the shadow set with RESULT 1 and READY, or NEEDS_RESTART
where it differs in what only a start reloads, and only the other half of private memory has changed; an image that fails a
check, or a core whose readback failed, ends it with SECTION_FAIL (5). -/
def Obligations.ShadowLoads : Prop :=
  ∀ (s : State),
    (∀ (b : Bool),
     s.fget BOOT_SSTAT_BUSY = 0 →
     s.fget BOOT_SSTAT_CONFIRMED = 1 →
     s.slotValid b = true →
     s.boot.armed = false →
     Yields (exec (.shadowLoadStart 0x5A b) s) (fun t =>
       Regs s t [(BOOT_SSTAT_BUSY, 1), (BOOT_SSTAT_READY, 0), (BOOT_SSTAT_NEEDS_RESTART, 0), (SAF_SHCHECKVAL_VAL, 0)] ∧
       Quiet s t ∧ t.resp = .okay ∧
       t.boot = { s.boot with loading := some b, shd := .empty, prevUnconf := false })) ∧
    (∀ (b : Bool),
     s.fget BOOT_SSTAT_BUSY = 1 →
     Yields (exec (.shadowLoadStart 0x5A b) s) (fun t =>
       Regs s t [(BOOT_SSTAT_RESULT, 2)] ∧ Quiet s t ∧ t.resp = .target ∧ t.boot = s.boot)) ∧
    (∀ (b : Bool),
     s.fget BOOT_SSTAT_BUSY = 0 →
     s.fget BOOT_SSTAT_CONFIRMED = 0 →
     Yields (exec (.shadowLoadStart 0x5A b) s) (fun t =>
       Regs s t [(BOOT_SSTAT_RESULT, 3)] ∧ Quiet s t ∧ t.resp = .target ∧ t.boot = s.boot)) ∧
    (∀ (b : Bool),
     s.fget BOOT_SSTAT_BUSY = 0 →
     s.fget BOOT_SSTAT_CONFIRMED = 1 →
     s.slotValid b = false →
     Yields (exec (.shadowLoadStart 0x5A b) s) (fun t =>
       Regs s t [(BOOT_SSTAT_RESULT, 4)] ∧ Quiet s t ∧ t.resp = .target ∧ t.boot = s.boot)) ∧
    (∀ (b : Bool),
     s.fget BOOT_SSTAT_BUSY = 0 →
     s.fget BOOT_SSTAT_CONFIRMED = 1 →
     s.slotValid b = true →
     s.boot.armed = true →
     Yields (exec (.shadowLoadStart 0x5A b) s) (fun t =>
       Regs s t [(BOOT_SSTAT_RESULT, 0xB)] ∧ Quiet s t ∧ t.resp = .target ∧ t.boot = s.boot)) ∧
    (∀ (k : BitVec 8) (b : Bool),
     k ≠ 0x5A →
     exec (.shadowLoadStart k b) s = refusedWith s ∧ exec (.shadowLoadAbort k) s = refusedWith s) ∧
    (∀ (b : Bool),
     s.boot.loading = some b →
     Yields (exec (.shadowLoadAbort 0x5A) s) (fun t =>
       Regs s t [(BOOT_SSTAT_BUSY, 0), (BOOT_SSTAT_RESULT, 6)] ∧ Quiet s t ∧ t.resp = .okay ∧ t.boot = { s.boot with loading := none })) ∧
    (s.boot.loading = none →
     Yields (exec (.shadowLoadAbort 0x5A) s) (fun t =>
       Regs s t (if s.fget BOOT_SSTAT_READY = 1 then [(BOOT_SSTAT_RESULT, 7)] else []) ∧ Quiet s t ∧ t.resp = .okay ∧ t.boot = s.boot)) ∧
    (∀ (b : Bool) (g : Img) (agree : Bool) (cf : BitVec 4),
     s.boot.loading = some b →
     s.loadImg b = some g →
     dataOk s.boot.act g.set = true →
     primesOk s.boot.act g.set = true →
     (State.rwEntries { s.lower BOOT_SSTAT_BUSY with boot := { s.boot with loading := none } } g.set.heldRw).2 = true →
     s.loadCores.all (fun k => !cf.getLsbD k.num) = true →
     Yields (exec (.shadowLoadDone agree cf) s) (fun t =>
       t.boot = { s.boot with loading := none, shd := g.set } ∧
       t.fget BOOT_SSTAT_BUSY = 0 ∧ t.fget BOOT_SSTAT_RESULT = 1 ∧ t.fget BOOT_SSTAT_SHADOW_SLOT = (if g.set.slot then 1 else 0) ∧
       t.fget BOOT_SSTAT_READY = 1 - t.fget BOOT_SSTAT_NEEDS_RESTART ∧
       t.fget SAF_SHCHECKVAL_VAL = (if agree then g.set.checkVal else 0) ∧
       t.flash = s.flash ∧ t.pending = s.pending ∧ (∀ l, t.lane l = s.lane l))) ∧
    (∀ (b agree : Bool) (cf : BitVec 4),
     s.boot.loading = some b →
     s.loadImg b = none →
     Yields (exec (.shadowLoadDone agree cf) s) (fun t =>
       Regs s t [(BOOT_SSTAT_BUSY, 0), (BOOT_SSTAT_RESULT, 5)] ∧ Quiet s t ∧ t.boot = { s.boot with loading := none })) ∧
    (∀ (b agree : Bool) (g : Img) (cf : BitVec 4),
     s.boot.loading = some b →
     s.loadImg b = some g →
     dataOk s.boot.act g.set = false ∨ primesOk s.boot.act g.set = false ∨ s.loadCores.any (fun k => cf.getLsbD k.num) = true →
     Yields (exec (.shadowLoadDone agree cf) s) (fun t =>
       Regs s t [(BOOT_SSTAT_BUSY, 0), (BOOT_SSTAT_RESULT, 5)] ∧ Quiet s t ∧ t.boot = { s.boot with loading := none })) ∧
    (∀ (agree : Bool) (cf : BitVec 4),
     s.boot.loading = none →
     exec (.shadowLoadDone agree cf) s = .next s)

/-- CFG_SWAP (R171, R173, R286): with the key and a shadow set that is READY, needs no restart, matches and has not used up its
trials, a swap is armed; a refused swap shows SWAP_REFUSED (9) and is answered TARGET; another key changes nothing. A confirmation
of a set whose slot is confirmed already sets CONFIRMED, ends the trial and shows 0xA. The lock bit sets and stays (R170). A
trial that ends arms the swap back with AUTO_BACK. -/
def Obligations.SwapRequests : Prop :=
  ∀ (s : State),
    (∀ (ok : Bool),
     s.swapRefused = false →
     Yields (exec (.cfgSwapArm 0xC3 ok) s) (fun t =>
       Regs s t [] ∧ Quiet s t ∧ t.resp = .okay ∧ t.boot = { s.boot with armed := true, swapBack := s.boot.prevUnconf })) ∧
    (∀ (ok : Bool),
     s.swapRefused = true →
     s.shadowUsedUp = false →
     Yields (exec (.cfgSwapArm 0xC3 ok) s) (fun t =>
       Regs s t [(BOOT_SSTAT_RESULT, 9)] ∧ Quiet s t ∧ t.resp = .target ∧ t.boot = s.boot)) ∧
    (∀ (k : BitVec 8) (ok : Bool),
     k ≠ 0xC3 →
     exec (.cfgSwapArm k ok) s = refusedWith s ∧ exec (.cfgSwapConfirm k ok) s = refusedWith s) ∧
    (∀ (ok : Bool),
     wordSet (s.page s.boot.act.slot) 0xF08 = true →
     s.boot.armed = false →
     Yields (exec (.cfgSwapConfirm 0xC3 ok) s) (fun t =>
       Regs s t [(BOOT_SSTAT_CONFIRMED, 1), (CYC_XSTAT_TRIAL_RUN, 0), (BOOT_SSTAT_RESULT, 0xA)] ∧ Quiet s t ∧
       t.resp = .okay ∧ t.boot = { s.boot with prevUnconf := false, swapBack := false })) ∧
    (∀ (ok : Bool),
     wordSet (s.page s.boot.act.slot) 0xF08 = false →
     s.boot.armed = false →
     Yields (exec (.cfgSwapConfirm 0xC3 ok) s) (fun t =>
       Regs s t ([(BOOT_SSTAT_CONFIRMED, 1), (CYC_XSTAT_TRIAL_RUN, 0), (BOOT_SSTAT_RESULT, 0xA)] ++ if ok then [] else [(BOOT_STAT_FLASH_WR_FAIL, 1)]) ∧
       t.mem = s.mem ∧ (∀ l, t.lane l = s.lane l) ∧ t.pending = s.pending ∧
       (∀ a, cellAt t a = if ok = true ∧ s.slotBase s.boot.act.slot + 0xF08 ≤ a ∧ a < s.slotBase s.boot.act.slot + 0xF0C then 0 else cellAt s a) ∧
       t.resp = .okay ∧ t.boot = { s.boot with prevUnconf := false, swapBack := false })) ∧
    (Yields (exec (.bootLockSet) s) (fun t =>
       Regs s t [(BOOT_LOCK_LOCK, 1)] ∧ Quiet s t ∧ t.resp = .okay)) ∧
    (s.fget CYC_XSTAT_TRIAL_RUN = 1 →
     (s.lower CYC_XSTAT_TRIAL_RUN).swapRefused = false →
     Yields (exec (.trialTimerExpiry) s) (fun t =>
       Regs s t [(CYC_XSTAT_TRIAL_RUN, 0), (CYC_EVT_AUTO_BACK, 1)] ∧ Quiet s t ∧
       t.boot = { s.boot with armed := true, swapBack := s.boot.prevUnconf })) ∧
    (s.fget CYC_XSTAT_TRIAL_RUN = 0 →
     exec .trialTimerExpiry s = .next s)

/-- A voting lane's transaction opens its window in both Shepherds and waits there; the second arrival that agrees gives the verdict (R182, R183); an
arrival that differs from the verdict, or one that is missing at the window close, makes its lane a stray: it halts, the stray
log names lane, core and cause (R184, R191); without two that agree at the close the device safe state is entered (R183). A full skew buffer lets the lane wait (R181). An independent lane's read goes to the
hub (R210). The other Shepherd's equal verdict releases an agreed read to the hub (R185, R186);
an unequal or missing one, and a stored entry whose parity fails, are voter faults, recorded with the Shepherds concerned, which assert the voter source of device reach (R207). -/
def Obligations.Voting : Prop :=
  ∀ (s : State),
    (∀ (l : LaneId) (x : Txn) (xs : List Txn),
     s.votes l = true →
     (s.lane l).out = x :: xs →
     x.kind.toNat < 5 →
     s.triad.wins = [] →
     2 ≤ s.voting.length →
     (∀ m : LaneId, (s.lane m).exec ≠ .toSafe) →
     Yields (exec (.shepherdTransaction l []) s) (fun t =>
       Regs s t [] ∧ t.mem = s.mem ∧ t.flash = s.flash ∧ t.pending = s.pending ∧
       t.lane l = { s.lane l with out := xs } ∧ (∀ k, k ≠ l → t.lane k = s.lane k) ∧
       t.triad = { s.triad with wins := [{ seq := x.seq, arr := [(l, x)], arr2 := [(l, x)], verdict := none, made := none, released := false }] })) ∧
    (∀ (l m : LaneId) (x : Txn) (xs : List Txn),
     s.votes l = true →
     s.votes m = true →
     l ≠ m →
     (s.lane l).out = x :: xs →
     x.poison = false →
     s.triad.wins = [{ seq := x.seq, arr := [(m, x)], arr2 := [(m, x)], verdict := none, made := none, released := false }] →
     (∀ m : LaneId, (s.lane m).exec ≠ .toSafe) →
     Yields (exec (.shepherdTransaction l []) s) (fun t =>
       Regs s t [] ∧ t.mem = s.mem ∧ t.flash = s.flash ∧ t.pending = s.pending ∧
       t.lane l = { s.lane l with out := xs } ∧ (∀ k, k ≠ l → t.lane k = s.lane k) ∧
       t.triad = { s.triad with wins := [{ seq := x.seq, arr := [(m, x), (l, x)], arr2 := [(m, x), (l, x)], verdict := some { txn := x, split := false, exchanged := false }, made := none, released := false }] })) ∧
    (∀ (l : LaneId) (x y : Txn) (xs : List Txn) (arr : List (LaneId × Txn)),
     (∀ m : LaneId, s.votes m = true) →
     (s.lane l).out = x :: xs →
     y.agrees x = false →
     x.poison = false →
     arr.all (fun p => p.2.agrees y && p.1 ≠ l) = true →
     2 ≤ arr.length →
     s.triad.wins = [{ seq := x.seq, arr := arr, arr2 := arr, verdict := some { txn := y, split := false, exchanged := false }, made := none, released := false }] →
     s.wear.history = [] →
     2 ≤ s.fget TRI_RETIRE_COUNT →
     (∀ m : LaneId, (s.lane m).exec ≠ .toSafe) →
     Yields (exec (.shepherdTransaction l []) s) (fun t =>
       (∀ p ∈ ([(TRI_EVT_STRAY, 1), (TRI_STRAYLOG_VALID, 1), (TRI_STRAYLOG_LANE, l.num),
         (TRI_STRAYLOG_CORE, (s.coreOfLane l).num), (TRI_STRAYLOG_CAUSE, 1), (laneStateF l, 1)] : List (Fld × Nat)), t.fget p.1 = p.2) ∧
       (t.lane l).exec = .halted ∧ (t.lane l).out = [] ∧ (∀ k, k ≠ l → t.lane k = s.lane k) ∧
       t.mem = s.mem ∧ t.flash = s.flash ∧ t.pending = s.pending)) ∧
    (∀ (l : LaneId) (x : Txn) (xs : List Txn),
     s.votes l = true →
     (s.lane l).out = x :: xs →
     s.skewUsed l < 16 →
     exec (.shepherdTransaction l []) s = .next ((s.updLane l (fun y => { y with out := xs })).arrive l x x)) ∧
    (∀ (l : LaneId) (fl : List (Bool × Nat)),
     (s.lane l).out = [] ∨ 16 ≤ s.skewUsed l →
     exec (.shepherdTransaction l fl) s = .next s) ∧
    (∀ (l : LaneId) (x : Txn) (xs : List Txn) (b : Bool) (n : Nat),
     (s.lane l).out = x :: xs →
     s.skewUsed l < 16 →
     n < 150 →
     Yields (exec (.shepherdTransaction l [(b, n)]) s) (fun t =>
       VoterFault s t 2 (if b then 2 else 1) l.num)) ∧
    (∀ (l : LaneId) (x : Txn) (xs : List Txn),
     s.votes l = false →
     s.indep l = true →
     (s.lane l).out = x :: xs →
     x.kind.toNat = 8 ∨ x.kind.toNat = 9 →
     x.poison = false →
     x.held = false →
     s.mode = 3 →
     s.triad.wins.length < 16 →
     (∀ m : LaneId, (s.lane m).exec ≠ .toSafe) →
     Yields (exec (.shepherdTransaction l []) s) (fun t =>
       Regs s t [] ∧ t.mem = s.mem ∧ t.flash = s.flash ∧ t.pending = s.pending ∧
       t.lane l = { s.lane l with out := xs } ∧ (∀ k, k ≠ l → t.lane k = s.lane k) ∧
       t.memx = { s.memx with hubQ := s.memx.hubQ ++ [hubItem (.solo l) x [l]] })) ∧
    (∀ (l m n : LaneId) (x : Txn),
     (∀ j : LaneId, s.votes j = true) →
     l ≠ m →
     l ≠ n →
     m ≠ n →
     x.poison = false →
     s.triad.wins = [{ seq := x.seq, arr := [(m, x), (n, x)], arr2 := [(m, x), (n, x)], verdict := some { txn := x, split := false, exchanged := false }, made := none, released := false }] →
     s.wear.history = [] →
     2 ≤ s.fget TRI_RETIRE_COUNT →
     (∀ m : LaneId, (s.lane m).exec ≠ .toSafe) →
     Yields (exec (.votingWindowClose x.seq) s) (fun t =>
       (∀ p ∈ ([(TRI_EVT_STRAY, 1), (TRI_STRAYLOG_VALID, 1), (TRI_STRAYLOG_LANE, l.num),
         (TRI_STRAYLOG_CORE, (s.coreOfLane l).num), (TRI_STRAYLOG_CAUSE, 2), (laneStateF l, 1)] : List (Fld × Nat)), t.fget p.1 = p.2) ∧
       (t.lane l).exec = .halted ∧ (∀ k, k ≠ l → t.lane k = s.lane k) ∧
       t.mem = s.mem ∧ t.flash = s.flash ∧ t.pending = s.pending ∧ t.triad.wins = s.triad.wins)) ∧
    (∀ (x : Txn) (arr : List (LaneId × Txn)),
     s.triad.wins = [{ seq := x.seq, arr := arr, arr2 := arr, verdict := some { txn := x, split := false, exchanged := false }, made := none, released := false }] →
     s.voting.all (fun l => arr.any (fun p => p.1 = l)) = true →
     arr.all (fun p => p.2.agrees x) = true →
     agreed (arr.filter (fun p => s.voting.contains p.1)) = some x →
     (∀ m : LaneId, (s.lane m).exec ≠ .toSafe) →
     Yields (exec (.votingWindowClose x.seq) s) (fun t =>
       Regs s t [] ∧ Quiet s t ∧ t.triad = s.triad)) ∧
    (∀ (q : BitVec 32) (arr : List (LaneId × Txn)),
     s.triad.wins = [{ seq := q, arr := arr, arr2 := arr, verdict := none, made := none, released := false }] →
     arr.filter (fun p => s.voting.contains p.1) ≠ [] →
     agreed (arr.filter (fun p => s.voting.contains p.1)) = none →
     s.rst.safe = none →
     Yields (exec (.votingWindowClose q) s) (fun t =>
       t.rst.safe = some 4 ∧ t.pins.safeOut = false ∧ t.pending = s.pending)) ∧
    (∀ (x : Txn) (arr : List (LaneId × Txn)),
     s.triad.wins = [{ seq := x.seq, arr := arr, arr2 := arr, verdict := some { txn := x, split := false, exchanged := false }, made := none, released := false }] →
     s.voting.all (fun l => arr.any (fun p => p.1 = l)) = true →
     x.kind = 8 →
     x.held = false →
     (∀ m : LaneId, (s.lane m).exec ≠ .toSafe) →
     Yields (exec (.verdictExchange x.seq true) s) (fun t =>
       Regs s t [] ∧ Quiet s t ∧ t.triad = { s.triad with wins := [] } ∧
       t.memx = { s.memx with hubQ := s.memx.hubQ ++ [hubItem .lanes x s.voting] })) ∧
    (∀ (q : BitVec 32) (w : Win) (v : Verdict),
     s.winAt q = some w →
     w.verdict = some v →
     v.exchanged = false →
     v.split = false →
     exec (.verdictExchange q true) s = .next (s.updWin q (fun y => { y with verdict := some { v with exchanged := true } })).releaseAll) ∧
    (∀ (q : BitVec 32) (w : Win) (v : Verdict) (b : Bool),
     s.winAt q = some w →
     w.verdict = some v →
     v.exchanged = false →
     v.split = true ∨ b = false →
     Yields (exec (.verdictExchange q b) s) (fun t =>
       VoterFault s t 1 3 3)) ∧
    (∀ (q : BitVec 32) (w : Win) (v : Verdict) (b : Bool),
     s.winAt q = some w →
     w.verdict = some v →
     v.exchanged = false →
     Yields (exec (.verdictExchangeTimeout q b) s) (fun t =>
       VoterFault s t 4 (if b then 2 else 1) 3)) ∧
    (∀ (q : BitVec 32) (a b : Bool),
     s.winAt q = none →
     exec (.verdictExchange q a) s = .next s ∧ exec (.verdictExchangeTimeout q b) s = .next s)

/-- A lane that waits for a general load takes the response of its sequence number: the selected bytes, extended, are in its
register and it runs again (R189); an error response is the bus trap at the load (R247). With both Shepherds flagging, the
injection counter advances round 48 triples (R209), otherwise it is a voter fault (R207). The independent lane that has not sent its END in time
halts, with the event and the status bit (R262). -/
def Obligations.ReadsInjectionAndMissingEnd : Prop :=
  ∀ (s : State),
    (∀ (l : LaneId) (r : RdResp) (d : GReg) (o n : Nat) (sg : Bool),
     s.triad.resps = [r] →
     r.lanes = [l] →
     s.triad.wins = [] →
     r.twin = (r.code, r.effect, r.data) →
     r.code = 0 →
     r.effect = false →
     (s.lane l).exec = .waitRead r.seq (.load d o n sg) →
     (s.lane l).prefetch = [] →
     n = 1 ∨ n = 2 ∨ n = 4 ∨ n = 8 →
     Yields (exec (.replicatedReadResponse l []) s) (fun t =>
       Regs s t [] ∧ t.mem = s.mem ∧ t.flash = s.flash ∧ t.pending = s.pending ∧
       t.lane l = { s.lane l with
         exec := .run
         g := put (s.lane l) d (if sg then (BitVec.ofNat (8 * n) (r.data.toNat / 2 ^ (8 * o))).signExtend 64
                                else (BitVec.ofNat (8 * n) (r.data.toNat / 2 ^ (8 * o))).setWidth 64) } ∧
       (∀ k, k ≠ l → t.lane k = s.lane k) ∧ t.triad = { s.triad with resps := [] })) ∧
    (∀ (l : LaneId) (r : RdResp) (d : GReg) (sg : Bool),
     s.triad.resps = [r] →
     r.lanes = [l] →
     s.triad.wins = [] →
     r.twin = (r.code, r.effect, r.data) →
     r.code = 0 →
     r.effect = false →
     (s.lane l).exec = .waitRead r.seq (.item d sg) →
     (s.lane l).prefetch = [] →
     Yields (exec (.replicatedReadResponse l []) s) (fun t =>
       Regs s t [] ∧ t.mem = s.mem ∧ t.flash = s.flash ∧ t.pending = s.pending ∧
       t.lane l = { s.lane l with
         exec := .run
         g := put (s.lane l) d (if sg then (r.data.setWidth 32).signExtend 64 else (r.data.setWidth 32).setWidth 64)
         st := if r.data.getLsbD 32 then (s.lane l).st ||| 0x10 else (s.lane l).st &&& 0xFFEF } ∧
       (∀ k, k ≠ l → t.lane k = s.lane k) ∧ t.triad = { s.triad with resps := [] })) ∧
    (∀ (l : LaneId) (r : RdResp) (d : GReg),
     s.triad.resps = [r] →
     r.lanes = [l] →
     s.triad.wins = [] →
     r.twin = (r.code, r.effect, r.data) →
     r.code = 0 →
     r.effect = false →
     (s.lane l).exec = .waitRead r.seq (.recv d) →
     (s.lane l).prefetch = [] →
     Yields (exec (.replicatedReadResponse l []) s) (fun t =>
       Regs s t [] ∧ t.mem = s.mem ∧ t.flash = s.flash ∧ t.pending = s.pending ∧
       t.lane l = { s.lane l with
         exec := .run
         g := put (s.lane l) d r.data
         st := if r.data = 0 then (s.lane l).st ||| 1 else (s.lane l).st &&& 0xFFFE } ∧
       (∀ k, k ≠ l → t.lane k = s.lane k) ∧ t.triad = { s.triad with resps := [] })) ∧
    (∀ (l : LaneId) (r : RdResp) (d : GReg) (o n : Nat) (sg : Bool),
     s.triad.resps = [r] →
     r.lanes = [l] →
     s.triad.wins = [] →
     r.twin = (r.code, r.effect, r.data) →
     r.code ≠ 0 →
     (s.lane l).exec = .waitRead r.seq (.load d o n sg) →
     (s.lane l).prefetch = [] →
     exec (.replicatedReadResponse l []) s =
       .next (({ s with triad := { s.triad with resps := [] } }.updLane l (fun x =>
         { x with exec := .run, pc := x.pc - 4 })).trapEnter l (0x10 + r.code) (r.addr + o) r.code)) ∧
    (∀ (l : LaneId) (r : RdResp),
     s.triad.resps = [r] →
     r.lanes = [l] →
     s.triad.wins = [] →
     r.twin = (r.code, r.effect, r.data) →
     r.code = 0 →
     (s.lane l).prefetch = [r.seq] →
     exec (.replicatedReadResponse l []) s =
       .next (if r.effect then State.heldAdd ({ s with triad := { s.triad with resps := [] } }.updLane l (fun x => { x with prefetch := [] })) l r.addr r.data
              else { s with triad := { s.triad with resps := [] } }.updLane l (fun x => { x with prefetch := [] }))) ∧
    (∀ (l : LaneId) (r : RdResp) (b : Bool) (n : Nat),
     s.triad.resps = [r] →
     r.lanes = [l] →
     s.triad.wins = [] →
     r.twin = (r.code, r.effect, r.data) →
     n < 69 →
     Yields (exec (.replicatedReadResponse l [(b, n)]) s) (fun t =>
       VoterFault s t 3 (if b then 2 else 1) l.num)) ∧
    (∀ (l : LaneId) (fl : List (Bool × Nat)),
     s.triad.resps = [] →
     exec (.replicatedReadResponse l fl) s = .next s) ∧
    (s.triad.injPending = true →
     s.fget CYC_STAT_PHASE ≠ 1 ∨ s.triad.endReleased = false →
     Yields (exec (.runtimeInjectionFlagged true true) s) (fun t =>
       Regs s t [(TRI_INJ_RT_NEXT, (s.fget TRI_INJ_RT_NEXT + 1) % 48)] ∧ Quiet s t ∧
       t.triad = { s.triad with injPending := false })) ∧
    (∀ (a b : Bool),
     s.triad.injPending = true →
     (a && b) = false →
     s.fget TRI_INJ_RT_NEXT < 48 →
     Yields (exec (.runtimeInjectionFlagged a b) s) (fun t =>
       VoterFault s t 5 ((if a then 0 else 1) + if b then 0 else 2) (s.fget TRI_INJ_RT_NEXT / 16))) ∧
    (∀ (a b : Bool),
     s.triad.injPending = false →
     exec (.runtimeInjectionFlagged a b) s = .next s) ∧
    (∀ (l : LaneId),
     s.mode = 2 →
     s.indep l = true →
     s.triad.endReleased = true →
     (s.lane l).over = false →
     s.triad.injPending = true →
     Yields (exec (.soloLateHalt l) s) (fun t =>
       Regs s t [(CYC_EVT_SOLO_LATE, 1), (CYC_STAT_SOLO_LATE, 1)] ∧ t.mem = s.mem ∧ t.flash = s.flash ∧
       t.lane l = { s.lane l with exec := .halted, out := [] } ∧ (∀ k, k ≠ l → t.lane k = s.lane k) ∧
       t.pending = s.pending))

/-- At a boundary that is due, whatever the rest of the boundary finds to do (R172): the cycle counter advances, CYC_LAST shows
the duration of the cycle in ns, CYC_MAX the largest, and an overrun sets its event (R253, R275); a boundary that is not due does
nothing. A passed self-test after a reintegration lets the lane vote again, a failed one retires its core; a passed self-test after
a substitution sets SUBST (R192, R193, R201). A reserve that fails its self-test is retired (R202). A sheepdog trip in service asserts the sheepdog
source of device reach (R277). -/
def Obligations.CycleBoundaries : Prop :=
  ∀ (s : State),
    (∀ (ok : Bool),
     s.cyc.stage = 0 →
     s.rst.active = false →
     s.clk.hold = false →
     s.fget BOOT_STAT_PHASE = 7 →
     s.cyc.started = true →
     s.fget CYC_STAT_PHASE = 3 →
     s.boot.armed = false →
     s.memx.rgnPend = [] →
     Yields (exec (.cycleBoundary ok none) s) (fun t =>
       t.cyc.count = s.cyc.count + 1 ∧ t.fget CYC_LAST_NS = min (s.now.hubNs - s.cyc.startNs) 0xFFFFFFFF ∧
       t.fget CYC_MAX_NS = max (min (s.now.hubNs - s.cyc.startNs) 0xFFFFFFFF) (s.fget CYC_MAX_NS) ∧
       (s.cyc.skipNow = false → s.cyc.limit * 1000 < (s.now.hubNs - s.cyc.startNs) → t.fget CYC_EVT_OVERRUN = 1) ∧
       t.pending = s.pending)) ∧
    (∀ (ok : Bool),
     s.cyc.stage = 0 →
     s.rst.active = false →
     s.clk.hold = false →
     s.fget BOOT_STAT_PHASE = 7 →
     s.cyc.started = false →
     s.anyService = true →
     s.rst.safe = none →
     s.boot.armed = false →
     s.memx.rgnPend = [] →
     Yields (exec (.cycleBoundary ok none) s) (fun t =>
       t.cyc.started = true ∧ t.cyc.count = 0 ∧ t.fget BOOT_TIME_US = min (s.now.epNs / 1000) 0xFFFFFFFF ∧
       t.pins.safeOut = decide (t.rst.safe = none) ∧ t.pending = s.pending)) ∧
    (∀ (ok : Bool) (sw : Option (Nat × BitVec 2)),
     s.cyc.stage = 0 →
     s.rst.active = false →
     s.clk.hold = false →
     s.fget BOOT_STAT_PHASE = 7 →
     s.cyc.started = false →
     s.anyService = false →
     Yields (exec (.cycleBoundary ok sw) s) (fun t =>
       Regs s t [(BOOT_STAT_PHASE, 8)] ∧ Quiet s t ∧ t.cyc = s.cyc)) ∧
    (∀ (ok : Bool) (sw : Option (Nat × BitVec 2)),
     s.cyc.stage ≠ 0 ∨ s.rst.active = true ∨ s.clk.hold = true ∨ s.fget BOOT_STAT_PHASE ≠ 7 ∨ (s.cyc.started = true ∧ s.fget CYC_STAT_PHASE ≠ 3) →
     exec (.cycleBoundary ok sw) s = .next s) ∧
    (∀ (l : LaneId) (k : CoreId),
     s.cyc.stage = 2 →
     s.cyc.sweepMiss = none →
     s.fget BOOT_STAT_REFUSE = 0 →
     s.triad.testing = [(l, k)] →
     s.boot.armed = false →
     s.memx.rgnPend = [] →
     s.triad.cfgReq = none →
     s.triad.modeReq = none →
     s.triad.joinWait = [] →
     Yields (exec (.reintegrationSelftestDone l true) s) (fun t =>
       t.fget (laneStateF l) = 0 ∧ t.pending = s.pending)) ∧
    (∀ (l : LaneId) (k : CoreId),
     s.cyc.stage = 2 →
     s.cyc.sweepMiss = none →
     s.fget BOOT_STAT_REFUSE = 0 →
     s.triad.testing = [(l, k)] →
     s.boot.armed = false →
     s.memx.rgnPend = [] →
     Yields (exec (.reintegrationSelftestDone l false) s) (fun t =>
       t.fget (retiredF k) = 1 ∧ t.fget TRI_EVT_REINT_FAIL = 1 ∧ t.pending = s.pending)) ∧
    (∀ (l : LaneId) (k : CoreId),
     s.cyc.stage = 1 →
     s.cyc.sweepMiss = none →
     s.triad.testing = [(l, k)] →
     s.boot.armed = false →
     s.memx.rgnPend = [] →
     Yields (exec (.substitutionSelftestDone l true) s) (fun t =>
       t.fget TRI_EVT_SUBST = 1 ∧ t.pending = s.pending)) ∧
    (s.reserveIdle = true →
     Yields (exec (.reserveSelftestFail) s) (fun t =>
       t.fget (retiredF .d) = 1 ∧ t.fget TRI_EVT_RETIRE = 1 ∧ t.fget TRI_EVT_RESERVE_FAIL = 1 ∧
       t.fget (preq Paddock.coreD) = 1 ∧ t.flash = s.flash ∧ t.pending = s.pending)) ∧
    (s.reserveIdle = false →
     exec .reserveSelftestFail s = .next s) ∧
    (s.cyc.started = true →
     Yields (exec (.sheepdogTrip) s) (fun t =>
       Asserted s t .sheepdog)) ∧
    (s.cyc.started = false →
     exec .sheepdogTrip s = .next s)

/-- Frames of the barrier link (chapter 11). At the field die: RESET drops everything; LOAD leaves the configuration as received
with the loop open and the safe latch as it was; a valid COMMIT or REFRESH, in the form of Table 11-2, ends a time-out and gives every unpaired output its value where the quality is good
and its safe state where it is not (R290, R299); a frame that is not valid, or finds the die without supply, is taken and does nothing; SAFE latches, and it, link silence and an oscillator difference above 5 % put every output into
its safe state and open the loop (R14, R115, R291, R292). At the compute die: REFRESH carries the latest COMMIT content; a valid
status frame shows in the registers and in the receive bank and its substitutions in the wear log, an invalid one counts (R293, R28); a link failure sets its event, and
with a safety function in service enters the device safe state. Commands without a frame or outside their condition change nothing. -/
def Obligations.BarrierLinkFrames : Prop :=
  ∀ (s : State),
    (∀ (q : List LinkFrame),
     s.link.toField = .reset :: q →
     s.flogicUp = true →
     Yields (exec (.fieldResetFrame true) s) (fun t =>
       Regs s t [] ∧ Quiet s t ∧ t.link = { s.link with toField := q } ∧ t.fd = Fd.reset) ∧
     Yields (exec (.fieldResetFrame false) s) (fun t =>
       Regs s t [] ∧ Quiet s t ∧ t.link = { s.link with toField := q } ∧ t.fd = s.fd)) ∧
    (∀ (q : List LinkFrame),
     s.link.toField = .reset :: q →
     s.flogicUp = false →
     Yields (exec (.fieldResetFrame true) s) (fun t =>
       Regs s t [] ∧ Quiet s t ∧ t.link = { s.link with toField := q } ∧ t.fd = s.fd)) ∧
    (∀ (q : List LinkFrame) (m : RegMap) (u : List (Nat × Nat × Nat)),
     s.link.toField = .load m u :: q →
     s.flogicUp = true →
     Yields (exec (.fieldLoadFrame true) s) (fun t =>
       Regs s t [] ∧ Quiet s t ∧ t.link = { s.link with toField := q } ∧ t.fd.cfgd = true ∧ t.fd.loadOk = true ∧ t.fd.cfg = m ∧
       t.fd.safeLatch = s.fd.safeLatch ∧ t.fd.timedOut = false ∧ t.fd.hsOn = false ∧ t.fd.lsOn = false ∧ t.fd.loopFault = 0 ∧
       t.fd.taken = Fd.reset.taken) ∧
     Yields (exec (.fieldLoadFrame false) s) (fun t =>
       Regs s t [] ∧ Quiet s t ∧ t.link = { s.link with toField := q } ∧ t.fd = { s.fd with loadOk := false })) ∧
    (∀ (q : List LinkFrame) (b : List Byte) (o : OutImg),
     s.flogicUp = true →
     s.fd.cfgd = true →
     s.fd.oscBad = false →
     s.link.toField = .commit b :: q →
     frameImg 3 b = some o →
     s.fd.safeLatch = false →
     Yields (exec (.fieldCommitFrame true) s) (fun t =>
       Regs s t [] ∧ Quiet s t ∧ t.link = { s.link with toField := q } ∧ t.fd.img = o ∧ t.fd.timedOut = false ∧
       (∀ n : Fin 16, bitOf (s.fd.cfg.fget FLD_DOCFG_PAIR) (n / 2) = false →
         t.fd.doCmd n = if o.qg.getLsbD n then o.val.getLsbD n else bitOf (s.fd.cfg.fget FLD_DOCFG_SAFEON) n)) ∧
     Yields (exec (.fieldCommitFrame false) s) (fun t =>
       Regs s t [] ∧ Quiet s t ∧ t.link = { s.link with toField := q } ∧ t.fd = s.fd)) ∧
    (∀ (q : List LinkFrame) (b : List Byte) (o : OutImg),
     s.flogicUp = true →
     s.fd.cfgd = true →
     s.fd.oscBad = false →
     s.link.toField = .refresh b :: q →
     frameImg 4 b = some o →
     s.fd.safeLatch = false →
     Yields (exec (.fieldRefreshFrame true) s) (fun t =>
       Regs s t [] ∧ Quiet s t ∧ t.link = { s.link with toField := q } ∧ t.fd.img = o ∧ t.fd.timedOut = false ∧
       (∀ n : Fin 16, bitOf (s.fd.cfg.fget FLD_DOCFG_PAIR) (n / 2) = false →
         t.fd.doCmd n = if o.qg.getLsbD n then o.val.getLsbD n else bitOf (s.fd.cfg.fget FLD_DOCFG_SAFEON) n)) ∧
     Yields (exec (.fieldRefreshFrame false) s) (fun t =>
       Regs s t [] ∧ Quiet s t ∧ t.link = { s.link with toField := q } ∧ t.fd = s.fd)) ∧
    (∀ (q : List LinkFrame) (b : List Byte) (ok : Bool),
     s.link.toField = .commit b :: q →
     frameImg 3 b = none ∨ s.fd.oscBad = true ∨ s.flogicUp = false ∨ s.fd.cfgd = false →
     Yields (exec (.fieldCommitFrame ok) s) (fun t =>
       Regs s t [] ∧ Quiet s t ∧ t.link = { s.link with toField := q } ∧ t.fd = s.fd)) ∧
    (∀ (q : List LinkFrame) (b : List Byte) (ok : Bool),
     s.link.toField = .refresh b :: q →
     frameImg 4 b = none ∨ s.fd.oscBad = true ∨ s.flogicUp = false ∨ s.fd.cfgd = false →
     Yields (exec (.fieldRefreshFrame ok) s) (fun t =>
       Regs s t [] ∧ Quiet s t ∧ t.link = { s.link with toField := q } ∧ t.fd = s.fd)) ∧
    (∀ (q : List LinkFrame),
     s.flogicUp = true →
     s.fd.oscBad = false →
     s.link.toField = .safe :: q →
     s.fd.loop ≠ .fault →
     Yields (exec (.fieldSafeFrame true) s) (fun t =>
       Regs s t [] ∧ Quiet s t ∧ t.link = { s.link with toField := q } ∧ t.fd.safeLatch = true ∧ t.fd.loop = .opened ∧ t.fd.hsOn = false ∧
       t.fd.lsOn = false ∧ (∀ n : Fin 16, t.fd.doCmd n = bitOf (s.fd.cfg.fget FLD_DOCFG_SAFEON) (s.fd.cmdBase n)))) ∧
    (∀ (q : List LinkFrame) (ok : Bool),
     s.link.toField = .safe :: q →
     s.flogicUp = false ∨ s.fd.oscBad = true ∨ ok = false →
     Yields (exec (.fieldSafeFrame ok) s) (fun t =>
       Regs s t [] ∧ Quiet s t ∧ t.link = { s.link with toField := q } ∧ t.fd = s.fd)) ∧
    (∀ (ppm : Nat),
     s.flogicUp = true →
     s.fd.cfgd = true →
     50000 < ppm →
     s.fd.loop ≠ .fault →
     Yields (exec (.fieldLinkTimeout) s) (fun t =>
       FieldOnly s t ∧ t.fd.timedOut = true ∧ t.fd.toRecord = true ∧ t.fd.loop = .opened ∧
       t.fd.hsOn = false ∧ t.fd.lsOn = false ∧ t.fd.oscBad = s.fd.oscBad ∧ (∀ n : Fin 16, t.fd.doCmd n = bitOf (s.fd.cfg.fget FLD_DOCFG_SAFEON) (s.fd.cmdBase n))) ∧
     Yields (exec (.fieldOscMismatch ppm) s) (fun t =>
       FieldOnly s t ∧ t.fd.timedOut = true ∧ t.fd.toRecord = true ∧ t.fd.loop = .opened ∧
       t.fd.hsOn = false ∧ t.fd.lsOn = false ∧ t.fd.oscBad = true ∧ (∀ n : Fin 16, t.fd.doCmd n = bitOf (s.fd.cfg.fget FLD_DOCFG_SAFEON) (s.fd.cmdBase n)))) ∧
    (∀ (ppm : Nat),
     ppm ≤ 50000 ∨ s.flogicUp = false ∨ s.fd.cfgd = false →
     exec (.fieldOscMismatch ppm) s = .next { s with fd := { s.fd with oscBad := decide (50000 < ppm) } }) ∧
    (s.link.acked = true →
     s.clk.hold = false →
     bitOf (s.fget CLK_GMAP_ISLAND) 8 = true →
     Yields (exec (.refreshSendTick) s) (fun t =>
       Regs s t [] ∧ Quiet s t ∧ t.link = { s.link with toField := s.link.toField ++ [.refresh (outFrame 4 s.link.img)] })) ∧
    (s.link.acked = false →
     exec .refreshSendTick s = .next s) ∧
    (∀ (m : FieldMeas),
     s.flogicUp = true →
     s.fd.cfgd = true →
     s.fd.oscBad = false →
     m.drift = [] →
     Yields (exec (.statusFrameTick m) s) (fun t =>
       Regs s t [] ∧ Quiet s t ∧ t.link.toComp.dropLast = s.link.toComp ∧
       (∀ fr ∈ t.link.toComp.getLast?, fr.evts = s.fd.evts ∧ fr.subs = s.fd.subs ∧ fr.timeout = s.fd.toRecord ∧
         fr.safeLatch = s.fd.safeLatch ∧ fr.words.word 0x40040010 = s.fd.filt ∧
         fr.words.word 0x40040014 = s.fd.raw ∧ fr.words.word 0x40040034 = s.fd.diFault ∧
         (∀ n : Fin 32, fr.diGood.getLsbD n = s.fd.diGood n) ∧
         (∀ n : Fin 16, (fr.words.word 0x40040048).getLsbD n = s.doOn n)) ∧
       t.fd.evts = 0 ∧ t.fd.subs = s.fd.subs ∧ t.fd.mv = m.mv ∧ t.fd.temp = m.tempDc)) ∧
    (∀ (m : FieldMeas),
     s.flogicUp = true →
     s.fd.cfgd = true →
     s.fd.oscBad = false →
     Yields (exec (.statusFrameTick m) s) (fun t =>
       Regs s t [] ∧ Quiet s t ∧ t.link.toComp.dropLast = s.link.toComp ∧ t.link.toComp.length = s.link.toComp.length + 1 ∧
       (∀ fr ∈ t.link.toComp.getLast?, fr.subs = t.fd.subs) ∧ t.fd.evts = 0 ∧ t.fd.mv = m.mv ∧ t.fd.temp = m.tempDc)) ∧
    (∀ (m : FieldMeas),
     s.flogicUp = false ∨ s.fd.cfgd = false ∨ s.fd.oscBad = true →
     exec (.statusFrameTick m) s = .next s) ∧
    (∀ (fr : StatusFrame) (q : List StatusFrame),
     s.link.toComp = fr :: q →
     s.clk.hold = false →
     s.rst.active = false →
     fr.subs = [] →
     Yields (exec (.statusFrameReceived true) s) (fun t =>
       t.link = { s.link with toComp := q, rx := some fr } ∧ Quiet s t ∧
       (∀ a ∈ statusRegs, t.regWord a = fr.words.word a) ∧
       t.fget FLD_STAT_TIMEOUT = (if fr.timeout then 1 else 0) ∧
       t.fget FLD_STAT_SAFE_LATCH = (if fr.safeLatch then 1 else 0) ∧
       (∀ b : Fin 10, fr.evts.getLsbD b = true → t.fget ⟨0x40040004, b, 1⟩ = 1)) ∧
     Yields (exec (.statusFrameReceived false) s) (fun t =>
       Regs s t [(FLD_STAT_CRCERR, plusOne s FLD_STAT_CRCERR)] ∧ Quiet s t ∧
       t.link = { s.link with toComp := q })) ∧
    (∀ (fr : StatusFrame) (q : List StatusFrame) (e : Nat × Nat × Nat),
     s.link.toComp = fr :: q →
     s.clk.hold = false →
     s.rst.active = false →
     fr.subs = [e] →
     Yields (exec (.statusFrameReceived true) s) (fun t =>
       t.link = { s.link with toComp := q, rx := some fr } ∧ t.flash = s.flash ∧ (∀ l, t.lane l = s.lane l) ∧ t.pending = s.pending ∧
       t.wear.file.any (fun x => x.kind = e.1 && x.unit = e.2.1 && x.detail = e.2.2) = true)) ∧
    (∀ (fr : StatusFrame) (q : List StatusFrame) (ok : Bool),
     s.link.toComp = fr :: q →
     s.clk.hold = true ∨ s.rst.active = true →
     exec (.statusFrameReceived ok) s = .next { s with link := { s.link with toComp := q } }) ∧
    (s.fget FLD_STAT_LINK = 2 →
     s.inService = false →
     Yields (exec (.barrierLinkFailure) s) (fun t =>
       Regs s t [(FLD_STAT_LINK, 3), (FLD_EVT_LINK_FAIL, 1), (FLD_STAT_CFG_OK, 0)] ∧ Quiet s t ∧ t.link = { s.link with acked := false })) ∧
    (s.fget FLD_STAT_LINK ≠ 3 →
     s.inService = true →
     Yields (exec (.barrierLinkFailure) s) (fun t =>
       t.fget FLD_STAT_LINK = 3 ∧ t.fget FLD_EVT_LINK_FAIL = 1 ∧ t.fget FLD_STAT_CFG_OK = 0 ∧ t.link.acked = false ∧ t.flash = s.flash ∧ t.pending = s.pending)) ∧
    (s.fget FLD_STAT_LINK ≠ 3 →
     s.inService = true →
     s.safetyCfg = true →
     s.rst.safe = none →
     Yields (exec (.barrierLinkFailure) s) (fun t =>
       t.fget FLD_STAT_LINK = 3 ∧ t.fget FLD_EVT_LINK_FAIL = 1 ∧ t.fget FLD_STAT_CFG_OK = 0 ∧ t.rst.safe = some 8 ∧
       t.pins.safeOut = false ∧ t.flash = s.flash ∧ t.pending = s.pending)) ∧
    (s.fget FLD_STAT_LINK = 3 ∨ (s.fget FLD_STAT_LINK ≠ 2 ∧ s.inService = false) →
     exec .barrierLinkFailure s = .next s)

/-- In a field die that is supplied and configured: a filter sample moves each counter by one towards the pin, inside 0 to N, and
the filtered state follows at the ends (R294); a front-end test moves to the next of its 36 places, a passed one clears the
failure count and the second failure in a row gives the input to a spare (R296, R297); a short or over-temperature turns the
output off at once and latches it, an open load is reported only, a retry clears the latch where RETRY is set (R301); the
handover of a segment ends (R302); a test pulse turns one output off, and an output that did not fall is stuck and opens the
brake loop with fault 6 (R303). A die without supply or configuration does nothing. -/
def Obligations.FieldInputsAndOutputs : Prop :=
  ∀ (s : State),
    (∀ (raw : BitVec 32),
     s.flogicUp = true →
     s.fd.cfgd = true →
     Yields (exec (.inputFilterSample raw) s) (fun t =>
       FieldOnly s t ∧ t.fd.raw = raw ∧ t.fd.holdInput = none ∧
       (∀ n : Fin 32, t.fd.cnt[n] = if s.fd.holdInput = some (n : Nat) then s.fd.cnt[n]
         else if raw.getLsbD n then min (s.fd.cnt[n] + 1) (s.fd.filtN n) else s.fd.cnt[n] - 1) ∧
       (∀ n : Fin 32, t.fd.taken[n] = if s.fd.holdInput = some (n : Nat) then s.fd.taken[n] else min (s.fd.taken[n] + 1) (s.fd.filtN n)) ∧
       (∀ n : Fin 32, t.fd.filt.getLsbD n =
         if t.fd.cnt[n] = 0 then false else if s.fd.filtN n ≤ t.fd.cnt[n] then true else s.fd.filt.getLsbD n))) ∧
    (∀ (k : Fin 32),
     s.flogicUp = true →
     s.fd.cfgd = true →
     s.fd.spares = Vector.replicate 4 { bad := false, used := false, input := 0, fails := 0 } →
     s.fd.testIdx = k →
     Yields (exec (.frontEndTest { primaryOk := true, carrierOk := true, compareOk := true }) s) (fun t =>
       FieldOnly s t ∧ t.fd.testIdx = k + 1 ∧ t.fd.feFails[k] = 0 ∧ t.fd.spares = s.fd.spares)) ∧
    (∀ (k : Fin 32) (r : FeResult),
     s.flogicUp = true →
     s.fd.cfgd = true →
     s.fd.spares = Vector.replicate 4 { bad := false, used := false, input := 0, fails := 0 } →
     s.fd.testIdx = k →
     1 ≤ s.fd.feFails[k] →
     r.carrierOk = true →
     (r.primaryOk && r.compareOk) = false →
     Yields (exec (.frontEndTest r) s) (fun t =>
       FieldOnly s t ∧ t.fd.testIdx = k + 1 ∧ t.fd.spares[0] = { bad := false, used := true, input := k, fails := 0 } ∧
       t.fd.subs = s.fd.subs ++ [(5, (k : Nat), 0)] ∧ t.fd.evts = s.fd.evts ||| 2)) ∧
    (∀ (k : Fin 32) (r : FeResult),
     s.flogicUp = true →
     s.fd.cfgd = true →
     s.fd.spares = Vector.replicate 4 { bad := false, used := false, input := 0, fails := 0 } →
     s.fd.testIdx = k →
     r.carrierOk = false →
     Yields (exec (.frontEndTest r) s) (fun t =>
       FieldOnly s t ∧ t.fd.testIdx = k + 1 ∧ t.fd.spares[0].bad = true ∧ t.fd.subs = s.fd.subs ∧ t.fd.evts = s.fd.evts ||| 8)) ∧
    (∀ (j : Fin 4) (r : FeResult),
     s.flogicUp = true →
     s.fd.cfgd = true →
     s.fd.spares = Vector.replicate 4 { bad := false, used := false, input := 0, fails := 0 } →
     s.fd.testIdx = 32 + (j : Nat) →
     Yields (exec (.frontEndTest r) s) (fun t =>
       FieldOnly s t ∧ t.fd.testIdx = (33 + (j : Nat)) % 36 ∧ t.fd.spares[j].bad = !r.primaryOk ∧
       t.fd.evts = if r.primaryOk then s.fd.evts else s.fd.evts ||| 8)) ∧
    (∀ (n : BitVec 4),
     s.flogicUp = true →
     s.fd.cfgd = true →
     s.doOn n.toNat = true →
     Yields (exec (.outputShort n) s) (fun t =>
       FieldOnly s t ∧ outAt t n = { (outAt s n) with short := true, latched := true, seenZero := false } ∧
       t.doOn n.toNat = false ∧ t.fd.evts = s.fd.evts ||| 0x40)) ∧
    (∀ (n : BitVec 4),
     s.doOn n.toNat = false →
     exec (.outputShort n) s = .next s) ∧
    (∀ (n : BitVec 4),
     s.flogicUp = true →
     s.fd.cfgd = true →
     Yields (exec (.outputOvertemp n) s) (fun t =>
       FieldOnly s t ∧ outAt t n = { (outAt s n) with hot := true, latched := true, seenZero := false } ∧
       t.doOn n.toNat = false ∧ t.fd.evts = s.fd.evts ||| 0x100)) ∧
    (∀ (n : BitVec 4),
     s.flogicUp = true →
     s.fd.cfgd = true →
     Yields (exec (.outputOpenLoad n) s) (fun t =>
       FieldOnly s t ∧ outAt t n = { (outAt s n) with openLoad := true } ∧ t.fd.evts = s.fd.evts ||| 0x80)) ∧
    (∀ (n : BitVec 4) (cooled : Bool),
     s.flogicUp = true →
     s.fd.cfgd = true →
     bitOf (s.fd.cfg.fget FLD_DOOPT_RETRY) (s.fd.cmdBase n.toNat) = true →
     (outAt s n).latched = true →
     (outAt s n).hot = false ∨ cooled = true →
     Yields (exec (.outputRetryExpiry n cooled) s) (fun t =>
       FieldOnly s t ∧ outAt t n = { (outAt s n) with latched := false, short := false, hot := false, seenZero := false })) ∧
    (∀ (n : BitVec 4) (cooled : Bool),
     s.flogicUp = true →
     s.fd.cfgd = true →
     bitOf (s.fd.cfg.fget FLD_DOOPT_RETRY) (s.fd.cmdBase n.toNat) = false →
     Yields (exec (.outputRetryExpiry n cooled) s) (fun t =>
       FieldOnly s t ∧ t.fd.outs = s.fd.outs)) ∧
    (∀ (n : BitVec 4),
     s.flogicUp = true →
     s.fd.cfgd = true →
     Yields (exec (.segmentHandoverExpiry n) s) (fun t =>
       FieldOnly s t ∧ outAt t n = { (outAt s n) with handover := none, off := (outAt s n).handover.or (outAt s n).off })) ∧
    (∀ (n : BitVec 4),
     s.flogicUp = true →
     s.fd.cfgd = true →
     bitOf (s.fd.cfg.fget FLD_DOOPT_TEST) n.toNat = true →
     s.fd.cmdBase n.toNat = n.toNat →
     s.doOn n.toNat = true →
     s.fd.loop ≠ .testHs →
     s.fd.loop ≠ .testLs →
     Yields (exec (.outputTestPulse n) s) (fun t =>
       FieldOnly s t ∧ outAt t n = { (outAt s n) with pulsing := true } ∧ t.doOn n.toNat = false)) ∧
    (∀ (n : BitVec 4),
     s.flogicUp = true →
     s.fd.cfgd = true →
     bitOf (s.fd.cfg.fget FLD_DOOPT_TEST) n.toNat = false ∨ s.fd.cmdBase n.toNat ≠ n.toNat ∨ s.doOn n.toNat = false ∨ s.fd.loop = .testHs ∨ s.fd.loop = .testLs →
     Yields (exec (.outputTestPulse n) s) (fun t =>
       FieldOnly s t ∧ t.fd.outs = s.fd.outs)) ∧
    (∀ (n : BitVec 4),
     s.flogicUp = true →
     s.fd.cfgd = true →
     (outAt s n).pulsing = true →
     Yields (exec (.outputTestPulseEnd n true) s) (fun t =>
       FieldOnly s t ∧ outAt t n = { (outAt s n) with pulsing := false }) ∧
     Yields (exec (.outputTestPulseEnd n false) s) (fun t =>
       FieldOnly s t ∧ outAt t n = { (outAt s n) with pulsing := false, stuck := true } ∧ t.fd.loop = .fault ∧
       t.fd.loopFault = 6 ∧ t.fd.hsOn = false ∧ t.fd.lsOn = false ∧ t.fd.evts = s.fd.evts ||| 0x200)) ∧
    (∀ (raw : BitVec 32) (r : FeResult) (n : BitVec 4) (b : Bool),
     s.flogicUp = false ∨ s.fd.cfgd = false →
     exec (.inputFilterSample raw) s = .next s ∧ exec (.frontEndTest r) s = .next s ∧
     exec (.outputOvertemp n) s = .next s ∧ exec (.outputOpenLoad n) s = .next s ∧ exec (.outputRetryExpiry n b) s = .next s ∧
     exec (.segmentHandoverExpiry n) s = .next s ∧ exec (.outputTestPulse n) s = .next s ∧ exec (.outputTestPulseEnd n b) s = .next s)

/-- The brake loop of a supplied and configured field die (R304 to R308). With both switches off and the sense low for its time
the demand is met; once every condition of R305 holds the high side closes, the external sense and then the low side follow, and
the loop is CLOSED; a time-out is fault 3 or 4; a test pulse opens one side in turn, and a missed sense is fault 1 or 2; a fault
opens both switches. A trip input in its trip state latches, is named in FIRST, and opens both switches (R308). -/
def Obligations.BrakeLoop : Prop :=
  ∀ (s : State),
    (s.fieldPowered = true →
     s.fd.cfgd = true →
     s.fd.hsOn = false →
     s.fd.lsOn = false →
     { s.fd with demandMet := true }.closeOk = true →
     s.fd.trips = [] →
     s.fd.loop = .opened →
     Yields (exec (.brakeLoopDemandMet) s) (fun t =>
       FieldOnly s t ∧ t.fd = { s.fd with demandMet := true, loop := .closeHs, hsOn := true })) ∧
    (s.fieldPowered = true →
     s.fd.cfgd = true →
     s.fd.closeOk = true →
     s.fd.trips = [] →
     s.fd.loop = .closeHs →
     Yields (exec (.blHsSenseHigh true) s) (fun t =>
       FieldOnly s t ∧ t.fd = { s.fd with loop := .closeLs, lsOn := true }) ∧
     Yields (exec (.blHsSenseHigh false) s) (fun t =>
       FieldOnly s t ∧ t.fd = { s.fd with loop := .closeExt, extOpen := true })) ∧
    (s.fieldPowered = true →
     s.fd.cfgd = true →
     s.fd.closeOk = true →
     s.fd.trips = [] →
     s.fd.loop = .closeExt →
     Yields (exec (.blLsSenseHigh) s) (fun t =>
       FieldOnly s t ∧ t.fd = { s.fd with loop := .closeLs, lsOn := true, extOpen := false })) ∧
    (s.fieldPowered = true →
     s.fd.cfgd = true →
     s.fd.closeOk = true →
     s.fd.trips = [] →
     s.fd.loop = .closeLs →
     Yields (exec (.blLsSenseLow) s) (fun t =>
       FieldOnly s t ∧ t.fd = { s.fd with loop := .closed })) ∧
    (s.flogicUp = true →
     s.fd.cfgd = true →
     s.fd.trips = [] →
     s.fd.latched = false →
     s.fd.loop = .closeHs →
     Yields (exec (.blHsSenseTimeout) s) (fun t =>
       FieldOnly s t ∧ t.fd = { s.fd with loop := .fault, loopFault := 3, hsOn := false, lsOn := false, extOpen := false })) ∧
    (s.flogicUp = true →
     s.fd.cfgd = true →
     s.fd.trips = [] →
     s.fd.latched = false →
     s.fd.loop = .closeLs →
     Yields (exec (.blLsSenseTimeout) s) (fun t =>
       FieldOnly s t ∧ t.fd = { s.fd with loop := .fault, loopFault := 4, hsOn := false, lsOn := false, extOpen := false })) ∧
    (s.fieldPowered = true →
     s.fd.cfgd = true →
     s.fd.closeOk = true →
     s.fd.trips = [] →
     s.fd.loop = .closed →
     Yields (exec (.brakeLoopTestPulse) s) (fun t =>
       FieldOnly s t ∧
       t.fd = if s.fd.testLsNext then { s.fd with loop := .testLs, lsOn := false } else { s.fd with loop := .testHs, hsOn := false })) ∧
    (s.fieldPowered = true →
     s.fd.cfgd = true →
     s.fd.closeOk = true →
     s.fd.trips = [] →
     s.fd.loop = .testHs →
     Yields (exec (.brakeLoopTestEnd true) s) (fun t =>
       FieldOnly s t ∧ t.fd = { s.fd with loop := .closed, hsOn := true, testLsNext := true }) ∧
     Yields (exec (.brakeLoopTestEnd false) s) (fun t =>
       FieldOnly s t ∧ t.fd = { s.fd with loop := .fault, loopFault := 1, hsOn := false, lsOn := false, extOpen := false })) ∧
    (s.fieldPowered = true →
     s.fd.cfgd = true →
     s.fd.closeOk = true →
     s.fd.trips = [] →
     s.fd.loop = .testLs →
     Yields (exec (.brakeLoopTestEnd true) s) (fun t =>
       FieldOnly s t ∧ t.fd = { s.fd with loop := .closed, lsOn := true, testLsNext := false }) ∧
     Yields (exec (.brakeLoopTestEnd false) s) (fun t =>
       FieldOnly s t ∧ t.fd = { s.fd with loop := .fault, loopFault := 2, hsOn := false, lsOn := false, extOpen := false })) ∧
    (∀ (n : Nat) (r : List Nat) (k : BitVec 4),
     s.flogicUp = true →
     s.fd.cfgd = true →
     s.fd.trips = n :: r →
     s.fd.latched = false →
     s.fd.loop ≠ .fault →
     Yields (exec (.segmentHandoverExpiry k) s) (fun t =>
       FieldOnly s t ∧ t.fd.latched = true ∧ t.fd.first = n ∧ t.fd.loop = .opened ∧ t.fd.hsOn = false ∧ t.fd.lsOn = false)) ∧
    (∀ (b : Bool),
     s.flogicUp = true →
     s.fd.cfgd = true →
     s.fd.trips = [] →
     s.fd.latched = false →
     s.fd.loop = .fault →
     exec (.blHsSenseHigh b) s = .next s ∧
     exec .blHsSenseTimeout s = .next s ∧
     exec .blLsSenseHigh s = .next s ∧
     exec .blLsSenseLow s = .next s ∧
     exec .blLsSenseTimeout s = .next s ∧
     exec .brakeLoopTestPulse s = .next s ∧
     exec (.brakeLoopTestEnd b) s = .next s) ∧
    (∀ (b : Bool),
     s.flogicUp = false ∨ s.fd.cfgd = false →
     exec .brakeLoopDemandMet s = .next s ∧
     exec (.blHsSenseHigh b) s = .next s ∧
     exec .blHsSenseTimeout s = .next s ∧
     exec .blLsSenseHigh s = .next s ∧
     exec .blLsSenseLow s = .next s ∧
     exec .blLsSenseTimeout s = .next s ∧
     exec .brakeLoopTestPulse s = .next s ∧
     exec (.brakeLoopTestEnd b) s = .next s)

/-- Signal channels that run (chapter 12). A window more than 2 % off, or a missing clock, sets CLK_BAD with its events (R314);
the second good window in a row clears it; a stuck bitstream sets STUCK with its events, a change of the bit clears it (R316). The R bits of a decimation period
give one sinc3 output to the engine queue, a seventeenth restarts the channel with OVR (R317, R321); the channels' engine slots come in order (R320), and with S = 0 and no FIR one makes the output the channel's result with the next
count (R320, R328). A restart clears the filters and shows SETTLING with the results left (R324), of every member of the sync group at
a synchronisation event (R325). A single-cycle conversion starts where it is due and gives one output (R327). A channel that does not run does nothing; the
unit behind a closed wrapper answers ISOLATED (R16). -/
def Obligations.SignalChannels : Prop :=
  ∀ (s : State),
    (∀ (ch : BitVec 4) (edges : Nat),
     s.sigOn ch.toNat = true →
     ch.toNat < 12 →
     (s.sigExpected ch.toNat).1 = 0 ∨ (s.sigExpected ch.toNat).1 < 50 * ((edges * (s.sigExpected ch.toNat).2 : Int) - (s.sigExpected ch.toNat).1).natAbs →
     Yields (exec (.sdClockWindow ch edges) s) (fun t =>
       Regs s t (if s.fget (SIG_CH_n_STAT_CLK_BAD ch.toNat) = 0 then [(SIG_CH_n_STAT_CLK_BAD ch.toNat, 1), (SIG_EVT_CLK_BAD, 1), (⟨0x40050004, 16 + ch.toNat, 1⟩, 1)] else []) ∧ Quiet s t ∧ (t.sigCh ch.toNat) = { (s.sigCh ch.toNat) with goodWin := 0 })) ∧
    (∀ (ch : BitVec 4) (edges : Nat),
     s.sigOn ch.toNat = true →
     ch.toNat < 12 →
     (s.sigExpected ch.toNat).1 ≠ 0 →
     50 * ((edges * (s.sigExpected ch.toNat).2 : Int) - (s.sigExpected ch.toNat).1).natAbs ≤ (s.sigExpected ch.toNat).1 →
     Yields (exec (.sdClockWindow ch edges) s) (fun t =>
       Regs s t (if (s.sigCh ch.toNat).goodWin = 0 then [] else [(SIG_CH_n_STAT_CLK_BAD ch.toNat, 0)]) ∧ Quiet s t ∧ (t.sigCh ch.toNat) = { (s.sigCh ch.toNat) with goodWin := min ((s.sigCh ch.toNat).goodWin + 1) 2 })) ∧
    (∀ (ch : BitVec 4),
     s.sigOn ch.toNat = true →
     ch.toNat < 12 →
     Yields (exec (.sdClockMissing ch) s) (fun t =>
       Regs s t (if s.fget (SIG_CH_n_STAT_CLK_BAD ch.toNat) = 0 then [(SIG_CH_n_STAT_CLK_BAD ch.toNat, 1), (SIG_EVT_CLK_BAD, 1), (⟨0x40050004, 16 + ch.toNat, 1⟩, 1)] else []) ∧ Quiet s t ∧ (t.sigCh ch.toNat) = { (s.sigCh ch.toNat) with goodWin := 0 })) ∧
    (∀ (ch : BitVec 4),
     s.sigOn ch.toNat = true →
     ch.toNat < 12 →
     Yields (exec (.sdBitstreamStuck ch) s) (fun t =>
       Regs s t (if s.fget (SIG_CH_n_STAT_STUCK ch.toNat) = 0 then [(SIG_CH_n_STAT_STUCK ch.toNat, 1), (SIG_EVT_STUCK, 1), (⟨0x40050004, 16 + ch.toNat, 1⟩, 1)] else []) ∧ Quiet s t)) ∧
    (∀ (ch : BitVec 4) (bits : List Bool),
     s.sigOn ch.toNat = true →
     ch.toNat < 12 →
     s.sigScs ch.toNat = false →
     bits.length = s.sigR ch.toNat →
     (s.sigCh ch.toNat).queue.length < 16 →
     Yields (exec (.sinc3Output ch bits) s) (fun t =>
       Quiet s t ∧
       (t.sigCh ch.toNat).hist = ((bits.map (fun b => if b then (1 : Int) else -1)).reverse ++ (s.sigCh ch.toNat).hist).take 46 ∧
       (t.sigCh ch.toNat).queue = (s.sigCh ch.toNat).queue ++ [{ stage := 0, value := (sinc3 (s.sigR ch.toNat) (t.sigCh ch.toNat).hist).1, sat := (sinc3 (s.sigR ch.toNat) (t.sigCh ch.toNat).hist).2, inst := s.now.sigNs / 5 }] ∧
       t.fget SIG_STAT_QMAX = max (s.fget SIG_STAT_QMAX) ((s.sigCh ch.toNat).queue.length + 1))) ∧
    (∀ (ch : BitVec 4) (bits : List Bool),
     s.sigOn ch.toNat = true →
     ch.toNat < 12 →
     s.sigScs ch.toNat = false →
     bits.length = s.sigR ch.toNat →
     16 ≤ (s.sigCh ch.toNat).queue.length →
     Yields (exec (.sinc3Output ch bits) s) (fun t =>
       Quiet s t ∧ (t.sigCh ch.toNat).queue = [] ∧ (t.sigCh ch.toNat).count = 0 ∧
       t.fget (SIG_CH_n_STAT_OVR ch.toNat) = 1 ∧ t.fget SIG_EVT_OVR = 1 ∧ t.fget ⟨0x40050004, 16 + ch.toNat, 1⟩ = 1)) ∧
    (∀ (ch : BitVec 4) (q : SigWork),
     s.sigOn ch.toNat = true →
     s.sigSlot = ch.toNat →
     (s.sigCh ch.toNat).work = [] →
     (s.sigCh ch.toNat).queue = [q] →
     s.sigS ch.toNat = 0 →
     s.fget (SIG_CH_n_CFG_FIR_EN ch.toNat) = 0 →
     4 ≤ ch.toNat →
     ch.toNat < 12 →
     Yields (exec (.engineSlot ch) s) (fun t =>
       Quiet s t ∧ t.sigSlot = (ch.toNat + 1) % 12 ∧ (t.sigCh ch.toNat).queue = [] ∧ (t.sigCh ch.toNat).work = [] ∧ (t.sigCh ch.toNat).count = ((s.sigCh ch.toNat).count + 1) % 2 ^ 32 ∧
       (t.sigCh ch.toNat).bank = some { value := q.value, count := (t.sigCh ch.toNat).count, inst := q.inst, stat := t.regWord (0x400500C0 + 4 * ch.toNat) } ∧
       t.fget (SIG_CH_n_STAT_SAT ch.toNat) = (if q.sat then 1 else 0) ∧
       t.fget (SIG_CH_n_STAT_SETTLING ch.toNat) = (if (t.sigCh ch.toNat).count ≤ s.sigK ch.toNat then 1 else 0))) ∧
    (∀ (ch : BitVec 4),
     s.sigOn ch.toNat = true →
     s.sigSlot = ch.toNat →
     exec (.engineSlot ch) s = .next ((({ s with sigSlot := (ch.toNat + 1) % 12 }.sigUpd ch.toNat (fun c => { c with spent := 0 })).sigRun ch.toNat 256
       (16 + (s.sigCh ch.toNat).spent)).sigGroupWrite ch.toNat)) ∧
    (∀ (ch : BitVec 4),
     s.sigOn ch.toNat = false →
     s.unitDown 0x30 = false →
     s.fget SIG_STAT_RUNNING = 1 →
     s.sigSlot = ch.toNat →
     exec (.engineSlot ch) s = .next { s with sigSlot := (ch.toNat + 1) % 12 }) ∧
    (∀ (ch : BitVec 4),
     s.unitDown 0x30 = true ∨ s.fget SIG_STAT_RUNNING = 0 ∨ s.sigSlot ≠ ch.toNat →
     exec (.engineSlot ch) s = .next s) ∧
    (∀ (n : Fin 12),
     s.sigOn n = true →
     Yields (exec (.sigCmdRestart (BitVec.twoPow 12 n)) s) (fun t =>
       Regs s t [(SIG_CH_n_STAT_SETTLING n, if s.sigK n = 0 then 0 else 1), (SIG_CH_n_STAT_LEFT n, s.sigK n % 2 ^ 16),
         (SIG_CH_n_STAT_OVR n, 0)] ∧ Quiet s t ∧ t.resp = .okay ∧
       t.sigCh n = { SigCh.reset with last := (s.sigCh n).last, goodWin := (s.sigCh n).goodWin, bank := (s.sigCh n).bank, snap := (s.sigCh n).snap })) ∧
    (∀ (m : BitVec 12),
     s.unitDown 0x30 = false →
     Yields (exec (.sigCmdRestart m) s) (fun t =>
       Quiet s t ∧ t.resp = .okay ∧ (∀ n : Fin 12, m.getLsbD n = true → s.sigOn n = true → (t.sigCh n).queue = [] ∧ (t.sigCh n).count = 0 ∧ (t.sigCh n).hist = []) ∧
       (∀ n : Fin 12, m.getLsbD n = false → t.sigCh n = s.sigCh n))) ∧
    (∀ (m : BitVec 12),
     s.unitDown 0x30 = true →
     exec (.sigCmdRestart m) s = .next { s with resp := .isolated, rdata := 0 } ∧
     exec .sigCmdSync s = .next { s with resp := .isolated, rdata := 0 }) ∧
    (∀ (n : Nat) (fall : Bool),
     (List.range 4).filter (fun n => s.sigOn n && s.flag (SIG_CH_n_CFG_SYNC_EN n)) = [n] →
     s.fget SIG_SYNCCFG_SRC = 3 →
     s.flag SIG_SYNCCFG_FALL = fall →
     Yields (exec (.sigCmdSync) s) (fun t =>
       Regs s t [(SIG_EVT_SYNC, 1), (SIG_CH_n_STAT_SETTLING n, if s.sigK n = 0 then 0 else 1), (SIG_CH_n_STAT_LEFT n, s.sigK n % 2 ^ 16),
         (SIG_CH_n_STAT_OVR n, 0)] ∧ Quiet s t ∧ (t.sigCh n).queue = [] ∧ (t.sigCh n).count = 0) ∧
     Yields (exec (.syncDfEdge fall) s) (fun t =>
       Regs s t [(SIG_EVT_SYNC, 1), (SIG_CH_n_STAT_SETTLING n, if s.sigK n = 0 then 0 else 1), (SIG_CH_n_STAT_LEFT n, s.sigK n % 2 ^ 16),
         (SIG_CH_n_STAT_OVR n, 0)] ∧ Quiet s t ∧ (t.sigCh n).queue = [] ∧ (t.sigCh n).count = 0)) ∧
    (∀ (fall : Bool),
     s.unitDown 0x30 = false →
     s.fget SIG_SYNCCFG_SRC = 3 →
     s.flag SIG_SYNCCFG_FALL = fall →
     exec .sigCmdSync s = .next { s.sigSync with resp := .okay, rdata := 0 } ∧
     exec (.syncDfEdge fall) s = .next s.sigSync) ∧
    (∀ (fall : Bool),
     s.fget SIG_SYNCCFG_SRC = 0 →
     s.unitDown 0x30 = false →
     exec .sigCmdSync s = .next { s with resp := .okay, rdata := 0 } ∧ exec (.syncDfEdge fall) s = .next s) ∧
    (∀ (ch : BitVec 4) (b : Bool),
     s.sigOn ch.toNat = true →
     ch.toNat < 12 →
     s.sigScs ch.toNat = true →
     s.fget (SIG_CH_n_SCS_PER ch.toNat) ≠ 0 ∨ (s.sigCh ch.toNat).asked = true →
     Yields (exec (.scsConversionStart ch b) s) (fun t =>
       Regs s t (if (s.sigCh ch.toNat).last = none ∨ (s.sigCh ch.toNat).last = some (if b then 1 else -1) then [] else [(SIG_CH_n_STAT_STUCK ch.toNat, 0)]) ∧ Quiet s t ∧
       (t.sigCh ch.toNat) = { (s.sigCh ch.toNat) with hist := [], last := some (if b then 1 else -1), converting := true, asked := false })) ∧
    (∀ (ch : BitVec 4) (b : Bool),
     s.sigOn ch.toNat = true →
     ch.toNat < 12 →
     s.sigScs ch.toNat = true →
     s.fget (SIG_CH_n_SCS_PER ch.toNat) = 0 →
     (s.sigCh ch.toNat).asked = false →
     Yields (exec (.scsConversionStart ch b) s) (fun t =>
       Regs s t (if (s.sigCh ch.toNat).last = none ∨ (s.sigCh ch.toNat).last = some (if b then 1 else -1) then [] else [(SIG_CH_n_STAT_STUCK ch.toNat, 0)]) ∧ Quiet s t ∧ (t.sigCh ch.toNat).converting = (s.sigCh ch.toNat).converting ∧ (t.sigCh ch.toNat).last = some (if b then 1 else -1))) ∧
    (∀ (ch : BitVec 4) (bits : List Bool),
     s.sigOn ch.toNat = true →
     ch.toNat < 12 →
     (s.sigCh ch.toNat).converting = true →
     bits.length = 3 * s.sigR ch.toNat - 2 →
     (s.sigCh ch.toNat).queue.length < 16 →
     Yields (exec (.scsConversionDone ch bits) s) (fun t =>
       Quiet s t ∧ (t.sigCh ch.toNat).converting = false ∧
       (t.sigCh ch.toNat).hist = ((bits.map (fun b => if b then (1 : Int) else -1)).reverse ++ (s.sigCh ch.toNat).hist).take 46 ∧
       (t.sigCh ch.toNat).queue = (s.sigCh ch.toNat).queue ++ [{ stage := 0, value := (sinc3 (s.sigR ch.toNat) (t.sigCh ch.toNat).hist).1, sat := (sinc3 (s.sigR ch.toNat) (t.sigCh ch.toNat).hist).2, inst := s.now.sigNs / 5 }])) ∧
    (∀ (ch : BitVec 4) (e : Nat) (b : Bool) (bits : List Bool),
     s.sigOn ch.toNat = false →
     exec (.sdClockWindow ch e) s = .next s ∧
     exec (.sdClockMissing ch) s = .next s ∧
     exec (.sdBitstreamStuck ch) s = .next s ∧
     exec (.sinc3Output ch bits) s = .next s ∧
     exec (.scsConversionStart ch b) s = .next s ∧
     exec (.scsConversionDone ch bits) s = .next s)

/-- The switch (R331 to R338). An untagged frame for the own address on an enabled port whose VLAN holds the port and port 4 is learned and
queued for port 4 at the priority of its port, its bytes in cells of the packet buffer (the lowest free ones: the model's choice, log entry 116); any other frame
of a good length and FCS is forwarded by the switch's rules, an oversized one counts and sets its event. The oldest frame of a port leaves, with
an inverted FCS where its buffer word was uncorrectable (R334). A learned entry ages out. A supervision frame goes to both ports of
a pair with one sequence number and the two LAN trailers (R337); a duplicate entry is forgotten (R338). An MDIO access runs and its end gives the
data and its event (R336); a link change shows link and speed with its event (R332). -/
def Obligations.EthernetSwitch : Prop :=
  ∀ (s : State),
    (∀ (port v mem : Nat) (f : EthFrame),
     s.ethUp = true →
     s.portUp port = true →
     port < 4 →
     64 ≤ f.len ∧ f.len ≤ 1522 →
     f.fcsOk = true →
     f.pause = false →
     s.prpPort port = false →
     f.vid = none →
     f.frag = none →
     v = s.fget (ETH_PORT_n_CFG_PVID port) →
     s.vlan v = some (mem, 16) →
     bitOf mem 4 = true →
     f.dst.toNat = s.ownMac →
     f.dst ≠ f.src →
     groupMac f.dst.toNat = false →
     groupMac f.src.toNat = false →
     s.staticPorts f.dst.toNat = none →
     s.eth.learned = [] →
     s.eth.queue = [] →
     Yields (exec (.switchFrameReceived port f) s) (fun t =>
       Regs s t [] ∧ t.flash = s.flash ∧ (∀ l, t.lane l = s.lane l) ∧ t.pending = s.pending ∧ MemSame s t 0x20180000 0x80000 ∧
       t.memBytes 0x20180000 (f.body.take f.len).length = f.body.take f.len ∧
       t.eth = { s.eth with
         learned := [(f.src.toNat, v, port)]
         queue := [{ port := 4, prio := s.fget (ETH_PORT_n_CFG_PCP port) / 2, cells := List.range ((f.len + 255) / 256)
                     inNs := s.now.hubNs, inPort := port
                     frame := { f with pcp := BitVec.ofNat 3 (s.fget (ETH_PORT_n_CFG_PCP port)) } }] })) ∧
    (∀ (port : Nat) (f : EthFrame),
     s.ethUp = true →
     s.portUp port = true →
     64 ≤ f.len ∧ f.len ≤ 1522 →
     f.fcsOk = true →
     f.pause = false →
     s.prpPort port = false →
     exec (.switchFrameReceived port f) s = .next (s.switchFrame port f)) ∧
    (∀ (port : Nat) (f : EthFrame),
     s.ethUp = true →
     s.portUp port = true →
     64 ≤ f.len ∧ f.len ≤ 1522 →
     f.fcsOk = true →
     f.pause = false →
     s.prpPort port = true →
     exec (.switchFrameReceived port f) s = .next ((s.prpReceive port s.dualComid f).2.elim (s.prpReceive port s.dualComid f).1 ((s.prpReceive port s.dualComid f).1.switchFrame port))) ∧
    (∀ (port : Nat) (f : EthFrame),
     s.ethUp = true →
     s.portUp port = true →
     f.len < 64 ∨ 1522 < f.len →
     Yields (exec (.switchFrameReceived port f) s) (fun t =>
       Regs s t [(ETH_PORT_n_DROP_OTHER port, plusOne s (ETH_PORT_n_DROP_OTHER port)), (ETH_EVT_OVERSIZE, 1)] ∧ Quiet s t ∧ t.eth = s.eth)) ∧
    (∀ (port : Nat) (f : EthFrame),
     s.ethUp = true →
     s.portUp port = true →
     64 ≤ f.len ∧ f.len ≤ 1522 →
     f.fcsOk = false →
     Yields (exec (.switchFrameReceived port f) s) (fun t =>
       Regs s t [(ETH_PORT_n_DROP_OTHER port, plusOne s (ETH_PORT_n_DROP_OTHER port))] ∧ Quiet s t ∧ t.eth = s.eth)) ∧
    (∀ (port : Nat) (f : EthFrame),
     s.ethUp = false ∨ s.portUp port = false →
     exec (.switchFrameReceived port f) s = .next s ∧ exec (.switchEgressTransmit port) s = .next s) ∧
    (∀ (port : Nat) (e : QEnt) (bs : List Byte),
     s.ethUp = true →
     s.portUp port = true →
     s.egressNext port = some e →
     s.cellRead e.cells e.frame.len = (s, some bs) →
     Yields (exec (.switchEgressTransmit port) s) (fun t =>
       Regs s t [] ∧ Quiet s t ∧
       t.eth = { s.eth with queue := s.eth.queue.erase e, sent := vecUpd s.eth.sent port (fun _ => some { s.departing e with fcsOk := true, body := bs.take e.frame.body.length }) })) ∧
    (∀ (port : Nat) (e : QEnt),
     s.ethUp = true →
     s.portUp port = true →
     s.egressNext port = some e →
     (s.cellRead e.cells e.frame.len).2 = none →
     Yields (exec (.switchEgressTransmit port) s) (fun t =>
       t.fget ETH_EVT_UNCORR_DROP = 1 ∧ t.flash = s.flash ∧ t.pending = s.pending ∧ (∀ l, t.lane l = s.lane l) ∧
       t.eth = { s.eth with queue := s.eth.queue.erase e, sent := vecUpd s.eth.sent port (fun _ => some { s.departing e with fcsOk := false }) })) ∧
    (∀ (port : Nat),
     s.egressNext port = none →
     exec (.switchEgressTransmit port) s = .next s) ∧
    (∀ (mac : BitVec 48) (vid : BitVec 12),
     Yields (exec (.macEntryAgeing mac vid) s) (fun t =>
       Regs s t [] ∧ Quiet s t ∧
       t.eth = { s.eth with learned := s.eth.learned.filter (fun e => e.1 ≠ mac.toNat || e.2.1 ≠ vid.toNat) })) ∧
    (∀ (v : BitVec 32),
     s.unitDown 0x20 = false →
     s.fget ETH_MDIO_GO = 0 →
     Yields (exec (.mdioAccess v) s) (fun t =>
       Regs s t [(ETH_MDIO_GO, (v.extractLsb' 31 1).toNat), (ETH_MDIO_READ, (v.extractLsb' 30 1).toNat),
         (ETH_MDIO_PHYAD, (v.extractLsb' 21 5).toNat), (ETH_MDIO_REGAD, (v.extractLsb' 16 5).toNat),
         (ETH_MDIO_DATA, (v.extractLsb' 0 16).toNat)] ∧ Quiet s t ∧ t.resp = .okay)) ∧
    (∀ (v : BitVec 32),
     s.unitDown 0x20 = false →
     s.fget ETH_MDIO_GO = 1 →
     Yields (exec (.mdioAccess v) s) (fun t =>
       Regs s t [] ∧ Quiet s t ∧ t.resp = .okay)) ∧
    (∀ (v : BitVec 32),
     s.unitDown 0x20 = true →
     exec (.mdioAccess v) s = .next { s with resp := .isolated, rdata := 0 }) ∧
    (∀ (d : BitVec 16),
     s.fget ETH_MDIO_GO = 0 →
     exec (.mdioAccessDone d) s = .next s) ∧
    (∀ (d : BitVec 16),
     s.fget ETH_MDIO_GO = 1 →
     Yields (exec (.mdioAccessDone d) s) (fun t =>
       Regs s t [(ETH_MDIO_GO, 0), (ETH_EVT_MDIO_DONE, 1),
         (ETH_MDIO_DATA, if s.fget ETH_MDIO_READ = 1 then d.toNat else s.fget ETH_MDIO_DATA)] ∧ Quiet s t)) ∧
    (∀ (p : Bool),
     s.ethUp = true →
     bitOf (s.fget ETH_PORTCFG_PRP) p.toNat = true →
     s.portUp (2 * p.toNat) = true →
     s.portUp (2 * p.toNat + 1) = true →
     s.eth.queue = [] →
     Yields (exec (.prpSupervisionTick p) s) (fun t =>
       Regs s t [] ∧ t.flash = s.flash ∧ (∀ l, t.lane l = s.lane l) ∧ t.pending = s.pending ∧ MemSame s t 0x20180000 0x80000 ∧
       t.eth.queue.map (fun e => (e.port, e.frame.rct)) =
         [(2 * p.toNat, some (BitVec.ofNat 16 (s.eth.prpSeq.toList.getD p.toNat 0), 0xA)),
          (2 * p.toNat + 1, some (BitVec.ofNat 16 (s.eth.prpSeq.toList.getD p.toNat 0), 0xB))] ∧
       t.eth.supv.toList.getD p.toNat 0 = s.eth.supv.toList.getD p.toNat 0 + 1 ∧
       t.eth.prpSeq.toList.getD p.toNat 0 = (s.eth.prpSeq.toList.getD p.toNat 0 + 1) % 2 ^ 16)) ∧
    (∀ (p : Bool) (src : BitVec 48) (q : BitVec 16),
     Yields (exec (.prpEntryExpiry p src q) s) (fun t =>
       Regs s t [] ∧ Quiet s t ∧
       t.eth.dup.toList.getD p.toNat [] = (s.eth.dup.toList.getD p.toNat []).erase (src.toNat, q.toNat) ∧
       t.eth.dup.toList.getD (1 - p.toNat) [] = s.eth.dup.toList.getD (1 - p.toNat) [])) ∧
    (∀ (port : Fin 4) (sp : BitVec 2),
     s.unitDown 0x20 = false →
     sp = 1 ∨ sp = 2 →
     s.phys.serrefOk = true →
     bitOf (s.fget ETH_PORTCFG_EN) port = true →
     bitOf (s.fget ETH_STAT_LINK) port = false →
     Yields (exec (.ethLinkChange port true sp true) s) (fun t =>
       Regs s t [(⟨0x40060000, 16 + port, 1⟩, 1), (⟨0x40060000, 8 + 2 * port, 2⟩, sp.toNat), (ETH_EVT_LINK_CHG, 1)] ∧
       Quiet s t)) ∧
    (∀ (port : Fin 4) (up full : Bool) (sp : BitVec 2),
     s.unitDown 0x20 = false →
     (up && full) = false ∨ sp = 0 ∨ sp = 3 →
     Yields (exec (.ethLinkChange port up sp full) s) (fun t =>
       t.fget ⟨0x40060000, 16 + port, 1⟩ = 0 ∧ t.fget ⟨0x40060000, 8 + 2 * port, 2⟩ = 0 ∧
       RegsOutside s t 0x40060000 0x40060008 ∧ Quiet s t))

/-- The internal port (R340): with the engine running, an ARP request for the own address is answered and its sender enters the cache (the
cache entry is the model's choice, log entry 85), an old cache entry and the next hop of a directory address are asked for, an echo request for the own address is answered, a
membership query is answered with the groups that the subscriptions name, and a reassembly that times out is dropped; a request
for another address does nothing. Only the engine's state changes. -/
def Obligations.InternetProtocols : Prop :=
  ∀ (s : State),
    (∀ (ip : BitVec 32) (sender : BitVec 32) (mac : BitVec 48),
     s.pdeUp = true →
     ip.toNat = s.fget PDE_IPADDR_ADDR →
     s.pde.arp.length < 1024 →
     Yields (exec (.arpRequestReceived ip sender mac) s) (fun t =>
       Regs s t [] ∧ Quiet s t ∧ t.pde = { s.pde with arp := s.pde.arp.filter (fun e => e.1 ≠ sender.toNat) ++ [(sender.toNat, mac.toNat)], tx := some (.arpReply sender.toNat mac.toNat) })) ∧
    (∀ (ip : BitVec 32) (sender : BitVec 32) (mac : BitVec 48) (l : List (Nat × Nat)),
     s.pdeUp = true →
     ip.toNat = s.fget PDE_IPADDR_ADDR →
     l = s.pde.arp.filter (fun e => e.1 ≠ sender.toNat) ++ [(sender.toNat, mac.toNat)] →
     Yields (exec (.arpRequestReceived ip sender mac) s) (fun t =>
       Regs s t [] ∧ Quiet s t ∧ t.pde = { s.pde with arp := l.drop (l.length - 1024), tx := some (.arpReply sender.toNat mac.toNat) })) ∧
    (∀ (ip src : BitVec 32) (mac : BitVec 48),
     s.pdeUp = false →
     exec (.arpRequestReceived ip src mac) s = .next s ∧ exec (.arpCacheRefresh ip) s = .next s ∧ exec (.icmpEchoRequest ip src) s = .next s ∧ exec .igmpQueryReceived s = .next s) ∧
    (∀ (ip sender : BitVec 32) (mac : BitVec 48),
     ip.toNat ≠ s.fget PDE_IPADDR_ADDR →
     exec (.arpRequestReceived ip sender mac) s = .next s ∧ exec (.icmpEchoRequest ip sender) s = .next s) ∧
    (∀ (ip : BitVec 32) (mac : Nat),
     s.pdeUp = true →
     (ip.toNat, mac) ∈ s.pde.arp →
     Yields (exec (.arpCacheRefresh ip) s) (fun t =>
       Regs s t [] ∧ Quiet s t ∧ t.pde = { s.pde with tx := some (.arpRequest ip.toNat) })) ∧
    (∀ (ip : BitVec 32) (e : DirE),
     s.pdeUp = true →
     e ∈ s.pde.dir →
     e.valid = true →
     e.ip ≠ 0 →
     s.nextHop e.ip = ip.toNat →
     Yields (exec (.arpCacheRefresh ip) s) (fun t =>
       Regs s t [] ∧ Quiet s t ∧ t.pde = { s.pde with tx := some (.arpRequest ip.toNat) })) ∧
    (∀ (ip : BitVec 32),
     s.pde.arp.all (fun e => e.1 ≠ ip.toNat) = true →
     s.pde.dir.all (fun e => !e.valid || e.ip = 0 || s.nextHop e.ip ≠ ip.toNat) = true →
     exec (.arpCacheRefresh ip) s = .next s) ∧
    (∀ (ip src : BitVec 32),
     s.pdeUp = true →
     ip.toNat = s.fget PDE_IPADDR_ADDR →
     Yields (exec (.icmpEchoRequest ip src) s) (fun t =>
       Regs s t [] ∧ Quiet s t ∧ t.pde = { s.pde with tx := some (.echoReply src.toNat) })) ∧
    (s.pdeUp = true →
     s.groups ≠ [] →
     Yields (exec (.igmpQueryReceived) s) (fun t =>
       Regs s t [] ∧ Quiet s t ∧ t.pde = { s.pde with tx := some (.membership s.groups) })) ∧
    (∀ (id : Nat),
     Yields (exec (.ipReassemblyTimeout id) s) (fun t =>
       Regs s t [] ∧ Quiet s t ∧ t.pde = { s.pde with reasm := s.pde.reasm.filter (fun i => i ≠ id) }))

/-- Process data sessions (R344 to R347, R360). A publish session that may send sends its frame, counts its sequence, and shows UP; one that may
not shows HELD; a subscription takes a matching valid frame: its data is what the next INPUT presents, the sequence is kept, UP is set and
TIMEDOUT and DIFF are cleared; a frame that fails its header check only shows LASTERR 1, and one with a wrong length 12; a time-out
sets TIMEDOUT and the event and clears UP; a dual window that closes with one copy accepts it and counts the other lane's loss. -/
def Obligations.ProcessDataSessions : Prop :=
  ∀ (s : State),
    (∀ (i late : Nat) (agree : Bool) (e : PdS) (bs : List Byte),
     s.pdeUp = true →
     i < s.pde.sess.length →
     e = s.boot.act.pdS i →
     e.sub = false →
     s.pdMaySend i e = true →
     s.pubRead e.buf e.pubLen = (s, some bs) →
     (e.vsc = true → agree = true) →
     s.fget REC_CFG_EN = 0 →
     Yields (exec (.pdPublishInstant i agree late) s) (fun t =>
       Regs s t [(PDE_SSTAT_s_HELD i, 0), (PDE_SSTAT_s_UP i, 1)] ∧ Quiet s t ∧
       t.pde.tx = some (.pd (s.pdFrame i e bs) (s.nextHop (s.pdFrame i e bs).dst)) ∧
       t.pd i = { (s.pd i) with seq := ((s.pd i).seq + 1) % 2 ^ 32, ssn := if e.vsc then ((s.pd i).ssn + 1) % 2 ^ 32 else (s.pd i).ssn } ∧ (∀ j, j ≠ i → t.pd j = s.pd j))) ∧
    (∀ (i late : Nat) (agree : Bool) (e : PdS) (bs : List Byte),
     s.pdeUp = true →
     i < s.pde.sess.length →
     e = s.boot.act.pdS i →
     e.sub = false →
     e.vsc = false →
     s.pdMaySend i e = true →
     s.pubRead e.buf e.len = (s, some bs) →
     s.fget REC_CFG_EN = 0 →
     Yields (exec (.pdPublishInstant i agree late) s) (fun t =>
       t.pde.tx = some (.pd {
         hdrOk := true, msgType := 0x5064, ver := 0x0100, comid := e.comid
         dst := if e.mcast ≠ 0 then e.mcast else (s.pd i).addr.getD 0
         src := s.fget PDE_IPADDR_ADDR, seq := (s.pd i).seq, etb := s.fget PDE_ETBTOPO_CNT
         op := s.fget PDE_OPTOPO_CNT, dlen := e.len, vlan := e.vlan, data := bs }
         (if (if e.mcast ≠ 0 then e.mcast else (s.pd i).addr.getD 0) / 2 ^ 28 = 14 ∨ Nat.land (if e.mcast ≠ 0 then e.mcast else (s.pd i).addr.getD 0) (s.fget PDE_NETMASK_ADDR) =
             Nat.land (s.fget PDE_IPADDR_ADDR) (s.fget PDE_NETMASK_ADDR) then (if e.mcast ≠ 0 then e.mcast else (s.pd i).addr.getD 0)
          else s.fget PDE_GATEWAY_ADDR)))) ∧
    (∀ (i late : Nat) (agree : Bool) (e : PdS),
     s.pdeUp = true →
     i < s.pde.sess.length →
     e = s.boot.act.pdS i →
     e.sub = false →
     s.pdMaySend i e = true →
     ((s.pubRead e.buf e.pubLen).2 = none →
       exec (.pdPublishInstant i agree late) s = .next (s.pubRead e.buf e.pubLen).1) ∧
     (∀ bs, s.pubRead e.buf e.pubLen = (s, some bs) → e.vsc = true → agree = false →
       exec (.pdPublishInstant i agree late) s = .next (s.vscInt i))) ∧
    (∀ (i late : Nat) (agree : Bool) (e : PdS) (bs : List Byte),
     s.pdeUp = true →
     i < s.pde.sess.length →
     e = s.boot.act.pdS i →
     e.sub = false →
     s.pdMaySend i e = true →
     s.pubRead e.buf e.pubLen = (s, some bs) →
     (e.vsc = true → agree = true) →
     Yields (exec (.pdPublishInstant i agree late) s) (fun t =>
       t.fget (PDE_SSTAT_s_HELD i) = 0 ∧ t.fget (PDE_SSTAT_s_UP i) = 1 ∧ Quiet s t ∧ t.pde.tx = some (.pd (s.pdFrame i e bs) (s.nextHop (s.pdFrame i e bs).dst)) ∧
       t.pd i = { (s.pd i) with seq := ((s.pd i).seq + 1) % 2 ^ 32, ssn := if e.vsc then ((s.pd i).ssn + 1) % 2 ^ 32 else (s.pd i).ssn } ∧ (∀ j, j ≠ i → t.pd j = s.pd j))) ∧
    (∀ (i late : Nat) (agree : Bool),
     s.pdeUp = true →
     i < s.pde.sess.length →
     i < 512 →
     (s.boot.act.pdS i).sub = false →
     s.pdMaySend i (s.boot.act.pdS i) = false →
     Yields (exec (.pdPublishInstant i agree late) s) (fun t =>
       Regs s t ([(PDE_SSTAT_s_HELD i, 1), (PDE_SSTAT_s_UP i, 0)] ++ (if ((s.boot.act.pdS i).vsc && !s.trainSync) = true then [(PDE_EVT_NOSYNC, 1)] else [])) ∧ Quiet s t ∧ t.pde = s.pde)) ∧
    (∀ (i late : Nat) (agree : Bool),
     s.pdeUp = false ∨ s.pde.sess.length ≤ i ∨ (s.boot.act.pdS i).sub = true →
     exec (.pdPublishInstant i agree late) s = .next s) ∧
    (∀ (i : Nat) (e : PdS) (f : PdFrame),
     s.pdeUp = true →
     s.pdMatch f = some i →
     i < 512 →
     e = s.boot.act.pdS i →
     e.vsc = false →
     e.dual = false →
     f.hdrOk = true →
     f.msgType = 0x5064 →
     f.ver / 256 = 1 →
     f.dlen = e.len →
     f.data.length = e.len →
     s.topoOk f = true →
     (s.pd i).anySeq = true ∨ (1 ≤ (f.seq + 2 ^ 32 - (s.pd i).seq) % 2 ^ 32 ∧ (f.seq + 2 ^ 32 - (s.pd i).seq) % 2 ^ 32 < 2 ^ 31) →
     s.fget PAIR_CFG_ETH_EN = 0 ∨ s.fget PAIR_SESS_SUB ≠ i →
     Yields (exec (.pdFrameReceived none f true) s) (fun t =>
       Regs s t [(PDE_SSTAT_s_UP i, 1), (PDE_SSTAT_s_TIMEDOUT i, 0), (PDE_SSTAT_s_DIFF i, 0)] ∧ Quiet s t ∧
       (e.buf, f.data) ∈ t.cyc.rx ∧
       t.pd i = { (s.pd i) with anySeq := false, seq := f.seq, ssn := 0, acc := (s.ts, f.seq, 0), dual := none } ∧ (∀ j, j ≠ i → t.pd j = s.pd j))) ∧
    (∀ (i : Nat) (f : PdFrame) (l : Option Bool),
     s.pdeUp = true →
     s.pdMatch f = some i →
     i < 512 →
     (s.boot.act.pdS i).vsc = false →
     f.msgType ≠ 0x5072 →
     (f.hdrOk = false →
     Yields (exec (.pdFrameReceived l f true) s) (fun t =>
       Regs s t [(PDE_SSTAT_s_LASTERR i, 1)] ∧ Quiet s t ∧ t.pde = s.pde)) ∧
     (f.hdrOk = true → f.msgType = 0x5064 → f.ver / 256 = 1 → f.dlen ≠ (s.boot.act.pdS i).len →
     Yields (exec (.pdFrameReceived l f true) s) (fun t =>
       Regs s t [(PDE_SSTAT_s_LASTERR i, 12)] ∧ Quiet s t ∧ t.pde = s.pde))) ∧
    (∀ (i : Nat) (e : PdS) (f : PdFrame) (l : Option Bool) (agree : Bool),
     s.pdeUp = true →
     f.msgType ≠ 0x5072 →
     s.pdMatch f = some i →
     i < 512 →
     e = s.boot.act.pdS i →
     (e.vsc && s.flag SAF_STAT_VSC_STOP) = false →
     (s.pdCheck i e f agree = some 0 →
       exec (.pdFrameReceived l f agree) s = .next (if e.dual then s.pdDual i e (l.getD false) f else if s.fget PAIR_CFG_ETH_EN = 1 ∧ s.fget PAIR_SESS_SUB = i then (s.pdAccept i e f).pairReceive true f.data else s.pdAccept i e f)) ∧
     (∀ c, s.pdCheck i e f agree = some c → c ≠ 0 → exec (.pdFrameReceived l f agree) s = .next (s.pdFail i c)) ∧
     (s.pdCheck i e f agree = none → exec (.pdFrameReceived l f agree) s = .next s)) ∧
    (∀ (f : PdFrame) (l : Option Bool) (agree : Bool),
     s.pdeUp = false ∨ f.msgType = 0x5072 ∨ s.pdMatch f = none ∨ (∃ i, s.pdMatch f = some i ∧ (s.boot.act.pdS i).vsc = true ∧ s.fget SAF_STAT_VSC_STOP = 1) →
     exec (.pdFrameReceived l f agree) s = .next s) ∧
    (∀ (i : Nat) (f : PdFrame) (b agree : Bool),
     s.pdeUp = true →
     f.msgType ≠ 0x5072 →
     s.pdMatch f = some i →
     i < 512 →
     (s.boot.act.pdS i).dual = true →
     ((s.boot.act.pdS i).vsc && s.flag SAF_STAT_VSC_STOP) = false →
     s.pdCheck i (s.boot.act.pdS i) f agree = some 0 →
     ((s.pd i).dual = none →
     Yields (exec (.pdFrameReceived (some b) f agree) s) (fun t =>
       Regs s t [] ∧ Quiet s t ∧ t.pd i = { (s.pd i) with dual := some (b, f) } ∧ (∀ j, j ≠ i → t.pd j = s.pd j))) ∧
     (∀ x, (s.pd i).dual = some x → x.1 ≠ b → x.2 ≠ f →
     Yields (exec (.pdFrameReceived (some b) f agree) s) (fun t =>
       Regs s t [(PDE_SSTAT_s_DIFF i, 1), (PDE_EVT_VSC_DIFF, 1)] ∧ Quiet s t ∧ t.pd i = { (s.pd i) with dual := none } ∧ (∀ j, j ≠ i → t.pd j = s.pd j))) ∧
     (∀ x, (s.pd i).dual = some x → x.1 ≠ b → x.2 = f → exec (.pdFrameReceived (some b) f agree) s = .next (s.pdAccept i (s.boot.act.pdS i) f)) ∧
     (∀ x, (s.pd i).dual = some x → x.1 = b → exec (.pdFrameReceived (some b) f agree) s = .next s)) ∧
    (∀ (i : Nat),
     s.pdeUp = true →
     i < s.pde.sess.length →
     i < 512 →
     (s.boot.act.pdS i).sub = true →
     (s.pd i).dual = none →
     s.fget (PDE_SSTAT_s_TIMEDOUT i) = 0 →
     s.pairUp = false →
     Yields (exec (.pdSessionTimeout i) s) (fun t =>
       Regs s t [(PDE_SSTAT_s_TIMEDOUT i, 1), (PDE_SSTAT_s_UP i, 0), (PDE_EVT_TIMEOUT, 1),
         (REC_CNT_c_VAL 13, plusOne s (REC_CNT_c_VAL 13))] ∧ Quiet s t ∧ t.pd i = { (s.pd i) with anySeq := true } ∧ (∀ j, j ≠ i → t.pd j = s.pd j))) ∧
    (∀ (i : Nat),
     s.pdeUp = true →
     i < s.pde.sess.length →
     i < 512 →
     (s.boot.act.pdS i).sub = true →
     (s.pd i).dual = none →
     s.fget (PDE_SSTAT_s_TIMEDOUT i) = 0 →
     Yields (exec (.pdSessionTimeout i) s) (fun t =>
       t.fget (PDE_SSTAT_s_TIMEDOUT i) = 1 ∧ t.fget (PDE_SSTAT_s_UP i) = 0 ∧ t.fget PDE_EVT_TIMEOUT = 1 ∧
       t.fget (REC_CNT_c_VAL 13) = plusOne s (REC_CNT_c_VAL 13) ∧ t.pd i = { (s.pd i) with anySeq := true } ∧ (∀ j, j ≠ i → t.pd j = s.pd j) ∧
       t.mem = s.mem ∧ t.flash = s.flash ∧ (∀ l, t.lane l = s.lane l) ∧ t.pending = s.pending)) ∧
    (∀ (i : Nat),
     s.pdeUp = false ∨ s.pde.sess.length ≤ i ∨ (s.boot.act.pdS i).sub = false ∨ s.fget (PDE_SSTAT_s_TIMEDOUT i) = 1 →
     exec (.pdSessionTimeout i) s = .next s) ∧
    (∀ (i : Nat) (b : Bool) (f : PdFrame),
     s.pdeUp = true →
     i < 512 →
     (s.pd i).dual = some (b, f) →
     Yields (exec (.dualWindowClose i) s) (fun t =>
       Regs s t ([(PDE_SSTAT_s_UP i, 1), (PDE_SSTAT_s_TIMEDOUT i, 0), (PDE_SSTAT_s_DIFF i, 0), (PDE_EVT_LANE_LOSS, 1)] ++
         (if b then [(PDE_SSTAT_s_LOSS_A i, plusOne s (PDE_SSTAT_s_LOSS_A i)), (PDE_LANELOSS_LOSS_A, plusOne s PDE_LANELOSS_LOSS_A)]
          else [(PDE_SSTAT_s_LOSS_B i, plusOne s (PDE_SSTAT_s_LOSS_B i)), (PDE_LANELOSS_LOSS_B, plusOne s PDE_LANELOSS_LOSS_B)])) ∧
       Quiet s t ∧ ((s.boot.act.pdS i).buf, f.data) ∈ t.cyc.rx ∧ t.pd i = { (s.pd i) with anySeq := false, seq := f.seq, dual := none, ssn := if (s.boot.act.pdS i).vsc then beAt f.data ((s.boot.act.pdS i).len - 16 + 4) 4 else 0, acc := (s.ts, f.seq, if (s.boot.act.pdS i).vsc then beAt f.data ((s.boot.act.pdS i).len - 16 + 4) 4 else 0) } ∧ (∀ j, j ≠ i → t.pd j = s.pd j))) ∧
    (∀ (i : Nat),
     s.pdeUp = false ∨ (s.pd i).dual = none →
     exec (.dualWindowClose i) s = .next s)

/-- A keyed commit of a directory image starts the copy, is refused while one is running, and another key or an unaligned offset is answered TARGET
(R349); the copy is refused with DIR_ERR when its magic number is wrong and otherwise waits for the boundary. A notification for the own address whose
COMID has a receive queue with a free slot is placed there, its bytes in the message pool (R352, R354); a request without a reply
in time leaves an empty message in its reply queue (R355). -/
def Obligations.DirectoryAndMessages : Prop :=
  ∀ (s : State),
    (∀ (o : BitVec 24),
     s.unitDown 0x21 = false →
     o.toNat % 8 = 0 →
     s.fget PDE_DIRSTAT_STATE = 0 →
     Yields (exec (.directoryCommit 0x6D o) s) (fun t =>
       Regs s t [(PDE_DIRSTAT_STATE, 1)] ∧ Quiet s t ∧ t.resp = .okay ∧ t.pde = { s.pde with imageOfs := o.toNat, imageDue := false })) ∧
    (∀ (o : BitVec 24),
     s.unitDown 0x21 = false →
     o.toNat % 8 = 0 →
     s.fget PDE_DIRSTAT_STATE ≠ 0 →
     Yields (exec (.directoryCommit 0x6D o) s) (fun t =>
       Regs s t [(PDE_DIRSTAT_RESULT, 2)] ∧ Quiet s t ∧ t.resp = .target ∧ t.pde = s.pde)) ∧
    (∀ (k : BitVec 8) (o : BitVec 24),
     s.unitDown 0x21 = false →
     k ≠ 0x6D ∨ o.toNat % 8 ≠ 0 →
     exec (.directoryCommit k o) s = refusedWith s) ∧
    (∀ (k : BitVec 8) (o : BitVec 24),
     s.unitDown 0x21 = true →
     exec (.directoryCommit k o) s = .next { s with resp := .isolated, rdata := 0 }) ∧
    (∀ (n : Nat) (h bs : List Byte),
     s.fget PDE_DIRSTAT_STATE = 1 →
     s.engineRead (0x20000000 + s.pde.imageOfs) 16 = (s, some h) →
     leAt h 0 4 = 0x5249445A →
     leAt h 4 2 = n →
     n ≤ 4096 →
     s.pde.imageDue = true →
     s.engineRead ((0x20000000 + s.pde.imageOfs) + 16) (16 * n) = (s, some bs) →
     (0x20000000 + s.pde.imageOfs) + 16 + 16 * n ≤ 0x20180000 →
     dirUnique ((records 16 n bs).map dirE) = true →
     Yields (exec (.directoryCopyDone) s) (fun t =>
       Regs s t [(PDE_DIRSTAT_STATE, 2)] ∧ Quiet s t ∧
       t.pde = { s.pde with image := some (leAt h 8 4, leAt h 12 4, (records 16 n bs).map dirE) })) ∧
    (∀ (n : Nat) (h bs : List Byte),
     s.fget PDE_DIRSTAT_STATE = 1 →
     s.engineRead (0x20000000 + s.pde.imageOfs) 16 = (s, some h) →
     leAt h 4 2 = n →
     s.pde.imageDue = true →
     4096 < n ∨ s.engineRead ((0x20000000 + s.pde.imageOfs) + 16) (16 * n) = (s, some bs) →
     leAt h 0 4 ≠ 0x5249445A ∨ 4096 < n ∨ 0x20180000 < (0x20000000 + s.pde.imageOfs) + 16 + 16 * n ∨ dirUnique ((records 16 n bs).map dirE) = false →
     Yields (exec (.directoryCopyDone) s) (fun t =>
       Regs s t [(PDE_DIRSTAT_STATE, 0), (PDE_DIRSTAT_RESULT, 3), (PDE_EVT_DIR_ERR, 1)] ∧ Quiet s t ∧ t.pde = s.pde)) ∧
    (s.fget PDE_DIRSTAT_STATE = 1 →
     s.pde.imageDue = true →
     (s.engineRead (0x20000000 + s.pde.imageOfs) 16).2 = none →
     Yields (exec (.directoryCopyDone) s) (fun t =>
       t.fget PDE_DIRSTAT_STATE = 0 ∧ t.fget PDE_DIRSTAT_RESULT = 3 ∧ t.fget PDE_EVT_DIR_ERR = 1 ∧ t.pde = s.pde ∧ t.flash = s.flash)) ∧
    (s.fget PDE_DIRSTAT_STATE ≠ 1 ∨ s.pde.imageDue = false →
     exec .directoryCopyDone s = .next s) ∧
    (∀ (m : MdMsg) (q k : Nat),
     s.pdeUp = true →
     m.reasm = none →
     m.dst = s.fget PDE_IPADDR_ADDR →
     m.msgType = 0x4D6E →
     m.hdrOk = true →
     s.mdMatch 0x11 m = some q →
     (List.range (s.boot.act.recvQ q).depth).find? (fun k => (s.pde.recvQ.getD q []).all (fun m => m.slot ≠ k)) = some k →
     s.memx.upsets = [] →
     s.memx.poisoned = [] →
     Yields (exec (.mdMessageReceived m) s) (fun t =>
       t.memBytes (s.boot.act.slotBase q + 1440 * k) m.data.length = m.data ∧
       MemSame s t (s.boot.act.slotBase q + 1440 * k) m.data.length ∧ t.regs = s.regs ∧ t.flash = s.flash ∧
       t.pending = s.pending ∧ (∀ l, t.lane l = s.lane l) ∧
       t.pde.recvQ.getD q [] = s.pde.recvQ.getD q [] ++ [{ slot := k, len := m.data.length, ip := m.src, sess := m.sess, taken := false, sender := dirIndexOf s.pde.dir (fun d => d.ip = m.src) }])) ∧
    (∀ (m : MdMsg) (q : Nat),
     s.pdeUp = true →
     m.reasm = none →
     m.dst = s.fget PDE_IPADDR_ADDR →
     m.msgType = 0x4D6E →
     m.hdrOk = true →
     s.mdMatch 0x11 m = some q →
     (List.range (s.boot.act.recvQ q).depth).find? (fun k => (s.pde.recvQ.getD q []).all (fun m => m.slot ≠ k)) = none →
     Yields (exec (.mdMessageReceived m) s) (fun t =>
       Regs s t [(PDE_MDSTAT_RXDROP, plusOne s PDE_MDSTAT_RXDROP), (PDE_EVT_MD_DROP, 1)] ∧ Quiet s t ∧ t.pde = s.pde)) ∧
    (∀ (m : MdMsg),
     s.pdeUp = true →
     m.dst = s.fget PDE_IPADDR_ADDR →
     (m.reasm = none → exec (.mdMessageReceived m) s = .next (s.mdReceive m)) ∧
     (∀ r, m.reasm = some r → r ∈ s.pde.reasm →
       exec (.mdMessageReceived m) s = .next ({ s with pde := { s.pde with reasm := s.pde.reasm.filter (fun j => j ≠ r) } }.mdReceive m)) ∧
     (∀ r, m.reasm = some r → r ∉ s.pde.reasm → exec (.mdMessageReceived m) s = .next s)) ∧
    (∀ (m : MdMsg),
     s.pdeUp = true →
     m.dst = s.fget PDE_IPADDR_ADDR →
     m.reasm = none →
     m.msgType = 0x4D72 →
     (m.hdrOk = false →
     Yields (exec (.mdMessageReceived m) s) (fun t =>
       Regs s t [] ∧ Quiet s t ∧
       t.pde = { s.pde with tx := some (.md { m with msgType := 0x4D65, hdrOk := true, dst := m.src, src := s.fget PDE_IPADDR_ADDR, reasm := none, data := [] } (s.nextHop m.src)) })) ∧
     (m.hdrOk = true → s.mdMatch 0x12 m = none → exec (.mdMessageReceived m) s = .next s) ∧
     (∀ q, s.mdMatch 0x12 m = some q → m.hdrOk = true →
       exec (.mdMessageReceived m) s = .next (s.mdPlace q m.data (dirIndexOf s.pde.dir (fun d => d.ip = m.src)) m.src m.sess))) ∧
    (∀ (m : MdMsg),
     s.pdeUp = false ∨ m.dst ≠ s.fget PDE_IPADDR_ADDR →
     exec (.mdMessageReceived m) s = .next s) ∧
    (∀ (q : Nat) (w : Nat × Nat),
     s.pdeUp = true →
     s.pde.waits.find? (fun x => x.1 = q) = some w →
     exec (.mdReplyTimeout q) s = .next ({ s with pde := { s.pde with waits := s.pde.waits.erase w } }.mdPlace (s.boot.act.sendQ q).pairq []
         (dirIndexOf s.pde.dir (fun d => d.dev = (s.boot.act.sendQ q).peer)) 0 w.2)) ∧
    (∀ (q : Nat),
     s.pdeUp = false ∨ s.pde.waits.find? (fun x => x.1 = q) = none →
     exec (.mdReplyTimeout q) s = .next s) ∧
    (∀ (q w : Nat),
     s.pdeUp = true →
     s.pde.waits = [(q, w)] →
     (s.boot.act.sendQ q).pairq < s.pde.recvQ.length →
     s.pde.recvQ.getD (s.boot.act.sendQ q).pairq [] = [] →
     (s.boot.act.recvQ (s.boot.act.sendQ q).pairq).depth ≠ 0 →
     Yields (exec (.mdReplyTimeout q) s) (fun t =>
       Regs s t [] ∧ Quiet s t ∧ t.pde.waits = [] ∧
       t.pde.recvQ.getD (s.boot.act.sendQ q).pairq [] =
         [{ slot := 0, len := 0, ip := 0, sess := w, taken := false, sender := dirIndexOf s.pde.dir (fun d =>
              d.dev = (s.boot.act.sendQ q).peer) }]))

/-- The time unit (R362 to R365). The first complete offset measurement, from a Sync of the PTP parent or its Follow_Up, sets the count to the source's
time and STEPPED. Delay_Req and Pdelay messages give the path delays as means of both directions. The best announced master becomes the
parent with MASTER_CHG. In PPS mode an edge takes the nearest whole second as the source; with REFIN its reference gives the rate, cut at 200 ppm; the
eighth measurement in a row within 1 us locks; the third in a row beyond TIM_JUMP_MAX is refused with JUMP_REF and enters HOLDOVER, as the loss of the
parent and a PPS missing for 2 s do; its end is EXPIRED. ACCEPT_JUMP and SECSET need key 0x71, SECSET a mode other than PTP. -/
def Obligations.TimeUnit : Prop :=
  ∀ (s : State),
    (∀ (m : PtpMsg) (d : Int),
     s.timUp = true →
     s.timFromParent m = true →
     m.twoStep = false →
     s.timDelay m.port = some d →
     s.fget TIM_STAT_STEPPED = 0 →
     Yields (exec (.ptpSyncReceived m) s) (fun t =>
       Regs s t [(TIM_OFFSET_NS, (clampS 32 ((s.now.trainNs : Int) - (m.ts + m.corr) - d) % 2 ^ 32).toNat), (TIM_STAT_STEPPED, 1), (TIM_STAT_STATE, 1)] ∧ Quiet s t ∧
       t.now = { s.now with trainNs := (((m.ts : Int) + m.corr + d) % 2 ^ 64).toNat, trainFrac := 0 } ∧
       t.tim = { s.tim with t12 := some (m.port, m.ts + m.corr, s.now.trainNs), sync := none,within := 0, beyond := 0, acceptJump := false, measUs := s.ts })) ∧
    (∀ (m : PtpMsg),
     s.timUp = true →
     s.timFromParent m = true →
     m.twoStep = true →
     Yields (exec (.ptpSyncReceived m) s) (fun t =>
       Regs s t [] ∧ Quiet s t ∧ t.now = s.now ∧ t.tim = { s.tim with sync := some (m, s.now.trainNs) })) ∧
    (∀ (m : PtpMsg),
     s.timFromParent m = false →
     exec (.ptpSyncReceived m) s = .next s ∧ exec (.ptpFollowUpReceived m) s = .next s) ∧
    (∀ (m y : PtpMsg) (arr : Nat),
     s.timUp = true →
     s.timFromParent m = true →
     s.tim.sync = some (y, arr) →
     y.seq = m.seq →
     y.port = m.port →
     s.timDelay m.port = none →
     Yields (exec (.ptpFollowUpReceived m) s) (fun t =>
       Regs s t [] ∧ Quiet s t ∧ t.now = s.now ∧
       t.tim = { s.tim with sync := none, t12 := some (m.port, m.ts + m.corr + y.corr, arr) })) ∧
    (∀ (port : Nat) (a : Announce),
     s.timUp = true →
     s.fget TIM_CFG_MODE = 1 →
     port < 4 →
     s.tim.parent = some a →
     a.port = port →
     s.fget (TIM_PORT_n_CFG_P2P port) = 0 →
     Yields (exec (.ptpDelayReqSend port) s) (fun t =>
       Regs s t [] ∧ Quiet s t ∧ t.now = s.now ∧ t.tim.reqSeq = (s.tim.reqSeq + 1) % 2 ^ 16 ∧
       t.tim.reqs.toList.getD port none = some (t.tim.reqSeq, s.now.trainNs) ∧
       t.pde = { s.pde with
         tx := some (.delayReq {
           port := port, domain := s.fget TIM_CFG_DOMAIN, clock := s.ownMac, seq := t.tim.reqSeq
           ts := if s.fget (TIM_PORT_n_CFG_ONESTEP port) = 1 then s.now.trainNs else 0
           corr := 0, twoStep := false, l2 := s.flag TIM_CFG_L2 }) })) ∧
    (∀ (port : Nat),
     s.timUp = true →
     s.fget TIM_CFG_MODE = 1 →
     port < 4 →
     s.fget (TIM_PORT_n_CFG_P2P port) = 1 →
     Yields (exec (.ptpDelayReqSend port) s) (fun t =>
       Regs s t [] ∧ Quiet s t ∧ t.now = s.now ∧ t.tim.reqSeq = (s.tim.reqSeq + 1) % 2 ^ 16 ∧
       t.tim.reqs.toList.getD port none = some (t.tim.reqSeq, s.now.trainNs) ∧
       t.pde = { s.pde with
         tx := some (.pdelayReq {
           port := port, domain := s.fget TIM_CFG_DOMAIN, clock := s.ownMac, seq := t.tim.reqSeq
           ts := 0, corr := 0, twoStep := false, l2 := s.flag TIM_CFG_L2 }) })) ∧
    (∀ (m : PtpMsg) (t3 t2 : Nat) (t1 : Int),
     s.timUp = true →
     s.timFromParent m = true →
     m.port < 4 →
     s.tim.reqs.toList.getD m.port none = some (m.seq, t3) →
     s.tim.t12 = some (m.port, t1, t2) →
     s.fget TIM_STAT_STEPPED = 1 →
     Yields (exec (.ptpDelayRespReceived m) s) (fun t =>
       Regs s t [] ∧ Quiet s t ∧ t.now = s.now ∧
       t.timDelay m.port = some ((((t2 : Int) - t1) + ((m.ts : Int) - m.corr - t3)) / 2) ∧
       t.tim.reqs.toList.getD m.port none = none)) ∧
    (∀ (m : PtpMsg) (n : Nat),
     s.timUp = true →
     m.port < 4 →
     s.fget TIM_CFG_MODE = 1 →
     s.fget (TIM_PORT_n_CFG_P2P m.port) = 1 →
     m.l2 = s.flag TIM_CFG_L2 →
     s.fget (TIM_PORT_n_CFG_ONESTEP m.port) = 1 →
     exec (.ptpPdelayReqReceived m n) s = .next { s with pde := { s.pde with tx := some (.pdelayResp m.clock { m with clock := s.ownMac, ts := 0, corr := m.corr + n, twoStep := false } none) } }) ∧
    (∀ (m : PtpMsg) (n : Nat),
     s.timUp = true →
     m.port < 4 →
     s.fget TIM_CFG_MODE = 1 →
     s.fget (TIM_PORT_n_CFG_P2P m.port) = 1 →
     m.l2 = s.flag TIM_CFG_L2 →
     s.fget (TIM_PORT_n_CFG_ONESTEP m.port) = 0 →
     exec (.ptpPdelayReqReceived m n) s = .next { s with pde := { s.pde with
         tx := some (.pdelayResp m.clock
           { m with clock := s.ownMac, ts := s.now.trainNs, corr := 0, twoStep := true }
           (some { m with clock := s.ownMac, ts := s.now.trainNs + n, twoStep := false })) } }) ∧
    (∀ (m : PtpMsg) (q : Nat),
     s.timUp = true →
     m.port < 4 →
     s.fget TIM_CFG_MODE = 1 →
     s.fget (TIM_PORT_n_CFG_P2P m.port) = 1 →
     m.l2 = s.flag TIM_CFG_L2 →
     s.tim.reqs.toList.getD m.port none = some (m.seq, q) →
     Yields (exec (.ptpPdelayRespReceived m) s) (fun t =>
       Regs s t [] ∧ Quiet s t ∧ t.now = s.now ∧
       (m.twoStep = true → t.tim.pdelay.toList.getD m.port none = some (m, s.now.trainNs) ∧ t.tim.reqs = s.tim.reqs ∧ t.tim.delay = s.tim.delay) ∧
       (m.twoStep = false → t.timDelay m.port = some (((s.now.trainNs : Int) - q - m.corr) / 2) ∧ t.tim.reqs.toList.getD m.port none = none))) ∧
    (∀ (m : PtpMsg) (q k : Nat),
     s.tim.reqs.toList.getD m.port none = some (k, q) →
     k ≠ m.seq →
     exec (.ptpPdelayRespReceived m) s = .next s ∧ exec (.ptpPdelayRespFollowUp m) s = .next s ∧ exec (.ptpDelayRespReceived m) s = .next s) ∧
    (∀ (m r : PtpMsg) (arr q : Nat),
     s.timUp = true →
     m.port < 4 →
     s.fget TIM_CFG_MODE = 1 →
     s.fget (TIM_PORT_n_CFG_P2P m.port) = 1 →
     m.l2 = s.flag TIM_CFG_L2 →
     s.tim.reqs.toList.getD m.port none = some (m.seq, q) →
     s.tim.pdelay.toList.getD m.port none = some (r, arr) →
     r.seq = m.seq →
     r.clock = m.clock →
     Yields (exec (.ptpPdelayRespFollowUp m) s) (fun t =>
       Regs s t [] ∧ Quiet s t ∧ t.now = s.now ∧ t.tim.pdelay.toList.getD m.port none = none ∧
       t.tim.reqs.toList.getD m.port none = none ∧
       t.timDelay m.port = some (((arr : Int) - q - ((m.ts : Int) - r.ts + m.corr + r.corr)) / 2))) ∧
    (∀ (m : Announce),
     s.timUp = true →
     s.fget TIM_CFG_MODE = 1 →
     m.domain = s.fget TIM_CFG_DOMAIN →
     m.l2 = s.flag TIM_CFG_L2 →
     m.port < 4 →
     s.tim.masters = [] →
     s.tim.parent = none →
     Yields (exec (.ptpAnnounceReceived m) s) (fun t =>
       Regs s t [(TIM_STAT_PARENT_PORT, m.port), (TIM_STAT_STEPS, min (m.steps + 1) 255), (TIM_EVT_MASTER_CHG, 1)] ∧
       Quiet s t ∧ t.now = s.now ∧
       t.tim = { s.tim with masters := [m], parent := some m, sync := none, t12 := none, beyond := 0, within := 0 })) ∧
    (∀ (m a : Announce),
     s.timUp = true →
     s.fget TIM_CFG_MODE = 1 →
     m.domain = s.fget TIM_CFG_DOMAIN →
     m.l2 = s.flag TIM_CFG_L2 →
     m.port < 4 →
     a.port < 4 →
     s.tim.masters = [a] →
     s.tim.parent = some a →
     m.clock ≠ a.clock →
     m.prio1 ≠ a.prio1 →
     Yields (exec (.ptpAnnounceReceived m) s) (fun t =>
       t.tim.parent = some (if m.prio1 < a.prio1 then m else a) ∧
       t.fget TIM_STAT_PARENT_PORT = (if m.prio1 < a.prio1 then m.port else a.port) ∧
       t.fget TIM_EVT_MASTER_CHG = (if m.prio1 < a.prio1 then 1 else s.fget TIM_EVT_MASTER_CHG) ∧ Quiet s t)) ∧
    (∀ (a : Announce),
     s.timUp = true →
     s.fget TIM_CFG_MODE = 1 →
     s.tim.parent = some a →
     s.tim.masters = [a] →
     s.fget TIM_STAT_STATE = 1 ∨ s.fget TIM_STAT_STATE = 2 →
     Yields (exec (.announceReceiptTimeout) s) (fun t =>
       Regs s t [(TIM_STAT_STATE, 3), (TIM_EVT_HOLD, 1), (TIM_STAT_PARENT_PORT, 0xF)] ∧ Quiet s t ∧
       t.now = s.now ∧ t.tim = { s.tim with masters := [], parent := none })) ∧
    (∀ (r : Int),
     s.timUp = true →
     s.fget TIM_CFG_MODE = 2 →
     s.fget TIM_STAT_STEPPED = 1 →
     s.tim.acceptJump = false →
     (wholeOffset s.now.trainNs).natAbs ≤ 1000 →
     (wholeOffset s.now.trainNs).natAbs ≤ s.fget TIM_JUMP_MAX_NS →
     s.fget TIM_CFG_REFIN = 1 →
     s.tim.within = 7 →
     s.fget TIM_STAT_STATE ≠ 2 →
     Yields (exec (.ppsInEdge r) s) (fun t =>
       Regs s t [(TIM_OFFSET_NS, (clampS 32 (wholeOffset s.now.trainNs) % 2 ^ 32).toNat), (TIM_RATE_PPB, (max (-200000) (min 200000 r) % 2 ^ 32).toNat), (TIM_STAT_STATE, 2), (TIM_EVT_LOCKED, 1)] ∧
       Quiet s t ∧ t.now = s.now ∧ t.tim = { s.tim with secset := false, within := 8, beyond := 0, measUs := s.ts })) ∧
    (∀ (r : Int),
     s.timUp = true →
     s.fget TIM_CFG_MODE = 2 →
     s.fget TIM_STAT_STEPPED = 1 →
     s.tim.acceptJump = false →
     s.fget TIM_JUMP_MAX_NS < (wholeOffset s.now.trainNs).natAbs →
     s.tim.beyond = 2 →
     s.fget TIM_STAT_STATE = 2 →
     Yields (exec (.ppsInEdge r) s) (fun t =>
       Regs s t [(TIM_OFFSET_NS, (clampS 32 (wholeOffset s.now.trainNs) % 2 ^ 32).toNat), (TIM_STAT_STATE, 3), (TIM_EVT_HOLD, 1), (TIM_EVT_JUMP_REF, 1)] ∧
       Quiet s t ∧ t.now = s.now ∧ t.tim = { s.tim with secset := false, within := 0, beyond := 3 })) ∧
    (∀ (r : Int),
     s.timUp = true →
     s.fget TIM_CFG_MODE = 2 →
     s.fget TIM_STAT_STEPPED = 1 →
     s.tim.acceptJump = true →
     Yields (exec (.ppsInEdge r) s) (fun t =>
       Regs s t [(TIM_OFFSET_NS, (clampS 32 (wholeOffset s.now.trainNs) % 2 ^ 32).toNat), (TIM_STAT_STEPPED, 1), (TIM_STAT_STATE, 1), (TIM_EVT_JUMP_ACC, 1)] ∧ Quiet s t ∧
       t.now = { s.now with trainNs := (((s.now.trainNs : Int) - wholeOffset s.now.trainNs) % 2 ^ 64).toNat, trainFrac := 0 } ∧ t.tim = { s.tim with secset := false,within := 0, beyond := 0, acceptJump := false, measUs := s.ts })) ∧
    (∀ (r : Int),
     s.timUp = true →
     s.fget TIM_CFG_MODE = 2 →
     s.fget TIM_STAT_STEPPED = 0 →
     Yields (exec (.ppsInEdge r) s) (fun t =>
       (s.tim.secset = true → Regs s t [(TIM_STAT_STEPPED, 1), (TIM_STAT_STATE, 1)] ∧
         t.now = { s.now with trainNs := s.fget TIM_SECSET_SEC * 1000000000, trainFrac := 0 }) ∧
       (s.tim.secset = false → t = s) ∧ Quiet s t)) ∧
    (s.timUp = true →
     s.fget TIM_CFG_MODE = 2 →
     s.fget TIM_STAT_STATE = 1 ∨ s.fget TIM_STAT_STATE = 2 →
     Yields (exec (.ppsInMissing) s) (fun t =>
       Regs s t [(TIM_STAT_STATE, 3), (TIM_EVT_HOLD, 1), (TIM_EVT_PPS_MISS, 1)] ∧ Quiet s t ∧ t.tim = s.tim ∧ t.now = s.now)) ∧
    (s.fget TIM_STAT_STATE = 3 →
     Yields (exec (.holdoverExpiry) s) (fun t =>
       Regs s t [(TIM_STAT_STATE, 4), (TIM_EVT_EXPIRED, 1)] ∧ Quiet s t ∧ t.tim = s.tim ∧ t.now = s.now)) ∧
    (s.timUp = true →
     Yields (exec (.timAcceptJump 0x71) s) (fun t =>
       Regs s t [] ∧ Quiet s t ∧ t.resp = .okay ∧ t.tim = { s.tim with acceptJump := true }) ∧
     (s.fget TIM_CFG_MODE ≠ 1 → Yields (exec (.timSecsetApply 0x71) s) (fun t =>
       Regs s t [] ∧ Quiet s t ∧ t.resp = .okay ∧ t.tim = { s.tim with secset := true })) ∧
     (s.fget TIM_CFG_MODE = 1 → exec (.timSecsetApply 0x71) s = refusedWith s)) ∧
    (∀ (k : BitVec 8),
     s.timUp = true →
     k ≠ 0x71 →
     exec (.timAcceptJump k) s = refusedWith s ∧ exec (.timSecsetApply k) s = refusedWith s) ∧
    (∀ (m : PtpMsg),
     s.timUp = true →
     s.timFromParent m = true →
     m.twoStep = false →
     exec (.ptpSyncReceived m) s = .next (s.timSynced m.port (m.ts + m.corr) s.now.trainNs)) ∧
    (∀ (m y : PtpMsg) (arr : Nat),
     s.timUp = true →
     s.timFromParent m = true →
     s.tim.sync = some (y, arr) →
     y.seq = m.seq →
     y.port = m.port →
     exec (.ptpFollowUpReceived m) s = .next (s.timSynced m.port (m.ts + m.corr + y.corr) arr)) ∧
    (∀ (m y : PtpMsg) (d : Int) (arr : Nat),
     s.timUp = true →
     s.timFromParent m = true →
     s.tim.sync = some (y, arr) →
     y.seq = m.seq →
     y.port = m.port →
     s.timDelay m.port = some d →
     s.fget TIM_STAT_STEPPED = 0 →
     Yields (exec (.ptpFollowUpReceived m) s) (fun t =>
       Regs s t [(TIM_OFFSET_NS, (clampS 32 ((arr : Int) - (m.ts + m.corr + y.corr) - d) % 2 ^ 32).toNat), (TIM_STAT_STEPPED, 1), (TIM_STAT_STATE, 1)] ∧ Quiet s t ∧
       t.now = { s.now with trainNs := (((s.now.trainNs : Int) - ((arr : Int) - (m.ts + m.corr + y.corr) - d)) % 2 ^ 64).toNat, trainFrac := 0 })) ∧
    (∀ (m : PtpMsg) (d : Int),
     s.timUp = true →
     s.timFromParent m = true →
     m.twoStep = false →
     s.timDelay m.port = some d →
     s.fget TIM_STAT_STEPPED = 1 →
     s.tim.acceptJump = false →
     ((s.now.trainNs : Int) - (m.ts + m.corr) - d).natAbs ≤ s.fget TIM_JUMP_MAX_NS →
     Yields (exec (.ptpSyncReceived m) s) (fun t =>
       t.fget TIM_OFFSET_NS = (clampS 32 ((s.now.trainNs : Int) - (m.ts + m.corr) - d) % 2 ^ 32).toNat ∧ Quiet s t ∧ t.now = s.now ∧
       t.tim.within = (if ((s.now.trainNs : Int) - (m.ts + m.corr) - d).natAbs ≤ 1000 then min (s.tim.within + 1) 8 else 0) ∧ t.tim.beyond = 0 ∧
       t.fget TIM_STAT_STATE = (if s.fget TIM_STAT_STATE = 2 ∨ t.tim.within = 8 then 2 else 1))) ∧
    (∀ (m : PtpMsg) (d : Int),
     s.timUp = true →
     s.timFromParent m = true →
     m.twoStep = false →
     s.timDelay m.port = some d →
     s.fget TIM_STAT_STEPPED = 1 →
     s.tim.acceptJump = false →
     s.fget TIM_JUMP_MAX_NS < ((s.now.trainNs : Int) - (m.ts + m.corr) - d).natAbs →
     Yields (exec (.ptpSyncReceived m) s) (fun t =>
       t.fget TIM_OFFSET_NS = (clampS 32 ((s.now.trainNs : Int) - (m.ts + m.corr) - d) % 2 ^ 32).toNat ∧ Quiet s t ∧ t.now = s.now ∧
       t.tim.within = 0 ∧ t.tim.beyond = min (s.tim.beyond + 1) 3 ∧
       (2 ≤ s.tim.beyond → t.fget TIM_EVT_JUMP_REF = 1) ∧ (s.tim.beyond < 2 → Regs s t [(TIM_OFFSET_NS, (clampS 32 ((s.now.trainNs : Int) - (m.ts + m.corr) - d) % 2 ^ 32).toNat)]))) ∧
    (∀ (m y : PtpMsg) (arr : Nat),
     s.tim.sync = none ∨ (s.tim.sync = some (y, arr) ∧ (s.timUp = false ∨ y.seq ≠ m.seq ∨ y.port ≠ m.port)) →
     exec (.ptpFollowUpReceived m) s = .next s) ∧
    (∀ (m : PtpMsg) (n : Nat),
     s.timUp = false →
     exec (.ptpSyncReceived m) s = .next s ∧ exec (.ptpPdelayReqReceived m n) s = .next s ∧ exec (.ptpPdelayRespReceived m) s = .next s) ∧
    (∀ (port : Nat),
     s.timUp = false ∨ s.fget TIM_CFG_MODE ≠ 1 ∨ 4 ≤ port ∨ (s.fget (TIM_PORT_n_CFG_P2P port) = 0 ∧ ∀ a, s.tim.parent = some a → a.port ≠ port) →
     exec (.ptpDelayReqSend port) s = .next s) ∧
    (∀ (m : PtpMsg) (t3 t2 : Nat) (t1 d : Int),
     s.timUp = true →
     s.timFromParent m = true →
     m.port < 4 →
     s.tim.reqs.toList.getD m.port none = some (m.seq, t3) →
     s.tim.t12 = some (m.port, t1, t2) →
     s.fget TIM_STAT_STEPPED = 0 →
     d = (((t2 : Int) - t1) + ((m.ts : Int) - m.corr - t3)) / 2 →
     Yields (exec (.ptpDelayRespReceived m) s) (fun t =>
       Regs s t [(TIM_OFFSET_NS, (clampS 32 ((t2 : Int) - t1 - d) % 2 ^ 32).toNat), (TIM_STAT_STEPPED, 1), (TIM_STAT_STATE, 1)] ∧ Quiet s t ∧ t.timDelay m.port = some d ∧
       t.now = { s.now with trainNs := (((s.now.trainNs : Int) - ((t2 : Int) - t1 - d)) % 2 ^ 64).toNat, trainFrac := 0 } ∧ t.tim.reqs.toList.getD m.port none = none)) ∧
    (∀ (m : PtpMsg),
     s.timUp = false ∨ s.timFromParent m = false ∨ s.tim.t12 = none ∨ s.tim.reqs.toList.getD m.port none = none →
     exec (.ptpDelayRespReceived m) s = .next s) ∧
    (∀ (m : PtpMsg) (n : Nat),
     4 ≤ m.port ∨ s.fget TIM_CFG_MODE ≠ 1 ∨ s.fget (TIM_PORT_n_CFG_P2P m.port) = 0 ∨ m.l2 ≠ s.flag TIM_CFG_L2 →
     exec (.ptpPdelayReqReceived m n) s = .next s ∧ exec (.ptpPdelayRespReceived m) s = .next s ∧ exec (.ptpPdelayRespFollowUp m) s = .next s) ∧
    (∀ (m : PtpMsg),
     s.timUp = false ∨ s.tim.pdelay.toList.getD m.port none = none ∨ s.tim.reqs.toList.getD m.port none = none →
     exec (.ptpPdelayRespFollowUp m) s = .next s) ∧
    (∀ (m : Announce),
     s.timUp = true →
     s.fget TIM_CFG_MODE = 1 →
     m.domain = s.fget TIM_CFG_DOMAIN →
     m.l2 = s.flag TIM_CFG_L2 →
     exec (.ptpAnnounceReceived m) s = .next (State.timSelect { s with tim := { s.tim with masters := s.tim.masters.filter (fun a => ¬(a.clock = m.clock ∧ a.port = m.port)) ++ [m] } })) ∧
    (∀ (m b : Announce),
     s.timUp = true →
     s.fget TIM_CFG_MODE = 1 →
     m.domain = s.fget TIM_CFG_DOMAIN →
     m.l2 = s.flag TIM_CFG_L2 →
     b.port < 4 →
     bestMaster (s.tim.masters.filter (fun a => ¬(a.clock = m.clock ∧ a.port = m.port)) ++ [m]) = some b →
     Yields (exec (.ptpAnnounceReceived m) s) (fun t =>
       t.tim.parent = some b ∧ t.fget TIM_STAT_PARENT_PORT = b.port ∧ t.fget TIM_STAT_STEPS = min (b.steps + 1) 255 ∧ Quiet s t ∧ t.now = s.now ∧
       t.tim.masters = s.tim.masters.filter (fun a => ¬(a.clock = m.clock ∧ a.port = m.port)) ++ [m])) ∧
    (∀ (m : Announce),
     s.timUp = false ∨ s.fget TIM_CFG_MODE ≠ 1 ∨ m.domain ≠ s.fget TIM_CFG_DOMAIN ∨ m.l2 ≠ s.flag TIM_CFG_L2 →
     exec (.ptpAnnounceReceived m) s = .next s) ∧
    (∀ (a : Announce),
     s.timUp = true →
     s.fget TIM_CFG_MODE = 1 →
     s.tim.parent = some a →
     exec .announceReceiptTimeout s = .next (State.timSelect { s.timHold with tim := { s.timHold.tim with masters := s.timHold.tim.masters.filter (fun b => ¬(b.clock = a.clock ∧ b.port = a.port)) } }) ∧
     ((s.fget TIM_STAT_STATE = 1 ∨ s.fget TIM_STAT_STATE = 2) → Yields (exec (.announceReceiptTimeout) s) (fun t =>
       t.fget TIM_STAT_STATE = 3 ∧ t.fget TIM_EVT_HOLD = 1 ∧ Quiet s t ∧ t.now = s.now))) ∧
    (s.timUp = false ∨ s.fget TIM_CFG_MODE ≠ 1 ∨ s.tim.parent = none →
     exec (.announceReceiptTimeout) s = .next s) ∧
    (∀ (r : Int),
     s.timUp = true →
     s.fget TIM_CFG_MODE = 2 →
     s.fget TIM_STAT_STEPPED = 1 →
     exec (.ppsInEdge r) s = .next (State.timMeasure { s with tim := { s.tim with secset := false } } (wholeOffset s.now.trainNs) (if s.fget TIM_CFG_REFIN = 1 then some r else none))) ∧
    (∀ (r : Int),
     s.timUp = false ∨ s.fget TIM_CFG_MODE ≠ 2 →
     exec (.ppsInEdge r) s = .next s ∧ exec (.ppsInMissing) s = .next s) ∧
    (s.timUp = true →
     s.fget TIM_CFG_MODE = 2 →
     s.fget TIM_STAT_STATE ≠ 1 →
     s.fget TIM_STAT_STATE ≠ 2 →
     Yields (exec (.ppsInMissing) s) (fun t =>
       Regs s t [(TIM_EVT_PPS_MISS, 1)] ∧ Quiet s t ∧ t.tim = s.tim ∧ t.now = s.now)) ∧
    (s.fget TIM_STAT_STATE ≠ 3 →
     exec (.holdoverExpiry) s = .next s) ∧
    (∀ (k : BitVec 8),
     s.unitDown 0x22 = true →
     exec (.timAcceptJump k) s = .next { s with resp := .isolated, rdata := 0 } ∧ exec (.timSecsetApply k) s = .next { s with resp := .isolated, rdata := 0 })

/-- A CAN controller (chapter 14). After 11 recessive bits an integrating one joins (R371). A received frame that an element of the filter matches goes to
its buffer with FRESH, RX_LOST where FRESH was set, or to the FIFO (R374, R375, R378). A start of frame fixes the stamp and the filter, and
the one pending item enters arbitration (R380); sent, it is DONE with its stamp and TEC falls by 1; lost or in error it is pending again, or
CANCELLED where a cancel reached it (R381, R384). A transmitter error adds 8 to TEC: error passive from 128, bus-off at 256 (R382). RECOVER needs
its key and bus-off; its end returns the controller with counters at 0 and the held items pending (R383). -/
def Obligations.CanControllers : Prop :=
  ∀ (s : State),
    (∀ (n : BitVec 2),
     s.canUp n.toNat = true →
     s.canState n.toNat = 1 →
     Yields (exec (.canBusIntegration n) s) (fun t =>
       Regs s t [(CAN_n_STAT_TEC n.toNat, 0), (CAN_n_STAT_REC n.toNat, 0), (CAN_n_STAT_STATE n.toNat, if s.fget (CAN_n_CFG_MODE n.toNat) = 2 then 6 else 2)] ∧
       t = { s with regs := t.regs, can := t.can } ∧ (∀ k, k ≠ n.toNat → t.canCtl k = s.canCtl k) ∧ t.canCtl n.toNat = { s.canCtl n.toNat with joined := true })) ∧
    (∀ (n : BitVec 2) (f : CanFrame) (i : Nat) (e : CanFilt),
     s.canHears n.toNat = true →
     f.fdf = false →
     f.rtr = false →
     s.fget (CAN_n_STAT_REC n.toNat) = 0 →
     canMatch (canFilters (s.canCtl n.toNat).filter) f = some (i, e) →
     e.dest = 2 →
     e.slot < 64 →
     Yields (exec (.canFrameReceived n f) s) (fun t =>
       Regs s t ([(canFresh n.toNat e.slot, 1)] ++
         (if s.fget (canFresh n.toNat e.slot) = 1 then
           [(CAN_n_EVT_RX_LOST n.toNat, 1), (CAN_n_ERRCNT_RXLOST n.toNat, plusOne s (CAN_n_ERRCNT_RXLOST n.toNat))] else [])) ∧ t = { s with regs := t.regs, can := t.can } ∧ (∀ k, k ≠ n.toNat → t.canCtl k = s.canCtl k) ∧
       (t.canCtl n.toNat).bufs = vecUpd (s.canCtl n.toNat).bufs e.slot (fun x =>
         ⟨canMsg f i ((leAt x.bytes 6 1 + 1) % 256) ((s.canCtl n.toNat).sofUs % 2 ^ 32), x.since + 1, some s.ts⟩))) ∧
    (∀ (n : BitVec 2) (f : CanFrame) (i : Nat) (e : CanFilt),
     s.canHears n.toNat = true →
     f.fdf = false →
     f.rtr = false →
     s.fget (CAN_n_STAT_REC n.toNat) = 0 →
     canMatch (canFilters (s.canCtl n.toNat).filter) f = some (i, e) →
     e.dest = 1 →
     s.fget (CAN_n_FIFOSTAT_FILL n.toNat) < 32 →
     Yields (exec (.canFrameReceived n f) s) (fun t =>
       Regs s t [(CAN_n_FIFOSTAT_FILL n.toNat, s.fget (CAN_n_FIFOSTAT_FILL n.toNat) + 1)] ∧ t = { s with regs := t.regs, can := t.can } ∧ (∀ k, k ≠ n.toNat → t.canCtl k = s.canCtl k) ∧ (t.canCtl n.toNat).bufs = (s.canCtl n.toNat).bufs)) ∧
    (∀ (n : BitVec 2) (b : Nat),
     s.canUp n.toNat = true →
     s.canState n.toNat = 2 →
     b < 3 →
     ∀ c : Nat, c < 3 → (s.canSt n.toNat c = 1 ↔ c = b) →
     ∀ c : Nat, c < 3 → s.canSt n.toNat c ≠ 2 →
     Yields (exec (.canStartOfFrame n) s) (fun t =>
       Regs s t [(CAN_n_TXSTAT_ST n.toNat b, 2)] ∧ t = { s with regs := t.regs, can := t.can } ∧ (∀ k, k ≠ n.toNat → t.canCtl k = s.canCtl k) ∧
       t.canCtl n.toNat = { s.canCtl n.toNat with
         sofUs := s.ts, filter := s.boot.act.sect 6 n.toNat, tx := some (s.canFrameOf n.toNat (s.canItem n.toNat b).content) })) ∧
    (∀ (n : BitVec 2),
     s.canUp n.toNat = true →
     s.canState n.toNat = 7 →
     Yields (exec (.canStartOfFrame n) s) (fun t =>
       Regs s t [] ∧ t = { s with regs := t.regs, can := t.can } ∧ (∀ k, k ≠ n.toNat → t.canCtl k = s.canCtl k) ∧ t.canCtl n.toNat = { s.canCtl n.toNat with sofUs := s.ts, filter := s.boot.act.sect 6 n.toNat })) ∧
    (∀ (n : BitVec 2) (b delay : Nat),
     s.canUp n.toNat = true →
     (s.canMeasures n.toNat = true → delay ≤ 63 * s.canQuantum n.toNat) →
     b < 3 →
     ∀ c : Nat, c < 3 → (s.canSt n.toNat c = 2 ↔ c = b) →
     (s.canItem n.toNat b).next = none →
     s.canState n.toNat = 2 →
     s.fget (CAN_n_STAT_TEC n.toNat) ≤ 128 →
     s.fget (CAN_n_STAT_REC n.toNat) < 128 →
     Yields (exec (.canTransmissionEnd n .sent delay) s) (fun t =>
       Regs s t [(CAN_n_TXSTAT_ST n.toNat b, if (s.canItem n.toNat b).cancel then 6 else 3), (CAN_n_STAT_TEC n.toNat, s.fget (CAN_n_STAT_TEC n.toNat) - 1),
         (CAN_n_TXSTAMP_b_US n.toNat b, (s.canCtl n.toNat).sofUs % 2 ^ 32)] ∧ t = { s with regs := t.regs, can := t.can } ∧ (∀ k, k ≠ n.toNat → t.canCtl k = s.canCtl k) ∧ (t.canCtl n.toNat).tx = none)) ∧
    (∀ (n : BitVec 2) (b delay : Nat) (e : CanTxEnd),
     s.canUp n.toNat = true →
     (s.canMeasures n.toNat = true → delay ≤ 63 * s.canQuantum n.toNat) →
     b < 3 →
     ∀ c : Nat, c < 3 → (s.canSt n.toNat c = 2 ↔ c = b) →
     (s.canItem n.toNat b).next = none →
     e ≠ .sent →
     Yields (exec (.canTransmissionEnd n e delay) s) (fun t =>
       Regs s t [(CAN_n_TXSTAT_ST n.toNat b, if (s.canItem n.toNat b).cancel then 5 else 1)] ∧ t = { s with regs := t.regs, can := t.can } ∧ (∀ k, k ≠ n.toNat → t.canCtl k = s.canCtl k) ∧ (t.canCtl n.toNat).tx = none)) ∧
    (∀ (n : BitVec 2),
     s.canUp n.toNat = true →
     s.canState n.toNat = 2 →
     s.fget (CAN_n_STAT_REC n.toNat) < 128 →
     s.fget (CAN_n_STAT_TEC n.toNat) + 8 < 256 →
     Yields (exec (.canError n .transmitter) s) (fun t =>
       Regs s t ([(CAN_n_EVT_PROTO_ERR n.toNat, 1), (CAN_n_ERRCNT_PROTO n.toNat, plusOne s (CAN_n_ERRCNT_PROTO n.toNat)), (CAN_n_STAT_TEC n.toNat, s.fget (CAN_n_STAT_TEC n.toNat) + 8)] ++
         (if 128 ≤ s.fget (CAN_n_STAT_TEC n.toNat) + 8 then [(CAN_n_STAT_STATE n.toNat, 3), (CAN_n_EVT_ERR_PASSIVE n.toNat, 1)] else [])) ∧ t = { s with regs := t.regs, can := t.can } ∧ (∀ k, k ≠ n.toNat → t.canCtl k = s.canCtl k))) ∧
    (∀ (n : BitVec 2),
     s.canUp n.toNat = true →
     s.canState n.toNat = 3 →
     256 ≤ s.fget (CAN_n_STAT_TEC n.toNat) + 8 →
     ∀ b : Nat, b < 3 → s.canSt n.toNat b ≠ 1 ∧ s.canSt n.toNat b ≠ 2 →
     Yields (exec (.canError n .transmitter) s) (fun t =>
       Regs s t [(CAN_n_EVT_PROTO_ERR n.toNat, 1), (CAN_n_ERRCNT_PROTO n.toNat, plusOne s (CAN_n_ERRCNT_PROTO n.toNat)), (CAN_n_STAT_TEC n.toNat, 255), (CAN_n_STAT_STATE n.toNat, if s.fget (CAN_n_CFG_AUTOREC n.toNat) = 1 then 5 else 4),
         (CAN_n_EVT_BUS_OFF n.toNat, 1), (REC_CNT_c_VAL 15, plusOne s (REC_CNT_c_VAL 15))] ∧ t = { s with regs := t.regs, can := t.can } ∧ (∀ k, k ≠ n.toNat → t.canCtl k = s.canCtl k))) ∧
    (∀ (n : BitVec 2),
     s.canUp n.toNat = true →
     s.canState n.toNat = 4 →
     Yields (exec (.canRecover n 0x4B) s) (fun t =>
       Regs s t [(CAN_n_STAT_STATE n.toNat, 5)] ∧ t = { s with regs := t.regs, resp := t.resp, rdata := t.rdata, can := t.can } ∧ t.can = s.can ∧ t.resp = .okay)) ∧
    (∀ (n : BitVec 2) (k : BitVec 8),
     s.canUp n.toNat = true →
     k ≠ 0x4B ∨ s.canState n.toNat ≠ 4 →
     exec (.canRecover n k) s = refusedWith s) ∧
    (∀ (n : BitVec 2),
     s.canUp n.toNat = true →
     s.canState n.toNat = 5 →
     Yields (exec (.canRecoveryDone n) s) (fun t =>
       Regs s t ([(CAN_n_STAT_TEC n.toNat, 0), (CAN_n_STAT_REC n.toNat, 0), (CAN_n_STAT_STATE n.toNat, 2), (CAN_n_EVT_RECOVERED n.toNat, 1)] ++
         [0, 1, 2].map (fun b => (CAN_n_TXSTAT_ST n.toNat b, if s.canSt n.toNat b = 4 then 1 else s.canSt n.toNat b))) ∧ t = { s with regs := t.regs, can := t.can } ∧ (∀ k, k ≠ n.toNat → t.canCtl k = s.canCtl k) ∧ t.can = s.can)) ∧
    (∀ (n : BitVec 2) (b : Nat),
     s.canUp n.toNat = true →
     b < 3 →
     ((s.canSt n.toNat b = 1 ∨ s.canSt n.toNat b = 4) →
     Yields (exec (.canTxCancel n (BitVec.twoPow 3 b)) s) (fun t =>
       Regs s t [(CAN_n_TXSTAT_ST n.toNat b, 5)] ∧ t = { s with regs := t.regs, resp := t.resp, rdata := t.rdata, can := t.can } ∧ t.can = s.can ∧ t.resp = .okay)) ∧
     (s.canSt n.toNat b = 2 →
     Yields (exec (.canTxCancel n (BitVec.twoPow 3 b)) s) (fun t =>
       Regs s t [] ∧ t = { s with regs := t.regs, resp := t.resp, rdata := t.rdata, can := t.can } ∧ (t.canItem n.toNat b).cancel = true ∧ t.resp = .okay))) ∧
    (∀ (n : BitVec 2),
     s.canUp n.toNat = true →
     s.fget (CAN_n_FIFOSTAT_FILL n.toNat) ≠ 0 →
     Yields (exec (.canFifoAck n true) s) (fun t =>
       Regs s t [(CAN_n_FIFOSTAT_FILL n.toNat, s.fget (CAN_n_FIFOSTAT_FILL n.toNat) - 1),
         (CAN_n_FIFOSTAT_GET n.toNat, (s.fget (CAN_n_FIFOSTAT_GET n.toNat) + 1) % 32)] ∧ t = { s with regs := t.regs, resp := t.resp, rdata := t.rdata, can := t.can } ∧ t.can = s.can ∧ t.resp = .okay)) ∧
    (∀ (n : BitVec 2) (a : Bool),
     s.canUp n.toNat = true →
     s.fget (CAN_n_FIFOSTAT_FILL n.toNat) = 0 →
     exec (.canFifoAck n a) s = refusedWith s) ∧
    (∀ (n : BitVec 2),
     s.canUp n.toNat = true →
     s.canState n.toNat = 6 →
     Yields (exec (.canBusIntegration n) s) (fun t =>
       Regs s t [] ∧ t = { s with regs := t.regs, can := t.can } ∧ (∀ k, k ≠ n.toNat → t.canCtl k = s.canCtl k) ∧ t.canCtl n.toNat = { s.canCtl n.toNat with joined := true })) ∧
    (∀ (n : BitVec 2),
     s.canUp n.toNat = false ∨ (s.canState n.toNat ≠ 1 ∧ s.canState n.toNat ≠ 6) →
     exec (.canBusIntegration n) s = .next s) ∧
    (∀ (n : BitVec 2) (f : CanFrame),
     s.canHears n.toNat = true →
     (f.fdf = true → s.fget (CAN_n_CFG_FD_EN n.toNat) = 1) →
     exec (.canFrameReceived n f) s = .next ((s.canRecDown n.toNat).canReceive n.toNat f)) ∧
    (∀ (n : BitVec 2) (f : CanFrame),
     s.canHears n.toNat = true →
     f.fdf = false ∨ s.fget (CAN_n_CFG_FD_EN n.toNat) = 1 →
     s.fget (CAN_n_STAT_REC n.toNat) = 0 →
     (f.rtr = true ∧ s.fget (CAN_n_CFG_REJ_RTR n.toNat) = 1) ∨ (canMatch (canFilters (s.canCtl n.toNat).filter) f = none ∧ s.fget (CAN_n_CFG_NONMATCH n.toNat) = 0) →
     exec (.canFrameReceived n f) s = .next s) ∧
    (∀ (n : BitVec 2) (f : CanFrame),
     s.canHears n.toNat = true →
     f.fdf = false ∨ s.fget (CAN_n_CFG_FD_EN n.toNat) = 1 →
     (f.rtr = true ∧ s.fget (CAN_n_CFG_REJ_RTR n.toNat) = 1) →
     s.canState n.toNat = 2 →
     1 ≤ s.fget (CAN_n_STAT_REC n.toNat) →
     s.fget (CAN_n_STAT_REC n.toNat) ≤ 127 →
     s.fget (CAN_n_STAT_TEC n.toNat) < 128 →
     Yields (exec (.canFrameReceived n f) s) (fun t =>
       Regs s t [(CAN_n_STAT_REC n.toNat, s.fget (CAN_n_STAT_REC n.toNat) - 1)] ∧ t = { s with regs := t.regs, can := t.can } ∧ (∀ k, k ≠ n.toNat → t.canCtl k = s.canCtl k) ∧ t.can = s.can)) ∧
    (∀ (n : BitVec 2) (f : CanFrame),
     s.canHears n.toNat = false ∨ (f.fdf = true ∧ s.fget (CAN_n_CFG_FD_EN n.toNat) = 0) →
     exec (.canFrameReceived n f) s = .next s) ∧
    (∀ (n : BitVec 2) (b : Nat),
     s.canHears n.toNat = true →
     s.canState n.toNat = 2 ∨ s.canState n.toNat = 3 →
     s.canSuspended n.toNat = false →
     s.canArb n.toNat = none →
     s.canChoose n.toNat = some b →
     b < 3 →
     Yields (exec (.canStartOfFrame n) s) (fun t =>
       Regs s t [(CAN_n_TXSTAT_ST n.toNat b, 2)] ∧ t = { s with regs := t.regs, can := t.can } ∧ (∀ k, k ≠ n.toNat → t.canCtl k = s.canCtl k) ∧
       t.canCtl n.toNat = { { s.canCtl n.toNat with sofUs := s.ts, filter := s.boot.act.sect 6 n.toNat } with tx := some (s.canFrameOf n.toNat (s.canItem n.toNat b).content) })) ∧
    (∀ (n : BitVec 2),
     s.canHears n.toNat = true →
     (s.canState n.toNat ≠ 2 ∧ s.canState n.toNat ≠ 3) ∨ s.canSuspended n.toNat = true ∨ s.canArb n.toNat ≠ none ∨ s.canChoose n.toNat = none →
     Yields (exec (.canStartOfFrame n) s) (fun t =>
       Regs s t [] ∧ t = { s with regs := t.regs, can := t.can } ∧ (∀ k, k ≠ n.toNat → t.canCtl k = s.canCtl k) ∧ t.canCtl n.toNat = { s.canCtl n.toNat with sofUs := s.ts, filter := s.boot.act.sect 6 n.toNat })) ∧
    (∀ (n : BitVec 2) (e : CanErr),
     s.canHears n.toNat = false →
     exec (.canStartOfFrame n) s = .next s ∧ exec (.canError n e) s = .next s) ∧
    (∀ (n : BitVec 2) (e : CanTxEnd) (b delay : Nat),
     s.canUp n.toNat = true →
     (s.canMeasures n.toNat = true → delay ≤ 63 * s.canQuantum n.toNat) →
     s.canArb n.toNat = some b →
     Yields (exec (.canTransmissionEnd n e delay) s) (fun t =>
       t = { s with regs := t.regs, can := t.can, recd := t.recd } ∧ (∀ k, k ≠ n.toNat → t.canCtl k = s.canCtl k) ∧ (t.canCtl n.toNat).tx = none ∧
       (t.canCtl n.toNat).lastEnd = (if e = .lost then (s.canCtl n.toNat).lastEnd else some s.now.hubNs) ∧
       (t.canItem n.toNat b).next = none ∧
       ((s.canItem n.toNat b).next = none → t.canSt n.toNat b = if (s.canItem n.toNat b).cancel then (if e = .sent then 6 else 5) else (if e = .sent then 3 else 1)))) ∧
    (∀ (n : BitVec 2) (e : CanTxEnd) (b delay : Nat),
     s.canUp n.toNat = true →
     e ≠ .lost →
     s.canMeasures n.toNat = true →
     63 * s.canQuantum n.toNat < delay →
     s.canArb n.toNat = some b →
     s.canState n.toNat = 2 →
     s.fget (CAN_n_STAT_REC n.toNat) < 128 →
     s.fget (CAN_n_STAT_TEC n.toNat) + 8 < 128 →
     (s.canItem n.toNat b).next = none →
     (s.canItem n.toNat b).cancel = false →
     Yields (exec (.canTransmissionEnd n e delay) s) (fun t =>
       Regs s t [(CAN_n_EVT_PROTO_ERR n.toNat, 1), (CAN_n_ERRCNT_PROTO n.toNat, plusOne s (CAN_n_ERRCNT_PROTO n.toNat)), (CAN_n_STAT_TEC n.toNat, s.fget (CAN_n_STAT_TEC n.toNat) + 8), (CAN_n_TXSTAT_ST n.toNat b, 1)] ∧ t = { s with regs := t.regs, can := t.can } ∧ (∀ k, k ≠ n.toNat → t.canCtl k = s.canCtl k) ∧ (t.canCtl n.toNat).tx = none ∧
       (t.canCtl n.toNat).ssp = some (delay + s.fget (CAN_n_DBT_TDC_OFS n.toNat) * s.canQuantum n.toNat))) ∧
    (∀ (n : BitVec 2) (e : CanTxEnd) (delay : Nat),
     s.canUp n.toNat = true →
     (s.canMeasures n.toNat = true → delay ≤ 63 * s.canQuantum n.toNat) →
     s.canArb n.toNat = none →
     Yields (exec (.canTransmissionEnd n e delay) s) (fun t =>
       Regs s t [] ∧ t = { s with regs := t.regs, can := t.can } ∧ (∀ k, k ≠ n.toNat → t.canCtl k = s.canCtl k) ∧ (t.canCtl n.toNat).tx = none)) ∧
    (∀ (n : BitVec 2) (e : CanTxEnd) (delay : Nat),
     s.canUp n.toNat = false →
     exec (.canTransmissionEnd n e delay) s = .next s ∧ exec (.canBusIntegration n) s = .next s ∧ exec (.canRecoveryDone n) s = .next s) ∧
    (∀ (n : BitVec 2) (e : CanErr),
     s.canHears n.toNat = true →
     exec (.canError n e) s = .next (s.canError n.toNat e) ∧
     (s.canState n.toNat = 7 → Yields (exec (.canError n e) s) (fun t =>
       Regs s t [(CAN_n_EVT_PROTO_ERR n.toNat, 1), (CAN_n_ERRCNT_PROTO n.toNat, plusOne s (CAN_n_ERRCNT_PROTO n.toNat))] ∧ t = { s with regs := t.regs, can := t.can } ∧ (∀ k, k ≠ n.toNat → t.canCtl k = s.canCtl k) ∧ t.can = s.can)) ∧
     (s.canState n.toNat = 6 → Yields (exec (.canError n e) s) (fun t =>
       Regs s t [(CAN_n_EVT_PROTO_ERR n.toNat, 1), (CAN_n_ERRCNT_PROTO n.toNat, plusOne s (CAN_n_ERRCNT_PROTO n.toNat))] ∧ t = { s with regs := t.regs, can := t.can } ∧ (∀ k, k ≠ n.toNat → t.canCtl k = s.canCtl k) ∧ t.canCtl n.toNat = { s.canCtl n.toNat with joined := false })) ∧
     ((s.canState n.toNat = 2 ∨ s.canState n.toNat = 3) → Yields (exec (.canError n .exempt) s) (fun t =>
       Regs s t [(CAN_n_EVT_PROTO_ERR n.toNat, 1), (CAN_n_ERRCNT_PROTO n.toNat, plusOne s (CAN_n_ERRCNT_PROTO n.toNat))] ∧ t = { s with regs := t.regs, can := t.can } ∧ (∀ k, k ≠ n.toNat → t.canCtl k = s.canCtl k) ∧ t.can = s.can))) ∧
    (∀ (n : BitVec 2),
     s.canUp n.toNat = true →
     s.canState n.toNat = 2 →
     s.fget (CAN_n_STAT_TEC n.toNat) < 128 →
     s.fget (CAN_n_STAT_REC n.toNat) + 8 < 128 →
     Yields (exec (.canError n .receiver) s) (fun t =>
       Regs s t [(CAN_n_EVT_PROTO_ERR n.toNat, 1), (CAN_n_ERRCNT_PROTO n.toNat, plusOne s (CAN_n_ERRCNT_PROTO n.toNat)), (CAN_n_STAT_REC n.toNat, s.fget (CAN_n_STAT_REC n.toNat) + 1)] ∧ t = { s with regs := t.regs, can := t.can } ∧ (∀ k, k ≠ n.toNat → t.canCtl k = s.canCtl k) ∧ t.can = s.can) ∧
     Yields (exec (.canError n .receiver8) s) (fun t =>
       Regs s t [(CAN_n_EVT_PROTO_ERR n.toNat, 1), (CAN_n_ERRCNT_PROTO n.toNat, plusOne s (CAN_n_ERRCNT_PROTO n.toNat)), (CAN_n_STAT_REC n.toNat, s.fget (CAN_n_STAT_REC n.toNat) + 8)] ∧ t = { s with regs := t.regs, can := t.can } ∧ (∀ k, k ≠ n.toNat → t.canCtl k = s.canCtl k) ∧ t.can = s.can)) ∧
    (∀ (n : BitVec 2) (k : BitVec 8) (m : BitVec 3) (a : Bool),
     s.canUp n.toNat = false →
     exec (.canRecover n k) s = .next { s with resp := .isolated, rdata := 0 } ∧
     exec (.canTxCancel n m) s = .next { s with resp := .isolated, rdata := 0 } ∧
     exec (.canFifoAck n a) s = .next { s with resp := .isolated, rdata := 0 }) ∧
    (∀ (n : BitVec 2),
     s.canState n.toNat ≠ 5 →
     exec (.canRecoveryDone n) s = .next s) ∧
    (∀ (n : BitVec 2) (m : BitVec 3),
     s.canUp n.toNat = true →
     exec (.canTxCancel n m) s = .next { (([0, 1, 2].filter (fun b => m.getLsbD b)).foldl (fun x b => x.canCancel n.toNat b) s) with resp := .okay, rdata := 0 }) ∧
    (∀ (n : BitVec 2) (b : Nat),
     s.canUp n.toNat = true →
     b < 3 →
     s.canSt n.toNat b ≠ 1 →
     s.canSt n.toNat b ≠ 2 →
     s.canSt n.toNat b ≠ 4 →
     exec (.canTxCancel n (BitVec.twoPow 3 b)) s = .next { s with resp := .okay, rdata := 0 }) ∧
    (∀ (n : BitVec 2),
     s.canUp n.toNat = true →
     s.fget (CAN_n_FIFOSTAT_FILL n.toNat) ≠ 0 →
     exec (.canFifoAck n false) s = .next { s with resp := .okay, rdata := 0 })

/-- A Drove channel (chapter 15). At its cycle start an ACTIVE node counts CYC, moves its start by k times the cycle and counts a cycle without a
reference; at REF_MISS it goes to LISTEN with SYNC_LOST (R395, R398, R400). A ranked ACTIVE node sends REF unless a lower rank's was used, and the first
reference makes its sender the bellwether (R397 to R399). A node in LISTEN takes the first REF or COLD frame as a reference (R400); with its time out it
goes to COLDSTART and sends COLD with CYC 0 where the crook allows it (R401, R403). A transmission outside the crook's windows is blocked; it counts, ends an
ACTIVE node's in PASSIVE, the fourth within 16 cycles in SILENT (R403). PASSIVE and RESUME need key 0x3D (R400). -/
def Obligations.DroveCyclesAndReferences : Prop :=
  ∀ (s : State),
    (∀ (ch : Bool) (u : DrvRef),
     s.drvUp = true →
     s.drvState (bitNat ch) = 4 →
     (s.drvCh (bitNat ch)).used = some u →
     (s.drvCh (bitNat ch)).passiveNext = false →
     s.fget (DRV_n_STAT_MISSCNT (bitNat ch)) < s.drvRefMiss (bitNat ch) →
     Yields (exec (.droveCycleStart ch) s) (fun t =>
       Regs s t [(DRV_n_CYC_CYC (bitNat ch), (s.fget (DRV_n_CYC_CYC (bitNat ch)) + 1) % 65536)] ∧ t = { s with regs := t.regs, drv := t.drv } ∧ (∀ k, k ≠ (bitNat ch) → t.drvCh k = s.drvCh k) ∧ (t.drvCh (bitNat ch)).c = (s.drvCh (bitNat ch)).c + s.drvScale (bitNat ch) (s.drvCycle (bitNat ch)) ∧ (t.drvCh (bitNat ch)).used = none ∧
       (t.drvCh (bitNat ch)).heardPrev = (s.drvCh (bitNat ch)).heard ∧ (t.drvCh (bitNat ch)).heard = 0 ∧ (t.drvCh (bitNat ch)).total = (s.drvCh (bitNat ch)).total + 1)) ∧
    (∀ (ch : Bool),
     s.drvUp = true →
     s.drvState (bitNat ch) = 4 →
     (s.drvCh (bitNat ch)).used = none →
     (s.drvCh (bitNat ch)).passiveNext = false →
     s.fget (DRV_n_STAT_MISSCNT (bitNat ch)) < 15 →
     Yields (exec (.droveCycleStart ch) s) (fun t =>
       t = { s with regs := t.regs, drv := t.drv } ∧ (∀ k, k ≠ (bitNat ch) → t.drvCh k = s.drvCh k) ∧
       (s.fget (DRV_n_STAT_MISSCNT (bitNat ch)) + 1 < s.drvRefMiss (bitNat ch) →
         Regs s t [(DRV_n_CYC_CYC (bitNat ch), (s.fget (DRV_n_CYC_CYC (bitNat ch)) + 1) % 65536), (DRV_n_STAT_MISSCNT (bitNat ch), plusOne s (DRV_n_STAT_MISSCNT (bitNat ch))), (DRV_n_STAT_BELLWETHER (bitNat ch), 0)]) ∧
       (s.drvRefMiss (bitNat ch) ≤ s.fget (DRV_n_STAT_MISSCNT (bitNat ch)) + 1 →
         Regs s t [(DRV_n_CYC_CYC (bitNat ch), (s.fget (DRV_n_CYC_CYC (bitNat ch)) + 1) % 65536), (DRV_n_STAT_MISSCNT (bitNat ch), 0), (DRV_n_STAT_BELLWETHER (bitNat ch), 0), (DRV_n_STAT_STATE (bitNat ch), 1), (DRV_EVT_SYNC_LOST (bitNat ch), 1),
           (REC_CNT_c_VAL 16, plusOne s (REC_CNT_c_VAL 16))]))) ∧
    (∀ (ch : Bool),
     s.drvLive (bitNat ch) = true →
     s.drvState (bitNat ch) = 4 →
     s.drvRank (bitNat ch) < 4 →
     s.drvNode (bitNat ch) < 32 →
     (s.drvCh (bitNat ch)).used = none →
     s.crookOpen (bitNat ch) (s.drvRank (bitNat ch) * s.drvRstep (bitNat ch)) (s.refStart (bitNat ch) (s.drvRank (bitNat ch))) = true →
     Yields (exec (.droveRefSend ch) s) (fun t =>
       Regs s t ([(DRV_n_STAT_REF_RANK (bitNat ch), s.drvRank (bitNat ch)), (DRV_n_STAT_BELLWETHER (bitNat ch), 1), (DRV_n_CYC_BW_NODE (bitNat ch), s.drvNode (bitNat ch)), (DRV_n_MEMB_MEMB (bitNat ch), s.drvMemb (bitNat ch)), (DRV_n_STAT_MISSCNT (bitNat ch), 0), (DRV_n_CORR_D (bitNat ch), 0)] ++
         (if s.drvRank (bitNat ch) = s.fget (DRV_n_STAT_REF_RANK (bitNat ch)) then [] else [(DRV_EVT_BW_CHANGE (bitNat ch), 1)])) ∧
       t = { s with regs := t.regs, drv := t.drv, cyc := { s.cyc with rx := t.cyc.rx } } ∧
       (∀ k, k ≠ (bitNat ch) → t.drvCh k = s.drvCh k) ∧
       (t.drvCh (bitNat ch)).tx = s.drvFrame (bitNat ch) 1 (s.drvRank (bitNat ch)) 0 false (leBytes 4 (s.drvMemb (bitNat ch))) ∧
       (t.drvCh (bitNat ch)).base = none ∧ (t.drvCh (bitNat ch)).used = some { start := (s.drvCh (bitNat ch)).c, cyc := s.fget (DRV_n_CYC_CYC (bitNat ch)), rank := s.drvRank (bitNat ch) })) ∧
    (∀ (ch : Bool) (u : DrvRef),
     s.drvLive (bitNat ch) = true →
     s.drvState (bitNat ch) = 4 →
     s.drvRank (bitNat ch) ≠ 0xFF →
     (s.drvCh (bitNat ch)).used = some u →
     (u.rank < s.drvRank (bitNat ch) → exec (.droveRefSend ch) s = .next s) ∧
     (s.drvRank (bitNat ch) ≤ u.rank → s.crookOpen (bitNat ch) (s.drvRank (bitNat ch) * s.drvRstep (bitNat ch)) (s.refStart (bitNat ch) (s.drvRank (bitNat ch))) = true → Yields (exec (.droveRefSend ch) s) (fun t =>
       Regs s t [] ∧ t = { s with regs := t.regs, drv := t.drv } ∧ (∀ k, k ≠ (bitNat ch) → t.drvCh k = s.drvCh k) ∧ (t.drvCh (bitNat ch)).tx = s.drvFrame (bitNat ch) 1 (s.drvRank (bitNat ch)) 0 false (leBytes 4 (s.drvMemb (bitNat ch))) ∧ (t.drvCh (bitNat ch)).used = some u))) ∧
    (∀ (ch : Bool),
     s.drvLive (bitNat ch) = true →
     s.drvState (bitNat ch) = 4 →
     s.drvRank (bitNat ch) ≠ 0xFF →
     (s.drvCh (bitNat ch)).used.all (fun u => s.drvRank (bitNat ch) ≤ u.rank) = true →
     s.crookOpen (bitNat ch) (s.drvRank (bitNat ch) * s.drvRstep (bitNat ch)) (s.refStart (bitNat ch) (s.drvRank (bitNat ch))) = false →
     exec (.droveRefSend ch) s = .next (s.drvBlock (bitNat ch))) ∧
    (∀ (ch : Bool),
     s.drvLive (bitNat ch) = true →
     s.drvState (bitNat ch) = 2 →
     (s.drvCh (bitNat ch)).coldWin = true →
     Yields (exec (.droveColdSend ch) s) (fun t =>
       Regs s t [] ∧ t = { s with regs := t.regs, drv := t.drv } ∧ (∀ k, k ≠ (bitNat ch) → t.drvCh k = s.drvCh k) ∧ (t.drvCh (bitNat ch)).tx = s.drvFrame (bitNat ch) 3 (s.drvRank (bitNat ch)) 0 false (leBytes 4 (s.drvMemb (bitNat ch))) ∧ (t.drvCh (bitNat ch)).coldWin = false)) ∧
    (∀ (ch : Bool),
     s.drvLive (bitNat ch) = true →
     s.drvState (bitNat ch) = 2 →
     (s.drvCh (bitNat ch)).coldWin = false →
     (s.drvCh (bitNat ch)).marks = [] →
     (s.drvCh (bitNat ch)).blocks = [] →
     s.drvRank (bitNat ch) ≠ 0 →
     Yields (exec (.droveColdSend ch) s) (fun t =>
       Regs s t [(DRV_n_CROOK_BLOCKS (bitNat ch), plusOne s (DRV_n_CROOK_BLOCKS (bitNat ch))), (DRV_EVT_CROOK_BLOCK (bitNat ch), 1), (DRV_EVT_COLLISION (bitNat ch), 1), (DRV_n_CROOK_COLL (bitNat ch), plusOne s (DRV_n_CROOK_COLL (bitNat ch))), (DRV_n_STAT_STATE (bitNat ch), 3)] ∧ t = { s with regs := t.regs, drv := t.drv } ∧ (∀ k, k ≠ (bitNat ch) → t.drvCh k = s.drvCh k) ∧
       (t.drvCh (bitNat ch)).tx = (s.drvCh (bitNat ch)).tx ∧ (t.drvCh (bitNat ch)).backoff = 2 * s.drvRank (bitNat ch))) ∧
    (∀ (ch : Bool) (f : DroveFrame),
     s.drvUp = true →
     f.coding = false →
     s.drvCrcOk (bitNat ch) f = true →
     frSlot f = 0 →
     frLen f = 4 →
     s.drvState (bitNat ch) = 1 →
     (s.drvCh (bitNat ch)).first = none →
     (frKind f = 1 → Yields (exec (.droveRefReceived ch f) s) (fun t =>
       Regs s t ([(DRV_n_STAT_REF_RANK (bitNat ch), frRank f), (DRV_n_STAT_BELLWETHER (bitNat ch), 0), (DRV_n_CYC_BW_NODE (bitNat ch), frNode f % 32), (DRV_n_MEMB_MEMB (bitNat ch), ofLe (frPayload f)), (DRV_n_STAT_MISSCNT (bitNat ch), 0)] ++
         (if frRank f = s.fget (DRV_n_STAT_REF_RANK (bitNat ch)) then [] else [(DRV_EVT_BW_CHANGE (bitNat ch), 1)])) ∧
       t = { s with regs := t.regs, drv := t.drv, cyc := { s.cyc with rx := t.cyc.rx } } ∧
       (∀ k, k ≠ (bitNat ch) → t.drvCh k = s.drvCh k) ∧
       (t.drvCh (bitNat ch)).first = some { start := (f.start : Int) - s.drvScale (bitNat ch) (frRank f * s.drvRstep (bitNat ch)), cyc := frCyc f, rank := frRank f } ∧
       (t.drvCh (bitNat ch)).used = (t.drvCh (bitNat ch)).first)) ∧
     (frKind f = 3 → Yields (exec (.droveColdReceived ch f) s) (fun t =>
       Regs s t ([(DRV_n_STAT_REF_RANK (bitNat ch), frRank f), (DRV_n_STAT_BELLWETHER (bitNat ch), 0), (DRV_n_CYC_BW_NODE (bitNat ch), frNode f % 32), (DRV_n_MEMB_MEMB (bitNat ch), ofLe (frPayload f)), (DRV_n_STAT_MISSCNT (bitNat ch), 0)] ++
         (if frRank f = s.fget (DRV_n_STAT_REF_RANK (bitNat ch)) then [] else [(DRV_EVT_BW_CHANGE (bitNat ch), 1)])) ∧
       t = { s with regs := t.regs, drv := t.drv, cyc := { s.cyc with rx := t.cyc.rx } } ∧
       (∀ k, k ≠ (bitNat ch) → t.drvCh k = s.drvCh k) ∧
       (t.drvCh (bitNat ch)).first = some { start := (f.start : Int) - s.drvScale (bitNat ch) (frRank f * s.drvRstep (bitNat ch)), cyc := frCyc f, rank := frRank f } ∧
       (t.drvCh (bitNat ch)).used = (t.drvCh (bitNat ch)).first))) ∧
    (∀ (ch : Bool) (f : DroveFrame),
     s.drvUp = true →
     frKind f = 1 →
     f.coding = false →
     s.drvCrcOk (bitNat ch) f = false →
     s.drvState (bitNat ch) = 1 →
     Yields (exec (.droveRefReceived ch f) s) (fun t =>
       Regs s t [(DRV_n_FRAMEERR_CRC (bitNat ch), plusOne s (DRV_n_FRAMEERR_CRC (bitNat ch))), (DRV_n_LASTERR_SLOT (bitNat ch), 0), (DRV_n_LASTERR_CYC (bitNat ch), s.fget (DRV_n_CYC_CYC (bitNat ch)) % 256), (DRV_n_LASTERR_CHECK (bitNat ch), 5)] ∧ t = { s with regs := t.regs, drv := t.drv } ∧ (∀ k, k ≠ (bitNat ch) → t.drvCh k = s.drvCh k))) ∧
    (∀ (ch : Bool),
     s.drvLive (bitNat ch) = true →
     s.drvState (bitNat ch) = 1 →
     s.drvRank (bitNat ch) ≠ 0xFF →
     (s.drvCh (bitNat ch)).coldWin = true →
     Yields (exec (.droveListenTimeout ch) s) (fun t =>
       Regs s t [(DRV_n_STAT_STATE (bitNat ch), 2), (DRV_EVT_COLDSTART (bitNat ch), 1), (DRV_n_CYC_CYC (bitNat ch), 0)] ∧ t = { s with regs := t.regs, drv := t.drv } ∧ (∀ k, k ≠ (bitNat ch) → t.drvCh k = s.drvCh k) ∧
       (t.drvCh (bitNat ch)).c = (s.drvNow : Int) - 8 * (s.drvRank (bitNat ch) * s.drvRstep (bitNat ch) : Nat) ∧
       (t.drvCh (bitNat ch)).tx = t.drvFrame (bitNat ch) 3 (s.drvRank (bitNat ch)) 0 false (leBytes 4 (1#32 <<< s.drvNode (bitNat ch)).toNat))) ∧
    (∀ (ch : Bool),
     s.drvLive (bitNat ch) = true →
     s.drvState (bitNat ch) = 4 →
     Yields (exec (.droveReadbackMismatch ch) s) (fun t =>
       Regs s t [(DRV_n_STAT_STATE (bitNat ch), 5), (DRV_n_STAT_PASSIVE_WHY (bitNat ch), 2), (DRV_EVT_PASSIVE (bitNat ch), 1)] ∧ t = { s with regs := t.regs, drv := t.drv } ∧ (∀ k, k ≠ (bitNat ch) → t.drvCh k = s.drvCh k))) ∧
    (∀ (ch : Bool),
     s.drvLive (bitNat ch) = true →
     s.drvState (bitNat ch) = 4 →
     Yields (exec (.crookBlock ch) s) (fun t =>
       Regs s t ([(DRV_n_CROOK_BLOCKS (bitNat ch), plusOne s (DRV_n_CROOK_BLOCKS (bitNat ch))), (DRV_EVT_CROOK_BLOCK (bitNat ch), 1), (DRV_n_STAT_PASSIVE_WHY (bitNat ch), 3), (DRV_EVT_PASSIVE (bitNat ch), 1)] ++
         (if ((s.drvCh (bitNat ch)).blocks.filter (fun b => (s.drvCh (bitNat ch)).total < b + 16)).length < 3 then [(DRV_n_STAT_STATE (bitNat ch), 5)]
          else [(DRV_n_STAT_STATE (bitNat ch), 6), (DRV_n_STAT_CROOK_LOCK (bitNat ch), 1)])) ∧ t = { s with regs := t.regs, drv := t.drv } ∧ (∀ k, k ≠ (bitNat ch) → t.drvCh k = s.drvCh k))) ∧
    (∀ (ch : Bool),
     s.drvLive (bitNat ch) = true →
     s.drvState (bitNat ch) = 1 →
     s.drvRank (bitNat ch) ≠ 0xFF →
     Yields (exec (.crookColdstartWindow ch) s) (fun t =>
       Regs s t [] ∧ t = { s with regs := t.regs, drv := t.drv } ∧ (∀ k, k ≠ (bitNat ch) → t.drvCh k = s.drvCh k) ∧ (t.drvCh (bitNat ch)) = { (s.drvCh (bitNat ch)) with coldWin := true, marks := [] })) ∧
    (∀ (ch : Bool),
     s.drvUp = true →
     Yields (exec (.drvCmdPassive 0x3D (BitVec.twoPow 2 (bitNat ch))) s) (fun t =>
       Regs s t [(DRV_n_STAT_HOLD (bitNat ch), 1)] ∧ t = { s with regs := t.regs, resp := t.resp, rdata := t.rdata, drv := t.drv } ∧ t.resp = .okay ∧ (t.drvCh (bitNat ch)).passiveNext = ((s.drvCh (bitNat ch)).passiveNext || s.drvState (bitNat ch) == 4)) ∧
     Yields (exec (.drvCmdResume 0x3D (BitVec.twoPow 2 (bitNat ch))) s) (fun t =>
       Regs s t [(DRV_n_STAT_HOLD (bitNat ch), 0)] ∧ t = { s with regs := t.regs, resp := t.resp, rdata := t.rdata, drv := t.drv } ∧ t.resp = .okay ∧ (t.drvCh (bitNat ch)).passiveNext = false)) ∧
    (∀ (k : BitVec 8) (m : BitVec 2),
     s.drvUp = true →
     k ≠ 0x3D →
     exec (.drvCmdPassive k m) s = refusedWith s ∧ exec (.drvCmdResume k m) s = refusedWith s) ∧
    (∀ (ch : Bool),
     s.drvUp = true →
     exec (.droveCycleStart ch) s = .next (s.drvCycleStart (bitNat ch))) ∧
    (∀ (ch : Bool) (f : DroveFrame),
     s.drvUp = false →
     exec (.droveCycleStart ch) s = .next s ∧ exec (.droveRefReceived ch f) s = .next s ∧ exec (.droveColdReceived ch f) s = .next s ∧ exec (.droveRefSend ch) s = .next s ∧ exec (.droveColdSend ch) s = .next s ∧ exec (.droveListenTimeout ch) s = .next s ∧ exec (.droveReadbackMismatch ch) s = .next s ∧ exec (.crookBlock ch) s = .next s ∧ exec (.crookColdstartWindow ch) s = .next s) ∧
    (∀ (ch : Bool),
     s.drvState (bitNat ch) = 0 ∨ s.drvState (bitNat ch) = 6 →
     exec (.droveRefSend ch) s = .next s ∧ exec (.droveColdSend ch) s = .next s ∧ exec (.droveListenTimeout ch) s = .next s ∧ exec (.droveReadbackMismatch ch) s = .next s ∧ exec (.crookBlock ch) s = .next s ∧ exec (.crookColdstartWindow ch) s = .next s) ∧
    (∀ (ch : Bool),
     s.drvState (bitNat ch) ≠ 4 →
     exec (.droveRefSend ch) s = .next s) ∧
    (∀ (ch : Bool),
     s.drvRank (bitNat ch) = 0xFF →
     exec (.droveRefSend ch) s = .next s ∧ exec (.droveListenTimeout ch) s = .next s ∧ exec (.crookColdstartWindow ch) s = .next s) ∧
    (∀ (ch : Bool),
     s.drvLive (bitNat ch) = true →
     s.drvState (bitNat ch) = 2 →
     (s.drvCh (bitNat ch)).coldWin = true ∨ (s.crookSync (bitNat ch) = true ∧ s.crookOpen (bitNat ch) (s.drvRank (bitNat ch) * s.drvRstep (bitNat ch)) (s.refStart (bitNat ch) (s.drvRank (bitNat ch))) = true) →
     Yields (exec (.droveColdSend ch) s) (fun t =>
       Regs s t [] ∧ t = { s with regs := t.regs, drv := t.drv } ∧ (∀ k, k ≠ (bitNat ch) → t.drvCh k = s.drvCh k) ∧ (t.drvCh (bitNat ch)).tx = s.drvFrame (bitNat ch) 3 (s.drvRank (bitNat ch)) 0 false (leBytes 4 (s.drvMemb (bitNat ch))) ∧ (t.drvCh (bitNat ch)).coldWin = false ∧ (t.drvCh (bitNat ch)).marks = ((s.drvCh (bitNat ch)).c :: (s.drvCh (bitNat ch)).marks).take 5)) ∧
    (∀ (ch : Bool),
     s.drvLive (bitNat ch) = true →
     s.drvState (bitNat ch) = 2 →
     (s.drvCh (bitNat ch)).coldWin = false →
     s.crookSync (bitNat ch) = false ∨ s.crookOpen (bitNat ch) (s.drvRank (bitNat ch) * s.drvRstep (bitNat ch)) (s.refStart (bitNat ch) (s.drvRank (bitNat ch))) = false →
     exec (.droveColdSend ch) s = .next (s.drvBlock (bitNat ch))) ∧
    (∀ (ch : Bool),
     s.drvState (bitNat ch) ≠ 2 →
     exec (.droveColdSend ch) s = .next s) ∧
    (∀ (ch : Bool) (f : DroveFrame),
     s.drvUp = true →
     exec (.droveRefReceived ch f) s = .next (s.drvRefIn (bitNat ch) 1 f) ∧ exec (.droveColdReceived ch f) s = .next (s.drvRefIn (bitNat ch) 3 f)) ∧
    (∀ (ch : Bool) (f : DroveFrame),
     s.drvUp = true →
     s.drvState (bitNat ch) = 4 →
     f.coding = false →
     s.drvCrcOk (bitNat ch) f = true →
     frSlot f = 0 →
     frLen f = 4 →
     frKind f = 1 →
     s.drvPlace (bitNat ch) f.start (s.refStart (bitNat ch) (frRank f)) 4 = 0 →
     (s.drvCh (bitNat ch)).used = none →
     Yields (exec (.droveRefReceived ch f) s) (fun t =>
       t.fget (DRV_n_STAT_REF_RANK (bitNat ch)) = frRank f ∧ t.fget (DRV_n_CYC_BW_NODE (bitNat ch)) = frNode f % 32 ∧
       t.fget (DRV_n_STAT_MISSCNT (bitNat ch)) = 0 ∧ t.fget (DRV_n_STAT_BELLWETHER (bitNat ch)) = 0 ∧ (t.drvCh (bitNat ch)).used = some { start := (f.start : Int) - s.drvScale (bitNat ch) (frRank f * s.drvRstep (bitNat ch)), cyc := frCyc f, rank := frRank f } ∧
       t.mem = s.mem ∧ t.flash = s.flash ∧ t.pending = s.pending ∧ (∀ l, t.lane l = s.lane l))) ∧
    (∀ (ch : Bool) (f : DroveFrame),
     s.drvUp = true →
     s.drvState (bitNat ch) = 0 ∨ s.drvState (bitNat ch) = 6 ∨ (frKind f ≠ 1 ∧ frKind f ≠ 3) →
     exec (.droveRefReceived ch f) s = .next s ∧ exec (.droveColdReceived ch f) s = .next s) ∧
    (∀ (ch : Bool),
     s.drvLive (bitNat ch) = true →
     s.drvState (bitNat ch) = 1 →
     s.drvRank (bitNat ch) ≠ 0xFF →
     exec (.droveListenTimeout ch) s = .next (State.drvCold (((((s.drvTo (bitNat ch) 2).raise (DRV_EVT_COLDSTART (bitNat ch))).fset (DRV_n_CYC_CYC (bitNat ch)) 0).drvUpd (bitNat ch) (fun d => { d with
       c := (s.drvNow : Int) - 8 * (s.drvRank (bitNat ch) * s.drvRstep (bitNat ch) : Nat), meas := [], base := none, first := none, join := false, used := none
       heard := 0, heardPrev := 0 }))) (bitNat ch))) ∧
    (∀ (ch : Bool),
     s.drvState (bitNat ch) ≠ 1 →
     exec (.droveListenTimeout ch) s = .next s) ∧
    (∀ (ch : Bool),
     s.drvLive (bitNat ch) = true →
     s.drvState (bitNat ch) = 2 →
     s.drvRank (bitNat ch) ≠ 0 →
     Yields (exec (.droveReadbackMismatch ch) s) (fun t =>
       Regs s t [(DRV_n_STAT_STATE (bitNat ch), 3), (DRV_EVT_COLLISION (bitNat ch), 1), (DRV_n_CROOK_COLL (bitNat ch), plusOne s (DRV_n_CROOK_COLL (bitNat ch)))] ∧ t = { s with regs := t.regs, drv := t.drv } ∧ (∀ k, k ≠ (bitNat ch) → t.drvCh k = s.drvCh k) ∧ (t.drvCh (bitNat ch)).backoff = 2 * s.drvRank (bitNat ch))) ∧
    (∀ (ch : Bool),
     s.drvState (bitNat ch) ≠ 2 →
     s.drvState (bitNat ch) ≠ 4 →
     exec (.droveReadbackMismatch ch) s = .next s) ∧
    (∀ (ch : Bool),
     s.drvLive (bitNat ch) = true →
     exec (.crookBlock ch) s = .next (s.drvBlock (bitNat ch)) ∧
     (s.drvState (bitNat ch) ≠ 2 → s.drvState (bitNat ch) ≠ 4 → ((s.drvCh (bitNat ch)).blocks.filter (fun b => (s.drvCh (bitNat ch)).total < b + 16)).length < 3 → Yields (exec (.crookBlock ch) s) (fun t =>
       Regs s t [(DRV_n_CROOK_BLOCKS (bitNat ch), plusOne s (DRV_n_CROOK_BLOCKS (bitNat ch))), (DRV_EVT_CROOK_BLOCK (bitNat ch), 1)] ∧ t = { s with regs := t.regs, drv := t.drv } ∧ (∀ k, k ≠ (bitNat ch) → t.drvCh k = s.drvCh k))) ∧
     (s.drvState (bitNat ch) ≠ 2 → s.drvState (bitNat ch) ≠ 4 → 3 ≤ ((s.drvCh (bitNat ch)).blocks.filter (fun b => (s.drvCh (bitNat ch)).total < b + 16)).length → Yields (exec (.crookBlock ch) s) (fun t =>
       Regs s t [(DRV_n_CROOK_BLOCKS (bitNat ch), plusOne s (DRV_n_CROOK_BLOCKS (bitNat ch))), (DRV_EVT_CROOK_BLOCK (bitNat ch), 1), (DRV_n_STAT_STATE (bitNat ch), 6), (DRV_n_STAT_CROOK_LOCK (bitNat ch), 1)] ∧ t = { s with regs := t.regs, drv := t.drv } ∧ (∀ k, k ≠ (bitNat ch) → t.drvCh k = s.drvCh k)))) ∧
    (∀ (ch : Bool),
     s.drvLive (bitNat ch) = true →
     s.drvRank (bitNat ch) ≠ 0xFF →
     s.drvState (bitNat ch) ≠ 2 ∨ s.crookSync (bitNat ch) = false →
     Yields (exec (.crookColdstartWindow ch) s) (fun t =>
       Regs s t [] ∧ t = { s with regs := t.regs, drv := t.drv } ∧ (∀ k, k ≠ (bitNat ch) → t.drvCh k = s.drvCh k) ∧ (t.drvCh (bitNat ch)) = { (s.drvCh (bitNat ch)) with coldWin := true, marks := if s.drvState (bitNat ch) = 2 then (s.drvCh (bitNat ch)).marks else [] })) ∧
    (∀ (m : BitVec 2),
     s.drvUp = true →
     exec (.drvCmdPassive 0x3D m) s = .next (s.drvCmd m.toNat 0) ∧ exec (.drvCmdResume 0x3D m) s = .next (s.drvCmd 0 m.toNat) ∧
     Yields (exec (.drvCmdPassive 0x3D 3) s) (fun t =>
       Regs s t [(DRV_n_STAT_HOLD 0, 1), (DRV_n_STAT_HOLD 1, 1)] ∧ t = { s with regs := t.regs, resp := t.resp, rdata := t.rdata, drv := t.drv } ∧ t.resp = .okay) ∧
     Yields (exec (.drvCmdResume 0x3D 3) s) (fun t =>
       Regs s t [(DRV_n_STAT_HOLD 0, 0), (DRV_n_STAT_HOLD 1, 0)] ∧ t = { s with regs := t.regs, resp := t.resp, rdata := t.rdata, drv := t.drv } ∧ t.resp = .okay)) ∧
    (∀ (k : BitVec 8) (m : BitVec 2),
     s.drvUp = false →
     exec (.drvCmdPassive k m) s = .next { s with resp := .isolated, rdata := 0 } ∧ exec (.drvCmdResume k m) s = .next { s with resp := .isolated, rdata := 0 })

/-- Drove slots (R396, R404 to R406). The publish buffer of an own slot is copied with its qualification, zeros where it was never handed over, and sent
in a DATA frame by an ACTIVE or COLDSTART node; the crook, once synchronised, blocks one outside its window (R403). A DATA frame that passes the checks of R396 gives its payload to the slot's
window and clears the slot's age; one outside every window only counts as UNSCHED with LASTERR, one that starts early as EARLY. A COLDSTART
node that heard another node in the cycle before becomes ACTIVE with it (R400). -/
def Obligations.DroveSlots : Prop :=
  ∀ (s : State),
    (∀ (ch : Bool) (k : Nat) (bs : List Byte),
     s.drvLive (bitNat ch) = true →
     s.ownSlot (bitNat ch) k = true →
     k < 64 →
     s.pubRead (s.drvWin (bitNat ch) k) (s.slotLen (bitNat ch) k) = (s, some bs) →
     Yields (exec (.droveSlotBufferCopy ch k) s) (fun t =>
       Regs s t [] ∧ t = { s with regs := t.regs, drv := t.drv } ∧ (∀ k, k ≠ (bitNat ch) → t.drvCh k = s.drvCh k) ∧
       (t.drvCh (bitNat ch)) = { (s.drvCh (bitNat ch)) with
         slots := vecUpd (s.drvCh (bitNat ch)).slots k (fun y => { y with
           buf := if ((s.drvCh (bitNat ch)).slots.toList.getD k .reset).handed then bs else List.replicate (s.slotLen (bitNat ch) k) 0
           bufQ := ((s.drvCh (bitNat ch)).slots.toList.getD k .reset).handed && y.qual }) })) ∧
    (∀ (ch : Bool) (k : Nat),
     s.drvLive (bitNat ch) = true →
     s.ownSlot (bitNat ch) k = true →
     k < 64 →
     ((s.drvCh (bitNat ch)).slots.toList.getD k .reset).handed = false ∨ (s.pubRead (s.drvWin (bitNat ch) k) (s.slotLen (bitNat ch) k)).2 = none →
     Yields (exec (.droveSlotBufferCopy ch k) s) (fun t =>
       t.flash = s.flash ∧ t.pending = s.pending ∧ (∀ l, t.lane l = s.lane l) ∧ (∀ k, k ≠ (bitNat ch) → t.drvCh k = s.drvCh k) ∧
       (t.drvCh (bitNat ch)) = { (s.drvCh (bitNat ch)) with
         slots := vecUpd (s.drvCh (bitNat ch)).slots k (fun y => { y with buf := List.replicate (s.slotLen (bitNat ch) k) 0, bufQ := false }) })) ∧
    (∀ (ch : Bool) (k : Nat),
     s.drvLive (bitNat ch) = false ∨ s.ownSlot (bitNat ch) k = false →
     exec (.droveSlotBufferCopy ch k) s = .next s ∧ exec (.droveSlotTransmit ch k) s = .next s) ∧
    (∀ (ch : Bool) (k : Nat),
     s.drvLive (bitNat ch) = true →
     s.ownSlot (bitNat ch) k = true →
     s.drvState (bitNat ch) = 4 ∨ s.drvState (bitNat ch) = 2 →
     s.crookOpen (bitNat ch) (s.slotOfs (bitNat ch) k) (s.slotStart (bitNat ch) k) = true →
     Yields (exec (.droveSlotTransmit ch k) s) (fun t =>
       Regs s t [] ∧ t = { s with regs := t.regs, drv := t.drv } ∧ (∀ k, k ≠ (bitNat ch) → t.drvCh k = s.drvCh k) ∧
       (t.drvCh (bitNat ch)) = { (s.drvCh (bitNat ch)) with tx := s.drvFrame (bitNat ch) 2 0 k ((s.drvCh (bitNat ch)).slots.toList.getD k .reset).bufQ (((s.drvCh (bitNat ch)).slots.toList.getD k .reset).buf.take (s.slotLen (bitNat ch) k) ++ List.replicate (s.slotLen (bitNat ch) k - ((s.drvCh (bitNat ch)).slots.toList.getD k .reset).buf.length) 0) })) ∧
    (∀ (ch : Bool) (k : Nat),
     s.drvLive (bitNat ch) = true →
     s.ownSlot (bitNat ch) k = true →
     s.drvState (bitNat ch) = 4 ∨ s.drvState (bitNat ch) = 2 →
     s.crookOpen (bitNat ch) (s.slotOfs (bitNat ch) k) (s.slotStart (bitNat ch) k) = true →
     ((s.drvCh (bitNat ch)).slots.toList.getD k .reset).buf.length = s.slotLen (bitNat ch) k →
     Yields (exec (.droveSlotTransmit ch k) s) (fun t =>
       Regs s t [] ∧ t = { s with regs := t.regs, drv := t.drv } ∧ (∀ k, k ≠ (bitNat ch) → t.drvCh k = s.drvCh k) ∧
       (t.drvCh (bitNat ch)) = { (s.drvCh (bitNat ch)) with tx := s.drvFrame (bitNat ch) 2 0 k ((s.drvCh (bitNat ch)).slots.toList.getD k .reset).bufQ ((s.drvCh (bitNat ch)).slots.toList.getD k .reset).buf })) ∧
    (∀ (ch : Bool) (k : Nat),
     s.drvLive (bitNat ch) = true →
     s.ownSlot (bitNat ch) k = true →
     s.drvState (bitNat ch) = 4 ∨ s.drvState (bitNat ch) = 2 →
     s.crookOpen (bitNat ch) (s.slotOfs (bitNat ch) k) (s.slotStart (bitNat ch) k) = false →
     exec (.droveSlotTransmit ch k) s = .next (s.drvBlock (bitNat ch))) ∧
    (∀ (ch : Bool) (k : Nat),
     s.drvState (bitNat ch) = 5 →
     exec (.droveSlotTransmit ch k) s = .next s) ∧
    (∀ (ch : Bool) (f : DroveFrame),
     s.drvUp = true →
     exec (.droveDataFrameReceived ch f) s = .next (s.drvData (bitNat ch) f)) ∧
    (∀ (ch : Bool) (f : DroveFrame),
     s.drvUp = false ∨ (s.drvState (bitNat ch) ≠ 2 ∧ s.drvState (bitNat ch) ≠ 4 ∧ s.drvState (bitNat ch) ≠ 5) →
     exec (.droveDataFrameReceived ch f) s = .next s) ∧
    (∀ (ch : Bool) (k : Nat) (f : DroveFrame),
     s.drvUp = true →
     s.drvState (bitNat ch) = 4 →
     s.drvFind (bitNat ch) f.start = some (k, 0) →
     k < 64 →
     f.coding = false →
     s.drvCrcOk (bitNat ch) f = true →
     frKind f = 2 →
     frSlot f = k →
     frNode f = s.slotOwner (bitNat ch) k →
     frLen f = s.slotLen (bitNat ch) k →
     frCyc f = s.fget (DRV_n_CYC_CYC (bitNat ch)) →
     s.ownSlot (bitNat ch) k = false →
     Yields (exec (.droveDataFrameReceived ch f) s) (fun t =>
       Regs s t [] ∧ t = { s with regs := t.regs, drv := t.drv, cyc := { s.cyc with rx := t.cyc.rx } } ∧
       (∀ k, k ≠ (bitNat ch) → t.drvCh k = s.drvCh k) ∧
       (s.drvWin (bitNat ch) k, frPayload f) ∈ t.cyc.rx ∧
       (t.drvCh (bitNat ch)) = { (s.drvCh (bitNat ch)) with
         heard := (s.drvCh (bitNat ch)).heard ||| (1#32 <<< frNode f)
         slots := vecUpd (s.drvCh (bitNat ch)).slots k (fun x => { x with
           age := 0, any := true, qg := bitOf (leAt f.bytes 0 1) 6, cyc := frCyc f, us := f.start * 25 / 2 / 1000 }) })) ∧
    (∀ (ch : Bool) (k : Nat) (f : DroveFrame),
     s.drvUp = true →
     s.drvState (bitNat ch) = 2 →
     s.drvFind (bitNat ch) f.start = some (k, 0) →
     k < 64 →
     f.coding = false →
     s.drvCrcOk (bitNat ch) f = true →
     frKind f = 2 →
     frSlot f = k →
     frNode f = s.slotOwner (bitNat ch) k →
     frLen f = s.slotLen (bitNat ch) k →
     frCyc f = s.fget (DRV_n_CYC_CYC (bitNat ch)) →
     s.ownSlot (bitNat ch) k = false →
     Yields (exec (.droveDataFrameReceived ch f) s) (fun t =>
       t = { s with regs := t.regs, drv := t.drv, cyc := { s.cyc with rx := t.cyc.rx } } ∧
       (∀ k, k ≠ (bitNat ch) → t.drvCh k = s.drvCh k) ∧
       (s.drvWin (bitNat ch) k, frPayload f) ∈ t.cyc.rx ∧
       ((s.drvCh (bitNat ch)).heardPrev = 0 → Regs s t []) ∧
       ((s.drvCh (bitNat ch)).heardPrev ≠ 0 → s.flag (DRV_n_STAT_HOLD (bitNat ch)) = false →
         Regs s t [(DRV_n_STAT_STATE (bitNat ch), 4), (DRV_n_STAT_PASSIVE_WHY (bitNat ch), 0), (DRV_EVT_JOINED (bitNat ch), 1)] ∧ (t.drvCh (bitNat ch)).used.isSome = true))) ∧
    (∀ (ch : Bool) (f : DroveFrame),
     s.drvUp = true →
     s.drvState (bitNat ch) = 4 →
     s.drvFind (bitNat ch) f.start = none →
     Yields (exec (.droveDataFrameReceived ch f) s) (fun t =>
       Regs s t [(DRV_n_TIMEERR_UNSCHED (bitNat ch), plusOne s (DRV_n_TIMEERR_UNSCHED (bitNat ch))), (DRV_n_LASTERR_SLOT (bitNat ch), frSlot f % 64), (DRV_n_LASTERR_CYC (bitNat ch), s.fget (DRV_n_CYC_CYC (bitNat ch)) % 256), (DRV_n_LASTERR_CHECK (bitNat ch), 3)] ∧ t = { s with regs := t.regs, drv := t.drv } ∧ (∀ k, k ≠ (bitNat ch) → t.drvCh k = s.drvCh k) ∧ t.drv = s.drv)) ∧
    (∀ (ch : Bool) (k : Nat) (f : DroveFrame),
     s.drvUp = true →
     s.drvState (bitNat ch) = 4 →
     s.drvFind (bitNat ch) f.start = some (k, 1) →
     k < 64 →
     Yields (exec (.droveDataFrameReceived ch f) s) (fun t =>
       Regs s t [(DRV_n_TIMEERR_EARLY (bitNat ch), plusOne s (DRV_n_TIMEERR_EARLY (bitNat ch))), (DRV_n_LASTERR_SLOT (bitNat ch), k), (DRV_n_LASTERR_CYC (bitNat ch), s.fget (DRV_n_CYC_CYC (bitNat ch)) % 256), (DRV_n_LASTERR_CHECK (bitNat ch), 1)] ∧ t = { s with regs := t.regs, drv := t.drv } ∧ (∀ k, k ≠ (bitNat ch) → t.drvCh k = s.drvCh k) ∧ t.drv = s.drv))

/-- The Fold link bridge as controller (chapter 16). A frame that is not its own goes on with HOP incremented and its CRC recomputed, a bad CRC
as the complement; one that arrives with HOP 18 or more does not (R413). The response of a pending read goes to its requester; a read
without one ends in TIMEOUT with its tag in quarantine, where a late response only counts (R422). A WACK returns the credits up to its SEQ;
a WERR or a missing acknowledge makes a late error: LATE, DEGRADED, LATE_ERR and the log entry (R423, R424), which LELPOP removes. A free
enabled semaphore is acquired by the reader's class, released by its holder's write and on expiry (R429). -/
def Obligations.FoldTransfers : Prop :=
  ∀ (s : State),
    (s.flkUp = true →
     Yields (exec (.foldRingSyncLoss) s) (fun t =>
       Regs s t [(FLK_STAT_RING_UP, 0), (FLK_EVT_RING_DOWN, 1)] ∧ t = { s with regs := t.regs, flk := t.flk }) ∧
     Yields (exec (.foldRingSyncGain) s) (fun t =>
       Regs s t [(FLK_STAT_RING_UP, 1)] ∧ t = { s with regs := t.regs, flk := t.flk })) ∧
    (∀ (f : FoldFrame),
     s.unitDown 0x2D = false →
     s.fget SYS_PINSTAT_MODE ≠ 1 →
     s.fget FLK_STAT_FWD = 1 →
     s.foldMine f = false →
     foHop f < 18 →
     Yields (exec (.foldFrameForward f) s) (fun t =>
       Regs s t (if foCrcOk f then [] else [(FLK_EVT_CRC_ERR, 1)]) ∧
       t = { s with regs := t.regs, flk := { s.flk with sent := t.flk.sent } } ∧
       t.flk.sent.getLast? = some ((f.bytes.take 6 ++ leBytes 1 (foHop f + 1) ++ (f.bytes.drop 7).take (f.bytes.length - 11)) ++
         leBytes 4 (if foCrcOk f then crc32c (f.bytes.take 6 ++ leBytes 1 (foHop f + 1) ++ (f.bytes.drop 7).take (f.bytes.length - 11)) else 0xFFFFFFFF - crc32c (f.bytes.take 6 ++ leBytes 1 (foHop f + 1) ++ (f.bytes.drop 7).take (f.bytes.length - 11)))))) ∧
    (∀ (f : FoldFrame),
     foCrcOk f = true →
     s.fget SYS_PINSTAT_MODE ≠ 1 →
     18 ≤ foHop f ∨ s.foldMine f = true →
     exec (.foldFrameForward f) s = .next s) ∧
    (∀ (k : Nat) (tag : BitVec 8),
     k < 16 →
     (s.fst k).quar.contains tag.toNat = true →
     s.flk.waitTag = [] →
     noFetch s = true →
     Yields (exec (.foldTagFreed (BitVec.ofNat 4 k) tag) s) (fun t =>
       Regs s t [] ∧ t = { s with regs := t.regs, flk := t.flk } ∧ (t.fst k).quar = (s.fst k).quar.erase tag.toNat ∧ (∀ j, j ≠ k → t.fst j = s.fst j))) ∧
    (∀ (f : FoldFrame) (i : HubItem),
     s.flkUp = true →
     foCrcOk f = true →
     foKind f = 3 →
     foCtrl f = s.fget FLK_CFG_CTRL →
     (foBody f).length = 10 →
     s.foldPending (foSt f) (foTs f % 256) = some i →
     s.flk.waitTag = [] →
     i.named = true →
     i.kind ≠ 9 →
     noFetch s = true →
     leAt (foBody f) 0 1 % 8 = 0 →
     Yields (exec (.foldRspReceived f) s) (fun t =>
       Regs s t [] ∧ t = { s with regs := t.regs, resp := t.resp, rdata := t.rdata, rtag := t.rtag, reff := t.reff, flk := t.flk } ∧ t.resp = .okay ∧
       t.rtag = i.req.tag ∧ t.reff = bitOf (leAt (foBody f) 0 1) 3 ∧
       t.rdata.toNat = leAt (foBody f) 2 8 / 2 ^ (8 * i.ofs) % 2 ^ (8 * i.len) ∧
       t.flk = { s.flk with reads := s.flk.reads.filter (fun r => ¬(r.1 = foSt f ∧ r.2.1 = (foTs f % 256))) })) ∧
    (∀ (f : FoldFrame),
     s.flkUp = true →
     foCrcOk f = true →
     foKind f = 3 →
     foCtrl f = s.fget FLK_CFG_CTRL →
     (foBody f).length = 10 →
     s.foldPending (foSt f) (foTs f % 256) = none →
     (s.fst (foSt f)).quar.contains (foTs f % 256) = true →
     s.flk.waitTag = [] →
     noFetch s = true →
     Yields (exec (.foldRspReceived f) s) (fun t =>
       Regs s t [(FLK_STAT_LATE_RSP, plusOne s FLK_STAT_LATE_RSP)] ∧ t = { s with regs := t.regs, flk := t.flk } ∧ (t.fst (foSt f)).quar = (s.fst (foSt f)).quar.erase (foTs f % 256))) ∧
    (∀ (k : Nat) (tag : BitVec 8) (i : HubItem),
     k < 16 →
     s.foldPending k tag.toNat = some i →
     i.named = true →
     i.kind ≠ 9 →
     noFetch s = true →
     Yields (exec (.foldReadTimeout (BitVec.ofNat 4 k) tag) s) (fun t =>
       Regs s t [] ∧ t = { s with regs := t.regs, resp := t.resp, rdata := t.rdata, rtag := t.rtag, reff := t.reff, flk := t.flk } ∧ t.resp = .timeout ∧ t.rdata = 0 ∧ t.rtag = i.req.tag ∧
       t.flk.reads = s.flk.reads.filter (fun r => ¬(r.1 = k ∧ r.2.1 = tag.toNat)) ∧
       (t.fst k).quar = (s.fst k).quar ++ [tag.toNat] ∧ (∀ j, j ≠ k → t.fst j = s.fst j))) ∧
    (∀ (f : FoldFrame),
     s.flkUp = true →
     foCrcOk f = true →
     foKind f = 4 →
     foCtrl f = s.fget FLK_CFG_CTRL →
     (foBody f).length = 0 →
     Yields (exec (.foldWackReceived f) s) (fun t =>
       Regs s t [] ∧ t = { s with regs := t.regs, flk := t.flk } ∧
       (t.fst (foSt f)).writes = (s.fst (foSt f)).writes.filter (fun w => 2 ^ 15 ≤ (foTs f + 65536 - w.1) % 65536) ∧
       (∀ j, j ≠ foSt f → t.fst j = s.fst j))) ∧
    (∀ (f : FoldFrame) (a : Nat),
     s.flkUp = true →
     foCrcOk f = true →
     foKind f = 5 →
     foCtrl f = s.fget FLK_CFG_CTRL →
     (foBody f).length = 4 →
     (s.fst (foSt f)).writes = [(foTs f, a)] →
     s.flk.log = [] →
     Yields (exec (.foldWerrReceived f) s) (fun t =>
       Regs s t [(FLK_ST_k_LATE (foSt f), plusOne s (FLK_ST_k_LATE (foSt f))), (FLK_ST_k_DEGRADED (foSt f), 1), (FLK_EVT_LATE_ERR, 1),
         (FLK_LELSTAT_FILL, 1), (FLK_LEL_A_SEQ, (foTs f)), (FLK_LEL_A_STATION, (foSt f)), (FLK_LEL_A_CODE, leAt (foBody f) 0 1 % 8),
         (FLK_LEL_B_CYC, s.cyc.count.toNat % 256), (FLK_LEL_B_ADDR, a % 2 ^ 24)] ∧ t = { s with regs := t.regs, flk := t.flk } ∧
       (t.fst (foSt f)).writes = ((s.fst (foSt f)).writes).erase ((foTs f), a) ∧ (∀ j, j ≠ (foSt f) → t.fst j = s.fst j))) ∧
    (∀ (k : Nat) (q : BitVec 16) (a : Nat),
     k < 16 →
     (s.fst k).writes = [(q.toNat, a)] →
     s.flk.log = [] →
     Yields (exec (.foldWriteAckTimeout (BitVec.ofNat 4 k) q) s) (fun t =>
       Regs s t [(FLK_ST_k_LATE k, plusOne s (FLK_ST_k_LATE k)), (FLK_ST_k_DEGRADED k, 1), (FLK_EVT_LATE_ERR, 1),
         (FLK_LELSTAT_FILL, 1), (FLK_LEL_A_SEQ, q.toNat), (FLK_LEL_A_STATION, k), (FLK_LEL_A_CODE, 4),
         (FLK_LEL_B_CYC, s.cyc.count.toNat % 256), (FLK_LEL_B_ADDR, a % 2 ^ 24)] ∧ t = { s with regs := t.regs, flk := t.flk } ∧
       (t.fst k).writes = ((s.fst k).writes).erase (q.toNat, a) ∧ (∀ j, j ≠ k → t.fst j = s.fst j))) ∧
    (∀ (e : LateErr),
     s.unitDown 0x2D = false →
     s.flk.log = [e] →
     Yields (exec (.flkLelpop true) s) (fun t =>
       Regs s t [(FLK_LELSTAT_FILL, 0), (⟨0x400B0024, 0, 32⟩, 0), (⟨0x400B0028, 0, 32⟩, 0)] ∧ t = { s with regs := t.regs, resp := t.resp, rdata := t.rdata, flk := t.flk } ∧ t.resp = .okay ∧
       t.flk = { s.flk with log := [] })) ∧
    (s.unitDown 0x2D = false →
     s.flk.log = [] →
     exec (.flkLelpop true) s = refusedWith s) ∧
    (∀ (m : BitVec 16),
     s.unitDown 0x2D = false →
     Yields (exec (.flkDegclr m) s) (fun t =>
       Regs s t (((List.range 16).filter (fun k => m.getLsbD k)).map (fun k => (FLK_ST_k_DEGRADED k, 0))) ∧
       t = { s with regs := t.regs, resp := t.resp, rdata := t.rdata, flk := t.flk } ∧ t.resp = .okay ∧ t.flk = s.flk)) ∧
    (∀ (n : BitVec 4) (w : Initiator),
     s.unitDown 0x2D = false →
     s.fget (FLK_SEMCFG_n_EN n.toNat) = 1 →
     semClass w ≠ 0 →
     s.fget (FLK_SEM_n_HELD n.toNat) = 0 →
     Yields (exec (.flkSemAcquire n w) s) (fun t =>
       Regs s t [(FLK_SEM_n_HELD n.toNat, 1), (FLK_SEM_n_HOLDER n.toNat, semClass w)] ∧ t = { s with regs := t.regs, resp := t.resp, rdata := t.rdata, flk := t.flk } ∧ t.flk = s.flk ∧
       t.resp = .okay ∧ t.rdata.toNat = semClass w * 2 ^ 30 + 1)) ∧
    (∀ (n : BitVec 4) (w : Initiator),
     s.unitDown 0x2D = false →
     s.fget (FLK_SEMCFG_n_EN n.toNat) = 0 ∨ (s.fget (FLK_SEM_n_HELD n.toNat) = 1 ∧ s.fget (FLK_SEM_n_HOLDER n.toNat) ≠ semClass w) →
     Yields (exec (.flkSemAcquire n w) s) (fun t =>
       Regs s t [] ∧ t = { s with regs := t.regs, resp := t.resp, rdata := t.rdata, flk := t.flk } ∧ t.flk = s.flk ∧ t.resp = .okay ∧ t.rdata.toNat = s.fget (FLK_SEM_n_HOLDER n.toNat) * 2 ^ 30)) ∧
    (∀ (n : BitVec 4) (w : Initiator),
     s.unitDown 0x2D = false →
     s.flk.waitSem = [] →
     noFetch s = true →
     ((s.fget (FLK_SEM_n_HELD n.toNat) = 1 ∧ s.fget (FLK_SEM_n_HOLDER n.toNat) = semClass w) →
     Yields (exec (.flkSemRelease n w) s) (fun t =>
       Regs s t [(FLK_SEM_n_HELD n.toNat, 0), (FLK_SEM_n_HOLDER n.toNat, 0)] ∧ t = { s with regs := t.regs, resp := t.resp, rdata := t.rdata, flk := t.flk } ∧ t.flk = s.flk ∧ t.resp = .okay)) ∧
     ((s.fget (FLK_SEM_n_HELD n.toNat) = 0 ∨ s.fget (FLK_SEM_n_HOLDER n.toNat) ≠ semClass w) →
       exec (.flkSemRelease n w) s = refusedWith s)) ∧
    (∀ (n : BitVec 4),
     s.fget (FLK_SEM_n_HELD n.toNat) = 1 →
     s.flk.waitSem = [] →
     noFetch s = true →
     Yields (exec (.flkSemExpiry n) s) (fun t =>
       Regs s t [(FLK_SEM_n_HELD n.toNat, 0), (FLK_SEM_n_HOLDER n.toNat, 0), (FLK_EVT_SEM_EXPIRED, 1)] ∧ t = { s with regs := t.regs, flk := t.flk } ∧ t.flk = s.flk)) ∧
    (s.flkUp = false →
     exec (.foldRingSyncLoss) s = .next s ∧ exec (.foldRingSyncGain) s = .next s ∧ exec (.foldSupTick) s = .next s ∧ exec (.foldScanTick) s = .next s ∧ exec (.foldEnumeration) s = .next s) ∧
    (∀ (f : FoldFrame),
     s.flkUp = false →
     exec (.foldRspReceived f) s = .next s ∧ exec (.foldWackReceived f) s = .next s ∧ exec (.foldWerrReceived f) s = .next s ∧ exec (.foldSupReturned f) s = .next s ∧ exec (.foldImginReceived f) s = .next s ∧ exec (.foldMsgReceived f) s = .next s ∧ exec (.foldEnumqReturned f) s = .next s ∧ exec (.foldLackReceived f) s = .next s) ∧
    (∀ (f : FoldFrame),
     s.flkUp = true →
     foCrcOk f = false →
     Yields (exec (.foldRspReceived f) s) (fun t =>
       Regs s t [(FLK_EVT_CRC_ERR, 1)] ∧ t = { s with regs := t.regs, flk := t.flk } ∧ t.flk = s.flk) ∧
     Yields (exec (.foldWackReceived f) s) (fun t =>
       Regs s t [(FLK_EVT_CRC_ERR, 1)] ∧ t = { s with regs := t.regs, flk := t.flk } ∧ t.flk = s.flk) ∧
     Yields (exec (.foldWerrReceived f) s) (fun t =>
       Regs s t [(FLK_EVT_CRC_ERR, 1)] ∧ t = { s with regs := t.regs, flk := t.flk } ∧ t.flk = s.flk) ∧
     Yields (exec (.foldSupReturned f) s) (fun t =>
       Regs s t [(FLK_EVT_CRC_ERR, 1)] ∧ t = { s with regs := t.regs, flk := t.flk } ∧ t.flk = s.flk) ∧
     Yields (exec (.foldImginReceived f) s) (fun t =>
       Regs s t [(FLK_EVT_CRC_ERR, 1)] ∧ t = { s with regs := t.regs, flk := t.flk } ∧ t.flk = s.flk) ∧
     Yields (exec (.foldMsgReceived f) s) (fun t =>
       Regs s t [(FLK_EVT_CRC_ERR, 1)] ∧ t = { s with regs := t.regs, flk := t.flk } ∧ t.flk = s.flk) ∧
     Yields (exec (.foldEnumqReturned f) s) (fun t =>
       Regs s t [(FLK_EVT_CRC_ERR, 1)] ∧ t = { s with regs := t.regs, flk := t.flk } ∧ t.flk = s.flk) ∧
     Yields (exec (.foldLackReceived f) s) (fun t =>
       Regs s t [(FLK_EVT_CRC_ERR, 1)] ∧ t = { s with regs := t.regs, flk := t.flk } ∧ t.flk = s.flk)) ∧
    (∀ (f : FoldFrame),
     s.flkUp = true →
     foCrcOk f = true →
     foCtrl f ≠ s.fget FLK_CFG_CTRL →
     exec (.foldRspReceived f) s = .next s ∧ exec (.foldWackReceived f) s = .next s ∧ exec (.foldWerrReceived f) s = .next s ∧ exec (.foldSupReturned f) s = .next s ∧ exec (.foldImginReceived f) s = .next s ∧ exec (.foldMsgReceived f) s = .next s ∧ exec (.foldEnumqReturned f) s = .next s ∧ exec (.foldLackReceived f) s = .next s) ∧
    (∀ (f : FoldFrame),
     s.unitDown 0x2D = false →
     s.fget FLK_STAT_FWD = 1 →
     s.fget SYS_PINSTAT_MODE = 1 →
     (foCrcOk f = true → foOfController (foKind f) = true → (s.foldMine f = true ∨ 18 ≤ foHop f) → exec (.foldFrameForward f) s = .next (s.stnHear f)) ∧
     (foCrcOk f = true → foOfController (foKind f) = true → s.foldMine f = false → foHop f < 18 → exec (.foldFrameForward f) s = .next ((s.stnHear f).foldOut (foForward f))) ∧
     (foCrcOk f = true → foOfController (foKind f) = false → s.foldMine f = false → foHop f < 18 → exec (.foldFrameForward f) s = .next (s.foldOut (foForward f)))) ∧
    (∀ (f : FoldFrame),
     s.unitDown 0x2D = true ∨ s.fget FLK_STAT_FWD = 0 →
     exec (.foldFrameForward f) s = .next s) ∧
    (∀ (st : BitVec 4) (tag : BitVec 8),
     (s.fst st.toNat).quar.contains tag.toNat = true →
     exec (.foldTagFreed st tag) s = .next (State.fetchPump <| (s.fstUpd st.toNat (fun x => { x with quar := x.quar.erase tag.toNat })).tagFreed st.toNat)) ∧
    (∀ (st : BitVec 4) (tag : BitVec 8),
     (s.fst st.toNat).quar.contains tag.toNat = false →
     exec (.foldTagFreed st tag) s = .next s) ∧
    (∀ (f : FoldFrame) (i : HubItem),
     s.flkUp = true →
     foCrcOk f = true →
     foKind f = 3 →
     foCtrl f = s.fget FLK_CFG_CTRL →
     (foBody f).length = 10 →
     s.foldPending (foSt f) (foTs f % 256) = some i →
     exec (.foldRspReceived f) s = .next (State.fetchPump <| ((s.foldDone (foSt f) (foTs f % 256)).reply i (leAt (foBody f) 0 1 % 8) (bitOf (leAt (foBody f) 0 1) 3)
         (BitVec.ofNat 64 (leAt (foBody f) 2 8))).tagFreed (foSt f))) ∧
    (∀ (f : FoldFrame),
     s.flkUp = true →
     foCrcOk f = true →
     foKind f = 3 →
     foCtrl f = s.fget FLK_CFG_CTRL →
     (foBody f).length = 10 →
     s.foldPending (foSt f) (foTs f % 256) = none →
     (s.fst (foSt f)).quar.contains (foTs f % 256) = false →
     exec (.foldRspReceived f) s = .next s) ∧
    (∀ (st : BitVec 4) (tag : BitVec 8) (i : HubItem),
     s.foldPending st.toNat tag.toNat = some i →
     exec (.foldReadTimeout st tag) s = .next (State.fetchPump <| ((s.foldDone st.toNat tag.toNat).reply i Resp.timeout.code false 0).fstUpd st.toNat (fun x => { x with quar := x.quar ++ [tag.toNat] }))) ∧
    (∀ (st : BitVec 4) (tag : BitVec 8),
     s.foldPending st.toNat tag.toNat = none →
     exec (.foldReadTimeout st tag) s = .next s) ∧
    (∀ (f : FoldFrame) (w : Nat × Nat),
     s.flkUp = true →
     foCrcOk f = true →
     foKind f = 5 →
     foCtrl f = s.fget FLK_CFG_CTRL →
     (foBody f).length = 4 →
     (s.fst (foSt f)).writes.find? (fun w => w.1 = foTs f) = some w →
     exec (.foldWerrReceived f) s = .next ((s.fstUpd (foSt f) (fun x => { x with writes := x.writes.erase w })).lateErr (foSt f) (foTs f) (leAt (foBody f) 0 1 % 8) w.2)) ∧
    (∀ (f : FoldFrame),
     s.flkUp = true →
     foCrcOk f = true →
     foKind f = 5 →
     foCtrl f = s.fget FLK_CFG_CTRL →
     (foBody f).length = 4 →
     (s.fst (foSt f)).writes.find? (fun w => w.1 = foTs f) = none →
     exec (.foldWerrReceived f) s = .next s) ∧
    (∀ (st : BitVec 4) (q : BitVec 16) (w : Nat × Nat),
     (s.fst st.toNat).writes.find? (fun w => w.1 = q.toNat) = some w →
     exec (.foldWriteAckTimeout st q) s = .next ((s.fstUpd st.toNat (fun x => { x with writes := x.writes.erase w })).lateErr st.toNat q.toNat 4 w.2)) ∧
    (∀ (st : BitVec 4) (q : BitVec 16),
     (s.fst st.toNat).writes.find? (fun w => w.1 = q.toNat) = none →
     exec (.foldWriteAckTimeout st q) s = .next s) ∧
    (∀ (e d : LateErr) (l : List LateErr),
     s.unitDown 0x2D = false →
     s.flk.log = e :: d :: l →
     l.length < 31 →
     Yields (exec (.flkLelpop true) s) (fun t =>
       Regs s t [(FLK_LELSTAT_FILL, l.length + 1), (FLK_LEL_A_SEQ, d.seq % 2 ^ 16), (FLK_LEL_A_STATION, d.st % 2 ^ 4), (FLK_LEL_A_CODE, d.code % 2 ^ 3),
         (FLK_LEL_B_CYC, d.cyc % 2 ^ 8), (FLK_LEL_B_ADDR, d.addr % 2 ^ 24)] ∧ t = { s with regs := t.regs, resp := t.resp, rdata := t.rdata, flk := t.flk } ∧ t.resp = .okay ∧ t.flk = { s.flk with log := d :: l })) ∧
    (s.unitDown 0x2D = false →
     exec (.flkLelpop false) s = .next { s with resp := .okay, rdata := 0 }) ∧
    (∀ (b : Bool) (m : BitVec 16) (n : BitVec 4) (w : Initiator),
     s.unitDown 0x2D = true →
     exec (.flkLelpop b) s = .next { s with resp := .isolated, rdata := 0 } ∧
     exec (.flkDegclr m) s = .next { s with resp := .isolated, rdata := 0 } ∧
     exec (.flkSemAcquire n w) s = .next { s with resp := .isolated, rdata := 0 } ∧
     exec (.flkSemRelease n w) s = .next { s with resp := .isolated, rdata := 0 }) ∧
    (∀ (n : BitVec 4) (w : Initiator),
     s.unitDown 0x2D = false →
     s.fget (FLK_SEMCFG_n_EN n.toNat) = 1 →
     semClass w ≠ 0 →
     s.fget (FLK_SEM_n_HELD n.toNat) = 1 →
     s.fget (FLK_SEM_n_HOLDER n.toNat) = semClass w →
     Yields (exec (.flkSemAcquire n w) s) (fun t =>
       Regs s t [] ∧ t = { s with regs := t.regs, resp := t.resp, rdata := t.rdata, flk := t.flk } ∧ t.flk = s.flk ∧ t.resp = .okay ∧ t.rdata.toNat = semClass w * 2 ^ 30 + 1)) ∧
    (∀ (n : BitVec 4) (w : Initiator),
     s.unitDown 0x2D = false →
     semClass w = 0 →
     Yields (exec (.flkSemAcquire n w) s) (fun t =>
       Regs s t [] ∧ t = { s with regs := t.regs, resp := t.resp, rdata := t.rdata, flk := t.flk } ∧ t.flk = s.flk ∧ t.resp = .okay ∧ t.rdata.toNat = s.fget (FLK_SEM_n_HOLDER n.toNat) * 2 ^ 30)) ∧
    (∀ (n : BitVec 4) (w : Initiator),
     s.unitDown 0x2D = false →
     s.fget (FLK_SEM_n_HELD n.toNat) = 1 →
     s.fget (FLK_SEM_n_HOLDER n.toNat) = semClass w →
     exec (.flkSemRelease n w) s = .next (State.fetchPump { (s.semFree n.toNat) with resp := .okay, rdata := 0 })) ∧
    (∀ (n : BitVec 4) (w : Initiator),
     s.unitDown 0x2D = false →
     s.fget (FLK_SEM_n_HELD n.toNat) = 0 ∨ s.fget (FLK_SEM_n_HOLDER n.toNat) ≠ semClass w →
     exec (.flkSemRelease n w) s = .next (State.fetchPump { s with resp := .target, rdata := 0 })) ∧
    (∀ (n : BitVec 4),
     s.fget (FLK_SEM_n_HELD n.toNat) = 1 →
     exec (.flkSemExpiry n) s = .next (State.fetchPump ((s.semFree n.toNat).raise FLK_EVT_SEM_EXPIRED))) ∧
    (∀ (n : BitVec 4),
     s.fget (FLK_SEM_n_HELD n.toNat) = 0 →
     exec (.flkSemExpiry n) s = .next s)

/-- Stations of the Fold link (R416 to R428). A SUP tick counts a SUP that has not returned as a miss and sends the next one; a return that reports a loaded
station clears its misses (R420); LOSS_N misses lose the station (R421). An ENUMQ that returns with a UID gives it a number and the station
is to be loaded; UID 0 ends the enumeration (R417). A load sends the image in units of 256 bytes, then LSTART; LACK with CODE 0
puts the station in service, a second failure in FAULT (R418). An abort before LSTART stops the load, at or after it is ABORT_LATE; both load commands
need key 0x2F and a station that is enabled (R428). IMGIN gives the input words, MSG the event word (R425, R426). -/
def Obligations.FoldStations : Prop :=
  ∀ (s : State),
    (∀ (k : Nat),
     s.flkUp = true →
     s.foldStations = [k] →
     s.fstate k ≠ 1 ∧ s.fstate k ≠ 2 ∨ s.flk.supOut = false →
     Yields (exec (.foldSupTick) s) (fun t =>
       Regs s t [] ∧ t = { s with regs := t.regs, flk := t.flk } ∧ t.flk.supOut = true ∧
       (t.fst k).miss = (if s.flk.supOut then (s.fst k).miss + 1 else (s.fst k).miss) ∧ (∀ j, j ≠ k → t.fst j = s.fst j) ∧
       t.flk.sent.getLast? = some (foldBytes 10 (s.fget FLK_CFG_CTRL) 0 s.claimNow 0 0 (List.replicate 8 0)))) ∧
    (∀ (k : Nat),
     s.flkUp = true →
     s.foldStations = [k] →
     s.fstate k = 2 →
     s.flk.supOut = true →
     s.fget FLK_CFG_LOSS_N ≤ (s.fst k).miss + 1 →
     s.flk.load = none →
     Yields (exec (.foldSupTick) s) (fun t =>
       Regs s t [(FLK_ST_k_STATE k, 3), (⟨0x400B000C, 16 + k, 1⟩, 0), (FLK_ST_k_LOSSES k, plusOne s (FLK_ST_k_LOSSES k)), (FLK_EVT_STATION_LOST, 1),
         (REC_CNT_c_VAL 17, plusOne s (REC_CNT_c_VAL 17))] ∧ t = { s with regs := t.regs, flk := t.flk, pair := { s.pair with since := t.pair.since } } ∧ (t.fst k).lost = true ∧ (t.fst k).miss = 0)) ∧
    (∀ (f : FoldFrame) (k : Nat),
     s.flkUp = true →
     foCrcOk f = true →
     foKind f = 10 →
     foCtrl f = s.fget FLK_CFG_CTRL →
     (foBody f).length = 8 →
     s.foldStations = [k] →
     k < 16 →
     s.fstate k = 2 →
     leAt (foBody f) 4 1 = 0 →
     2 ≤ bitsOf (leAt (foBody f) 0 4) (2 * k) 2 →
     Yields (exec (.foldSupReturned f) s) (fun t =>
       Regs s t [(FLK_STAT_UNADDR, 0), (FLK_ST_k_SAFE k, if bitsOf (leAt (foBody f) 0 4) (2 * k) 2 = 3 then 1 else 0)] ∧ t = { s with regs := t.regs, flk := t.flk } ∧
       t.flk.supOut = false ∧ t.flk.enumDue = s.flk.enumDue ∧ (t.fst k).miss = 0)) ∧
    (s.flkUp = true →
     (s.foldStations.filter (fun k => s.fstate k = 2)) = [] →
     exec .foldScanTick s = .next s) ∧
    (∀ (k : Nat),
     s.flkUp = true →
     (s.foldStations.filter (fun k => s.fstate k = 2)) = [k] →
     s.inWords k ≠ 0 →
     (s.fst k).out = none →
     Yields (exec (.foldScanTick) s) (fun t =>
       Regs s t [] ∧ t = { s with regs := t.regs, flk := t.flk } ∧ t.flk = { s.flk with sent := t.flk.sent } ∧ t.flk.sent.getLast? = some (foldBytes 6 (s.fget FLK_CFG_CTRL) k s.claimNow 0 0 []))) ∧
    (∀ (f : FoldFrame) (k : Nat),
     s.flkUp = true →
     foCrcOk f = true →
     foKind f = 7 →
     foCtrl f = s.fget FLK_CFG_CTRL →
     (foBody f).length = 8 + 4 * s.inWords k →
     foSt f = k →
     s.foldEn k = true →
     s.fstate k = 2 →
     Yields (exec (.foldImginReceived f) s) (fun t =>
       Regs s t [] ∧ t = { s with regs := t.regs, flk := t.flk } ∧ (t.fst k).live.qual = leAt (foBody f) 0 8 ∧ (t.fst k).live.us = some s.ts ∧
       (t.fst k).live.words = (records 4 (s.inWords k) ((foBody f).drop 8)).map (fun w => leAt w 0 4) ∧ (∀ j, j ≠ k → t.fst j = s.fst j))) ∧
    (∀ (f : FoldFrame) (k : Nat),
     s.flkUp = true →
     foCrcOk f = true →
     foKind f = 9 →
     foCtrl f = s.fget FLK_CFG_CTRL →
     (foBody f).length = 4 →
     foSt f = k →
     Yields (exec (.foldMsgReceived f) s) (fun t =>
       Regs s t [] ∧ t = { s with regs := t.regs, flk := t.flk } ∧ (t.fst k).live.event = leAt (foBody f) 0 4 ∧ (t.fst k).live.msgs = ((s.fst k).live.msgs + 1) % 2 ^ 32 ∧ (∀ j, j ≠ k → t.fst j = s.fst j))) ∧
    (s.flkUp = true →
     s.cyc.started = true →
     s.flk.enumDue = true →
     s.flk.enumRun = false →
     Yields (exec (.foldEnumeration) s) (fun t =>
       Regs s t [] ∧ t = { s with regs := t.regs, flk := t.flk } ∧ t.flk = { s.flk with enumDue := false, enumRun := true, sent := t.flk.sent } ∧ t.flk.sent.getLast? = some (foldBytes 11 (s.fget FLK_CFG_CTRL) 0 s.claimNow 0 0 (List.replicate 12 0)))) ∧
    (∀ (f : FoldFrame),
     s.flkUp = true →
     foCrcOk f = true →
     foKind f = 11 →
     foCtrl f = s.fget FLK_CFG_CTRL →
     (foBody f).length = 12 →
     s.flk.enumRun = true →
     leAt (foBody f) 0 8 = 0 →
     Yields (exec (.foldEnumqReturned f) s) (fun t =>
       Regs s t [] ∧ t = { s with regs := t.regs, flk := t.flk } ∧ t.flk = { s.flk with enumRun := false })) ∧
    (∀ (f : FoldFrame) (k : Nat),
     s.flkUp = true →
     foCrcOk f = true →
     foKind f = 11 →
     foCtrl f = s.fget FLK_CFG_CTRL →
     (foBody f).length = 12 →
     s.flk.enumRun = true →
     leAt (foBody f) 0 8 ≠ 0 →
     s.uidEntry (leAt (foBody f) 0 8) = some k →
     k < 16 →
     s.boot.act.foldF k 24 4 = 0 →
     s.fstate k = 0 →
     Yields (exec (.foldEnumqReturned f) s) (fun t =>
       Regs s t [(FLK_ST_k_STATE k, 1), (⟨0x400B000C, 16 + k, 1⟩, 0)] ∧ t = { s with regs := t.regs, flk := t.flk, pair := { s.pair with since := t.pair.since } } ∧ (t.fst k).numbered = true ∧ (t.fst k).uid = some (leAt (foBody f) 0 8) ∧ (∀ j, j ≠ k → t.fst j = s.fst j) ∧
       t.flk.sent.getLast? = some (foldBytes 11 (s.fget FLK_CFG_CTRL) 0 s.claimNow 0 0 (List.replicate 12 0)))) ∧
    (∀ (k : Nat),
     s.flkUp = true →
     k < 16 →
     s.flk.load = none →
     s.foldStations.find? (fun j => s.fstate j = 1) = some k →
     (s.stImage k).length ≤ 128 →
     s.stImage k ≠ [] →
     Yields (exec (.foldStationLoad (BitVec.ofNat 4 k)) s) (fun t =>
       Regs s t [(FLK_STAT_LOADING, 1), (FLK_LDSTAT_STATION, k), (FLK_LDSTAT_PROGRESS, 1)] ∧ t = { s with regs := t.regs, flk := t.flk } ∧
       t.flk.load = some { st := k, units := 1, started := true, retry := false, late := false } ∧
       t.flk.sent.getLast? = some (foldBytes 14 (s.fget FLK_CFG_CTRL) k s.claimNow 0 0 (leBytes 4 (s.stImage k).length ++ leBytes 4 (crc32c (s.stImage k)))))) ∧
    (∀ (f : FoldFrame) (l : FlkLoad),
     s.flkUp = true →
     foCrcOk f = true →
     foKind f = 15 →
     foCtrl f = s.fget FLK_CFG_CTRL →
     (foBody f).length = 8 →
     s.flk.load = some l →
     l.st = foSt f →
     l.started = true →
     leAt (foBody f) 0 1 = 0 →
     Yields (exec (.foldLackReceived f) s) (fun t =>
       Regs s t [(FLK_ST_k_STATE l.st, 2), (⟨0x400B000C, 16 + l.st, 1⟩, 1), (FLK_ST_k_RELOADS l.st, plusOne s (FLK_ST_k_RELOADS l.st)), (FLK_STAT_LOADING, 0),
         (FLK_LDSTAT_RESULT, if l.late then 3 else 1)] ∧ t = { s with regs := t.regs, flk := t.flk, pair := { s.pair with since := t.pair.since } } ∧ t.flk.load = none ∧ (t.fst l.st).seq = 0 ∧ (t.fst l.st).live = .zero)) ∧
    (∀ (k : Nat) (l : FlkLoad),
     k < 16 →
     s.flk.load = some l →
     l.st = k →
     l.started = true →
     (l.retry = true →
     Yields (exec (.foldLackTimeout (BitVec.ofNat 4 k)) s) (fun t =>
       Regs s t [(FLK_ST_k_STATE k, 4), (⟨0x400B000C, 16 + k, 1⟩, 0), (FLK_STAT_LOADING, 0), (FLK_LDSTAT_RESULT, 4), (FLK_EVT_LOAD_FAIL, 1)] ∧ t = { s with regs := t.regs, flk := t.flk, pair := { s.pair with since := t.pair.since } } ∧ t.flk = { s.flk with load := none })) ∧
     (l.retry = false →
     Yields (exec (.foldLackTimeout (BitVec.ofNat 4 k)) s) (fun t =>
       Regs s t [(FLK_STAT_LOADING, 1), (FLK_LDSTAT_STATION, k), (FLK_LDSTAT_PROGRESS, 0)] ∧ t = { s with regs := t.regs, flk := t.flk } ∧ t.flk.load = some { l with units := 0, started := false, retry := true }))) ∧
    (∀ (k : Nat) (l : FlkLoad),
     k < 16 →
     s.flkUp = true →
     s.foldEn k = true →
     s.flk.load = some l →
     l.st = k →
     (l.started = false →
     Yields (exec (.flkLdcmdAbort 0x2F (BitVec.ofNat 4 k)) s) (fun t =>
       Regs s t [(FLK_ST_k_STATE k, 5), (⟨0x400B000C, 16 + k, 1⟩, 0), (FLK_STAT_LOADING, 0), (FLK_LDSTAT_RESULT, 2)] ∧ t = { s with regs := t.regs, resp := t.resp, rdata := t.rdata, flk := t.flk, pair := { s.pair with since := t.pair.since } } ∧ t.resp = .okay ∧ t.flk = { s.flk with load := none })) ∧
     (l.started = true →
     Yields (exec (.flkLdcmdAbort 0x2F (BitVec.ofNat 4 k)) s) (fun t =>
       Regs s t [(FLK_EVT_ABORT_LATE, 1), (FLK_LDSTAT_RESULT, 3)] ∧ t = { s with regs := t.regs, resp := t.resp, rdata := t.rdata, flk := t.flk } ∧ t.resp = .okay ∧ t.flk.load = some { l with late := true }))) ∧
    (∀ (k : Nat),
     k < 16 →
     s.flkUp = true →
     s.foldEn k = true →
     (s.fst k).numbered = true →
     Yields (exec (.flkLdcmdReload 0x2F (BitVec.ofNat 4 k)) s) (fun t =>
       Regs s t [(FLK_ST_k_STATE k, 1), (⟨0x400B000C, 16 + k, 1⟩, 0)] ∧ t = { s with regs := t.regs, resp := t.resp, rdata := t.rdata, flk := t.flk, pair := { s.pair with since := t.pair.since } } ∧ t.resp = .okay ∧ t.flk = s.flk)) ∧
    (∀ (key : BitVec 8) (k : Nat),
     s.flkUp = true →
     key ≠ 0x2F →
     exec (.flkLdcmdAbort key (BitVec.ofNat 4 k)) s = refusedWith s ∧ exec (.flkLdcmdReload key (BitVec.ofNat 4 k)) s = refusedWith s) ∧
    (s.flkUp = true →
     s.flk.supOut = false →
     Yields (exec (.foldSupTick) s) (fun t =>
       Regs s t [] ∧ t = { s with regs := t.regs, flk := t.flk } ∧ t.flk = { s.flk with supOut := true, sent := t.flk.sent } ∧
       t.flk.sent.getLast? = some (foldBytes 10 (s.fget FLK_CFG_CTRL) 0 s.claimNow 0 0 (List.replicate 8 0)))) ∧
    (s.flkUp = true →
     s.flk.supOut = true →
     exec .foldSupTick s = .next (((s.foldStations.foldl State.stationMiss s).flkUpd (fun b => { b with supOut := true })).foldSend 10 0 0 (List.replicate 8 0))) ∧
    (∀ (f : FoldFrame),
     s.flkUp = true →
     foCrcOk f = true →
     foKind f = 10 →
     foCtrl f = s.fget FLK_CFG_CTRL →
     (foBody f).length = 8 →
     exec (.foldSupReturned f) s = .next (s.foldStations.foldl (fun x k => x.stationReport k (bitsOf (leAt (foBody f) 0 4) (2 * k) 2))
       ((s.flkUpd (fun x => { x with supOut := false, enumDue := x.enumDue || decide (leAt (foBody f) 4 1 ≠ 0) })).fset FLK_STAT_UNADDR (if leAt (foBody f) 4 1 ≠ 0 then 1 else 0)))) ∧
    (s.flkUp = true →
     exec .foldScanTick s = .next ((s.foldStations.filter (fun k => s.fstate k = 2)).foldl (fun x k => (if x.inWords k ≠ 0 then x.foldSend 6 k 0 [] else x).sendImg k) s)) ∧
    (∀ (k q qual : Nat) (ws : List Nat),
     s.flkUp = true →
     (s.foldStations.filter (fun k => s.fstate k = 2)) = [k] →
     s.inWords k = 0 →
     (s.fst k).out = some (q, qual, ws) →
     s.rst.safe = none →
     Yields (exec (.foldScanTick) s) (fun t =>
       Regs s t [] ∧ t = { s with regs := t.regs, flk := t.flk } ∧ t.flk = { s.flk with sent := t.flk.sent } ∧ t.flk.sent.getLast? = some (foldBytes 8 (s.fget FLK_CFG_CTRL) k s.claimNow q 0 (leBytes 8 qual ++ ws.flatMap (fun w => leBytes 4 w))))) ∧
    (∀ (f : FoldFrame),
     s.flkUp = true →
     foCrcOk f = true →
     foKind f = 7 →
     foCtrl f = s.fget FLK_CFG_CTRL →
     (foBody f).length = 8 + 4 * s.inWords (foSt f) →
     s.foldEn (foSt f) = false ∨ s.fstate (foSt f) ≠ 2 →
     exec (.foldImginReceived f) s = .next s) ∧
    (s.flkUp = true →
     s.cyc.started = true →
     s.flk.enumDue = true →
     Yields (exec (.foldEnumeration) s) (fun t =>
       Regs s t [] ∧ t = { s with regs := t.regs, flk := t.flk } ∧ t.flk = { s.flk with enumDue := false, enumRun := true, sent := t.flk.sent } ∧ t.flk.sent.getLast? = some (foldBytes 11 (s.fget FLK_CFG_CTRL) 0 s.claimNow 0 0 (List.replicate 12 0)))) ∧
    (s.cyc.started = false ∨ s.flk.enumDue = false →
     exec (.foldEnumeration) s = .next s) ∧
    (∀ (f : FoldFrame),
     s.flkUp = true →
     foCrcOk f = true →
     foKind f = 11 →
     foCtrl f = s.fget FLK_CFG_CTRL →
     (foBody f).length = 12 →
     (s.flk.enumRun = false → exec (.foldEnumqReturned f) s = .next s) ∧
     (s.flk.enumRun = true → leAt (foBody f) 0 8 ≠ 0 → s.uidEntry (leAt (foBody f) 0 8) = none →
     Yields (exec (.foldEnumqReturned f) s) (fun t =>
       Regs s t [(FLK_EVT_UNKNOWN_UID, 1)] ∧ t = { s with regs := t.regs, flk := t.flk } ∧ t.flk = { s.flk with sent := t.flk.sent })) ∧
     (∀ k, s.uidEntry (leAt (foBody f) 0 8) = some k → s.flk.enumRun = true → leAt (foBody f) 0 8 ≠ 0 →
       exec (.foldEnumqReturned f) s = .next ((s.enumAssign (leAt (foBody f) 0 8) (leAt (foBody f) 8 4) k).foldSend 11 0 0 (List.replicate 12 0)))) ∧
    (∀ (st : BitVec 4),
     s.flkUp = true →
     s.flk.load = none →
     s.foldStations.find? (fun j => s.fstate j = 1) = some st.toNat →
     ((s.fst st.toNat).writes.length ≤ 6 →
       exec (.foldStationLoad st) s = .next ((s.loadBegin st.toNat false false).loadStep { st := st.toNat, units := 0, started := false, retry := false, late := false })) ∧
     (6 < (s.fst st.toNat).writes.length → exec (.foldStationLoad st) s = .next (s.loadBegin st.toNat false false))) ∧
    (∀ (st : BitVec 4) (l : FlkLoad),
     s.flkUp = true →
     s.flk.load = some l →
     l.st = st.toNat →
     l.started = false →
     (s.fst st.toNat).writes.length ≤ 6 →
     exec (.foldStationLoad st) s = .next (s.loadStep l)) ∧
    (∀ (st : BitVec 4),
     s.flkUp = false ∨ (s.flk.load = none ∧ s.foldStations.find? (fun j => s.fstate j = 1) ≠ some st.toNat) ∨ (∃ l, s.flk.load = some l ∧ (l.st ≠ st.toNat ∨ l.started = true ∨ 6 < (s.fst st.toNat).writes.length)) →
     exec (.foldStationLoad st) s = .next s) ∧
    (∀ (f : FoldFrame),
     s.flkUp = true →
     foCrcOk f = true →
     foKind f = 15 →
     foCtrl f = s.fget FLK_CFG_CTRL →
     (foBody f).length = 8 →
     (∀ l, s.flk.load = some l → l.st = foSt f → l.started = true → leAt (foBody f) 0 1 ≠ 0 → exec (.foldLackReceived f) s = .next (s.loadFailed l)) ∧
     (∀ l, s.flk.load = some l → (l.st ≠ foSt f ∨ l.started = false) → exec (.foldLackReceived f) s = .next s) ∧
     (s.flk.load = none → exec (.foldLackReceived f) s = .next s)) ∧
    (∀ (st : BitVec 4),
     (∀ l, s.flk.load = some l → l.st = st.toNat → l.started = true → exec (.foldLackTimeout st) s = .next (s.loadFailed l)) ∧
     (∀ l, s.flk.load = some l → (l.st ≠ st.toNat ∨ l.started = false) → exec (.foldLackTimeout st) s = .next s) ∧
     (s.flk.load = none → exec (.foldLackTimeout st) s = .next s)) ∧
    (∀ (k : Nat),
     k < 16 →
     s.flkUp = true →
     s.foldEn k = true →
     (∀ l, s.flk.load = some l → l.st ≠ k) →
     (s.fstate k = 1 →
     Yields (exec (.flkLdcmdAbort 0x2F (BitVec.ofNat 4 k)) s) (fun t =>
       Regs s t [(FLK_ST_k_STATE k, 5), (⟨0x400B000C, 16 + k, 1⟩, 0), (FLK_LDSTAT_RESULT, 2)] ∧ t = { s with regs := t.regs, resp := t.resp, rdata := t.rdata, flk := t.flk, pair := { s.pair with since := t.pair.since } } ∧ t.resp = .okay ∧ t.flk = s.flk)) ∧
     (s.fstate k ≠ 1 →
     Yields (exec (.flkLdcmdAbort 0x2F (BitVec.ofNat 4 k)) s) (fun t =>
       Regs s t [(FLK_EVT_ABORT_LATE, 1), (FLK_LDSTAT_RESULT, 3)] ∧ t = { s with regs := t.regs, resp := t.resp, rdata := t.rdata, flk := t.flk } ∧ t.resp = .okay ∧ t.flk = s.flk))) ∧
    (∀ (k : Nat),
     k < 16 →
     s.flkUp = true →
     s.foldEn k = true →
     (s.fst k).numbered = false →
     exec (.flkLdcmdReload 0x2F (BitVec.ofNat 4 k)) s = .next { s with resp := .okay, rdata := 0 }) ∧
    (∀ (k : Nat),
     k < 16 →
     s.flkUp = true →
     s.foldEn k = false →
     Yields (exec (.flkLdcmdAbort 0x2F (BitVec.ofNat 4 k)) s) (fun t =>
       Regs s t [(FLK_LDSTAT_RESULT, 5)] ∧ t = { s with regs := t.regs, resp := t.resp, rdata := t.rdata, flk := t.flk } ∧ t.resp = .target ∧ t.flk = s.flk) ∧
     Yields (exec (.flkLdcmdReload 0x2F (BitVec.ofNat 4 k)) s) (fun t =>
       Regs s t [(FLK_LDSTAT_RESULT, 5)] ∧ t = { s with regs := t.regs, resp := t.resp, rdata := t.rdata, flk := t.flk } ∧ t.resp = .target ∧ t.flk = s.flk)) ∧
    (∀ (key : BitVec 8) (n : BitVec 4),
     s.flkUp = false →
     exec (.flkLdcmdAbort key n) s = .next { s with resp := .isolated, rdata := 0 } ∧
     exec (.flkLdcmdReload key n) s = .next { s with resp := .isolated, rdata := 0 })

/-- A ZT9 as a station of the Fold link (R430 to R432). It answers an RD of its window with code, data and the request's SEQ; it performs a WR of the master in
SEQ order and answers WACK; an IMGOUT of the master goes to the field die as a COMMIT, but not before a load. It ORs its state into a SUP,
puts its UID into an ENUMQ while it has no number and takes the number of the ENUMSET that names it (R417, R420). LDATA of the master collects
the image; LSTART with the right CRC loads it and reloads the field die, with a wrong one it is answered with TARGET (R418). When no IMGOUT
is applied in time SAFE goes to the field die (R431). The UID is an open constant of the model (log entry 9). -/
def Obligations.OutstationCommands : Prop :=
  ∀ (s : State),
    (∀ (f : FoldFrame),
     s.stationUp = true →
     foCrcOk f = true →
     foKind f = 1 →
     (foBody f).length = 4 →
     s.station.num = some (foSt f) →
     Yields (exec (.stationRd f) s) (fun t =>
       t = { s with station := t.station, flk := { s.flk with sent := t.flk.sent } } ∧ t.station = (s.stnHear f).station ∧
       t.flk.sent.getLast? = some (foldBytes 3 (foCtrl f) (foSt f) (foClaim f) (foTs f) 0 (leBytes 1 (s.stnRead (leAt (foBody f) 0 3) (leAt (foBody f) 3 1)).1 ++ [0] ++ leBytes 8 (s.stnRead (leAt (foBody f) 0 3) (leAt (foBody f) 3 1)).2)))) ∧
    (∀ (o m : Nat),
     (0x30000 ≤ o → s.stnRead o m = (3, 0)) ∧
     (o < 0x10000 → s.stnRead o 0x0F = (0, (s.regView (0x40040000 + o)).toNat)) ∧
     (o < 0x20000 → m ≠ 0x0F → m ≠ 0xF0 → s.stnRead o m = (6, 0)) ∧
     s.stnRead 0x20100 0xFF = (0, s.station.out.1 + 2 ^ 32 * s.station.out.2)) ∧
    (∀ (f : FoldFrame),
     s.stationUp = true →
     foCrcOk f = true →
     foKind f = 2 →
     (foBody f).length = 12 →
     s.station.num = some (foSt f) →
     (s.stnHear f).fromMaster f = true →
     foTs f = (s.stnHear f).station.nextSeq.toList.getD (foCtrl f) 0 →
     leAt (foBody f) 0 3 = 0x20100 →
     leAt (foBody f) 3 1 = 0xFF →
     Yields (exec (.stationWr f) s) (fun t =>
       t = { s with station := t.station, flk := { s.flk with sent := t.flk.sent } } ∧ t.flk.sent.getLast? = some (foldBytes 4 (foCtrl f) (foSt f) (foClaim f) (foTs f) 0 ([])) ∧
       t.station = { (s.stnHear f).station with
         out := (bitsOf (leAt (foBody f) 4 8) 0 32, bitsOf (leAt (foBody f) 4 8) 32 32), nextSeq := vecUpd s.station.nextSeq (foCtrl f) (fun _ => (foTs f + 1) % 65536) })) ∧
    (∀ (f : FoldFrame),
     s.stationUp = true →
     foCrcOk f = true →
     foKind f = 2 →
     (foBody f).length = 12 →
     s.station.num = some (foSt f) →
     (s.stnHear f).fromMaster f = false →
     exec (.stationWr f) s = .next (s.stnHear f)) ∧
    (∀ (f : FoldFrame),
     s.stationUp = true →
     foCrcOk f = true →
     foKind f = 6 →
     (foBody f).length = 0 →
     s.station.num = some (foSt f) →
     Yields (exec (.stationImgrd f) s) (fun t =>
       t = { s with station := t.station, flk := { s.flk with sent := t.flk.sent } } ∧ t.station = (s.stnHear f).station ∧
       t.flk.sent.getLast? = some (foldBytes 7 (foCtrl f) (foSt f) (foClaim f) (0) 0 (leBytes 8 (if s.fieldGood then 2 ^ 11 - 1 else 0) ++ s.stnInputs.flatMap (fun w => leBytes 4 w))))) ∧
    (∀ (f : FoldFrame),
     s.stationUp = true →
     foCrcOk f = true →
     foKind f = 8 →
     (foBody f).length = 16 →
     s.station.num = some (foSt f) →
     (s.stnHear f).fromMaster f = true →
     s.station.loaded = true →
     (s.stnHear f).station.oseq.toList.getD (foCtrl f) none = none →
     s.clk.hold = false →
     bitOf (s.fget CLK_GMAP_ISLAND) 8 = true →
     Yields (exec (.stationImgout f) s) (fun t =>
       t = { s with station := t.station, link := t.link } ∧ t.link.toField = s.link.toField ++ [.commit (outFrame 3 t.link.img)] ∧
       t.link.img = stnImage s.link.img (foTs f) (leAt (foBody f) 0 8) (leAt (foBody f) 8 4 % 65536) (leAt (foBody f) 12 4 % 2) ∧
       t.station = { (s.stnHear f).station with
         oseq := vecUpd s.station.oseq (foCtrl f) (fun _ => some (foTs f)), expired := false
         out := (leAt (foBody f) 8 4 % 65536, leAt (foBody f) 12 4 % 2) })) ∧
    (∀ (f : FoldFrame),
     s.stationUp = true →
     foCrcOk f = true →
     foKind f = 8 →
     (foBody f).length = 16 →
     s.station.num = some (foSt f) →
     s.station.loaded = false →
     exec (.stationImgout f) s = .next (s.stnHear f)) ∧
    (∀ (f : FoldFrame) (n : Nat),
     s.stationUp = true →
     foCrcOk f = true →
     foKind f = 10 →
     (foBody f).length = 8 →
     s.station.num = some n →
     foHop f < 18 →
     Yields (exec (.stationSup f) s) (fun t =>
       t = { s with station := t.station, flk := { s.flk with sent := t.flk.sent } } ∧ t.station = (s.stnHear f).station ∧
       t.flk.sent.getLast? = some ((f.bytes.take 6 ++ leBytes 1 (foHop f + 1) ++ (f.bytes.drop 7).take 1 ++ (leBytes 4 (Nat.lor (leAt (foBody f) 0 4) ((if s.station.loaded then (if s.station.expired then 3 else 2) else 1) * 2 ^ (2 * n))) ++ (foBody f).drop 4)) ++ leBytes 4 (crc32c (f.bytes.take 6 ++ leBytes 1 (foHop f + 1) ++ (f.bytes.drop 7).take 1 ++ (leBytes 4 (Nat.lor (leAt (foBody f) 0 4) ((if s.station.loaded then (if s.station.expired then 3 else 2) else 1) * 2 ^ (2 * n))) ++ (foBody f).drop 4)))))) ∧
    (∀ (f : FoldFrame),
     s.stationUp = true →
     foCrcOk f = true →
     foKind f = 11 →
     (foBody f).length = 12 →
     s.station.num = none →
     foHop f < 18 →
     leAt (foBody f) 0 8 = 0 →
     Yields (exec (.stationEnumq f) s) (fun t =>
       t = { s with station := t.station, flk := { s.flk with sent := t.flk.sent } } ∧ t.station = (s.stnHear f).station ∧ t.flk.sent.getLast? = some ((f.bytes.take 6 ++ leBytes 1 (foHop f + 1) ++ (f.bytes.drop 7).take 1 ++ ((leBytes 8 Config.stationUid.toNat ++ leBytes 4 0x0D090002))) ++ leBytes 4 (crc32c (f.bytes.take 6 ++ leBytes 1 (foHop f + 1) ++ (f.bytes.drop 7).take 1 ++ ((leBytes 8 Config.stationUid.toNat ++ leBytes 4 0x0D090002))))))) ∧
    (∀ (f : FoldFrame),
     s.stationUp = true →
     foCrcOk f = true →
     foKind f = 11 →
     (foBody f).length = 12 →
     foHop f < 18 →
     s.station.num ≠ none ∨ leAt (foBody f) 0 8 ≠ 0 →
     Yields (exec (.stationEnumq f) s) (fun t =>
       t = { s with station := t.station, flk := { s.flk with sent := t.flk.sent } } ∧ t.station = (s.stnHear f).station ∧ t.flk.sent.getLast? = some ((f.bytes.take 6 ++ leBytes 1 (foHop f + 1) ++ (f.bytes.drop 7).take 1 ++ ((foBody f))) ++ leBytes 4 (crc32c (f.bytes.take 6 ++ leBytes 1 (foHop f + 1) ++ (f.bytes.drop 7).take 1 ++ ((foBody f))))))) ∧
    (∀ (c claim ts hop n : Nat) (f : FoldFrame),
     s.stationUp = true →
     s.station.num = none →
     c < 2 →
     n < 16 →
     hop < 256 →
     f = ⟨foldBytes 12 c 0 claim ts hop (leBytes 8 Config.stationUid.toNat ++ [BitVec.ofNat 8 n, 0, 0, 0])⟩ →
     Yields (exec (.stationEnumset f) s) (fun t =>
       t = { s with station := t.station } ∧ t.station = { (s.stnHear f).station with num := some n })) ∧
    (∀ (f : FoldFrame),
     s.stationUp = true →
     foCrcOk f = true →
     foKind f = 13 →
     5 ≤ (foBody f).length →
     (foBody f).length ≤ 132 →
     s.station.num = some (foSt f) →
     (s.stnHear f).fromMaster f = true →
     s.station.loaded = false →
     Yields (exec (.stationLdata f) s) (fun t =>
       t = { s with station := t.station } ∧
       t.station = { (s.stnHear f).station with image := mapPut memDflt s.station.image (leAt (foBody f) 0 3) ((foBody f).drop 4) })) ∧
    (∀ (f : FoldFrame),
     s.stationUp = true →
     foCrcOk f = true →
     foKind f = 14 →
     (foBody f).length = 8 →
     s.station.num = some (foSt f) →
     (s.stnHear f).fromMaster f = true →
     crc32c (mapBytes memDflt s.station.image 0 (leAt (foBody f) 0 4)) ≠ leAt (foBody f) 4 4 →
     Yields (exec (.stationLstart f) s) (fun t =>
       t = { s with station := t.station, flk := { s.flk with sent := t.flk.sent } } ∧ t.station = (s.stnHear f).station ∧
       t.flk.sent.getLast? = some (foldBytes 15 (foCtrl f) (foSt f) (foClaim f) (0) 0 ([6, 0, 0, 0] ++ leBytes 4 (crc32c (mapBytes memDflt s.station.image 0 (leAt (foBody f) 0 4))))))) ∧
    (∀ (f : FoldFrame) (m : RegMap),
     s.stationUp = true →
     foCrcOk f = true →
     foKind f = 14 →
     (foBody f).length = 8 →
     s.station.num = some (foSt f) →
     (s.stnHear f).fromMaster f = true →
     crc32c (mapBytes memDflt s.station.image 0 (leAt (foBody f) 0 4)) = leAt (foBody f) 4 4 →
     stnBank s.regs (stnList (mapBytes memDflt s.station.image 0 (leAt (foBody f) 0 4))) = some m →
     Yields (exec (.stationLstart f) s) (fun t =>
       t = { s with regs := t.regs, station := t.station, pins := t.pins, link := t.link, flk := { s.flk with sent := t.flk.sent } } ∧
       Regs { s with regs := m } t [(FLD_STAT_LINK, 1), (FLD_STAT_CFG_OK, 0)] ∧
       t.pins = { s.pins with safeOut := s.rst.safe.isNone && !s.rst.active } ∧
       t.link.img = .zero ∧ t.link.acked = false ∧
       t.station = { (s.stnHear f).station with loaded := true, expired := false, oseq := Vector.replicate 2 none } ∧
       t.flk.sent.getLast? = some (foldBytes 15 (foCtrl f) (foSt f) (foClaim f) (0) 0 ([0, 0, 0, 0] ++ leBytes 4 (crc32c (mapBytes memDflt s.station.image 0 (leAt (foBody f) 0 4))))))) ∧
    (s.stationUp = true →
     s.station.loaded = true →
     s.clk.hold = false →
     bitOf (s.fget CLK_GMAP_ISLAND) 8 = true →
     Yields (exec (.stationWatchdogExpiry) s) (fun t =>
       t = { s with station := t.station, link := t.link } ∧ t.station = { s.station with expired := true } ∧
       t.link = { s.link with toField := s.link.toField ++ [.safe] })) ∧
    (∀ (f : FoldFrame),
     s.stationUp = false →
     exec (.stationRd f) s = .next s ∧ exec (.stationWr f) s = .next s ∧ exec (.stationImgrd f) s = .next s ∧ exec (.stationImgout f) s = .next s ∧ exec (.stationSup f) s = .next s ∧ exec (.stationEnumq f) s = .next s ∧ exec (.stationEnumset f) s = .next s ∧ exec (.stationLdata f) s = .next s ∧ exec (.stationLstart f) s = .next s ∧ exec (.stationWatchdogExpiry) s = .next s) ∧
    (∀ (f : FoldFrame),
     s.stationUp = true →
     foCrcOk f = false →
     Yields (exec (.stationRd f) s) (fun t =>
       Regs s t [(FLK_EVT_CRC_ERR, 1)] ∧ t = { s with regs := t.regs }) ∧
     Yields (exec (.stationWr f) s) (fun t =>
       Regs s t [(FLK_EVT_CRC_ERR, 1)] ∧ t = { s with regs := t.regs }) ∧
     Yields (exec (.stationImgrd f) s) (fun t =>
       Regs s t [(FLK_EVT_CRC_ERR, 1)] ∧ t = { s with regs := t.regs }) ∧
     Yields (exec (.stationImgout f) s) (fun t =>
       Regs s t [(FLK_EVT_CRC_ERR, 1)] ∧ t = { s with regs := t.regs }) ∧
     Yields (exec (.stationSup f) s) (fun t =>
       Regs s t [(FLK_EVT_CRC_ERR, 1)] ∧ t = { s with regs := t.regs }) ∧
     Yields (exec (.stationEnumq f) s) (fun t =>
       Regs s t [(FLK_EVT_CRC_ERR, 1)] ∧ t = { s with regs := t.regs }) ∧
     Yields (exec (.stationEnumset f) s) (fun t =>
       Regs s t [(FLK_EVT_CRC_ERR, 1)] ∧ t = { s with regs := t.regs }) ∧
     Yields (exec (.stationLdata f) s) (fun t =>
       Regs s t [(FLK_EVT_CRC_ERR, 1)] ∧ t = { s with regs := t.regs }) ∧
     Yields (exec (.stationLstart f) s) (fun t =>
       Regs s t [(FLK_EVT_CRC_ERR, 1)] ∧ t = { s with regs := t.regs })) ∧
    (∀ (f : FoldFrame),
     foCrcOk f = true →
     s.station.num ≠ some (foSt f) →
     exec (.stationRd f) s = .next s ∧ exec (.stationWr f) s = .next s ∧ exec (.stationImgrd f) s = .next s ∧ exec (.stationImgout f) s = .next s ∧ exec (.stationLdata f) s = .next s ∧ exec (.stationLstart f) s = .next s) ∧
    (∀ (f : FoldFrame),
     s.stationUp = true →
     foCrcOk f = true →
     foKind f = 2 →
     (foBody f).length = 12 →
     s.station.num = some (foSt f) →
     (s.stnHear f).fromMaster f = true →
     ((foTs f = (s.stnHear f).station.nextSeq.toList.getD (foCtrl f) 0 ∨ foTs f = 0) → exec (.stationWr f) s = .next ((s.stnHear f).stnPerform f)) ∧
     (foTs f ≠ 0 → 1 ≤ (foTs f + 65536 - (s.stnHear f).station.nextSeq.toList.getD (foCtrl f) 0) % 65536 → (foTs f + 65536 - (s.stnHear f).station.nextSeq.toList.getD (foCtrl f) 0) % 65536 < 2 ^ 15 →
       exec (.stationWr f) s = .next (((s.stnHear f).stnSend f 5 ((s.stnHear f).station.nextSeq.toList.getD (foCtrl f) 0) [4, 0, 0, 0]).stnPerform f)) ∧
     (foTs f ≠ 0 → 2 ^ 15 ≤ (foTs f + 65536 - (s.stnHear f).station.nextSeq.toList.getD (foCtrl f) 0) % 65536 → exec (.stationWr f) s = .next (s.stnHear f))) ∧
    (∀ (f : FoldFrame) (r : State × Nat),
     s.stationUp = true →
     foCrcOk f = true →
     foKind f = 2 →
     (foBody f).length = 12 →
     s.station.num = some (foSt f) →
     (s.stnHear f).fromMaster f = true →
     foTs f = (s.stnHear f).station.nextSeq.toList.getD (foCtrl f) 0 →
     (s.stnHear f).stnWrite (leAt (foBody f) 0 3) (leAt (foBody f) 3 1) (leAt (foBody f) 4 8) = r →
     Yields (exec (.stationWr f) s) (fun t =>
       t.regs = r.1.regs ∧ t.station.nextSeq = vecUpd s.station.nextSeq (foCtrl f) (fun _ => (foTs f + 1) % 65536) ∧
       t.flk.sent.getLast? = some (foldBytes (if r.2 = 0 then 4 else 5) (foCtrl f) (foSt f) (foClaim f) (foTs f) 0 (if r.2 = 0 then [] else leBytes 1 r.2 ++ [0, 0, 0])))) ∧
    (∀ (f : FoldFrame),
     s.stationUp = true →
     foCrcOk f = true →
     s.station.num = some (foSt f) →
     (s.stnHear f).fromMaster f = false →
     (foKind f = 8 → (foBody f).length = 16 → exec (.stationImgout f) s = .next (s.stnHear f)) ∧
     (foKind f = 13 → 5 ≤ (foBody f).length → (foBody f).length ≤ 132 → exec (.stationLdata f) s = .next (s.stnHear f)) ∧
     (foKind f = 14 → (foBody f).length = 8 → exec (.stationLstart f) s = .next (s.stnHear f))) ∧
    (∀ (f : FoldFrame),
     s.stationUp = true →
     foCrcOk f = true →
     foKind f = 8 →
     (foBody f).length = 16 →
     s.station.num = some (foSt f) →
     (s.stnHear f).fromMaster f = true →
     s.station.loaded = true →
     ((∀ o, (s.stnHear f).station.oseq.toList.getD (foCtrl f) none = some o → (foTs f + 65536 - o) % 65536 < 2 ^ 15) →
     Yields (exec (.stationImgout f) s) (fun t =>
       t.station = { (s.stnHear f).station with
         oseq := vecUpd s.station.oseq (foCtrl f) (fun _ => some (foTs f)), expired := false
         out := (leAt (foBody f) 8 4 % 65536, leAt (foBody f) 12 4 % 2) } ∧ t.regs = s.regs ∧ t.mem = s.mem ∧
       t.link.img = stnImage s.link.img (foTs f) (leAt (foBody f) 0 8) (leAt (foBody f) 8 4 % 65536) (leAt (foBody f) 12 4 % 2))) ∧
     (∀ o, (s.stnHear f).station.oseq.toList.getD (foCtrl f) none = some o → 2 ^ 15 ≤ (foTs f + 65536 - o) % 65536 → exec (.stationImgout f) s = .next (s.stnHear f))) ∧
    (∀ (f : FoldFrame),
     s.stationUp = true →
     foCrcOk f = true →
     foKind f = 10 →
     (foBody f).length = 8 →
     s.station.num = none →
     foHop f < 18 →
     Yields (exec (.stationSup f) s) (fun t =>
       t = { s with station := t.station, flk := { s.flk with sent := t.flk.sent } } ∧ t.station = (s.stnHear f).station ∧
       t.flk.sent.getLast? = some ((f.bytes.take 6 ++ leBytes 1 (foHop f + 1) ++ (f.bytes.drop 7).take 1 ++ (leBytes 4 (leAt (foBody f) 0 4) ++ leBytes 1 (min 255 (leAt (foBody f) 4 1 + 1)) ++ (foBody f).drop 5)) ++ leBytes 4 (crc32c (f.bytes.take 6 ++ leBytes 1 (foHop f + 1) ++ (f.bytes.drop 7).take 1 ++ (leBytes 4 (leAt (foBody f) 0 4) ++ leBytes 1 (min 255 (leAt (foBody f) 4 1 + 1)) ++ (foBody f).drop 5)))))) ∧
    (∀ (f : FoldFrame),
     s.stationUp = true →
     foCrcOk f = true →
     18 ≤ foHop f →
     (foKind f = 10 → (foBody f).length = 8 → exec (.stationSup f) s = .next (s.stnHear f)) ∧ (foKind f = 11 → (foBody f).length = 12 → exec (.stationEnumq f) s = .next (s.stnHear f))) ∧
    (∀ (f : FoldFrame),
     s.stationUp = true →
     foCrcOk f = true →
     foKind f = 12 →
     (foBody f).length = 12 →
     s.station.num ≠ none →
     exec (.stationEnumset f) s = .next (s.stnHear f)) ∧
    (∀ (f : FoldFrame),
     s.stationUp = true →
     foCrcOk f = true →
     foKind f = 13 →
     5 ≤ (foBody f).length →
     (foBody f).length ≤ 132 →
     s.station.num = some (foSt f) →
     (s.stnHear f).fromMaster f = true →
     s.station.loaded = true →
     Yields (exec (.stationLdata f) s) (fun t =>
       t.station.image = mapPut memDflt [] (leAt (foBody f) 0 3) ((foBody f).drop 4) ∧ t.station.loaded = false ∧ t.station.expired = false ∧
       t.pins.safeOut = false ∧ t.regs = s.regs ∧ t.mem = s.mem ∧ (s.clk.hold = false → bitOf (s.fget CLK_GMAP_ISLAND) 8 = true → t.link.toField = s.link.toField ++ [.safe]))) ∧
    (∀ (f : FoldFrame),
     s.stationUp = true →
     foCrcOk f = true →
     foKind f = 14 →
     (foBody f).length = 8 →
     s.station.num = some (foSt f) →
     (s.stnHear f).fromMaster f = true →
     stnBank s.regs (stnList (mapBytes memDflt s.station.image 0 (leAt (foBody f) 0 4))) = none →
     Yields (exec (.stationLstart f) s) (fun t =>
       t = { s with station := t.station, flk := { s.flk with sent := t.flk.sent } } ∧ t.station = (s.stnHear f).station ∧
       t.flk.sent.getLast? = some (foldBytes 15 (foCtrl f) (foSt f) (foClaim f) (0) 0 ([6, 0, 0, 0] ++ leBytes 4 (crc32c (mapBytes memDflt s.station.image 0 (leAt (foBody f) 0 4))))))) ∧
    (s.stationUp = true →
     s.station.loaded = true →
     Yields (exec (.stationWatchdogExpiry) s) (fun t =>
       t.station = { s.station with expired := true } ∧ t.regs = s.regs ∧ t.mem = s.mem ∧ t.flk = s.flk)) ∧
    (s.station.loaded = false →
     exec (.stationWatchdogExpiry) s = .next s)

/-- Pair operation (R433 to R440). A tick of the heartbeat sends a record of 20 bytes: version, unit and mastership, claim, sequence, cycle, health and a CRC
from PAIR_ID; none in the device safe state, and with ETH_EN also through the publish session. A valid record of the other unit on the link is
heard and used, and the higher claim is master, unit 0 when they are equal; a record of the own unit is a UNIT_CLASH, one with a bad check only
counts. A partner that is not heard on either path leaves this unit the master, with PARTNER_LOST if it was heard before. -/
def Obligations.PairLink : Prop :=
  ∀ (s : State),
    (s.pairUp = true →
     s.rst.safe = none →
     s.fget PAIR_CFG_ETH_EN = 0 →
     Yields (exec (.heartbeatTick) s) (fun t =>
       Regs s t [] ∧ t = { s with regs := t.regs, pair := t.pair } ∧ t.pair = { s.pair with seq := (s.pair.seq + 1) % 2 ^ 32, tx := t.pair.tx } ∧
       t.pair.tx.take 1 = [1] ∧ leAt t.pair.tx 1 1 = s.fget PAIR_CFG_UNIT + 2 * s.fget PAIR_STAT_MASTER ∧
       leAt t.pair.tx 2 2 = s.claimNow % 2 ^ 16 ∧ leAt t.pair.tx 4 4 = s.pair.seq % 2 ^ 32 ∧
       leAt t.pair.tx 8 4 = s.cyc.count.toNat % 2 ^ 32 ∧ leAt t.pair.tx 12 4 = s.health % 2 ^ 32 ∧
       t.pair.tx.drop 16 = leBytes 4 (hbCrc (s.fget PAIR_ID_ID) (t.pair.tx.take 16)))) ∧
    (∀ (b : List Byte) (i : Nat),
     s.pairUp = true →
     s.rst.safe = none →
     s.fget PAIR_CFG_ETH_EN = 1 →
     i = s.fget PAIR_SESS_PUB →
     i < s.pde.sess.length →
     b = s.hbRecord →
     s.memx.upsets = [] →
     s.memx.poisoned = [] →
     Yields (exec (.heartbeatTick) s) (fun t =>
       Regs s t [] ∧ t.pair.tx = b ∧ t.memBytes (s.boot.act.pdS i).buf 20 = b ∧ MemSame s t (s.boot.act.pdS i).buf 20 ∧
       (t.pd i).handed = true ∧ (t.pd i).qual = true ∧ t.flash = s.flash ∧ (∀ l, t.lane l = s.lane l) ∧ t.pending = s.pending)) ∧
    (s.rst.safe.isSome = true →
     exec .heartbeatTick s = .next s) ∧
    (∀ (r : HbRecord) (m : Bool),
     s.pairUp = true →
     s.fget PAIR_CFG_ETH_EN = 0 →
     s.fget PAIR_STAT_HEARD_ETH = 0 →
     s.pair.eth = none →
     s.hbOk r.bytes = true →
     bitsOf (leAt r.bytes 1 1) 0 1 ≠ s.fget PAIR_CFG_UNIT →
     m = decide (hbClaim r.bytes < s.claimNow ∨ (hbClaim r.bytes = s.claimNow ∧ s.fget PAIR_CFG_UNIT = 0)) →
     Yields (exec (.heartbeatRecordReceived false r) s) (fun t =>
       Regs s t ([(PAIR_STAT_HEARD_LINK, 1), (PAIR_STAT_MASTER, bitNat m)] ++
         (if m && s.fget PAIR_STAT_MASTER = 0 then [(PAIR_EVT_TAKEOVER, 1), (PAIR_CNT_CHANGES, plusOne s PAIR_CNT_CHANGES), (REC_CNT_c_VAL 18, plusOne s (REC_CNT_c_VAL 18))]
          else if !m && s.fget PAIR_STAT_MASTER = 1 then [(PAIR_EVT_RELEASE, 1), (PAIR_CNT_CHANGES, plusOne s PAIR_CNT_CHANGES), (REC_CNT_c_VAL 18, plusOne s (REC_CNT_c_VAL 18))] else [])) ∧ t = { s with regs := t.regs, pair := t.pair } ∧
       t.pair = { s.pair with link := some (r.bytes, s.ts), used := some r.bytes })) ∧
    (∀ (r : HbRecord),
     s.pairUp = true →
     s.fget PAIR_CFG_ETH_EN = 0 →
     s.hbOk r.bytes = true →
     bitsOf (leAt r.bytes 1 1) 0 1 = s.fget PAIR_CFG_UNIT →
     Yields (exec (.heartbeatRecordReceived false r) s) (fun t =>
       t.fget PAIR_EVT_UNIT_CLASH = 1 ∧ t.fget PAIR_CNT_LINK_ERR = plusOne s PAIR_CNT_LINK_ERR ∧ t.pair = s.pair ∧ t = { s with regs := t.regs, pair := t.pair })) ∧
    (∀ (r : HbRecord),
     s.pairUp = true →
     s.fget PAIR_CFG_ETH_EN = 0 →
     s.hbOk r.bytes = false →
     Yields (exec (.heartbeatRecordReceived false r) s) (fun t =>
       t.fget PAIR_EVT_UNIT_CLASH = s.fget PAIR_EVT_UNIT_CLASH ∧ t.fget PAIR_CNT_LINK_ERR = plusOne s PAIR_CNT_LINK_ERR ∧
       t.pair = s.pair ∧ t = { s with regs := t.regs, pair := t.pair })) ∧
    (s.pairUp = true →
     s.fget PAIR_CFG_ETH_EN = 0 →
     s.fget PAIR_STAT_HEARD_ETH = 0 →
     Yields (exec (.partnerLinkTimeout) s) (fun t =>
       Regs s t ([(PAIR_STAT_HEARD_LINK, 0), (PAIR_STAT_MASTER, 1)] ++
         (if s.fget PAIR_STAT_MASTER = 0 then [(PAIR_EVT_TAKEOVER, 1), (PAIR_CNT_CHANGES, plusOne s PAIR_CNT_CHANGES), (REC_CNT_c_VAL 18, plusOne s (REC_CNT_c_VAL 18))] else []) ++
         (if s.fget PAIR_STAT_HEARD_LINK = 1 then [(PAIR_EVT_PARTNER_LOST, 1)] else [])) ∧ t = { s with regs := t.regs, pair := t.pair } ∧ t.pair = s.pair)) ∧
    (∀ (i : Nat),
     s.pairUp = true →
     s.rst.safe = none →
     s.fget PAIR_CFG_ETH_EN = 1 →
     i = s.fget PAIR_SESS_PUB →
     i < s.pde.sess.length →
     Yields (exec (.heartbeatTick) s) (fun t =>
       (t.pd i).handed = true ∧ (t.pd i).qual = true ∧ t.pair = { s.pair with seq := (s.pair.seq + 1) % 2 ^ 32, tx := s.hbRecord } ∧ t.flash = s.flash ∧ (∀ l, t.lane l = s.lane l) ∧ t.pending = s.pending)) ∧
    (s.pairUp = true →
     s.rst.safe = none →
     Yields (exec .heartbeatTick s) (fun t => t.pair = { s.pair with seq := (s.pair.seq + 1) % 2 ^ 32, tx := s.hbRecord }) ∧
     (s.fget PAIR_CFG_ETH_EN = 1 → exec .heartbeatTick s = .next
       (({ s with pair := { s.pair with seq := (s.pair.seq + 1) % 2 ^ 32, tx := s.hbRecord } }.burstPut (s.boot.act.pdS (s.fget PAIR_SESS_PUB)).buf s.hbRecord).pdHand (s.fget PAIR_SESS_PUB) true))) ∧
    (∀ (b : Bool) (r : HbRecord),
     s.pairUp = false →
     exec (.heartbeatTick) s = .next s ∧ exec (.heartbeatRecordReceived b r) s = .next s ∧ exec (.partnerLinkTimeout) s = .next s) ∧
    (∀ (r : HbRecord),
     s.fget PAIR_CFG_ETH_EN = 0 →
     exec (.heartbeatRecordReceived true r) s = .next s) ∧
    (∀ (eth : Bool) (r : HbRecord),
     s.pairUp = true →
     (eth = true → s.fget PAIR_CFG_ETH_EN = 1) →
     exec (.heartbeatRecordReceived eth r) s = .next (s.pairReceive eth r.bytes)) ∧
    (∀ (eth : Bool) (r : HbRecord),
     s.pairUp = true →
     (eth = true → s.fget PAIR_CFG_ETH_EN = 1) →
     s.hbOk r.bytes = true →
     bitsOf (leAt r.bytes 1 1) 0 1 ≠ s.fget PAIR_CFG_UNIT →
     (if eth then s.pair.link else s.pair.eth) = none →
     Yields (exec (.heartbeatRecordReceived eth r) s) (fun t =>
       t.pair = { s.pair with
         link := if eth then s.pair.link else some (r.bytes, s.ts), eth := if eth then some (r.bytes, s.ts) else s.pair.eth
         ethOk := eth || s.pair.ethOk, used := some r.bytes } ∧ t = { s with regs := t.regs, pair := t.pair } ∧
       (eth = false → t.fget PAIR_STAT_HEARD_LINK = 1) ∧ t.fget PAIR_STAT_MASTER = (if (t.fget PAIR_STAT_HEARD_LINK = 0 ∧ t.fget PAIR_STAT_HEARD_ETH = 0) ∨ t.partnerClaim < s.claimNow ∨ (t.partnerClaim = s.claimNow ∧ s.fget PAIR_CFG_UNIT = 0) then 1 else 0))) ∧
    (∀ (eth : Bool) (r : HbRecord) (o : List Byte) (us : Nat),
     s.pairUp = true →
     (eth = true → s.fget PAIR_CFG_ETH_EN = 1) →
     s.hbOk r.bytes = true →
     bitsOf (leAt r.bytes 1 1) 0 1 ≠ s.fget PAIR_CFG_UNIT →
     (if eth then s.pair.link else s.pair.eth) = some (o, us) →
     hbSeq o = hbSeq r.bytes →
     o ≠ r.bytes →
     Yields (exec (.heartbeatRecordReceived eth r) s) (fun t =>
       t.fget PAIR_EVT_PATH_DIFF = 1 ∧ t.pair = { s.pair with link := none, eth := none, ethOk := eth || s.pair.ethOk } ∧ t = { s with regs := t.regs, pair := t.pair } ∧ t.fget PAIR_STAT_MASTER = (if (t.fget PAIR_STAT_HEARD_LINK = 0 ∧ t.fget PAIR_STAT_HEARD_ETH = 0) ∨ t.partnerClaim < s.claimNow ∨ (t.partnerClaim = s.claimNow ∧ s.fget PAIR_CFG_UNIT = 0) then 1 else 0))) ∧
    (s.pairUp = true →
     Yields (exec (.partnerLinkTimeout) s) (fun t =>
       t.fget PAIR_STAT_HEARD_LINK = 0 ∧ t.fget PAIR_STAT_HEARD_ETH = bitNat s.heardEth ∧ t.fget PAIR_STAT_MASTER = (if (t.fget PAIR_STAT_HEARD_LINK = 0 ∧ t.fget PAIR_STAT_HEARD_ETH = 0) ∨ t.partnerClaim < s.claimNow ∨ (t.partnerClaim = s.claimNow ∧ s.fget PAIR_CFG_UNIT = 0) then 1 else 0) ∧
       (t.fget PAIR_STAT_MASTER ≠ s.fget PAIR_STAT_MASTER → t.fget PAIR_CNT_CHANGES = plusOne s PAIR_CNT_CHANGES) ∧ t = { s with regs := t.regs, pair := t.pair } ∧ t.pair = s.pair))

/-- The flash controller starts the waiting operation of the lowest class, one at a time; an erase that succeeds leaves its sector at 0xFF and every other
byte as it was, the last of OPEN ends it with RESULT 1; a failure is retried once, the second sets FLASH_FAIL (R463). An environment sample
adds to the bins of temperature and core supply (R473) and moves an extreme that it exceeds, with its time and cycle (R474). A snapshot is queued as the
record and its VALID word by a separate program (R475, R476); one that fails uses its place up; with no place left it counts as missed. The commands need key 0xE7, SNAP no write in
progress; ERASE queues the 64 sectors and clears FULL (R477). -/
def Obligations.FlashOperationsAndRecorder : Prop :=
  ∀ (s : State),
    (∀ (op : FlashOp),
     s.flc.running = none →
     nextOp s.flc.waiting = some op →
     s.flc.dead = false →
     s.touchesUsed op = false →
     Yields (exec (.flashOpStart) s) (fun t =>
       Regs s t [] ∧ t = { s with flc := t.flc, upd := t.upd } ∧
       t.flc = { s.flc with waiting := s.flc.waiting.erase op, running := some op, retry := false } ∧
       t.upd = { s.upd with begun := if op.cls = 3 ∨ op.cls = 5 then s.upd.job.isSome else s.upd.begun })) ∧
    (s.flc.running.isSome = true →
     exec .flashOpStart s = .next s) ∧
    (∀ (a : Nat),
     s.flc.running = some (.eraseSector 5 a) →
     s.flc.dead = false →
     s.touchesUsed (.eraseSector 5 a) = false →
     s.upd.job = some .open_ →
     s.upd.left = 1 →
     s.upd.late = false →
     Yields (exec (.flashOpComplete true) s) (fun t =>
       Regs s t [(UPD_PROG_BYTES, 0), (UPD_STAT_STATE, 2), (UPD_STAT_RESULT, 1)] ∧
       t = { s with regs := t.regs, flash := t.flash, flc := t.flc, upd := t.upd } ∧ t.flc.running = none ∧ t.upd.job = none ∧
       (∀ b, cellAt t b = (if a / 4096 * 4096 ≤ b ∧ b < a / 4096 * 4096 + 4096 then 0xFF else cellAt s b)))) ∧
    (∀ (op : FlashOp),
     s.flc.running = some op →
     s.flc.dead = false →
     s.touchesUsed op = false →
     (s.flc.retry = false →
     Yields (exec (.flashOpComplete false) s) (fun t =>
       t = { s with flc := { s.flc with retry := true } })) ∧
     (s.flc.retry = true → op.cls = 2 →
     Yields (exec (.flashOpComplete false) s) (fun t =>
       Regs s t [(UPD_EVT_FLASH_FAIL, 1)] ∧ t = { s with regs := t.regs, flc := { s.flc with running := none, retry := false } }))) ∧
    (∀ (tc : Int) (cm : Nat),
     s.unitDown 0x38 = false →
     s.fget REC_CFG_EN = 1 →
     s.fget (pstat .flogic) ≠ 2 →
     s.fget (REC_HIST_h_i_VAL 2 (min (envBin tc (-500) 30) 63)) ≠ 0xFFFFFFFE →
     s.fget (REC_HIST_h_i_VAL 3 (min (envBin (cm * 200 : Nat) (168 * 800) 800) 63)) ≠ 0xFFFFFFFE →
     s.extUnset 3 = false →
     s.extUnset 4 = false →
     toSigned 32 (s.fget (extF 3 0)) ≤ tc →
     tc ≤ toSigned 32 (s.fget (extF 4 0)) →
     s.extUnset 5 = false →
     s.extUnset 6 = false →
     (s.fget (extF 5 0)) ≤ (cm : Int) →
     (cm : Int) ≤ (s.fget (extF 6 0)) →
     Yields (exec (.recorderEnvSample tc cm) s) (fun t =>
       Regs s t [(REC_HIST_h_i_VAL 2 (min (envBin tc (-500) 30) 63), plusOne s (REC_HIST_h_i_VAL 2 (min (envBin tc (-500) 30) 63))),
         (REC_HIST_h_i_VAL 3 (min (envBin (cm * 200 : Nat) (168 * 800) 800) 63), plusOne s (REC_HIST_h_i_VAL 3 (min (envBin (cm * 200 : Nat) (168 * 800) 800) 63)))] ∧ t = { s with regs := t.regs, recd := t.recd, flc := t.flc } ∧ t.recd = s.recd ∧ t.flc = s.flc)) ∧
    (∀ (tc : Int) (cm : Nat),
     s.unitDown 0x38 = false →
     s.fget REC_CFG_EN = 1 →
     s.fget (pstat .flogic) ≠ 2 →
     toSigned 32 (s.fget (extF 4 0)) < tc →
     tc < 2 ^ 31 →
     Yields (exec (.recorderEnvSample tc cm) s) (fun t =>
       t.fget (extF 4 0) = (tc % 2 ^ 32).toNat ∧ t.fget (extF 4 1) = 0 ∧ t.fget (extF 4 2) = s.rtc ∧
       t.fget (extF 4 3) = s.cyc.count.toNat % 2 ^ 32 ∧ t = { s with regs := t.regs, recd := t.recd, flc := t.flc } ∧ RegsOutside s t 0x400D0000 0x400D1580)) ∧
    (s.unitDown 0x38 = false →
     s.fget REC_CFG_EN = 1 →
     s.fget REC_STAT_NEXT < 256 →
     s.fget REC_STAT_WRITING = 0 →
     s.recd.erasing = 0 →
     s.boot.dirOk = true →
     Yields (exec (.recorderSnapshotPeriod) s) (fun t =>
       Regs s t [(REC_STAT_WRITING, 1)] ∧ t = { s with regs := t.regs, resp := t.resp, rdata := t.rdata, recd := t.recd, flc := t.flc } ∧ t.flc.running = s.flc.running ∧
       t.flc.waiting = s.flc.waiting ++ [.program 4 (s.dirField 24 + 1024 * s.fget REC_STAT_NEXT) (({ s with regs := t.regs } : State).snapBytes (s.recd.seq + 1) 1),
         .program 4 ((s.dirField 24 + 1024 * s.fget REC_STAT_NEXT) + 1020) (leBytes 4 0x4C52545A)] ∧
       t.recd = { s.recd with
         seq := s.recd.seq + 1, writing := some (s.dirField 24 + 1024 * s.fget REC_STAT_NEXT), env := if s.recd.env = 3 then 1 else s.recd.env + 1 } ∧ t.resp = s.resp) ∧
     Yields (exec (.recCmdSnap 0xE7) s) (fun t =>
       Regs s t [(REC_STAT_WRITING, 1)] ∧ t = { s with regs := t.regs, resp := t.resp, rdata := t.rdata, recd := t.recd, flc := t.flc } ∧ t.flc.running = s.flc.running ∧
       t.flc.waiting = s.flc.waiting ++ [.program 4 (s.dirField 24 + 1024 * s.fget REC_STAT_NEXT) (({ s with regs := t.regs } : State).snapBytes (s.recd.seq + 1) 2),
         .program 4 ((s.dirField 24 + 1024 * s.fget REC_STAT_NEXT) + 1020) (leBytes 4 0x4C52545A)] ∧
       t.recd = { s.recd with
         seq := s.recd.seq + 1, writing := some (s.dirField 24 + 1024 * s.fget REC_STAT_NEXT), env := if s.recd.env = 3 then 1 else s.recd.env + 1 } ∧ t.resp = .okay)) ∧
    (s.unitDown 0x38 = false →
     s.fget REC_CFG_EN = 1 →
     256 ≤ s.fget REC_STAT_NEXT →
     Yields (exec (.recorderSnapshotPeriod) s) (fun t =>
       Regs s t [(REC_FULL_MISSED, plusOne s REC_FULL_MISSED)] ∧ t = { s with regs := t.regs })) ∧
    (∀ (k : BitVec 8),
     s.unitDown 0x38 = false →
     k ≠ 0xE7 ∨ s.fget REC_STAT_WRITING = 1 →
     exec (.recCmdSnap k) s = refusedWith s ∧ (k ≠ 0xE7 → exec (.recCmdErase k) s = refusedWith s)) ∧
    (s.unitDown 0x38 = false →
     s.boot.dirOk = true →
     s.recd.erasing = 0 →
     Yields (exec (.recCmdErase 0xE7) s) (fun t =>
       Regs s t [(REC_FULL_FULL, 0), (REC_FULL_MISSED, 0)] ∧ t = { s with regs := t.regs, resp := t.resp, rdata := t.rdata, recd := t.recd, flc := t.flc } ∧ t.resp = .okay ∧ t.recd = { s.recd with erasing := 64 } ∧
       t.flc.waiting = s.flc.waiting ++ (List.range 64).map (fun i => .eraseSector 4 (s.dirField 24 + 4096 * i)))) ∧
    (nextOp s.flc.waiting = none →
     exec (.flashOpStart) s = .next s) ∧
    (∀ (b : Bool),
     s.flc.dead = true →
     exec (.flashOpStart) s = .next s ∧ exec (.flashOpComplete b) s = .next s) ∧
    (∀ (b : Bool),
     s.flc.running = none →
     exec (.flashOpComplete b) s = .next s) ∧
    (∀ (op : FlashOp),
     s.flc.running = none →
     nextOp s.flc.waiting = some op →
     s.flc.dead = false →
     s.touchesUsed op = true →
     Yields (exec (.flashOpStart) s) (fun t =>
       Regs s t [(UPD_STAT_STATE, 0), (UPD_STAT_RESULT, if s.upd.late then 8 else 3), (MEM_EVT_PERM, 1)] ∧ t = { s with regs := t.regs, flc := t.flc, upd := t.upd, flk := t.flk } ∧ t.flk = s.fetchDrop.flk ∧
       t.flc.waiting = (s.flc.waiting.erase op).filter (fun op => op.cls ≠ 3 ∧ op.cls ≠ 5) ∧ t.flc.running = none ∧ t.upd.job = none)) ∧
    (∀ (b : Bool) (op : FlashOp),
     s.flc.running = some op →
     s.flc.dead = false →
     s.touchesUsed op = true →
     Yields (exec (.flashOpComplete b) s) (fun t =>
       Regs s t [(UPD_STAT_STATE, 0), (UPD_STAT_RESULT, if s.upd.late then 8 else 3), (MEM_EVT_PERM, 1)] ∧ t = { s with regs := t.regs, flc := t.flc, upd := t.upd, flk := t.flk } ∧ t.flk = s.fetchDrop.flk ∧
       t.flc.waiting = s.flc.waiting.filter (fun op => op.cls ≠ 3 ∧ op.cls ≠ 5) ∧ t.flc.running = none ∧ t.upd.job = none)) ∧
    (∀ (op : FlashOp),
     s.flc.running = some op →
     s.flc.dead = false →
     s.touchesUsed op = false →
     (op.cls = 2 → exec (.flashOpComplete true) s = .next (({ s with flc := { s.flc with running := none, retry := false } }.flashApply op).wearDone op)) ∧
     (op.cls = 4 → exec (.flashOpComplete true) s = .next (({ s with flc := { s.flc with running := none, retry := false } }.flashApply op).recOpDone op)) ∧
     (op.cls ≠ 2 → op.cls ≠ 4 → exec (.flashOpComplete true) s = .next (({ s with flc := { s.flc with running := none, retry := false } }.flashApply op).updOpDone)) ∧
     (s.flc.retry = true → op.cls = 4 → exec (.flashOpComplete false) s = .next (({ s with flc := { s.flc with running := none, retry := false } }.raise UPD_EVT_FLASH_FAIL).recOpFail op)) ∧
     (s.flc.retry = true → op.cls ≠ 2 → op.cls ≠ 4 → exec (.flashOpComplete false) s = .next ({ s with flc := { s.flc with running := none, retry := false } }.raise UPD_EVT_FLASH_FAIL).updOpFail)) ∧
    (∀ (c a : Nat) (bs : List Byte),
     s.flc.running = some (.program c a bs) →
     c ≠ 2 →
     s.flc.dead = false →
     s.touchesUsed (.program c a bs) = false →
     Yields (exec (.flashOpComplete true) s) (fun t =>
       t.mem = s.mem ∧ t.flash = (s.flashProgram a bs).flash ∧ (∀ l, t.lane l = s.lane l) ∧ t.pending = s.pending)) ∧
    (∀ (a : Nat) (bs : List Byte),
     s.flc.running = some (.program 4 a bs) →
     s.flc.dead = false →
     s.touchesUsed (.program 4 a bs) = false →
     s.flc.retry = true →
     s.fget REC_STAT_NEXT < 255 →
     Yields (exec (.flashOpComplete false) s) (fun t =>
       Regs s t [(UPD_EVT_FLASH_FAIL, 1), (REC_STAT_WRITING, 0), (REC_STAT_NEXT, s.fget REC_STAT_NEXT + 1), (REC_EVT_WRITE_FAIL, 1)] ∧
       t = { s with regs := t.regs, flc := t.flc, recd := { s.recd with writing := none } } ∧ t.flash = s.flash)) ∧
    (∀ (tc : Int) (cm : Nat),
     s.unitDown 0x38 = false →
     s.fget REC_CFG_EN = 1 →
     Yields (exec (.recorderEnvSample tc cm) s) (fun t =>
       t.fget (REC_HIST_h_i_VAL 2 (min (envBin tc (-500) 30) 63)) = plusOne s (REC_HIST_h_i_VAL 2 (min (envBin tc (-500) 30) 63)) ∧
       t.fget (REC_HIST_h_i_VAL 3 (min (envBin (cm * 200 : Nat) (168 * 800) 800) 63)) = plusOne s (REC_HIST_h_i_VAL 3 (min (envBin (cm * 200 : Nat) (168 * 800) 800) 63)) ∧
       (s.fget (pstat .flogic) = 2 → t.fget (REC_HIST_h_i_VAL 1 (min (envBin (s.fget FLD_FVS_MV) 8000 500) 63)) = plusOne s (REC_HIST_h_i_VAL 1 (min (envBin (s.fget FLD_FVS_MV) 8000 500) 63))) ∧
       t = { s with regs := t.regs, recd := t.recd, flc := t.flc } ∧ t.recd = s.recd ∧ t.flc = s.flc ∧ RegsOutside s t 0x400D0000 0x400D1580)) ∧
    (∀ (tc : Int) (cm : Nat),
     s.unitDown 0x38 = true ∨ s.fget REC_CFG_EN = 0 →
     exec (.recorderEnvSample tc cm) s = .next s ∧ exec (.recorderSnapshotPeriod) s = .next s) ∧
    (s.fget REC_STAT_NEXT < 256 →
     s.fget REC_STAT_WRITING = 1 ∨ s.recd.erasing ≠ 0 ∨ s.boot.dirOk = false →
     exec (.recorderSnapshotPeriod) s = .next s) ∧
    (s.unitDown 0x38 = false →
     s.fget REC_STAT_WRITING = 0 →
     (s.fget REC_CFG_EN = 0 ∨ (s.fget REC_STAT_NEXT < 256 ∧ (s.recd.erasing ≠ 0 ∨ s.boot.dirOk = false)) → exec (.recCmdSnap 0xE7) s = .next { s with resp := .okay, rdata := 0 }) ∧
     (s.fget REC_CFG_EN = 1 → 256 ≤ s.fget REC_STAT_NEXT → Yields (exec (.recCmdSnap 0xE7) s) (fun t =>
       Regs s t [(REC_FULL_MISSED, plusOne s REC_FULL_MISSED)] ∧ t = { s with regs := t.regs, resp := .okay, rdata := 0 }))) ∧
    (s.unitDown 0x38 = false →
     s.boot.dirOk = false ∨ s.recd.erasing ≠ 0 →
     exec (.recCmdErase 0xE7) s = .next { s with resp := .okay, rdata := 0 }) ∧
    (∀ (k : BitVec 8),
     s.unitDown 0x38 = true →
     exec (.recCmdSnap k) s = .next { s with resp := .isolated, rdata := 0 } ∧ exec (.recCmdErase k) s = .next { s with resp := .isolated, rdata := 0 })

/-- The update unit (R463 to R472). OPEN of a slot that is not in use queues the erase of its sectors, the header page first; of one in use it is refused with
RESULT 3. WRITE of header bytes puts them in the header buffer and ends with RESULT 1; FETCH reads a station window through the Fold link bridge, 8 bytes at a time, and ends so too, with RESULT 5 where a response is an error; a command in the wrong state is refused with RESULT 2. CLOSE
with a bad image sets VERIFY_FAIL and RESULT 6; with HOLD a good one keeps its header back. ABORT of an open slot ends with RESULT 7; after the commit
point it is ABORT_LATE. ARM needs a closed slot, a window and a swap or a restart that is ready. SETWRITE with room queues the record and
its VALID word by a separate program. A held header that is programmed begins an episode of device-warm. Each command needs key 0x9E. -/
def Obligations.UpdateCommands : Prop :=
  ∀ (s : State),
    (∀ (b : Bool),
     s.unitDown 0x39 = false →
     s.updState = 0 →
     s.upd.job = none →
     s.boot.dirOk = true →
     s.slotInUse b = false →
     Yields (exec (.updOpen 0x9E b) s) (fun t =>
       Regs s t [(UPD_STAT_STATE, 1), (UPD_STAT_RESULT, 0), (UPD_STAT_SLOT, bitNat b), (UPD_STAT_RESTART_NEEDED, 0),
         (UPD_STAT_HELD_HDR, 0)] ∧ t = { s with regs := t.regs, resp := t.resp, rdata := t.rdata, upd := t.upd, flc := t.flc } ∧ t.resp = .okay ∧ t.flc.running = s.flc.running ∧
       t.flc.waiting = s.flc.waiting ++ (List.range (s.slotSize / 4096)).map (fun i => .eraseSector 5 (s.slotBase b + 4096 * i)) ∧
       t.upd = { s.upd with hdr := [], job := some .open_, left := s.slotSize / 4096, begun := false, late := false })) ∧
    (∀ (b : Bool),
     s.unitDown 0x39 = false →
     (s.slotInUse b = true → Yields (exec (.updOpen 0x9E b) s) (fun t =>
       Regs s t [(UPD_STAT_RESULT, 3), (MEM_EVT_PERM, 1)] ∧ t = { s with regs := t.regs, resp := .perm, rdata := 0 })) ∧
     (s.slotInUse b = false → s.updState ≠ 0 → Yields (exec (.updOpen 0x9E b) s) (fun t =>
       Regs s t [(UPD_STAT_RESULT, 2)] ∧ t.resp = .target ∧ t = { s with regs := t.regs, resp := .target, rdata := 0 }))) ∧
    (s.unitDown 0x39 = false →
     s.updState = 2 →
     s.upd.job = none →
     s.argsOk = true →
     commBelow (s.fget UPD_ARG_SRC_SRC) (s.fget UPD_ARG_LEN_LEN) = true →
     (s.engineRead (s.fget UPD_ARG_SRC_SRC) (s.fget UPD_ARG_LEN_LEN)).1 = s →
     (s.engineRead (s.fget UPD_ARG_SRC_SRC) (s.fget UPD_ARG_LEN_LEN)).2 = some (s.memBytes (s.fget UPD_ARG_SRC_SRC) (s.fget UPD_ARG_LEN_LEN)) →
     s.fget UPD_ARG_OFS_OFS + s.fget UPD_ARG_LEN_LEN ≤ 0x1000 →
     Yields (exec (.updWrite 0x9E) s) (fun t =>
       Regs s t [(UPD_STAT_STATE, 2), (UPD_STAT_RESULT, 1)] ∧ t.resp = .okay ∧ t = { s with regs := t.regs, resp := t.resp, rdata := t.rdata, upd := t.upd } ∧
       t.upd = { s.upd with hdr := mapPut flashDflt s.upd.hdr (s.fget UPD_ARG_OFS_OFS) (s.memBytes (s.fget UPD_ARG_SRC_SRC) (s.fget UPD_ARG_LEN_LEN)), job := none, left := 0, begun := false, late := false })) ∧
    (∀ (g : Nat),
     s.unitDown 0x39 = false →
     s.updState = 2 →
     s.upd.job = none →
     s.argsOk = true →
     s.fget UPD_ARG_SRC_SRC / 0x10000000 = 6 →
     (s.attrs (s.fget UPD_ARG_SRC_SRC)).effect = false →
     s.fget UPD_ARG_LEN_LEN ≤ 8 →
     s.unitDown 0x2D = false →
     s.semBlock (s.fget UPD_ARG_SRC_SRC) 3 = none →
     s.fstate (stOf (s.fget UPD_ARG_SRC_SRC)) = 2 →
     s.freeTag (stOf (s.fget UPD_ARG_SRC_SRC)) = some g →
     Yields (exec (.updFetch 0x9E) s) (fun t =>
       Regs s t [(UPD_STAT_STATE, 4), (UPD_STAT_RESULT, 0)] ∧ t.resp = .okay ∧
       t = { s with regs := t.regs, resp := t.resp, rdata := t.rdata, upd := t.upd, flk := t.flk } ∧
       t.upd = { s.upd with job := some (.fetch (s.fget UPD_ARG_SRC_SRC) (s.fget UPD_ARG_OFS_OFS) (s.fget UPD_ARG_LEN_LEN) 1 []), left := 0, begun := false, late := false } ∧
       t.flk = { s.flk with
         sent := t.flk.sent
         reads := s.flk.reads ++ [((stOf (s.fget UPD_ARG_SRC_SRC)), g, { req := { init := .update, write := false, addr := s.fget UPD_ARG_SRC_SRC, size := 8, data := 0, tag := 0 }, named := true, kind := 9, mask := 0xFF, seq := 0, lanes := [] })] } ∧
       t.flk.sent.getLast? = some (foldBytes 1 (s.fget FLK_CFG_CTRL) (stOf (s.fget UPD_ARG_SRC_SRC)) s.claimNow g 0 (leBytes 3 (s.fget UPD_ARG_SRC_SRC / 8 * 8) ++ [0xFF])))) ∧
    (s.unitDown 0x39 = false →
     s.updState = 2 →
     s.upd.job = none →
     s.argsOk = true →
     s.fget UPD_ARG_SRC_SRC / 0x10000000 = 6 →
     (s.attrs (s.fget UPD_ARG_SRC_SRC)).effect = false →
     s.unitDown 0x2D = true ∨ (s.semBlock (s.fget UPD_ARG_SRC_SRC) 3 = none ∧ s.fstate (stOf (s.fget UPD_ARG_SRC_SRC)) ≠ 2) →
     Yields (exec (.updFetch 0x9E) s) (fun t =>
       Regs s t [(UPD_STAT_STATE, 2), (UPD_STAT_RESULT, 5)] ∧ t.resp = .okay ∧ t = { s with regs := t.regs, resp := t.resp, rdata := t.rdata, upd := t.upd } ∧ t.upd = { s.upd with job := none, left := 0, begun := false, late := false })) ∧
    (∀ (f : FoldFrame) (i : HubItem) (a o n : Nat),
     s.flkUp = true →
     foCrcOk f = true →
     foKind f = 3 →
     foCtrl f = s.fget FLK_CFG_CTRL →
     (foBody f).length = 10 →
     s.foldPending (foSt f) (foTs f % 256) = some i →
     s.flk.waitTag = [] →
     i.kind = 9 →
     i.seq = 0 →
     s.upd.job = some (.fetch a o n 1 []) →
     1 ≤ n →
     n ≤ 8 →
     o + n ≤ 0x1000 →
     Yields (exec (.foldRspReceived f) s) (fun t =>
       Regs s t [(UPD_STAT_STATE, 2), (UPD_STAT_RESULT, if leAt (foBody f) 0 1 % 8 = 0 then 1 else 5)] ∧
       t = { s with regs := t.regs, upd := t.upd, flk := t.flk } ∧
       t.upd = { s.upd with
         hdr := if leAt (foBody f) 0 1 % 8 = 0 then mapPut flashDflt s.upd.hdr o ((leBytes 8 (leAt (foBody f) 2 8)).take n) else s.upd.hdr
         job := none, left := 0, begun := false, late := false } ∧
       t.flk = { s.flk with reads := s.flk.reads.filter (fun r => ¬(r.1 = foSt f ∧ r.2.1 = (foTs f % 256))) })) ∧
    (∀ (h : Bool),
     s.unitDown 0x39 = false →
     s.updState ≠ 2 →
     Yields (exec (.updWrite 0x9E) s) (fun t =>
       Regs s t [(UPD_STAT_RESULT, 2)] ∧ t.resp = .target ∧ t = { s with regs := t.regs, resp := .target, rdata := 0 }) ∧
     Yields (exec (.updFetch 0x9E) s) (fun t =>
       Regs s t [(UPD_STAT_RESULT, 2)] ∧ t.resp = .target ∧ t = { s with regs := t.regs, resp := .target, rdata := 0 }) ∧
     Yields (exec (.updClose 0x9E h) s) (fun t =>
       Regs s t [(UPD_STAT_RESULT, 2)] ∧ t.resp = .target ∧ t = { s with regs := t.regs, resp := .target, rdata := 0 })) ∧
    (∀ (h : Bool),
     s.unitDown 0x39 = false →
     s.updState = 2 →
     s.upd.job = none →
     s.closeOk = false →
     s.upd.late = false →
     Yields (exec (.updClose 0x9E h) s) (fun t =>
       Regs s t [(UPD_EVT_VERIFY_FAIL, 1), (UPD_STAT_STATE, 0), (UPD_STAT_RESULT, 6)] ∧ t.resp = .okay ∧ t = { s with regs := t.regs, resp := t.resp, rdata := t.rdata, upd := t.upd } ∧
       t.upd = { s.upd with job := none, left := 0, begun := false, late := false })) ∧
    (s.unitDown 0x39 = false →
     s.updState = 2 →
     s.upd.job = none →
     s.closeOk = true →
     Yields (exec (.updClose 0x9E true) s) (fun t =>
       t.fget UPD_STAT_STATE = 6 ∧ t.fget UPD_STAT_RESULT = 1 ∧ t.fget UPD_STAT_HELD_HDR = 1 ∧ t.resp = .okay ∧
       RegsOutside s t 0x400F0000 0x400F0004 ∧ t = { s with regs := t.regs, resp := t.resp, rdata := t.rdata, upd := t.upd } ∧ t.upd = { s.upd with job := none, left := 0, begun := false, late := false }) ∧
     Yields (exec (.updClose 0x9E false) s) (fun t =>
       t.fget UPD_STAT_STATE = 5 ∧ t.fget UPD_STAT_HELD_HDR = s.fget UPD_STAT_HELD_HDR ∧ t.resp = .okay ∧
       RegsOutside s t 0x400F0000 0x400F0004 ∧ t = { s with regs := t.regs, resp := t.resp, rdata := t.rdata, upd := t.upd, flc := t.flc } ∧
       t.flc.waiting = s.flc.waiting ++ [.program 5 (s.slotBase s.updSlot) s.updHeader] ∧ t.upd.job = some .close)) ∧
    (s.unitDown 0x39 = false →
     s.updState = 2 →
     s.upd.job = none →
     s.upd.late = false →
     Yields (exec (.updAbort 0x9E) s) (fun t =>
       Regs s t [(UPD_STAT_STATE, 0), (UPD_STAT_RESULT, 7), (UPD_STAT_HELD_HDR, 0)] ∧ t = { s with regs := t.regs, resp := t.resp, rdata := t.rdata, upd := t.upd, flc := t.flc, flk := t.flk } ∧ t.flk = s.fetchDrop.flk ∧ t.resp = .okay ∧
       t.flc.waiting = s.flc.waiting.filter (fun op => op.cls ≠ 3 ∧ op.cls ≠ 5) ∧
       t.upd = { s.upd with job := none, left := 0, begun := false, late := false, hdr := [], armed := none })) ∧
    (∀ (j : UpdJob),
     s.unitDown 0x39 = false →
     s.upd.job = some j →
     s.upd.begun = true →
     Yields (exec (.updAbort 0x9E) s) (fun t =>
       Regs s t [(UPD_EVT_ABORT_LATE, 1)] ∧ t.resp = .okay ∧ t = { s with regs := t.regs, resp := t.resp, rdata := t.rdata, upd := t.upd } ∧ t.upd = { s.upd with late := true })) ∧
    (s.unitDown 0x39 = false →
     s.updState = 6 ∨ s.updState = 7 →
     1 ≤ s.fget UPD_ACTWIN_MS ∧ s.fget UPD_ACTWIN_MS ≤ 60000 →
     s.fget BOOT_SSTAT_READY = 0 →
     s.fget UPD_STAT_RESTART_NEEDED = 1 →
     s.fget UPD_STAT_HELD_HDR = 1 →
     s.fget SYS_RSTCFG_SW_WARM_EN = 1 →
     Yields (exec (.updArm 0x9E) s) (fun t =>
       Regs s t [(UPD_STAT_STATE, 7), (UPD_STAT_RESULT, 1)] ∧ t.resp = .okay ∧ t = { s with regs := t.regs, resp := t.resp, rdata := t.rdata, upd := t.upd } ∧
       t.upd = { s.upd with
         armed := some (true, s.fget UPD_ACTTIME_LO_NS + 2 ^ 32 * s.fget UPD_ACTTIME_HI_NS, s.fget UPD_ACTWIN_MS) })) ∧
    (s.unitDown 0x39 = false →
     s.fget UPD_ACTWIN_MS = 0 ∨ 60000 < s.fget UPD_ACTWIN_MS ∨ (s.updState ≠ 6 ∧ s.updState ≠ 7) →
     Yields (exec (.updArm 0x9E) s) (fun t =>
       Regs s t [(UPD_STAT_RESULT, 0xA)] ∧ t.resp = .target ∧ t = { s with regs := t.regs, resp := .target, rdata := 0 })) ∧
    (s.unitDown 0x39 = false →
     s.updState = 7 →
     Yields (exec (.updDisarm 0x9E) s) (fun t =>
       Regs s t [(UPD_STAT_STATE, 6)] ∧ t.resp = .okay ∧ t = { s with regs := t.regs, resp := t.resp, rdata := t.rdata, upd := t.upd } ∧ t.upd = { s.upd with armed := none })) ∧
    (∀ (h : Nat),
     s.unitDown 0x39 = false →
     s.upd.job = none →
     s.updState ≠ 8 →
     1 ≤ s.fget UPD_ARG_LEN_LEN ∧ s.fget UPD_ARG_LEN_LEN ≤ 4080 →
     s.fget UPD_ARG_SRC_SRC % 8 = 0 →
     commBelow (s.fget UPD_ARG_SRC_SRC) (s.fget UPD_ARG_LEN_LEN) = true →
     s.boot.dirOk = true →
     (s.engineRead (s.fget UPD_ARG_SRC_SRC) (s.fget UPD_ARG_LEN_LEN)).1 = s →
     (s.engineRead (s.fget UPD_ARG_SRC_SRC) (s.fget UPD_ARG_LEN_LEN)).2 = some (s.memBytes (s.fget UPD_ARG_SRC_SRC) (s.fget UPD_ARG_LEN_LEN)) →
     s.ownHalf = some h →
     s.setFree h + (setRecord (s.setSeq + 1) s.boot.act.format (s.fget UPD_ARG_OFS_OFS) (s.memBytes (s.fget UPD_ARG_SRC_SRC) (s.fget UPD_ARG_LEN_LEN))).length + 16 ≤ s.setSize →
     Yields (exec (.updSetwrite 0x9E) s) (fun t =>
       Regs s t [(UPD_STAT_STATE, 3), (UPD_STAT_RESULT, 0)] ∧ t = { s with regs := t.regs, resp := t.resp, rdata := t.rdata, upd := t.upd, flc := t.flc } ∧ t.resp = .okay ∧
       t.upd = { s.upd with job := some (.setwrite s.updState), left := 2, begun := false, late := false } ∧
       t.flc.waiting = s.flc.waiting ++ [.program 3 (s.setBase h + s.setFree h) (setRecord (s.setSeq + 1) s.boot.act.format (s.fget UPD_ARG_OFS_OFS) (s.memBytes (s.fget UPD_ARG_SRC_SRC) (s.fget UPD_ARG_LEN_LEN))),
         .program 3 (s.setBase h + s.setFree h + (setRecord (s.setSeq + 1) s.boot.act.format (s.fget UPD_ARG_OFS_OFS) (s.memBytes (s.fget UPD_ARG_SRC_SRC) (s.fget UPD_ARG_LEN_LEN))).length) (leBytes 4 0x5654545A ++ List.replicate 12 0)])) ∧
    (s.updState = 8 →
     s.rst.active = false →
     Yields (exec (.activationHeaderProgrammed true) s) (fun t =>
       t.rst.active = true ∧ t.rst.sources = [.soft] ∧ t.fget SYS_RSTCAUSE_REACH = 1 ∧
       t.flash = (s.flashProgram (s.slotBase s.updSlot) s.updHeader).flash ∧ t.pins.safeOut = false ∧ t.pending = s.pending) ∧
     Yields (exec (.activationHeaderProgrammed false) s) (fun t =>
       Regs s t [(UPD_EVT_FLASH_FAIL, 1), (UPD_STAT_STATE, 6), (UPD_STAT_RESULT, 0xB)] ∧ t = { s with regs := t.regs })) ∧
    (∀ (k : BitVec 8) (b : Bool),
     s.unitDown 0x39 = false →
     k ≠ 0x9E →
     exec (.updOpen k b) s = refusedWith s ∧ exec (.updWrite k) s = refusedWith s ∧ exec (.updFetch k) s = refusedWith s ∧
     exec (.updClose k b) s = refusedWith s ∧ exec (.updArm k) s = refusedWith s ∧ exec (.updDisarm k) s = refusedWith s ∧
     exec (.updAbort k) s = refusedWith s ∧ exec (.updSetwrite k) s = refusedWith s) ∧
    (∀ (b : Bool),
     s.unitDown 0x39 = false →
     s.slotInUse b = false →
     (s.updState ≠ 0 ∨ s.upd.job ≠ none → Yields (exec (.updOpen 0x9E b) s) (fun t =>
       Regs s t [(UPD_STAT_RESULT, 2)] ∧ t.resp = .target ∧ t = { s with regs := t.regs, resp := .target, rdata := 0 })) ∧
     (s.updState = 0 → s.upd.job = none → s.boot.dirOk = false → Yields (exec (.updOpen 0x9E b) s) (fun t =>
       Regs s t [(UPD_STAT_RESULT, 5)] ∧ t.resp = .target ∧ t = { s with regs := t.regs, resp := .target, rdata := 0 }))) ∧
    (s.unitDown 0x39 = false →
     s.updState = 2 →
     s.upd.job = none →
     s.argsOk = true →
     commBelow (s.fget UPD_ARG_SRC_SRC) (s.fget UPD_ARG_LEN_LEN) = true →
     exec (.updWrite 0x9E) s = .next ((s.srcBytes (s.fget UPD_ARG_SRC_SRC) (s.fget UPD_ARG_LEN_LEN)).1.updCopy 3 (s.srcBytes (s.fget UPD_ARG_SRC_SRC) (s.fget UPD_ARG_LEN_LEN)).2.1 (s.srcBytes (s.fget UPD_ARG_SRC_SRC) (s.fget UPD_ARG_LEN_LEN)).2.2)) ∧
    (s.unitDown 0x39 = false →
     s.updState = 2 →
     s.upd.job = none →
     s.argsOk = true →
     s.fget UPD_ARG_SRC_SRC / 0x10000000 = 6 →
     (s.attrs (s.fget UPD_ARG_SRC_SRC)).effect = false →
     exec (.updFetch 0x9E) s = .next (State.fetchPump (s.updBegin 4 (.fetch (s.fget UPD_ARG_SRC_SRC) (s.fget UPD_ARG_OFS_OFS) (s.fget UPD_ARG_LEN_LEN) 0 [])))) ∧
    (s.unitDown 0x39 = false →
     s.updState = 2 →
     s.upd.job = none →
     (s.argsOk = false ∨ commBelow (s.fget UPD_ARG_SRC_SRC) (s.fget UPD_ARG_LEN_LEN) = false → Yields (exec (.updWrite 0x9E) s) (fun t =>
       Regs s t [(UPD_STAT_RESULT, 5)] ∧ t.resp = .target ∧ t = { s with regs := t.regs, resp := .target, rdata := 0 })) ∧
     (s.argsOk = false ∨ s.fget UPD_ARG_SRC_SRC / 0x10000000 ≠ 6 ∨ (s.attrs (s.fget UPD_ARG_SRC_SRC)).effect = true → Yields (exec (.updFetch 0x9E) s) (fun t =>
       Regs s t [(UPD_STAT_RESULT, 5)] ∧ t.resp = .target ∧ t = { s with regs := t.regs, resp := .target, rdata := 0 }))) ∧
    (∀ (h : Bool),
     s.unitDown 0x39 = false →
     s.upd.job ≠ none →
     Yields (exec (.updWrite 0x9E) s) (fun t =>
       Regs s t [(UPD_STAT_RESULT, 2)] ∧ t.resp = .target ∧ t = { s with regs := t.regs, resp := .target, rdata := 0 }) ∧
     Yields (exec (.updFetch 0x9E) s) (fun t =>
       Regs s t [(UPD_STAT_RESULT, 2)] ∧ t.resp = .target ∧ t = { s with regs := t.regs, resp := .target, rdata := 0 }) ∧
     Yields (exec (.updClose 0x9E h) s) (fun t =>
       Regs s t [(UPD_STAT_RESULT, 2)] ∧ t.resp = .target ∧ t = { s with regs := t.regs, resp := .target, rdata := 0 }) ∧
     Yields (exec (.updSetwrite 0x9E) s) (fun t =>
       Regs s t [(UPD_STAT_RESULT, 2)] ∧ t.resp = .target ∧ t = { s with regs := t.regs, resp := .target, rdata := 0 })) ∧
    (∀ (j : UpdJob),
     s.unitDown 0x39 = false →
     s.upd.job = some j →
     (match j with | .setwrite _ => false | _ => true) = true →
     s.upd.begun = false →
     s.upd.late = false →
     Yields (exec (.updAbort 0x9E) s) (fun t =>
       Regs s t [(UPD_STAT_STATE, 0), (UPD_STAT_RESULT, 7), (UPD_STAT_HELD_HDR, 0)] ∧ t = { s with regs := t.regs, resp := t.resp, rdata := t.rdata, upd := t.upd, flc := t.flc, flk := t.flk } ∧ t.flk = s.fetchDrop.flk ∧ t.resp = .okay ∧ t.flc.waiting = s.flc.waiting.filter (fun op => op.cls ≠ 3 ∧ op.cls ≠ 5) ∧ t.upd.job = none ∧ t.upd.hdr = [])) ∧
    (∀ (b : Nat),
     s.unitDown 0x39 = false →
     s.upd.job = some (.setwrite b) →
     b < 16 →
     s.upd.begun = false →
     s.upd.late = false →
     Yields (exec (.updAbort 0x9E) s) (fun t =>
       Regs s t [(UPD_STAT_STATE, b), (UPD_STAT_RESULT, 7)] ∧ t = { s with regs := t.regs, resp := t.resp, rdata := t.rdata, upd := t.upd, flc := t.flc, flk := t.flk } ∧ t.flk = s.fetchDrop.flk ∧ t.resp = .okay ∧ t.flc.waiting = s.flc.waiting.filter (fun op => op.cls ≠ 3 ∧ op.cls ≠ 5) ∧ t.upd.job = none ∧ t.upd.hdr = s.upd.hdr)) ∧
    (s.unitDown 0x39 = false →
     s.upd.job = none →
     s.updState ≠ 2 →
     s.fget UPD_STAT_HELD_HDR = 0 ∨ s.updState = 8 →
     Yields (exec (.updAbort 0x9E) s) (fun t =>
       Regs s t [(UPD_EVT_ABORT_LATE, 1), (UPD_STAT_RESULT, 8)] ∧ t.resp = .okay ∧ t = { s with regs := t.regs, resp := t.resp, rdata := t.rdata, upd := t.upd } ∧ t.upd = s.upd)) ∧
    (s.unitDown 0x39 = false →
     s.upd.job = none →
     s.fget UPD_STAT_HELD_HDR = 1 →
     s.updState ≠ 8 →
     s.upd.late = false →
     Yields (exec (.updAbort 0x9E) s) (fun t =>
       Regs s t [(UPD_STAT_STATE, 0), (UPD_STAT_RESULT, 7), (UPD_STAT_HELD_HDR, 0)] ∧ t = { s with regs := t.regs, resp := t.resp, rdata := t.rdata, upd := t.upd, flc := t.flc, flk := t.flk } ∧ t.flk = s.fetchDrop.flk ∧ t.resp = .okay ∧ t.upd.hdr = [] ∧ t.upd.armed = none)) ∧
    (s.unitDown 0x39 = false →
     s.updState = 6 ∨ s.updState = 7 →
     1 ≤ s.fget UPD_ACTWIN_MS ∧ s.fget UPD_ACTWIN_MS ≤ 60000 →
     s.fget BOOT_SSTAT_READY = 1 →
     s.fget BOOT_SSTAT_NEEDS_RESTART = 0 →
     s.boot.shd.loaded = true →
     s.boot.shd.slot = s.updSlot →
     Yields (exec (.updArm 0x9E) s) (fun t =>
       Regs s t [(UPD_STAT_STATE, 7), (UPD_STAT_RESULT, 1)] ∧ t.resp = .okay ∧ t = { s with regs := t.regs, resp := t.resp, rdata := t.rdata, upd := t.upd } ∧
       t.upd = { s.upd with
         armed := some (false, s.fget UPD_ACTTIME_LO_NS + 2 ^ 32 * s.fget UPD_ACTTIME_HI_NS, s.fget UPD_ACTWIN_MS) })) ∧
    (s.unitDown 0x39 = false →
     s.fget BOOT_SSTAT_READY = 0 ∨ s.fget BOOT_SSTAT_NEEDS_RESTART = 1 ∨ s.boot.shd.loaded = false ∨ s.boot.shd.slot ≠ s.updSlot →
     s.fget UPD_STAT_RESTART_NEEDED = 0 ∨ s.fget UPD_STAT_HELD_HDR = 0 ∨ s.fget SYS_RSTCFG_SW_WARM_EN = 0 →
     Yields (exec (.updArm 0x9E) s) (fun t =>
       Regs s t [(UPD_STAT_RESULT, 0xA)] ∧ t.resp = .target ∧ t = { s with regs := t.regs, resp := .target, rdata := 0 })) ∧
    (s.unitDown 0x39 = false →
     s.updState ≠ 7 →
     Yields (exec (.updDisarm 0x9E) s) (fun t =>
       Regs s t [] ∧ t.resp = .okay ∧ t = { s with regs := t.regs, resp := t.resp, rdata := t.rdata, upd := t.upd } ∧ t.upd = { s.upd with armed := none })) ∧
    (∀ (x : State) (bs : List Byte) (ok : Bool),
     s.unitDown 0x39 = false →
     s.upd.job = none →
     s.updState ≠ 8 →
     1 ≤ s.fget UPD_ARG_LEN_LEN ∧ s.fget UPD_ARG_LEN_LEN ≤ 4080 →
     s.fget UPD_ARG_SRC_SRC % 8 = 0 →
     commBelow (s.fget UPD_ARG_SRC_SRC) (s.fget UPD_ARG_LEN_LEN) = true →
     s.boot.dirOk = true →
     s.srcBytes (s.fget UPD_ARG_SRC_SRC) (s.fget UPD_ARG_LEN_LEN) = (x, bs, ok) →
     (ok = false → exec (.updSetwrite 0x9E) s = .next ({ x with resp := .okay, rdata := 0 }.updEnd s.updState 5)) ∧
     (ok = true → ∀ h, x.ownHalf = some h → x.setFree h + (setRecord (x.setSeq + 1) x.boot.act.format (x.fget UPD_ARG_OFS_OFS) bs).length + 16 ≤ x.setSize →
       exec (.updSetwrite 0x9E) s = .next ((x.updBegin 3 (.setwrite s.updState)).setProgram h (x.setFree h) (setRecord (x.setSeq + 1) x.boot.act.format (x.fget UPD_ARG_OFS_OFS) bs))) ∧
     (ok = true → (∀ h, x.ownHalf = some h → x.setSize < x.setFree h + (setRecord (x.setSeq + 1) x.boot.act.format (x.fget UPD_ARG_OFS_OFS) bs).length + 16) → ∀ h, x.setOther = some h →
       exec (.updSetwrite 0x9E) s = .next ((x.updBegin 3 (.setwrite s.updState)).setCompact h (setRecord (x.setSeq + 1) x.boot.act.format (x.fget UPD_ARG_OFS_OFS) bs))) ∧
     (ok = true → (∀ h, x.ownHalf = some h → x.setSize < x.setFree h + (setRecord (x.setSeq + 1) x.boot.act.format (x.fget UPD_ARG_OFS_OFS) bs).length + 16) → x.setOther = none →
       exec (.updSetwrite 0x9E) s = .next (((x.updBegin 3 (.setwrite s.updState)).raise UPD_EVT_SET_FULL).updEnd s.updState 0xC))) ∧
    (s.unitDown 0x39 = false →
     (s.updState = 8 → Yields (exec (.updSetwrite 0x9E) s) (fun t =>
       Regs s t [(UPD_STAT_RESULT, 2)] ∧ t.resp = .target ∧ t = { s with regs := t.regs, resp := .target, rdata := 0 })) ∧
     (s.upd.job = none → s.updState ≠ 8 → (s.fget UPD_ARG_LEN_LEN = 0 ∨ 4080 < s.fget UPD_ARG_LEN_LEN ∨ s.fget UPD_ARG_SRC_SRC % 8 ≠ 0 ∨ commBelow (s.fget UPD_ARG_SRC_SRC) (s.fget UPD_ARG_LEN_LEN) = false ∨ s.boot.dirOk = false) → Yields (exec (.updSetwrite 0x9E) s) (fun t =>
       Regs s t [(UPD_STAT_RESULT, 5)] ∧ t.resp = .target ∧ t = { s with regs := t.regs, resp := .target, rdata := 0 }))) ∧
    (s.updState = 8 →
     exec (.activationHeaderProgrammed true) s = .next (State.assertDevice ((s.flashProgram (s.slotBase s.updSlot) s.updHeader).raise UPD_EVT_ACT_DONE) .soft false)) ∧
    (∀ (ok : Bool),
     s.updState ≠ 8 →
     exec (.activationHeaderProgrammed ok) s = .next s) ∧
    (∀ (k : BitVec 8) (b : Bool),
     s.unitDown 0x39 = true →
     exec (.updOpen k b) s = .next { s with resp := .isolated, rdata := 0 } ∧ exec (.updWrite k) s = .next { s with resp := .isolated, rdata := 0 } ∧ exec (.updFetch k) s = .next { s with resp := .isolated, rdata := 0 } ∧ exec (.updClose k b) s = .next { s with resp := .isolated, rdata := 0 } ∧ exec (.updArm k) s = .next { s with resp := .isolated, rdata := 0 } ∧ exec (.updDisarm k) s = .next { s with resp := .isolated, rdata := 0 } ∧ exec (.updAbort k) s = .next { s with resp := .isolated, rdata := 0 } ∧ exec (.updSetwrite k) s = .next { s with resp := .isolated, rdata := 0 })

/-- A correction that would fall in an address symbol is not applied (R129): whoever reads the word of shared or communication memory
(the source code of the read is the record's) gets no data, the word is poisoned, UE and its record are set as for an uncorrectable
word, and ADDR_FAULT as well. A read at the hub is answered UNCORR; a scrub step rewrites the word in poisoned form. The word that
was read is never returned as data. -/
def Obligations.AddressFaults : Prop :=
  ∀ (s : State),
    (∀ (bk : Bank) (o src : Nat) (bits : List Nat),
     bankWord bk = 32 →
     src < 8 →
     s.poisonedAt bk o = false →
     s.upsetsAt (wordKey bk o) = bits →
     symbolsHit bits ≤ 5 →
     bits.any (fun b => 336 ≤ b) = true →
     (s.wordRead bk o src).2 = none ∧
     Regs s (s.wordRead bk o src).1 [(MEM_EVT_ADDR_FAULT, 1), (MEM_EVT_UE, 1), (MEM_UEADDR_ADDR, bankAddr bk (wordOff bk o)), (MEM_UEINFO_BANK, bankNum bk),
         (MEM_UEINFO_SRC, src), (MEM_UEINFO_COUNT, plusOne s MEM_UEINFO_COUNT), (REC_CNT_c_VAL 11, plusOne s (REC_CNT_c_VAL 11))] ∧
     (s.wordRead bk o src).1.poisonedAt bk o = true) ∧
    (∀ (bk : Bank) (o : Nat) (bits : List Nat) (r : BusReq),
     s.hubStopped = false →
     busOk r = true →
     s.waitingAt (targetNo (busItem r).req.addr) = [] →
     s.hubPerm (busItem r) = false →
     burstBank r.addr = some (bk, o) →
     r.init ≠ .debug →
     s.poisonedAt bk o = false →
     s.upsetsAt (wordKey bk o) = bits →
     symbolsHit bits ≤ 5 →
     bits.any (fun b => 336 ≤ b) = true →
     r.write = false →
     isLane r.init = false →
     Yields (exec (.hubRequest (.present r)) s) (fun t =>
       Regs s t [(MEM_EVT_ADDR_FAULT, 1), (MEM_EVT_UE, 1), (MEM_UEADDR_ADDR, bankAddr bk (wordOff bk o)), (MEM_UEINFO_BANK, bankNum bk),
         (MEM_UEINFO_SRC, 3), (MEM_UEINFO_COUNT, plusOne s MEM_UEINFO_COUNT), (REC_CNT_c_VAL 11, plusOne s (REC_CNT_c_VAL 11))] ∧
       t.resp = .uncorr ∧ t.rdata = 0 ∧ t.wordBad bk o = true ∧ t.flash = s.flash ∧ t.pending = s.pending ∧
       (∀ l, t.lane l = s.lane l))) ∧
    (∀ (bk : Bank) (o : Nat) (bits : List Nat),
     bankWord bk = 32 →
     s.bankOn bk = true →
     o = s.scrubPtr (bankNum bk) * bankWord bk →
     o + bankWord bk < bankSize bk →
     s.poisonedAt bk o = false →
     s.upsetsAt (wordKey bk o) = bits →
     symbolsHit bits ≤ 5 →
     bits.any (fun b => 336 ≤ b) = true →
     Yields (exec (.scrubStep bk []) s) (fun t =>
       Regs s t [(MEM_EVT_ADDR_FAULT, 1), (MEM_EVT_UE, 1), (MEM_UEADDR_ADDR, bankAddr bk (wordOff bk o)), (MEM_UEINFO_BANK, bankNum bk),
         (MEM_UEINFO_SRC, 2), (MEM_UEINFO_COUNT, plusOne s MEM_UEINFO_COUNT), (REC_CNT_c_VAL 11, plusOne s (REC_CNT_c_VAL 11))] ∧
       t.memBytes (bankKey bk o) 32 = List.replicate 32 0 ∧ MemSame s t (bankKey bk o) 32 ∧
       t.wordBad bk o = true ∧ t.flash = s.flash ∧ t.pending = s.pending ∧ (∀ l, t.lane l = s.lane l)))

/-- For every command c and state s, a step of s with c at the front of its queue is exec of c on s with the queue's rest; the rest, FIRST IN FIRST OUT,
waits. With an empty queue the block idles: one nanosecond passes, which advances only the counters of time (the model's choice, log
entry 2; the spec names no tick). -/
def Obligations.StepRunsTheFront : Prop :=
  (∀ (s : State) (c : Instr) (rest : List Instr),
    step { s with pending := c :: rest } = exec c { s with pending := rest }) ∧
  (∀ s : State, s.pending = [] → Yields (step s) (fun t => t = { s with now := t.now }))

/-- Right after power-on a device-cold episode of source POR is in progress (R63, R76): SYS_RSTCAUSE shows the source POR, REACH cold and BO_RAIL none
(R86), every other register its Reset column (R10), SAFE_OUT_N and RST_OUT_N are low (R80), nothing waits, and the maps are in canonical
form, memory and flash with nothing listed. The values of the lanes' registers are the model's choice and are not stated here. -/
def Obligations.ResetState : Prop :=
  State.reset.pending = [] ∧ State.reset.mem = [] ∧ State.reset.flash = [] ∧ State.reset.wf ∧
  State.reset.rst.active = true ∧ State.reset.rst.sources = [.por] ∧ State.reset.rst.safe = none ∧
  State.reset.pins.safeOut = false ∧ State.reset.pins.rstOut = false ∧ safeOutLow State.reset ∧
  State.reset.regWord 0x40000004 = 0x000F2001 ∧
  (∀ a, a ≠ 0x40000004 → State.reset.regWord a = regReset a)

/-- From every state whose memory, flash and registers are in canonical form (keys strictly rising, nothing listed that an unlisted key reads as), a
step answers a next state, never a fault or a refusal, whatever command is in front, and its maps are in canonical form again, so that
equal contents are equal data. -/
def Obligations.StepsKeepCanonicalForms : Prop :=
  ∀ s : State, s.wf → ∃ t, step s = .next t ∧ t.wf

/-- SAFE_OUT_N is low while the device safe state is in force or an episode of device reach is in progress (R23, R80): every step keeps this, whatever
command it runs. -/
def Obligations.SafeOutputStaysLow : Prop :=
  ∀ s t : State, safeOutLow s → step s = .next t → safeOutLow t

/-- Without FVS or VFL every output and both brake-loop switches are off (R50), and so they are while the field die holds no configuration and in
every device episode (R40). A ball of a paddock that is off, or in a local reset past its drain, shows its in-reset state (R39, R409):
CAN recessive with the transceivers in standby, the Drove drivers disabled. CLK_OUT and PPS_OUT are low in a device episode, and a local
reset of NET reaches PPS_OUT and not CLK_OUT (R41). SAFE_OUT_N shows the level of the state in every case (R23, R80). -/
def Obligations.BallStates : Prop :=
  ∀ (s : State),
    (∀ (n : Nat),
     s.phys.ok.getLsbD 6 = false ∨ s.phys.ok.getLsbD 7 = false ∨ s.fd.cfgd = false ∨ s.rst.active = true →
     s.ball (.dout n) = .off ∧ s.ball .blHs = .off ∧ s.ball .blLs = .off) ∧
    (∀ (n : Nat),
     s.phys.ok.getLsbD 4 = true →
     s.fget (pstat .bus) < 2 ∨ (∃ e, e ∈ s.rst.locals ∧ e.target = 8 ∧ e.phase = .hold) →
     s.ball (.canTx n) = .high ∧ s.ball (.canStb n) = .high ∧ s.ball (.drvDe n) = .low ∧ s.ball (.drvTx n) = .high ∧
     s.ball (.canRx n) = .zpu) ∧
    (s.phys.ok.getLsbD 3 = true →
     s.rst.active = true →
     s.ball .clkOut = .low ∧ s.ball .ppsOut = .low ∧ s.ball .xspiCsN = .high) ∧
    (∀ (e : LocalEp),
     s.phys.ok.getLsbD 3 = true →
     s.rst.active = false →
     e ∈ s.rst.locals →
     e.target = 7 →
     e.phase = .asserted →
     s.fget CLK_OUTCFG_SEL ≠ 0 →
     s.ball .ppsOut = .low ∧ s.ball .clkOut = .used) ∧
    (s.phys.ok.getLsbD 3 = true →
     s.ball .safeOutN = (if s.pins.safeOut then .high else .low) ∧ s.ball .rstOutN = (if s.pins.rstOut then .high else .low))
end

