-- ==== Sys2Proof/Laws/SMap.lean ====
section
/-! SUPPORT. Sys2Proof/Laws/SMap.lean: the laws of sparse maps: what a read gives after each
operation, and that every operation keeps the canonical form. -/

namespace Sys2Proof.Machine

variable {α : Type}

theorem smGet_smPut (d : Nat → α) (m : List (Nat × α)) (k j : Nat) (v : α) :
    smGet d (smPut m k v) j = if k = j then v else smGet d m j := by
  induction m with
  | nil => simp [smPut, smGet]
  | cons p t ih =>
    obtain ⟨a, x⟩ := p
    simp only [smPut]
    split
    · simp [smGet]
    · split
      · simp only [smGet]; subst_vars; split <;> rfl
      · simp only [smGet, ih]; split <;> split <;> simp_all

theorem smGet_filter (d : Nat → α) (m : List (Nat × α)) (q : Nat → Bool) (j : Nat) :
    smGet d (m.filter (fun p => q p.1)) j = if q j then smGet d m j else d j := by
  induction m with
  | nil => simp [smGet]
  | cons p t ih =>
    obtain ⟨a, x⟩ := p
    simp only [List.filter_cons]
    by_cases h : q a
    · simp only [h, if_true, smGet, ih]
      by_cases e : a = j
      · subst e; simp [h]
      · simp [e]
    · rw [if_neg h, ih]
      by_cases e : a = j
      · subst e; simp [h]
      · simp [smGet, e]

theorem smGet_smDel (d : Nat → α) (m : List (Nat × α)) (k j : Nat) :
    smGet d (smDel m k) j = if k = j then d j else smGet d m j := by
  rw [smDel, smGet_filter d m (fun a => a != k)]
  by_cases h : k = j
  · subst h; simp
  · have h' : j ≠ k := fun e => h e.symm
    simp [h, h']

/-- A read after a write: the value at the key, the old value everywhere else. -/
theorem smGet_smSet [DecidableEq α] (d : Nat → α) (m : List (Nat × α)) (k j : Nat) (v : α) :
    smGet d (smSet d m k v) j = if k = j then v else smGet d m j := by
  unfold smSet
  split
  · rename_i h
    rw [smGet_smDel]
    split
    · rename_i e; rw [h, e]
    · rfl
  · exact smGet_smPut d m k j v

@[simp] theorem smGet_smSet_self [DecidableEq α] (d : Nat → α) (m : List (Nat × α)) (k : Nat)
    (v : α) : smGet d (smSet d m k v) k = v := by simp [smGet_smSet]

theorem smGet_smClear (d : Nat → α) (m : List (Nat × α)) (lo n j : Nat) :
    smGet d (smClear m lo n) j = if lo ≤ j ∧ j < lo + n then d j else smGet d m j := by
  rw [smClear, smGet_filter d m (fun a => !(lo ≤ a && a < lo + n))]
  by_cases h : lo ≤ j ∧ j < lo + n
  · simp [h.1, h.2]
  · rw [if_neg h, if_pos]
    simp only [Bool.not_eq_true', Bool.and_eq_false_iff, decide_eq_false_iff_not]
    omega

/-! ### The canonical form -/

theorem smWfFrom_mono [DecidableEq α] {d : Nat → α} {m : List (Nat × α)} {b c : Nat}
    (h : smWfFrom d c m = true) (hb : b ≤ c) : smWfFrom d b m = true := by
  cases m with
  | nil => rfl
  | cons p t =>
    obtain ⟨a, x⟩ := p
    simp only [smWfFrom, Bool.and_eq_true, decide_eq_true_eq] at h ⊢
    exact ⟨⟨by omega, h.1.2⟩, h.2⟩

theorem smWfFrom_filter [DecidableEq α] {d : Nat → α} (q : Nat × α → Bool) :
    ∀ {m : List (Nat × α)} {b : Nat}, smWfFrom d b m = true → smWfFrom d b (m.filter q) = true
  | [], _, _ => rfl
  | (a, x) :: t, b, h => by
    simp only [smWfFrom, Bool.and_eq_true, decide_eq_true_eq] at h
    simp only [List.filter_cons]
    split
    · simp only [smWfFrom, Bool.and_eq_true, decide_eq_true_eq]
      exact ⟨h.1, smWfFrom_filter q h.2⟩
    · exact smWfFrom_mono (smWfFrom_filter q h.2) (by omega)

theorem smWfFrom_smPut [DecidableEq α] {d : Nat → α} {k : Nat} {v : α} (hv : v ≠ d k) :
    ∀ {m : List (Nat × α)} {b : Nat}, b ≤ k → smWfFrom d b m = true →
      smWfFrom d b (smPut m k v) = true
  | [], b, hb, _ => by simp [smPut, smWfFrom, hb, hv]
  | (a, x) :: t, b, hb, h => by
    simp only [smWfFrom, Bool.and_eq_true, decide_eq_true_eq, Bool.not_eq_true',
      decide_eq_false_iff_not] at h
    simp only [smPut]
    split
    · rename_i hk
      simp [smWfFrom, hb, hv, h.1.2, h.2, Nat.succ_le_of_lt hk]
    · split
      · rename_i hk
        subst hk
        simp [smWfFrom, hb, hv, h.2]
      · rename_i h1 h2
        simp only [smWfFrom, Bool.and_eq_true, decide_eq_true_eq, Bool.not_eq_true',
          decide_eq_false_iff_not]
        exact ⟨h.1, smWfFrom_smPut hv (by omega) h.2⟩

theorem smWf_filter [DecidableEq α] {d : Nat → α} {m : List (Nat × α)} (q : Nat × α → Bool)
    (h : smWf d m = true) : smWf d (m.filter q) = true := smWfFrom_filter q h

theorem smWf_smClear [DecidableEq α] {d : Nat → α} {m : List (Nat × α)} (lo n : Nat)
    (h : smWf d m = true) : smWf d (smClear m lo n) = true := smWfFrom_filter _ h

/-- A write keeps the canonical form. -/
theorem smWf_smSet [DecidableEq α] {d : Nat → α} {m : List (Nat × α)} (k : Nat) (v : α)
    (h : smWf d m = true) : smWf d (smSet d m k v) = true := by
  unfold smSet
  split
  · exact smWfFrom_filter _ h
  · rename_i hv
    exact smWfFrom_smPut hv (Nat.zero_le k) h

theorem smWf_foldl [DecidableEq α] {d : Nat → α} {β : Type} (f : List (Nat × α) → β → List (Nat × α))
    (hf : ∀ m b, smWf d m = true → smWf d (f m b) = true) (bs : List β) (m : List (Nat × α))
    (h : smWf d m = true) : smWf d (bs.foldl f m) = true := by
  induction bs generalizing m with
  | nil => exact h
  | cons b bs ih => exact ih _ (hf m b h)

/-- What a canonical map reads below its first key is the default. -/
theorem smGet_of_lt [DecidableEq α] {d : Nat → α} :
    ∀ {m : List (Nat × α)} {b j : Nat}, smWfFrom d b m = true → j < b → smGet d m j = d j
  | [], _, _, _, _ => rfl
  | (a, x) :: t, b, j, h, hj => by
    simp only [smWfFrom, Bool.and_eq_true, decide_eq_true_eq] at h
    have : a ≠ j := by omega
    simp only [smGet, this, if_false]
    exact smGet_of_lt h.2 (by omega)

/-- Equal memories are equal data: two canonical maps that read alike are the same list. -/
theorem smWfFrom_ext [DecidableEq α] {d : Nat → α} :
    ∀ {m n : List (Nat × α)} {b : Nat}, smWfFrom d b m = true → smWfFrom d b n = true →
      (∀ k, smGet d m k = smGet d n k) → m = n
  | [], [], _, _, _, _ => rfl
  | [], (a, x) :: t, b, _, hn, h => by
    simp only [smWfFrom, Bool.and_eq_true, Bool.not_eq_true', decide_eq_false_iff_not] at hn
    have := h a
    simp only [smGet, if_true] at this
    exact absurd this.symm hn.1.2
  | (a, x) :: t, [], b, hm, _, h => by
    simp only [smWfFrom, Bool.and_eq_true, Bool.not_eq_true', decide_eq_false_iff_not] at hm
    have := h a
    simp only [smGet, if_true] at this
    exact absurd this hm.1.2
  | (a, x) :: t, (c, y) :: u, b, hm, hn, h => by
    simp only [smWfFrom, Bool.and_eq_true, Bool.not_eq_true', decide_eq_false_iff_not,
      decide_eq_true_eq] at hm hn
    rcases Nat.lt_trichotomy a c with hac | hac | hac
    · have e := h a
      have hne : c ≠ a := by omega
      simp only [smGet, if_true, hne, if_false, smGet_of_lt hn.2 (show a < c + 1 by omega)] at e
      exact absurd e hm.1.2
    · subst hac
      have e := h a
      simp only [smGet, if_true] at e
      subst e
      have ht : t = u := smWfFrom_ext hm.2 hn.2 (fun k => by
        by_cases hk : a = k
        · subst hk
          rw [smGet_of_lt hm.2 (Nat.lt_succ_self a), smGet_of_lt hn.2 (Nat.lt_succ_self a)]
        · simpa only [smGet, hk, if_false] using h k)
      rw [ht]
    · have e := h c
      have hne : a ≠ c := by omega
      simp only [smGet, if_true, hne, if_false, smGet_of_lt hm.2 (show c < a + 1 by omega)] at e
      exact absurd e.symm hn.1.2

end Sys2Proof.Machine
end

