-- ==== Sys2Proof/Laws/Regs.lean ====
section
/-! SUPPORT. Sys2Proof/Laws/Regs.lean: bit fields of numbers and fields of registers: what a field
reads after a field was written, and the canonical form of the register map. -/

namespace Sys2Proof.Machine

/-! ### Bit fields -/

theorem setBits_div_lo (v lo w x : Nat) :
    setBits v lo w x / 2 ^ lo = v / 2 ^ (lo + w) * 2 ^ w + x % 2 ^ w := by
  have hp : 0 < 2 ^ lo := Nat.two_pow_pos lo
  have ht : v % 2 ^ lo < 2 ^ lo := Nat.mod_lt _ hp
  have e : setBits v lo w x = 2 ^ lo * (v / 2 ^ (lo + w) * 2 ^ w + x % 2 ^ w) + v % 2 ^ lo := by
    unfold setBits
    rw [pow_add]
    ring
  rw [e, Nat.mul_add_div hp, Nat.div_eq_of_lt ht, Nat.add_zero]

theorem setBits_div_hi (v lo w x : Nat) :
    setBits v lo w x / 2 ^ (lo + w) = v / 2 ^ (lo + w) := by
  have hq : 0 < 2 ^ w := Nat.two_pow_pos w
  have hr : x % 2 ^ w < 2 ^ w := Nat.mod_lt _ hq
  rw [pow_add, ← Nat.div_div_eq_div_mul, setBits_div_lo, Nat.mul_comm (v / _) _,
    Nat.mul_add_div hq, Nat.div_eq_of_lt hr, Nat.add_zero, pow_add]

theorem setBits_mod_lo (v lo w x : Nat) : setBits v lo w x % 2 ^ lo = v % 2 ^ lo := by
  have e : setBits v lo w x = v % 2 ^ lo + 2 ^ lo * (v / 2 ^ (lo + w) * 2 ^ w + x % 2 ^ w) := by
    unfold setBits
    rw [pow_add]
    ring
  rw [e, Nat.add_mul_mod_self_left, Nat.mod_mod]

/-- A field reads as it was written. -/
theorem bitsOf_setBits_self (v lo w x : Nat) : bitsOf (setBits v lo w x) lo w = x % 2 ^ w := by
  unfold bitsOf
  rw [setBits_div_lo, Nat.add_comm, Nat.add_mul_mod_self_right, Nat.mod_mod]

/-- A field below the written one keeps its value. -/
theorem bitsOf_setBits_below {v lo w x lo' w' : Nat} (h : lo' + w' ≤ lo) :
    bitsOf (setBits v lo w x) lo' w' = bitsOf v lo' w' := by
  have key : ∀ y, bitsOf y lo' w' = bitsOf (y % 2 ^ lo) lo' w' := by
    intro y
    unfold bitsOf
    rw [← Nat.mod_mul_right_div_self, ← Nat.mod_mul_right_div_self, ← pow_add,
      Nat.mod_mod_of_dvd _ (pow_dvd_pow 2 h)]
  rw [key, setBits_mod_lo, ← key]

/-- A field above the written one keeps its value. -/
theorem bitsOf_setBits_above {v lo w x lo' w' : Nat} (h : lo + w ≤ lo') :
    bitsOf (setBits v lo w x) lo' w' = bitsOf v lo' w' := by
  unfold bitsOf
  obtain ⟨k, rfl⟩ := Nat.exists_eq_add_of_le h
  rw [pow_add, ← Nat.div_div_eq_div_mul, ← Nat.div_div_eq_div_mul, setBits_div_hi]

theorem setBits_lt {v lo w x n : Nat} (hv : v < 2 ^ n) (h : lo + w ≤ n) :
    setBits v lo w x < 2 ^ n := by
  obtain ⟨k, rfl⟩ := Nat.exists_eq_add_of_le h
  have hp : 0 < 2 ^ (lo + w) := Nat.two_pow_pos _
  rw [pow_add, Nat.mul_comm] at hv ⊢
  rw [← Nat.div_lt_iff_lt_mul hp] at hv ⊢
  rwa [setBits_div_hi]

theorem bitsOf_lt (v lo w : Nat) : bitsOf v lo w < 2 ^ w := Nat.mod_lt _ (Nat.two_pow_pos w)

/-! ### Registers -/

theorem RegMap.word_setWord (m : RegMap) (a b : Nat) (v : Word) :
    (m.setWord a v).word b = if a = b then v else m.word b := smGet_smSet regReset m a b v

@[simp] theorem RegMap.word_setWord_self (m : RegMap) (a : Nat) (v : Word) :
    (m.setWord a v).word a = v := by simp [RegMap.word_setWord]

theorem RegMap.word_setWord_ne (m : RegMap) {a b : Nat} (v : Word) (h : a ≠ b) :
    (m.setWord a v).word b = m.word b := by simp [RegMap.word_setWord, h]

/-- A field reads as it was written. -/
theorem RegMap.fget_fset_self (m : RegMap) (f : Fld) (v : Nat) (h : f.lo + f.width ≤ 32) :
    (m.fset f v).fget f = v % 2 ^ f.width := by
  unfold RegMap.fget RegMap.fset
  rw [RegMap.word_setWord_self, BitVec.toNat_ofNat,
    Nat.mod_eq_of_lt (setBits_lt (m.word f.addr).isLt h), bitsOf_setBits_self]

/-- A field that shares no bit with the written one keeps its value. -/
theorem RegMap.fget_fset_apart (m : RegMap) (f g : Fld) (v : Nat) (h : f.lo + f.width ≤ 32)
    (hg : f.apart g = true) : (m.fset f v).fget g = m.fget g := by
  unfold RegMap.fget RegMap.fset
  by_cases ha : f.addr = g.addr
  · rw [ha, RegMap.word_setWord_self, BitVec.toNat_ofNat,
      Nat.mod_eq_of_lt (setBits_lt (m.word g.addr).isLt h)]
    simp only [Fld.apart, ha, ne_eq, not_true_eq_false, decide_false, Bool.false_or,
      Bool.or_eq_true, decide_eq_true_eq] at hg
    rcases hg with hg | hg
    · exact bitsOf_setBits_above hg
    · exact bitsOf_setBits_below hg
  · rw [RegMap.word_setWord_ne _ _ ha]

/-- The other registers keep their words. -/
theorem RegMap.word_fset_ne (m : RegMap) (f : Fld) (v : Nat) {a : Nat} (h : f.addr ≠ a) :
    (m.fset f v).word a = m.word a := RegMap.word_setWord_ne m _ h

theorem RegMap.fget_lt (m : RegMap) (f : Fld) : m.fget f < 2 ^ f.width := bitsOf_lt _ _ _

/-! ### The canonical form -/

theorem regWf_setWord {m : RegMap} (a : Nat) (v : Word) (h : regWf m = true) :
    regWf (m.setWord a v) = true := smWf_smSet a v h

theorem regWf_fset {m : RegMap} (f : Fld) (v : Nat) (h : regWf m = true) :
    regWf (m.fset f v) = true := smWf_smSet _ _ h

theorem regWf_clear {m : RegMap} (lo n : Nat) (h : regWf m = true) :
    regWf (m.clear lo n) = true := smWf_smClear lo n h

theorem regWf_foldl {β : Type} {f : RegMap → β → RegMap}
    (hf : ∀ m b, regWf m = true → regWf (f m b) = true) (bs : List β) {m : RegMap}
    (h : regWf m = true) : regWf (bs.foldl f m) = true := smWf_foldl f hf bs m h

theorem regWf_afterReset (cold : Bool) (m : RegMap) : regWf (m.afterReset cold) = true :=
  regWf_foldl (fun m' p h => regWf_setWord p.1 (regAfterReset cold p.1 p.2) h) m (by rfl)

end Sys2Proof.Machine
end

