-- ==== Sys2Proof/Laws/State.lean ====
section
/-! SUPPORT. Sys2Proof/Laws/State.lean: one lemma for each field of State and each basic update, so
that no proof unfolds a record update; and what reads give after writes. -/

namespace Sys2Proof.Machine

/-! ### State.fset -/

@[simp] theorem State.fset_pending (s : State) (f : Fld) (v : Nat) : (s.fset f v).pending = s.pending := rfl
@[simp] theorem State.fset_mem (s : State) (f : Fld) (v : Nat) : (s.fset f v).mem = s.mem := rfl
@[simp] theorem State.fset_flash (s : State) (f : Fld) (v : Nat) : (s.fset f v).flash = s.flash := rfl
@[simp] theorem State.fset_phys (s : State) (f : Fld) (v : Nat) : (s.fset f v).phys = s.phys := rfl
@[simp] theorem State.fset_board (s : State) (f : Fld) (v : Nat) : (s.fset f v).board = s.board := rfl
@[simp] theorem State.fset_pins (s : State) (f : Fld) (v : Nat) : (s.fset f v).pins = s.pins := rfl
@[simp] theorem State.fset_bkup (s : State) (f : Fld) (v : Nat) : (s.fset f v).bkup = s.bkup := rfl
@[simp] theorem State.fset_pwr (s : State) (f : Fld) (v : Nat) : (s.fset f v).pwr = s.pwr := rfl
@[simp] theorem State.fset_rst (s : State) (f : Fld) (v : Nat) : (s.fset f v).rst = s.rst := rfl
@[simp] theorem State.fset_clk (s : State) (f : Fld) (v : Nat) : (s.fset f v).clk = s.clk := rfl
@[simp] theorem State.fset_memx (s : State) (f : Fld) (v : Nat) : (s.fset f v).memx = s.memx := rfl
@[simp] theorem State.fset_wear (s : State) (f : Fld) (v : Nat) : (s.fset f v).wear = s.wear := rfl
@[simp] theorem State.fset_flc (s : State) (f : Fld) (v : Nat) : (s.fset f v).flc = s.flc := rfl
@[simp] theorem State.fset_boot (s : State) (f : Fld) (v : Nat) : (s.fset f v).boot = s.boot := rfl
@[simp] theorem State.fset_laneA (s : State) (f : Fld) (v : Nat) : (s.fset f v).laneA = s.laneA := rfl
@[simp] theorem State.fset_laneB (s : State) (f : Fld) (v : Nat) : (s.fset f v).laneB = s.laneB := rfl
@[simp] theorem State.fset_laneC (s : State) (f : Fld) (v : Nat) : (s.fset f v).laneC = s.laneC := rfl
@[simp] theorem State.fset_triad (s : State) (f : Fld) (v : Nat) : (s.fset f v).triad = s.triad := rfl
@[simp] theorem State.fset_cyc (s : State) (f : Fld) (v : Nat) : (s.fset f v).cyc = s.cyc := rfl
@[simp] theorem State.fset_now (s : State) (f : Fld) (v : Nat) : (s.fset f v).now = s.now := rfl
@[simp] theorem State.fset_fd (s : State) (f : Fld) (v : Nat) : (s.fset f v).fd = s.fd := rfl
@[simp] theorem State.fset_link (s : State) (f : Fld) (v : Nat) : (s.fset f v).link = s.link := rfl
@[simp] theorem State.fset_sig (s : State) (f : Fld) (v : Nat) : (s.fset f v).sig = s.sig := rfl
@[simp] theorem State.fset_sigAt (s : State) (f : Fld) (v : Nat) : (s.fset f v).sigAt = s.sigAt := rfl
@[simp] theorem State.fset_clkOut (s : State) (f : Fld) (v : Nat) : (s.fset f v).clkOut = s.clkOut := rfl
@[simp] theorem State.fset_sigSlot (s : State) (f : Fld) (v : Nat) : (s.fset f v).sigSlot = s.sigSlot := rfl
@[simp] theorem State.fset_eth (s : State) (f : Fld) (v : Nat) : (s.fset f v).eth = s.eth := rfl
@[simp] theorem State.fset_pde (s : State) (f : Fld) (v : Nat) : (s.fset f v).pde = s.pde := rfl
@[simp] theorem State.fset_tim (s : State) (f : Fld) (v : Nat) : (s.fset f v).tim = s.tim := rfl
@[simp] theorem State.fset_can (s : State) (f : Fld) (v : Nat) : (s.fset f v).can = s.can := rfl
@[simp] theorem State.fset_drv (s : State) (f : Fld) (v : Nat) : (s.fset f v).drv = s.drv := rfl
@[simp] theorem State.fset_flk (s : State) (f : Fld) (v : Nat) : (s.fset f v).flk = s.flk := rfl
@[simp] theorem State.fset_station (s : State) (f : Fld) (v : Nat) : (s.fset f v).station = s.station := rfl
@[simp] theorem State.fset_pair (s : State) (f : Fld) (v : Nat) : (s.fset f v).pair = s.pair := rfl
@[simp] theorem State.fset_recd (s : State) (f : Fld) (v : Nat) : (s.fset f v).recd = s.recd := rfl
@[simp] theorem State.fset_upd (s : State) (f : Fld) (v : Nat) : (s.fset f v).upd = s.upd := rfl
@[simp] theorem State.fset_rtag (s : State) (f : Fld) (v : Nat) : (s.fset f v).rtag = s.rtag := rfl
@[simp] theorem State.fset_reff (s : State) (f : Fld) (v : Nat) : (s.fset f v).reff = s.reff := rfl
@[simp] theorem State.fset_resp (s : State) (f : Fld) (v : Nat) : (s.fset f v).resp = s.resp := rfl
@[simp] theorem State.fset_rdata (s : State) (f : Fld) (v : Nat) : (s.fset f v).rdata = s.rdata := rfl
@[simp] theorem State.fset_freeCtr (s : State) (f : Fld) (v : Nat) : (s.fset f v).freeCtr = s.freeCtr := rfl

/-! ### State.setReg -/

@[simp] theorem State.setReg_pending (s : State) (a : Nat) (v : Word) : (s.setReg a v).pending = s.pending := rfl
@[simp] theorem State.setReg_mem (s : State) (a : Nat) (v : Word) : (s.setReg a v).mem = s.mem := rfl
@[simp] theorem State.setReg_flash (s : State) (a : Nat) (v : Word) : (s.setReg a v).flash = s.flash := rfl
@[simp] theorem State.setReg_phys (s : State) (a : Nat) (v : Word) : (s.setReg a v).phys = s.phys := rfl
@[simp] theorem State.setReg_board (s : State) (a : Nat) (v : Word) : (s.setReg a v).board = s.board := rfl
@[simp] theorem State.setReg_pins (s : State) (a : Nat) (v : Word) : (s.setReg a v).pins = s.pins := rfl
@[simp] theorem State.setReg_bkup (s : State) (a : Nat) (v : Word) : (s.setReg a v).bkup = s.bkup := rfl
@[simp] theorem State.setReg_pwr (s : State) (a : Nat) (v : Word) : (s.setReg a v).pwr = s.pwr := rfl
@[simp] theorem State.setReg_rst (s : State) (a : Nat) (v : Word) : (s.setReg a v).rst = s.rst := rfl
@[simp] theorem State.setReg_clk (s : State) (a : Nat) (v : Word) : (s.setReg a v).clk = s.clk := rfl
@[simp] theorem State.setReg_memx (s : State) (a : Nat) (v : Word) : (s.setReg a v).memx = s.memx := rfl
@[simp] theorem State.setReg_wear (s : State) (a : Nat) (v : Word) : (s.setReg a v).wear = s.wear := rfl
@[simp] theorem State.setReg_flc (s : State) (a : Nat) (v : Word) : (s.setReg a v).flc = s.flc := rfl
@[simp] theorem State.setReg_boot (s : State) (a : Nat) (v : Word) : (s.setReg a v).boot = s.boot := rfl
@[simp] theorem State.setReg_laneA (s : State) (a : Nat) (v : Word) : (s.setReg a v).laneA = s.laneA := rfl
@[simp] theorem State.setReg_laneB (s : State) (a : Nat) (v : Word) : (s.setReg a v).laneB = s.laneB := rfl
@[simp] theorem State.setReg_laneC (s : State) (a : Nat) (v : Word) : (s.setReg a v).laneC = s.laneC := rfl
@[simp] theorem State.setReg_triad (s : State) (a : Nat) (v : Word) : (s.setReg a v).triad = s.triad := rfl
@[simp] theorem State.setReg_cyc (s : State) (a : Nat) (v : Word) : (s.setReg a v).cyc = s.cyc := rfl
@[simp] theorem State.setReg_now (s : State) (a : Nat) (v : Word) : (s.setReg a v).now = s.now := rfl
@[simp] theorem State.setReg_fd (s : State) (a : Nat) (v : Word) : (s.setReg a v).fd = s.fd := rfl
@[simp] theorem State.setReg_link (s : State) (a : Nat) (v : Word) : (s.setReg a v).link = s.link := rfl
@[simp] theorem State.setReg_sig (s : State) (a : Nat) (v : Word) : (s.setReg a v).sig = s.sig := rfl
@[simp] theorem State.setReg_sigAt (s : State) (a : Nat) (v : Word) : (s.setReg a v).sigAt = s.sigAt := rfl
@[simp] theorem State.setReg_clkOut (s : State) (a : Nat) (v : Word) : (s.setReg a v).clkOut = s.clkOut := rfl
@[simp] theorem State.setReg_sigSlot (s : State) (a : Nat) (v : Word) : (s.setReg a v).sigSlot = s.sigSlot := rfl
@[simp] theorem State.setReg_eth (s : State) (a : Nat) (v : Word) : (s.setReg a v).eth = s.eth := rfl
@[simp] theorem State.setReg_pde (s : State) (a : Nat) (v : Word) : (s.setReg a v).pde = s.pde := rfl
@[simp] theorem State.setReg_tim (s : State) (a : Nat) (v : Word) : (s.setReg a v).tim = s.tim := rfl
@[simp] theorem State.setReg_can (s : State) (a : Nat) (v : Word) : (s.setReg a v).can = s.can := rfl
@[simp] theorem State.setReg_drv (s : State) (a : Nat) (v : Word) : (s.setReg a v).drv = s.drv := rfl
@[simp] theorem State.setReg_flk (s : State) (a : Nat) (v : Word) : (s.setReg a v).flk = s.flk := rfl
@[simp] theorem State.setReg_station (s : State) (a : Nat) (v : Word) : (s.setReg a v).station = s.station := rfl
@[simp] theorem State.setReg_pair (s : State) (a : Nat) (v : Word) : (s.setReg a v).pair = s.pair := rfl
@[simp] theorem State.setReg_recd (s : State) (a : Nat) (v : Word) : (s.setReg a v).recd = s.recd := rfl
@[simp] theorem State.setReg_upd (s : State) (a : Nat) (v : Word) : (s.setReg a v).upd = s.upd := rfl
@[simp] theorem State.setReg_rtag (s : State) (a : Nat) (v : Word) : (s.setReg a v).rtag = s.rtag := rfl
@[simp] theorem State.setReg_reff (s : State) (a : Nat) (v : Word) : (s.setReg a v).reff = s.reff := rfl
@[simp] theorem State.setReg_resp (s : State) (a : Nat) (v : Word) : (s.setReg a v).resp = s.resp := rfl
@[simp] theorem State.setReg_rdata (s : State) (a : Nat) (v : Word) : (s.setReg a v).rdata = s.rdata := rfl
@[simp] theorem State.setReg_freeCtr (s : State) (a : Nat) (v : Word) : (s.setReg a v).freeCtr = s.freeCtr := rfl

/-! ### State.memPut -/

@[simp] theorem State.memPut_pending (s : State) (k : Nat) (bs : List Byte) : (s.memPut k bs).pending = s.pending := rfl
@[simp] theorem State.memPut_regs (s : State) (k : Nat) (bs : List Byte) : (s.memPut k bs).regs = s.regs := rfl
@[simp] theorem State.memPut_flash (s : State) (k : Nat) (bs : List Byte) : (s.memPut k bs).flash = s.flash := rfl
@[simp] theorem State.memPut_phys (s : State) (k : Nat) (bs : List Byte) : (s.memPut k bs).phys = s.phys := rfl
@[simp] theorem State.memPut_board (s : State) (k : Nat) (bs : List Byte) : (s.memPut k bs).board = s.board := rfl
@[simp] theorem State.memPut_pins (s : State) (k : Nat) (bs : List Byte) : (s.memPut k bs).pins = s.pins := rfl
@[simp] theorem State.memPut_bkup (s : State) (k : Nat) (bs : List Byte) : (s.memPut k bs).bkup = s.bkup := rfl
@[simp] theorem State.memPut_pwr (s : State) (k : Nat) (bs : List Byte) : (s.memPut k bs).pwr = s.pwr := rfl
@[simp] theorem State.memPut_rst (s : State) (k : Nat) (bs : List Byte) : (s.memPut k bs).rst = s.rst := rfl
@[simp] theorem State.memPut_clk (s : State) (k : Nat) (bs : List Byte) : (s.memPut k bs).clk = s.clk := rfl
@[simp] theorem State.memPut_memx (s : State) (k : Nat) (bs : List Byte) : (s.memPut k bs).memx = s.memx := rfl
@[simp] theorem State.memPut_wear (s : State) (k : Nat) (bs : List Byte) : (s.memPut k bs).wear = s.wear := rfl
@[simp] theorem State.memPut_flc (s : State) (k : Nat) (bs : List Byte) : (s.memPut k bs).flc = s.flc := rfl
@[simp] theorem State.memPut_boot (s : State) (k : Nat) (bs : List Byte) : (s.memPut k bs).boot = s.boot := rfl
@[simp] theorem State.memPut_laneA (s : State) (k : Nat) (bs : List Byte) : (s.memPut k bs).laneA = s.laneA := rfl
@[simp] theorem State.memPut_laneB (s : State) (k : Nat) (bs : List Byte) : (s.memPut k bs).laneB = s.laneB := rfl
@[simp] theorem State.memPut_laneC (s : State) (k : Nat) (bs : List Byte) : (s.memPut k bs).laneC = s.laneC := rfl
@[simp] theorem State.memPut_triad (s : State) (k : Nat) (bs : List Byte) : (s.memPut k bs).triad = s.triad := rfl
@[simp] theorem State.memPut_cyc (s : State) (k : Nat) (bs : List Byte) : (s.memPut k bs).cyc = s.cyc := rfl
@[simp] theorem State.memPut_now (s : State) (k : Nat) (bs : List Byte) : (s.memPut k bs).now = s.now := rfl
@[simp] theorem State.memPut_fd (s : State) (k : Nat) (bs : List Byte) : (s.memPut k bs).fd = s.fd := rfl
@[simp] theorem State.memPut_link (s : State) (k : Nat) (bs : List Byte) : (s.memPut k bs).link = s.link := rfl
@[simp] theorem State.memPut_sig (s : State) (k : Nat) (bs : List Byte) : (s.memPut k bs).sig = s.sig := rfl
@[simp] theorem State.memPut_sigAt (s : State) (k : Nat) (bs : List Byte) : (s.memPut k bs).sigAt = s.sigAt := rfl
@[simp] theorem State.memPut_clkOut (s : State) (k : Nat) (bs : List Byte) : (s.memPut k bs).clkOut = s.clkOut := rfl
@[simp] theorem State.memPut_sigSlot (s : State) (k : Nat) (bs : List Byte) : (s.memPut k bs).sigSlot = s.sigSlot := rfl
@[simp] theorem State.memPut_eth (s : State) (k : Nat) (bs : List Byte) : (s.memPut k bs).eth = s.eth := rfl
@[simp] theorem State.memPut_pde (s : State) (k : Nat) (bs : List Byte) : (s.memPut k bs).pde = s.pde := rfl
@[simp] theorem State.memPut_tim (s : State) (k : Nat) (bs : List Byte) : (s.memPut k bs).tim = s.tim := rfl
@[simp] theorem State.memPut_can (s : State) (k : Nat) (bs : List Byte) : (s.memPut k bs).can = s.can := rfl
@[simp] theorem State.memPut_drv (s : State) (k : Nat) (bs : List Byte) : (s.memPut k bs).drv = s.drv := rfl
@[simp] theorem State.memPut_flk (s : State) (k : Nat) (bs : List Byte) : (s.memPut k bs).flk = s.flk := rfl
@[simp] theorem State.memPut_station (s : State) (k : Nat) (bs : List Byte) : (s.memPut k bs).station = s.station := rfl
@[simp] theorem State.memPut_pair (s : State) (k : Nat) (bs : List Byte) : (s.memPut k bs).pair = s.pair := rfl
@[simp] theorem State.memPut_recd (s : State) (k : Nat) (bs : List Byte) : (s.memPut k bs).recd = s.recd := rfl
@[simp] theorem State.memPut_upd (s : State) (k : Nat) (bs : List Byte) : (s.memPut k bs).upd = s.upd := rfl
@[simp] theorem State.memPut_rtag (s : State) (k : Nat) (bs : List Byte) : (s.memPut k bs).rtag = s.rtag := rfl
@[simp] theorem State.memPut_reff (s : State) (k : Nat) (bs : List Byte) : (s.memPut k bs).reff = s.reff := rfl
@[simp] theorem State.memPut_resp (s : State) (k : Nat) (bs : List Byte) : (s.memPut k bs).resp = s.resp := rfl
@[simp] theorem State.memPut_rdata (s : State) (k : Nat) (bs : List Byte) : (s.memPut k bs).rdata = s.rdata := rfl
@[simp] theorem State.memPut_freeCtr (s : State) (k : Nat) (bs : List Byte) : (s.memPut k bs).freeCtr = s.freeCtr := rfl

/-! ### State.memPutLe -/

@[simp] theorem State.memPutLe_pending (s : State) (k n v : Nat) : (s.memPutLe k n v).pending = s.pending := rfl
@[simp] theorem State.memPutLe_regs (s : State) (k n v : Nat) : (s.memPutLe k n v).regs = s.regs := rfl
@[simp] theorem State.memPutLe_flash (s : State) (k n v : Nat) : (s.memPutLe k n v).flash = s.flash := rfl
@[simp] theorem State.memPutLe_phys (s : State) (k n v : Nat) : (s.memPutLe k n v).phys = s.phys := rfl
@[simp] theorem State.memPutLe_board (s : State) (k n v : Nat) : (s.memPutLe k n v).board = s.board := rfl
@[simp] theorem State.memPutLe_pins (s : State) (k n v : Nat) : (s.memPutLe k n v).pins = s.pins := rfl
@[simp] theorem State.memPutLe_bkup (s : State) (k n v : Nat) : (s.memPutLe k n v).bkup = s.bkup := rfl
@[simp] theorem State.memPutLe_pwr (s : State) (k n v : Nat) : (s.memPutLe k n v).pwr = s.pwr := rfl
@[simp] theorem State.memPutLe_rst (s : State) (k n v : Nat) : (s.memPutLe k n v).rst = s.rst := rfl
@[simp] theorem State.memPutLe_clk (s : State) (k n v : Nat) : (s.memPutLe k n v).clk = s.clk := rfl
@[simp] theorem State.memPutLe_memx (s : State) (k n v : Nat) : (s.memPutLe k n v).memx = s.memx := rfl
@[simp] theorem State.memPutLe_wear (s : State) (k n v : Nat) : (s.memPutLe k n v).wear = s.wear := rfl
@[simp] theorem State.memPutLe_flc (s : State) (k n v : Nat) : (s.memPutLe k n v).flc = s.flc := rfl
@[simp] theorem State.memPutLe_boot (s : State) (k n v : Nat) : (s.memPutLe k n v).boot = s.boot := rfl
@[simp] theorem State.memPutLe_laneA (s : State) (k n v : Nat) : (s.memPutLe k n v).laneA = s.laneA := rfl
@[simp] theorem State.memPutLe_laneB (s : State) (k n v : Nat) : (s.memPutLe k n v).laneB = s.laneB := rfl
@[simp] theorem State.memPutLe_laneC (s : State) (k n v : Nat) : (s.memPutLe k n v).laneC = s.laneC := rfl
@[simp] theorem State.memPutLe_triad (s : State) (k n v : Nat) : (s.memPutLe k n v).triad = s.triad := rfl
@[simp] theorem State.memPutLe_cyc (s : State) (k n v : Nat) : (s.memPutLe k n v).cyc = s.cyc := rfl
@[simp] theorem State.memPutLe_now (s : State) (k n v : Nat) : (s.memPutLe k n v).now = s.now := rfl
@[simp] theorem State.memPutLe_fd (s : State) (k n v : Nat) : (s.memPutLe k n v).fd = s.fd := rfl
@[simp] theorem State.memPutLe_link (s : State) (k n v : Nat) : (s.memPutLe k n v).link = s.link := rfl
@[simp] theorem State.memPutLe_sig (s : State) (k n v : Nat) : (s.memPutLe k n v).sig = s.sig := rfl
@[simp] theorem State.memPutLe_sigAt (s : State) (k n v : Nat) : (s.memPutLe k n v).sigAt = s.sigAt := rfl
@[simp] theorem State.memPutLe_clkOut (s : State) (k n v : Nat) : (s.memPutLe k n v).clkOut = s.clkOut := rfl
@[simp] theorem State.memPutLe_sigSlot (s : State) (k n v : Nat) : (s.memPutLe k n v).sigSlot = s.sigSlot := rfl
@[simp] theorem State.memPutLe_eth (s : State) (k n v : Nat) : (s.memPutLe k n v).eth = s.eth := rfl
@[simp] theorem State.memPutLe_pde (s : State) (k n v : Nat) : (s.memPutLe k n v).pde = s.pde := rfl
@[simp] theorem State.memPutLe_tim (s : State) (k n v : Nat) : (s.memPutLe k n v).tim = s.tim := rfl
@[simp] theorem State.memPutLe_can (s : State) (k n v : Nat) : (s.memPutLe k n v).can = s.can := rfl
@[simp] theorem State.memPutLe_drv (s : State) (k n v : Nat) : (s.memPutLe k n v).drv = s.drv := rfl
@[simp] theorem State.memPutLe_flk (s : State) (k n v : Nat) : (s.memPutLe k n v).flk = s.flk := rfl
@[simp] theorem State.memPutLe_station (s : State) (k n v : Nat) : (s.memPutLe k n v).station = s.station := rfl
@[simp] theorem State.memPutLe_pair (s : State) (k n v : Nat) : (s.memPutLe k n v).pair = s.pair := rfl
@[simp] theorem State.memPutLe_recd (s : State) (k n v : Nat) : (s.memPutLe k n v).recd = s.recd := rfl
@[simp] theorem State.memPutLe_upd (s : State) (k n v : Nat) : (s.memPutLe k n v).upd = s.upd := rfl
@[simp] theorem State.memPutLe_rtag (s : State) (k n v : Nat) : (s.memPutLe k n v).rtag = s.rtag := rfl
@[simp] theorem State.memPutLe_reff (s : State) (k n v : Nat) : (s.memPutLe k n v).reff = s.reff := rfl
@[simp] theorem State.memPutLe_resp (s : State) (k n v : Nat) : (s.memPutLe k n v).resp = s.resp := rfl
@[simp] theorem State.memPutLe_rdata (s : State) (k n v : Nat) : (s.memPutLe k n v).rdata = s.rdata := rfl
@[simp] theorem State.memPutLe_freeCtr (s : State) (k n v : Nat) : (s.memPutLe k n v).freeCtr = s.freeCtr := rfl

/-! ### State.memClear -/

@[simp] theorem State.memClear_pending (s : State) (k n : Nat) : (s.memClear k n).pending = s.pending := rfl
@[simp] theorem State.memClear_regs (s : State) (k n : Nat) : (s.memClear k n).regs = s.regs := rfl
@[simp] theorem State.memClear_flash (s : State) (k n : Nat) : (s.memClear k n).flash = s.flash := rfl
@[simp] theorem State.memClear_phys (s : State) (k n : Nat) : (s.memClear k n).phys = s.phys := rfl
@[simp] theorem State.memClear_board (s : State) (k n : Nat) : (s.memClear k n).board = s.board := rfl
@[simp] theorem State.memClear_pins (s : State) (k n : Nat) : (s.memClear k n).pins = s.pins := rfl
@[simp] theorem State.memClear_bkup (s : State) (k n : Nat) : (s.memClear k n).bkup = s.bkup := rfl
@[simp] theorem State.memClear_pwr (s : State) (k n : Nat) : (s.memClear k n).pwr = s.pwr := rfl
@[simp] theorem State.memClear_rst (s : State) (k n : Nat) : (s.memClear k n).rst = s.rst := rfl
@[simp] theorem State.memClear_clk (s : State) (k n : Nat) : (s.memClear k n).clk = s.clk := rfl
@[simp] theorem State.memClear_memx (s : State) (k n : Nat) : (s.memClear k n).memx = s.memx := rfl
@[simp] theorem State.memClear_wear (s : State) (k n : Nat) : (s.memClear k n).wear = s.wear := rfl
@[simp] theorem State.memClear_flc (s : State) (k n : Nat) : (s.memClear k n).flc = s.flc := rfl
@[simp] theorem State.memClear_boot (s : State) (k n : Nat) : (s.memClear k n).boot = s.boot := rfl
@[simp] theorem State.memClear_laneA (s : State) (k n : Nat) : (s.memClear k n).laneA = s.laneA := rfl
@[simp] theorem State.memClear_laneB (s : State) (k n : Nat) : (s.memClear k n).laneB = s.laneB := rfl
@[simp] theorem State.memClear_laneC (s : State) (k n : Nat) : (s.memClear k n).laneC = s.laneC := rfl
@[simp] theorem State.memClear_triad (s : State) (k n : Nat) : (s.memClear k n).triad = s.triad := rfl
@[simp] theorem State.memClear_cyc (s : State) (k n : Nat) : (s.memClear k n).cyc = s.cyc := rfl
@[simp] theorem State.memClear_now (s : State) (k n : Nat) : (s.memClear k n).now = s.now := rfl
@[simp] theorem State.memClear_fd (s : State) (k n : Nat) : (s.memClear k n).fd = s.fd := rfl
@[simp] theorem State.memClear_link (s : State) (k n : Nat) : (s.memClear k n).link = s.link := rfl
@[simp] theorem State.memClear_sig (s : State) (k n : Nat) : (s.memClear k n).sig = s.sig := rfl
@[simp] theorem State.memClear_sigAt (s : State) (k n : Nat) : (s.memClear k n).sigAt = s.sigAt := rfl
@[simp] theorem State.memClear_clkOut (s : State) (k n : Nat) : (s.memClear k n).clkOut = s.clkOut := rfl
@[simp] theorem State.memClear_sigSlot (s : State) (k n : Nat) : (s.memClear k n).sigSlot = s.sigSlot := rfl
@[simp] theorem State.memClear_eth (s : State) (k n : Nat) : (s.memClear k n).eth = s.eth := rfl
@[simp] theorem State.memClear_pde (s : State) (k n : Nat) : (s.memClear k n).pde = s.pde := rfl
@[simp] theorem State.memClear_tim (s : State) (k n : Nat) : (s.memClear k n).tim = s.tim := rfl
@[simp] theorem State.memClear_can (s : State) (k n : Nat) : (s.memClear k n).can = s.can := rfl
@[simp] theorem State.memClear_drv (s : State) (k n : Nat) : (s.memClear k n).drv = s.drv := rfl
@[simp] theorem State.memClear_flk (s : State) (k n : Nat) : (s.memClear k n).flk = s.flk := rfl
@[simp] theorem State.memClear_station (s : State) (k n : Nat) : (s.memClear k n).station = s.station := rfl
@[simp] theorem State.memClear_pair (s : State) (k n : Nat) : (s.memClear k n).pair = s.pair := rfl
@[simp] theorem State.memClear_recd (s : State) (k n : Nat) : (s.memClear k n).recd = s.recd := rfl
@[simp] theorem State.memClear_upd (s : State) (k n : Nat) : (s.memClear k n).upd = s.upd := rfl
@[simp] theorem State.memClear_rtag (s : State) (k n : Nat) : (s.memClear k n).rtag = s.rtag := rfl
@[simp] theorem State.memClear_reff (s : State) (k n : Nat) : (s.memClear k n).reff = s.reff := rfl
@[simp] theorem State.memClear_resp (s : State) (k n : Nat) : (s.memClear k n).resp = s.resp := rfl
@[simp] theorem State.memClear_rdata (s : State) (k n : Nat) : (s.memClear k n).rdata = s.rdata := rfl
@[simp] theorem State.memClear_freeCtr (s : State) (k n : Nat) : (s.memClear k n).freeCtr = s.freeCtr := rfl

/-! ### State.flashProgram -/

@[simp] theorem State.flashProgram_pending (s : State) (a : Nat) (bs : List Byte) : (s.flashProgram a bs).pending = s.pending := rfl
@[simp] theorem State.flashProgram_regs (s : State) (a : Nat) (bs : List Byte) : (s.flashProgram a bs).regs = s.regs := rfl
@[simp] theorem State.flashProgram_mem (s : State) (a : Nat) (bs : List Byte) : (s.flashProgram a bs).mem = s.mem := rfl
@[simp] theorem State.flashProgram_phys (s : State) (a : Nat) (bs : List Byte) : (s.flashProgram a bs).phys = s.phys := rfl
@[simp] theorem State.flashProgram_board (s : State) (a : Nat) (bs : List Byte) : (s.flashProgram a bs).board = s.board := rfl
@[simp] theorem State.flashProgram_pins (s : State) (a : Nat) (bs : List Byte) : (s.flashProgram a bs).pins = s.pins := rfl
@[simp] theorem State.flashProgram_bkup (s : State) (a : Nat) (bs : List Byte) : (s.flashProgram a bs).bkup = s.bkup := rfl
@[simp] theorem State.flashProgram_pwr (s : State) (a : Nat) (bs : List Byte) : (s.flashProgram a bs).pwr = s.pwr := rfl
@[simp] theorem State.flashProgram_rst (s : State) (a : Nat) (bs : List Byte) : (s.flashProgram a bs).rst = s.rst := rfl
@[simp] theorem State.flashProgram_clk (s : State) (a : Nat) (bs : List Byte) : (s.flashProgram a bs).clk = s.clk := rfl
@[simp] theorem State.flashProgram_memx (s : State) (a : Nat) (bs : List Byte) : (s.flashProgram a bs).memx = s.memx := rfl
@[simp] theorem State.flashProgram_wear (s : State) (a : Nat) (bs : List Byte) : (s.flashProgram a bs).wear = s.wear := rfl
@[simp] theorem State.flashProgram_flc (s : State) (a : Nat) (bs : List Byte) : (s.flashProgram a bs).flc = s.flc := rfl
@[simp] theorem State.flashProgram_boot (s : State) (a : Nat) (bs : List Byte) : (s.flashProgram a bs).boot = s.boot := rfl
@[simp] theorem State.flashProgram_laneA (s : State) (a : Nat) (bs : List Byte) : (s.flashProgram a bs).laneA = s.laneA := rfl
@[simp] theorem State.flashProgram_laneB (s : State) (a : Nat) (bs : List Byte) : (s.flashProgram a bs).laneB = s.laneB := rfl
@[simp] theorem State.flashProgram_laneC (s : State) (a : Nat) (bs : List Byte) : (s.flashProgram a bs).laneC = s.laneC := rfl
@[simp] theorem State.flashProgram_triad (s : State) (a : Nat) (bs : List Byte) : (s.flashProgram a bs).triad = s.triad := rfl
@[simp] theorem State.flashProgram_cyc (s : State) (a : Nat) (bs : List Byte) : (s.flashProgram a bs).cyc = s.cyc := rfl
@[simp] theorem State.flashProgram_now (s : State) (a : Nat) (bs : List Byte) : (s.flashProgram a bs).now = s.now := rfl
@[simp] theorem State.flashProgram_fd (s : State) (a : Nat) (bs : List Byte) : (s.flashProgram a bs).fd = s.fd := rfl
@[simp] theorem State.flashProgram_link (s : State) (a : Nat) (bs : List Byte) : (s.flashProgram a bs).link = s.link := rfl
@[simp] theorem State.flashProgram_sig (s : State) (a : Nat) (bs : List Byte) : (s.flashProgram a bs).sig = s.sig := rfl
@[simp] theorem State.flashProgram_sigAt (s : State) (a : Nat) (bs : List Byte) : (s.flashProgram a bs).sigAt = s.sigAt := rfl
@[simp] theorem State.flashProgram_clkOut (s : State) (a : Nat) (bs : List Byte) : (s.flashProgram a bs).clkOut = s.clkOut := rfl
@[simp] theorem State.flashProgram_sigSlot (s : State) (a : Nat) (bs : List Byte) : (s.flashProgram a bs).sigSlot = s.sigSlot := rfl
@[simp] theorem State.flashProgram_eth (s : State) (a : Nat) (bs : List Byte) : (s.flashProgram a bs).eth = s.eth := rfl
@[simp] theorem State.flashProgram_pde (s : State) (a : Nat) (bs : List Byte) : (s.flashProgram a bs).pde = s.pde := rfl
@[simp] theorem State.flashProgram_tim (s : State) (a : Nat) (bs : List Byte) : (s.flashProgram a bs).tim = s.tim := rfl
@[simp] theorem State.flashProgram_can (s : State) (a : Nat) (bs : List Byte) : (s.flashProgram a bs).can = s.can := rfl
@[simp] theorem State.flashProgram_drv (s : State) (a : Nat) (bs : List Byte) : (s.flashProgram a bs).drv = s.drv := rfl
@[simp] theorem State.flashProgram_flk (s : State) (a : Nat) (bs : List Byte) : (s.flashProgram a bs).flk = s.flk := rfl
@[simp] theorem State.flashProgram_station (s : State) (a : Nat) (bs : List Byte) : (s.flashProgram a bs).station = s.station := rfl
@[simp] theorem State.flashProgram_pair (s : State) (a : Nat) (bs : List Byte) : (s.flashProgram a bs).pair = s.pair := rfl
@[simp] theorem State.flashProgram_recd (s : State) (a : Nat) (bs : List Byte) : (s.flashProgram a bs).recd = s.recd := rfl
@[simp] theorem State.flashProgram_upd (s : State) (a : Nat) (bs : List Byte) : (s.flashProgram a bs).upd = s.upd := rfl
@[simp] theorem State.flashProgram_rtag (s : State) (a : Nat) (bs : List Byte) : (s.flashProgram a bs).rtag = s.rtag := rfl
@[simp] theorem State.flashProgram_reff (s : State) (a : Nat) (bs : List Byte) : (s.flashProgram a bs).reff = s.reff := rfl
@[simp] theorem State.flashProgram_resp (s : State) (a : Nat) (bs : List Byte) : (s.flashProgram a bs).resp = s.resp := rfl
@[simp] theorem State.flashProgram_rdata (s : State) (a : Nat) (bs : List Byte) : (s.flashProgram a bs).rdata = s.rdata := rfl
@[simp] theorem State.flashProgram_freeCtr (s : State) (a : Nat) (bs : List Byte) : (s.flashProgram a bs).freeCtr = s.freeCtr := rfl

/-! ### State.flashErase -/

@[simp] theorem State.flashErase_pending (s : State) (a : Nat) : (s.flashErase a).pending = s.pending := rfl
@[simp] theorem State.flashErase_regs (s : State) (a : Nat) : (s.flashErase a).regs = s.regs := rfl
@[simp] theorem State.flashErase_mem (s : State) (a : Nat) : (s.flashErase a).mem = s.mem := rfl
@[simp] theorem State.flashErase_phys (s : State) (a : Nat) : (s.flashErase a).phys = s.phys := rfl
@[simp] theorem State.flashErase_board (s : State) (a : Nat) : (s.flashErase a).board = s.board := rfl
@[simp] theorem State.flashErase_pins (s : State) (a : Nat) : (s.flashErase a).pins = s.pins := rfl
@[simp] theorem State.flashErase_bkup (s : State) (a : Nat) : (s.flashErase a).bkup = s.bkup := rfl
@[simp] theorem State.flashErase_pwr (s : State) (a : Nat) : (s.flashErase a).pwr = s.pwr := rfl
@[simp] theorem State.flashErase_rst (s : State) (a : Nat) : (s.flashErase a).rst = s.rst := rfl
@[simp] theorem State.flashErase_clk (s : State) (a : Nat) : (s.flashErase a).clk = s.clk := rfl
@[simp] theorem State.flashErase_memx (s : State) (a : Nat) : (s.flashErase a).memx = s.memx := rfl
@[simp] theorem State.flashErase_wear (s : State) (a : Nat) : (s.flashErase a).wear = s.wear := rfl
@[simp] theorem State.flashErase_flc (s : State) (a : Nat) : (s.flashErase a).flc = s.flc := rfl
@[simp] theorem State.flashErase_boot (s : State) (a : Nat) : (s.flashErase a).boot = s.boot := rfl
@[simp] theorem State.flashErase_laneA (s : State) (a : Nat) : (s.flashErase a).laneA = s.laneA := rfl
@[simp] theorem State.flashErase_laneB (s : State) (a : Nat) : (s.flashErase a).laneB = s.laneB := rfl
@[simp] theorem State.flashErase_laneC (s : State) (a : Nat) : (s.flashErase a).laneC = s.laneC := rfl
@[simp] theorem State.flashErase_triad (s : State) (a : Nat) : (s.flashErase a).triad = s.triad := rfl
@[simp] theorem State.flashErase_cyc (s : State) (a : Nat) : (s.flashErase a).cyc = s.cyc := rfl
@[simp] theorem State.flashErase_now (s : State) (a : Nat) : (s.flashErase a).now = s.now := rfl
@[simp] theorem State.flashErase_fd (s : State) (a : Nat) : (s.flashErase a).fd = s.fd := rfl
@[simp] theorem State.flashErase_link (s : State) (a : Nat) : (s.flashErase a).link = s.link := rfl
@[simp] theorem State.flashErase_sig (s : State) (a : Nat) : (s.flashErase a).sig = s.sig := rfl
@[simp] theorem State.flashErase_sigAt (s : State) (a : Nat) : (s.flashErase a).sigAt = s.sigAt := rfl
@[simp] theorem State.flashErase_clkOut (s : State) (a : Nat) : (s.flashErase a).clkOut = s.clkOut := rfl
@[simp] theorem State.flashErase_sigSlot (s : State) (a : Nat) : (s.flashErase a).sigSlot = s.sigSlot := rfl
@[simp] theorem State.flashErase_eth (s : State) (a : Nat) : (s.flashErase a).eth = s.eth := rfl
@[simp] theorem State.flashErase_pde (s : State) (a : Nat) : (s.flashErase a).pde = s.pde := rfl
@[simp] theorem State.flashErase_tim (s : State) (a : Nat) : (s.flashErase a).tim = s.tim := rfl
@[simp] theorem State.flashErase_can (s : State) (a : Nat) : (s.flashErase a).can = s.can := rfl
@[simp] theorem State.flashErase_drv (s : State) (a : Nat) : (s.flashErase a).drv = s.drv := rfl
@[simp] theorem State.flashErase_flk (s : State) (a : Nat) : (s.flashErase a).flk = s.flk := rfl
@[simp] theorem State.flashErase_station (s : State) (a : Nat) : (s.flashErase a).station = s.station := rfl
@[simp] theorem State.flashErase_pair (s : State) (a : Nat) : (s.flashErase a).pair = s.pair := rfl
@[simp] theorem State.flashErase_recd (s : State) (a : Nat) : (s.flashErase a).recd = s.recd := rfl
@[simp] theorem State.flashErase_upd (s : State) (a : Nat) : (s.flashErase a).upd = s.upd := rfl
@[simp] theorem State.flashErase_rtag (s : State) (a : Nat) : (s.flashErase a).rtag = s.rtag := rfl
@[simp] theorem State.flashErase_reff (s : State) (a : Nat) : (s.flashErase a).reff = s.reff := rfl
@[simp] theorem State.flashErase_resp (s : State) (a : Nat) : (s.flashErase a).resp = s.resp := rfl
@[simp] theorem State.flashErase_rdata (s : State) (a : Nat) : (s.flashErase a).rdata = s.rdata := rfl
@[simp] theorem State.flashErase_freeCtr (s : State) (a : Nat) : (s.flashErase a).freeCtr = s.freeCtr := rfl

/-! ### State.answer -/

@[simp] theorem State.answer_pending (s : State) (r : Resp) : (s.answer r).pending = s.pending := rfl
@[simp] theorem State.answer_regs (s : State) (r : Resp) : (s.answer r).regs = s.regs := rfl
@[simp] theorem State.answer_mem (s : State) (r : Resp) : (s.answer r).mem = s.mem := rfl
@[simp] theorem State.answer_flash (s : State) (r : Resp) : (s.answer r).flash = s.flash := rfl
@[simp] theorem State.answer_phys (s : State) (r : Resp) : (s.answer r).phys = s.phys := rfl
@[simp] theorem State.answer_board (s : State) (r : Resp) : (s.answer r).board = s.board := rfl
@[simp] theorem State.answer_pins (s : State) (r : Resp) : (s.answer r).pins = s.pins := rfl
@[simp] theorem State.answer_bkup (s : State) (r : Resp) : (s.answer r).bkup = s.bkup := rfl
@[simp] theorem State.answer_pwr (s : State) (r : Resp) : (s.answer r).pwr = s.pwr := rfl
@[simp] theorem State.answer_rst (s : State) (r : Resp) : (s.answer r).rst = s.rst := rfl
@[simp] theorem State.answer_clk (s : State) (r : Resp) : (s.answer r).clk = s.clk := rfl
@[simp] theorem State.answer_memx (s : State) (r : Resp) : (s.answer r).memx = s.memx := rfl
@[simp] theorem State.answer_wear (s : State) (r : Resp) : (s.answer r).wear = s.wear := rfl
@[simp] theorem State.answer_flc (s : State) (r : Resp) : (s.answer r).flc = s.flc := rfl
@[simp] theorem State.answer_boot (s : State) (r : Resp) : (s.answer r).boot = s.boot := rfl
@[simp] theorem State.answer_laneA (s : State) (r : Resp) : (s.answer r).laneA = s.laneA := rfl
@[simp] theorem State.answer_laneB (s : State) (r : Resp) : (s.answer r).laneB = s.laneB := rfl
@[simp] theorem State.answer_laneC (s : State) (r : Resp) : (s.answer r).laneC = s.laneC := rfl
@[simp] theorem State.answer_triad (s : State) (r : Resp) : (s.answer r).triad = s.triad := rfl
@[simp] theorem State.answer_cyc (s : State) (r : Resp) : (s.answer r).cyc = s.cyc := rfl
@[simp] theorem State.answer_now (s : State) (r : Resp) : (s.answer r).now = s.now := rfl
@[simp] theorem State.answer_fd (s : State) (r : Resp) : (s.answer r).fd = s.fd := rfl
@[simp] theorem State.answer_link (s : State) (r : Resp) : (s.answer r).link = s.link := rfl
@[simp] theorem State.answer_sig (s : State) (r : Resp) : (s.answer r).sig = s.sig := rfl
@[simp] theorem State.answer_sigAt (s : State) (r : Resp) : (s.answer r).sigAt = s.sigAt := rfl
@[simp] theorem State.answer_clkOut (s : State) (r : Resp) : (s.answer r).clkOut = s.clkOut := rfl
@[simp] theorem State.answer_sigSlot (s : State) (r : Resp) : (s.answer r).sigSlot = s.sigSlot := rfl
@[simp] theorem State.answer_eth (s : State) (r : Resp) : (s.answer r).eth = s.eth := rfl
@[simp] theorem State.answer_pde (s : State) (r : Resp) : (s.answer r).pde = s.pde := rfl
@[simp] theorem State.answer_tim (s : State) (r : Resp) : (s.answer r).tim = s.tim := rfl
@[simp] theorem State.answer_can (s : State) (r : Resp) : (s.answer r).can = s.can := rfl
@[simp] theorem State.answer_drv (s : State) (r : Resp) : (s.answer r).drv = s.drv := rfl
@[simp] theorem State.answer_flk (s : State) (r : Resp) : (s.answer r).flk = s.flk := rfl
@[simp] theorem State.answer_station (s : State) (r : Resp) : (s.answer r).station = s.station := rfl
@[simp] theorem State.answer_pair (s : State) (r : Resp) : (s.answer r).pair = s.pair := rfl
@[simp] theorem State.answer_recd (s : State) (r : Resp) : (s.answer r).recd = s.recd := rfl
@[simp] theorem State.answer_upd (s : State) (r : Resp) : (s.answer r).upd = s.upd := rfl
@[simp] theorem State.answer_rtag (s : State) (r : Resp) : (s.answer r).rtag = s.rtag := rfl
@[simp] theorem State.answer_reff (s : State) (r : Resp) : (s.answer r).reff = s.reff := rfl
@[simp] theorem State.answer_freeCtr (s : State) (r : Resp) : (s.answer r).freeCtr = s.freeCtr := rfl

/-! ### State.answerData -/

@[simp] theorem State.answerData_pending (s : State) (d : BitVec 256) : (s.answerData d).pending = s.pending := rfl
@[simp] theorem State.answerData_regs (s : State) (d : BitVec 256) : (s.answerData d).regs = s.regs := rfl
@[simp] theorem State.answerData_mem (s : State) (d : BitVec 256) : (s.answerData d).mem = s.mem := rfl
@[simp] theorem State.answerData_flash (s : State) (d : BitVec 256) : (s.answerData d).flash = s.flash := rfl
@[simp] theorem State.answerData_phys (s : State) (d : BitVec 256) : (s.answerData d).phys = s.phys := rfl
@[simp] theorem State.answerData_board (s : State) (d : BitVec 256) : (s.answerData d).board = s.board := rfl
@[simp] theorem State.answerData_pins (s : State) (d : BitVec 256) : (s.answerData d).pins = s.pins := rfl
@[simp] theorem State.answerData_bkup (s : State) (d : BitVec 256) : (s.answerData d).bkup = s.bkup := rfl
@[simp] theorem State.answerData_pwr (s : State) (d : BitVec 256) : (s.answerData d).pwr = s.pwr := rfl
@[simp] theorem State.answerData_rst (s : State) (d : BitVec 256) : (s.answerData d).rst = s.rst := rfl
@[simp] theorem State.answerData_clk (s : State) (d : BitVec 256) : (s.answerData d).clk = s.clk := rfl
@[simp] theorem State.answerData_memx (s : State) (d : BitVec 256) : (s.answerData d).memx = s.memx := rfl
@[simp] theorem State.answerData_wear (s : State) (d : BitVec 256) : (s.answerData d).wear = s.wear := rfl
@[simp] theorem State.answerData_flc (s : State) (d : BitVec 256) : (s.answerData d).flc = s.flc := rfl
@[simp] theorem State.answerData_boot (s : State) (d : BitVec 256) : (s.answerData d).boot = s.boot := rfl
@[simp] theorem State.answerData_laneA (s : State) (d : BitVec 256) : (s.answerData d).laneA = s.laneA := rfl
@[simp] theorem State.answerData_laneB (s : State) (d : BitVec 256) : (s.answerData d).laneB = s.laneB := rfl
@[simp] theorem State.answerData_laneC (s : State) (d : BitVec 256) : (s.answerData d).laneC = s.laneC := rfl
@[simp] theorem State.answerData_triad (s : State) (d : BitVec 256) : (s.answerData d).triad = s.triad := rfl
@[simp] theorem State.answerData_cyc (s : State) (d : BitVec 256) : (s.answerData d).cyc = s.cyc := rfl
@[simp] theorem State.answerData_now (s : State) (d : BitVec 256) : (s.answerData d).now = s.now := rfl
@[simp] theorem State.answerData_fd (s : State) (d : BitVec 256) : (s.answerData d).fd = s.fd := rfl
@[simp] theorem State.answerData_link (s : State) (d : BitVec 256) : (s.answerData d).link = s.link := rfl
@[simp] theorem State.answerData_sig (s : State) (d : BitVec 256) : (s.answerData d).sig = s.sig := rfl
@[simp] theorem State.answerData_sigAt (s : State) (d : BitVec 256) : (s.answerData d).sigAt = s.sigAt := rfl
@[simp] theorem State.answerData_clkOut (s : State) (d : BitVec 256) : (s.answerData d).clkOut = s.clkOut := rfl
@[simp] theorem State.answerData_sigSlot (s : State) (d : BitVec 256) : (s.answerData d).sigSlot = s.sigSlot := rfl
@[simp] theorem State.answerData_eth (s : State) (d : BitVec 256) : (s.answerData d).eth = s.eth := rfl
@[simp] theorem State.answerData_pde (s : State) (d : BitVec 256) : (s.answerData d).pde = s.pde := rfl
@[simp] theorem State.answerData_tim (s : State) (d : BitVec 256) : (s.answerData d).tim = s.tim := rfl
@[simp] theorem State.answerData_can (s : State) (d : BitVec 256) : (s.answerData d).can = s.can := rfl
@[simp] theorem State.answerData_drv (s : State) (d : BitVec 256) : (s.answerData d).drv = s.drv := rfl
@[simp] theorem State.answerData_flk (s : State) (d : BitVec 256) : (s.answerData d).flk = s.flk := rfl
@[simp] theorem State.answerData_station (s : State) (d : BitVec 256) : (s.answerData d).station = s.station := rfl
@[simp] theorem State.answerData_pair (s : State) (d : BitVec 256) : (s.answerData d).pair = s.pair := rfl
@[simp] theorem State.answerData_recd (s : State) (d : BitVec 256) : (s.answerData d).recd = s.recd := rfl
@[simp] theorem State.answerData_upd (s : State) (d : BitVec 256) : (s.answerData d).upd = s.upd := rfl
@[simp] theorem State.answerData_rtag (s : State) (d : BitVec 256) : (s.answerData d).rtag = s.rtag := rfl
@[simp] theorem State.answerData_reff (s : State) (d : BitVec 256) : (s.answerData d).reff = s.reff := rfl
@[simp] theorem State.answerData_freeCtr (s : State) (d : BitVec 256) : (s.answerData d).freeCtr = s.freeCtr := rfl

/-! ### State.setUpsets -/

@[simp] theorem State.setUpsets_pending (s : State) (k : Nat) (l : List Nat) : (s.setUpsets k l).pending = s.pending := rfl
@[simp] theorem State.setUpsets_regs (s : State) (k : Nat) (l : List Nat) : (s.setUpsets k l).regs = s.regs := rfl
@[simp] theorem State.setUpsets_mem (s : State) (k : Nat) (l : List Nat) : (s.setUpsets k l).mem = s.mem := rfl
@[simp] theorem State.setUpsets_flash (s : State) (k : Nat) (l : List Nat) : (s.setUpsets k l).flash = s.flash := rfl
@[simp] theorem State.setUpsets_phys (s : State) (k : Nat) (l : List Nat) : (s.setUpsets k l).phys = s.phys := rfl
@[simp] theorem State.setUpsets_board (s : State) (k : Nat) (l : List Nat) : (s.setUpsets k l).board = s.board := rfl
@[simp] theorem State.setUpsets_pins (s : State) (k : Nat) (l : List Nat) : (s.setUpsets k l).pins = s.pins := rfl
@[simp] theorem State.setUpsets_bkup (s : State) (k : Nat) (l : List Nat) : (s.setUpsets k l).bkup = s.bkup := rfl
@[simp] theorem State.setUpsets_pwr (s : State) (k : Nat) (l : List Nat) : (s.setUpsets k l).pwr = s.pwr := rfl
@[simp] theorem State.setUpsets_rst (s : State) (k : Nat) (l : List Nat) : (s.setUpsets k l).rst = s.rst := rfl
@[simp] theorem State.setUpsets_clk (s : State) (k : Nat) (l : List Nat) : (s.setUpsets k l).clk = s.clk := rfl
@[simp] theorem State.setUpsets_wear (s : State) (k : Nat) (l : List Nat) : (s.setUpsets k l).wear = s.wear := rfl
@[simp] theorem State.setUpsets_flc (s : State) (k : Nat) (l : List Nat) : (s.setUpsets k l).flc = s.flc := rfl
@[simp] theorem State.setUpsets_boot (s : State) (k : Nat) (l : List Nat) : (s.setUpsets k l).boot = s.boot := rfl
@[simp] theorem State.setUpsets_laneA (s : State) (k : Nat) (l : List Nat) : (s.setUpsets k l).laneA = s.laneA := rfl
@[simp] theorem State.setUpsets_laneB (s : State) (k : Nat) (l : List Nat) : (s.setUpsets k l).laneB = s.laneB := rfl
@[simp] theorem State.setUpsets_laneC (s : State) (k : Nat) (l : List Nat) : (s.setUpsets k l).laneC = s.laneC := rfl
@[simp] theorem State.setUpsets_triad (s : State) (k : Nat) (l : List Nat) : (s.setUpsets k l).triad = s.triad := rfl
@[simp] theorem State.setUpsets_cyc (s : State) (k : Nat) (l : List Nat) : (s.setUpsets k l).cyc = s.cyc := rfl
@[simp] theorem State.setUpsets_now (s : State) (k : Nat) (l : List Nat) : (s.setUpsets k l).now = s.now := rfl
@[simp] theorem State.setUpsets_fd (s : State) (k : Nat) (l : List Nat) : (s.setUpsets k l).fd = s.fd := rfl
@[simp] theorem State.setUpsets_link (s : State) (k : Nat) (l : List Nat) : (s.setUpsets k l).link = s.link := rfl
@[simp] theorem State.setUpsets_sig (s : State) (k : Nat) (l : List Nat) : (s.setUpsets k l).sig = s.sig := rfl
@[simp] theorem State.setUpsets_sigAt (s : State) (k : Nat) (l : List Nat) : (s.setUpsets k l).sigAt = s.sigAt := rfl
@[simp] theorem State.setUpsets_clkOut (s : State) (k : Nat) (l : List Nat) : (s.setUpsets k l).clkOut = s.clkOut := rfl
@[simp] theorem State.setUpsets_sigSlot (s : State) (k : Nat) (l : List Nat) : (s.setUpsets k l).sigSlot = s.sigSlot := rfl
@[simp] theorem State.setUpsets_eth (s : State) (k : Nat) (l : List Nat) : (s.setUpsets k l).eth = s.eth := rfl
@[simp] theorem State.setUpsets_pde (s : State) (k : Nat) (l : List Nat) : (s.setUpsets k l).pde = s.pde := rfl
@[simp] theorem State.setUpsets_tim (s : State) (k : Nat) (l : List Nat) : (s.setUpsets k l).tim = s.tim := rfl
@[simp] theorem State.setUpsets_can (s : State) (k : Nat) (l : List Nat) : (s.setUpsets k l).can = s.can := rfl
@[simp] theorem State.setUpsets_drv (s : State) (k : Nat) (l : List Nat) : (s.setUpsets k l).drv = s.drv := rfl
@[simp] theorem State.setUpsets_flk (s : State) (k : Nat) (l : List Nat) : (s.setUpsets k l).flk = s.flk := rfl
@[simp] theorem State.setUpsets_station (s : State) (k : Nat) (l : List Nat) : (s.setUpsets k l).station = s.station := rfl
@[simp] theorem State.setUpsets_pair (s : State) (k : Nat) (l : List Nat) : (s.setUpsets k l).pair = s.pair := rfl
@[simp] theorem State.setUpsets_recd (s : State) (k : Nat) (l : List Nat) : (s.setUpsets k l).recd = s.recd := rfl
@[simp] theorem State.setUpsets_upd (s : State) (k : Nat) (l : List Nat) : (s.setUpsets k l).upd = s.upd := rfl
@[simp] theorem State.setUpsets_rtag (s : State) (k : Nat) (l : List Nat) : (s.setUpsets k l).rtag = s.rtag := rfl
@[simp] theorem State.setUpsets_reff (s : State) (k : Nat) (l : List Nat) : (s.setUpsets k l).reff = s.reff := rfl
@[simp] theorem State.setUpsets_resp (s : State) (k : Nat) (l : List Nat) : (s.setUpsets k l).resp = s.resp := rfl
@[simp] theorem State.setUpsets_rdata (s : State) (k : Nat) (l : List Nat) : (s.setUpsets k l).rdata = s.rdata := rfl
@[simp] theorem State.setUpsets_freeCtr (s : State) (k : Nat) (l : List Nat) : (s.setUpsets k l).freeCtr = s.freeCtr := rfl
@[simp] theorem State.setUpsets_lane (s : State) (k : Nat) (l : List Nat) : (s.setUpsets k l).lane = s.lane := rfl

/-! ### What the changed field becomes -/

@[simp] theorem State.fset_regs (s : State) (f : Fld) (v : Nat) :
    (s.fset f v).regs = s.regs.fset f v := rfl
@[simp] theorem State.setReg_regs (s : State) (a : Nat) (v : Word) :
    (s.setReg a v).regs = s.regs.setWord a v := rfl
@[simp] theorem State.answer_resp (s : State) (r : Resp) : (s.answer r).resp = r := rfl
@[simp] theorem State.answer_rdata (s : State) (r : Resp) : (s.answer r).rdata = 0 := rfl
@[simp] theorem State.answerData_resp (s : State) (d : BitVec 256) : (s.answerData d).resp = .okay := rfl
@[simp] theorem State.answerData_rdata (s : State) (d : BitVec 256) : (s.answerData d).rdata = d := rfl
@[simp] theorem State.memPut_mem (s : State) (k : Nat) (bs : List Byte) :
    (s.memPut k bs).mem = mapPut memDflt s.mem k bs := rfl
@[simp] theorem State.memClear_mem (s : State) (k n : Nat) :
    (s.memClear k n).mem = smClear s.mem k n := rfl
@[simp] theorem State.flashProgram_flash (s : State) (a : Nat) (bs : List Byte) :
    (s.flashProgram a bs).flash = flashAnd s.flash a bs := rfl
@[simp] theorem State.flashErase_flash (s : State) (a : Nat) :
    (s.flashErase a).flash = smClear s.flash (a / 4096 * 4096) 4096 := rfl

/-! ### The short names of field updates -/

theorem State.raise_eq (s : State) (f : Fld) : s.raise f = s.fset f 1 := rfl
theorem State.lower_eq (s : State) (f : Fld) : s.lower f = s.fset f 0 := rfl
theorem State.show_eq (s : State) (f : Fld) (b : Bool) : s.show f b = s.fset f (bitNat b) := rfl
theorem State.bump_eq (s : State) (f : Fld) :
    s.bump f = s.fset f (min (s.fget f + 1) (2 ^ f.width - 1)) := rfl
@[simp] theorem State.when_true (s : State) (f : State → State) : s.when true f = f s := rfl
@[simp] theorem State.when_false (s : State) (f : State → State) : s.when false f = s := rfl

/-! ### Fields of registers -/

/-- A field reads as it was written. -/
theorem State.fget_fset_self (s : State) (f : Fld) (v : Nat) (h : f.lo + f.width ≤ 32) :
    (s.fset f v).fget f = v % 2 ^ f.width := RegMap.fget_fset_self s.regs f v h

/-- A field that shares no bit with the written one keeps its value. -/
theorem State.fget_fset_apart (s : State) (f g : Fld) (v : Nat) (h : f.lo + f.width ≤ 32)
    (hg : f.apart g = true) : (s.fset f v).fget g = s.fget g :=
  RegMap.fget_fset_apart s.regs f g v h hg

theorem State.fget_lt (s : State) (f : Fld) : s.fget f < 2 ^ f.width := RegMap.fget_lt s.regs f

theorem State.regWord_setReg_self (s : State) (a : Nat) (v : Word) :
    (s.setReg a v).regWord a = v := RegMap.word_setWord_self s.regs a v

theorem State.regWord_setReg_ne (s : State) {a b : Nat} (v : Word) (h : a ≠ b) :
    (s.setReg a v).regWord b = s.regWord b := RegMap.word_setWord_ne s.regs v h

/-- A register field depends on the register map alone. -/
theorem State.fget_congr {s t : State} (h : s.regs = t.regs) (f : Fld) : s.fget f = t.fget f := by
  simp only [State.fget, h]

/-! ### Lanes -/

@[simp] theorem State.lane_setLane_self (s : State) (l : LaneId) (x : Lane) :
    (s.setLane l x).lane l = x := by cases l <;> rfl

theorem State.lane_setLane_ne (s : State) {l k : LaneId} (x : Lane) (h : l ≠ k) :
    (s.setLane l x).lane k = s.lane k := by cases l <;> cases k <;> first | rfl | exact absurd rfl h

@[simp] theorem State.setLane_setLane (s : State) (l : LaneId) (x y : Lane) :
    (s.setLane l x).setLane l y = s.setLane l y := by cases l <;> rfl

@[simp] theorem State.setLane_lane (s : State) (l : LaneId) : s.setLane l (s.lane l) = s := by
  cases l <;> rfl

@[simp] theorem State.updLane_lane_self (s : State) (l : LaneId) (f : Lane → Lane) :
    (s.updLane l f).lane l = f (s.lane l) := State.lane_setLane_self s l _

theorem State.updLane_lane_ne (s : State) {l k : LaneId} (f : Lane → Lane) (h : l ≠ k) :
    (s.updLane l f).lane k = s.lane k := State.lane_setLane_ne s _ h

@[simp] theorem State.updLane_updLane (s : State) (l : LaneId) (f g : Lane → Lane) :
    (s.updLane l f).updLane l g = s.updLane l (fun x => g (f x)) := by cases l <;> rfl

@[simp] theorem State.setLane_pending (s : State) (l : LaneId) (x : Lane) :
    (s.setLane l x).pending = s.pending := by cases l <;> rfl
@[simp] theorem State.updLane_pending (s : State) (l : LaneId) (g : Lane → Lane) :
    (s.updLane l g).pending = s.pending := by cases l <;> rfl
@[simp] theorem State.setLane_regs (s : State) (l : LaneId) (x : Lane) :
    (s.setLane l x).regs = s.regs := by cases l <;> rfl
@[simp] theorem State.updLane_regs (s : State) (l : LaneId) (g : Lane → Lane) :
    (s.updLane l g).regs = s.regs := by cases l <;> rfl
@[simp] theorem State.setLane_mem (s : State) (l : LaneId) (x : Lane) :
    (s.setLane l x).mem = s.mem := by cases l <;> rfl
@[simp] theorem State.updLane_mem (s : State) (l : LaneId) (g : Lane → Lane) :
    (s.updLane l g).mem = s.mem := by cases l <;> rfl
@[simp] theorem State.setLane_flash (s : State) (l : LaneId) (x : Lane) :
    (s.setLane l x).flash = s.flash := by cases l <;> rfl
@[simp] theorem State.updLane_flash (s : State) (l : LaneId) (g : Lane → Lane) :
    (s.updLane l g).flash = s.flash := by cases l <;> rfl
@[simp] theorem State.setLane_phys (s : State) (l : LaneId) (x : Lane) :
    (s.setLane l x).phys = s.phys := by cases l <;> rfl
@[simp] theorem State.updLane_phys (s : State) (l : LaneId) (g : Lane → Lane) :
    (s.updLane l g).phys = s.phys := by cases l <;> rfl
@[simp] theorem State.setLane_board (s : State) (l : LaneId) (x : Lane) :
    (s.setLane l x).board = s.board := by cases l <;> rfl
@[simp] theorem State.updLane_board (s : State) (l : LaneId) (g : Lane → Lane) :
    (s.updLane l g).board = s.board := by cases l <;> rfl
@[simp] theorem State.setLane_pins (s : State) (l : LaneId) (x : Lane) :
    (s.setLane l x).pins = s.pins := by cases l <;> rfl
@[simp] theorem State.updLane_pins (s : State) (l : LaneId) (g : Lane → Lane) :
    (s.updLane l g).pins = s.pins := by cases l <;> rfl
@[simp] theorem State.setLane_bkup (s : State) (l : LaneId) (x : Lane) :
    (s.setLane l x).bkup = s.bkup := by cases l <;> rfl
@[simp] theorem State.updLane_bkup (s : State) (l : LaneId) (g : Lane → Lane) :
    (s.updLane l g).bkup = s.bkup := by cases l <;> rfl
@[simp] theorem State.setLane_pwr (s : State) (l : LaneId) (x : Lane) :
    (s.setLane l x).pwr = s.pwr := by cases l <;> rfl
@[simp] theorem State.updLane_pwr (s : State) (l : LaneId) (g : Lane → Lane) :
    (s.updLane l g).pwr = s.pwr := by cases l <;> rfl
@[simp] theorem State.setLane_rst (s : State) (l : LaneId) (x : Lane) :
    (s.setLane l x).rst = s.rst := by cases l <;> rfl
@[simp] theorem State.updLane_rst (s : State) (l : LaneId) (g : Lane → Lane) :
    (s.updLane l g).rst = s.rst := by cases l <;> rfl
@[simp] theorem State.setLane_clk (s : State) (l : LaneId) (x : Lane) :
    (s.setLane l x).clk = s.clk := by cases l <;> rfl
@[simp] theorem State.updLane_clk (s : State) (l : LaneId) (g : Lane → Lane) :
    (s.updLane l g).clk = s.clk := by cases l <;> rfl
@[simp] theorem State.setLane_memx (s : State) (l : LaneId) (x : Lane) :
    (s.setLane l x).memx = s.memx := by cases l <;> rfl
@[simp] theorem State.updLane_memx (s : State) (l : LaneId) (g : Lane → Lane) :
    (s.updLane l g).memx = s.memx := by cases l <;> rfl
@[simp] theorem State.setLane_wear (s : State) (l : LaneId) (x : Lane) :
    (s.setLane l x).wear = s.wear := by cases l <;> rfl
@[simp] theorem State.updLane_wear (s : State) (l : LaneId) (g : Lane → Lane) :
    (s.updLane l g).wear = s.wear := by cases l <;> rfl
@[simp] theorem State.setLane_flc (s : State) (l : LaneId) (x : Lane) :
    (s.setLane l x).flc = s.flc := by cases l <;> rfl
@[simp] theorem State.updLane_flc (s : State) (l : LaneId) (g : Lane → Lane) :
    (s.updLane l g).flc = s.flc := by cases l <;> rfl
@[simp] theorem State.setLane_boot (s : State) (l : LaneId) (x : Lane) :
    (s.setLane l x).boot = s.boot := by cases l <;> rfl
@[simp] theorem State.updLane_boot (s : State) (l : LaneId) (g : Lane → Lane) :
    (s.updLane l g).boot = s.boot := by cases l <;> rfl
@[simp] theorem State.setLane_triad (s : State) (l : LaneId) (x : Lane) :
    (s.setLane l x).triad = s.triad := by cases l <;> rfl
@[simp] theorem State.updLane_triad (s : State) (l : LaneId) (g : Lane → Lane) :
    (s.updLane l g).triad = s.triad := by cases l <;> rfl
@[simp] theorem State.setLane_cyc (s : State) (l : LaneId) (x : Lane) :
    (s.setLane l x).cyc = s.cyc := by cases l <;> rfl
@[simp] theorem State.updLane_cyc (s : State) (l : LaneId) (g : Lane → Lane) :
    (s.updLane l g).cyc = s.cyc := by cases l <;> rfl
@[simp] theorem State.setLane_now (s : State) (l : LaneId) (x : Lane) :
    (s.setLane l x).now = s.now := by cases l <;> rfl
@[simp] theorem State.updLane_now (s : State) (l : LaneId) (g : Lane → Lane) :
    (s.updLane l g).now = s.now := by cases l <;> rfl
@[simp] theorem State.setLane_fd (s : State) (l : LaneId) (x : Lane) :
    (s.setLane l x).fd = s.fd := by cases l <;> rfl
@[simp] theorem State.updLane_fd (s : State) (l : LaneId) (g : Lane → Lane) :
    (s.updLane l g).fd = s.fd := by cases l <;> rfl
@[simp] theorem State.setLane_link (s : State) (l : LaneId) (x : Lane) :
    (s.setLane l x).link = s.link := by cases l <;> rfl
@[simp] theorem State.updLane_link (s : State) (l : LaneId) (g : Lane → Lane) :
    (s.updLane l g).link = s.link := by cases l <;> rfl
@[simp] theorem State.setLane_sig (s : State) (l : LaneId) (x : Lane) :
    (s.setLane l x).sig = s.sig := by cases l <;> rfl
@[simp] theorem State.updLane_sig (s : State) (l : LaneId) (g : Lane → Lane) :
    (s.updLane l g).sig = s.sig := by cases l <;> rfl
@[simp] theorem State.setLane_sigAt (s : State) (l : LaneId) (x : Lane) :
    (s.setLane l x).sigAt = s.sigAt := by cases l <;> rfl
@[simp] theorem State.setLane_clkOut (s : State) (l : LaneId) (x : Lane) :
    (s.setLane l x).clkOut = s.clkOut := by cases l <;> rfl
@[simp] theorem State.setLane_sigSlot (s : State) (l : LaneId) (x : Lane) :
    (s.setLane l x).sigSlot = s.sigSlot := by cases l <;> rfl
@[simp] theorem State.updLane_sigAt (s : State) (l : LaneId) (g : Lane → Lane) :
    (s.updLane l g).sigAt = s.sigAt := by cases l <;> rfl
@[simp] theorem State.updLane_clkOut (s : State) (l : LaneId) (g : Lane → Lane) :
    (s.updLane l g).clkOut = s.clkOut := by cases l <;> rfl
@[simp] theorem State.updLane_sigSlot (s : State) (l : LaneId) (g : Lane → Lane) :
    (s.updLane l g).sigSlot = s.sigSlot := by cases l <;> rfl
@[simp] theorem State.setLane_eth (s : State) (l : LaneId) (x : Lane) :
    (s.setLane l x).eth = s.eth := by cases l <;> rfl
@[simp] theorem State.updLane_eth (s : State) (l : LaneId) (g : Lane → Lane) :
    (s.updLane l g).eth = s.eth := by cases l <;> rfl
@[simp] theorem State.setLane_pde (s : State) (l : LaneId) (x : Lane) :
    (s.setLane l x).pde = s.pde := by cases l <;> rfl
@[simp] theorem State.updLane_pde (s : State) (l : LaneId) (g : Lane → Lane) :
    (s.updLane l g).pde = s.pde := by cases l <;> rfl
@[simp] theorem State.setLane_tim (s : State) (l : LaneId) (x : Lane) :
    (s.setLane l x).tim = s.tim := by cases l <;> rfl
@[simp] theorem State.updLane_tim (s : State) (l : LaneId) (g : Lane → Lane) :
    (s.updLane l g).tim = s.tim := by cases l <;> rfl
@[simp] theorem State.setLane_can (s : State) (l : LaneId) (x : Lane) :
    (s.setLane l x).can = s.can := by cases l <;> rfl
@[simp] theorem State.updLane_can (s : State) (l : LaneId) (g : Lane → Lane) :
    (s.updLane l g).can = s.can := by cases l <;> rfl
@[simp] theorem State.setLane_drv (s : State) (l : LaneId) (x : Lane) :
    (s.setLane l x).drv = s.drv := by cases l <;> rfl
@[simp] theorem State.updLane_drv (s : State) (l : LaneId) (g : Lane → Lane) :
    (s.updLane l g).drv = s.drv := by cases l <;> rfl
@[simp] theorem State.setLane_flk (s : State) (l : LaneId) (x : Lane) :
    (s.setLane l x).flk = s.flk := by cases l <;> rfl
@[simp] theorem State.updLane_flk (s : State) (l : LaneId) (g : Lane → Lane) :
    (s.updLane l g).flk = s.flk := by cases l <;> rfl
@[simp] theorem State.setLane_station (s : State) (l : LaneId) (x : Lane) :
    (s.setLane l x).station = s.station := by cases l <;> rfl
@[simp] theorem State.updLane_station (s : State) (l : LaneId) (g : Lane → Lane) :
    (s.updLane l g).station = s.station := by cases l <;> rfl
@[simp] theorem State.setLane_pair (s : State) (l : LaneId) (x : Lane) :
    (s.setLane l x).pair = s.pair := by cases l <;> rfl
@[simp] theorem State.updLane_pair (s : State) (l : LaneId) (g : Lane → Lane) :
    (s.updLane l g).pair = s.pair := by cases l <;> rfl
@[simp] theorem State.setLane_recd (s : State) (l : LaneId) (x : Lane) :
    (s.setLane l x).recd = s.recd := by cases l <;> rfl
@[simp] theorem State.updLane_recd (s : State) (l : LaneId) (g : Lane → Lane) :
    (s.updLane l g).recd = s.recd := by cases l <;> rfl
@[simp] theorem State.setLane_upd (s : State) (l : LaneId) (x : Lane) :
    (s.setLane l x).upd = s.upd := by cases l <;> rfl
@[simp] theorem State.updLane_upd (s : State) (l : LaneId) (g : Lane → Lane) :
    (s.updLane l g).upd = s.upd := by cases l <;> rfl
@[simp] theorem State.setLane_resp (s : State) (l : LaneId) (x : Lane) :
    (s.setLane l x).resp = s.resp := by cases l <;> rfl
@[simp] theorem State.updLane_resp (s : State) (l : LaneId) (g : Lane → Lane) :
    (s.updLane l g).resp = s.resp := by cases l <;> rfl
@[simp] theorem State.setLane_rdata (s : State) (l : LaneId) (x : Lane) :
    (s.setLane l x).rdata = s.rdata := by cases l <;> rfl
@[simp] theorem State.setLane_rtag (s : State) (l : LaneId) (x : Lane) :
    (s.setLane l x).rtag = s.rtag := by cases l <;> rfl
@[simp] theorem State.setLane_reff (s : State) (l : LaneId) (x : Lane) :
    (s.setLane l x).reff = s.reff := by cases l <;> rfl
@[simp] theorem State.updLane_rdata (s : State) (l : LaneId) (g : Lane → Lane) :
    (s.updLane l g).rdata = s.rdata := by cases l <;> rfl
@[simp] theorem State.updLane_rtag (s : State) (l : LaneId) (g : Lane → Lane) :
    (s.updLane l g).rtag = s.rtag := by cases l <;> rfl
@[simp] theorem State.updLane_reff (s : State) (l : LaneId) (g : Lane → Lane) :
    (s.updLane l g).reff = s.reff := by cases l <;> rfl
@[simp] theorem State.setLane_freeCtr (s : State) (l : LaneId) (x : Lane) :
    (s.setLane l x).freeCtr = s.freeCtr := by cases l <;> rfl
@[simp] theorem State.updLane_freeCtr (s : State) (l : LaneId) (g : Lane → Lane) :
    (s.updLane l g).freeCtr = s.freeCtr := by cases l <;> rfl

@[simp] theorem State.fset_lane (s : State) (f : Fld) (v : Nat) (l : LaneId) :
    (s.fset f v).lane l = s.lane l := by cases l <;> rfl
@[simp] theorem State.setReg_lane (s : State) (a : Nat) (v : Word) (l : LaneId) :
    (s.setReg a v).lane l = s.lane l := by cases l <;> rfl
@[simp] theorem State.memPut_lane (s : State) (k : Nat) (bs : List Byte) (l : LaneId) :
    (s.memPut k bs).lane l = s.lane l := by cases l <;> rfl
@[simp] theorem State.setLane_fget (s : State) (l : LaneId) (x : Lane) (f : Fld) :
    (s.setLane l x).fget f = s.fget f := State.fget_congr (State.setLane_regs s l x) f
@[simp] theorem State.updLane_fget (s : State) (l : LaneId) (g : Lane → Lane) (f : Fld) :
    (s.updLane l g).fget f = s.fget f := State.fget_congr (State.updLane_regs s l g) f

/-! ### Bytes of memory -/

theorem smGet_mapPut_lt (d : Nat → Byte) (bs : List Byte) (m : List Host.Cell) {k j : Nat}
    (h : j < k) : smGet d (mapPut d m k bs) j = smGet d m j := by
  induction bs generalizing m k with
  | nil => rfl
  | cons b bs ih =>
    rw [mapPut, ih _ (by omega), smGet_smSet, if_neg (by omega)]

/-- A read after a store: the stored bytes, and every other byte as before. -/
theorem smGet_mapPut (d : Nat → Byte) (bs : List Byte) (m : List Host.Cell) (k j : Nat) :
    smGet d (mapPut d m k bs) j =
      if k ≤ j ∧ j < k + bs.length then bs.getD (j - k) 0 else smGet d m j := by
  induction bs generalizing m k with
  | nil =>
    rw [if_neg (by simp), mapPut]
  | cons b bs ih =>
    rw [mapPut]
    by_cases hj : j = k
    · subst hj
      rw [smGet_mapPut_lt _ _ _ (Nat.lt_succ_self j), smGet_smSet, if_pos rfl, if_pos (by simp)]
      simp
    · have hk : ¬ k = j := fun e => hj e.symm
      have hs : smGet d (smSet d m k b) j = smGet d m j := by rw [smGet_smSet, if_neg hk]
      rw [ih, hs]
      by_cases h : k + 1 ≤ j ∧ j < k + 1 + bs.length
      · have e : j - k = (j - (k + 1)) + 1 := by omega
        rw [if_pos h, if_pos (by simp only [List.length_cons]; omega), e, List.getD_cons_succ]
      · rw [if_neg h, if_neg (by simp only [List.length_cons]; omega)]

theorem leBytes_length (n v : Nat) : (leBytes n v).length = n := by
  induction n generalizing v with
  | zero => rfl
  | succ n ih => simp [leBytes, ih]

theorem mapBytes_length (d : Nat → Byte) (m : List Host.Cell) (k n : Nat) :
    (mapBytes d m k n).length = n := by
  induction n generalizing k with
  | zero => rfl
  | succ n ih => simp [mapBytes, ih]

theorem ofLe_leBytes (n v : Nat) : ofLe (leBytes n v) = v % 256 ^ n := by
  induction n generalizing v with
  | zero => simp [leBytes, ofLe, Nat.mod_one]
  | succ n ih =>
    rw [leBytes, ofLe, ih, BitVec.toNat_ofNat, pow_succ (256 : Nat) n, Nat.mul_comm (256 ^ n) 256,
      Nat.mod_mul]

theorem mapBytes_mapPut_lt (d : Nat → Byte) (bs : List Byte) (m : List Host.Cell) (k j n : Nat)
    (h : j + n ≤ k) : mapBytes d (mapPut d m k bs) j n = mapBytes d m j n := by
  induction n generalizing j with
  | zero => rfl
  | succ n ih => rw [mapBytes, mapBytes, ih _ (by omega), smGet_mapPut_lt _ _ _ (by omega)]

theorem mapBytes_smSet_gt (d : Nat → Byte) (b : Byte) (m : List Host.Cell) (k j n : Nat)
    (h : k < j) : mapBytes d (smSet d m k b) j n = mapBytes d m j n := by
  induction n generalizing j with
  | zero => rfl
  | succ n ih => rw [mapBytes, mapBytes, ih _ (by omega), smGet_smSet, if_neg (by omega)]

/-- What was stored is read back. -/
theorem mapBytes_mapPut_self (d : Nat → Byte) (bs : List Byte) (m : List Host.Cell) (k : Nat) :
    mapBytes d (mapPut d m k bs) k bs.length = bs := by
  induction bs generalizing m k with
  | nil => rfl
  | cons b bs ih =>
    rw [List.length_cons, mapBytes, mapPut, ih,
      smGet_mapPut_lt _ _ _ (Nat.lt_succ_self k), smGet_smSet_self]

/-- A stored number is read back. -/
theorem State.memLe_memPutLe (s : State) (k n v : Nat) :
    (s.memPutLe k n v).memLe k n = v % 256 ^ n := by
  have h := mapBytes_mapPut_self memDflt (leBytes n v) s.mem k
  rw [leBytes_length] at h
  show ofLe (mapBytes memDflt (mapPut memDflt s.mem k (leBytes n v)) k n) = _
  rw [h, ofLe_leBytes]

/-- A stored number changes no other byte. -/
theorem State.byteAt_memPutLe (s : State) (k n v : Nat) {j : Nat} (h : j < k ∨ k + n ≤ j) :
    (s.memPutLe k n v).byteAt j = s.byteAt j := by
  show smGet memDflt (mapPut memDflt s.mem k (leBytes n v)) j = _
  rw [smGet_mapPut, if_neg (by rw [leBytes_length]; omega)]
  rfl

/-! ### The canonical forms -/

theorem mapPut_wf {d : Nat → Byte} (bs : List Byte) {m : List Host.Cell} (k : Nat)
    (h : smWf d m = true) : smWf d (mapPut d m k bs) = true := by
  induction bs generalizing m k with
  | nil => exact h
  | cons b bs ih => exact ih _ (smWf_smSet k b h)

theorem flashAnd_wf (bs : List Byte) {m : List Host.Cell} (a : Nat)
    (h : smWf flashDflt m = true) : smWf flashDflt (flashAnd m a bs) = true := by
  induction bs generalizing m a with
  | nil => exact h
  | cons b bs ih => exact ih _ (smWf_smSet a _ h)

theorem copyPriv_wf {m : List Host.Cell} (src dst : CoreId) (lo n : Nat) (h : memWf m = true) :
    memWf (copyPriv m src dst lo n) = true :=
  smWf_foldl _ (fun _ p hm => smWf_smSet _ p.2 hm) _ _ (smWf_smClear _ n h)

/-- Every operation on memory keeps its canonical form. -/
theorem State.memPut_wf {s : State} (k : Nat) (bs : List Byte) (h : memWf s.mem = true) :
    memWf (s.memPut k bs).mem = true := mapPut_wf bs k h

theorem State.memPutLe_wf {s : State} (k n v : Nat) (h : memWf s.mem = true) :
    memWf (s.memPutLe k n v).mem = true := mapPut_wf _ k h

theorem State.memClear_wf {s : State} (k n : Nat) (h : memWf s.mem = true) :
    memWf (s.memClear k n).mem = true := smWf_smClear k n h

theorem State.flashProgram_wf {s : State} (a : Nat) (bs : List Byte) (h : flashWf s.flash = true) :
    flashWf (s.flashProgram a bs).flash = true := flashAnd_wf bs a h

theorem State.flashErase_wf {s : State} (a : Nat) (h : flashWf s.flash = true) :
    flashWf (s.flashErase a).flash = true := smWf_smClear _ 4096 h

end Sys2Proof.Machine
end

