-- ==== Sys2Proof/Laws/Wf.lean ====
section
/-! SUPPORT. Sys2Proof/Laws/Wf.lean: the basic updates of a state keep the canonical forms of its
memory, its flash and its registers. -/

namespace Sys2Proof.Machine

/-- The canonical forms depend on the three maps alone. -/
theorem State.wf_congr {s t : State} (hm : t.mem = s.mem) (hf : t.flash = s.flash)
    (hr : t.regs = s.regs) : t.wf ↔ s.wf := by
  unfold State.wf
  rw [hm, hf, hr]

theorem State.reset_wf : State.reset.wf :=
  ⟨by decide +kernel, by decide +kernel, by decide +kernel⟩

/-! ### Registers -/

theorem State.fset_wf {s : State} (f : Fld) (v : Nat) (h : s.wf) : (s.fset f v).wf :=
  ⟨h.1, h.2.1, regWf_fset f v h.2.2⟩

theorem State.setReg_wf {s : State} (a : Nat) (v : Word) (h : s.wf) : (s.setReg a v).wf :=
  ⟨h.1, h.2.1, regWf_setWord a v h.2.2⟩

theorem State.raise_wf {s : State} (f : Fld) (h : s.wf) : (s.raise f).wf := s.fset_wf f 1 h

theorem State.lower_wf {s : State} (f : Fld) (h : s.wf) : (s.lower f).wf := s.fset_wf f 0 h

theorem State.show_wf {s : State} (f : Fld) (b : Bool) (h : s.wf) : (s.show f b).wf :=
  s.fset_wf f _ h

theorem State.bumpBy_wf {s : State} (f : Fld) (n : Nat) (h : s.wf) : (s.bumpBy f n).wf :=
  s.fset_wf f _ h

theorem State.bump_wf {s : State} (f : Fld) (h : s.wf) : (s.bump f).wf := s.bumpBy_wf f 1 h

theorem State.count_wf {s : State} (c : Nat) (h : s.wf) : (s.count c).wf := s.bump_wf _ h

theorem State.when_wf {s : State} {b : Bool} {f : State → State}
    (hf : ∀ x : State, x.wf → (f x).wf) (h : s.wf) : (s.when b f).wf := by
  cases b
  · exact h
  · exact hf s h

/-- A list of updates that each keep the canonical forms keeps them. -/
theorem State.foldl_wf {β : Type} {f : State → β → State}
    (hf : ∀ (x : State) (b : β), x.wf → (f x b).wf) (bs : List β) {s : State} (h : s.wf) :
    (bs.foldl f s).wf := by
  induction bs generalizing s with
  | nil => exact h
  | cons b bs ih => exact ih (hf s b h)

/-! ### Memory and flash -/

theorem State.memPut_keeps {s : State} (k : Nat) (bs : List Byte) (h : s.wf) :
    (s.memPut k bs).wf := ⟨State.memPut_wf k bs h.1, h.2⟩

theorem State.memPutLe_keeps {s : State} (k n v : Nat) (h : s.wf) : (s.memPutLe k n v).wf :=
  ⟨State.memPutLe_wf k n v h.1, h.2⟩

theorem State.memClear_keeps {s : State} (k n : Nat) (h : s.wf) : (s.memClear k n).wf :=
  ⟨State.memClear_wf k n h.1, h.2⟩

theorem State.flashProgram_keeps {s : State} (a : Nat) (bs : List Byte) (h : s.wf) :
    (s.flashProgram a bs).wf := ⟨h.1, State.flashProgram_wf a bs h.2.1, h.2.2⟩

theorem State.flashErase_keeps {s : State} (a : Nat) (h : s.wf) : (s.flashErase a).wf :=
  ⟨h.1, State.flashErase_wf a h.2.1, h.2.2⟩

/-! ### Lanes, responses, free values -/

theorem State.setLane_wf {s : State} (l : LaneId) (x : Lane) (h : s.wf) : (s.setLane l x).wf := by
  cases l <;> exact h

theorem State.updLane_wf {s : State} (l : LaneId) (f : Lane → Lane) (h : s.wf) :
    (s.updLane l f).wf := s.setLane_wf l _ h

theorem State.answer_wf {s : State} (r : Resp) (h : s.wf) : (s.answer r).wf := h

theorem State.answerData_wf {s : State} (d : BitVec 256) (h : s.wf) : (s.answerData d).wf := h

theorem State.free_wf {s : State} (h : s.wf) : s.free.2.wf := h

theorem State.hubReply_wf {s : State} (i : HubItem) (code : Nat) (effect : Bool) (data : Nat)
    (h : s.wf) : (s.hubReply i code effect data).wf := by
  have h1 : (s.when (code = 2) (fun x => x.raise MEM_EVT_PERM)).wf :=
    State.when_wf (fun x hx => x.raise_wf _ hx) h
  unfold State.hubReply
  split
  · exact h1
  · split
    · exact State.foldl_wf (fun x l hx => x.updLane_wf l _ hx) _ h1
    · exact h1

theorem State.fetchGot_wf {s : State} (k code : Nat) (data : DWord) (h : s.wf) :
    (s.fetchGot k code data).wf := by
  unfold State.fetchGot
  split
  · split
    · exact h
    · exact h
  · exact h

theorem State.replyNat_wf {s : State} (i : HubItem) (code : Nat) (effect : Bool) (data : Nat)
    (h : s.wf) : (s.replyNat i code effect data).wf := by
  have h1 : (s.when (code = 2) (fun x => x.raise MEM_EVT_PERM)).wf :=
    State.when_wf (fun x hx => x.raise_wf _ hx) h
  unfold State.replyNat
  split
  · exact s.fetchGot_wf _ _ _ h
  · split
    · simp only
      split
      · exact h1
      · exact h1
    · exact s.hubReply_wf i code effect data h

theorem State.reply_wf {s : State} (i : HubItem) (code : Nat) (effect : Bool) (data : DWord)
    (h : s.wf) : (s.reply i code effect data).wf := s.replyNat_wf i code effect data.toNat h

/-! ### The bits in error -/

theorem State.setUpsets_wf {s : State} (k : Nat) (bits : List Nat) (h : s.wf) :
    (s.setUpsets k bits).wf := h

/-- The list of the words with bits in error keeps its canonical form. -/
theorem State.setUpsets_canonical (s : State) (k : Nat) (bits : List Nat)
    (h : smWf noBits s.memx.upsets = true) :
    smWf noBits (s.setUpsets k bits).memx.upsets = true := smWf_smSet k bits h

end Sys2Proof.Machine
end

