-- ==== Sys2Proof/Laws/Words.lean ====
section
/-! SUPPORT. Sys2Proof/Laws/Words.lean: what reading, storing and recording a coded word can do. -/

namespace Sys2Proof.Machine

/-! ### What the decoders find -/

/-- Both decoders find nothing in a word whose bits are all right. -/
theorem State.finding_clean (s : State) (bk : Bank) (off : Nat)
    (h : s.upsetsAt (wordKey bk off) = []) : s.finding bk off = .clean := by
  unfold State.finding
  cases bk <;> simp only [h] <;> rfl

/-- A word has no data where it is poisoned or its finding leaves none. -/
theorem State.wordBad_iff (s : State) (bk : Bank) (off : Nat) :
    s.wordBad bk off = true ↔ s.poisonedAt bk off = true ∨ (s.finding bk off).bad = true := by
  unfold State.wordBad
  rw [Bool.or_eq_true]

/-- A word whose bits are all right and that is not poisoned has data. -/
theorem State.wordBad_clean (s : State) (bk : Bank) (off : Nat)
    (h : s.upsetsAt (wordKey bk off) = []) (hp : s.poisonedAt bk off = false) :
    s.wordBad bk off = false := by
  unfold State.wordBad
  rw [State.finding_clean s bk off h, hp]
  rfl

/-- A word whose bits are all right is read as it stands, and nothing changes. -/
theorem State.wordRead_clean (s : State) (bk : Bank) (off src : Nat)
    (h : s.upsetsAt (wordKey bk off) = []) (hp : s.poisonedAt bk off = false) :
    s.wordRead bk off src = (s, some (s.wordRaw bk off)) := by
  unfold State.wordRead
  rw [State.finding_clean s bk off h, hp]
  rfl

/-- Everything that a read of a word can do. -/
theorem State.wordRead_cases (s : State) (bk : Bank) (off src : Nat) :
    (s.poisonedAt bk off = true ∧ s.wordRead bk off src = (s, none)) ∨
    (s.finding bk off = .clean ∧ s.wordRead bk off src = (s, some (s.wordRaw bk off))) ∨
    (∃ b, s.finding bk off = .corrected b
      ∧ s.wordRead bk off src = (s.recordCe bk off b, some (s.wordRaw bk off))) ∨
    (∃ d b, s.finding bk off = .wrong d b ∧ s.wordRead bk off src
      = (s.when (!b.isEmpty) (fun x => x.recordCe bk off b), some (d % 2 ^ (8 * bankWord bk)))) ∨
    (s.finding bk off = .uncorrectable
      ∧ s.wordRead bk off src = ((s.recordUe bk off src).poisonWord bk off, none)) ∨
    (s.finding bk off = .address ∧ s.wordRead bk off src
      = (((s.recordUe bk off src).poisonWord bk off).raise MEM_EVT_ADDR_FAULT, none)) := by
  unfold State.wordRead
  cases hp : s.poisonedAt bk off
  · cases hf : s.finding bk off <;> simp
  · simp

/-- A read gives data exactly where the word has some. -/
theorem State.wordRead_none (s : State) (bk : Bank) (off src : Nat) :
    (s.wordRead bk off src).2 = none ↔ s.wordBad bk off = true := by
  unfold State.wordRead State.wordBad
  cases hp : s.poisonedAt bk off
  · cases hf : s.finding bk off <;> simp [Found.bad]
  · simp

/-! ### Recording keeps the canonical forms -/

theorem State.recordUe_wf {s : State} (bk : Bank) (off src : Nat) (h : s.wf) :
    (s.recordUe bk off src).wf :=
  State.count_wf _ (State.bump_wf _ (State.fset_wf _ _ (State.fset_wf _ _ (State.fset_wf _ _
    (State.raise_wf _ h)))))

theorem State.poisonWord_wf {s : State} (bk : Bank) (off : Nat) (h : s.wf) :
    (s.poisonWord bk off).wf := by
  have hc : ∀ k n : Nat, (s.memClear k n).wf := fun k n => State.memClear_keeps k n h
  unfold State.poisonWord
  cases bk <;> simp only
  · exact h
  · split
    · exact hc _ _
    · exact hc _ _
  · split
    · exact hc _ _
    · exact hc _ _

theorem State.trackRow_wf {s : State} (b row : Nat) (h : s.wf) : (s.trackRow b row).wf := by
  unfold State.trackRow
  split
  · split
    · exact h
    · simp only
      split
      · exact h
      · exact h
  · simp only
    split
    · exact h
    · split
      · exact h
      · rename_i v _
        have h1 : (s.when (v.count ≥ 2) (fun x => x.raise MEM_EVT_TRACK_OVF)).wf :=
          State.when_wf (fun x hx => x.raise_wf _ hx) h
        exact h1

theorem State.trackBit_wf {s : State} (b row bit : Nat) (h : s.wf) : (s.trackBit b row bit).wf := by
  unfold State.trackBit
  simp only
  split
  · exact h
  · exact h

theorem State.recordCe_wf {s : State} (bk : Bank) (off : Nat) (bits : List Nat) (h : s.wf) :
    (s.recordCe bk off bits).wf :=
  State.foldl_wf (fun _ _ hx => State.trackBit_wf _ _ _ hx) _
    (State.trackRow_wf _ _ (State.bump_wf _ (State.raise_wf _ h)))

theorem State.wordRead_wf {s : State} (bk : Bank) (off src : Nat) (h : s.wf) :
    (s.wordRead bk off src).1.wf := by
  rcases s.wordRead_cases bk off src with ⟨-, e⟩ | ⟨-, e⟩ | ⟨b, -, e⟩ | ⟨d, b, -, e⟩ | ⟨-, e⟩ | ⟨-, e⟩ <;>
    rw [e]
  · exact h
  · exact h
  · exact State.recordCe_wf _ _ _ h
  · exact State.when_wf (fun x hx => State.recordCe_wf _ _ _ hx) h
  · exact State.poisonWord_wf _ _ (State.recordUe_wf _ _ _ h)
  · exact State.raise_wf _ (State.poisonWord_wf _ _ (State.recordUe_wf _ _ _ h))

theorem State.wordStore_wf {s : State} (bk : Bank) (off n v src : Nat) (h : s.wf) :
    (s.wordStore bk off n v src).1.wf := by
  have hr := State.wordRead_wf bk off src h
  unfold State.wordStore
  simp only
  split
  · exact State.memPutLe_keeps _ _ _ h
  · split
    · exact hr
    · split
      · exact State.memPutLe_keeps _ _ _ hr
      · exact State.setUpsets_wf _ _ (State.memPutLe_keeps _ _ _ (State.memPutLe_keeps _ _ _ hr))

theorem State.bankPut_wf {s : State} (bk : Bank) (off src : Nat) (bs : List Byte) (h : s.wf) :
    (s.bankPut bk off src bs).wf := by
  unfold State.bankPut
  split
  · exact State.memPut_keeps _ _ h
  · exact State.foldl_wf (fun _ _ hx => State.wordStore_wf _ _ _ _ _ hx) _ h

theorem State.wordScrub_wf {s : State} (bk : Bank) (off src : Nat) (h : s.wf) :
    (s.wordScrub bk off src).wf := by
  have hr := State.wordRead_wf bk off src h
  unfold State.wordScrub
  simp only
  split
  · exact hr
  · split
    · exact hr
    · exact State.setUpsets_wf _ _ (State.memPutLe_keeps _ _ _ hr)

theorem State.rowCopy_wf {s : State} (bk : Bank) (row : Nat) (h : s.wf) : (s.rowCopy bk row).wf :=
  State.foldl_wf (fun _ _ hx => State.wordScrub_wf _ _ _ hx) _ h

theorem State.privSeen_wf {s : State} (k : CoreId) (a : Nat) (h : s.wf) : (s.privSeen k a).wf :=
  State.wordRead_wf _ _ _ h

/-! ### Recording changes only registers and the record of errors -/

/-- Two states that differ in the registers and in the memory system's records alone. -/
def State.onlyEcc (s t : State) : Prop := ∃ r x, t = { s with regs := r, memx := x }

theorem State.onlyEcc_refl (s : State) : s.onlyEcc s := ⟨s.regs, s.memx, rfl⟩

theorem State.onlyEcc_trans {s t u : State} (h : s.onlyEcc t) (k : t.onlyEcc u) : s.onlyEcc u := by
  obtain ⟨r, x, rfl⟩ := h
  obtain ⟨q, y, rfl⟩ := k
  exact ⟨q, y, rfl⟩

theorem State.onlyEcc_foldl {β : Type} {f : State → β → State}
    (hf : ∀ (x : State) (b : β), x.onlyEcc (f x b)) (bs : List β) (s : State) :
    s.onlyEcc (bs.foldl f s) := by
  induction bs generalizing s with
  | nil => exact s.onlyEcc_refl
  | cons b bs ih => exact State.onlyEcc_trans (hf s b) (ih (f s b))

theorem State.fset_onlyEcc (s : State) (f : Fld) (v : Nat) : s.onlyEcc (s.fset f v) :=
  ⟨_, s.memx, rfl⟩

theorem State.trackRow_onlyEcc (s : State) (b row : Nat) : s.onlyEcc (s.trackRow b row) := by
  unfold State.trackRow
  split
  · split
    · exact s.onlyEcc_refl
    · simp only
      split
      · exact ⟨s.regs, _, rfl⟩
      · exact ⟨s.regs, _, rfl⟩
  · simp only
    split
    · exact ⟨s.regs, _, rfl⟩
    · split
      · exact s.onlyEcc_refl
      · rename_i v _
        refine State.onlyEcc_trans (t := s.when (v.count ≥ 2) (fun x => x.raise MEM_EVT_TRACK_OVF)) ?_
          ⟨_, _, rfl⟩
        unfold State.when
        split
        · exact State.fset_onlyEcc _ _ _
        · exact s.onlyEcc_refl

theorem State.trackBit_onlyEcc (s : State) (b row bit : Nat) : s.onlyEcc (s.trackBit b row bit) := by
  unfold State.trackBit
  simp only
  split
  · exact ⟨s.regs, _, rfl⟩
  · exact ⟨s.regs, _, rfl⟩

theorem State.recordCe_onlyEcc (s : State) (bk : Bank) (off : Nat) (bits : List Nat) :
    s.onlyEcc (s.recordCe bk off bits) :=
  State.onlyEcc_trans (State.onlyEcc_trans (State.onlyEcc_trans (State.fset_onlyEcc _ _ _)
    (State.fset_onlyEcc _ _ _)) (State.trackRow_onlyEcc _ _ _))
    (State.onlyEcc_foldl (fun x n => x.trackBit_onlyEcc _ _ n) _ _)

theorem State.recordUe_onlyEcc (s : State) (bk : Bank) (off src : Nat) :
    s.onlyEcc (s.recordUe bk off src) :=
  State.onlyEcc_trans (State.onlyEcc_trans (State.onlyEcc_trans (State.onlyEcc_trans
    (State.onlyEcc_trans (State.fset_onlyEcc _ _ _) (State.fset_onlyEcc _ _ _))
    (State.fset_onlyEcc _ _ _)) (State.fset_onlyEcc _ _ _)) (State.fset_onlyEcc _ _ _))
    (State.fset_onlyEcc _ _ _)

/-- A read of a private word changes the registers and the records of errors alone: private memory
has no poisoned form. -/
theorem State.wordRead_priv (s : State) (k : CoreId) (off src : Nat) :
    s.onlyEcc (s.wordRead (.priv k) off src).1 := by
  rcases s.wordRead_cases (.priv k) off src with
    ⟨-, e⟩ | ⟨-, e⟩ | ⟨b, -, e⟩ | ⟨d, b, -, e⟩ | ⟨-, e⟩ | ⟨-, e⟩ <;> rw [e]
  · exact s.onlyEcc_refl
  · exact s.onlyEcc_refl
  · exact State.recordCe_onlyEcc _ _ _ _
  · show s.onlyEcc (s.when (!b.isEmpty) (fun x => x.recordCe (.priv k) off b))
    unfold State.when
    split
    · exact State.recordCe_onlyEcc _ _ _ _
    · exact s.onlyEcc_refl
  · exact State.recordUe_onlyEcc _ _ _ _
  · exact State.onlyEcc_trans (State.recordUe_onlyEcc _ _ _ _) (State.fset_onlyEcc _ _ _)

/-- What a read of a private word leaves in memory and in the lanes. -/
theorem State.privSeen_frame (s : State) (k : CoreId) (a : Nat) :
    (s.privSeen k a).mem = s.mem ∧ (s.privSeen k a).lane = s.lane ∧ (s.privSeen k a).boot = s.boot
      ∧ (s.privSeen k a).triad = s.triad := by
  obtain ⟨r, x, e⟩ := s.wordRead_priv k (a - 0x10000000) 0
  unfold State.privSeen
  rw [e]
  exact ⟨rfl, rfl, rfl, rfl⟩

/-- Reading a private word whose bits are all right changes nothing. -/
theorem State.privSeen_clean (s : State) (k : CoreId) (a : Nat)
    (h : s.upsetsAt (wordKey (.priv k) (a - 0x10000000)) = []) : s.privSeen k a = s := by
  unfold State.privSeen
  rw [State.wordRead_clean s _ _ 0 h rfl]

/-! ### Stores -/

/-- A store of a whole word leaves no bit in error and reads nothing. -/
theorem State.wordStore_whole (s : State) (k : CoreId) (off v src : Nat) :
    s.wordStore (.priv k) off 8 v src
      = ((s.memPutLe (wordKey (.priv k) off) 8 v).setUpsets (wordKey (.priv k) off) [], true) := rfl

/-- A private store of less than a word reads the word, and writes nothing where it has no data. -/
theorem State.wordStore_part (s : State) (k : CoreId) (off n v src : Nat) (hn : n ≠ 8) :
    s.wordStore (.priv k) off n v src =
      match (s.wordRead (.priv k) off src).2 with
      | none => ((s.wordRead (.priv k) off src).1, false)
      | some d =>
        if s.upsetsAt (wordKey (.priv k) off) = [] then
          ((s.wordRead (.priv k) off src).1.memPutLe (bankKey (.priv k) off) n v, true)
        else
          ((((s.wordRead (.priv k) off src).1.memPutLe (wordKey (.priv k) off) 8 d).memPutLe
            (bankKey (.priv k) off) n v).setUpsets (wordKey (.priv k) off) [], true) :=
  if_neg (show ¬n = bankWord (.priv k) from hn)

/-- A private store covers only bytes of its word. -/
theorem State.wordStore_priv (s : State) (k : CoreId) (off n v src : Nat)
    (hw : off % 8 + n ≤ 8) {j : Nat}
    (h : j < wordKey (.priv k) off ∨ wordKey (.priv k) off + 8 ≤ j) :
    (s.wordStore (.priv k) off n v src).1.byteAt j = s.byteAt j := by
  have hk : bankKey (.priv k) off = wordKey (.priv k) off + off % 8 := by
    simp only [wordKey, wordOff, bankKey, bankWord, privKey]
    omega
  have hm : ∀ a : Nat, (s.wordRead (.priv k) off src).1.byteAt a = s.byteAt a := by
    obtain ⟨r, x, e⟩ := s.wordRead_priv k off src
    intro a
    rw [e]
    rfl
  by_cases h8 : n = 8
  · subst h8
    rw [State.wordStore_whole]
    exact State.byteAt_memPutLe s _ 8 v h
  · rw [State.wordStore_part s k off n v src h8]
    cases (s.wordRead (.priv k) off src).2 with
    | none => exact hm j
    | some d =>
      by_cases hu : s.upsetsAt (wordKey (.priv k) off) = []
      · simp only [if_pos hu]
        exact (State.byteAt_memPutLe _ _ n v (by omega)).trans (hm j)
      · simp only [if_neg hu]
        exact ((State.byteAt_memPutLe _ _ n v (by omega)).trans
          (State.byteAt_memPutLe _ _ 8 d h)).trans (hm j)

/-- A private store into a word whose bits are all right changes the bytes that it covers alone. -/
theorem State.wordStore_clean (s : State) (k : CoreId) (off n v src : Nat) (hn : n ≠ 8)
    (hc : s.upsetsAt (wordKey (.priv k) off) = []) :
    s.wordStore (.priv k) off n v src = (s.memPutLe (bankKey (.priv k) off) n v, true) := by
  rw [State.wordStore_part s k off n v src hn, State.wordRead_clean s (.priv k) off src hc rfl]
  exact if_pos hc

end Sys2Proof.Machine
end

