-- ==== Sys2Proof/Laws/Lane.lean ====
section
/-! SUPPORT. Sys2Proof/Laws/Lane.lean: what the operations that every instruction shares can do. -/

namespace Sys2Proof.Machine

/-! ### Registers and status -/

theorem vecUpd_get {α : Type} {n : Nat} (v : Vector α n) (i : Nat) (f : α → α) (j : Nat) (hj : j < n) :
    (vecUpd v i f)[j] = if j = i then f v[j] else v[j] := by
  unfold vecUpd
  rw [Vector.getElem_mapIdx]

@[simp] theorem Lane.gpr_zero (x : Lane) : x.gpr 0 = 0 := rfl

/-- A general register but g0 is the vector's element. -/
theorem Lane.gpr_eq (x : Lane) {r : GReg} (h : r ≠ 0) : x.gpr r = x.g[r.toFin] := by
  have hr : r.toNat < 32 := r.isLt
  rw [Lane.gpr, if_neg h, List.getD_eq_getElem?_getD, List.getElem?_eq_getElem (by simpa using hr),
    Option.getD_some, Vector.getElem_toList]
  rfl

/-- A write to g0 is discarded (R215). -/
@[simp] theorem Lane.setGpr_zero (x : Lane) (v : DWord) : x.setGpr 0 v = x := rfl

/-- A register reads as it was written, g0 as zero. -/
theorem Lane.gpr_setGpr (x : Lane) (d r : GReg) (v : DWord) :
    (x.setGpr d v).gpr r = if r = 0 then 0 else if r = d then v else x.gpr r := by
  by_cases hr : r = 0
  · subst hr; rfl
  rw [if_neg hr, Lane.gpr_eq _ hr]
  by_cases hd : d = 0
  · subst hd
    rw [Lane.setGpr_zero, if_neg hr, Lane.gpr_eq _ hr]
  have hn : r.toNat < 32 := r.isLt
  rw [Lane.setGpr, if_neg hd, Lane.gpr_eq _ hr]
  show (vecUpd x.g d.toNat (fun _ => v))[r.toNat] = _
  rw [vecUpd_get]
  by_cases e : r = d
  · rw [if_pos e, if_pos (by rw [e])]
  · rw [if_neg e, if_neg (fun h => e (BitVec.eq_of_toNat_eq h))]
    rfl

/-- A register write changes nothing but the registers. -/
theorem Lane.setGpr_frame (x : Lane) (d : GReg) (v : DWord) :
    x.setGpr d v = { x with g := (x.setGpr d v).g } := by
  unfold Lane.setGpr
  split <;> rfl

/-- A change of ST changes nothing but ST. -/
theorem Lane.setSt_frame (x : Lane) (n : Nat) (b : Bool) :
    x.setSt n b = { x with st := (x.setSt n b).st } := rfl

@[simp] theorem Lane.setSt_gpr (x : Lane) (n : Nat) (b : Bool) (r : GReg) :
    (x.setSt n b).gpr r = x.gpr r := rfl

theorem setBit_testBit (v n : Nat) (b : Bool) (m : Nat) :
    (setBit v n b).testBit m = if m = n then b else v.testBit m := by
  have key : ∀ y k : Nat, y.testBit k = decide (bitsOf y k 1 = 1) := by
    intro y k
    rw [Nat.testBit_eq_decide_div_mod_eq]
    rfl
  unfold setBit
  rw [key]
  by_cases h : m = n
  · subst h
    rw [if_pos rfl, bitsOf_setBits_self]
    cases b <;> rfl
  · rw [if_neg h, key]
    rcases Nat.lt_or_gt_of_ne h with hl | hl
    · rw [bitsOf_setBits_below (by omega)]
    · rw [bitsOf_setBits_above (by omega)]

/-- A bit of ST reads as it was written. -/
theorem Lane.stBit_setSt (x : Lane) {n : Nat} (hn : n < 16) (b : Bool) (m : Nat) :
    (x.setSt n b).stBit m = if m = n then b else x.stBit m := by
  unfold Lane.stBit Lane.setSt
  by_cases hm : m < 16
  · rw [BitVec.getLsbD_ofNat, setBit_testBit]
    simp only [hm, decide_true, Bool.true_and]
    rfl
  · rw [if_neg (by omega), BitVec.getLsbD_of_ge _ _ (by omega), BitVec.getLsbD_of_ge _ _ (by omega)]

/-- Bits 0 to 3 of ST are Z, N, C and V (R216); the others keep their value. -/
theorem Lane.stBit_setZncv (x : Lane) (z n c v : Bool) (m : Nat) :
    (x.setZncv z n c v).stBit m
      = if m = 0 then z else if m = 1 then n else if m = 2 then c else if m = 3 then v
        else x.stBit m := by
  unfold Lane.setZncv
  rw [Lane.stBit_setSt _ (by omega), Lane.stBit_setSt _ (by omega), Lane.stBit_setSt _ (by omega),
    Lane.stBit_setSt _ (by omega)]
  rcases m with _ | _ | _ | _ | m <;> simp

/-! ### Words of private memory -/

/-- A word whose bits are all right is not bad, and reading it changes nothing. -/
theorem State.lclean_spec (s : State) (l : LaneId) (a : Nat) (h : s.lclean l a = true) :
    s.lbad l a = false ∧ s.lseen l a = s := by
  have hc := of_decide_eq_true h
  exact ⟨State.wordBad_clean s _ _ hc rfl, State.privSeen_clean s _ a hc⟩

/-- What a lane's read of a private word leaves in memory, in the lanes and in the Triad. -/
theorem State.lseen_frame (s : State) (l : LaneId) (a : Nat) :
    (s.lseen l a).mem = s.mem ∧ (s.lseen l a).lane = s.lane ∧ (s.lseen l a).boot = s.boot
      ∧ (s.lseen l a).triad = s.triad := s.privSeen_frame _ a

theorem State.lseen_wf {s : State} (l : LaneId) (a : Nat) (h : s.wf) : (s.lseen l a).wf :=
  State.privSeen_wf _ a h

/-! ### Instructions -/

/-- A lane that does not execute stays as it is, and so does everything else. -/
theorem State.instr_idle (s : State) (l : LaneId) (f : State → Lane → IRes)
    (h : (s.lane l).exec ≠ .run) : s.instr l f = s := by
  unfold State.instr
  simp only [if_pos h]

/-- An instruction at a pc outside the code range traps (R220). -/
theorem State.instr_outside (s : State) (l : LaneId) (f : State → Lane → IRes)
    (h : (s.lane l).exec = .run) (hc : s.inCode (s.lane l).pc.toNat = false) :
    s.instr l f = s.trapEnter l 3 (s.lane l).pc.toNat 0 := by
  unfold State.instr
  exact (if_neg (by simp [h])).trans (if_pos (by simp [hc]))

/-- An uncorrectable word at the pc (R134). -/
theorem State.instr_bad (s : State) (l : LaneId) (f : State → Lane → IRes)
    (h : (s.lane l).exec = .run) (hc : s.inCode (s.lane l).pc.toNat = true)
    (hb : s.lbad l (s.lane l).pc.toNat = true) :
    s.instr l f = s.privDedTake l (s.lane l).pc.toNat := by
  unfold State.instr
  exact (if_neg (by simp [h])).trans ((if_neg (by simp [hc])).trans (if_pos hb))

/-- A word that is no listed instruction traps as ILLEGAL (R220). -/
theorem State.instr_illegal (s : State) (l : LaneId) (f : State → Lane → IRes)
    (h : (s.lane l).exec = .run) (hc : s.inCode (s.lane l).pc.toNat = true)
    (hb : s.lbad l (s.lane l).pc.toNat = false)
    (hw : wordListed (s.lread l (s.lane l).pc.toNat 4) = false) :
    s.instr l f = (s.lseen l (s.lane l).pc.toNat).trapEnter l 1 0 0 := by
  unfold State.instr
  exact (if_neg (by simp [h])).trans ((if_neg (by simp [hc])).trans ((if_neg (by simp [hb])).trans
    (if_pos (by simp [hw]))))

/-- An instruction of a lane that executes, at a listed word, does what its operation answers. -/
theorem State.instr_fetched (s : State) (l : LaneId) (f : State → Lane → IRes)
    (h : (s.lane l).exec = .run) (hc : s.inCode (s.lane l).pc.toNat = true)
    (hb : s.lbad l (s.lane l).pc.toNat = false)
    (hw : wordListed (s.lread l (s.lane l).pc.toNat 4) = true) :
    s.instr l f = match f (s.lseen l (s.lane l).pc.toNat) (s.lane l) with
      | .done t => t.updLane l (fun y => { y with pc := BitVec.ofNat 32 ((s.lane l).pc.toNat + 4) })
      | .goto t a => t.updLane l (fun y => { y with pc := BitVec.ofNat 32 a })
      | .hold t => t
      | .trap c a => (s.lseen l (s.lane l).pc.toNat).trapEnter l c a 0
      | .ded t a => t.privDedTake l a := by
  unfold State.instr
  refine (if_neg (by simp [h])).trans ((if_neg (by simp [hc])).trans ((if_neg (by simp [hb])).trans
    ((if_neg (by simp [hw])).trans ?_)))
  cases f (s.lseen l (s.lane l).pc.toNat) (s.lane l) <;> rfl

/-- The same where the fetched word's bits are all right: the fetch changes nothing. -/
theorem State.instr_ready (s : State) (l : LaneId) (f : State → Lane → IRes)
    (h : (s.lane l).exec = .run) (hc : s.inCode (s.lane l).pc.toNat = true)
    (hb : s.lclean l (s.lane l).pc.toNat = true)
    (hw : wordListed (s.lread l (s.lane l).pc.toNat 4) = true) :
    s.instr l f = match f s (s.lane l) with
      | .done t => t.updLane l (fun y => { y with pc := BitVec.ofNat 32 ((s.lane l).pc.toNat + 4) })
      | .goto t a => t.updLane l (fun y => { y with pc := BitVec.ofNat 32 a })
      | .hold t => t
      | .trap c a => s.trapEnter l c a 0
      | .ded t a => t.privDedTake l a := by
  obtain ⟨h1, h2⟩ := s.lclean_spec l _ hb
  rw [State.instr_fetched s l f h hc h1 hw, h2]

/-- An instruction that changes only its lane, on a lane that executes. -/
theorem State.instrLane_ready (s : State) (l : LaneId) (f : Lane → Lane)
    (h : (s.lane l).exec = .run) (hc : s.inCode (s.lane l).pc.toNat = true)
    (hb : s.lclean l (s.lane l).pc.toNat = true)
    (hw : wordListed (s.lread l (s.lane l).pc.toNat 4) = true) :
    s.instrLane l f
      = s.updLane l (fun x => { f x with pc := BitVec.ofNat 32 ((s.lane l).pc.toNat + 4) }) := by
  unfold State.instrLane
  rw [State.instr_ready s l _ h hc hb hw]
  exact State.updLane_updLane s l f _

/-- Everything that an instruction can do; `u` is the state after the fetch. -/
theorem State.instr_cases (s : State) (l : LaneId) (f : State → Lane → IRes) :
    s.instr l f = s ∨ s.instr l f = s.trapEnter l 3 (s.lane l).pc.toNat 0 ∨
      s.instr l f = s.privDedTake l (s.lane l).pc.toNat ∨
      ∃ u, u = s.lseen l (s.lane l).pc.toNat ∧
        ((∃ c a, s.instr l f = u.trapEnter l c a 0) ∨
        (∃ t a, f u (s.lane l) = .ded t a ∧ s.instr l f = t.privDedTake l a) ∨
        (∃ t, f u (s.lane l) = .hold t ∧ s.instr l f = t) ∨
        (∃ t, f u (s.lane l) = .done t ∧ s.instr l f = t.updLane l (fun y =>
          { y with pc := BitVec.ofNat 32 ((s.lane l).pc.toNat + 4) })) ∨
        (∃ t a, f u (s.lane l) = .goto t a ∧ s.instr l f = t.updLane l (fun y =>
          { y with pc := BitVec.ofNat 32 a }))) := by
  by_cases h : (s.lane l).exec = .run
  swap
  · exact .inl (State.instr_idle s l f h)
  cases hc : s.inCode (s.lane l).pc.toNat
  · exact .inr (.inl (State.instr_outside s l f h hc))
  cases hb : s.lbad l (s.lane l).pc.toNat
  swap
  · exact .inr (.inr (.inl (State.instr_bad s l f h hc hb)))
  refine .inr (.inr (.inr ⟨_, rfl, ?_⟩))
  cases hw : wordListed (s.lread l (s.lane l).pc.toNat 4)
  · exact .inl ⟨1, 0, State.instr_illegal s l f h hc hb hw⟩
  rw [State.instr_fetched s l f h hc hb hw]
  cases hf : f (s.lseen l (s.lane l).pc.toNat) (s.lane l) with
  | done t => exact .inr (.inr (.inr (.inl ⟨t, rfl, rfl⟩)))
  | goto t a => exact .inr (.inr (.inr (.inr ⟨t, a, rfl, rfl⟩)))
  | hold t => exact .inr (.inr (.inl ⟨t, rfl, rfl⟩))
  | trap c a => exact .inl ⟨c, a, rfl⟩
  | ded t a => exact .inr (.inl ⟨t, a, rfl, rfl⟩)

/-! ### Local accesses and transfers -/

/-- Everything that a load from the active half can answer (R230, R231, R133, R134). -/
theorem State.localLoad_cases (s : State) (l : LaneId) (a n : Nat) (k : State → Nat → IRes) :
    (a % n ≠ 0 ∧ s.localLoad l a n k = .trap 2 a) ∨
    (a % n = 0 ∧ s.inActive a n = false ∧ s.localLoad l a n k = .trap 3 a) ∨
    (a % n = 0 ∧ s.inActive a n = true ∧ s.lbad l a = true ∧ s.localLoad l a n k = .ded s a) ∨
    (a % n = 0 ∧ s.inActive a n = true ∧ s.lbad l a = false
      ∧ s.localLoad l a n k = k (s.lseen l a) (s.lread l a n)) := by
  unfold State.localLoad
  by_cases h : a % n = 0
  · cases hi : s.inActive a n <;> cases hb : s.lbad l a <;> simp [h]
  · simp [h]

/-- Everything that a store into the active half can answer (R230 to R232). -/
theorem State.localStore_cases (s : State) (l : LaneId) (a n v : Nat) :
    (a % n ≠ 0 ∧ s.localStore l a n v = .trap 2 a) ∨
    (a % n = 0 ∧ (s.inActive a n = false ∨ s.fixedRange a n = true)
      ∧ s.localStore l a n v = .trap 3 a) ∨
    (a % n = 0 ∧ n ≠ 8 ∧ s.lbad l a = true ∧ s.localStore l a n v = .ded s a) ∨
    (a % n = 0 ∧ s.inActive a n = true ∧ s.fixedRange a n = false
      ∧ (n = 8 ∨ s.lbad l a = false) ∧ s.localStore l a n v = .done (s.lstore l a n v)) := by
  unfold State.localStore
  by_cases h : a % n = 0
  · cases hi : s.inActive a n <;> cases hc : s.fixedRange a n <;>
      cases hb : s.lbad l a <;> by_cases h8 : n = 8 <;> simp [h, h8] <;> omega
  · simp [h]

/-- Everything that a transfer to a register's target can answer (R227, R259). -/
theorem State.transfer_cases (s : State) (l : LaneId) (x : Lane) (a : Nat) (u : Bool) :
    (u = true ∧ a = 0 ∧ s.transfer l x a u = .hold (s.dispatch l x.unit)) ∨
    (a % 4 ≠ 0 ∧ s.transfer l x a u = .trap 2 a) ∨
    (a % 4 = 0 ∧ s.inCode a = false ∧ s.transfer l x a u = .trap 3 a) ∨
    (a % 4 = 0 ∧ s.inCode a = true ∧ s.transfer l x a u = .goto s a) := by
  unfold State.transfer
  split
  · rename_i h
    simp only [Bool.and_eq_true, decide_eq_true_eq] at h
    exact .inl ⟨h.1.1.1, h.1.1.2, rfl⟩
  · by_cases h4 : a % 4 = 0
    · cases hc : s.inCode a <;> simp [h4]
    · simp [h4]

/-! ### Stores and transactions -/

theorem State.byteAt_updLane (s : State) (l : LaneId) (f : Lane → Lane) (j : Nat) :
    (s.updLane l f).byteAt j = s.byteAt j := by
  unfold State.byteAt
  rw [State.updLane_mem]

/-- A store within one word is that word's store, folded into the signature. -/
theorem State.lstore_word (s : State) (l : LaneId) (a n v : Nat)
    (hw : (a - 0x10000000) % 8 + n ≤ 8) :
    s.lstore l a n v = (s.wordStore (s.lbank l) (a - 0x10000000) n v 0).1.updLane l
      (fun x => x.fold a n v) := by
  unfold State.lstore
  simp only [if_pos hw]

/-- A store changes no byte outside its word (R230, R133). -/
theorem State.byteAt_lstore_word (s : State) (l : LaneId) (a n v : Nat)
    (hw : (a - 0x10000000) % 8 + n ≤ 8) {j : Nat}
    (h : j < wordKey (s.lbank l) (a - 0x10000000) ∨ wordKey (s.lbank l) (a - 0x10000000) + 8 ≤ j) :
    (s.lstore l a n v).byteAt j = s.byteAt j := by
  rw [State.lstore_word s l a n v hw]
  exact (State.byteAt_updLane _ l _ j).trans (s.wordStore_priv _ _ n v 0 hw h)

/-- A store into a word whose bits are all right, and a store of a whole word, changes the bytes that
it covers and no other (R230). -/
theorem State.byteAt_lstore (s : State) (l : LaneId) (a n v : Nat)
    (hc : s.lclean l a = true ∨ n = 8) (hw : (a - 0x10000000) % 8 + n ≤ 8) {j : Nat}
    (h : j < s.lkey l a ∨ s.lkey l a + n ≤ j) : (s.lstore l a n v).byteAt j = s.byteAt j := by
  by_cases h8 : n = 8
  · subst h8
    refine State.byteAt_lstore_word s l a 8 v hw ?_
    have hk : wordKey (s.lbank l) (a - 0x10000000) = s.lkey l a := by
      simp only [State.lbank, State.lkey, wordKey, wordOff, bankKey, bankWord, privKey]
      omega
    rwa [hk]
  · have hc' := of_decide_eq_true (hc.resolve_right h8)
    rw [State.lstore_word s l a n v hw]
    refine (State.byteAt_updLane _ l _ j).trans ?_
    have e := s.wordStore_clean (s.coreOfLane l) (a - 0x10000000) n v 0 h8 hc'
    show (s.wordStore (.priv (s.coreOfLane l)) (a - 0x10000000) n v 0).1.byteAt j = _
    rw [e]
    exact State.byteAt_memPutLe s _ n v h

theorem State.lstore_wf {s : State} (l : LaneId) (a n v : Nat) (h : s.wf) : (s.lstore l a n v).wf := by
  unfold State.lstore
  simp only
  split
  · exact State.updLane_wf l _ (State.wordStore_wf _ _ n v 0 h)
  · exact State.updLane_wf l _ (State.bankPut_wf _ _ 0 _ h)

/-- What is sent stands last in the lane's queue, with the lane's next sequence number (R178, R179). -/
theorem State.send_out (s : State) (l : LaneId) (kind addr data mask : Nat) :
    ((s.send l kind addr data mask).lane l).out = (s.lane l).out ++
      [{ kind := BitVec.ofNat 4 kind, addr := addr, data := BitVec.ofNat 64 data, mask := mask
         poison := (s.lane l).poison, seq := (s.lane l).seq, held := false }]
    ∧ ((s.send l kind addr data mask).lane l).seq = (s.lane l).seq + 1 := by
  unfold State.send
  rw [State.updLane_lane_self]
  exact ⟨rfl, rfl⟩

theorem State.send_wf {s : State} (l : LaneId) (kind addr data mask : Nat) (h : s.wf) :
    (s.send l kind addr data mask).wf := State.updLane_wf l _ h

/-- A transaction of one lane changes no other lane. -/
theorem State.send_lane_ne (s : State) {l k : LaneId} (kind addr data mask : Nat) (h : l ≠ k) :
    (s.send l kind addr data mask).lane k = s.lane k := State.updLane_lane_ne s _ h

end Sys2Proof.Machine
end

