-- ==== Sys2Proof/Laws/Ops.lean ====
section
/-! SUPPORT. Sys2Proof/Laws/Ops.lean: what the operations that the families share can do: the
flash's queue and logs, frames to the field die, the device safe state, traps. -/

namespace Sys2Proof.Machine

/-! ### The flash's queue and the logs -/

theorem State.flashQueue_wf {s : State} (op : FlashOp) (h : s.wf) : (s.flashQueue op).wf := h

/-- A wear log entry stands last in the wear register file, with the next sequence number. -/
theorem State.wearLog_file (s : State) (kind unit detail : Nat) :
    (s.wearLog kind unit detail).wear.file = s.wear.file ++
      [{ seq := s.wear.file.foldl (fun m x => max m x.seq) 0 + 1, time := s.rtc
         kind := kind, unit := unit, detail := detail }] := by
  unfold State.wearLog State.pendWearFlash
  simp only
  split <;> rfl

theorem State.wearLog_wf {s : State} (kind unit detail : Nat) (h : s.wf) :
    (s.wearLog kind unit detail).wf := by
  have h1 : ∀ e : WearE, (({ s with wear := { s.wear with file := s.wear.file ++ [e] } }).retainWear
      e).wf := fun e => State.memPut_keeps _ _ h
  unfold State.wearLog State.pendWearFlash
  simp only
  split
  · exact State.flashQueue_wf _ (State.raise_wf _ (h1 _))
  · exact State.raise_wf _ (h1 _)

/-! ### Frames to the field die -/

/-- A frame to the field die stands last on the link, or nothing leaves and nothing changes. -/
theorem State.linkSend_cases (s : State) (f : LinkFrame) :
    s.linkSend f = s ∨
      s.linkSend f = { s with link := { s.link with toField := s.link.toField ++ [f] } } := by
  unfold State.linkSend
  split
  · exact .inl rfl
  · exact .inr rfl

theorem State.linkSend_wf {s : State} (f : LinkFrame) (h : s.wf) : (s.linkSend f).wf := by
  rcases s.linkSend_cases f with e | e <;> rw [e] <;> exact h

/-! ### The device safe state and traps -/

/-- In force already, the first cause of the safe state stands (R23). -/
theorem State.safeEnter_some (s : State) (code c : Nat) (h : s.rst.safe = some c) :
    s.safeEnter code = s := by
  unfold State.safeEnter
  simp only [h]

/-- The safe-state action: the independent lane of PAIR_SOLO halts, and the safe pair's cycle goes on;
any other lane waits for what it sent before (R250). -/
theorem State.safeAction_cases (s : State) (l : LaneId) :
    s.safeAction l = (s.updLane l (fun x => { x with exec := .halted })).tryCommit ∨
      s.safeAction l = (s.updLane l (fun x => { x with exec := .toSafe })).safeDrain := by
  unfold State.safeAction
  split
  · exact .inl rfl
  · exact .inr rfl

/-- A private word with an uncorrectable error stops the lane, and what it sends is poisoned. -/
theorem State.privDedTake_lane (s : State) (l : LaneId) (a : Nat) :
    ((s.privDedTake l a).lane l).exec = .stopped ∧ ((s.privDedTake l a).lane l).poison = true := by
  unfold State.privDedTake State.send
  simp only [State.updLane_lane_self, and_self]

/-- Everything that a trap entry can do: PRIV_DED on its table entry, the safe-state action, or the
handler with its frame of 32 bytes on the stack (R249); `u` is the state after the entry is read. -/
theorem State.trapEnter_cases (s : State) (l : LaneId) (code faddr resp : Nat) :
    s.trapEnter l code faddr resp
        = s.privDedTake l (s.actBase + s.boot.act.constOfs + 8 * code) ∨
      ∃ u, u = s.lseen l (s.actBase + s.boot.act.constOfs + 8 * code) ∧
      (s.trapEnter l code faddr resp = u.safeAction l ∨
      ((s.lane l).stBit 5 = false ∧ (s.lane l).sb.toNat + 32 ≤ u.stackHi ∧
        u.targetOk (u.lread l (s.actBase + s.boot.act.constOfs + 8 * code) 4) = true ∧
        ((s.trapEnter l code faddr resp).lane l).exec = .run ∧
        ((s.trapEnter l code faddr resp).lane l).pc
          = BitVec.ofNat 32 (u.lread l (s.actBase + s.boot.act.constOfs + 8 * code) 4) ∧
        ((s.trapEnter l code faddr resp).lane l).stBit 5 = true)) := by
  unfold State.trapEnter
  simp only
  split
  · exact .inl rfl
  · refine .inr ⟨_, rfl, ?_⟩
    split
    · exact .inl rfl
    · rename_i h
      simp only [Bool.or_eq_true, decide_eq_true_eq, not_or, Bool.not_eq_true', Bool.not_eq_true,
        Nat.not_lt] at h
      refine .inr ⟨h.1.1, h.1.2, ?_, ?_⟩
      · have := h.2.1.1.2
        simpa using this
      · rw [State.updLane_lane_self]
        exact ⟨rfl, rfl, (Lane.stBit_setSt _ (by omega) true 5).trans (if_pos rfl)⟩

end Sys2Proof.Machine
end

