-- ==== Sys2Proof/Laws/Units.lean ====
section
/-! SUPPORT. Sys2Proof/Laws/Units.lean: the controllers, channels, stations and sessions of a unit
after one of them has changed. -/

namespace Sys2Proof.Machine

/-- An element after an update of one element. -/
theorem getD_vecUpd {α : Type} {n : Nat} (v : Vector α n) (i : Nat) (f : α → α) (j : Nat) (d : α)
    (hj : j < n) :
    (vecUpd v i f).toList.getD j d
      = if j = i then f (v.toList.getD j d) else v.toList.getD j d := by
  have e : ∀ w : Vector α n, w.toList.getD j d = w[j] := by
    intro w
    rw [List.getD_eq_getElem?_getD, List.getElem?_eq_getElem (by simpa using hj), Option.getD_some,
      Vector.getElem_toList]
  rw [e, e, vecUpd_get v i f j hj]

theorem State.canCtl_canUpd (s : State) (n : Nat) (f : Can → Can) (k : Nat) (hk : k < 4) :
    (s.canUpd n f).canCtl k = if k = n then f (s.canCtl k) else s.canCtl k :=
  getD_vecUpd s.can n f k .reset hk

theorem State.drvCh_drvUpd (s : State) (n : Nat) (f : Drv → Drv) (k : Nat) (hk : k < 2) :
    (s.drvUpd n f).drvCh k = if k = n then f (s.drvCh k) else s.drvCh k :=
  getD_vecUpd s.drv n f k .reset hk

theorem State.fst_fstUpd (s : State) (n : Nat) (f : FlkSt → FlkSt) (k : Nat) (hk : k < 16) :
    (s.fstUpd n f).fst k = if k = n then f (s.fst k) else s.fst k :=
  getD_vecUpd s.flk.st n f k .reset hk

theorem State.sigCh_sigUpd (s : State) (n : Nat) (f : SigCh → SigCh) (k : Nat) (hk : k < 12) :
    (s.sigUpd n f).sigCh k = if k = n then f (s.sigCh k) else s.sigCh k :=
  getD_vecUpd s.sig n f k .reset hk

theorem State.pd_pdUpd (s : State) (n : Nat) (f : Sess → Sess) (k : Nat)
    (hk : k < s.pde.sess.length) :
    (s.pdUpd n f).pd k = if k = n then f (s.pd k) else s.pd k := by
  show (s.pde.sess.mapIdx (fun j x => if j = n then f x else x)).getD k .fresh = _
  rw [List.getD_eq_getElem?_getD, List.getElem?_mapIdx, List.getElem?_eq_getElem hk,
    Option.map_some, Option.getD_some]
  have e : s.pd k = s.pde.sess[k] := by
    show s.pde.sess.getD k .fresh = _
    rw [List.getD_eq_getElem?_getD, List.getElem?_eq_getElem hk, Option.getD_some]
  rw [e]

theorem State.canUpd_wf {s : State} (n : Nat) (f : Can → Can) (h : s.wf) : (s.canUpd n f).wf := h

theorem State.drvUpd_wf {s : State} (n : Nat) (f : Drv → Drv) (h : s.wf) : (s.drvUpd n f).wf := h

theorem State.fstUpd_wf {s : State} (n : Nat) (f : FlkSt → FlkSt) (h : s.wf) :
    (s.fstUpd n f).wf := h

theorem State.pdUpd_wf {s : State} (n : Nat) (f : Sess → Sess) (h : s.wf) : (s.pdUpd n f).wf := h

/-- Without a FETCH under way no read of one is made. -/
theorem State.fetchIssue_of_job (s : State) (k : Nat)
    (h : ∀ a o l n g, s.upd.job ≠ some (.fetch a o l n g)) : s.fetchIssue k = s := by
  cases k with
  | zero => rfl
  | succ k =>
    unfold State.fetchIssue
    split
    · next hj => exact absurd hj (h _ _ _ _ _)
    · rfl

/-- Without a FETCH under way the work of one does nothing. -/
theorem State.fetchPump_of_job (s : State)
    (h : ∀ a o l n g, s.upd.job ≠ some (.fetch a o l n g)) : s.fetchPump = s := by
  have e := State.fetchIssue_of_job s 16 h
  simp only [State.fetchPump, e]

end Sys2Proof.Machine
end

