-- ==== Sys2Proof/WellFormed.lean ====
section
/-! DEFINITION. Sys2Proof/WellFormed.lean: the operands that the spec lists for a command: the sizes
of an access, the local reset targets, the conditions and size codes that are not reserved, the
numbers of ports, sessions and rows. A command outside them still has its meaning (an error
response, a trap, no effect). -/

namespace Sys2Proof

/-- An access of 1, 2, 4 or 8 bytes. -/
def sizeOk (n : Nat) : Bool := n = 1 || n = 2 || n = 4 || n = 8

/-- A request as R147 carries it; an engine, the update unit and the boot controller may access a whole
256-bit word. -/
def busReqOk (r : BusReq) : Bool :=
  (sizeOk r.size || (r.size = 32 && match r.init with
    | .engine => true | .update => true | .boot => true
    | .lanes => false | .solo _ => false | .debug => false)) && decide (r.addr < 2 ^ 32)

/-- A request that is presented, or a grant. -/
def hubOk : HubCmd → Bool
  | .grant _ => true
  | .present r => busReqOk r

/-- Flipped bits of a bank: words that it has, positions of their stored bits and address symbols. -/
def flipsOk (bk : Bank) (l : List (Nat × List Nat)) : Bool :=
  let words := match bk with
    | .priv _ => 0x80000 | .shared => 0x30000 | .comm => 0x10000
  let bits := match bk with
    | .priv _ => 72 | .shared => 360 | .comm => 360
  l.all (fun p => decide (p.1 < words) && p.2.all (fun b => decide (b < bits)))

/-- A target of Table 04-4. -/
def targetOk (t : Nat) : Bool :=
  (0x07 ≤ t && t ≤ 0x0C) || (0x20 ≤ t && t ≤ 0x22) || (0x28 ≤ t && t ≤ 0x2E) || t = 0x30
    || t = 0x38 || t = 0x39

/-- A condition of Table 09-6; 0x14 to 0x1F are reserved (R221). -/
def condOk (c : BitVec 5) : Bool := decide (c.toNat < 0x14)

/-- The well-formed commands. -/
def Instr.wf : Instr → Bool
  | .registerWrite _ addr size _ => decide (addr < 2 ^ 32) && sizeOk size
  | .wearFlashRetryTick => true
  | .plannedDrainExpiry _ => true
  | .supplyMonitorTrip _ => true
  | .supplyMonitorRelease _ _ => true
  | .overvoltageEvent _ _ => true
  | .coreWarn => true
  | .vbkLow => true
  | .bkupChangeover => true
  | .powerGood _ => true
  | .paddockPowerGood => true
  | .paddockPowerTimeout => true
  | .fieldDiePowerOn => true
  | .rtcTick => true
  | .pwrReqSwitchOff _ => true
  | .pwrReqCancel _ => true
  | .pwrReqSwitchOn _ => true
  | .paddockReloadDone _ => true
  | .resetNLowFiltered => true
  | .resetNLowWidened => true
  | .resetNRelease _ => true
  | .resetStretchExpiry _ _ => true
  | .debugResetCommand _ _ target => targetOk target
  | .trimCopyDone _ => true
  | .swrstDeviceWarm _ => true
  | .swrstPaddock _ target => targetOk target
  | .swrstUnit _ target => targetOk target
  | .localReset target _ => targetOk target
  | .localResetHoldExpiry target => targetOk target
  | .localResetReloadDone target => targetOk target
  | .hrcSettleExpiry _ => true
  | .qualWindowEnd _ _ => true
  | .pllLock => true
  | .hrc1QualTimeout => true
  | .xtalQualTimeout => true
  | .monitorWindowEnd _ _ _ => true
  | .missingEdgeTrip => true
  | .hrc1RestartExpiry => true
  | .clockHoldTimeout => true
  | .pllLockLoss _ => true
  | .serrefLoss => true
  | .fieldOscMismatch _ => true
  | .disciplineStep _ _ => true
  | .clkGateOpen _ => true
  | .clkGateClose _ => true
  | .busQuietHandshake => true
  | .gateCloseTimeout => true
  | .gateOpenEffect => true
  | .clkOutcfgWrite _ => true
  | .ppsOutPulse => true
  | .ppsOutPulseEnd => true
  | .hubRequest c => hubOk c
  | .targetResponseTimeout c => hubOk c
  | .postedWriteCreditReturn _ _ => true
  | .scrubStep bank flips => flipsOk bank flips
  | .trackerEntryExpiry _ row => decide (row < 6144)
  | .columnRepairRowCopy _ => true
  | .xspiWindowRead _ addr size => decide (addr < 2 ^ 32) && sizeOk size
  | .xspiReadTimeout => true
  | .startupFlashReadTimeout _ => true
  | .slotSelection _ => true
  | .memoryInitSelftest _ _ _ => true
  | .sectionLoad _ _ _ => true
  | .engineReload _ _ _ => true
  | .fieldReloadAck _ => true
  | .startupChecks _ _ => true
  | .shadowLoadStart _ _ => true
  | .shadowLoadAbort _ => true
  | .shadowLoadDone _ _ => true
  | .cfgSwapArm _ _ => true
  | .cfgSwapConfirm _ _ => true
  | .bootLockSet => true
  | .shepherdTransaction _ flips => flips.all (fun f => f.2 < 150)
  | .votingWindowClose _ => true
  | .verdictExchange _ _ => true
  | .verdictExchangeTimeout _ _ => true
  | .replicatedReadResponse _ flips => flips.all (fun f => f.2 < 69)
  | .reintegrationSelftestDone _ _ => true
  | .substitutionSelftestDone _ _ => true
  | .reserveSelftestFail => true
  | .runtimeInjectionFlagged _ _ => true
  | .add _ _ _ _ _ => true
  | .sub _ _ _ _ _ => true
  | .mul _ _ _ _ _ => true
  | .mulh _ _ _ _ _ => true
  | .mulhu _ _ _ _ _ => true
  | .div _ _ _ _ _ => true
  | .divu _ _ _ _ _ => true
  | .rem _ _ _ _ _ => true
  | .remu _ _ _ _ _ => true
  | .adds _ _ _ _ _ => true
  | .subs _ _ _ _ _ => true
  | .muls _ _ _ _ _ => true
  | .addsu _ _ _ _ _ => true
  | .subsu _ _ _ _ _ => true
  | .neg _ _ _ _ => true
  | .negs _ _ _ _ => true
  | .abs _ _ _ _ => true
  | .abss _ _ _ _ => true
  | .min _ _ _ _ _ => true
  | .max _ _ _ _ _ => true
  | .minu _ _ _ _ _ => true
  | .maxu _ _ _ _ _ => true
  | .limit _ _ _ _ _ => true
  | .addi _ _ _ _ _ => true
  | .and _ _ _ _ _ => true
  | .or _ _ _ _ _ => true
  | .xor _ _ _ _ _ => true
  | .andn _ _ _ _ _ => true
  | .orn _ _ _ _ _ => true
  | .xnor _ _ _ _ _ => true
  | .not _ _ _ _ => true
  | .shl _ _ _ _ _ => true
  | .shr _ _ _ _ _ => true
  | .sar _ _ _ _ _ => true
  | .rol _ _ _ _ _ => true
  | .ror _ _ _ _ _ => true
  | .shli _ _ _ _ _ => true
  | .shri _ _ _ _ _ => true
  | .sari _ _ _ _ _ => true
  | .rori _ _ _ _ _ => true
  | .clz _ _ _ _ => true
  | .ctz _ _ _ _ => true
  | .popc _ _ _ _ => true
  | .bset _ _ _ _ _ => true
  | .bclr _ _ _ _ _ => true
  | .btst _ _ _ _ _ => true
  | .bext _ _ _ _ _ => true
  | .bins _ _ _ _ _ => true
  | .andi _ _ _ _ => true
  | .ori _ _ _ _ => true
  | .xori _ _ _ _ => true
  | .lui _ _ _ => true
  | .cmp _ _ _ _ => true
  | .tst _ _ _ _ => true
  | .set _ _ cond => condOk cond
  | .sel _ _ _ _ cond => condOk cond
  | .cmpi _ _ _ => true
  | .cmpiu _ _ _ => true
  | .br _ cond _ => condOk cond
  | .call _ _ => true
  | .callFb _ _ _ => true
  | .jmpr _ _ => true
  | .callr _ _ => true
  | .ret _ => true
  | .retFb _ => true
  | .retTrap _ => true
  | .callrFb _ _ _ => true
  | .chk _ _ _ => true
  | .fadd _ _ _ _ _ => true
  | .fsub _ _ _ _ _ => true
  | .fmul _ _ _ _ _ => true
  | .fdiv _ _ _ _ _ => true
  | .fsqrt _ _ _ _ => true
  | .fma _ _ _ _ _ => true
  | .fmin _ _ _ _ _ => true
  | .fmax _ _ _ _ _ => true
  | .fabs _ _ _ _ => true
  | .fneg _ _ _ _ => true
  | .fcmp _ _ _ _ => true
  | .fclass _ _ _ _ => true
  | .sext _ sz _ _ => decide (sz ≠ 3)
  | .zext _ sz _ _ => decide (sz ≠ 3)
  | .cvtIf _ _ _ _ => true
  | .cvtUf _ _ _ _ => true
  | .cvtFi _ _ _ _ => true
  | .cvtFu _ _ _ _ => true
  | .truncFi _ _ _ _ => true
  | .truncFu _ _ _ _ => true
  | .cvtSd _ _ _ => true
  | .cvtDs _ _ _ => true
  | .nrw _ sz _ _ => decide (sz ≠ 3)
  | .nrwu _ sz _ _ => decide (sz ≠ 3)
  | .bcd2i _ _ _ => true
  | .i2bcd _ _ _ => true
  | .ldi _ _ _ _ => true
  | .ldiu _ _ _ _ => true
  | .sti _ _ _ _ => true
  | .ldc _ _ _ _ => true
  | .ldcu _ _ _ _ => true
  | .ld _ _ _ _ _ => true
  | .ldu _ sz _ _ _ => decide (sz ≠ 3)
  | .st _ _ _ _ _ => true
  | .ton _ _ _ _ => true
  | .tof _ _ _ _ => true
  | .tp _ _ _ _ => true
  | .tet _ _ _ _ => true
  | .trst _ _ _ => true
  | .rTrig _ _ _ => true
  | .fTrig _ _ _ => true
  | .inItem _ _ _ => true
  | .inItemS _ _ _ => true
  | .outItem _ _ _ => true
  | .qget _ _ => true
  | .qput _ _ => true
  | .qand _ _ => true
  | .send _ _ _ _ => true
  | .recv _ _ _ => true
  | .sysopMode _ _ => true
  | .sysopSafe _ _ => true
  | .sysopEvent _ _ => true
  | .endUnit _ => true
  | .endCommitWaitDone _ => true
  | .mfs _ _ _ => true
  | .mts _ _ _ => true
  | .getc _ _ _ => true
  | .nop _ => true
  | .cycleBoundary _ sweepMiss => sweepMiss.all (fun x => decide (x.1 < 48 ∧ x.2 ≠ 0))
  | .soloLateHalt _ => true
  | .sheepdogTrip => true
  | .trialTimerExpiry => true
  | .refreshSendTick => true
  | .fieldResetFrame _ => true
  | .fieldLoadFrame _ => true
  | .fieldCommitFrame _ => true
  | .fieldRefreshFrame _ => true
  | .fieldSafeFrame _ => true
  | .fieldLinkTimeout => true
  | .statusFrameTick _ => true
  | .statusFrameReceived _ => true
  | .barrierLinkFailure => true
  | .inputFilterSample _ => true
  | .frontEndTest _ => true
  | .outputShort _ => true
  | .outputOvertemp _ => true
  | .outputOpenLoad _ => true
  | .outputRetryExpiry _ _ => true
  | .segmentHandoverExpiry _ => true
  | .outputTestPulse _ => true
  | .outputTestPulseEnd _ _ => true
  | .brakeLoopDemandMet => true
  | .blHsSenseHigh _ => true
  | .blHsSenseTimeout => true
  | .blLsSenseHigh => true
  | .blLsSenseLow => true
  | .blLsSenseTimeout => true
  | .brakeLoopTestPulse => true
  | .brakeLoopTestEnd _ => true
  | .sdClockWindow _ _ => true
  | .sdClockMissing _ => true
  | .sdBitstreamStuck _ => true
  | .sinc3Output _ _ => true
  | .engineSlot _ => true
  | .sigCmdRestart _ => true
  | .sigCmdSync => true
  | .syncDfEdge _ => true
  | .scsConversionStart _ _ => true
  | .scsConversionDone _ _ => true
  | .switchFrameReceived port _ => decide (port < 5)
  | .switchEgressTransmit port => decide (port < 5)
  | .macEntryAgeing _ _ => true
  | .mdioAccess _ => true
  | .mdioAccessDone _ => true
  | .prpSupervisionTick _ => true
  | .prpEntryExpiry _ _ _ => true
  | .arpRequestReceived _ _ _ => true
  | .arpCacheRefresh _ => true
  | .icmpEchoRequest _ _ => true
  | .igmpQueryReceived => true
  | .ipReassemblyTimeout _ => true
  | .pdPublishInstant sess _ _ => decide (sess < 512)
  | .pdFrameReceived _ _ _ => true
  | .pdSessionTimeout sess => decide (sess < 512)
  | .dualWindowClose sess => decide (sess < 512)
  | .directoryCommit _ _ => true
  | .directoryCopyDone => true
  | .mdMessageReceived _ => true
  | .mdReplyTimeout _ => true
  | .ptpSyncReceived _ => true
  | .ptpFollowUpReceived _ => true
  | .ptpDelayReqSend port => decide (port < 4)
  | .ptpDelayRespReceived _ => true
  | .ptpPdelayReqReceived _ _ => true
  | .ptpPdelayRespReceived _ => true
  | .ptpPdelayRespFollowUp _ => true
  | .ptpAnnounceReceived _ => true
  | .announceReceiptTimeout => true
  | .ppsInEdge _ => true
  | .ppsInMissing => true
  | .holdoverExpiry => true
  | .timAcceptJump _ => true
  | .timSecsetApply _ => true
  | .canBusIntegration _ => true
  | .canFrameReceived _ _ => true
  | .canStartOfFrame _ => true
  | .canTransmissionEnd _ _ _ => true
  | .canError _ _ => true
  | .canRecover _ _ => true
  | .canRecoveryDone _ => true
  | .canTxCancel _ _ => true
  | .canFifoAck _ _ => true
  | .droveCycleStart _ => true
  | .droveRefSend _ => true
  | .droveColdSend _ => true
  | .droveSlotBufferCopy _ _ => true
  | .droveSlotTransmit _ _ => true
  | .droveDataFrameReceived _ _ => true
  | .droveRefReceived _ _ => true
  | .droveColdReceived _ _ => true
  | .droveListenTimeout _ => true
  | .droveReadbackMismatch _ => true
  | .crookBlock _ => true
  | .crookColdstartWindow _ => true
  | .drvCmdPassive _ _ => true
  | .drvCmdResume _ _ => true
  | .foldRingSyncLoss => true
  | .foldFrameForward _ => true
  | .foldTagFreed _ _ => true
  | .foldRspReceived _ => true
  | .foldReadTimeout _ _ => true
  | .foldWackReceived _ => true
  | .foldWerrReceived _ => true
  | .foldWriteAckTimeout _ _ => true
  | .foldSupTick => true
  | .foldSupReturned _ => true
  | .foldScanTick => true
  | .foldImginReceived _ => true
  | .foldMsgReceived _ => true
  | .foldEnumeration => true
  | .foldEnumqReturned _ => true
  | .foldStationLoad _ => true
  | .foldLackReceived _ => true
  | .foldLackTimeout _ => true
  | .flkLdcmdAbort _ _ => true
  | .flkLdcmdReload _ _ => true
  | .flkLelpop _ => true
  | .flkDegclr _ => true
  | .flkSemAcquire _ _ => true
  | .flkSemRelease _ _ => true
  | .flkSemExpiry _ => true
  | .stationRd _ => true
  | .stationWr _ => true
  | .stationImgrd _ => true
  | .stationImgout _ => true
  | .stationSup _ => true
  | .stationEnumq _ => true
  | .stationEnumset _ => true
  | .stationLdata _ => true
  | .stationLstart _ => true
  | .stationWatchdogExpiry => true
  | .heartbeatTick => true
  | .heartbeatRecordReceived _ _ => true
  | .partnerLinkTimeout => true
  | .flashOpStart => true
  | .flashOpComplete _ => true
  | .updOpen _ _ => true
  | .updWrite _ => true
  | .updFetch _ => true
  | .updClose _ _ => true
  | .updArm _ => true
  | .updDisarm _ => true
  | .updAbort _ => true
  | .updSetwrite _ => true
  | .activationHeaderProgrammed _ => true
  | .recorderEnvSample _ _ => true
  | .recorderSnapshotPeriod => true
  | .recCmdSnap _ => true
  | .recCmdErase _ => true
  | .foldRingSyncGain => true
  | .ethLinkChange port _ _ _ => decide (port < 4)
  | .debugResetRelease _ => true
  | .rstOutMinLowExpiry => true
  | .serrefReturn => true

end Sys2Proof
end

