-- ==== Sys2Proof/Tests/Slice0.lean ====
section
/-! SUPPORT. Sys2Proof/Tests/Slice0.lean: witnesses of the statements' hypotheses, and small tests of
single steps. -/

set_option linter.constructorNameAsVariable false
set_option Elab.async false
set_option linter.unusedVariables false

namespace Sys2Proof.Machine

open Sys2Proof Sys2Proof.Claims

/-- A program table: code at 0 to 0xFFF of the half, constants to 0x1FFF, the stack from 0x2000 to
0x2FFF, the input image at 0x20000000, the output image at 0x20001000. -/
def tProg : List Byte :=
  [0, 0, 0, 0, 0, 0, 0, 0, 0, 0, 0, 0] ++ leBytes 4 0 ++ leBytes 4 0x1000 ++ leBytes 4 0x1000
    ++ leBytes 4 0x1000 ++ leBytes 4 0x2000 ++ leBytes 4 0x1000 ++ leBytes 4 0x3000
    ++ leBytes 4 0x20000000 ++ leBytes 2 0 ++ leBytes 2 0 ++ leBytes 4 0x20001000
    ++ [0, 0, 0, 0, 0, 0, 0, 0, 0, 0, 0, 0]

/-- A lane that executes at the start of the code. -/
def tLane : Lane :=
  { Lane.reset with
    g := ((((Vector.replicate 32 0).set 1 0xFFFFFFFFFFFFFFFF).set 2 7).set 3 0x8000000000000000).set
      4 0x10008000
    ib := 0x10008000, sb := 0x10002020, pc := 0x10000010, exec := .run }

/-- A state in which the three lanes execute; at their pc stands a NOP. -/
def tRun : State :=
  { State.reset with
    mem := [(0x110000013, 0xC0), (0x210000013, 0xC0), (0x310000013, 0xC0)]
    rst := { State.reset.rst with active := false, sources := [], step := 9 }
    boot := { State.reset.boot with act :=
      { CfgSet.empty with loaded := true, secs := [{ type := 3, inst := 0, crc := 0, bytes := tProg }] } }
    laneA := tLane, laneB := tLane, laneC := tLane }

/-- The same with two input and two output items. -/
def tItems : State :=
  { tRun with boot := { tRun.boot with act := { tRun.boot.act with secs :=
      [{ type := 3, inst := 0, crc := 0, bytes := (tProg.set 44 2).set 46 2 }] } } }

/-- A flash with a directory and, in slot A, a confirmed image of one program unit. -/
def tFlash : List Host.Cell :=
  [(0, 90), (1, 84), (2, 57), (3, 68), (4, 1), (5, 0), (6, 0), (7, 0), (8, 0), (9, 0), (10, 1), (11, 0)]
    ++ [(12, 0), (13, 0), (14, 2), (15, 0), (16, 0), (17, 0), (18, 1), (19, 0), (20, 0), (21, 0), (22, 3), (23, 0)]
    ++ [(24, 0), (25, 0), (26, 4), (27, 0), (28, 0), (29, 0), (30, 8), (31, 0), (32, 0), (33, 0), (34, 1), (35, 0)]
    ++ [(60, 34), (61, 80), (62, 117), (63, 152), (65536, 90), (65537, 84), (65538, 57), (65539, 67), (65540, 1), (65541, 0), (65542, 2), (65543, 3)]
    ++ [(65544, 5), (65545, 0), (65546, 0), (65547, 0), (65548, 0), (65549, 20), (65550, 0), (65551, 0), (65552, 4), (65553, 0), (65554, 2), (65555, 0)]
    ++ [(65556, 1), (65557, 0), (65558, 0), (65559, 0), (65560, 9), (65561, 0), (65562, 0), (65563, 0), (65564, 191), (65565, 63), (65566, 251), (65567, 112)]
    ++ [(65568, 225), (65569, 120), (65570, 99), (65571, 191), (65596, 101), (65597, 92), (65598, 206), (65599, 24), (65600, 1), (65601, 0), (65602, 0), (65603, 0)]
    ++ [(65604, 0), (65605, 16), (65606, 0), (65607, 0), (65608, 4), (65609, 0), (65610, 0), (65611, 0), (65612, 0), (65613, 0), (65614, 0), (65615, 0)]
    ++ [(65620, 0), (65621, 0), (65622, 0), (65623, 0), (65624, 2), (65625, 0), (65626, 0), (65627, 0), (65628, 0), (65629, 17), (65630, 0), (65631, 0)]
    ++ [(65632, 4), (65633, 0), (65634, 0), (65635, 0), (65636, 0), (65637, 16), (65638, 0), (65639, 0), (65644, 0), (65645, 0), (65646, 0), (65647, 0)]
    ++ [(65648, 3), (65649, 0), (65650, 0), (65651, 0), (65652, 0), (65653, 18), (65654, 0), (65655, 0), (65656, 120), (65657, 0), (65658, 0), (65659, 0)]
    ++ [(65660, 0), (65661, 112), (65662, 0), (65663, 0), (65664, 190), (65665, 249), (65666, 65), (65667, 96), (65668, 0), (65669, 0), (65670, 0), (65671, 0)]
    ++ [(65672, 4), (65673, 0), (65674, 0), (65675, 0), (65676, 0), (65677, 19), (65678, 0), (65679, 0), (65680, 24), (65681, 0), (65682, 0), (65683, 0)]
    ++ [(65684, 0), (65685, 0), (65686, 0), (65687, 0), (65688, 61), (65689, 18), (65690, 45), (65691, 213), (65692, 0), (65693, 0), (65694, 0), (65695, 0)]
    ++ [(69384, 0), (69385, 0), (69386, 0), (69387, 0), (70144, 90), (70145, 84), (70146, 80), (70147, 85), (70148, 1), (70149, 0), (70150, 1), (70151, 0)]
    ++ [(70152, 1), (70153, 0), (70154, 0), (70155, 0), (70156, 0), (70157, 0), (70158, 0), (70159, 0), (70160, 4), (70161, 0), (70162, 0), (70163, 0)]
    ++ [(70164, 0), (70165, 16), (70166, 0), (70167, 0), (70168, 0), (70169, 1), (70170, 0), (70171, 0), (70172, 0), (70173, 32), (70174, 0), (70175, 0)]
    ++ [(70176, 0), (70177, 16), (70178, 0), (70179, 0), (70180, 0), (70181, 48), (70182, 0), (70183, 0), (70184, 0), (70185, 0), (70186, 0), (70187, 32)]
    ++ [(70188, 0), (70189, 0), (70190, 0), (70191, 0), (70192, 0), (70193, 16), (70194, 0), (70195, 32), (70196, 0), (70197, 0), (70198, 0), (70199, 0)]
    ++ [(70200, 0), (70201, 0), (70202, 0), (70203, 0), (70204, 0), (70205, 0), (70206, 0), (70207, 0), (70208, 1), (70209, 0), (70210, 0), (70211, 0)]
    ++ [(70212, 0), (70213, 0), (70214, 0), (70215, 0), (70216, 0), (70217, 96), (70218, 0), (70219, 0), (70220, 0), (70221, 16), (70222, 0), (70223, 0)]
    ++ [(70224, 1), (70225, 0), (70226, 0), (70227, 0), (70228, 1), (70229, 0), (70230, 0), (70231, 0), (70232, 7), (70233, 0), (70234, 0), (70235, 0)]
    ++ [(70236, 0), (70237, 96), (70238, 0), (70239, 0), (70240, 16), (70241, 0), (70242, 0), (70243, 0), (70244, 0), (70245, 0), (70246, 0), (70247, 0)]
    ++ [(70252, 0), (70253, 0), (70254, 0), (70255, 0), (70256, 0), (70257, 0), (70258, 0), (70259, 0), (70260, 0), (70261, 0), (70262, 0), (70263, 0)]
    ++ [(70400, 24), (70401, 0), (70402, 1), (70403, 64), (70404, 3), (70405, 0), (70406, 1), (70407, 0), (70408, 0), (70409, 1), (70410, 1), (70411, 64)]
    ++ [(70412, 232), (70413, 3), (70414, 0), (70415, 0), (70416, 8), (70417, 0), (70418, 4), (70419, 64), (70420, 100), (70421, 0), (70422, 0), (70423, 0)]
    ++ [(131072, 0)]

/-- The three lanes execute beside that flash. -/
def tFlk : State := { tRun with flash := tFlash }

/-- The same with a spoilt code section. -/
def tBad : State := { tRun with flash := smSet flashDflt tFlash 0x11000 0 }

theorem mapBytes_drop (d : Nat → Byte) (m : List Host.Cell) (k n o : Nat) :
    (mapBytes d m k n).drop o = mapBytes d m (k + o) (n - o) := by
  induction o generalizing k n with
  | zero => rfl
  | succ o ih =>
    cases n with
    | zero => simp [mapBytes]
    | succ n => rw [mapBytes, List.drop_succ_cons, ih]; congr 1 <;> omega

/-- A state word of a header page, without the page's other bytes. -/
theorem wordSet_page (s : State) (b : Bool) (o : Nat) : wordSet (s.page b) o
    = (ofLe ((mapBytes flashDflt s.flash (s.slotBase b + o) (4096 - o)).take 4) ≠ 0xFFFFFFFF : Bool) := by
  simp only [wordSet, leAt, State.page, State.flashBytes, mapBytes_drop]

theorem tFlk_slot : tFlk.slotValid false = true := by
  simp only [State.slotValid, slotCode, wordSet_page]
  decide +kernel

theorem tFlk_other : tFlk.slotValid true = false := by decide +kernel

/-- The program section of that image. -/
def tProgSec : List Byte :=
  [90, 84, 80, 85, 1, 0, 1, 0, 1, 0, 0, 0, 0, 0, 0, 0, 4, 0, 0, 0, 0, 16, 0, 0]
    ++ [0, 1, 0, 0, 0, 32, 0, 0, 0, 16, 0, 0, 0, 48, 0, 0, 0, 0, 0, 32, 0, 0, 0, 0]
    ++ [0, 16, 0, 32, 0, 0, 0, 0, 0, 0, 0, 0, 0, 0, 0, 0, 1, 0, 0, 0, 0, 0, 0, 0]
    ++ [0, 96, 0, 0, 0, 16, 0, 0, 1, 0, 0, 0, 1, 0, 0, 0, 7, 0, 0, 0, 0, 96, 0, 0]
    ++ [16, 0, 0, 0, 0, 0, 0, 0, 255, 255, 255, 255, 0, 0, 0, 0, 0, 0, 0, 0, 0, 0, 0, 0]

/-- Its register load list. -/
def tRegSec : List Byte :=
  [24, 0, 1, 64, 3, 0, 1, 0, 0, 1, 1, 64, 232, 3, 0, 0, 8, 0, 4, 64, 100, 0, 0, 0]

/-- The image of slot A. -/
def tImg : Img :=
  { page := tFlk.page false
    tab := [{ type := 1, inst := 0, ofs := 4096, len := 4, load := 0, crc := 4294967295, pad := 0 },
      { type := 2, inst := 0, ofs := 4352, len := 4, load := 4096, crc := 4294967295, pad := 0 },
      { type := 3, inst := 0, ofs := 4608, len := 120, load := 28672, crc := 1614936510, pad := 0 },
      { type := 4, inst := 0, ofs := 4864, len := 24, load := 0, crc := 3576500797, pad := 0 }]
    set := { loaded := true, slot := false, gen := 5, safety := false, lockFlag := true, format := 1
             toolOk := true
             secs := [{ type := 1, inst := 0, crc := 4294967295, bytes := List.replicate 4 0xFF },
               { type := 2, inst := 0, crc := 4294967295, bytes := List.replicate 4 0xFF },
               { type := 3, inst := 0, crc := 1614936510, bytes := tProgSec },
               { type := 4, inst := 0, crc := 3576500797, bytes := tRegSec }]
             rwl := [], heldRw := [] } }

theorem tFlk_tab : (tFlk.readImg false).tab = tImg.tab := by decide +kernel

theorem tFlk_set : (tFlk.readImg false).set = tImg.set := by decide +kernel

theorem tFlk_read : tFlk.readImg false = tImg := by
  have h1 := tFlk_tab
  have h2 := tFlk_set
  have h3 : (tFlk.readImg false).page = tImg.page := rfl
  rcases h : tFlk.readImg false with ⟨p, t, c⟩
  rw [h] at h1 h2 h3
  cases h1; cases h2; cases h3; rfl

theorem tFlk_bank : ∃ m, tImg.set.bank = some m ∧ bankOk m false = true := by
  refine ⟨_, rfl, ?_⟩
  decide +kernel

/-- The loaded image with a bank. -/
def tLoaded (m : RegMap) : Img :=
  { tImg with set := { tImg.set with rwl := m, heldRw := tImg.set.rwEntries } }

theorem tFlk_img : ∃ m, tFlk.loadImg false = some (tLoaded m) := by
  have h : (tImg.set.secs.all (fun x => x.crc = crc32c x.bytes) && tImg.set.formsOk && tImg.layoutOk
      && tImg.set.secs.all (fun x => !(x.type = 4 || x.type = 9 || x.type = 10)
        || x.bytes.length % 8 = 0)) = true := by decide +kernel
  obtain ⟨m, h1, h2⟩ := tFlk_bank
  have h3 : tImg.set.mapsLoop = false := by decide +kernel
  refine ⟨m, ?_⟩
  unfold State.loadImg
  rw [tFlk_read]
  simp only [h, h1, h3, h2, if_true]
  rfl

theorem tFlk_dir : tFlk.dir.isSome = true := by decide +kernel

theorem tFlk_conf : wordSet (tFlk.page false) 0xF08 = true := by
  rw [wordSet_page]
  decide +kernel

/-! What the flash alone decides does not change with a register field or the boot record. -/

theorem fset_slotValid (s : State) (f : Fld) (v : Nat) (b : Bool) :
    (s.fset f v).slotValid b = s.slotValid b := rfl

theorem fset_dir (s : State) (f : Fld) (v : Nat) : (s.fset f v).dir = s.dir := rfl

theorem fset_page (s : State) (f : Fld) (v : Nat) (b : Bool) : (s.fset f v).page b = s.page b := rfl

theorem fset_loadImg (s : State) (f : Fld) (v : Nat) (b : Bool) :
    (s.fset f v).loadImg b = s.loadImg b := rfl

theorem armed_slotValid (s : State) (f : Fld) (v : Nat) (c : Bool) (b : Bool) :
    ({ s with boot := { s.boot with armed := c } }.fset f v).slotValid b = s.slotValid b := rfl

theorem loading_loadImg (s : State) (c : Option Bool) (b : Bool) :
    { s with boot := { s.boot with loading := c } }.loadImg b = s.loadImg b := rfl

/-- A field die that is supplied and configured. -/
def tFld : State :=
  ({ tRun with fd := { Fd.reset with cfgd := true }, phys := { tRun.phys with ok := 0xFF } }.fset
    (pstat .flogic) 2).fset (pstat .fpower) 2

/-- The same with other contents of the die. -/
def tFd (f : Fd → Fd) : State := { tFld with fd := f tFld.fd }

/-- The same with a frame on the link. -/
def tLnk (f : LinkFrame) : State := { tFld with link := { tFld.link with toField := [f] } }

/-- All paddocks but the field's are on. -/
def tOn : State := { tRun with regs := RegMap.setWord tRun.regs 0x40000100 0x00AAAAAA }

/-- Signal channel `n` enabled on an external clock of 20 MHz. -/
def tSig (n : Nat) (w : Nat) : State :=
  (((tOn.fset SIG_STAT_RUNNING 1).setReg (0x40050040 + 4 * n) (BitVec.ofNat 32 w)).fset
    (SIG_CH_n_CFG_EN n) 1).fset (SIG_CH_n_CFG_CKSRC n) 3 |>.fset (SIG_CH_n_CFG_XCLK n) 2000

/-- A frame to the own address at port 0, which is up, with VLAN 1 on ports 0 and 4. -/
def tFrame : EthFrame :=
  { dst := 0x020000000001, src := 0x020000000002, vid := none, pcp := 0, len := 300, fcsOk := true
    pause := false, rct := none, comid := none, frag := none, ptpEvent := false, corr := 0, body := [1] }

/-- The switch for that frame. -/
def tEth : State :=
  (((((((((tOn.fset ETH_PORTCFG_EN 0xF).fset ETH_STAT_LINK 0xF).fset (ETH_PORT_n_CFG_PVID 0) 1).fset
    (ETH_VLAN_v_EN 0) 1).fset (ETH_VLAN_v_VID 0) 1).fset (ETH_VLAN_v_MEMBER 0) 0x11).fset
    (ETH_VLAN_v_UNTAG 0) 0x10).fset ETH_MAC_LO_MAC 1).fset ETH_MAC_HI_MAC 0x0200).fset
    (ETH_PORT_n_CFG_PCP 0) 6

/-- The session table: 0 publishes COMID 100 to a group, 1 subscribes COMID 101, 2 COMID 102 in both
PRP lanes; one send queue for requests, one receive queue for notifications. -/
def tPdSec : List Byte :=
  leBytes 4 0x5344545A ++ leBytes 2 1 ++ leBytes 2 3 ++ [1, 1] ++ leBytes 2 0 ++ leBytes 4 0x20000
    ++ List.replicate 16 0
    ++ ([0, 0] ++ leBytes 2 0 ++ leBytes 4 100 ++ leBytes 4 0x3FFFF ++ leBytes 2 8 ++ [0, 0]
      ++ leBytes 4 10000 ++ leBytes 4 0 ++ leBytes 4 0x1000 ++ List.replicate 10 0
      ++ leBytes 4 0xEF000001 ++ List.replicate 6 0)
    ++ ([1, 0] ++ leBytes 2 0 ++ leBytes 4 101 ++ leBytes 4 0x3FFFF ++ leBytes 2 4 ++ [0, 0]
      ++ leBytes 4 10000 ++ leBytes 4 0 ++ leBytes 4 0x1100 ++ List.replicate 20 0)
    ++ ([5, 0] ++ leBytes 2 0 ++ leBytes 4 102 ++ leBytes 4 0x3FFFF ++ leBytes 2 4 ++ [0, 0]
      ++ leBytes 4 10000 ++ leBytes 4 0 ++ leBytes 4 0x1200 ++ List.replicate 20 0)
    ++ ([2, 1, 0, 0] ++ leBytes 4 7 ++ leBytes 4 0x3FFFF ++ leBytes 4 100)
    ++ ([0x11, 2, 0, 0] ++ leBytes 4 7 ++ leBytes 4 0x3FFFF ++ leBytes 4 0)

/-- The process data engine with that table. -/
def tPd : State :=
  { tOn with
    boot := { tOn.boot with act := { tOn.boot.act with
      secs := tOn.boot.act.secs ++ [{ type := 5, inst := 0, crc := 0, bytes := tPdSec }] } }
    pde := { Pde.reset with sess := List.replicate 3 .fresh, sendQ := [[]], recvQ := [[]] } }

/-- The same after the COMMIT phase of a directory commit. -/
def tDue : State := { tPd with pde := { tPd.pde with imageDue := true } }

/-- A process-data frame. -/
def tPdu (comid : Nat) : PdFrame :=
  { hdrOk := true, msgType := 0x5064, ver := 0x0100, comid := comid, dst := 0, src := 9, seq := 5
    etb := 0, op := 0, dlen := 4, vlan := 0, data := [1, 2, 3, 4] }

/-- A master on port 2 of domain 3. -/
def tAnn : Announce :=
  { port := 2, domain := 3, clock := 77, prio1 := 100, cls := 6, accuracy := 0x20, variance := 9
    prio2 := 100, gmId := 55, steps := 1, utc := 37, utcValid := true, leap61 := false, leap59 := false
    l2 := false }

/-- The time unit in PTP mode with that parent. -/
def tTim (f : Tim → Tim) : State :=
  { ((tOn.fset TIM_CFG_MODE 1).fset TIM_CFG_DOMAIN 3) with
    tim := f { Tim.reset with parent := some tAnn, masters := [tAnn] }
    now := { tOn.now with trainNs := 5000000300 } }

/-- A message of that parent. -/
def tMsg : PtpMsg :=
  { port := 2, domain := 3, clock := 77, seq := 8, ts := 4000, corr := -3, twoStep := false, l2 := false }

/-- CAN controller `n` error active. -/
def tCan (n : Nat) : State := tOn.fset (CAN_n_STAT_STATE n) 2

/-- The same with other contents of the controller. -/
def tCanWith (n : Nat) (f : Can → Can) : State := (tCan n).canUpd n f

/-- A classic frame. -/
def tCanF : CanFrame :=
  { id := 0x123, xtd := false, rtr := false, fdf := false, brs := false, esi := false, dlc := 2
    data := [7, 8] }

/-- A filter section of one element, which takes the identifiers 0x100 to 0x1FF to `dest`, `slot`. -/
def tFilt (dest slot : Nat) : List Byte :=
  leBytes 4 0 ++ leBytes 2 1 ++ leBytes 2 1 ++ List.replicate 24 0 ++ leBytes 4 0x100 ++ leBytes 4 0x1FF
    ++ leBytes 1 2 ++ leBytes 1 0 ++ leBytes 1 dest ++ leBytes 1 slot

/-- A Drove schedule: 3 slots, node 5, rank 1; slot 1 is its own with 2 bytes, slot 2 is of node 9
with 3 bytes. -/
def tSched : List Byte :=
  [0, 0, 0, 0, 0, 0, 3, 5] ++ leBytes 4 0xABCD ++ leBytes 4 50000 ++ leBytes 2 400 ++ [1, 2, 10, 5, 3, 0]
    ++ [0, 0, 0, 0] ++ leBytes 4 0x4000 ++ (leBytes 3 2000 ++ [5, 2, 1, 0, 0])
    ++ (leBytes 3 4000 ++ [9, 3, 1, 0, 0])

/-- A state whose active set has one more section. -/
def tSect (s : State) (type inst : Nat) (bytes : List Byte) : State :=
  { s with boot := { s.boot with act := { s.boot.act with
      secs := s.boot.act.secs ++ [{ type := type, inst := inst, crc := 0, bytes := bytes }] } } }

/-- Channel `n` with that schedule in a state of R400, its contents changed. -/
def tDrv (n st : Nat) (f : Drv → Drv) : State :=
  ((tSect tOn 7 n tSched).drvUpd n f).fset (DRV_n_STAT_STATE n) st

/-- A frame of node 9 with a good CRC. -/
def tDf (kind slot cyc start : Nat) (pay : List Byte) : DroveFrame :=
  let b := leBytes 1 kind ++ leBytes 1 slot ++ leBytes 2 cyc ++ [9] ++ leBytes 1 pay.length ++ pay
  { start := start, coding := false, bytes := b ++ leBytes 4 (drvCrc 0xABCD b) }

/-- A Fold station table: 12 stations, of which `k` alone is enabled, with 2 words in and 1 out. -/
def tFoldSec (k : Nat) : List Byte :=
  List.replicate (16 + 32 * k) 0 ++ [1, 0, 0, 0, 0, 0, 0, 0, 2, 1] ++ List.replicate 22 0

/-- The bridge as controller with that station in a state of R416. -/
def tFold (k st : Nat) (f : Flk → Flk) : State :=
  let s := (((tSect tOn 8 0 (tFoldSec k)).fset FLK_CFG_EN 1).fset (FLK_ST_k_STATE k) st).fset FLK_STAT_FWD 1
  { s with flk := f s.flk }

/-- The same with station `k` changed. -/
def tFoldSt (k st : Nat) (f : FlkSt → FlkSt) : State :=
  tFold k st (fun b => { b with st := vecUpd b.st k f })

/-- A frame for CTRL 0. -/
def tFf (kind k ts : Nat) (body : List Byte) : FoldFrame := ⟨foldBytes kind 0 k 1 ts 3 body⟩

/-- A debug port read of a station window. -/
def tHub : HubItem :=
  { req := { init := .debug, tag := 0, write := false, addr := 0x63000010, size := 4, data := 0 }
    named := true, kind := 8, mask := 0x0F, seq := 0, lanes := [] }

/-- A ZT9 in outstation mode, its number 3. -/
def tStn (f : Station → Station) : State :=
  let s := tOn.fset SYS_PINSTAT_MODE 1
  { s with station := f { s.station with num := some 3 } }

/-- An empty image has an empty field configuration list. -/
theorem stnBank_nil : stnBank (tStn id).regs (stnList (mapBytes memDflt (tStn id).station.image 0
    (leAt (foBody (tFf 14 3 0 (List.replicate 8 0))) 0 4))) = some (tStn id).regs := by
  have h : leAt (foBody (tFf 14 3 0 (List.replicate 8 0))) 0 4 = 0 := by decide +kernel
  rw [h]
  simp [mapBytes, stnList, stnBank, records]

/-- A station that has heard CTRL 0 with claim 9 hears CTRL 1 with claim 1. -/
def tTwo : State :=
  (tStn (fun x => { x with claim := #v[9, 0], heardNs := #v[some 0, none] })).stnHear
    ⟨foldBytes 2 1 3 1 0 3 [0, 1, 2, 0xFF, 1, 2, 3, 4, 5, 6, 7, 8]⟩

/-- CTRL 0 is its master. -/
theorem fromMaster_none :
    tTwo.fromMaster ⟨foldBytes 2 1 3 1 0 3 [0, 1, 2, 0xFF, 1, 2, 3, 4, 5, 6, 7, 8]⟩ = false := by
  have h1 : tTwo.station.heardNs.toList.getD 0 none = some 0 := by decide +kernel
  have h2 : tTwo.now.hubNs = 0 := by decide +kernel
  have h3 : tTwo.stnHeard 0 = true := by
    have h : 0 < stationWdogNs := Nat.mul_pos (Nat.succ_pos _) (by decide)
    unfold State.stnHeard
    rw [h1, h2]
    exact decide_eq_true h
  have h4 : tTwo.station.claim.toList.getD 0 0 = 9 := by decide +kernel
  have h5 : tTwo.station.claim.toList.getD 1 0 = 1 := by decide +kernel
  have h6 : foCtrl ⟨foldBytes 2 1 3 1 0 3 [0, 1, 2, 0xFF, 1, 2, 3, 4, 5, 6, 7, 8]⟩ = 1 := by
    decide +kernel
  have h7 : tTwo.stnMaster = 0 := by
    simp only [State.stnMaster, h3, h4, h5]
    simp
  simp only [State.fromMaster, h6, h7]
  decide

/-- The pair unit enabled, as unit 1. -/
def tPair (f : Pair → Pair) : State :=
  let s := (tOn.fset PAIR_CFG_EN 1).fset PAIR_CFG_UNIT 1
  { s with pair := f s.pair }

/-- A record of the partner, unit 0, with a claim. -/
def tRec (claim : Nat) : List Byte :=
  let b := [1, 2] ++ leBytes 2 claim ++ leBytes 4 8 ++ leBytes 4 7 ++ leBytes 4 0
  b ++ leBytes 4 (hbCrc 0 b)

/-- A flash with that directory, a header of format 0 in the settings area, and its directory valid. -/
def tSet : State :=
  let s := { tOn with flash := tFlash, boot := { tOn.boot with dirOk := true } }
  s.flashProgram 0x80000 (setHeader 0 7)

/-- The update unit open for slot A, arguments set. -/
def tUpd (st ofs len : Nat) : State :=
  (((tSet.fset UPD_STAT_STATE st).fset UPD_ARG_OFS_OFS ofs).fset UPD_ARG_LEN_LEN len).fset UPD_ARG_SRC_SRC 0x20000000

/-- The update unit open for slot A, a station window as its source; station 3 in a state of R416. -/
def tFetch (st len : Nat) : State :=
  let s := tFold 3 st id
  let u := (((({ s with flash := tSet.flash, boot := { s.boot with dirOk := true } }.fset UPD_STAT_STATE 2).fset
    UPD_ARG_OFS_OFS 0x100).fset UPD_ARG_LEN_LEN len).fset UPD_ARG_SRC_SRC 0x63000010)
  { u with upd := tSet.upd }

/-- The header of that image in the buffer, slot A open. -/
def tClose : State :=
  { tUpd 2 0 1 with upd := { tSet.upd with
      hdr := (tFlash.filter (fun p => 0x10000 ≤ p.1 && p.1 < 0x11000)).map (fun p => (p.1 - 0x10000, p.2)) } }

theorem tClose_ok : tClose.closeOk = true := by decide +kernel

theorem witness_WrappingArithmetic_1 : ∃ (s : State) (l : LaneId) (w : Bool) (d : GReg) (a : GReg) (b : GReg) (imm : BitVec 16),
    Ready s l :=
  ⟨tRun, .a, true, 0, 31, 3, 0x8000, by decide +kernel⟩

theorem witness_SaturatingArithmetic_1 : ∃ (s : State) (l : LaneId) (w : Bool) (d : GReg) (a : GReg) (b : GReg),
    Ready s l :=
  ⟨tRun, .a, false, 5, 3, 31, by decide +kernel⟩

theorem witness_Division_1 : ∃ (s : State) (l : LaneId) (w : Bool) (d : GReg) (a : GReg) (b : GReg),
    Ready s l ∧ opd (s.lane l) w b ≠ 0 :=
  ⟨tRun, .a, false, 4, 3, 1, by decide +kernel⟩

theorem witness_Division_2 : ∃ (s : State) (l : LaneId) (w : Bool) (d : GReg) (a : GReg) (b : GReg),
    Ready s l ∧ opd (s.lane l) w b = 0 :=
  ⟨tRun, .a, true, 4, 3, 0, by decide +kernel⟩

theorem witness_Division_3 : ∃ (s : State) (l : LaneId) (w : Bool) (d : GReg) (a : GReg) (b : GReg) (imm : BitVec 16) (n : BitVec 6) (cond : BitVec 5),
    Ready s l ∧ opd (s.lane l) w b ≠ 0 ∧ n.toNat < opWidth w ∧ cond.toNat < 0x14 :=
  ⟨tRun, .a, true, 31, 3, 1, 0xFFFF, 31, 0x13, by decide +kernel⟩

theorem witness_Logic_1 : ∃ (s : State) (l : LaneId) (w : Bool) (d : GReg) (a : GReg) (b : GReg) (imm : BitVec 16),
    Ready s l :=
  ⟨tRun, .a, true, 31, 1, 2, 0xFFFF, by decide +kernel⟩

theorem witness_ShiftsAndRotates_1 : ∃ (s : State) (l : LaneId) (w : Bool) (d : GReg) (a : GReg) (b : GReg),
    Ready s l :=
  ⟨tRun, .a, true, 31, 1, 2, by decide +kernel⟩

theorem witness_ShiftsAndRotates_2 : ∃ (s : State) (l : LaneId) (w : Bool) (d : GReg) (a : GReg) (n : BitVec 6),
    Ready s l ∧ n.toNat < opWidth w :=
  ⟨tRun, .a, true, 31, 1, 31, by decide +kernel⟩

theorem witness_ShiftsAndRotates_3 : ∃ (s : State) (l : LaneId) (d : GReg) (a : GReg) (n : BitVec 6),
    Ready s l ∧ 32 ≤ n.toNat :=
  ⟨tRun, .a, 31, 1, 32, by decide +kernel⟩

theorem witness_BitOperations_1 : ∃ (s : State) (l : LaneId) (w : Bool) (d : GReg) (a : GReg) (b : GReg),
    Ready s l :=
  ⟨tRun, .a, true, 31, 1, 3, by decide +kernel⟩

theorem witness_CompareAndSelect_1 : ∃ (s : State) (l : LaneId) (w : Bool) (a : GReg) (b : GReg) (imm : BitVec 16),
    Ready s l :=
  ⟨tRun, .a, true, 1, 3, 0xFFFF, by decide +kernel⟩

theorem witness_CompareAndSelect_2 : ∃ (s : State) (l : LaneId) (d : GReg) (a : GReg) (b : GReg) (cond : BitVec 5) (h : Bool),
    Ready s l ∧ (s.lane l).cond cond = some h :=
  ⟨tRun, .a, 31, 1, 2, 0x13, false, by decide +kernel⟩

theorem witness_CompareAndSelect_3 : ∃ (s : State) (l : LaneId) (d : GReg) (a : GReg) (b : GReg) (cond : BitVec 5),
    Ready s l ∧ 0x14 ≤ cond.toNat :=
  ⟨tRun, .a, 31, 1, 2, 0x14, by decide +kernel⟩

theorem witness_BranchesAndCalls_1 : ∃ (s : State) (l : LaneId) (cond : BitVec 5) (disp : BitVec 21),
    Ready s l ∧ (s.lane l).cond cond = some true ∧ s.targetOk (dispTarget (s.lane l) disp).toNat = true :=
  ⟨tRun, .a, 0, 0x1FFFFF, by decide +kernel⟩

theorem witness_BranchesAndCalls_2 : ∃ (s : State) (l : LaneId) (cond : BitVec 5) (disp : BitVec 21),
    Ready s l ∧ (s.lane l).cond cond = some false :=
  ⟨tRun, .a, 1, 0x100000, by decide +kernel⟩

theorem witness_BranchesAndCalls_3 : ∃ (s : State) (l : LaneId) (disp : BitVec 26),
    Ready s l ∧ (s.lane l).pc.toNat % 4 = 0 ∧ s.inCode (dispTarget (s.lane l) disp).toNat = false :=
  ⟨tRun, .a, 0x1000000, by decide +kernel⟩

theorem witness_BranchesAndCalls_4 : ∃ (s : State) (l : LaneId) (disp : BitVec 26),
    Ready s l ∧ s.targetOk (dispTarget (s.lane l) disp).toNat = true :=
  ⟨tRun, .a, 0x3FFFFFC, by decide +kernel⟩

theorem witness_BranchesAndCalls_5 : ∃ (s : State) (l : LaneId) (a : GReg),
    Ready s l ∧ low (s.lane l) a ≠ 0 ∧ s.targetOk (low (s.lane l) a).toNat = true :=
  ⟨{ tRun with laneA := { tLane with g := tLane.g.set 4 0x10000FFC } }, .a, 4, by decide +kernel⟩

theorem witness_BranchesAndCalls_6 : ∃ (s : State) (l : LaneId) (a : GReg),
    Ready s l ∧ (low (s.lane l) a).toNat % 4 ≠ 0 :=
  ⟨tRun, .a, 2, by decide +kernel⟩

theorem witness_BranchesAndCalls_7 : ∃ (s : State) (l : LaneId),
    Ready s l ∧ (s.lane l).lk ≠ 0 ∧ s.targetOk (s.lane l).lk.toNat = true :=
  ⟨{ tRun with laneA := { tLane with lk := 0x10000000 } }, .a, by decide +kernel⟩

theorem witness_BranchesAndCalls_8 : ∃ (s : State) (l : LaneId) (a : GReg) (b : GReg),
    Ready s l ∧ (reg (s.lane l) a).ult (reg (s.lane l) b) = true :=
  ⟨tRun, .a, 0, 2, by decide +kernel⟩

theorem witness_BranchesAndCalls_9 : ∃ (s : State) (l : LaneId) (a : GReg) (b : GReg),
    Ready s l ∧ (reg (s.lane l) b).ule (reg (s.lane l) a) = true :=
  ⟨tRun, .a, 2, 2, by decide +kernel⟩

theorem witness_FrameCalls_1 : ∃ (s : State) (l : LaneId) (d : GReg) (disp : BitVec 21),
    Ready s l ∧ (low (s.lane l) d).toNat % 16 = 0 ∧ s.inActive (low (s.lane l) d).toNat 1 = true ∧ s.targetOk (dispTarget (s.lane l) disp).toNat = true ∧ s.stackLo ≤ (s.lane l).sb.toNat ∧ (s.lane l).sb.toNat + 16 ≤ s.stackHi ∧ s.stackHi < 2 ^ 32 ∧ s.lclean l (s.lane l).sb.toNat = true ∧ s.lclean l ((s.lane l).sb.toNat + 8) = true ∧ s.lclean l ((s.lane l).sb.toNat + 15) = true :=
  ⟨tRun, .a, 4, 0x1FFFFC, by decide +kernel⟩

theorem witness_FrameCalls_2 : ∃ (s : State) (l : LaneId) (d : GReg) (a : GReg),
    Ready s l ∧ (low (s.lane l) d).toNat % 16 = 0 ∧ s.inActive (low (s.lane l) d).toNat 1 = true ∧ s.targetOk (low (s.lane l) a).toNat = true ∧ s.stackLo ≤ (s.lane l).sb.toNat ∧ (s.lane l).sb.toNat + 16 ≤ s.stackHi ∧ s.stackHi < 2 ^ 32 ∧ s.lclean l (s.lane l).sb.toNat = true ∧ s.lclean l ((s.lane l).sb.toNat + 8) = true ∧ s.lclean l ((s.lane l).sb.toNat + 15) = true :=
  ⟨{ tRun with laneA := { tLane with sb := 0x10002FF0, g := tLane.g.set 5 0x10000FFC } }, .a, 4, 5, by decide +kernel⟩

theorem witness_FrameCalls_3 : ∃ (s : State) (l : LaneId) (d : GReg) (a : GReg),
    Ready s l ∧ (low (s.lane l) d).toNat % 16 = 0 ∧ s.inActive (low (s.lane l) d).toNat 1 = true ∧ s.targetOk (low (s.lane l) a).toNat = true ∧ s.stackHi < (s.lane l).sb.toNat + 16 :=
  ⟨{ tRun with laneA := { tLane with sb := 0x10002FF1, g := tLane.g.set 5 0x10000000 } }, .a, 4, 5, by decide +kernel⟩

theorem witness_FrameCalls_4 : ∃ (s : State) (l : LaneId),
    Ready s l ∧ s.targetOk (s.lane l).lk.toNat = true ∧ s.stackLo + 16 ≤ (s.lane l).sb.toNat ∧ s.lclean l ((s.lane l).sb.toNat - 16) = true ∧ s.lclean l ((s.lane l).sb.toNat - 8) = true :=
  ⟨{ tRun with laneA := { tLane with sb := 0x10002010, lk := 0x10000FFC } }, .a, by decide +kernel⟩

theorem witness_TrapEntryAndReturn_1 : ∃ (s : State) (l : LaneId) (code : Nat) (faddr : Nat) (rsp : Nat),
    code < 32 ∧ rsp < 256 ∧ s.lclean l (trapRow s code) = true ∧ s.lclean l ((s.lane l).sb.toNat + 0) = true ∧ s.lclean l ((s.lane l).sb.toNat + 8) = true ∧ s.lclean l ((s.lane l).sb.toNat + 16) = true ∧ s.lclean l ((s.lane l).sb.toNat + 24) = true ∧ s.lclean l ((s.lane l).sb.toNat + 31) = true ∧ (s.lane l).stBit 5 = false ∧ (s.lane l).sb.toNat + 32 ≤ s.stackHi ∧ s.lread l (trapRow s code) 4 ≠ 0 ∧ s.targetOk (s.lread l (trapRow s code) 4) = true ∧ s.lread l (trapRow s code + 4) 4 % 16 = 0 ∧ s.inActive (s.lread l (trapRow s code + 4) 4) 1 = true :=
  ⟨(tRun.memPutLe (privKey .a 0x10001028) 8 0x1000800010000800), .a, 5, 0, 0, by decide +kernel⟩

theorem witness_TrapEntryAndReturn_2 : ∃ (s : State) (l : LaneId),
    Ready s l ∧ (s.lane l).stBit 5 = true ∧ s.stackLo + 32 ≤ (s.lane l).sb.toNat ∧ s.lclean l ((s.lane l).sb.toNat - 32) = true ∧ s.lclean l ((s.lane l).sb.toNat - 24) = true ∧ s.lclean l ((s.lane l).sb.toNat - 16) = true ∧ s.lclean l ((s.lane l).sb.toNat - 8) = true ∧ s.lread l ((s.lane l).sb.toNat - 8) 1 ≠ 0x18 ∧ s.lclean l (s.lread l ((s.lane l).sb.toNat - 16) 4) = true :=
  ⟨{ tRun with laneA := { tLane with st := 0x0030 } }, .a, by decide +kernel⟩

theorem witness_TrapEntryAndReturn_3 : ∃ (s : State) (l : LaneId) (w : Bool) (d : GReg) (a : GReg) (b : GReg) (imm : BitVec 16) (n : BitVec 6) (cond : BitVec 5),
    (s.lane l).exec = .run ∧ s.inCode (s.lane l).pc.toNat = false :=
  ⟨{ tRun with laneA := { tLane with pc := 0x10001000 } }, .a, true, 31, 3, 1, 0xFFFF, 31, 0x13, by decide +kernel⟩

theorem witness_TrapEntryAndReturn_4 : ∃ (s : State) (l : LaneId) (w : Bool) (d : GReg) (a : GReg) (b : GReg) (imm : BitVec 16) (n : BitVec 6) (cond : BitVec 5),
    (s.lane l).exec = .run ∧ s.inCode (s.lane l).pc.toNat = true ∧ s.lclean l (s.lane l).pc.toNat = true ∧ wordListed (s.lread l (s.lane l).pc.toNat 4) = false :=
  ⟨{ tRun with laneA := { tLane with pc := 0x10000FFC } }, .a, true, 31, 3, 1, 0xFFFF, 31, 0x13, by decide +kernel⟩

theorem witness_TrapEntryAndReturn_5 : ∃ (s : State) (l : LaneId) (w : Bool) (d : GReg) (a : GReg) (b : GReg) (imm : BitVec 16) (n : BitVec 6) (cond : BitVec 5) (e : Nat),
    (s.lane l).exec = .run ∧ s.inCode (s.lane l).pc.toNat = true ∧ s.upsetsAt (wordKey (s.lbank l) ((s.lane l).pc.toNat - 0x10000000)) = [e] ∧ wordListed (s.lread l (s.lane l).pc.toNat 4) = true ∧ opd (s.lane l) w b ≠ 0 ∧ n.toNat < opWidth w ∧ cond.toNat < 0x14 :=
  ⟨tRun.setUpsets 0x110000010 [5], .a, true, 31, 3, 1, 0xFFFF, 31, 0x13, 5, by decide +kernel⟩

theorem witness_TrapEntryAndReturn_6 : ∃ (s : State) (l : LaneId) (w : Bool) (d : GReg) (a : GReg) (b : GReg) (imm : BitVec 16) (n : BitVec 6) (cond : BitVec 5) (e : Nat) (f : Nat),
    (s.lane l).exec = .run ∧ s.inCode (s.lane l).pc.toNat = true ∧ s.upsetsAt (wordKey (s.lbank l) ((s.lane l).pc.toNat - 0x10000000)) = [e, f] :=
  ⟨tRun.setUpsets 0x110000010 [5, 9], .a, true, 31, 3, 1, 0xFFFF, 31, 0x13, 5, 9, by decide +kernel⟩

theorem witness_TrapEntryAndReturn_7 : ∃ (s : State) (l : LaneId),
    Ready s l ∧ (s.lane l).stBit 5 = false :=
  ⟨tRun, .a, by decide +kernel⟩

theorem witness_FloatExactResults_1 : ∃ (s : State) (l : LaneId) (p : Bool) (d : GReg) (a : GReg) (b : GReg) (qa : Rat) (qb : Rat) (r : DWord),
    Ready s l ∧ fnum p (reg (s.lane l) a) = some qa ∧ fnum p (reg (s.lane l) b) = some qb ∧ fnum p r = some (qa + qb) ∧ qa + qb ≠ 0 :=
  ⟨{ tRun with laneA := { tLane with g := (tLane.g.set 5 0x3FF8000000000000).set 6 0xC004000000000000 } }, .a, true, 0, 5, 6, 3/2, -5/2, 0xBFF0000000000000, by decide +kernel⟩

theorem witness_FloatExactResults_2 : ∃ (s : State) (l : LaneId) (p : Bool) (d : GReg) (a : GReg) (b : GReg) (qa : Rat) (qb : Rat) (r : DWord),
    Ready s l ∧ fnum p (reg (s.lane l) a) = some qa ∧ fnum p (reg (s.lane l) b) = some qb ∧ fnum p r = some (qa - qb) ∧ qa - qb ≠ 0 :=
  ⟨{ tRun with laneA := { tLane with g := (tLane.g.set 5 0x3FF8000000000000).set 6 0xC004000000000000 } }, .a, true, 0, 5, 6, 3/2, -5/2, 0x4010000000000000, by decide +kernel⟩

theorem witness_FloatExactResults_3 : ∃ (s : State) (l : LaneId) (p : Bool) (d : GReg) (a : GReg) (b : GReg) (qa : Rat) (qb : Rat) (r : DWord),
    Ready s l ∧ fnum p (reg (s.lane l) a) = some qa ∧ fnum p (reg (s.lane l) b) = some qb ∧ fnum p r = some (qa * qb) ∧ qa * qb ≠ 0 :=
  ⟨{ tRun with laneA := { tLane with g := (tLane.g.set 5 0x3FF8000000000000).set 6 0xC004000000000000 } }, .a, true, 0, 5, 6, 3/2, -5/2, 0xC00E000000000000, by decide +kernel⟩

theorem witness_FloatExactResults_4 : ∃ (s : State) (l : LaneId) (p : Bool) (d : GReg) (a : GReg) (b : GReg) (qa : Rat) (qb : Rat) (r : DWord),
    Ready s l ∧ fnum p (reg (s.lane l) a) = some qa ∧ fnum p (reg (s.lane l) b) = some qb ∧ qb ≠ 0 ∧ fnum p r = some (qa / qb) ∧ qa ≠ 0 :=
  ⟨{ tRun with laneA := { tLane with g := (tLane.g.set 5 0x4018000000000000).set 6 0xC000000000000000 } }, .a, true, 0, 5, 6, 6, -2, 0xC008000000000000, by decide +kernel⟩

theorem witness_FloatExactResults_5 : ∃ (s : State) (l : LaneId) (p : Bool) (d : GReg) (a : GReg) (q : Rat) (r : DWord),
    Ready s l ∧ fnum p (reg (s.lane l) a) = some (q * q) ∧ fnum p r = some q ∧ 0 < q :=
  ⟨{ tRun with laneA := { tLane with g := tLane.g.set 5 0x4002000000000000 } }, .a, true, 0, 5, 3/2, 0x3FF8000000000000, by decide +kernel⟩

theorem witness_FloatExactResults_6 : ∃ (s : State) (l : LaneId) (p : Bool) (d : GReg) (a : GReg) (b : GReg) (qa : Rat) (qb : Rat) (qd : Rat) (r : DWord),
    Ready s l ∧ fnum p (reg (s.lane l) a) = some qa ∧ fnum p (reg (s.lane l) b) = some qb ∧ fnum p (reg (s.lane l) d) = some qd ∧ fnum p r = some (qd + qa * qb) ∧ qd + qa * qb ≠ 0 :=
  ⟨{ tRun with laneA := { tLane with g := (tLane.g.set 5 0x3FF8000000000000).set 6 0xC004000000000000 } }, .a, true, 5, 5, 6, 3/2, -5/2, 3/2, 0xC002000000000000, by decide +kernel⟩

theorem witness_FloatNaNsAndSigns_1 : ∃ (s : State) (l : LaneId) (p : Bool) (d : GReg) (a : GReg) (b : GReg),
    Ready s l ∧ (fnan p (reg (s.lane l) a) || fnan p (reg (s.lane l) b)) = true :=
  ⟨{ tRun with laneA := { tLane with g := tLane.g.set 5 0x7FF0000000000001 } }, .a, true, 0, 5, 1, by decide +kernel⟩

theorem witness_FloatNaNsAndSigns_2 : ∃ (s : State) (l : LaneId) (p : Bool) (d : GReg) (a : GReg) (b : GReg),
    Ready s l :=
  ⟨tRun, .a, true, 31, 3, 1, by decide +kernel⟩

theorem witness_FloatNaNsAndSigns_3 : ∃ (s : State) (l : LaneId) (p : Bool) (d : GReg) (a : GReg),
    Ready s l :=
  ⟨tRun, .a, true, 0, 1, by decide +kernel⟩

theorem witness_FloatNaNsAndSigns_4 : ∃ (s : State) (l : LaneId) (p : Bool) (d : GReg) (a : GReg) (b : GReg) (qa : Rat) (qb : Rat),
    Ready s l ∧ fnum p (reg (s.lane l) a) = some qa ∧ fnum p (reg (s.lane l) b) = some qb ∧ qa < qb :=
  ⟨{ tRun with laneA := { tLane with g := (tLane.g.set 5 0x3FF8000000000000).set 6 0xC004000000000000 } }, .a, true, 0, 6, 5, -5/2, 3/2, by decide +kernel⟩

theorem witness_FloatNaNsAndSigns_5 : ∃ (s : State) (l : LaneId) (p : Bool) (d : GReg) (a : GReg) (b : GReg),
    Ready s l ∧ fnan p (reg (s.lane l) a) = true ∧ fnan p (reg (s.lane l) b) = false :=
  ⟨{ tRun with laneA := { tLane with g := tLane.g.set 5 0x7FF8000000000001 } }, .a, true, 0, 5, 2, by decide +kernel⟩

theorem witness_FloatNaNsAndSigns_6 : ∃ (s : State) (l : LaneId) (p : Bool) (a : GReg) (b : GReg) (qa : Rat) (qb : Rat),
    Ready s l ∧ fnum p (reg (s.lane l) a) = some qa ∧ fnum p (reg (s.lane l) b) = some qb :=
  ⟨{ tRun with laneA := { tLane with g := (tLane.g.set 5 0x3FF8000000000000).set 6 0xC004000000000000 } }, .a, true, 5, 6, 3/2, -5/2, by decide +kernel⟩

theorem witness_FloatNaNsAndSigns_7 : ∃ (s : State) (l : LaneId) (p : Bool) (a : GReg) (b : GReg),
    Ready s l ∧ (fnan p (reg (s.lane l) a) || fnan p (reg (s.lane l) b)) = true :=
  ⟨{ tRun with laneA := { tLane with g := tLane.g.set 5 0x7FF0000000000001 } }, .a, true, 5, 1, by decide +kernel⟩

theorem witness_Conversions_1 : ∃ (s : State) (l : LaneId) (sz : BitVec 2) (d : GReg) (a : GReg),
    Ready s l ∧ sz ≠ 3 :=
  ⟨tRun, .a, 2, 31, 3, by decide +kernel⟩

theorem witness_Conversions_2 : ∃ (s : State) (l : LaneId) (sz : BitVec 2) (d : GReg) (a : GReg),
    Ready s l ∧ sz ≠ 3 ∧ ((reg (s.lane l) a).setWidth (8 * 2 ^ sz.toNat)).signExtend 64 = reg (s.lane l) a :=
  ⟨tRun, .a, 0, 31, 1, by decide +kernel⟩

theorem witness_Conversions_3 : ∃ (s : State) (l : LaneId) (sz : BitVec 2) (d : GReg) (a : GReg),
    Ready s l ∧ sz ≠ 3 ∧ (reg (s.lane l) a).toNat < 2 ^ (8 * 2 ^ sz.toNat) :=
  ⟨tRun, .a, 0, 31, 2, by decide +kernel⟩

theorem witness_Conversions_4 : ∃ (s : State) (l : LaneId) (p : Bool) (d : GReg) (a : GReg) (r : DWord),
    Ready s l ∧ fnum p r = some (reg (s.lane l) a).toInt ∧ reg (s.lane l) a ≠ 0 :=
  ⟨tRun, .a, true, 31, 1, 0xBFF0000000000000, by decide +kernel⟩

theorem witness_Conversions_5 : ∃ (s : State) (l : LaneId) (p : Bool) (d : GReg) (a : GReg) (r : DWord),
    Ready s l ∧ fnum p r = some (reg (s.lane l) a).toNat ∧ reg (s.lane l) a ≠ 0 :=
  ⟨tRun, .a, true, 31, 3, 0x43E0000000000000, by decide +kernel⟩

theorem witness_Conversions_6 : ∃ (s : State) (l : LaneId) (p : Bool) (d : GReg) (a : GReg) (i : Int),
    Ready s l ∧ fnum p (reg (s.lane l) a) = some i ∧ -(2 ^ 63) ≤ i ∧ i < 2 ^ 63 :=
  ⟨{ tRun with laneA := { tLane with g := tLane.g.set 5 0xC3E0000000000000 } }, .a, true, 31, 5, -9223372036854775808, by decide +kernel⟩

theorem witness_Conversions_7 : ∃ (s : State) (l : LaneId) (p : Bool) (d : GReg) (a : GReg) (i : Int),
    Ready s l ∧ fnum p (reg (s.lane l) a) = some i ∧ 0 ≤ i ∧ i < 2 ^ 64 :=
  ⟨{ tRun with laneA := { tLane with g := tLane.g.set 5 0x43E0000000000000 } }, .a, true, 31, 5, 9223372036854775808, by decide +kernel⟩

theorem witness_Conversions_8 : ∃ (s : State) (l : LaneId) (p : Bool) (d : GReg) (a : GReg) (q : Rat),
    Ready s l ∧ fnum p (reg (s.lane l) a) = some q ∧ -(2 ^ 63) ≤ q.num.tdiv q.den ∧ q.num.tdiv q.den < 2 ^ 63 :=
  ⟨{ tRun with laneA := { tLane with g := tLane.g.set 5 0xBFF8000000000000 } }, .a, true, 31, 5, -3/2, by decide +kernel⟩

theorem witness_Conversions_9 : ∃ (s : State) (l : LaneId) (p : Bool) (d : GReg) (a : GReg) (q : Rat),
    Ready s l ∧ fnum p (reg (s.lane l) a) = some q ∧ 0 ≤ q.num.tdiv q.den ∧ q.num.tdiv q.den < 2 ^ 64 :=
  ⟨{ tRun with laneA := { tLane with g := tLane.g.set 5 0x3FF8000000000000 } }, .a, true, 31, 5, 3/2, by decide +kernel⟩

theorem witness_Conversions_10 : ∃ (s : State) (l : LaneId) (d : GReg) (a : GReg) (q : Rat) (r : DWord),
    Ready s l ∧ fnum false (reg (s.lane l) a) = some q ∧ q ≠ 0 ∧ fnum true r = some q :=
  ⟨{ tRun with laneA := { tLane with g := tLane.g.set 5 0x3FC00000 } }, .a, 31, 5, 3/2, 0x3FF8000000000000, by decide +kernel⟩

theorem witness_Conversions_11 : ∃ (s : State) (l : LaneId) (d : GReg) (a : GReg) (q : Rat) (r : DWord),
    Ready s l ∧ fnum true (reg (s.lane l) a) = some q ∧ q ≠ 0 ∧ fnum false r = some q :=
  ⟨{ tRun with laneA := { tLane with g := tLane.g.set 5 0x3FF8000000000000 } }, .a, 31, 5, 3/2, 0x3FC00000, by decide +kernel⟩

theorem witness_Conversions_12 : ∃ (s : State) (l : LaneId) (d : GReg) (a : GReg) (r : DWord),
    Ready s l ∧ ∀ i : Fin 16, nib (reg (s.lane l) a) i ≤ 9 ∧ r.toNat = ((List.range 16).map (fun i => nib (reg (s.lane l) a) i * 10 ^ i)).sum :=
  ⟨{ tRun with laneA := { tLane with g := tLane.g.set 5 0x9000000000000012 } }, .a, 31, 5, 9000000000000012, by decide +kernel⟩

theorem witness_Conversions_13 : ∃ (s : State) (l : LaneId) (d : GReg) (a : GReg) (r : DWord),
    Ready s l ∧ (reg (s.lane l) a).toNat < 10 ^ 16 ∧ ∀ i : Fin 16, nib r i = (reg (s.lane l) a).toNat / 10 ^ i.val % 10 :=
  ⟨{ tRun with laneA := { tLane with g := tLane.g.set 5 9999999999999999 } }, .a, 31, 5, 0x9999999999999999, by decide +kernel⟩

theorem witness_Conversions_14 : ∃ (s : State) (l : LaneId) (p : Bool) (d : GReg) (a : GReg),
    Ready s l ∧ fnan p (reg (s.lane l) a) = true :=
  ⟨{ tRun with laneA := { tLane with g := tLane.g.set 5 0x7FF8000000000001 } }, .a, true, 0, 5, by decide +kernel⟩

theorem witness_Conversions_15 : ∃ (s : State) (l : LaneId) (sz : BitVec 2) (d : GReg) (a : GReg),
    Ready s l ∧ sz ≠ 3 ∧ ((reg (s.lane l) a).setWidth (8 * 2 ^ sz.toNat)).signExtend 64 ≠ reg (s.lane l) a :=
  ⟨tRun, .a, 0, 31, 3, by decide +kernel⟩

theorem witness_Conversions_16 : ∃ (s : State) (l : LaneId) (sz : BitVec 2) (d : GReg) (a : GReg),
    Ready s l ∧ sz ≠ 3 ∧ 2 ^ (8 * 2 ^ sz.toNat) ≤ (reg (s.lane l) a).toNat :=
  ⟨tRun, .a, 0, 31, 1, by decide +kernel⟩

theorem witness_Conversions_17 : ∃ (s : State) (l : LaneId) (d : GReg) (a : GReg),
    Ready s l ∧ 10 ^ 16 ≤ (reg (s.lane l) a).toNat :=
  ⟨{ tRun with laneA := { tLane with g := tLane.g.set 5 10000000000000000 } }, .a, 0, 5, by decide +kernel⟩

theorem witness_LocalLoads_1 : ∃ (s : State) (l : LaneId) (sz : BitVec 2) (d : GReg) (off : BitVec 14),
    Ready s l ∧ LocalOk s sz (offAddr (s.lane l).ib off sz) ∧ s.lclean l (offAddr (s.lane l).ib off sz).toNat = true :=
  ⟨(tRun.memPutLe (privKey .a 0x1001FFF8) 8 0x8877665544332281), .a, 3, 31, 0x2FFF, by decide +kernel⟩

theorem witness_LocalLoads_2 : ∃ (s : State) (l : LaneId) (sz : BitVec 2) (d : GReg) (off : BitVec 14),
    Ready s l ∧ LocalOk s sz (offAddr (s.lane l).cb off sz) ∧ s.lclean l (offAddr (s.lane l).cb off sz).toNat = true :=
  ⟨({ tRun with laneA := { tLane with cb := 0x10001000 } }.memPutLe (privKey .a 0x10001002) 2 0x8281), .a, 1, 31, 1, by decide +kernel⟩

theorem witness_LocalLoads_3 : ∃ (s : State) (l : LaneId) (sz : BitVec 2) (d : GReg) (a : GReg) (imm : BitVec 16),
    Ready s l ∧ LocalOk s sz (effAddr (s.lane l) a imm) ∧ isPrivate (effAddr (s.lane l) a imm).toNat = true ∧ s.lclean l (effAddr (s.lane l) a imm).toNat = true :=
  ⟨(tRun.memPutLe (privKey .a 0x10007FFC) 4 0x87654321), .a, 2, 31, 4, 0xFFFC, by decide +kernel⟩

theorem witness_LocalLoads_4 : ∃ (s : State) (l : LaneId) (sz : BitVec 2) (d : GReg) (a : GReg) (imm : BitVec 16),
    Ready s l ∧ sz ≠ 3 ∧ LocalOk s sz (effAddr (s.lane l) a imm) ∧ isPrivate (effAddr (s.lane l) a imm).toNat = true ∧ s.lclean l (effAddr (s.lane l) a imm).toNat = true :=
  ⟨(tRun.memPutLe (privKey .a 0x10007FFF) 1 0x87), .a, 0, 31, 4, 0xFFFF, by decide +kernel⟩

theorem witness_LocalLoads_5 : ∃ (s : State) (l : LaneId) (d : GReg) (a : GReg) (imm : BitVec 16),
    Ready s l :=
  ⟨tRun, .a, 31, 4, 8, by decide +kernel⟩

theorem witness_LocalLoads_6 : ∃ (s : State) (l : LaneId) (sz : BitVec 2) (d : GReg) (a : GReg) (imm : BitVec 16),
    Ready s l ∧ (effAddr (s.lane l) a imm).toNat % nbytes sz ≠ 0 :=
  ⟨tRun, .a, 3, 31, 4, 4, by decide +kernel⟩

theorem witness_LocalLoads_7 : ∃ (s : State) (l : LaneId) (sz : BitVec 2) (d : GReg) (off : BitVec 14),
    Ready s l ∧ (offAddr (s.lane l).ib off sz).toNat % nbytes sz = 0 ∧ s.inActive (offAddr (s.lane l).ib off sz).toNat (nbytes sz) = false :=
  ⟨{ tRun with laneA := { tLane with ib := 0x101FFFF0 } }, .a, 3, 31, 2, by decide +kernel⟩

theorem witness_LocalStores_1 : ∃ (s : State) (l : LaneId) (sz : BitVec 2) (d : GReg) (off : BitVec 14),
    Ready s l ∧ StoreOk s sz (offAddr (s.lane l).ib off sz) ∧ s.lclean l (offAddr (s.lane l).ib off sz).toNat = true :=
  ⟨tRun, .a, 2, 1, 0x3FFF, by decide +kernel⟩

theorem witness_LocalStores_2 : ∃ (s : State) (l : LaneId) (sz : BitVec 2) (d : GReg) (a : GReg) (imm : BitVec 16),
    Ready s l ∧ StoreOk s sz (effAddr (s.lane l) a imm) ∧ isPrivate (effAddr (s.lane l) a imm).toNat = true ∧ s.lclean l (effAddr (s.lane l) a imm).toNat = true :=
  ⟨tRun, .a, 3, 1, 4, 0xFFF8, by decide +kernel⟩

theorem witness_LocalStores_3 : ∃ (s : State) (l : LaneId) (sz : BitVec 2) (d : GReg) (off : BitVec 14),
    Ready s l ∧ LocalOk s sz (offAddr (s.lane l).ib off sz) ∧ s.fixedRange (offAddr (s.lane l).ib off sz).toNat (nbytes sz) = true :=
  ⟨{ tRun with laneA := { tLane with ib := 0x10001FF0 } }, .a, 0, 31, 0xF, by decide +kernel⟩

theorem witness_GlobalAccesses_1 : ∃ (s : State) (l : LaneId) (sz : BitVec 2) (d : GReg) (a : GReg) (imm : BitVec 16),
    Ready s l ∧ isPrivate (effAddr (s.lane l) a imm).toNat = false ∧ (effAddr (s.lane l) a imm).toNat % nbytes sz = 0 ∧ s.heldAt l (effAddr (s.lane l) a imm).toNat = none :=
  ⟨{ tRun with laneA := { tLane with g := tLane.g.set 5 0x20000010 } }, .a, 2, 31, 5, 4, by decide +kernel⟩

theorem witness_GlobalAccesses_2 : ∃ (s : State) (l : LaneId) (sz : BitVec 2) (d : GReg) (a : GReg) (imm : BitVec 16),
    Ready s l ∧ sz ≠ 3 ∧ isPrivate (effAddr (s.lane l) a imm).toNat = false ∧ (effAddr (s.lane l) a imm).toNat % nbytes sz = 0 ∧ s.heldAt l (effAddr (s.lane l) a imm).toNat = none :=
  ⟨{ tRun with laneA := { tLane with g := tLane.g.set 5 0x40000000 } }, .a, 2, 31, 5, 4, by decide +kernel⟩

theorem witness_GlobalAccesses_3 : ∃ (s : State) (l : LaneId) (sz : BitVec 2) (d : GReg) (a : GReg) (imm : BitVec 16),
    Ready s l ∧ isPrivate (effAddr (s.lane l) a imm).toNat = false ∧ (effAddr (s.lane l) a imm).toNat % nbytes sz = 0 ∧ (s.lane l).held = [] :=
  ⟨{ tRun with laneA := { tLane with g := tLane.g.set 5 0x20000010 } }, .a, 1, 1, 5, 6, by decide +kernel⟩

theorem witness_TimersAndEdges_1 : ∃ (s : State) (l : LaneId) (d : GReg) (p : GReg) (slot : BitVec 13),
    Ready s l ∧ SlotOk s l (slotAddr (s.lane l) slot) :=
  ⟨{ tRun with cyc := { tRun.cyc with ts := 9 } }, .a, 1, 2, 0x17FF, by decide +kernel⟩

theorem witness_TimersAndEdges_2 : ∃ (s : State) (l : LaneId) (d : GReg) (p : GReg) (slot : BitVec 13),
    Ready s l ∧ SlotOk s l (slotAddr (s.lane l) slot) :=
  ⟨{ tRun with cyc := { tRun.cyc with ts := 9 } }.memPutLe (privKey .a 0x10008018) 8 3, .a, 6, 2, 1, by decide +kernel⟩

theorem witness_TimersAndEdges_3 : ∃ (s : State) (l : LaneId) (d : GReg) (p : GReg) (slot : BitVec 13),
    Ready s l ∧ SlotOk s l (slotAddr (s.lane l) slot) :=
  ⟨{ tRun with cyc := { tRun.cyc with ts := 9 } }.memPutLe (privKey .a 0x10008018) 8 1, .a, 1, 2, 1, by decide +kernel⟩

theorem witness_TimersAndEdges_4 : ∃ (s : State) (l : LaneId) (d : GReg) (p : GReg) (slot : BitVec 13),
    Ready s l ∧ SlotOk s l (slotAddr (s.lane l) slot) :=
  ⟨{ tRun with cyc := { tRun.cyc with ts := 9 } }.memPutLe (privKey .a 0x10008018) 8 3, .a, 1, 2, 1, by decide +kernel⟩

theorem witness_TimersAndEdges_5 : ∃ (s : State) (l : LaneId) (d : GReg) (slot : BitVec 13),
    Ready s l ∧ SlotOk s l (slotAddr (s.lane l) slot) :=
  ⟨tRun.memPutLe (privKey .a 0x10008018) 8 3, .a, 1, 1, by decide +kernel⟩

theorem witness_TimersAndEdges_6 : ∃ (s : State) (l : LaneId) (d : GReg) (bit : BitVec 19),
    Ready s l ∧ StoreOk s 0 (bitAddr (s.lane l) bit) ∧ s.lclean l (bitAddr (s.lane l) bit).toNat = true ∧ (s.lane l).primes = [] :=
  ⟨tRun.memPutLe (privKey .a 0x10017FFF) 1 0x42, .a, 1, 0x7FFFF, by decide +kernel⟩

theorem witness_ImageAndQuality_1 : ∃ (s : State) (l : LaneId) (d : GReg) (item : BitVec 16),
    Ready s l ∧ item.toNat < s.boot.act.inItems :=
  ⟨tItems, .a, 31, 1, by decide +kernel⟩

theorem witness_ImageAndQuality_2 : ∃ (s : State) (l : LaneId) (d : GReg) (item : BitVec 16),
    Ready s l ∧ item.toNat < s.boot.act.outItems :=
  ⟨tItems, .a, 1, 1, by decide +kernel⟩

theorem witness_ImageAndQuality_3 : ∃ (s : State) (l : LaneId) (d : GReg) (item : BitVec 16),
    Ready s l ∧ s.boot.act.outItems ≤ item.toNat :=
  ⟨tItems, .a, 1, 2, by decide +kernel⟩

theorem witness_ImageAndQuality_4 : ∃ (s : State) (l : LaneId) (d : GReg) (item : BitVec 16),
    Ready s l ∧ s.boot.act.inItems ≤ item.toNat :=
  ⟨tItems, .a, 1, 2, by decide +kernel⟩

theorem witness_ImageAndQuality_5 : ∃ (s : State) (l : LaneId) (d : GReg),
    Ready s l :=
  ⟨tRun, .a, 1, by decide +kernel⟩

theorem witness_MessagesAndSystem_1 : ∃ (s : State) (l : LaneId) (a : GReg) (d : GReg) (q : BitVec 8),
    Ready s l ∧ (low (s.lane l) a).toNat % 8 = 0 ∧ 1 ≤ (reg (s.lane l) d).toNat ∧ (reg (s.lane l) d).toNat ≤ 1432 ∧ 0x20000000 ≤ (low (s.lane l) a).toNat ∧ (low (s.lane l) a).toNat + (reg (s.lane l) d).toNat ≤ 0x20180000 :=
  ⟨{ tRun with laneA := { tLane with g := (tLane.g.set 5 0x2017FA68).set 6 1432 } }, .a, 5, 6, 255, by decide +kernel⟩

theorem witness_MessagesAndSystem_2 : ∃ (s : State) (l : LaneId) (a : GReg) (d : GReg) (q : BitVec 8),
    Ready s l ∧ 1432 < (reg (s.lane l) d).toNat :=
  ⟨{ tRun with laneA := { tLane with g := (tLane.g.set 5 0x20000000).set 6 1433 } }, .a, 5, 6, 0, by decide +kernel⟩

theorem witness_MessagesAndSystem_3 : ∃ (s : State) (l : LaneId) (d : GReg) (q : BitVec 8),
    Ready s l :=
  ⟨tRun, .a, 31, 255, by decide +kernel⟩

theorem witness_MessagesAndSystem_4 : ∃ (s : State) (l : LaneId) (a : GReg),
    Ready s l ∧ (reg (s.lane l) a).toNat < 4 :=
  ⟨{ tRun with laneA := { tLane with g := tLane.g.set 5 3 } }, .a, 5, by decide +kernel⟩

theorem witness_MessagesAndSystem_5 : ∃ (s : State) (l : LaneId) (a : GReg),
    Ready s l ∧ reg (s.lane l) a = 0 :=
  ⟨tRun, .a, 0, by decide +kernel⟩

theorem witness_MessagesAndSystem_6 : ∃ (s : State) (l : LaneId) (a : GReg),
    Ready s l :=
  ⟨tRun, .a, 1, by decide +kernel⟩

theorem witness_MessagesAndSystem_7 : ∃ (s : State) (l : LaneId) (a : GReg),
    Ready s l ∧ 4 ≤ (reg (s.lane l) a).toNat :=
  ⟨{ tRun with laneA := { tLane with g := tLane.g.set 5 4 } }, .a, 5, by decide +kernel⟩

theorem witness_MessagesAndSystem_8 : ∃ (s : State) (l : LaneId),
    Ready s l ∧ (s.lane l).commits = [] ∧ (s.lane l).commitErr = none :=
  ⟨tRun, .a, by decide +kernel⟩

theorem witness_MessagesAndSystem_9 : ∃ (s : State) (l : LaneId),
    Ready s l ∧ (s.lane l).commits ≠ [] :=
  ⟨{ tRun with laneA := { tLane with commits := [(0, 0)] } }, .a, by decide +kernel⟩

theorem witness_MessagesAndSystem_10 : ∃ (s : State) (l : LaneId) (disp : Bool),
    (s.lane l).exec = .waitEnd disp ∧ (s.lane l).commits = [] ∧ (s.lane l).commitErr = none :=
  ⟨{ tRun with laneA := { tLane with exec := .waitEnd true } }, .a, true, by decide +kernel⟩

theorem witness_MessagesAndSystem_11 : ∃ (s : State) (l : LaneId) (d : GReg) (code : BitVec 3),
    Ready s l ∧ code.toNat ≤ 5 :=
  ⟨tRun, .a, 31, 5, by decide +kernel⟩

theorem witness_MessagesAndSystem_12 : ∃ (s : State) (l : LaneId) (a : GReg),
    Ready s l ∧ (low (s.lane l) a).toNat % 16 = 0 ∧ s.inActive (low (s.lane l) a).toNat 1 = true :=
  ⟨tRun, .a, 4, by decide +kernel⟩

theorem witness_MessagesAndSystem_13 : ∃ (s : State) (l : LaneId) (a : GReg),
    Ready s l ∧ (low (s.lane l) a).toNat % 16 = 0 ∧ s.stackLo ≤ (low (s.lane l) a).toNat ∧ (low (s.lane l) a).toNat ≤ s.stackHi :=
  ⟨{ tRun with laneA := { tLane with g := tLane.g.set 5 0x10003000 } }, .a, 5, by decide +kernel⟩

theorem witness_MessagesAndSystem_14 : ∃ (s : State) (l : LaneId) (a : GReg),
    Ready s l :=
  ⟨tRun, .a, 4, by decide +kernel⟩

theorem witness_MessagesAndSystem_15 : ∃ (s : State) (l : LaneId) (d : GReg),
    Ready s l :=
  ⟨tRun, .a, 4, by decide +kernel⟩

theorem witness_SupplyEvents_1 : ∃ (s : State) (r : Rail),
    (r = .vddAon ∨ r = .vddPll ∨ r = .vddCore ∨ r = .vddIoa) :=
  ⟨tRun, .vddAon, by decide +kernel⟩

theorem witness_SupplyEvents_2 : ∃ (s : State),
    s.rst.active = true ∧ s.fget SYS_RSTCAUSE_BO_RAIL = 15 :=
  ⟨{ State.reset with phys := { State.reset.phys with ok := 0xFF } }, by decide +kernel⟩

theorem witness_SupplyEvents_4 : ∃ (s : State) (r : Rail) (st : Straps),
    (r = .vddPll ∨ r = .vddCore ∨ r = .vddIoa) :=
  ⟨State.reset, .vddIoa, { mode := 0, testEn := false, slotId := 0 }, by decide +kernel⟩

theorem witness_SupplyEvents_6 : ∃ (s : State) (r : Rail) (q : Rail) (st : Straps),
    ((r = .vddIob ∧ q = .vddSer) ∨ (r = .vddSer ∧ q = .vddIob)) :=
  ⟨State.reset, .vddIob, .vddSer, { mode := 0, testEn := false, slotId := 0 }, by decide +kernel⟩

theorem witness_SupplyEvents_7 : ∃ (s : State) (st : Straps),
    s.fget (preq .fpower) = 0 ∧ s.fget BOOT_STAT_PHASE ≠ 6 :=
  ⟨State.reset, { mode := 0, testEn := false, slotId := 0 }, by decide +kernel⟩

theorem witness_SupplyEvents_8 : ∃ (s : State) (r : Rail) (mv : Nat),
    (r = .vddAon ∨ r = .vddPll ∨ r = .vddIoa ∨ r = .vddIob ∨ r = .vddSer ∨ (r = .vddCore ∧ s.fget REC_CFG_EN = 0)) :=
  ⟨tRun.fset REC_CFG_EN 0, .vddCore, 990, by decide +kernel⟩

theorem witness_SupplyEvents_9 : ∃ (s : State) (mv : Nat),
    s.fget REC_CFG_EN = 0 :=
  ⟨tRun.fset REC_CFG_EN 0, 36100, by decide +kernel⟩

theorem witness_SupplyEvents_10 : ∃ (s : State) (mv : Nat),
    s.fget REC_CFG_EN = 1 :=
  ⟨tRun.fset REC_CFG_EN 1, 990, by decide +kernel⟩

theorem witness_SupplyEvents_14 : ∃ (s : State) (st : Straps),
    s.phys.ok.extractLsb' 0 6 = 0x3F ∧ s.bkup.lost = false ∧ RstSrc.por ∈ s.rst.sources :=
  ⟨{ State.reset with phys := { State.reset.phys with ok := 0x3F }, bkup := { State.reset.bkup with lost := false }, rst := { State.reset.rst with sources := [.por] } }, { mode := 0, testEn := false, slotId := 0 }, by decide +kernel⟩

theorem witness_SupplyEvents_15 : ∃ (s : State) (st : Straps),
    s.phys.ok.extractLsb' 0 6 = 0x3F ∧ s.bkup.lost = false ∧ RstSrc.resetN ∈ s.rst.sources :=
  ⟨{ State.reset with phys := { State.reset.phys with ok := 0x3F }, bkup := { State.reset.bkup with lost := false }, rst := { State.reset.rst with sources := [.por, .resetN] } }, { mode := 0, testEn := false, slotId := 0 }, by decide +kernel⟩

theorem witness_SupplyEvents_16 : ∃ (s : State),
    s.fget (preq .flogic) = 0 ∧ s.fget BOOT_STAT_PHASE ≠ 6 :=
  ⟨State.reset, by decide +kernel⟩

theorem witness_SupplyEvents_18 : ∃ (s : State),
    s.phys.ok.getLsbD 0 = true ∧ s.fget CLK_STAT_SRC ≠ 0 ∧ s.clk.hold = false :=
  ⟨{ State.reset with phys := { State.reset.phys with ok := 1 } }.fset CLK_STAT_SRC 2, by decide +kernel⟩

theorem witness_SupplyEvents_19 : ∃ (s : State),
    (s.phys.ok.getLsbD 0 = false ∨ s.fget CLK_STAT_SRC = 0 ∨ s.clk.hold = true) :=
  ⟨State.reset, by decide +kernel⟩

theorem witness_PaddockSwitching_1 : ∃ (s : State) (p : Paddock) (ps : List Paddock),
    s.pwr.ramp = [] ∧ s.pwr.appRamp = p :: ps ∧ (p.core ≠ none ∨ p = .net ∨ p = .bus ∨ p = .signal) ∧ s.fget (preq p) = 0 :=
  ⟨{ tRun with pwr := { tRun.pwr with appRamp := [.net, .bus] } }, .net, [.bus], by decide +kernel⟩

theorem witness_PaddockSwitching_2 : ∃ (s : State) (p : Paddock) (q : Paddock) (ps : List Paddock),
    s.pwr.ramp = p :: q :: ps ∧ p ≠ q :=
  ⟨{ tRun with pwr := { tRun.pwr with ramp := [.coreA, .coreB, .net] } }, .coreA, .coreB, [.net], by decide +kernel⟩

theorem witness_PaddockSwitching_3 : ∃ (s : State) (p : Paddock) (ps : List Paddock),
    s.pwr.ramp = [] ∧ s.pwr.appRamp = p :: ps ∧ (p.core ≠ none ∨ p = .net ∨ p = .bus ∨ p = .signal) :=
  ⟨{ tRun with pwr := { tRun.pwr with appRamp := [.coreD] } }, .coreD, [], by decide +kernel⟩

theorem witness_PaddockSwitching_4 : ∃ (s : State) (p : Paddock) (q : Paddock) (ps : List Paddock),
    s.pwr.ramp = p :: q :: ps ∧ p ≠ q :=
  ⟨{ tRun with pwr := { tRun.pwr with ramp := [.coreA, .coreB, .net] } }, .coreA, .coreB, [.net], by decide +kernel⟩

theorem witness_PaddockSwitching_5 : ∃ (s : State) (p : Paddock),
    (p = .net ∨ p = .bus) ∧ s.offPermitted p = true ∧ (s.fget (pstat p) = 1 ∨ s.fget (pstat p) = 2) :=
  ⟨tRun.fset (pstat .bus) 2, .bus, by decide +kernel⟩

theorem witness_PaddockSwitching_6 : ∃ (s : State) (p : Paddock),
    p ≠ .net ∧ p ≠ .bus ∧ s.offPermitted p = true ∧ (s.fget (pstat p) = 1 ∨ s.fget (pstat p) = 2) :=
  ⟨tRun.fset (pstat .signal) 2, .signal, by decide +kernel⟩

theorem witness_PaddockSwitching_7 : ∃ (s : State) (p : Paddock),
    s.offPermitted p = true ∧ s.fget (pstat p) = 0 :=
  ⟨tRun.fset (pstat .signal) 0, .signal, by decide +kernel⟩

theorem witness_PaddockSwitching_8 : ∃ (s : State) (p : Paddock),
    s.offPermitted p = false :=
  ⟨tRun, .aon, by decide +kernel⟩

theorem witness_PaddockSwitching_9 : ∃ (s : State) (p : Paddock),
    s.fget (pstat p) = 3 ∧ s.supplied p = true :=
  ⟨{ tRun with pwr := { tRun.pwr with offAt := [.net, .bus] } }.fset (pstat .net) 3, .net, by decide +kernel⟩

theorem witness_PaddockSwitching_10 : ∃ (s : State) (p : Paddock),
    hasReq p = true ∧ p.core.all (fun k => !s.flag (retiredF k)) = true ∧ s.fget (pstat p) = 0 ∧ s.supplied p = true :=
  ⟨(tRun.fset (pstat .net) 0).fset (preq .net) 1, .net, by decide +kernel⟩

theorem witness_PaddockSwitching_11 : ∃ (s : State) (k : CoreId),
    s.flag (retiredF k) = true :=
  ⟨tRun.fset (retiredF .d) 1, .d, by decide +kernel⟩

theorem witness_PaddockSwitching_12 : ∃ (s : State) (k : CoreId),
    k.paddock ∈ s.pwr.reload :=
  ⟨{ tRun with pwr := { tRun.pwr with reload := [.net, .coreB] } }, .b, by decide +kernel⟩

theorem witness_PaddockSwitching_13 : ∃ (s : State) (p : Paddock),
    p ∈ s.pwr.reload :=
  ⟨{ tRun with pwr := { tRun.pwr with reload := [.net, .coreB] } }, .net, by decide +kernel⟩

theorem witness_PaddockSwitching_14 : ∃ (s : State) (p : Paddock),
    p ∈ s.pwr.drain20 :=
  ⟨{ tRun with pwr := { tRun.pwr with drain20 := [.net, .bus] } }, .bus, by decide +kernel⟩

theorem witness_PaddockSwitching_15 : ∃ (s : State) (e : LocalEp) (es : List LocalEp),
    s.rst.locals = e :: es ∧ e.phase = .drain :=
  ⟨{ tRun with rst := { tRun.rst with locals := [{ target := 8, src := .software, held := [], phase := .drain, wdrop := 0 }] } }, { target := 8, src := .software, held := [], phase := .drain, wdrop := 0 }, [], by decide +kernel⟩

theorem witness_ResetSources_2 : ∃ (s : State),
    s.phys.resetNLow = true :=
  ⟨{ State.reset with phys := { State.reset.phys with resetNLow := true } }, by decide +kernel⟩

theorem witness_ResetSources_3 : ∃ (s : State) (st : Straps) (r : RstSrc),
    r ∈ s.rst.sources ∧ r ≠ .resetN :=
  ⟨{ State.reset with rst := { State.reset.rst with sources := [.por, .resetN] } }, { mode := 0, testEn := false, slotId := 0 }, .por, by decide +kernel⟩

theorem witness_ResetSources_4 : ∃ (s : State) (st : Straps),
    s.rst.active = true ∧ s.rst.step = 0 ∧ s.rst.sources = [.resetN] :=
  ⟨{ State.reset with rst := { State.reset.rst with sources := [.resetN] } }, { mode := 0, testEn := false, slotId := 0 }, by decide +kernel⟩

theorem witness_ResetSources_5 : ∃ (s : State) (src : StretchSrc) (st : Straps),
    s.rst.active = true ∧ s.rst.step = 0 ∧ s.rst.sources = [stretchSrc src] ∧ s.rst.counted = false ∧ s.fget SYS_RSTCNT_COUNT = (~~~s.bkup.rstcntM).toNat ∧ s.fget SYS_RSTCNT_COUNT < 0xFFFFFFFF :=
  ⟨({ State.reset with rst := { State.reset.rst with sources := [.soft] } , bkup := { State.reset.bkup with rstcntM := 0xFFFFFFFA } }).fset SYS_RSTCNT_COUNT 5, .soft, { mode := 1, testEn := false, slotId := 9 }, by decide +kernel⟩

theorem witness_ResetSources_6 : ∃ (s : State) (src : StretchSrc) (st : Straps) (r : RstSrc),
    r ∈ s.rst.sources ∧ r ≠ stretchSrc src :=
  ⟨{ State.reset with rst := { State.reset.rst with sources := [.por, .voter] } }, .voter, { mode := 0, testEn := false, slotId := 0 }, .por, by decide +kernel⟩

theorem witness_ResetSources_8 : ∃ (s : State) (target : Nat),
    s.localAllowed target = true :=
  ⟨tRun, 0x28, by decide +kernel⟩

theorem witness_ResetSources_9 : ∃ (s : State) (target : Nat),
    s.localAllowed target = false :=
  ⟨tRun, 0x0B, by decide +kernel⟩

theorem witness_ResetSources_11 : ∃ (s : State) (st : Straps) (r : RstSrc),
    r ∈ s.rst.sources ∧ r ≠ .debug :=
  ⟨{ State.reset with rst := { State.reset.rst with sources := [.por, .debug] } }, { mode := 0, testEn := false, slotId := 0 }, .por, by decide +kernel⟩

theorem witness_ResetSources_12 : ∃ (s : State) (st : Straps),
    s.rst.active = true ∧ s.rst.step = 0 ∧ s.rst.sources = [.debug] ∧ s.rst.locals = [] :=
  ⟨{ State.reset with rst := { State.reset.rst with sources := [.debug] } }, { mode := 0, testEn := false, slotId := 0 }, by decide +kernel⟩

theorem witness_ResetSources_13 : ∃ (s : State),
    s.rst.active = true ∧ s.rst.step = 8 :=
  ⟨{ State.reset with rst := { State.reset.rst with sources := [], step := 8 } }, by decide +kernel⟩

theorem witness_ResetSources_14 : ∃ (s : State),
    s.rst.active = true ∧ s.rst.step = 8 ∧ s.fget SYS_PINSTAT_TEST_EN = 0 ∧ s.fget SYS_PINSTAT_MODE = 1 :=
  ⟨({ State.reset with rst := { State.reset.rst with sources := [], step := 8 } }).fset SYS_PINSTAT_MODE 1, by decide +kernel⟩

theorem witness_ResetSources_15 : ∃ (s : State),
    s.rst.active = true ∧ s.rst.step = 8 ∧ s.fget SYS_PINSTAT_TEST_EN = 0 ∧ 2 ≤ s.fget SYS_PINSTAT_MODE :=
  ⟨({ State.reset with rst := { State.reset.rst with sources := [], step := 8 } }).fset SYS_PINSTAT_MODE 2, by decide +kernel⟩

theorem witness_ResetSources_16 : ∃ (s : State),
    s.accepts = true ∧ s.fget SYS_RSTCFG_SW_WARM_EN = 1 :=
  ⟨tRun.fset SYS_RSTCFG_SW_WARM_EN 1, by decide +kernel⟩

theorem witness_ResetSources_17 : ∃ (s : State) (key : BitVec 8),
    (key ≠ 0xA5 ∨ s.fget SYS_RSTCFG_SW_WARM_EN = 0 ∨ s.accepts = false) :=
  ⟨State.reset, 0xA5, by decide +kernel⟩

theorem witness_ResetSources_18 : ∃ (s : State) (key : BitVec 8) (target : Nat),
    (key ≠ 0xA5 ∨ s.fget SYS_RSTCFG_SW_LOCAL_EN = 0 ∨ s.accepts = false ∨ s.localAllowed target = false) :=
  ⟨State.reset, 0xA5, 0x07, by decide +kernel⟩

theorem witness_LocalResetsAndTrims_1 : ∃ (s : State) (target : Nat),
    s.accepts = true ∧ s.localAllowed target = true ∧ s.fget SYS_RSTCFG_SW_LOCAL_EN = 1 :=
  ⟨tRun.fset SYS_RSTCFG_SW_LOCAL_EN 1, 0x2C, by decide +kernel⟩

theorem witness_LocalResetsAndTrims_2 : ∃ (s : State),
    s.accepts = true ∧ s.inService = false ∧ s.rst.locals = [] ∧ s.fget SYS_RSTCFG_SW_LOCAL_EN = 1 :=
  ⟨tRun.fset SYS_RSTCFG_SW_LOCAL_EN 1, by decide +kernel⟩

theorem witness_LocalResetsAndTrims_3 : ∃ (s : State),
    s.accepts = true ∧ s.inService = false ∧ s.rst.locals = [] ∧ s.memx.hubQ = [] ∧ s.fget SYS_RSTCFG_SW_LOCAL_EN = 1 :=
  ⟨(tRun.fset SYS_RSTCFG_SW_LOCAL_EN 1).fset (CAN_n_CFG_MODE 0) 1, by decide +kernel⟩

theorem witness_LocalResetsAndTrims_4 : ∃ (s : State) (target : Nat) (src : LocalSrc),
    (s.localAllowed target = true ∨ ((target = 0x0B ∨ target = 0x0C) ∧ src = .brownout)) :=
  ⟨tRun, 0x0C, .brownout, by decide +kernel⟩

theorem witness_LocalResetsAndTrims_5 : ∃ (s : State) (target : Nat) (src : LocalSrc),
    s.localAllowed target = true ∧ s.rst.active = false ∧ s.rst.locals = [] ∧ s.inService = false ∧ src ≠ .software :=
  ⟨tRun, 0x28, .debug, by decide +kernel⟩

theorem witness_LocalResetsAndTrims_6 : ∃ (s : State) (target : Nat) (src : LocalSrc),
    s.rst.active = true ∧ s.inService = false :=
  ⟨State.reset, 0x28, .debug, by decide +kernel⟩

theorem witness_LocalResetsAndTrims_7 : ∃ (s : State) (target : Nat) (src : LocalSrc),
    target = 0x0A ∧ s.boot.act.loaded = true ∧ s.boot.act.safety = true :=
  ⟨{ tRun with boot := { tRun.boot with act := { tRun.boot.act with safety := true } } }, 0x0A, .software, by decide +kernel⟩

theorem witness_LocalResetsAndTrims_8 : ∃ (s : State) (target : Nat),
    s.localIn target .hold = true ∧ target ≠ 0x0A :=
  ⟨{ tRun with rst := { tRun.rst with locals := [{ target := 0x28, src := .software, held := [], phase := .hold, wdrop := 0 }] } }, 0x28, by decide +kernel⟩

theorem witness_LocalResetsAndTrims_9 : ∃ (s : State),
    s.localIn 0x0A .hold = true :=
  ⟨{ tRun with rst := { tRun.rst with locals := [{ target := 0x0A, src := .software, held := [], phase := .hold, wdrop := 0 }] } }, by decide +kernel⟩

theorem witness_LocalResetsAndTrims_10 : ∃ (s : State),
    s.localIn 0x0A .reload = true :=
  ⟨{ tRun with rst := { tRun.rst with locals := [{ target := 0x0A, src := .software, held := [], phase := .reload, wdrop := 0 }] } }, by decide +kernel⟩

theorem witness_LocalResetsAndTrims_11 : ∃ (s : State) (target : Nat),
    s.localIn target .reload = true :=
  ⟨{ tRun with rst := { tRun.rst with locals := [{ target := 0x28, src := .software, held := [], phase := .reload, wdrop := 0 }] } }, 0x28, by decide +kernel⟩

theorem witness_LocalResetsAndTrims_12 : ∃ (s : State) (c : Nat),
    s.rst.trimCopy = some c ∧ c < 2 :=
  ⟨{ State.reset with rst := { State.reset.rst with trimCopy := some 1 } }, 1, by decide +kernel⟩

theorem witness_LocalResetsAndTrims_13 : ∃ (s : State),
    s.rst.trimCopy = some 0 :=
  ⟨{ State.reset with rst := { State.reset.rst with trimCopy := some 0 } }, by decide +kernel⟩

theorem witness_LocalResetsAndTrims_14 : ∃ (s : State),
    s.rst.trimCopy = some 1 :=
  ⟨{ State.reset with rst := { State.reset.rst with trimCopy := some 1 } }, by decide +kernel⟩

theorem witness_ClockQualification_1 : ∃ (s : State),
    s.clk.hrc1Stopped = false :=
  ⟨State.reset, by decide +kernel⟩

theorem witness_ClockQualification_2 : ∃ (s : State),
    s.clk.hrc2Stopped = false :=
  ⟨State.reset, by decide +kernel⟩

theorem witness_ClockQualification_3 : ∃ (s : State),
    s.rst.active = true ∧ s.rst.step = 4 ∧ s.clk.qual = .off ∧ s.clk.hrc2Settling = false ∧ s.clk.hrc1Stopped = false ∧ s.clk.hrc2Stopped = false ∧ s.fget SYS_RSTSTAT_TRIM_VALID = 0 :=
  ⟨{ State.reset with rst := { State.reset.rst with step := 4 }, clk := { State.reset.clk with hrc1Settling := true } }, by decide +kernel⟩

theorem witness_ClockQualification_4 : ∃ (s : State),
    s.clk.hrc1Stopped = true :=
  ⟨{ State.reset with clk := { State.reset.clk with hrc1Stopped := true } }, by decide +kernel⟩

theorem witness_ClockQualification_5 : ∃ (s : State) (count : Nat),
    windowOk count s.hrc1Pct = true ∧ s.clk.qual = .hrc1 ∧ s.fget CLK_STAT_HRC1_Q = 0 ∧ s.clk.hrc1Settling = false ∧ s.clk.hrc1Stopped = false :=
  ⟨{ State.reset with clk := { State.reset.clk with qual := .hrc1 } }, 4218, by decide +kernel⟩

theorem witness_ClockQualification_6 : ∃ (s : State) (count : Nat),
    windowOk count s.hrc1Pct = true ∧ s.clk.qual = .done ∧ s.clk.hold = false ∧ s.fget CLK_STAT_HRC1_Q = 0 ∧ s.clk.hrc1Settling = false ∧ s.clk.hrc1Stopped = false :=
  ⟨{ State.reset with clk := { State.reset.clk with qual := .done } }, 3974, by decide +kernel⟩

theorem witness_ClockQualification_7 : ∃ (s : State) (count : Nat),
    4096 - 81 ≤ count ∧ count ≤ 4096 + 81 ∧ s.clk.qual = .xtal :=
  ⟨{ State.reset with clk := { State.reset.clk with qual := .xtal } }, 4015, by decide +kernel⟩

theorem witness_ClockQualification_8 : ∃ (s : State) (count : Nat),
    s.clk.hold = true ∧ s.clk.qual = .done :=
  ⟨{ tRun with clk := { tRun.clk with hold := true, qual := .done } }, 4096, by decide +kernel⟩

theorem witness_ClockQualification_9 : ∃ (s : State) (count : Nat),
    4096 + 82 ≤ count :=
  ⟨{ State.reset with clk := { State.reset.clk with qual := .xtal } }, 4178, by decide +kernel⟩

theorem witness_ClockQualification_10 : ∃ (s : State) (count : Nat),
    windowOk count s.hrc1Pct = false :=
  ⟨{ State.reset with clk := { State.reset.clk with qual := .hrc1 } }, 4219, by decide +kernel⟩

theorem witness_ClockQualification_12 : ∃ (s : State),
    s.clk.qual = .pll ∧ s.rst.step ≠ 4 :=
  ⟨{ State.reset with clk := { State.reset.clk with qual := .pll } }, by decide +kernel⟩

theorem witness_ClockQualification_13 : ∃ (s : State),
    s.clk.qual = .pll :=
  ⟨{ State.reset with rst := { State.reset.rst with step := 4 }, clk := { State.reset.clk with qual := .pll } }, by decide +kernel⟩

theorem witness_ClockQualification_14 : ∃ (s : State),
    s.rst.active = true ∧ s.rst.step = 4 ∧ (s.clk.qual = .off ∨ s.clk.qual = .trim ∨ s.clk.qual = .hrc1) :=
  ⟨{ State.reset with rst := { State.reset.rst with step := 4 }, clk := { State.reset.clk with qual := .hrc1 } }, by decide +kernel⟩

theorem witness_ClockQualification_15 : ∃ (s : State),
    s.clk.qual = .xtal :=
  ⟨{ State.reset with clk := { State.reset.clk with qual := .xtal } }, by decide +kernel⟩

theorem witness_ClockMonitoring_1 : ∃ (s : State) (xh : Option Nat) (hh : Option Nat) (xh1 : Option Nat),
    s.clk.qual = .done ∧ s.clk.hold = false ∧ s.fget CLK_STAT_XTAL_Q = 1 ∧ s.fget CLK_STAT_HRC1_Q = 1 ∧ xh.all (· ≤ 20000) = true ∧ hh.all (· ≤ 30000) = true ∧ xh1.all (· ≤ 20000) = true ∧ s.clk.monXH = true ∧ s.clk.monHH = true ∧ s.clk.monXH1 = true :=
  ⟨({ tRun with clk := { tRun.clk with qual := .done } }.fset CLK_STAT_XTAL_Q 1).fset CLK_STAT_HRC1_Q 1, some 20000, none, some 3, by decide +kernel⟩

theorem witness_ClockMonitoring_2 : ∃ (s : State) (d : Nat),
    s.clk.qual = .done ∧ s.clk.hold = false ∧ s.fget CLK_STAT_XTAL_Q = 1 ∧ s.fget CLK_STAT_HRC1_Q = 1 ∧ s.clk.monHH = true ∧ 20000 < d :=
  ⟨({ tRun with clk := { tRun.clk with qual := .done } }.fset CLK_STAT_XTAL_Q 1).fset CLK_STAT_HRC1_Q 1, 20001, by decide +kernel⟩

theorem witness_ClockMonitoring_3 : ∃ (s : State) (d : Nat),
    s.clk.qual = .done ∧ s.clk.hold = false ∧ s.fget CLK_STAT_XTAL_Q = 1 ∧ s.fget CLK_STAT_HRC1_Q = 1 ∧ s.clk.monXH = true ∧ 30000 < d ∧ s.fget CLK_STAT_SRC = 1 :=
  ⟨(({ tRun with clk := { tRun.clk with qual := .done } }.fset CLK_STAT_XTAL_Q 1).fset CLK_STAT_HRC1_Q 1).fset CLK_STAT_SRC 1, 30001, by decide +kernel⟩

theorem witness_ClockMonitoring_4 : ∃ (s : State) (d : Nat),
    s.clk.qual = .done ∧ s.clk.hold = false ∧ s.fget CLK_STAT_XTAL_Q = 1 ∧ s.fget CLK_STAT_HRC1_Q = 1 ∧ s.clk.monHH = true ∧ s.clk.monXH1 = true ∧ d ≤ 20000 :=
  ⟨({ tRun with clk := { tRun.clk with qual := .done } }.fset CLK_STAT_XTAL_Q 1).fset CLK_STAT_HRC1_Q 1, 20000, by decide +kernel⟩

theorem witness_ClockMonitoring_5 : ∃ (s : State) (xh : Option Nat) (hh : Option Nat) (xh1 : Option Nat),
    (s.clk.qual ≠ .done ∨ s.clk.hold = true) :=
  ⟨State.reset, some 20001, none, some 3, by decide +kernel⟩

theorem witness_ClockMonitoring_6 : ∃ (s : State),
    s.clk.qual = .done ∧ s.clk.hold = false ∧ s.fget CLK_STAT_XTAL_Q = 1 ∧ s.fget CLK_STAT_HRC1_Q = 1 ∧ s.clk.monHH = true ∧ s.fget CLK_STAT_SRC = 1 :=
  ⟨(({ tRun with clk := { tRun.clk with qual := .done } }.fset CLK_STAT_XTAL_Q 1).fset CLK_STAT_HRC1_Q 1).fset CLK_STAT_SRC 1, by decide +kernel⟩

theorem witness_ClockMonitoring_7 : ∃ (s : State),
    s.clk.hold = true :=
  ⟨{ tRun with clk := { tRun.clk with hold := true } }, by decide +kernel⟩

theorem witness_ClockMonitoring_8 : ∃ (s : State) (p : Pll),
    s.clk.qual = .done ∧ s.clk.hold = false :=
  ⟨{ State.reset with clk := { State.reset.clk with qual := .done } }, .pllS, by decide +kernel⟩

theorem witness_ClockMonitoring_9 : ∃ (s : State) (p : Pll),
    s.clk.qual = .done ∧ s.clk.hold = false ∧ s.rst.active = true :=
  ⟨{ State.reset with clk := { State.reset.clk with qual := .done } }, .pllC, by decide +kernel⟩

theorem witness_ClockMonitoring_10 : ∃ (s : State),
    s.fget ETH_STAT_LINK = 0 :=
  ⟨tRun, by decide +kernel⟩

theorem witness_ClockMonitoring_11 : ∃ (s : State),
    s.fget ETH_STAT_LINK ≠ 0 :=
  ⟨tRun.fset ETH_STAT_LINK 5, by decide +kernel⟩

theorem witness_DiscipliningGatesOutputs_1 : ∃ (s : State) (o : Hrc) (err : Int) (v : Int),
    s.fget (discSrcF o) ≠ 0 ∧ s.discAvail (s.fget (discSrcF o)) = true ∧ v = discOfs s o + err.sign ∧ -(min (s.fget CLK_DISC_LIMIT) 500 : Int) < v ∧ v < min (s.fget CLK_DISC_LIMIT) 500 ∧ -(min (s.fget CLK_DISC_LIMIT) 500 : Int) ≤ discOfs s o ∧ discOfs s o ≤ min (s.fget CLK_DISC_LIMIT) 500 :=
  ⟨((((tRun.fset CLK_DISC_SRC2 1).fset CLK_STAT_XTAL_Q 1).fset CLK_STAT_SRC 1).fset CLK_DISC_LIMIT 500).fset CLK_TRIM_OFS2 498, .hrc2, 77, 499, by decide +kernel⟩

theorem witness_DiscipliningGatesOutputs_2 : ∃ (s : State) (o : Hrc) (err : Int) (v : Int),
    s.fget (discSrcF o) ≠ 0 ∧ s.discAvail (s.fget (discSrcF o)) = true ∧ v = discOfs s o + err.sign ∧ err ≠ 0 ∧ v.natAbs = min (s.fget CLK_DISC_LIMIT) 500 ∧ (discOfs s o).natAbs < min (s.fget CLK_DISC_LIMIT) 500 :=
  ⟨((((tRun.fset CLK_DISC_SRC2 1).fset CLK_STAT_XTAL_Q 1).fset CLK_STAT_SRC 1).fset CLK_DISC_LIMIT 500).fset CLK_TRIM_OFS2 (65536 - 499), .hrc2, -1, -500, by decide +kernel⟩

theorem witness_DiscipliningGatesOutputs_3 : ∃ (s : State) (o : Hrc) (err : Int),
    s.fget (discSrcF o) ≠ 0 ∧ s.discAvail (s.fget (discSrcF o)) = false ∧ s.fget (discStF o) ≠ 2 :=
  ⟨((tRun.fset CLK_DISC_SRC1 1).fset CLK_STAT_SRC 2).fset CLK_STAT_DISC1 1, .hrc1, 0, by decide +kernel⟩

theorem witness_DiscipliningGatesOutputs_4 : ∃ (s : State) (o : Hrc) (err : Int),
    s.fget (discSrcF o) = 0 :=
  ⟨tRun, .hrc1, 4, by decide +kernel⟩

theorem witness_DiscipliningGatesOutputs_5 : ∃ (s : State) (code : BitVec 8),
    s.fget CLK_GSTAT_PENDING = 0 ∧ s.gateRefused code.toNat false = false ∧ s.fget (gateF code.toNat) = 1 ∧ gateCode code.toNat = true :=
  ⟨tRun, 0x0F, by decide +kernel⟩

theorem witness_DiscipliningGatesOutputs_6 : ∃ (s : State) (code : BitVec 8),
    s.fget CLK_GSTAT_PENDING = 0 ∧ s.gateRefused code.toNat false = false ∧ s.fget (gateF code.toNat) = 0 ∧ gateCode code.toNat = true :=
  ⟨tRun.fset (gateF 0x0F) 0, 0x0F, by decide +kernel⟩

theorem witness_DiscipliningGatesOutputs_7 : ∃ (s : State) (code : BitVec 8),
    s.fget CLK_GSTAT_PENDING = 0 ∧ s.gateRefused code.toNat true = false ∧ gateCode code.toNat = true :=
  ⟨tRun.fset (gateF 0x0F) 0, 0x0F, by decide +kernel⟩

theorem witness_DiscipliningGatesOutputs_8 : ∃ (s : State) (code : BitVec 8) (b : Bool),
    s.fget CLK_GSTAT_PENDING = 0 ∧ s.gateRefused code.toNat b = true ∧ gateCode code.toNat = true :=
  ⟨tRun.fset FLK_CFG_EN 1, 0x0F, false, by decide +kernel⟩

theorem witness_DiscipliningGatesOutputs_9 : ∃ (s : State) (code : BitVec 8),
    (s.fget CLK_GSTAT_PENDING = 1 ∨ gateCode code.toNat = false) :=
  ⟨tRun, 0x4A, by decide +kernel⟩

theorem witness_DiscipliningGatesOutputs_10 : ∃ (s : State) (n : Nat),
    s.fget CLK_GSTAT_PENDING = 1 ∧ s.fget CLK_GSTAT_CODE = n ∧ gateCode n = true :=
  ⟨(tRun.fset CLK_GSTAT_PENDING 1).fset CLK_GSTAT_CODE 0x11, 0x11, by decide +kernel⟩

theorem witness_DiscipliningGatesOutputs_11 : ∃ (s : State) (n : Nat) (ns : List Nat),
    s.clk.opening = n :: ns ∧ gateCode n = true :=
  ⟨{ tRun with clk := { tRun.clk with opening := [0x0B] } }, 0x0B, [], by decide +kernel⟩

theorem witness_DiscipliningGatesOutputs_12 : ∃ (s : State) (v : BitVec 32),
    v.extractLsb' 24 8 ≠ 0 ∧ (v.extractLsb' 0 2 ≠ 3 ∨ v.extractLsb' 8 8 ≠ 0) :=
  ⟨tRun, 0xFF01FF03, by decide +kernel⟩

theorem witness_DiscipliningGatesOutputs_13 : ∃ (s : State) (v : BitVec 32),
    (v.extractLsb' 24 8 = 0 ∨ (v.extractLsb' 0 2 = 3 ∧ v.extractLsb' 8 8 = 0)) :=
  ⟨tRun, 0x00010001, by decide +kernel⟩

theorem witness_ScrubbingAndRepair_2 : ∃ (s : State) (bk : Bank) (w : Nat) (b : Nat),
    s.bankOn bk = false ∧ w * bankWord bk < bankSize bk ∧ b < bankBits bk ∧ s.upsetsAt (wordKey bk (w * bankWord bk)) = [] :=
  ⟨{ (tRun.fset (pstat .coreD) 0) with memx := { (tRun.fset (pstat .coreD) 0).memx with scrub := [(3, 9)] } }, .priv .d, 5, 71, by decide +kernel⟩

theorem witness_ScrubbingAndRepair_3 : ∃ (s : State) (bk : Bank) (o : Nat),
    s.bankOn bk = true ∧ o = s.scrubPtr (bankNum bk) * bankWord bk ∧ o + bankWord bk < bankSize bk ∧ s.upsetsAt (wordKey bk o) = [] :=
  ⟨{ (tRun.fset (pstat .common) 2) with memx := { (tRun.fset (pstat .common) 2).memx with scrub := [(5, 65534)] } }, .comm, 0x1FFFC0, by decide +kernel⟩

theorem witness_ScrubbingAndRepair_4 : ∃ (s : State) (bk : Bank) (o : Nat),
    s.bankOn bk = true ∧ o = s.scrubPtr (bankNum bk) * bankWord bk ∧ o + bankWord bk = bankSize bk ∧ s.upsetsAt (wordKey bk o) = [] :=
  ⟨{ (tRun.fset (pstat .common) 2) with memx := { (tRun.fset (pstat .common) 2).memx with scrub := [(5, 65535)] } }, .comm, 0x1FFFE0, by decide +kernel⟩

theorem witness_ScrubbingAndRepair_5 : ∃ (s : State) (bk : Bank) (o : Nat) (bits : List Nat),
    s.bankOn bk = true ∧ o = s.scrubPtr (bankNum bk) * bankWord bk ∧ o + bankWord bk < bankSize bk ∧ s.poisonedAt bk o = false ∧ s.upsetsAt (wordKey bk o) = bits ∧ bits ≠ [] ∧ ((if bankWord bk = 8 then bits.length = 1 else symbolsHit bits ≤ 5 ∧ bits.all (fun b => b < 336) = true)) ∧ s.memx.tracks.length < 16 :=
  ⟨{ ((tRun.fset (pstat .coreB) 3).fset (MEM_BANK_n_CECNT 1) 0xFFFF) with memx := { ((tRun.fset (pstat .coreB) 3).fset (MEM_BANK_n_CECNT 1) 0xFFFF).memx with upsets := [(0x210000000, [71])] } }, .priv .b, 0, [71], by decide +kernel⟩

theorem witness_ScrubbingAndRepair_6 : ∃ (s : State) (bk : Bank) (o : Nat) (b1 : Nat) (b2 : Nat),
    bankWord bk = 8 ∧ s.bankOn bk = true ∧ o = s.scrubPtr (bankNum bk) * bankWord bk ∧ o + bankWord bk < bankSize bk ∧ s.upsetsAt (wordKey bk o) = [b1, b2] :=
  ⟨{ (tRun.fset (pstat .coreB) 3) with memx := { (tRun.fset (pstat .coreB) 3).memx with upsets := [(0x210000000, [0, 71])] } }, .priv .b, 0, 0, 71, by decide +kernel⟩

theorem witness_ScrubbingAndRepair_7 : ∃ (s : State) (bk : Bank) (o : Nat) (bits : List Nat),
    bankWord bk = 32 ∧ s.bankOn bk = true ∧ o = s.scrubPtr (bankNum bk) * bankWord bk ∧ o + bankWord bk < bankSize bk ∧ s.poisonedAt bk o = false ∧ s.upsetsAt (wordKey bk o) = bits ∧ symbolsHit bits ≤ 5 ∧ bits.any (fun b => 336 ≤ b) = true :=
  ⟨{ ((tRun.fset (pstat .common) 2).memPut 0x5FFFA0 [1, 2, 3]) with memx := { ((tRun.fset (pstat .common) 2).memPut 0x5FFFA0 [1, 2, 3]).memx with scrub := [(4, 0x2FFFD)], upsets := [(0x5FFFA0, [4, 336])] } }, .shared, 0x5FFFA0, [4, 336], by decide +kernel⟩

theorem witness_ScrubbingAndRepair_8 : ∃ (s : State) (bk : Bank) (o : Nat) (bits : List Nat),
    bankWord bk = 32 ∧ s.bankOn bk = true ∧ o = s.scrubPtr (bankNum bk) * bankWord bk ∧ o + bankWord bk < bankSize bk ∧ s.poisonedAt bk o = false ∧ s.upsetsAt (wordKey bk o) = bits ∧ 5 < symbolsHit bits :=
  ⟨{ (tRun.fset (pstat .common) 2) with memx := { (tRun.fset (pstat .common) 2).memx with upsets := [(0, [0, 8, 16, 24, 32, 40])] } }, .shared, 0, [0, 8, 16, 24, 32, 40], by decide +kernel⟩

theorem witness_ScrubbingAndRepair_10 : ∃ (s : State) (bk : Bank) (c : ColRep),
    s.memx.colReps.find? (fun x => x.bank = bankNum bk) = some c ∧ c.row + 1 < (c.sub + 1) * 512 :=
  ⟨{ tRun with memx := { tRun.memx with colReps := [{ bank := 3, sub := 0, bit := 0, row := 7 }, { bank := 1, sub := 2, bit := 5, row := 1100 }], upsets := [(0x210113000, [6])] } }, .priv .b, { bank := 1, sub := 2, bit := 5, row := 1100 }, by decide +kernel⟩

theorem witness_ScrubbingAndRepair_11 : ∃ (s : State) (bk : Bank) (c : ColRep),
    s.memx.colReps.find? (fun x => x.bank = bankNum bk) = some c ∧ c.row + 1 < (c.sub + 1) * 512 ∧ s.memx.upsets.all (fun p => p.1 < bankKey bk (1024 * c.row) || bankKey bk (1024 * c.row) + 1024 ≤ p.1) = true :=
  ⟨{ tRun with memx := { tRun.memx with colReps := [{ bank := 1, sub := 2, bit := 5, row := 1100 }] } }, .priv .b, { bank := 1, sub := 2, bit := 5, row := 1100 }, by decide +kernel⟩

theorem witness_ScrubbingAndRepair_12 : ∃ (s : State) (bk : Bank) (c : ColRep),
    s.memx.colReps = [c] ∧ c.bank = bankNum bk ∧ c.row + 1 = (c.sub + 1) * 512 ∧ s.memx.upsets.all (fun p => p.1 < bankKey bk (1024 * c.row) || bankKey bk (1024 * c.row) + 1024 ≤ p.1) = true :=
  ⟨{ (tRun.fset (repairBusyF 1) 1) with memx := { (tRun.fset (repairBusyF 1) 1).memx with colReps := [{ bank := 1, sub := 2, bit := 5, row := 1535 }] } }, .priv .b, { bank := 1, sub := 2, bit := 5, row := 1535 }, by decide +kernel⟩

theorem witness_ScrubbingAndRepair_13 : ∃ (s : State) (ini : Initiator) (k : Nat) (n : Nat),
    s.creditsUsed (initNo ini) k = n + 1 :=
  ⟨{ tRun with memx := { tRun.memx with credits := [(0, 2, 8), (4, 0x4005, 1)] } }, .debug, 0x4005, 0, by decide +kernel⟩

theorem witness_HubRequests_1 : ∃ (s : State) (bk : Bank) (o : Nat) (r : BusReq),
    s.hubStopped = false ∧ busOk r = true ∧ s.waitingAt (targetNo (busItem r).req.addr) = [] ∧ s.hubPerm (busItem r) = false ∧ burstBank r.addr = some (bk, o) ∧ r.init ≠ .debug ∧ s.poisonedAt bk o = false ∧ s.upsetsAt (wordKey bk o) = [] ∧ r.write = false :=
  ⟨tRun.memPut 0x5FFFF8 [9, 8, 7, 6, 5, 4, 3, 0x82], .shared, 0x5FFFFA, { init := .engine, write := false, addr := 0x5FFFFA, size := 2, data := 0, tag := 9 }, by decide +kernel⟩

theorem witness_HubRequests_2 : ∃ (s : State) (bk : Bank) (o : Nat) (r : BusReq),
    s.hubStopped = false ∧ busOk r = true ∧ s.waitingAt (targetNo (busItem r).req.addr) = [] ∧ s.hubPerm (busItem r) = false ∧ burstBank r.addr = some (bk, o) ∧ r.init ≠ .debug ∧ s.poisonedAt bk o = false ∧ s.upsetsAt (wordKey bk o) = [] ∧ r.write = true ∧ s.creditsUsed (initNo r.init) (targetNo (busItem r).req.addr) < 8 ∧ (isLane r.init = false ∨ (s.rst.safe = none ∧ s.snapArea r.addr = false ∧ s.itemAt r.addr = none)) :=
  ⟨tRun.memPut 0x20000000 [9, 8, 7, 6, 5, 4, 3, 0x82], .comm, 6, { init := .engine, write := true, addr := 0x20000006, size := 2, data := 0x123456, tag := 9 }, by decide +kernel⟩

theorem witness_HubRequests_3 : ∃ (s : State) (bk : Bank) (o : Nat) (bits : List Nat) (r : BusReq),
    s.hubStopped = false ∧ busOk r = true ∧ s.waitingAt (targetNo (busItem r).req.addr) = [] ∧ s.hubPerm (busItem r) = false ∧ burstBank r.addr = some (bk, o) ∧ r.init ≠ .debug ∧ s.poisonedAt bk o = false ∧ s.upsetsAt (wordKey bk o) = bits ∧ symbolsHit bits ≤ 5 ∧ bits.any (fun b => 336 ≤ b) = true ∧ r.write = false ∧ isLane r.init = false :=
  ⟨{ tRun with memx := { tRun.memx with upsets := [(0x20000000, [340])] } }, .comm, 0x1F, [340], { init := .engine, write := false, addr := 0x2000001F, size := 1, data := 0, tag := 9 }, by decide +kernel⟩

theorem witness_HubRequests_4 : ∃ (s : State) (bk : Bank) (o : Nat) (r : BusReq),
    s.hubStopped = false ∧ busOk r = true ∧ s.waitingAt (targetNo (busItem r).req.addr) = [] ∧ s.hubPerm (busItem r) = false ∧ burstBank r.addr = some (bk, o) ∧ r.init ≠ .debug ∧ s.poisonedAt bk o = true ∧ r.write = true ∧ r.size ≠ 32 ∧ s.creditsUsed (initNo r.init) (targetNo (busItem r).req.addr) < 8 ∧ isLane r.init = false :=
  ⟨{ tRun with memx := { tRun.memx with poisoned := [3] } }, .shared, 0x7C, { init := .engine, write := true, addr := 0x7C, size := 4, data := 1, tag := 9 }, by decide +kernel⟩

theorem witness_HubRequests_5 : ∃ (s : State) (bk : Bank) (o : Nat) (r : BusReq),
    s.hubStopped = false ∧ busOk r = true ∧ s.waitingAt (targetNo (busItem r).req.addr) = [] ∧ s.hubPerm (busItem r) = false ∧ burstBank r.addr = some (bk, o) ∧ r.init ≠ .debug ∧ r.write = true ∧ r.size = 32 ∧ s.creditsUsed (initNo r.init) (targetNo (busItem r).req.addr) < 8 :=
  ⟨{ tRun with memx := { tRun.memx with poisoned := [3] } }, .shared, 0x60, { init := .engine, write := true, addr := 0x60, size := 32, data := 1, tag := 9 }, by decide +kernel⟩

theorem witness_HubRequests_6 : ∃ (s : State) (r : BusReq),
    s.hubStopped = false ∧ busOk r = true ∧ s.waitingAt (targetNo (busItem r).req.addr) = [] ∧ r.write = false ∧ r.addr < 0x70000000 ∧ burstBank r.addr = none ∧ r.addr / 0x10000000 ≠ 4 ∧ r.addr / 0x10000000 ≠ 6 :=
  ⟨tRun, { init := .engine, write := false, addr := 0x600000, size := 1, data := 0, tag := 9 }, by decide +kernel⟩

theorem witness_HubRequests_7 : ∃ (s : State) (r : BusReq),
    s.hubStopped = true :=
  ⟨State.reset, { init := .engine, write := true, addr := 0x600000, size := 1, data := 0, tag := 9 }, by decide +kernel⟩

theorem witness_HubRequests_8 : ∃ (s : State) (r : BusReq),
    s.hubStopped = false ∧ busOk r = true ∧ (s.waitingAt (targetNo (busItem r).req.addr) ≠ [] ∨ s.hubWait (busItem r) = true) :=
  ⟨{ tRun with memx := { tRun.memx with credits := [(5, 2, 8)] } }, { init := .engine, write := true, addr := 0x20000000, size := 1, data := 0, tag := 9 }, by decide +kernel⟩

theorem witness_HubRequests_9 : ∃ (s : State) (tn : Nat) (i : HubItem),
    s.hubStopped = false ∧ s.hubNext tn = some i :=
  ⟨{ tRun with memx := { tRun.memx with hubQ := [busItem { init := .engine, write := false, addr := 0x20000008, size := 4, data := 0, tag := 9 }] } }, 2, busItem { init := .engine, write := false, addr := 0x20000008, size := 4, data := 0, tag := 9 }, by decide +kernel⟩

theorem witness_HubRequests_10 : ∃ (s : State) (ini : Initiator) (a : Nat) (v : DWord),
    s.hubStopped = false ∧ s.rst.safe = none ∧ (0x40000000 ≤ a ∧ a < 0x40100000) ∧ a % 4 = 0 ∧ (ini = .lanes ∨ ini = .debug) ∧ (s.attrs a).wr = true ∧ s.secondBank a = false ∧ s.hubIsolated a = false ∧ s.hubQuiet a = false ∧ s.waitingAt (targetNo a) = [] ∧ s.creditsUsed (initNo ini) (targetNo a) < 8 ∧ mdPort a = none ∧ s.cmdStore a (BitVec.toNat v % 2 ^ 32) = none ∧ (a < 0x40090000 ∨ 0x400A0000 ≤ a) ∧ arrIdx a 0x400B0080 4 16 = none ∧ rwlMask a = 0 ∧ valueOk s.regs a (BitVec.toNat v % 2 ^ 32) = true :=
  ⟨(tRun.fset MEM_EVT_CE 1).fset MEM_EVT_UE 1, .debug, 0x40020004, 1, by decide +kernel⟩

theorem witness_HubRequests_11 : ∃ (s : State) (ini : Initiator) (a : Nat) (v : DWord),
    s.hubStopped = false ∧ s.rst.safe = none ∧ (0x40000000 ≤ a ∧ a < 0x40100000) ∧ a % 4 = 0 ∧ (ini = .lanes ∨ ini = .debug) ∧ (s.attrs a).wr = true ∧ s.secondBank a = false ∧ s.hubIsolated a = false ∧ s.hubQuiet a = false ∧ s.waitingAt (targetNo a) = [] ∧ s.creditsUsed (initNo ini) (targetNo a) < 8 ∧ mdPort a = none ∧ s.cmdStore a (BitVec.toNat v % 2 ^ 32) = none ∧ (a < 0x40090000 ∨ 0x400A0000 ≤ a) ∧ arrIdx a 0x400B0080 4 16 = none ∧ rwlMask a ≠ 0 ∧ valueOk s.regs a (BitVec.toNat v % 2 ^ 32) = true ∧ s.fget BOOT_LOCK_LOCK = 0 ∧ s.boot.act.safety = false ∧ (a < 0x40020100 ∨ 0x40020200 ≤ a) :=
  ⟨tRun, .lanes, 0x40010018, 0x00050003, by decide +kernel⟩

theorem witness_HubRequests_12 : ∃ (s : State) (ini : Initiator) (a : Nat) (v : DWord) (u : State),
    s.hubStopped = false ∧ s.rst.safe = none ∧ (0x40000000 ≤ a ∧ a < 0x40100000) ∧ a % 4 = 0 ∧ (ini = .lanes ∨ ini = .debug) ∧ (s.attrs a).wr = true ∧ s.secondBank a = false ∧ s.hubIsolated a = false ∧ s.hubQuiet a = false ∧ s.waitingAt (targetNo a) = [] ∧ s.creditsUsed (initNo ini) (targetNo a) < 8 ∧ mdPort a = none ∧ (s.setCredits (initNo ini) (targetNo a) (s.creditsUsed (initNo ini) (targetNo a) + 1)).cmdStore a (BitVec.toNat v % 2 ^ 32) = some u ∧ u.resp ≠ .perm :=
  ⟨tRun, .debug, 0x40000220, 0xFF01FF03, (tRun.setCredits 4 0x4000 1).writeOutcfg 0xFF01FF03, by decide +kernel⟩

theorem witness_HubRequests_13 : ∃ (s : State) (ini : Initiator) (a : Nat) (n : Nat) (v : DWord),
    s.hubStopped = false ∧ s.rst.safe = none ∧ (n = 1 ∨ n = 2 ∨ n = 8) ∧ a % n = 0 ∧ (0x40000000 ≤ a ∧ a < 0x40100000) ∧ (ini = .lanes ∨ ini = .debug) ∧ (s.attrs a).wr = true ∧ s.secondBank a = false ∧ s.hubIsolated a = false ∧ s.hubQuiet a = false ∧ s.waitingAt (targetNo a) = [] ∧ s.creditsUsed (initNo ini) (targetNo a) < 8 ∧ mdPort a = none :=
  ⟨tRun, .debug, 0x40020004, 1, 1, by decide +kernel⟩

theorem witness_HubRequests_14 : ∃ (s : State) (ini : Initiator) (a : Nat) (v : DWord),
    s.hubStopped = false ∧ s.rst.safe = none ∧ a % 4 = 0 ∧ (0x40000000 ≤ a ∧ a < 0x40100000) ∧ (ini = .lanes ∨ ini = .debug) ∧ (s.attrs a).wr = true ∧ s.secondBank a = false ∧ s.hubIsolated a = true ∧ s.hubQuiet a = false ∧ s.waitingAt (targetNo a) = [] ∧ mdPort a = none :=
  ⟨tRun.fset (gateF 0x0F) 0, .debug, 0x400B0000, 1, by decide +kernel⟩

theorem witness_FlashReads_1 : ∃ (s : State) (i : Initiator) (o : Nat) (n : Nat),
    xspiInit i = true ∧ s.board.density ≤ 8 ∧ o + n ≤ 2 ^ s.board.density * 0x100000 ∧ s.flc.running = none :=
  ⟨tRun.flashProgram 0 [0x5A, 0x12, 0x34, 0x81], .boot, 0, 4, by decide +kernel⟩

theorem witness_FlashReads_2 : ∃ (s : State) (i : Initiator) (o : Nat) (n : Nat),
    (2 ^ s.board.density * 0x100000 < o + n ∨ xspiInit i = false) :=
  ⟨tRun, .lanes, 0x10000000, 4, by decide +kernel⟩

theorem witness_FlashReads_3 : ∃ (s : State) (i : Initiator) (o : Nat) (n : Nat) (op : FlashOp),
    xspiInit i = true ∧ s.board.density ≤ 8 ∧ o + n ≤ 2 ^ s.board.density * 0x100000 ∧ s.flc.running = some op ∧ s.flag BOOT_XSPI_SUSPEND = false :=
  ⟨{ tRun with flc := { tRun.flc with running := some (.eraseSector 0 0) } }, .lanes, 0, 8, .eraseSector 0 0, by decide +kernel⟩

theorem witness_FlashReads_4 : ∃ (s : State),
    s.memx.hubQ.find? (fun i => i.req.addr / 0x10000000 = 7) = none :=
  ⟨tRun, by decide +kernel⟩

theorem witness_FlashReads_5 : ∃ (s : State) (i : HubItem),
    s.memx.hubQ.find? (fun i => i.req.addr / 0x10000000 = 7) = some i ∧ i.req.write = false ∧ i.kind ≠ 9 ∧ i.named = false ∧ i.lanes ≠ [] :=
  ⟨{ tRun with memx := { tRun.memx with hubQ := [{ req := { init := .lanes, write := false, addr := 0x70000008, size := 8, data := 0, tag := 0 }, named := false, kind := 8, mask := 255, seq := 5, lanes := [.a, .b, .c] }] } }, { req := { init := .lanes, write := false, addr := 0x70000008, size := 8, data := 0, tag := 0 }, named := false, kind := 8, mask := 255, seq := 5, lanes := [.a, .b, .c] }, by decide +kernel⟩

theorem witness_FlashReads_6 : ∃ (s : State) (i : HubItem),
    s.memx.hubQ.find? (fun i => i.req.addr / 0x10000000 = 7) = some i ∧ i.kind ≠ 9 ∧ i.named = true :=
  ⟨{ tRun with memx := { tRun.memx with hubQ := [busItem { init := .boot, write := false, addr := 0x70000008, size := 4, data := 0, tag := 9 }] } }, busItem { init := .boot, write := false, addr := 0x70000008, size := 4, data := 0, tag := 9 }, by decide +kernel⟩

theorem witness_FlashReads_8 : ∃ (s : State) (tn : Nat) (i : HubItem),
    s.hubNext tn = some i ∧ i.kind ≠ 9 ∧ i.named = true :=
  ⟨{ tRun with memx := { tRun.memx with hubQ := [busItem { init := .engine, write := false, addr := 0x20000008, size := 4, data := 0, tag := 9 }] } }, 2, busItem { init := .engine, write := false, addr := 0x20000008, size := 4, data := 0, tag := 9 }, by decide +kernel⟩

theorem witness_FlashReads_9 : ∃ (s : State) (tn : Nat) (i : HubItem),
    s.hubNext tn = some i ∧ i.kind ≠ 9 ∧ i.named = false ∧ i.lanes ≠ [] ∧ i.req.write = false :=
  ⟨{ tRun with memx := { tRun.memx with hubQ := [{ req := { init := .lanes, write := false, addr := 0x20000008, size := 8, data := 0, tag := 0 }, named := false, kind := 8, mask := 255, seq := 5, lanes := [.a, .b, .c] }] } }, 2, { req := { init := .lanes, write := false, addr := 0x20000008, size := 8, data := 0, tag := 0 }, named := false, kind := 8, mask := 255, seq := 5, lanes := [.a, .b, .c] }, by decide +kernel⟩

theorem witness_FlashReads_10 : ∃ (s : State) (again : Bool) (n : Nat),
    1 ≤ s.fget BOOT_STAT_PHASE ∧ s.fget BOOT_STAT_PHASE ≤ 6 ∧ n = (if again then s.flc.timeouts else 0) ∧ n < 3 :=
  ⟨{ tRun.fset BOOT_STAT_PHASE 6 with flc := { tRun.flc with timeouts := 3 } }, false, 0, by decide +kernel⟩

theorem witness_FlashReads_11 : ∃ (s : State),
    1 ≤ s.fget BOOT_STAT_PHASE ∧ s.fget BOOT_STAT_PHASE ≤ 6 ∧ 3 ≤ s.flc.timeouts :=
  ⟨{ tRun with flc := { tRun.flc with timeouts := 3 } }.fset BOOT_STAT_PHASE 1, by decide +kernel⟩

theorem witness_FlashReads_12 : ∃ (s : State),
    s.boot.dirOk = true :=
  ⟨{ tRun with boot := { tRun.boot with dirOk := true } }, by decide +kernel⟩

theorem witness_FlashReads_13 : ∃ (s : State),
    s.boot.dirOk = false :=
  ⟨tRun, by decide +kernel⟩

theorem witness_StartUpPhases_1 : ∃ (s : State) (ok : Bool),
    s.fget BOOT_STAT_PHASE = 2 ∧ s.dir.isSome = true ∧ s.slotValid false = true ∧ s.slotValid true = false ∧ wordSet (s.page false) 0xF08 = true ∧ s.boot.cand = [] :=
  ⟨tFlk.fset BOOT_STAT_PHASE 2, true, by decide +kernel, by rw [fset_dir]; exact tFlk_dir, by rw [fset_slotValid]; exact tFlk_slot, by rw [fset_slotValid]; exact tFlk_other, by rw [fset_page]; exact tFlk_conf, by decide +kernel⟩

theorem witness_StartUpPhases_2 : ∃ (s : State) (ok : Bool),
    s.fget BOOT_STAT_PHASE = 2 :=
  ⟨tFlk.fset BOOT_STAT_PHASE 2, false, by decide +kernel⟩

theorem witness_StartUpPhases_3 : ∃ (s : State) (ok : Bool),
    s.fget BOOT_STAT_PHASE = 2 ∧ s.dir.isSome = true ∧ s.slotValid false = false ∧ s.slotValid true = false ∧ s.boot.cand = [] :=
  ⟨(tFlk.flashProgram 0x10000 [0, 0, 0, 0]).fset BOOT_STAT_PHASE 2, true, by decide +kernel⟩

theorem witness_StartUpPhases_4 : ∃ (s : State) (ok : Bool),
    s.fget BOOT_STAT_PHASE = 2 ∧ s.dir.isNone = true :=
  ⟨tRun.fset BOOT_STAT_PHASE 2, true, by decide +kernel⟩

theorem witness_StartUpPhases_5 : ∃ (s : State) (ok : BitVec 4) (k : CoreId),
    s.fget BOOT_STAT_PHASE = 3 ∧ ok.getLsbD k.num = true ∧ s.flag (retiredF k) = false ∧ s.fget (pstat k.paddock) ≠ 0 ∧ s.fget ⟨0x40030000, 11, 1⟩ = 0 ∧ s.fget (pstat .common) = 2 :=
  ⟨(((tRun.memPut 0xEFFFFFFF [7, 8]).fset BOOT_STAT_PHASE 3).fset (pstat .common) 2).fset (pstat .coreD) 2, 8, .d, by decide +kernel⟩

theorem witness_StartUpPhases_6 : ∃ (s : State) (ok : BitVec 4) (a : Bool) (b : Bool),
    s.fget BOOT_STAT_PHASE = 3 :=
  ⟨((tRun.memPut 0xEFFFFFFF [7, 8]).fset BOOT_STAT_PHASE 3).fset (pstat .coreD) 2, 8, true, false, by decide +kernel⟩

theorem witness_StartUpPhases_7 : ∃ (s : State) (ok : BitVec 4) (b : Bool),
    s.fget BOOT_STAT_PHASE = 3 :=
  ⟨tRun.fset BOOT_STAT_PHASE 3, 0xF, true, by decide +kernel⟩

theorem witness_StartUpPhases_8 : ∃ (s : State) (b : Bool) (g : Img) (ok : Bool) (cf : BitVec 4),
    s.fget BOOT_STAT_PHASE = 4 ∧ s.flag BOOT_STAT_SLOT = b ∧ s.loadImg b = some g ∧ g.set.heldRw = [] :=
  by
  obtain ⟨m, h⟩ := tFlk_img
  refine ⟨tFlk.fset BOOT_STAT_PHASE 4, false, tLoaded m, true, 2, by decide +kernel, by decide +kernel, by rw [fset_loadImg]; exact h, ?_⟩
  show tImg.set.rwEntries = []
  decide +kernel

theorem witness_StartUpPhases_9 : ∃ (s : State) (b : Bool) (g : Img) (agree : Bool) (ok : Bool) (cf : BitVec 4),
    s.fget BOOT_STAT_PHASE = 4 ∧ s.flag BOOT_STAT_SLOT = b ∧ s.loadImg b = some g ∧ (s.flashAnswered.rwEntries g.set.heldRw).2 = true :=
  by
  obtain ⟨m, h⟩ := tFlk_img
  refine ⟨tFlk.fset BOOT_STAT_PHASE 4, false, tLoaded m, false, true, 2, by decide +kernel, by decide +kernel, by rw [fset_loadImg]; exact h, ?_⟩
  show (State.rwEntries (State.flashAnswered (tFlk.fset BOOT_STAT_PHASE 4)) tImg.set.rwEntries).2 = true
  decide +kernel

theorem witness_StartUpPhases_10 : ∃ (s : State) (b : Bool) (ok : Bool) (a : Bool) (cf : BitVec 4),
    s.fget BOOT_STAT_PHASE = 4 ∧ s.flag BOOT_STAT_SLOT = b ∧ s.loadImg b = none :=
  ⟨tBad.fset BOOT_STAT_PHASE 4, false, false, true, 0, by decide +kernel⟩

theorem witness_StartUpPhases_11 : ∃ (s : State) (a : Bool) (b : Bool) (us : List Nat),
    s.fget BOOT_STAT_PHASE = 5 :=
  ⟨{ tRun with boot := { tRun.boot with fieldTries := 1 } }.fset BOOT_STAT_PHASE 5, true, false, [0x39, 0x28], by decide +kernel⟩

theorem witness_StartUpPhases_12 : ∃ (s : State),
    s.fget FLD_STAT_LINK = 1 ∧ s.flogicUp = true ∧ s.link.toField = [] ∧ s.fd.loadOk = true :=
  ⟨(({ tRun with fd := { tRun.fd with loadOk := true }, boot := { tRun.boot with fieldTries := 1 }, phys := { tRun.phys with ok := 0xFF } }.fset FLD_STAT_LINK 1).fset (pstat .flogic) 2), by decide +kernel⟩

theorem witness_StartUpPhases_13 : ∃ (s : State) (ok : Bool),
    s.fget FLD_STAT_LINK = 1 ∧ s.flogicUp = true ∧ s.link.toField = [] ∧ (s.fd.loadOk = false ∨ ok = false) ∧ s.boot.fieldTries = 0 :=
  ⟨(({ tRun with fd := { tRun.fd with loadOk := true }, boot := { tRun.boot with fieldTries := 0 }, phys := { tRun.phys with ok := 0xFF } }.fset FLD_STAT_LINK 1).fset (pstat .flogic) 2), false, by decide +kernel⟩

theorem witness_StartUpPhases_14 : ∃ (s : State) (ok : Bool),
    s.fget FLD_STAT_LINK = 1 ∧ s.flogicUp = true ∧ s.link.toField = [] ∧ (s.fd.loadOk = false ∨ ok = false) ∧ s.boot.fieldTries ≠ 0 :=
  ⟨(({ tRun with fd := { tRun.fd with loadOk := false }, boot := { tRun.boot with fieldTries := 1 }, phys := { tRun.phys with ok := 0xFF } }.fset FLD_STAT_LINK 1).fset (pstat .flogic) 2), true, by decide +kernel⟩

theorem witness_StartUpPhases_15 : ∃ (s : State),
    s.fget BOOT_STAT_PHASE = 6 ∧ (s.healthy .a && s.healthy .b && s.healthy .c) = true ∧ s.fget (pstat .common) = 2 ∧ (∀ l : LaneId, s.fget (laneCoreF l) = l.num) ∧ (∀ l : LaneId, s.fget (laneStateF l) ≠ 2) ∧ s.boot.shepOk = 3 ∧ s.fget ⟨0x40030000, 11, 1⟩ = 0 ∧ s.boot.act.safety = false ∧ s.boot.act.lockFlag = true ∧ s.boot.act.toolOk = true ∧ s.fget SYS_RSTSTAT_TRIM_FAULT = 0 ∧ s.flogicUp = true ∧ s.fpowerUp = true ∧ s.fget FLD_STAT_LINK = 2 ∧ s.fget TRI_MODE_CFG = 0 :=
  ⟨(((((((((({ tRun with boot := { tRun.boot with act := { tRun.boot.act with lockFlag := true, toolOk := true }, shepOk := 3, coreOk := 0xF }, phys := { tRun.phys with ok := 0xFF } }.fset BOOT_STAT_PHASE 6).fset (pstat .coreA) 2).fset (pstat .coreB) 2).fset (pstat .coreC) 2).fset (pstat .flogic) 2).fset (pstat .fpower) 2).fset FLD_STAT_LINK 2).fset (laneCoreF .b) 1).fset (laneCoreF .c) 2).fset (pstat .common) 2), by
    repeat' refine And.intro ?_ ?_
    all_goals first | decide +kernel | (intro m; cases m <;> decide +kernel)⟩

theorem witness_StartUpPhases_16 : ∃ (s : State) (m : List Nat) (n : List Nat),
    s.fget BOOT_STAT_PHASE = 6 ∧ s.boot.act.safety = false ∧ s.boot.shepOk = 3 ∧ s.healthyCores ≠ [] ∧ s.fget ⟨0x40030000, 11, 1⟩ = 0 ∧ s.fget (pstat .common) = 2 :=
  ⟨(((((((((({ tRun with boot := { tRun.boot with act := { tRun.boot.act with lockFlag := true, toolOk := true }, shepOk := 3, coreOk := 0xF }, phys := { tRun.phys with ok := 0xFF } }.fset BOOT_STAT_PHASE 6).fset (pstat .coreA) 2).fset (pstat .coreB) 2).fset (pstat .coreC) 2).fset (pstat .flogic) 2).fset (pstat .fpower) 2).fset FLD_STAT_LINK 2).fset (laneCoreF .b) 1).fset (laneCoreF .c) 2).fset (pstat .common) 2), [4, 7, 99], [4], by decide +kernel⟩

theorem witness_StartUpPhases_17 : ∃ (s : State) (m : List Nat) (n : List Nat),
    s.fget BOOT_STAT_PHASE = 6 ∧ s.boot.act.safety = false ∧ (s.boot.shepOk ≠ 3 ∨ s.healthyCores = [] ∨ s.fget ⟨0x40030000, 11, 1⟩ = 1 ∨ s.fget (pstat .common) ≠ 2) :=
  ⟨((((((((((({ tRun with boot := { tRun.boot with act := { tRun.boot.act with lockFlag := true, toolOk := true }, shepOk := 3, coreOk := 0xF }, phys := { tRun.phys with ok := 0xFF } }.fset BOOT_STAT_PHASE 6).fset (pstat .coreA) 2).fset (pstat .coreB) 2).fset (pstat .coreC) 2).fset (pstat .flogic) 2).fset (pstat .fpower) 2).fset FLD_STAT_LINK 2).fset (laneCoreF .b) 1).fset (laneCoreF .c) 2).fset (pstat .common) 2)).fset (pstat .common) 1, [4], [], by decide +kernel⟩

theorem witness_StartUpPhases_18 : ∃ (s : State) (m : List Nat) (n : List Nat),
    s.fget BOOT_STAT_PHASE = 6 ∧ s.boot.act.safety = true ∧ s.flogicUp = false :=
  ⟨{ tRun with boot := { tRun.boot with act := { tRun.boot.act with safety := true } } }.fset BOOT_STAT_PHASE 6, [1], [], by decide +kernel⟩

theorem witness_StartUpPhases_19 : ∃ (s : State) (a : Bool) (b : Bool) (c : Bool) (v : BitVec 4) (w : BitVec 4) (us : List Nat),
    s.fget BOOT_STAT_PHASE = 7 :=
  ⟨tRun.fset BOOT_STAT_PHASE 7, true, true, false, 1, 2, [], by decide +kernel⟩

theorem witness_ShadowLoads_1 : ∃ (s : State) (b : Bool),
    s.fget BOOT_SSTAT_BUSY = 0 ∧ s.fget BOOT_SSTAT_CONFIRMED = 1 ∧ s.slotValid b = true ∧ s.boot.armed = false :=
  ⟨tFlk.fset BOOT_SSTAT_CONFIRMED 1, false, by decide +kernel, by decide +kernel, by rw [fset_slotValid]; exact tFlk_slot, by decide +kernel⟩

theorem witness_ShadowLoads_2 : ∃ (s : State) (b : Bool),
    s.fget BOOT_SSTAT_BUSY = 1 :=
  ⟨tRun.fset BOOT_SSTAT_BUSY 1, true, by decide +kernel⟩

theorem witness_ShadowLoads_3 : ∃ (s : State) (b : Bool),
    s.fget BOOT_SSTAT_BUSY = 0 ∧ s.fget BOOT_SSTAT_CONFIRMED = 0 :=
  ⟨tRun, false, by decide +kernel⟩

theorem witness_ShadowLoads_4 : ∃ (s : State) (b : Bool),
    s.fget BOOT_SSTAT_BUSY = 0 ∧ s.fget BOOT_SSTAT_CONFIRMED = 1 ∧ s.slotValid b = false :=
  ⟨tRun.fset BOOT_SSTAT_CONFIRMED 1, false, by decide +kernel⟩

theorem witness_ShadowLoads_5 : ∃ (s : State) (b : Bool),
    s.fget BOOT_SSTAT_BUSY = 0 ∧ s.fget BOOT_SSTAT_CONFIRMED = 1 ∧ s.slotValid b = true ∧ s.boot.armed = true :=
  ⟨{ tFlk with boot := { tFlk.boot with armed := true } }.fset BOOT_SSTAT_CONFIRMED 1, false, by decide +kernel, by decide +kernel,
   by rw [armed_slotValid]; exact tFlk_slot, by decide +kernel⟩

theorem witness_ShadowLoads_6 : ∃ (s : State) (k : BitVec 8) (b : Bool),
    k ≠ 0x5A :=
  ⟨tRun, 0xA5, true, by decide +kernel⟩

theorem witness_ShadowLoads_7 : ∃ (s : State) (b : Bool),
    s.boot.loading = some b :=
  ⟨{ tFlk with boot := { tFlk.boot with loading := some false } }.fset BOOT_SSTAT_BUSY 1, false, by decide +kernel⟩

theorem witness_ShadowLoads_8 : ∃ (s : State),
    s.boot.loading = none :=
  ⟨tRun.fset BOOT_SSTAT_READY 1, by decide +kernel⟩

theorem witness_ShadowLoads_9 : ∃ (s : State) (b : Bool) (g : Img) (agree : Bool) (cf : BitVec 4),
    s.boot.loading = some b ∧ s.loadImg b = some g ∧ dataOk s.boot.act g.set = true ∧ primesOk s.boot.act g.set = true ∧ (State.rwEntries { s.lower BOOT_SSTAT_BUSY with boot := { s.boot with loading := none } } g.set.heldRw).2 = true ∧ s.loadCores.all (fun k => !cf.getLsbD k.num) = true :=
  by
  obtain ⟨m, h⟩ := tFlk_img
  refine ⟨{ tFlk with boot := { tFlk.boot with loading := some false } }, false, tLoaded m, true, 1, rfl, by rw [loading_loadImg]; exact h, rfl, rfl, ?_, by decide +kernel⟩
  show (State.rwEntries { State.lower ({ tFlk with boot := { tFlk.boot with loading := some false } }) BOOT_SSTAT_BUSY with boot := { tFlk.boot with loading := none } } tImg.set.rwEntries).2 = true
  decide +kernel

theorem witness_ShadowLoads_10 : ∃ (s : State) (b : Bool) (agree : Bool) (cf : BitVec 4),
    s.boot.loading = some b ∧ s.loadImg b = none :=
  ⟨{ tBad with boot := { tBad.boot with loading := some false } }, false, false, 3, by decide +kernel⟩

theorem witness_ShadowLoads_11 : ∃ (s : State) (b : Bool) (agree : Bool) (g : Img) (cf : BitVec 4),
    s.boot.loading = some b ∧ s.loadImg b = some g ∧ (dataOk s.boot.act g.set = false ∨ primesOk s.boot.act g.set = false ∨ s.loadCores.any (fun k => cf.getLsbD k.num) = true) :=
  by
  obtain ⟨m, h⟩ := tFlk_img
  exact ⟨({ tFlk with boot := { tFlk.boot with loading := some false } }).fset (pstat .coreC) 2, false, true, tLoaded m, 4, rfl, by rw [fset_loadImg, loading_loadImg]; exact h, .inr (.inr (by decide +kernel))⟩

theorem witness_ShadowLoads_12 : ∃ (s : State) (agree : Bool) (cf : BitVec 4),
    s.boot.loading = none :=
  ⟨tRun, true, 0, by decide +kernel⟩

theorem witness_SwapRequests_1 : ∃ (s : State) (ok : Bool),
    s.swapRefused = false :=
  ⟨((tRun.fset BOOT_SSTAT_READY 1).fset CYC_XSTAT_TRIAL_RUN 1), true, by decide +kernel⟩

theorem witness_SwapRequests_2 : ∃ (s : State) (ok : Bool),
    s.swapRefused = true ∧ s.shadowUsedUp = false :=
  ⟨tRun, true, by decide +kernel⟩

theorem witness_SwapRequests_3 : ∃ (s : State) (k : BitVec 8) (ok : Bool),
    k ≠ 0xC3 :=
  ⟨tRun, 0xC2, true, by decide +kernel⟩

theorem witness_SwapRequests_4 : ∃ (s : State) (ok : Bool),
    wordSet (s.page s.boot.act.slot) 0xF08 = true ∧ s.boot.armed = false :=
  ⟨tFlk.fset CYC_XSTAT_TRIAL_RUN 1, true, by rw [show (tFlk.fset CYC_XSTAT_TRIAL_RUN 1).boot = tFlk.boot from rfl, fset_page]; exact tFlk_conf, by decide +kernel⟩

theorem witness_SwapRequests_5 : ∃ (s : State) (ok : Bool),
    wordSet (s.page s.boot.act.slot) 0xF08 = false ∧ s.boot.armed = false :=
  ⟨tRun.fset CYC_XSTAT_TRIAL_RUN 1, true, by rw [show (tRun.fset CYC_XSTAT_TRIAL_RUN 1).boot = tRun.boot from rfl, fset_page, wordSet_page]; decide +kernel, by decide +kernel⟩

theorem witness_SwapRequests_7 : ∃ (s : State),
    s.fget CYC_XSTAT_TRIAL_RUN = 1 ∧ (s.lower CYC_XSTAT_TRIAL_RUN).swapRefused = false :=
  ⟨((tRun.fset BOOT_SSTAT_READY 1).fset CYC_XSTAT_TRIAL_RUN 1), by decide +kernel⟩

theorem witness_SwapRequests_8 : ∃ (s : State),
    s.fget CYC_XSTAT_TRIAL_RUN = 0 :=
  ⟨tRun, by decide +kernel⟩

theorem witness_Voting_1 : ∃ (s : State) (l : LaneId) (x : Txn) (xs : List Txn),
    s.votes l = true ∧ (s.lane l).out = x :: xs ∧ x.kind.toNat < 5 ∧ s.triad.wins = [] ∧ 2 ≤ s.voting.length ∧ (∀ m : LaneId, (s.lane m).exec ≠ .toSafe) :=
  ⟨{ tRun with laneB := { tLane with out := [{ kind := 0, addr := 0x40000000, data := 7, mask := 255, poison := false, seq := 5, held := false }] }, triad := { tRun.triad with wins := [] } }, .b, { kind := 0, addr := 0x40000000, data := 7, mask := 255, poison := false, seq := 5, held := false }, [], by
    repeat' refine And.intro ?_ ?_
    all_goals first | decide +kernel | (intro m; cases m <;> decide +kernel)⟩

theorem witness_Voting_2 : ∃ (s : State) (l : LaneId) (m : LaneId) (x : Txn) (xs : List Txn),
    s.votes l = true ∧ s.votes m = true ∧ l ≠ m ∧ (s.lane l).out = x :: xs ∧ x.poison = false ∧ s.triad.wins = [{ seq := x.seq, arr := [(m, x)], arr2 := [(m, x)], verdict := none, made := none, released := false }] ∧ (∀ m : LaneId, (s.lane m).exec ≠ .toSafe) :=
  ⟨{ tRun with laneC := { tLane with out := [{ kind := 8, addr := 0x40000000, data := 7, mask := 255, poison := false, seq := 5, held := false }] }, triad := { tRun.triad with wins := [{ seq := 5, arr := [(.a, { kind := 8, addr := 0x40000000, data := 7, mask := 255, poison := false, seq := 5, held := false })], arr2 := [(.a, { kind := 8, addr := 0x40000000, data := 7, mask := 255, poison := false, seq := 5, held := false })], verdict := none, made := none, released := false }] } }, .c, .a, { kind := 8, addr := 0x40000000, data := 7, mask := 255, poison := false, seq := 5, held := false }, [], by
    repeat' refine And.intro ?_ ?_
    all_goals first | decide +kernel | (intro m; cases m <;> decide +kernel)⟩

theorem witness_Voting_3 : ∃ (s : State) (l : LaneId) (x : Txn) (y : Txn) (xs : List Txn) (arr : List (LaneId × Txn)),
    (∀ m : LaneId, s.votes m = true) ∧ (s.lane l).out = x :: xs ∧ y.agrees x = false ∧ x.poison = false ∧ arr.all (fun p => p.2.agrees y && p.1 ≠ l) = true ∧ 2 ≤ arr.length ∧ s.triad.wins = [{ seq := x.seq, arr := arr, arr2 := arr, verdict := some { txn := y, split := false, exchanged := false }, made := none, released := false }] ∧ s.wear.history = [] ∧ 2 ≤ s.fget TRI_RETIRE_COUNT ∧ (∀ m : LaneId, (s.lane m).exec ≠ .toSafe) :=
  ⟨{ tRun with laneC := { tLane with out := [{ kind := 0, addr := 0x40000000, data := 8, mask := 255, poison := false, seq := 5, held := false }] }, triad := { tRun.triad with wins := [{ seq := 5, arr := [(.a, { kind := 0, addr := 0x40000000, data := 7, mask := 255, poison := false, seq := 5, held := false }), (.b, { kind := 0, addr := 0x40000000, data := 7, mask := 255, poison := false, seq := 5, held := false })], arr2 := [(.a, { kind := 0, addr := 0x40000000, data := 7, mask := 255, poison := false, seq := 5, held := false }), (.b, { kind := 0, addr := 0x40000000, data := 7, mask := 255, poison := false, seq := 5, held := false })], verdict := (some { txn := { kind := 0, addr := 0x40000000, data := 7, mask := 255, poison := false, seq := 5, held := false }, split := false, exchanged := false }), made := none, released := false }] } }.fset TRI_RETIRE_COUNT 3, .c, { kind := 0, addr := 0x40000000, data := 8, mask := 255, poison := false, seq := 5, held := false }, { kind := 0, addr := 0x40000000, data := 7, mask := 255, poison := false, seq := 5, held := false }, [], [(.a, { kind := 0, addr := 0x40000000, data := 7, mask := 255, poison := false, seq := 5, held := false }), (.b, { kind := 0, addr := 0x40000000, data := 7, mask := 255, poison := false, seq := 5, held := false })], by
    repeat' refine And.intro ?_ ?_
    all_goals first | decide +kernel | (intro m; cases m <;> decide +kernel)⟩

theorem witness_Voting_4 : ∃ (s : State) (l : LaneId) (x : Txn) (xs : List Txn),
    s.votes l = true ∧ (s.lane l).out = x :: xs ∧ s.skewUsed l < 16 :=
  ⟨{ tRun with laneA := { tLane with out := [{ kind := 3, addr := 2, data := 7, mask := 255, poison := false, seq := 5, held := false }] }, triad := { tRun.triad with wins := [{ seq := 5, arr := [(.b, { kind := 3, addr := 2, data := 7, mask := 255, poison := false, seq := 5, held := false })], arr2 := [(.b, { kind := 3, addr := 2, data := 7, mask := 255, poison := false, seq := 5, held := false })], verdict := none, made := none, released := false }] } }, .a, { kind := 3, addr := 2, data := 7, mask := 255, poison := false, seq := 5, held := false }, [], by decide +kernel⟩

theorem witness_Voting_5 : ∃ (s : State) (l : LaneId) (fl : List (Bool × Nat)),
    ((s.lane l).out = [] ∨ 16 ≤ s.skewUsed l) :=
  ⟨tRun, .b, [(false, 9)], by decide +kernel⟩

theorem witness_Voting_6 : ∃ (s : State) (l : LaneId) (x : Txn) (xs : List Txn) (b : Bool) (n : Nat),
    (s.lane l).out = x :: xs ∧ s.skewUsed l < 16 ∧ n < 150 :=
  ⟨{ tRun with laneC := { tLane with out := [{ kind := 0, addr := 0x40000000, data := 7, mask := 255, poison := false, seq := 5, held := false }] }, triad := { tRun.triad with wins := [] } }, .c, { kind := 0, addr := 0x40000000, data := 7, mask := 255, poison := false, seq := 5, held := false }, [], true, 149, by decide +kernel⟩

theorem witness_Voting_7 : ∃ (s : State) (l : LaneId) (x : Txn) (xs : List Txn),
    s.votes l = false ∧ s.indep l = true ∧ (s.lane l).out = x :: xs ∧ (x.kind.toNat = 8 ∨ x.kind.toNat = 9) ∧ x.poison = false ∧ x.held = false ∧ s.mode = 3 ∧ s.triad.wins.length < 16 ∧ (∀ m : LaneId, (s.lane m).exec ≠ .toSafe) :=
  ⟨{ tRun with laneC := { tLane with out := [{ kind := 8, addr := 0x40000000, data := 7, mask := 255, poison := false, seq := 5, held := false }] }, triad := { tRun.triad with wins := [] } }.fset TRI_MODE_CUR 3 |>.fset (laneStateF .c) 3, .c, { kind := 8, addr := 0x40000000, data := 7, mask := 255, poison := false, seq := 5, held := false }, [], by
    repeat' refine And.intro ?_ ?_
    all_goals first | decide +kernel | (intro m; cases m <;> decide +kernel)⟩

theorem witness_Voting_8 : ∃ (s : State) (l : LaneId) (m : LaneId) (n : LaneId) (x : Txn),
    (∀ j : LaneId, s.votes j = true) ∧ l ≠ m ∧ l ≠ n ∧ m ≠ n ∧ x.poison = false ∧ s.triad.wins = [{ seq := x.seq, arr := [(m, x), (n, x)], arr2 := [(m, x), (n, x)], verdict := some { txn := x, split := false, exchanged := false }, made := none, released := false }] ∧ s.wear.history = [] ∧ 2 ≤ s.fget TRI_RETIRE_COUNT ∧ (∀ m : LaneId, (s.lane m).exec ≠ .toSafe) :=
  ⟨{ tRun with triad := { tRun.triad with wins := [{ seq := 5, arr := [(.a, { kind := 0, addr := 0x40000000, data := 7, mask := 255, poison := false, seq := 5, held := false }), (.c, { kind := 0, addr := 0x40000000, data := 7, mask := 255, poison := false, seq := 5, held := false })], arr2 := [(.a, { kind := 0, addr := 0x40000000, data := 7, mask := 255, poison := false, seq := 5, held := false }), (.c, { kind := 0, addr := 0x40000000, data := 7, mask := 255, poison := false, seq := 5, held := false })], verdict := (some { txn := { kind := 0, addr := 0x40000000, data := 7, mask := 255, poison := false, seq := 5, held := false }, split := false, exchanged := false }), made := none, released := false }] } }.fset TRI_RETIRE_COUNT 2, .b, .a, .c, { kind := 0, addr := 0x40000000, data := 7, mask := 255, poison := false, seq := 5, held := false }, by
    repeat' refine And.intro ?_ ?_
    all_goals first | decide +kernel | (intro m; cases m <;> decide +kernel)⟩

theorem witness_Voting_9 : ∃ (s : State) (x : Txn) (arr : List (LaneId × Txn)),
    s.triad.wins = [{ seq := x.seq, arr := arr, arr2 := arr, verdict := some { txn := x, split := false, exchanged := false }, made := none, released := false }] ∧ s.voting.all (fun l => arr.any (fun p => p.1 = l)) = true ∧ arr.all (fun p => p.2.agrees x) = true ∧ agreed (arr.filter (fun p => s.voting.contains p.1)) = some x ∧ (∀ m : LaneId, (s.lane m).exec ≠ .toSafe) :=
  ⟨{ tRun with triad := { tRun.triad with wins := [{ seq := 5, arr := [(.a, { kind := 0, addr := 0x40000000, data := 7, mask := 255, poison := false, seq := 5, held := false }), (.c, { kind := 0, addr := 0x40000000, data := 7, mask := 255, poison := false, seq := 5, held := false }), (.b, { kind := 0, addr := 0x40000000, data := 7, mask := 255, poison := false, seq := 5, held := false })], arr2 := [(.a, { kind := 0, addr := 0x40000000, data := 7, mask := 255, poison := false, seq := 5, held := false }), (.c, { kind := 0, addr := 0x40000000, data := 7, mask := 255, poison := false, seq := 5, held := false }), (.b, { kind := 0, addr := 0x40000000, data := 7, mask := 255, poison := false, seq := 5, held := false })], verdict := (some { txn := { kind := 0, addr := 0x40000000, data := 7, mask := 255, poison := false, seq := 5, held := false }, split := false, exchanged := false }), made := none, released := false }] } }, { kind := 0, addr := 0x40000000, data := 7, mask := 255, poison := false, seq := 5, held := false }, [(.a, { kind := 0, addr := 0x40000000, data := 7, mask := 255, poison := false, seq := 5, held := false }), (.c, { kind := 0, addr := 0x40000000, data := 7, mask := 255, poison := false, seq := 5, held := false }), (.b, { kind := 0, addr := 0x40000000, data := 7, mask := 255, poison := false, seq := 5, held := false })], by
    repeat' refine And.intro ?_ ?_
    all_goals first | decide +kernel | (intro m; cases m <;> decide +kernel)⟩

theorem witness_Voting_10 : ∃ (s : State) (q : BitVec 32) (arr : List (LaneId × Txn)),
    s.triad.wins = [{ seq := q, arr := arr, arr2 := arr, verdict := none, made := none, released := false }] ∧ arr.filter (fun p => s.voting.contains p.1) ≠ [] ∧ agreed (arr.filter (fun p => s.voting.contains p.1)) = none ∧ s.rst.safe = none :=
  ⟨{ tRun with triad := { tRun.triad with wins := [{ seq := 5, arr := [(.a, { kind := 0, addr := 0x40000000, data := 7, mask := 255, poison := false, seq := 5, held := false }), (.c, { kind := 0, addr := 0x40000000, data := 9, mask := 255, poison := false, seq := 5, held := false })], arr2 := [(.a, { kind := 0, addr := 0x40000000, data := 7, mask := 255, poison := false, seq := 5, held := false }), (.c, { kind := 0, addr := 0x40000000, data := 9, mask := 255, poison := false, seq := 5, held := false })], verdict := none, made := none, released := false }] } }, 5, [(.a, { kind := 0, addr := 0x40000000, data := 7, mask := 255, poison := false, seq := 5, held := false }), (.c, { kind := 0, addr := 0x40000000, data := 9, mask := 255, poison := false, seq := 5, held := false })], by decide +kernel⟩

theorem witness_Voting_11 : ∃ (s : State) (x : Txn) (arr : List (LaneId × Txn)),
    s.triad.wins = [{ seq := x.seq, arr := arr, arr2 := arr, verdict := some { txn := x, split := false, exchanged := false }, made := none, released := false }] ∧ s.voting.all (fun l => arr.any (fun p => p.1 = l)) = true ∧ x.kind = 8 ∧ x.held = false ∧ (∀ m : LaneId, (s.lane m).exec ≠ .toSafe) :=
  ⟨{ tRun with triad := { tRun.triad with wins := [{ seq := 5, arr := [(.a, { kind := 8, addr := 0x40000000, data := 7, mask := 255, poison := false, seq := 5, held := false }), (.c, { kind := 8, addr := 0x40000000, data := 7, mask := 255, poison := false, seq := 5, held := false }), (.b, { kind := 8, addr := 0x40000000, data := 7, mask := 255, poison := false, seq := 5, held := false })], arr2 := [(.a, { kind := 8, addr := 0x40000000, data := 7, mask := 255, poison := false, seq := 5, held := false }), (.c, { kind := 8, addr := 0x40000000, data := 7, mask := 255, poison := false, seq := 5, held := false }), (.b, { kind := 8, addr := 0x40000000, data := 7, mask := 255, poison := false, seq := 5, held := false })], verdict := (some { txn := { kind := 8, addr := 0x40000000, data := 7, mask := 255, poison := false, seq := 5, held := false }, split := false, exchanged := false }), made := none, released := false }] } }, { kind := 8, addr := 0x40000000, data := 7, mask := 255, poison := false, seq := 5, held := false }, [(.a, { kind := 8, addr := 0x40000000, data := 7, mask := 255, poison := false, seq := 5, held := false }), (.c, { kind := 8, addr := 0x40000000, data := 7, mask := 255, poison := false, seq := 5, held := false }), (.b, { kind := 8, addr := 0x40000000, data := 7, mask := 255, poison := false, seq := 5, held := false })], by
    repeat' refine And.intro ?_ ?_
    all_goals first | decide +kernel | (intro m; cases m <;> decide +kernel)⟩

theorem witness_Voting_12 : ∃ (s : State) (q : BitVec 32) (w : Win) (v : Verdict),
    s.winAt q = some w ∧ w.verdict = some v ∧ v.exchanged = false ∧ v.split = false :=
  ⟨{ tRun with triad := { tRun.triad with wins := [{ seq := 5, arr := [(.a, { kind := 0, addr := 0x40000000, data := 7, mask := 255, poison := false, seq := 5, held := false }), (.b, { kind := 0, addr := 0x40000000, data := 7, mask := 255, poison := false, seq := 5, held := false })], arr2 := [(.a, { kind := 0, addr := 0x40000000, data := 7, mask := 255, poison := false, seq := 5, held := false }), (.b, { kind := 0, addr := 0x40000000, data := 7, mask := 255, poison := false, seq := 5, held := false })], verdict := (some { txn := { kind := 0, addr := 0x40000000, data := 7, mask := 255, poison := false, seq := 5, held := false }, split := false, exchanged := false }), made := none, released := false }] } }, 5, { seq := 5, arr := [(.a, { kind := 0, addr := 0x40000000, data := 7, mask := 255, poison := false, seq := 5, held := false }), (.b, { kind := 0, addr := 0x40000000, data := 7, mask := 255, poison := false, seq := 5, held := false })], arr2 := [(.a, { kind := 0, addr := 0x40000000, data := 7, mask := 255, poison := false, seq := 5, held := false }), (.b, { kind := 0, addr := 0x40000000, data := 7, mask := 255, poison := false, seq := 5, held := false })], verdict := (some { txn := { kind := 0, addr := 0x40000000, data := 7, mask := 255, poison := false, seq := 5, held := false }, split := false, exchanged := false }), made := none, released := false }, { txn := { kind := 0, addr := 0x40000000, data := 7, mask := 255, poison := false, seq := 5, held := false }, split := false, exchanged := false }, by decide +kernel⟩

theorem witness_Voting_13 : ∃ (s : State) (q : BitVec 32) (w : Win) (v : Verdict) (b : Bool),
    s.winAt q = some w ∧ w.verdict = some v ∧ v.exchanged = false ∧ (v.split = true ∨ b = false) :=
  ⟨{ tRun with triad := { tRun.triad with wins := [{ seq := 5, arr := [(.a, { kind := 0, addr := 0x40000000, data := 7, mask := 255, poison := false, seq := 5, held := false }), (.b, { kind := 0, addr := 0x40000000, data := 7, mask := 255, poison := false, seq := 5, held := false })], arr2 := [(.a, { kind := 0, addr := 0x40000000, data := 7, mask := 255, poison := false, seq := 5, held := false }), (.b, { kind := 0, addr := 0x40000000, data := 7, mask := 255, poison := false, seq := 5, held := false })], verdict := (some { txn := { kind := 0, addr := 0x40000000, data := 7, mask := 255, poison := false, seq := 5, held := false }, split := false, exchanged := false }), made := none, released := false }] } }, 5, { seq := 5, arr := [(.a, { kind := 0, addr := 0x40000000, data := 7, mask := 255, poison := false, seq := 5, held := false }), (.b, { kind := 0, addr := 0x40000000, data := 7, mask := 255, poison := false, seq := 5, held := false })], arr2 := [(.a, { kind := 0, addr := 0x40000000, data := 7, mask := 255, poison := false, seq := 5, held := false }), (.b, { kind := 0, addr := 0x40000000, data := 7, mask := 255, poison := false, seq := 5, held := false })], verdict := (some { txn := { kind := 0, addr := 0x40000000, data := 7, mask := 255, poison := false, seq := 5, held := false }, split := false, exchanged := false }), made := none, released := false }, { txn := { kind := 0, addr := 0x40000000, data := 7, mask := 255, poison := false, seq := 5, held := false }, split := false, exchanged := false }, false, by decide +kernel⟩

theorem witness_Voting_14 : ∃ (s : State) (q : BitVec 32) (w : Win) (v : Verdict) (b : Bool),
    s.winAt q = some w ∧ w.verdict = some v ∧ v.exchanged = false :=
  ⟨{ tRun with triad := { tRun.triad with wins := [{ seq := 5, arr := [], arr2 := [], verdict := (some { txn := { kind := 0, addr := 0x40000000, data := 7, mask := 255, poison := false, seq := 5, held := false }, split := false, exchanged := false }), made := none, released := false }] } }, 5, { seq := 5, arr := [], arr2 := [], verdict := (some { txn := { kind := 0, addr := 0x40000000, data := 7, mask := 255, poison := false, seq := 5, held := false }, split := false, exchanged := false }), made := none, released := false }, { txn := { kind := 0, addr := 0x40000000, data := 7, mask := 255, poison := false, seq := 5, held := false }, split := false, exchanged := false }, true, by decide +kernel⟩

theorem witness_Voting_15 : ∃ (s : State) (q : BitVec 32) (a : Bool) (b : Bool),
    s.winAt q = none :=
  ⟨tRun, 5, true, false, by decide +kernel⟩

theorem witness_ReadsInjectionAndMissingEnd_1 : ∃ (s : State) (l : LaneId) (r : RdResp) (d : GReg) (o : Nat) (n : Nat) (sg : Bool),
    s.triad.resps = [r] ∧ r.lanes = [l] ∧ s.triad.wins = [] ∧ r.twin = (r.code, r.effect, r.data) ∧ r.code = 0 ∧ r.effect = false ∧ (s.lane l).exec = .waitRead r.seq (.load d o n sg) ∧ (s.lane l).prefetch = [] ∧ (n = 1 ∨ n = 2 ∨ n = 4 ∨ n = 8) :=
  ⟨{ tRun with triad := { tRun.triad with resps := [{ seq := 9, lanes := [.b], code := 0, effect := false, data := 0x1122334455667788, twin := (0, false, 0x1122334455667788), addr := 0x20, kind := 8 }] }, laneB := { tLane with exec := .waitRead 9 (.load 3 2 2 true) } }, .b, { seq := 9, lanes := [.b], code := 0, effect := false, data := 0x1122334455667788, twin := (0, false, 0x1122334455667788), addr := 0x20, kind := 8 }, 3, 2, 2, true, by decide +kernel⟩

theorem witness_ReadsInjectionAndMissingEnd_2 : ∃ (s : State) (l : LaneId) (r : RdResp) (d : GReg) (sg : Bool),
    s.triad.resps = [r] ∧ r.lanes = [l] ∧ s.triad.wins = [] ∧ r.twin = (r.code, r.effect, r.data) ∧ r.code = 0 ∧ r.effect = false ∧ (s.lane l).exec = .waitRead r.seq (.item d sg) ∧ (s.lane l).prefetch = [] :=
  ⟨{ tRun with triad := { tRun.triad with resps := [{ seq := 9, lanes := [.c], code := 0, effect := false, data := 0x1F2345678, twin := (0, false, 0x1F2345678), addr := 0x20, kind := 8 }] }, laneC := { tLane with exec := .waitRead 9 (.item 4 true) } }, .c, { seq := 9, lanes := [.c], code := 0, effect := false, data := 0x1F2345678, twin := (0, false, 0x1F2345678), addr := 0x20, kind := 8 }, 4, true, by decide +kernel⟩

theorem witness_ReadsInjectionAndMissingEnd_3 : ∃ (s : State) (l : LaneId) (r : RdResp) (d : GReg),
    s.triad.resps = [r] ∧ r.lanes = [l] ∧ s.triad.wins = [] ∧ r.twin = (r.code, r.effect, r.data) ∧ r.code = 0 ∧ r.effect = false ∧ (s.lane l).exec = .waitRead r.seq (.recv d) ∧ (s.lane l).prefetch = [] :=
  ⟨{ tRun with triad := { tRun.triad with resps := [{ seq := 9, lanes := [.a], code := 0, effect := false, data := 0, twin := (0, false, 0), addr := 0x20, kind := 8 }] }, laneA := { tLane with exec := .waitRead 9 (.recv 4) } }, .a, { seq := 9, lanes := [.a], code := 0, effect := false, data := 0, twin := (0, false, 0), addr := 0x20, kind := 8 }, 4, by decide +kernel⟩

theorem witness_ReadsInjectionAndMissingEnd_4 : ∃ (s : State) (l : LaneId) (r : RdResp) (d : GReg) (o : Nat) (n : Nat) (sg : Bool),
    s.triad.resps = [r] ∧ r.lanes = [l] ∧ s.triad.wins = [] ∧ r.twin = (r.code, r.effect, r.data) ∧ r.code ≠ 0 ∧ (s.lane l).exec = .waitRead r.seq (.load d o n sg) ∧ (s.lane l).prefetch = [] :=
  ⟨{ tRun with triad := { tRun.triad with resps := [{ seq := 9, lanes := [.c], code := 3, effect := false, data := 0x1122334455667788, twin := (3, false, 0x1122334455667788), addr := 0x20, kind := 8 }] }, laneC := { tLane with exec := .waitRead 9 (.load 3 2 2 true) } }, .c, { seq := 9, lanes := [.c], code := 3, effect := false, data := 0x1122334455667788, twin := (3, false, 0x1122334455667788), addr := 0x20, kind := 8 }, 3, 2, 2, true, by decide +kernel⟩

theorem witness_ReadsInjectionAndMissingEnd_5 : ∃ (s : State) (l : LaneId) (r : RdResp),
    s.triad.resps = [r] ∧ r.lanes = [l] ∧ s.triad.wins = [] ∧ r.twin = (r.code, r.effect, r.data) ∧ r.code = 0 ∧ (s.lane l).prefetch = [r.seq] :=
  ⟨{ tRun with triad := { tRun.triad with resps := [{ seq := 9, lanes := [.c], code := 0, effect := true, data := 0x1122334455667788, twin := (0, true, 0x1122334455667788), addr := 0x20, kind := 8 }] }, laneC := { tLane with prefetch := [9] } }, .c, { seq := 9, lanes := [.c], code := 0, effect := true, data := 0x1122334455667788, twin := (0, true, 0x1122334455667788), addr := 0x20, kind := 8 }, by decide +kernel⟩

theorem witness_ReadsInjectionAndMissingEnd_6 : ∃ (s : State) (l : LaneId) (r : RdResp) (b : Bool) (n : Nat),
    s.triad.resps = [r] ∧ r.lanes = [l] ∧ s.triad.wins = [] ∧ r.twin = (r.code, r.effect, r.data) ∧ n < 69 :=
  ⟨{ tRun with triad := { tRun.triad with resps := [{ seq := 9, lanes := [.c], code := 0, effect := false, data := 0x1122334455667788, twin := (0, false, 0x1122334455667788), addr := 0x20, kind := 8 }] }, laneC := { tLane with prefetch := [9] } }, .c, { seq := 9, lanes := [.c], code := 0, effect := false, data := 0x1122334455667788, twin := (0, false, 0x1122334455667788), addr := 0x20, kind := 8 }, false, 68, by decide +kernel⟩

theorem witness_ReadsInjectionAndMissingEnd_7 : ∃ (s : State) (l : LaneId) (fl : List (Bool × Nat)),
    s.triad.resps = [] :=
  ⟨tRun, .a, [], by decide +kernel⟩

theorem witness_ReadsInjectionAndMissingEnd_8 : ∃ (s : State),
    s.triad.injPending = true ∧ (s.fget CYC_STAT_PHASE ≠ 1 ∨ s.triad.endReleased = false) :=
  ⟨{ tRun with triad := { tRun.triad with injPending := true } }.fset TRI_INJ_RT_NEXT 47, by decide +kernel⟩

theorem witness_ReadsInjectionAndMissingEnd_9 : ∃ (s : State) (a : Bool) (b : Bool),
    s.triad.injPending = true ∧ (a && b) = false ∧ s.fget TRI_INJ_RT_NEXT < 48 :=
  ⟨{ tRun with triad := { tRun.triad with injPending := true } }, true, false, by decide +kernel⟩

theorem witness_ReadsInjectionAndMissingEnd_10 : ∃ (s : State) (a : Bool) (b : Bool),
    s.triad.injPending = false :=
  ⟨tRun, true, true, by decide +kernel⟩

theorem witness_ReadsInjectionAndMissingEnd_11 : ∃ (s : State) (l : LaneId),
    s.mode = 2 ∧ s.indep l = true ∧ s.triad.endReleased = true ∧ (s.lane l).over = false ∧ s.triad.injPending = true :=
  ⟨({ tRun with triad := { tRun.triad with injPending := true, endReleased := true } }.fset TRI_MODE_CUR 2).fset (laneStateF .c) 3, .c, by decide +kernel⟩

theorem witness_CycleBoundaries_1 : ∃ (s : State) (ok : Bool),
    s.cyc.stage = 0 ∧ s.rst.active = false ∧ s.clk.hold = false ∧ s.fget BOOT_STAT_PHASE = 7 ∧ s.cyc.started = true ∧ s.fget CYC_STAT_PHASE = 3 ∧ s.boot.armed = false ∧ s.memx.rgnPend = [] :=
  ⟨({ tRun with cyc := { tRun.cyc with started := true, startNs := 1000, limit := 1000, count := 41 }, now := { tRun.now with hubNs := 2001001 } }.fset BOOT_STAT_PHASE 7).fset CYC_STAT_PHASE 3, true, by decide +kernel⟩

theorem witness_CycleBoundaries_2 : ∃ (s : State) (ok : Bool),
    s.cyc.stage = 0 ∧ s.rst.active = false ∧ s.clk.hold = false ∧ s.fget BOOT_STAT_PHASE = 7 ∧ s.cyc.started = false ∧ s.anyService = true ∧ s.rst.safe = none ∧ s.boot.armed = false ∧ s.memx.rgnPend = [] :=
  ⟨{ tRun with boot := { tRun.boot with shepOk := 3, coreOk := 7 } }.fset BOOT_STAT_PHASE 7 |>.fset (pstat .common) 2 |>.fset (pstat .coreA) 2, true, by decide +kernel⟩

theorem witness_CycleBoundaries_3 : ∃ (s : State) (ok : Bool) (sw : Option (Nat × BitVec 2)),
    s.cyc.stage = 0 ∧ s.rst.active = false ∧ s.clk.hold = false ∧ s.fget BOOT_STAT_PHASE = 7 ∧ s.cyc.started = false ∧ s.anyService = false :=
  ⟨tRun.fset BOOT_STAT_PHASE 7, true, none, by decide +kernel⟩

theorem witness_CycleBoundaries_4 : ∃ (s : State) (ok : Bool) (sw : Option (Nat × BitVec 2)),
    (s.cyc.stage ≠ 0 ∨ s.rst.active = true ∨ s.clk.hold = true ∨ s.fget BOOT_STAT_PHASE ≠ 7 ∨ (s.cyc.started = true ∧ s.fget CYC_STAT_PHASE ≠ 3)) :=
  ⟨tRun, true, none, by decide +kernel⟩

theorem witness_CycleBoundaries_5 : ∃ (s : State) (l : LaneId) (k : CoreId),
    s.cyc.stage = 2 ∧ s.cyc.sweepMiss = none ∧ s.fget BOOT_STAT_REFUSE = 0 ∧ s.triad.testing = [(l, k)] ∧ s.boot.armed = false ∧ s.memx.rgnPend = [] ∧ s.triad.cfgReq = none ∧ s.triad.modeReq = none ∧ s.triad.joinWait = [] :=
  ⟨{ tRun with cyc := { tRun.cyc with stage := 2 }, triad := { tRun.triad with testing := [(.b, .b)] } }.fset (laneStateF .b) 1, .b, .b, by decide +kernel⟩

theorem witness_CycleBoundaries_6 : ∃ (s : State) (l : LaneId) (k : CoreId),
    s.cyc.stage = 2 ∧ s.cyc.sweepMiss = none ∧ s.fget BOOT_STAT_REFUSE = 0 ∧ s.triad.testing = [(l, k)] ∧ s.boot.armed = false ∧ s.memx.rgnPend = [] :=
  ⟨{ tRun with cyc := { tRun.cyc with stage := 2 }, triad := { tRun.triad with testing := [(.b, .b)] } }.fset (laneStateF .b) 1, .b, .b, by decide +kernel⟩

theorem witness_CycleBoundaries_7 : ∃ (s : State) (l : LaneId) (k : CoreId),
    s.cyc.stage = 1 ∧ s.cyc.sweepMiss = none ∧ s.triad.testing = [(l, k)] ∧ s.boot.armed = false ∧ s.memx.rgnPend = [] :=
  ⟨{ tRun with cyc := { tRun.cyc with stage := 1 }, triad := { tRun.triad with testing := [(.b, .d)], lost := [.b] } }.fset (laneStateF .b) 2, .b, .d, by decide +kernel⟩

theorem witness_CycleBoundaries_8 : ∃ (s : State),
    s.reserveIdle = true :=
  ⟨((({ tRun with boot := { tRun.boot with coreOk := 0xF } }.fset (pstat .coreD) 2).fset (laneCoreF .b) 1).fset (laneCoreF .c) 2), by decide +kernel⟩

theorem witness_CycleBoundaries_9 : ∃ (s : State),
    s.reserveIdle = false :=
  ⟨tRun, by decide +kernel⟩

theorem witness_CycleBoundaries_10 : ∃ (s : State),
    s.cyc.started = true :=
  ⟨{ tRun with cyc := { tRun.cyc with started := true } }, by decide +kernel⟩

theorem witness_CycleBoundaries_11 : ∃ (s : State),
    s.cyc.started = false :=
  ⟨tRun, by decide +kernel⟩

theorem witness_BarrierLinkFrames_1 : ∃ (s : State) (q : List LinkFrame),
    s.link.toField = .reset :: q ∧ s.flogicUp = true :=
  ⟨tLnk .reset, [], by decide +kernel⟩

theorem witness_BarrierLinkFrames_2 : ∃ (s : State) (q : List LinkFrame),
    s.link.toField = .reset :: q ∧ s.flogicUp = false :=
  ⟨{ tRun with link := { tRun.link with toField := [.reset] } }, [], by decide +kernel⟩

theorem witness_BarrierLinkFrames_3 : ∃ (s : State) (q : List LinkFrame) (m : RegMap) (u : List (Nat × Nat × Nat)),
    s.link.toField = .load m u :: q ∧ s.flogicUp = true :=
  ⟨tLnk (.load [(0x40040000, 5)] [(5, 3, 1)]), [], [(0x40040000, 5)], [(5, 3, 1)], by decide +kernel⟩

theorem witness_BarrierLinkFrames_4 : ∃ (s : State) (q : List LinkFrame) (b : List Byte) (o : OutImg),
    s.flogicUp = true ∧ s.fd.cfgd = true ∧ s.fd.oscBad = false ∧ s.link.toField = .commit b :: q ∧ frameImg 3 b = some o ∧ s.fd.safeLatch = false :=
  ⟨tLnk (.commit (outFrame 3 { seq := 3, val := 0x8001, qg := 0xFFFE, bl := 3, cyc := 9 })), [], outFrame 3 { seq := 3, val := 0x8001, qg := 0xFFFE, bl := 3, cyc := 9 }, { seq := 3, val := 0x8001, qg := 0xFFFE, bl := 3, cyc := 9 }, by decide +kernel⟩

theorem witness_BarrierLinkFrames_5 : ∃ (s : State) (q : List LinkFrame) (b : List Byte) (o : OutImg),
    s.flogicUp = true ∧ s.fd.cfgd = true ∧ s.fd.oscBad = false ∧ s.link.toField = .refresh b :: q ∧ frameImg 4 b = some o ∧ s.fd.safeLatch = false :=
  ⟨tLnk (.refresh (outFrame 4 { seq := 3, val := 0x8001, qg := 0xFFFE, bl := 3, cyc := 9 })), [], outFrame 4 { seq := 3, val := 0x8001, qg := 0xFFFE, bl := 3, cyc := 9 }, { seq := 3, val := 0x8001, qg := 0xFFFE, bl := 3, cyc := 9 }, by decide +kernel⟩

theorem witness_BarrierLinkFrames_6 : ∃ (s : State) (q : List LinkFrame) (b : List Byte) (ok : Bool),
    s.link.toField = .commit b :: q ∧ (frameImg 3 b = none ∨ s.fd.oscBad = true ∨ s.flogicUp = false ∨ s.fd.cfgd = false) :=
  ⟨tLnk (.commit (outFrame 4 { seq := 3, val := 0x8001, qg := 0xFFFE, bl := 3, cyc := 9 })), [], outFrame 4 { seq := 3, val := 0x8001, qg := 0xFFFE, bl := 3, cyc := 9 }, true, by decide +kernel⟩

theorem witness_BarrierLinkFrames_7 : ∃ (s : State) (q : List LinkFrame) (b : List Byte) (ok : Bool),
    s.link.toField = .refresh b :: q ∧ (frameImg 4 b = none ∨ s.fd.oscBad = true ∨ s.flogicUp = false ∨ s.fd.cfgd = false) :=
  ⟨tLnk (.refresh (outFrame 3 { seq := 3, val := 0x8001, qg := 0xFFFE, bl := 3, cyc := 9 })), [], outFrame 3 { seq := 3, val := 0x8001, qg := 0xFFFE, bl := 3, cyc := 9 }, true, by decide +kernel⟩

theorem witness_BarrierLinkFrames_8 : ∃ (s : State) (q : List LinkFrame),
    s.flogicUp = true ∧ s.fd.oscBad = false ∧ s.link.toField = .safe :: q ∧ s.fd.loop ≠ .fault :=
  ⟨tLnk .safe, [], by decide +kernel⟩

theorem witness_BarrierLinkFrames_9 : ∃ (s : State) (q : List LinkFrame) (ok : Bool),
    s.link.toField = .safe :: q ∧ (s.flogicUp = false ∨ s.fd.oscBad = true ∨ ok = false) :=
  ⟨tLnk .safe, [], false, by decide +kernel⟩

theorem witness_BarrierLinkFrames_10 : ∃ (s : State) (ppm : Nat),
    s.flogicUp = true ∧ s.fd.cfgd = true ∧ 50000 < ppm ∧ s.fd.loop ≠ .fault :=
  ⟨tFd (fun f => { f with loop := .closed, hsOn := true, lsOn := true }), 50001, by decide +kernel⟩

theorem witness_BarrierLinkFrames_11 : ∃ (s : State) (ppm : Nat),
    (ppm ≤ 50000 ∨ s.flogicUp = false ∨ s.fd.cfgd = false) :=
  ⟨tFld, 50000, by decide +kernel⟩

theorem witness_BarrierLinkFrames_12 : ∃ (s : State),
    s.link.acked = true ∧ s.clk.hold = false ∧ bitOf (s.fget CLK_GMAP_ISLAND) 8 = true :=
  ⟨{ tFld with link := { tFld.link with acked := true } }.fset CLK_GMAP_ISLAND 0x3FFFF, by decide +kernel⟩

theorem witness_BarrierLinkFrames_13 : ∃ (s : State),
    s.link.acked = false :=
  ⟨tFld, by decide +kernel⟩

theorem witness_BarrierLinkFrames_14 : ∃ (s : State) (m : FieldMeas),
    s.flogicUp = true ∧ s.fd.cfgd = true ∧ s.fd.oscBad = false ∧ m.drift = [] :=
  ⟨tFd (fun f => { f with evts := 5, img := { seq := 3, val := 0x8001, qg := 0xFFFE, bl := 3, cyc := 9 } }), { mv := 24000, tempDc := 300, compared := 3, drift := [] }, by decide +kernel⟩

theorem witness_BarrierLinkFrames_15 : ∃ (s : State) (m : FieldMeas),
    s.flogicUp = true ∧ s.fd.cfgd = true ∧ s.fd.oscBad = false :=
  ⟨tFd (fun f => { f with evts := 5, img := { seq := 3, val := 0x8001, qg := 0xFFFE, bl := 3, cyc := 9 } }), { mv := 24000, tempDc := 300, compared := 3, drift := [(0, 1)] }, by decide +kernel⟩

theorem witness_BarrierLinkFrames_16 : ∃ (s : State) (m : FieldMeas),
    (s.flogicUp = false ∨ s.fd.cfgd = false ∨ s.fd.oscBad = true) :=
  ⟨tRun, { mv := 24000, tempDc := 300, compared := 0, drift := [(0, 1)] }, by decide +kernel⟩

theorem witness_BarrierLinkFrames_17 : ∃ (s : State) (fr : StatusFrame) (q : List StatusFrame),
    s.link.toComp = fr :: q ∧ s.clk.hold = false ∧ s.rst.active = false ∧ fr.subs = [] :=
  ⟨{ tFld with link := { tFld.link with toComp := [{ words := [(0x40040010, 6)], diGood := 1, timeout := true, safeLatch := false, evts := 0x201, subs := [] }] } }, { words := [(0x40040010, 6)], diGood := 1, timeout := true, safeLatch := false, evts := 0x201, subs := [] }, [], by decide +kernel⟩

theorem witness_BarrierLinkFrames_18 : ∃ (s : State) (fr : StatusFrame) (q : List StatusFrame) (e : Nat × Nat × Nat),
    s.link.toComp = fr :: q ∧ s.clk.hold = false ∧ s.rst.active = false ∧ fr.subs = [e] :=
  ⟨{ tFld with link := { tFld.link with toComp := [{ words := [(0x40040010, 6)], diGood := 1, timeout := true, safeLatch := false, evts := 0x201, subs := [(5, 3, 1)] }] } }, { words := [(0x40040010, 6)], diGood := 1, timeout := true, safeLatch := false, evts := 0x201, subs := [(5, 3, 1)] }, [], (5, 3, 1), by decide +kernel⟩

theorem witness_BarrierLinkFrames_19 : ∃ (s : State) (fr : StatusFrame) (q : List StatusFrame) (ok : Bool),
    s.link.toComp = fr :: q ∧ (s.clk.hold = true ∨ s.rst.active = true) :=
  ⟨{ State.reset with link := { tFld.link with toComp := [{ words := [], diGood := 1, timeout := true, safeLatch := false, evts := 0x201, subs := [] }] } }, { words := [], diGood := 1, timeout := true, safeLatch := false, evts := 0x201, subs := [] }, [], true, by decide +kernel⟩

theorem witness_BarrierLinkFrames_20 : ∃ (s : State),
    s.fget FLD_STAT_LINK = 2 ∧ s.inService = false :=
  ⟨tFld.fset FLD_STAT_LINK 2, by decide +kernel⟩

theorem witness_BarrierLinkFrames_21 : ∃ (s : State),
    s.fget FLD_STAT_LINK ≠ 3 ∧ s.inService = true :=
  ⟨(tFld.fset FLD_STAT_LINK 1).fset BOOT_STAT_PHASE 7, by decide +kernel⟩

theorem witness_BarrierLinkFrames_22 : ∃ (s : State),
    s.fget FLD_STAT_LINK ≠ 3 ∧ s.inService = true ∧ s.safetyCfg = true ∧ s.rst.safe = none :=
  ⟨({ tFld with boot := { tFld.boot with act := { tFld.boot.act with safety := true } } }.fset FLD_STAT_LINK 0).fset BOOT_STAT_PHASE 7, by decide +kernel⟩

theorem witness_BarrierLinkFrames_23 : ∃ (s : State),
    (s.fget FLD_STAT_LINK = 3 ∨ (s.fget FLD_STAT_LINK ≠ 2 ∧ s.inService = false)) :=
  ⟨tFld.fset FLD_STAT_LINK 3, by decide +kernel⟩

theorem witness_FieldInputsAndOutputs_1 : ∃ (s : State) (raw : BitVec 32),
    s.flogicUp = true ∧ s.fd.cfgd = true :=
  ⟨tFd (fun f => { f with cnt := Vector.replicate 32 15, filt := 0xFF }), 0xF0F0F0F0, by decide +kernel⟩

theorem witness_FieldInputsAndOutputs_2 : ∃ (s : State) (k : Fin 32),
    s.flogicUp = true ∧ s.fd.cfgd = true ∧ s.fd.spares = Vector.replicate 4 { bad := false, used := false, input := 0, fails := 0 } ∧ s.fd.testIdx = k :=
  ⟨tFd (fun f => { f with testIdx := 31 }), 31, by decide +kernel⟩

theorem witness_FieldInputsAndOutputs_3 : ∃ (s : State) (k : Fin 32) (r : FeResult),
    s.flogicUp = true ∧ s.fd.cfgd = true ∧ s.fd.spares = Vector.replicate 4 { bad := false, used := false, input := 0, fails := 0 } ∧ s.fd.testIdx = k ∧ 1 ≤ s.fd.feFails[k] ∧ r.carrierOk = true ∧ (r.primaryOk && r.compareOk) = false :=
  ⟨tFd (fun f => { f with testIdx := 7, feFails := f.feFails.set 7 1 }), 7, { primaryOk := true, carrierOk := true, compareOk := false }, by decide +kernel⟩

theorem witness_FieldInputsAndOutputs_4 : ∃ (s : State) (k : Fin 32) (r : FeResult),
    s.flogicUp = true ∧ s.fd.cfgd = true ∧ s.fd.spares = Vector.replicate 4 { bad := false, used := false, input := 0, fails := 0 } ∧ s.fd.testIdx = k ∧ r.carrierOk = false :=
  ⟨tFd (fun f => { f with testIdx := 7 }), 7, { primaryOk := true, carrierOk := false, compareOk := false }, by decide +kernel⟩

theorem witness_FieldInputsAndOutputs_5 : ∃ (s : State) (j : Fin 4) (r : FeResult),
    s.flogicUp = true ∧ s.fd.cfgd = true ∧ s.fd.spares = Vector.replicate 4 { bad := false, used := false, input := 0, fails := 0 } ∧ s.fd.testIdx = 32 + (j : Nat) :=
  ⟨tFd (fun f => { f with testIdx := 35 }), 3, { primaryOk := false, carrierOk := true, compareOk := false }, by decide +kernel⟩

theorem witness_FieldInputsAndOutputs_6 : ∃ (s : State) (n : BitVec 4),
    s.flogicUp = true ∧ s.fd.cfgd = true ∧ s.doOn n.toNat = true :=
  ⟨tFd (fun f => { f with img := { seq := 3, val := 0x8001, qg := 0xFFFF, bl := 3, cyc := 9 } }), 15, by decide +kernel⟩

theorem witness_FieldInputsAndOutputs_7 : ∃ (s : State) (n : BitVec 4),
    s.doOn n.toNat = false :=
  ⟨tFld, 15, by decide +kernel⟩

theorem witness_FieldInputsAndOutputs_8 : ∃ (s : State) (n : BitVec 4),
    s.flogicUp = true ∧ s.fd.cfgd = true :=
  ⟨tFld, 3, by decide +kernel⟩

theorem witness_FieldInputsAndOutputs_9 : ∃ (s : State) (n : BitVec 4),
    s.flogicUp = true ∧ s.fd.cfgd = true :=
  ⟨tFld, 0, by decide +kernel⟩

theorem witness_FieldInputsAndOutputs_10 : ∃ (s : State) (n : BitVec 4) (cooled : Bool),
    s.flogicUp = true ∧ s.fd.cfgd = true ∧ bitOf (s.fd.cfg.fget FLD_DOOPT_RETRY) (s.fd.cmdBase n.toNat) = true ∧ (outAt s n).latched = true ∧ ((outAt s n).hot = false ∨ cooled = true) :=
  ⟨tFd (fun f => { f with cfg := f.cfg.fset FLD_DOOPT_RETRY 2, outs := f.outs.set 1 { FdOut.reset with latched := true } }), 1, false, by decide +kernel⟩

theorem witness_FieldInputsAndOutputs_11 : ∃ (s : State) (n : BitVec 4) (cooled : Bool),
    s.flogicUp = true ∧ s.fd.cfgd = true ∧ bitOf (s.fd.cfg.fget FLD_DOOPT_RETRY) (s.fd.cmdBase n.toNat) = false :=
  ⟨tFld, 1, false, by decide +kernel⟩

theorem witness_FieldInputsAndOutputs_12 : ∃ (s : State) (n : BitVec 4),
    s.flogicUp = true ∧ s.fd.cfgd = true :=
  ⟨tFd (fun f => { f with outs := f.outs.set 1 { FdOut.reset with handover := some 4 } }), 1, by decide +kernel⟩

theorem witness_FieldInputsAndOutputs_13 : ∃ (s : State) (n : BitVec 4),
    s.flogicUp = true ∧ s.fd.cfgd = true ∧ bitOf (s.fd.cfg.fget FLD_DOOPT_TEST) n.toNat = true ∧ s.fd.cmdBase n.toNat = n.toNat ∧ s.doOn n.toNat = true ∧ s.fd.loop ≠ .testHs ∧ s.fd.loop ≠ .testLs :=
  ⟨tFd (fun f => { f with cfg := f.cfg.fset FLD_DOOPT_TEST 0x8000, img := { seq := 3, val := 0x8001, qg := 0xFFFF, bl := 3, cyc := 9 } }), 15, by decide +kernel⟩

theorem witness_FieldInputsAndOutputs_14 : ∃ (s : State) (n : BitVec 4),
    s.flogicUp = true ∧ s.fd.cfgd = true ∧ (bitOf (s.fd.cfg.fget FLD_DOOPT_TEST) n.toNat = false ∨ s.fd.cmdBase n.toNat ≠ n.toNat ∨ s.doOn n.toNat = false ∨ s.fd.loop = .testHs ∨ s.fd.loop = .testLs) :=
  ⟨tFld, 15, by decide +kernel⟩

theorem witness_FieldInputsAndOutputs_15 : ∃ (s : State) (n : BitVec 4),
    s.flogicUp = true ∧ s.fd.cfgd = true ∧ (outAt s n).pulsing = true :=
  ⟨tFd (fun f => { f with outs := f.outs.set 2 { FdOut.reset with pulsing := true } }), 2, by decide +kernel⟩

theorem witness_FieldInputsAndOutputs_16 : ∃ (s : State) (raw : BitVec 32) (r : FeResult) (n : BitVec 4) (b : Bool),
    (s.flogicUp = false ∨ s.fd.cfgd = false) :=
  ⟨tRun, 5, { primaryOk := false, carrierOk := true, compareOk := false }, 3, true, by decide +kernel⟩

theorem witness_BrakeLoop_1 : ∃ (s : State),
    s.fieldPowered = true ∧ s.fd.cfgd = true ∧ s.fd.hsOn = false ∧ s.fd.lsOn = false ∧ { s.fd with demandMet := true }.closeOk = true ∧ s.fd.trips = [] ∧ s.fd.loop = .opened :=
  ⟨tFd (fun f => { f with img := { seq := 3, val := 0, qg := 0, bl := 3, cyc := 9 } }), by decide +kernel⟩

theorem witness_BrakeLoop_2 : ∃ (s : State),
    s.fieldPowered = true ∧ s.fd.cfgd = true ∧ s.fd.closeOk = true ∧ s.fd.trips = [] ∧ s.fd.loop = .closeHs :=
  ⟨tFd (fun f => { f with img := { seq := 3, val := 0, qg := 0, bl := 3, cyc := 9 }, demandMet := true, loop := .closeHs, hsOn := true }), by decide +kernel⟩

theorem witness_BrakeLoop_3 : ∃ (s : State),
    s.fieldPowered = true ∧ s.fd.cfgd = true ∧ s.fd.closeOk = true ∧ s.fd.trips = [] ∧ s.fd.loop = .closeExt :=
  ⟨tFd (fun f => { f with img := { seq := 3, val := 0, qg := 0, bl := 3, cyc := 9 }, demandMet := true, loop := .closeExt, hsOn := true, extOpen := true }), by decide +kernel⟩

theorem witness_BrakeLoop_4 : ∃ (s : State),
    s.fieldPowered = true ∧ s.fd.cfgd = true ∧ s.fd.closeOk = true ∧ s.fd.trips = [] ∧ s.fd.loop = .closeLs :=
  ⟨tFd (fun f => { f with img := { seq := 3, val := 0, qg := 0, bl := 3, cyc := 9 }, demandMet := true, loop := .closeLs, hsOn := true, lsOn := true }), by decide +kernel⟩

theorem witness_BrakeLoop_5 : ∃ (s : State),
    s.flogicUp = true ∧ s.fd.cfgd = true ∧ s.fd.trips = [] ∧ s.fd.latched = false ∧ s.fd.loop = .closeHs :=
  ⟨tFd (fun f => { f with loop := .closeHs, hsOn := true }), by decide +kernel⟩

theorem witness_BrakeLoop_6 : ∃ (s : State),
    s.flogicUp = true ∧ s.fd.cfgd = true ∧ s.fd.trips = [] ∧ s.fd.latched = false ∧ s.fd.loop = .closeLs :=
  ⟨tFd (fun f => { f with loop := .closeLs, hsOn := true, lsOn := true }), by decide +kernel⟩

theorem witness_BrakeLoop_7 : ∃ (s : State),
    s.fieldPowered = true ∧ s.fd.cfgd = true ∧ s.fd.closeOk = true ∧ s.fd.trips = [] ∧ s.fd.loop = .closed :=
  ⟨tFd (fun f => { f with img := { seq := 3, val := 0, qg := 0, bl := 3, cyc := 9 }, demandMet := true, loop := .closed, hsOn := true, lsOn := true, testLsNext := true }), by decide +kernel⟩

theorem witness_BrakeLoop_8 : ∃ (s : State),
    s.fieldPowered = true ∧ s.fd.cfgd = true ∧ s.fd.closeOk = true ∧ s.fd.trips = [] ∧ s.fd.loop = .testHs :=
  ⟨tFd (fun f => { f with img := { seq := 3, val := 0, qg := 0, bl := 3, cyc := 9 }, demandMet := true, loop := .testHs, hsOn := false, lsOn := true }), by decide +kernel⟩

theorem witness_BrakeLoop_9 : ∃ (s : State),
    s.fieldPowered = true ∧ s.fd.cfgd = true ∧ s.fd.closeOk = true ∧ s.fd.trips = [] ∧ s.fd.loop = .testLs :=
  ⟨tFd (fun f => { f with img := { seq := 3, val := 0, qg := 0, bl := 3, cyc := 9 }, demandMet := true, loop := .testLs, hsOn := true, lsOn := false }), by decide +kernel⟩

theorem witness_BrakeLoop_10 : ∃ (s : State) (n : Nat) (r : List Nat) (k : BitVec 4),
    s.flogicUp = true ∧ s.fd.cfgd = true ∧ s.fd.trips = n :: r ∧ s.fd.latched = false ∧ s.fd.loop ≠ .fault :=
  ⟨tFd (fun f => { f with img := { seq := 3, val := 0, qg := 0, bl := 3, cyc := 9 }, demandMet := true, loop := .closed, hsOn := true, lsOn := true, cfg := f.cfg.fset SAF_DTMASK_MASK 0x80 }), 7, [], 0, by decide +kernel⟩

theorem witness_BrakeLoop_11 : ∃ (s : State) (b : Bool),
    s.flogicUp = true ∧ s.fd.cfgd = true ∧ s.fd.trips = [] ∧ s.fd.latched = false ∧ s.fd.loop = .fault :=
  ⟨tFd (fun f => { f with loop := .fault, loopFault := 3 }), true, by decide +kernel⟩

theorem witness_BrakeLoop_12 : ∃ (s : State) (b : Bool),
    (s.flogicUp = false ∨ s.fd.cfgd = false) :=
  ⟨tRun, true, by decide +kernel⟩

theorem witness_SignalChannels_1 : ∃ (s : State) (ch : BitVec 4) (edges : Nat),
    s.sigOn ch.toNat = true ∧ ch.toNat < 12 ∧ ((s.sigExpected ch.toNat).1 = 0 ∨ (s.sigExpected ch.toNat).1 < 50 * ((edges * (s.sigExpected ch.toNat).2 : Int) - (s.sigExpected ch.toNat).1).natAbs) :=
  ⟨{ (tSig 11 0) with sig := vecUpd (tSig 11 0).sig 11 (fun c => { c with goodWin := 2 }) }, 11, 195, by decide +kernel⟩

theorem witness_SignalChannels_2 : ∃ (s : State) (ch : BitVec 4) (edges : Nat),
    s.sigOn ch.toNat = true ∧ ch.toNat < 12 ∧ (s.sigExpected ch.toNat).1 ≠ 0 ∧ 50 * ((edges * (s.sigExpected ch.toNat).2 : Int) - (s.sigExpected ch.toNat).1).natAbs ≤ (s.sigExpected ch.toNat).1 :=
  ⟨{ (tSig 0 0) with sig := vecUpd (tSig 0 0).sig 0 (fun c => { c with goodWin := 1 }) }, 0, 204, by decide +kernel⟩

theorem witness_SignalChannels_3 : ∃ (s : State) (ch : BitVec 4),
    s.sigOn ch.toNat = true ∧ ch.toNat < 12 :=
  ⟨(tSig 5 0), 5, by decide +kernel⟩

theorem witness_SignalChannels_4 : ∃ (s : State) (ch : BitVec 4),
    s.sigOn ch.toNat = true ∧ ch.toNat < 12 :=
  ⟨(tSig 3 0), 3, by decide +kernel⟩

theorem witness_SignalChannels_5 : ∃ (s : State) (ch : BitVec 4) (bits : List Bool),
    s.sigOn ch.toNat = true ∧ ch.toNat < 12 ∧ s.sigScs ch.toNat = false ∧ bits.length = s.sigR ch.toNat ∧ (s.sigCh ch.toNat).queue.length < 16 :=
  ⟨{ (tSig 11 0) with sig := vecUpd (tSig 11 0).sig 11 (fun c => { c with hist := [1, 1] }) }, 11, [true, false, true, false, true, false, true, false], by decide +kernel⟩

theorem witness_SignalChannels_6 : ∃ (s : State) (ch : BitVec 4) (bits : List Bool),
    s.sigOn ch.toNat = true ∧ ch.toNat < 12 ∧ s.sigScs ch.toNat = false ∧ bits.length = s.sigR ch.toNat ∧ 16 ≤ (s.sigCh ch.toNat).queue.length :=
  ⟨{ (tSig 11 0) with sig := vecUpd (tSig 11 0).sig 11 (fun c => { c with queue := List.replicate 16 { stage := 0, value := -77, sat := false, inst := 40 } }) }, 11, [true, false, true, false, true, false, true, false], by decide +kernel⟩

theorem witness_SignalChannels_7 : ∃ (s : State) (ch : BitVec 4) (q : SigWork),
    s.sigOn ch.toNat = true ∧ s.sigSlot = ch.toNat ∧ (s.sigCh ch.toNat).work = [] ∧ (s.sigCh ch.toNat).queue = [q] ∧ s.sigS ch.toNat = 0 ∧ s.fget (SIG_CH_n_CFG_FIR_EN ch.toNat) = 0 ∧ 4 ≤ ch.toNat ∧ ch.toNat < 12 :=
  ⟨{ (tSig 11 0) with sigSlot := 11, sig := vecUpd (tSig 11 0).sig 11 (fun c => { c with queue := [{ stage := 0, value := -77, sat := true, inst := 40 }] }) }, 11, { stage := 0, value := -77, sat := true, inst := 40 }, by decide +kernel⟩

theorem witness_SignalChannels_8 : ∃ (s : State) (ch : BitVec 4),
    s.sigOn ch.toNat = true ∧ s.sigSlot = ch.toNat :=
  ⟨{ (tSig 11 0) with sigSlot := 11, sig := vecUpd (tSig 11 0).sig 11 (fun c => { c with spent := 6, queue := [{ stage := 0, value := -77, sat := true, inst := 40 }] }) }.fset (SIG_CH_n_CFG_S 11) 2, 11, by decide +kernel⟩

theorem witness_SignalChannels_9 : ∃ (s : State) (ch : BitVec 4),
    s.sigOn ch.toNat = false ∧ s.unitDown 0x30 = false ∧ s.fget SIG_STAT_RUNNING = 1 ∧ s.sigSlot = ch.toNat :=
  ⟨tOn.fset SIG_STAT_RUNNING 1, 0, by decide +kernel⟩

theorem witness_SignalChannels_10 : ∃ (s : State) (ch : BitVec 4),
    (s.unitDown 0x30 = true ∨ s.fget SIG_STAT_RUNNING = 0 ∨ s.sigSlot ≠ ch.toNat) :=
  ⟨tOn, 0, by decide +kernel⟩

theorem witness_SignalChannels_11 : ∃ (s : State) (n : Fin 12),
    s.sigOn n = true :=
  ⟨{ (tSig 11 0) with sig := vecUpd (tSig 11 0).sig 11 (fun c => { c with count := 7, queue := [{ stage := 0, value := -77, sat := false, inst := 40 }] }) }, 11, by decide +kernel⟩

theorem witness_SignalChannels_12 : ∃ (s : State) (m : BitVec 12),
    s.unitDown 0x30 = false :=
  ⟨{ (tSig 11 0) with sig := vecUpd (tSig 11 0).sig 11 (fun c => { c with count := 7, queue := [{ stage := 0, value := -77, sat := false, inst := 40 }] }) }, 0xC01, by decide +kernel⟩

theorem witness_SignalChannels_13 : ∃ (s : State) (m : BitVec 12),
    s.unitDown 0x30 = true :=
  ⟨tRun, 5, by decide +kernel⟩

theorem witness_SignalChannels_14 : ∃ (s : State) (n : Nat) (fall : Bool),
    (List.range 4).filter (fun n => s.sigOn n && s.flag (SIG_CH_n_CFG_SYNC_EN n)) = [n] ∧ s.fget SIG_SYNCCFG_SRC = 3 ∧ s.flag SIG_SYNCCFG_FALL = fall :=
  ⟨((tSig 2 0).fset (SIG_CH_n_CFG_SYNC_EN 2) 1).fset SIG_SYNCCFG_SRC 3, 2, false, by decide +kernel⟩

theorem witness_SignalChannels_15 : ∃ (s : State) (fall : Bool),
    s.unitDown 0x30 = false ∧ s.fget SIG_SYNCCFG_SRC = 3 ∧ s.flag SIG_SYNCCFG_FALL = fall :=
  ⟨((tSig 2 0).fset (SIG_CH_n_CFG_SYNC_EN 2) 1).fset SIG_SYNCCFG_SRC 3, false, by decide +kernel⟩

theorem witness_SignalChannels_16 : ∃ (s : State) (fall : Bool),
    s.fget SIG_SYNCCFG_SRC = 0 ∧ s.unitDown 0x30 = false :=
  ⟨tOn, true, by decide +kernel⟩

theorem witness_SignalChannels_17 : ∃ (s : State) (ch : BitVec 4) (b : Bool),
    s.sigOn ch.toNat = true ∧ ch.toNat < 12 ∧ s.sigScs ch.toNat = true ∧ (s.fget (SIG_CH_n_SCS_PER ch.toNat) ≠ 0 ∨ (s.sigCh ch.toNat).asked = true) :=
  ⟨((tSig 4 0).fset (SIG_CH_n_CFG_MODE 4) 1).fset (SIG_CH_n_SCS_PER 4) 24, 4, true, by decide +kernel⟩

theorem witness_SignalChannels_18 : ∃ (s : State) (ch : BitVec 4) (b : Bool),
    s.sigOn ch.toNat = true ∧ ch.toNat < 12 ∧ s.sigScs ch.toNat = true ∧ s.fget (SIG_CH_n_SCS_PER ch.toNat) = 0 ∧ (s.sigCh ch.toNat).asked = false :=
  ⟨(tSig 4 0).fset (SIG_CH_n_CFG_MODE 4) 1, 4, true, by decide +kernel⟩

theorem witness_SignalChannels_19 : ∃ (s : State) (ch : BitVec 4) (bits : List Bool),
    s.sigOn ch.toNat = true ∧ ch.toNat < 12 ∧ (s.sigCh ch.toNat).converting = true ∧ bits.length = 3 * s.sigR ch.toNat - 2 ∧ (s.sigCh ch.toNat).queue.length < 16 :=
  ⟨{ (tSig 6 0) with sig := vecUpd (tSig 6 0).sig 6 (fun c => { c with converting := true }) }, 6, List.replicate 22 true, by decide +kernel⟩

theorem witness_SignalChannels_20 : ∃ (s : State) (ch : BitVec 4) (e : Nat) (b : Bool) (bits : List Bool),
    s.sigOn ch.toNat = false :=
  ⟨tOn, 3, 9, true, [true], by decide +kernel⟩

theorem witness_EthernetSwitch_1 : ∃ (s : State) (port : Nat) (v : Nat) (mem : Nat) (f : EthFrame),
    s.ethUp = true ∧ s.portUp port = true ∧ port < 4 ∧ (64 ≤ f.len ∧ f.len ≤ 1522) ∧ f.fcsOk = true ∧ f.pause = false ∧ s.prpPort port = false ∧ f.vid = none ∧ f.frag = none ∧ v = s.fget (ETH_PORT_n_CFG_PVID port) ∧ s.vlan v = some (mem, 16) ∧ bitOf mem 4 = true ∧ f.dst.toNat = s.ownMac ∧ f.dst ≠ f.src ∧ groupMac f.dst.toNat = false ∧ groupMac f.src.toNat = false ∧ s.staticPorts f.dst.toNat = none ∧ s.eth.learned = [] ∧ s.eth.queue = [] :=
  ⟨tEth, 0, 1, 0x11, tFrame, by decide +kernel⟩

theorem witness_EthernetSwitch_2 : ∃ (s : State) (port : Nat) (f : EthFrame),
    s.ethUp = true ∧ s.portUp port = true ∧ (64 ≤ f.len ∧ f.len ≤ 1522) ∧ f.fcsOk = true ∧ f.pause = false ∧ s.prpPort port = false :=
  ⟨tEth, 0, { tFrame with dst := 0xFFFFFFFFFFFF }, by decide +kernel⟩

theorem witness_EthernetSwitch_3 : ∃ (s : State) (port : Nat) (f : EthFrame),
    s.ethUp = true ∧ s.portUp port = true ∧ (64 ≤ f.len ∧ f.len ≤ 1522) ∧ f.fcsOk = true ∧ f.pause = false ∧ s.prpPort port = true :=
  ⟨tEth.fset ETH_PORTCFG_PRP 1, 0, { tFrame with rct := some (4, 0xA) }, by decide +kernel⟩

theorem witness_EthernetSwitch_4 : ∃ (s : State) (port : Nat) (f : EthFrame),
    s.ethUp = true ∧ s.portUp port = true ∧ (f.len < 64 ∨ 1522 < f.len) :=
  ⟨tEth, 3, { tFrame with len := 1523 }, by decide +kernel⟩

theorem witness_EthernetSwitch_5 : ∃ (s : State) (port : Nat) (f : EthFrame),
    s.ethUp = true ∧ s.portUp port = true ∧ (64 ≤ f.len ∧ f.len ≤ 1522) ∧ f.fcsOk = false :=
  ⟨tEth, 3, { tFrame with fcsOk := false }, by decide +kernel⟩

theorem witness_EthernetSwitch_6 : ∃ (s : State) (port : Nat) (f : EthFrame),
    (s.ethUp = false ∨ s.portUp port = false) :=
  ⟨tEth, 5, tFrame, by decide +kernel⟩

theorem witness_EthernetSwitch_7 : ∃ (s : State) (port : Nat) (e : QEnt) (bs : List Byte),
    s.ethUp = true ∧ s.portUp port = true ∧ s.egressNext port = some e ∧ s.cellRead e.cells e.frame.len = (s, some bs) :=
  ⟨({ tEth with eth := { tEth.eth with queue := [{ port := 4, prio := 3, cells := [0, 1], inNs := 0, inPort := 0, frame := tFrame }] } }).memPut 0x20180000 [1, 2, 3], 4, { port := 4, prio := 3, cells := [0, 1], inNs := 0, inPort := 0, frame := tFrame }, ([1, 2, 3] ++ List.replicate 297 0), by decide +kernel⟩

theorem witness_EthernetSwitch_8 : ∃ (s : State) (port : Nat) (e : QEnt),
    s.ethUp = true ∧ s.portUp port = true ∧ s.egressNext port = some e ∧ (s.cellRead e.cells e.frame.len).2 = none :=
  ⟨{ tEth with memx := { tEth.memx with poisoned := [0x20180100 / 32] }, eth := { tEth.eth with queue := [{ port := 4, prio := 3, cells := [0, 1], inNs := 0, inPort := 0, frame := tFrame }] } }, 4, { port := 4, prio := 3, cells := [0, 1], inNs := 0, inPort := 0, frame := tFrame }, by decide +kernel⟩

theorem witness_EthernetSwitch_9 : ∃ (s : State) (port : Nat),
    s.egressNext port = none :=
  ⟨tEth, 4, by decide +kernel⟩

theorem witness_EthernetSwitch_11 : ∃ (s : State) (v : BitVec 32),
    s.unitDown 0x20 = false ∧ s.fget ETH_MDIO_GO = 0 :=
  ⟨tEth, 0xFFFFFFFF, by decide +kernel⟩

theorem witness_EthernetSwitch_12 : ∃ (s : State) (v : BitVec 32),
    s.unitDown 0x20 = false ∧ s.fget ETH_MDIO_GO = 1 :=
  ⟨tEth.fset ETH_MDIO_GO 1, 3, by decide +kernel⟩

theorem witness_EthernetSwitch_13 : ∃ (s : State) (v : BitVec 32),
    s.unitDown 0x20 = true :=
  ⟨tRun, 3, by decide +kernel⟩

theorem witness_EthernetSwitch_14 : ∃ (s : State) (d : BitVec 16),
    s.fget ETH_MDIO_GO = 0 :=
  ⟨tRun, 3, by decide +kernel⟩

theorem witness_EthernetSwitch_15 : ∃ (s : State) (d : BitVec 16),
    s.fget ETH_MDIO_GO = 1 :=
  ⟨(tEth.fset ETH_MDIO_GO 1).fset ETH_MDIO_READ 1, 0xBEEF, by decide +kernel⟩

theorem witness_EthernetSwitch_16 : ∃ (s : State) (p : Bool),
    s.ethUp = true ∧ bitOf (s.fget ETH_PORTCFG_PRP) p.toNat = true ∧ s.portUp (2 * p.toNat) = true ∧ s.portUp (2 * p.toNat + 1) = true ∧ s.eth.queue = [] :=
  ⟨tEth.fset ETH_PORTCFG_PRP 2, true, by decide +kernel⟩

theorem witness_EthernetSwitch_18 : ∃ (s : State) (port : Fin 4) (sp : BitVec 2),
    s.unitDown 0x20 = false ∧ (sp = 1 ∨ sp = 2) ∧ s.phys.serrefOk = true ∧ bitOf (s.fget ETH_PORTCFG_EN) port = true ∧ bitOf (s.fget ETH_STAT_LINK) port = false :=
  ⟨tEth.fset ETH_STAT_LINK 0x7, 3, 2, by decide +kernel⟩

theorem witness_EthernetSwitch_19 : ∃ (s : State) (port : Fin 4) (up : Bool) (full : Bool) (sp : BitVec 2),
    s.unitDown 0x20 = false ∧ ((up && full) = false ∨ sp = 0 ∨ sp = 3) :=
  ⟨tEth, 0, true, true, 0, by decide +kernel⟩

theorem witness_InternetProtocols_1 : ∃ (s : State) (ip : BitVec 32) (sender : BitVec 32) (mac : BitVec 48),
    s.pdeUp = true ∧ ip.toNat = s.fget PDE_IPADDR_ADDR ∧ s.pde.arp.length < 1024 :=
  ⟨tPd.fset PDE_IPADDR_ADDR 0xC0A80001, 0xC0A80001, 0xC0A80002, 5, by decide +kernel⟩

theorem witness_InternetProtocols_2 : ∃ (s : State) (ip : BitVec 32) (sender : BitVec 32) (mac : BitVec 48) (l : List (Nat × Nat)),
    s.pdeUp = true ∧ ip.toNat = s.fget PDE_IPADDR_ADDR ∧ l = s.pde.arp.filter (fun e => e.1 ≠ sender.toNat) ++ [(sender.toNat, mac.toNat)] :=
  ⟨tPd.fset PDE_IPADDR_ADDR 0xC0A80001, 0xC0A80001, 0xC0A80002, 5, [(0xC0A80002, 5)], by decide +kernel⟩

theorem witness_InternetProtocols_3 : ∃ (s : State) (ip : BitVec 32) (src : BitVec 32) (mac : BitVec 48),
    s.pdeUp = false :=
  ⟨tRun, 1, 2, 3, by decide +kernel⟩

theorem witness_InternetProtocols_4 : ∃ (s : State) (ip : BitVec 32) (sender : BitVec 32) (mac : BitVec 48),
    ip.toNat ≠ s.fget PDE_IPADDR_ADDR :=
  ⟨tPd, 5, 6, 7, by decide +kernel⟩

theorem witness_InternetProtocols_5 : ∃ (s : State) (ip : BitVec 32) (mac : Nat),
    s.pdeUp = true ∧ (ip.toNat, mac) ∈ s.pde.arp :=
  ⟨{ tPd with pde := { tPd.pde with arp := [(1, 2), (3, 4)] } }, 3, 4, by decide +kernel⟩

theorem witness_InternetProtocols_6 : ∃ (s : State) (ip : BitVec 32) (e : DirE),
    s.pdeUp = true ∧ e ∈ s.pde.dir ∧ e.valid = true ∧ e.ip ≠ 0 ∧ s.nextHop e.ip = ip.toNat :=
  ⟨({ tPd with pde := { tPd.pde with dir := [{ valid := true, dev := 5, ip := 0x0A000002, consist := 0, vehicle := 0 }] } }.fset PDE_NETMASK_ADDR 0xFF000000).fset PDE_GATEWAY_ADDR 7, 7, { valid := true, dev := 5, ip := 0x0A000002, consist := 0, vehicle := 0 }, by decide +kernel⟩

theorem witness_InternetProtocols_7 : ∃ (s : State) (ip : BitVec 32),
    s.pde.arp.all (fun e => e.1 ≠ ip.toNat) = true ∧ s.pde.dir.all (fun e => !e.valid || e.ip = 0 || s.nextHop e.ip ≠ ip.toNat) = true :=
  ⟨tPd, 9, by decide +kernel⟩

theorem witness_InternetProtocols_8 : ∃ (s : State) (ip : BitVec 32) (src : BitVec 32),
    s.pdeUp = true ∧ ip.toNat = s.fget PDE_IPADDR_ADDR :=
  ⟨tPd.fset PDE_IPADDR_ADDR 0xC0A80001, 0xC0A80001, 0xC0A80002, by decide +kernel⟩

theorem witness_InternetProtocols_9 : ∃ (s : State),
    s.pdeUp = true ∧ s.groups ≠ [] :=
  ⟨{ tPd with boot := { tPd.boot with act := { tPd.boot.act with secs := [{ type := 5, inst := 0, crc := 0, bytes := (tPdSec.set 80 1).set 118 9 }] } } }, by decide +kernel⟩

theorem witness_ProcessDataSessions_1 : ∃ (s : State) (i : Nat) (late : Nat) (agree : Bool) (e : PdS) (bs : List Byte),
    s.pdeUp = true ∧ i < s.pde.sess.length ∧ e = s.boot.act.pdS i ∧ e.sub = false ∧ s.pdMaySend i e = true ∧ s.pubRead e.buf e.pubLen = (s, some bs) ∧ ((e.vsc = true → agree = true)) ∧ s.fget REC_CFG_EN = 0 :=
  ⟨{ tPd with pde := { tPd.pde with sess := tPd.pde.sess.set 0 { Sess.fresh with handed := true, qual := true, seq := 0xFFFFFFFF } } }, 0, 3, false, tPd.boot.act.pdS 0, List.replicate 8 0, by decide +kernel⟩

theorem witness_ProcessDataSessions_2 : ∃ (s : State) (i : Nat) (late : Nat) (agree : Bool) (e : PdS) (bs : List Byte),
    s.pdeUp = true ∧ i < s.pde.sess.length ∧ e = s.boot.act.pdS i ∧ e.sub = false ∧ e.vsc = false ∧ s.pdMaySend i e = true ∧ s.pubRead e.buf e.len = (s, some bs) ∧ s.fget REC_CFG_EN = 0 :=
  ⟨{ tPd with pde := { tPd.pde with sess := tPd.pde.sess.set 0 { Sess.fresh with handed := true, qual := true, seq := 0xFFFFFFFF } } }, 0, 3, true, tPd.boot.act.pdS 0, List.replicate 8 0, by decide +kernel⟩

theorem witness_ProcessDataSessions_3 : ∃ (s : State) (i : Nat) (late : Nat) (agree : Bool) (e : PdS),
    s.pdeUp = true ∧ i < s.pde.sess.length ∧ e = s.boot.act.pdS i ∧ e.sub = false ∧ s.pdMaySend i e = true :=
  ⟨{ tPd with pde := { tPd.pde with sess := tPd.pde.sess.set 0 { Sess.fresh with handed := true, qual := true, seq := 0xFFFFFFFF } } }, 0, 3, true, tPd.boot.act.pdS 0, by decide +kernel⟩

theorem witness_ProcessDataSessions_4 : ∃ (s : State) (i : Nat) (late : Nat) (agree : Bool) (e : PdS) (bs : List Byte),
    s.pdeUp = true ∧ i < s.pde.sess.length ∧ e = s.boot.act.pdS i ∧ e.sub = false ∧ s.pdMaySend i e = true ∧ s.pubRead e.buf e.pubLen = (s, some bs) ∧ ((e.vsc = true → agree = true)) :=
  ⟨({ tPd with pde := { tPd.pde with sess := tPd.pde.sess.set 0 { Sess.fresh with handed := true, qual := true } } }.fset REC_CFG_EN 1), 0, 30000, true, tPd.boot.act.pdS 0, List.replicate 8 0, by decide +kernel⟩

theorem witness_ProcessDataSessions_5 : ∃ (s : State) (i : Nat) (late : Nat) (agree : Bool),
    s.pdeUp = true ∧ i < s.pde.sess.length ∧ i < 512 ∧ (s.boot.act.pdS i).sub = false ∧ s.pdMaySend i (s.boot.act.pdS i) = false :=
  ⟨tPd, 0, 3, true, by decide +kernel⟩

theorem witness_ProcessDataSessions_6 : ∃ (s : State) (i : Nat) (late : Nat) (agree : Bool),
    (s.pdeUp = false ∨ s.pde.sess.length ≤ i ∨ (s.boot.act.pdS i).sub = true) :=
  ⟨tPd, 1, 3, true, by decide +kernel⟩

theorem witness_ProcessDataSessions_7 : ∃ (s : State) (i : Nat) (e : PdS) (f : PdFrame),
    s.pdeUp = true ∧ s.pdMatch f = some i ∧ i < 512 ∧ e = s.boot.act.pdS i ∧ e.vsc = false ∧ e.dual = false ∧ f.hdrOk = true ∧ f.msgType = 0x5064 ∧ f.ver / 256 = 1 ∧ f.dlen = e.len ∧ f.data.length = e.len ∧ s.topoOk f = true ∧ ((s.pd i).anySeq = true ∨ (1 ≤ (f.seq + 2 ^ 32 - (s.pd i).seq) % 2 ^ 32 ∧ (f.seq + 2 ^ 32 - (s.pd i).seq) % 2 ^ 32 < 2 ^ 31)) ∧ (s.fget PAIR_CFG_ETH_EN = 0 ∨ s.fget PAIR_SESS_SUB ≠ i) :=
  ⟨{ tPd with pde := { tPd.pde with sess := tPd.pde.sess.set 1 { Sess.fresh with anySeq := false, seq := 4 } } }, 1, tPd.boot.act.pdS 1, tPdu 101, by decide +kernel⟩

theorem witness_ProcessDataSessions_8 : ∃ (s : State) (i : Nat) (f : PdFrame) (l : Option Bool),
    s.pdeUp = true ∧ s.pdMatch f = some i ∧ i < 512 ∧ (s.boot.act.pdS i).vsc = false ∧ f.msgType ≠ 0x5072 :=
  ⟨tPd, 2, { tPdu 102 with dlen := 5 }, none, by decide +kernel⟩

theorem witness_ProcessDataSessions_9 : ∃ (s : State) (i : Nat) (e : PdS) (f : PdFrame) (l : Option Bool) (agree : Bool),
    s.pdeUp = true ∧ f.msgType ≠ 0x5072 ∧ s.pdMatch f = some i ∧ i < 512 ∧ e = s.boot.act.pdS i ∧ (e.vsc && s.flag SAF_STAT_VSC_STOP) = false :=
  ⟨{ tPd with pde := { tPd.pde with sess := tPd.pde.sess.set 1 { Sess.fresh with anySeq := false, seq := 4 } } }, 1, tPd.boot.act.pdS 1, tPdu 101, none, true, by decide +kernel⟩

theorem witness_ProcessDataSessions_10 : ∃ (s : State) (f : PdFrame) (l : Option Bool) (agree : Bool),
    (s.pdeUp = false ∨ f.msgType = 0x5072 ∨ s.pdMatch f = none ∨ (∃ i, s.pdMatch f = some i ∧ (s.boot.act.pdS i).vsc = true ∧ s.fget SAF_STAT_VSC_STOP = 1)) :=
  ⟨tPd, tPdu 5, none, true, Or.inr (Or.inr (Or.inl (by decide +kernel)))⟩

theorem witness_ProcessDataSessions_11 : ∃ (s : State) (i : Nat) (f : PdFrame) (b : Bool) (agree : Bool),
    s.pdeUp = true ∧ f.msgType ≠ 0x5072 ∧ s.pdMatch f = some i ∧ i < 512 ∧ (s.boot.act.pdS i).dual = true ∧ ((s.boot.act.pdS i).vsc && s.flag SAF_STAT_VSC_STOP) = false ∧ s.pdCheck i (s.boot.act.pdS i) f agree = some 0 :=
  ⟨tPd, 2, tPdu 102, true, true, by decide +kernel⟩

theorem witness_ProcessDataSessions_12 : ∃ (s : State) (i : Nat),
    s.pdeUp = true ∧ i < s.pde.sess.length ∧ i < 512 ∧ (s.boot.act.pdS i).sub = true ∧ (s.pd i).dual = none ∧ s.fget (PDE_SSTAT_s_TIMEDOUT i) = 0 ∧ s.pairUp = false :=
  ⟨tPd, 2, by decide +kernel⟩

theorem witness_ProcessDataSessions_13 : ∃ (s : State) (i : Nat),
    s.pdeUp = true ∧ i < s.pde.sess.length ∧ i < 512 ∧ (s.boot.act.pdS i).sub = true ∧ (s.pd i).dual = none ∧ s.fget (PDE_SSTAT_s_TIMEDOUT i) = 0 :=
  ⟨((tPd.fset PAIR_CFG_EN 1).fset PAIR_CFG_UNIT 1), 2, by decide +kernel⟩

theorem witness_ProcessDataSessions_14 : ∃ (s : State) (i : Nat),
    (s.pdeUp = false ∨ s.pde.sess.length ≤ i ∨ (s.boot.act.pdS i).sub = false ∨ s.fget (PDE_SSTAT_s_TIMEDOUT i) = 1) :=
  ⟨tPd, 0, by decide +kernel⟩

theorem witness_ProcessDataSessions_15 : ∃ (s : State) (i : Nat) (b : Bool) (f : PdFrame),
    s.pdeUp = true ∧ i < 512 ∧ (s.pd i).dual = some (b, f) :=
  ⟨{ tPd with pde := { tPd.pde with sess := tPd.pde.sess.set 2 { Sess.fresh with dual := some (true, tPdu 102) } } }, 2, true, tPdu 102, by decide +kernel⟩

theorem witness_ProcessDataSessions_16 : ∃ (s : State) (i : Nat),
    (s.pdeUp = false ∨ (s.pd i).dual = none) :=
  ⟨tPd, 2, by decide +kernel⟩

theorem witness_DirectoryAndMessages_1 : ∃ (s : State) (o : BitVec 24),
    s.unitDown 0x21 = false ∧ o.toNat % 8 = 0 ∧ s.fget PDE_DIRSTAT_STATE = 0 :=
  ⟨tPd, 0x100008, by decide +kernel⟩

theorem witness_DirectoryAndMessages_2 : ∃ (s : State) (o : BitVec 24),
    s.unitDown 0x21 = false ∧ o.toNat % 8 = 0 ∧ s.fget PDE_DIRSTAT_STATE ≠ 0 :=
  ⟨tPd.fset PDE_DIRSTAT_STATE 2, 0, by decide +kernel⟩

theorem witness_DirectoryAndMessages_3 : ∃ (s : State) (k : BitVec 8) (o : BitVec 24),
    s.unitDown 0x21 = false ∧ (k ≠ 0x6D ∨ o.toNat % 8 ≠ 0) :=
  ⟨tPd, 0x6D, 4, by decide +kernel⟩

theorem witness_DirectoryAndMessages_4 : ∃ (s : State) (k : BitVec 8) (o : BitVec 24),
    s.unitDown 0x21 = true :=
  ⟨tRun, 0x6D, 4, by decide +kernel⟩

theorem witness_DirectoryAndMessages_5 : ∃ (s : State) (n : Nat) (h : List Byte) (bs : List Byte),
    s.fget PDE_DIRSTAT_STATE = 1 ∧ s.engineRead (0x20000000 + s.pde.imageOfs) 16 = (s, some h) ∧ leAt h 0 4 = 0x5249445A ∧ leAt h 4 2 = n ∧ n ≤ 4096 ∧ s.pde.imageDue = true ∧ s.engineRead ((0x20000000 + s.pde.imageOfs) + 16) (16 * n) = (s, some bs) ∧ (0x20000000 + s.pde.imageOfs) + 16 + 16 * n ≤ 0x20180000 ∧ dirUnique ((records 16 n bs).map dirE) = true :=
  ⟨(tDue.memPut 0x20000000 (leBytes 4 0x5249445A ++ [1, 0, 0, 0, 7, 0, 0, 0, 8])).fset PDE_DIRSTAT_STATE 1, 1, leBytes 4 0x5249445A ++ [1, 0, 0, 0, 7, 0, 0, 0, 8, 0, 0, 0], List.replicate 16 0, by decide +kernel⟩

theorem witness_DirectoryAndMessages_6 : ∃ (s : State) (n : Nat) (h : List Byte) (bs : List Byte),
    s.fget PDE_DIRSTAT_STATE = 1 ∧ s.engineRead (0x20000000 + s.pde.imageOfs) 16 = (s, some h) ∧ leAt h 4 2 = n ∧ s.pde.imageDue = true ∧ (4096 < n ∨ s.engineRead ((0x20000000 + s.pde.imageOfs) + 16) (16 * n) = (s, some bs)) ∧ (leAt h 0 4 ≠ 0x5249445A ∨ 4096 < n ∨ 0x20180000 < (0x20000000 + s.pde.imageOfs) + 16 + 16 * n ∨ dirUnique ((records 16 n bs).map dirE) = false) :=
  ⟨tDue.fset PDE_DIRSTAT_STATE 1, 0, List.replicate 16 0, [], by decide +kernel⟩

theorem witness_DirectoryAndMessages_7 : ∃ (s : State),
    s.fget PDE_DIRSTAT_STATE = 1 ∧ s.pde.imageDue = true ∧ (s.engineRead (0x20000000 + s.pde.imageOfs) 16).2 = none :=
  ⟨{ tDue with memx := { tPd.memx with poisoned := [0x20000000 / 32] } }.fset PDE_DIRSTAT_STATE 1, by decide +kernel⟩

theorem witness_DirectoryAndMessages_8 : ∃ (s : State),
    (s.fget PDE_DIRSTAT_STATE ≠ 1 ∨ s.pde.imageDue = false) :=
  ⟨tPd, by decide +kernel⟩

theorem witness_DirectoryAndMessages_9 : ∃ (s : State) (m : MdMsg) (q : Nat) (k : Nat),
    s.pdeUp = true ∧ m.reasm = none ∧ m.dst = s.fget PDE_IPADDR_ADDR ∧ m.msgType = 0x4D6E ∧ m.hdrOk = true ∧ s.mdMatch 0x11 m = some q ∧ (List.range (s.boot.act.recvQ q).depth).find? (fun k => (s.pde.recvQ.getD q []).all (fun m => m.slot ≠ k)) = some k ∧ s.memx.upsets = [] ∧ s.memx.poisoned = [] :=
  ⟨tPd, { msgType := 0x4D6E, hdrOk := true, comid := 7, dst := 0, src := 9, sess := 77, reasm := none, data := [5, 6, 7] }, 0, 0, by decide +kernel⟩

theorem witness_DirectoryAndMessages_10 : ∃ (s : State) (m : MdMsg) (q : Nat),
    s.pdeUp = true ∧ m.reasm = none ∧ m.dst = s.fget PDE_IPADDR_ADDR ∧ m.msgType = 0x4D6E ∧ m.hdrOk = true ∧ s.mdMatch 0x11 m = some q ∧ (List.range (s.boot.act.recvQ q).depth).find? (fun k => (s.pde.recvQ.getD q []).all (fun m => m.slot ≠ k)) = none :=
  ⟨{ tPd with pde := { tPd.pde with recvQ := [[{ slot := 0, len := 0, ip := 0, sess := 0, taken := false, sender := 0 }, { slot := 1, len := 0, ip := 0, sess := 0, taken := false, sender := 0 }]] } }, { msgType := 0x4D6E, hdrOk := true, comid := 7, dst := 0, src := 9, sess := 77, reasm := none, data := [5, 6, 7] }, 0, by decide +kernel⟩

theorem witness_DirectoryAndMessages_11 : ∃ (s : State) (m : MdMsg),
    s.pdeUp = true ∧ m.dst = s.fget PDE_IPADDR_ADDR :=
  ⟨tPd, { msgType := 0x4D6E, hdrOk := true, comid := 7, dst := 0, src := 9, sess := 77, reasm := none, data := [5, 6, 7] }, by decide +kernel⟩

theorem witness_DirectoryAndMessages_12 : ∃ (s : State) (m : MdMsg),
    s.pdeUp = true ∧ m.dst = s.fget PDE_IPADDR_ADDR ∧ m.reasm = none ∧ m.msgType = 0x4D72 :=
  ⟨tPd, { msgType := 0x4D72, hdrOk := false, comid := 7, dst := 0, src := 9, sess := 77, reasm := none, data := [5, 6, 7] }, by decide +kernel⟩

theorem witness_DirectoryAndMessages_13 : ∃ (s : State) (m : MdMsg),
    (s.pdeUp = false ∨ m.dst ≠ s.fget PDE_IPADDR_ADDR) :=
  ⟨tPd, { msgType := 0x4D6E, hdrOk := true, comid := 7, dst := 1, src := 9, sess := 77, reasm := none, data := [5, 6, 7] }, by decide +kernel⟩

theorem witness_DirectoryAndMessages_14 : ∃ (s : State) (q : Nat) (w : Nat × Nat),
    s.pdeUp = true ∧ s.pde.waits.find? (fun x => x.1 = q) = some w :=
  ⟨{ tPd with pde := { tPd.pde with waits := [(3, 9), (0, 12)] } }, 0, (0, 12), by decide +kernel⟩

theorem witness_DirectoryAndMessages_15 : ∃ (s : State) (q : Nat),
    (s.pdeUp = false ∨ s.pde.waits.find? (fun x => x.1 = q) = none) :=
  ⟨tPd, 0, by decide +kernel⟩

theorem witness_DirectoryAndMessages_16 : ∃ (s : State) (q : Nat) (w : Nat),
    s.pdeUp = true ∧ s.pde.waits = [(q, w)] ∧ (s.boot.act.sendQ q).pairq < s.pde.recvQ.length ∧ s.pde.recvQ.getD (s.boot.act.sendQ q).pairq [] = [] ∧ (s.boot.act.recvQ (s.boot.act.sendQ q).pairq).depth ≠ 0 :=
  ⟨{ tPd with pde := { tPd.pde with waits := [(0, 12)] } }, 0, 12, by decide +kernel⟩

theorem witness_TimeUnit_1 : ∃ (s : State) (m : PtpMsg) (d : Int),
    s.timUp = true ∧ s.timFromParent m = true ∧ m.twoStep = false ∧ s.timDelay m.port = some d ∧ s.fget TIM_STAT_STEPPED = 0 :=
  ⟨tTim (fun x => { x with delay := #v[none, none, some 100, none] }), tMsg, 100, by decide +kernel⟩

theorem witness_TimeUnit_2 : ∃ (s : State) (m : PtpMsg),
    s.timUp = true ∧ s.timFromParent m = true ∧ m.twoStep = true :=
  ⟨tTim id, { tMsg with twoStep := true }, by decide +kernel⟩

theorem witness_TimeUnit_3 : ∃ (s : State) (m : PtpMsg),
    s.timFromParent m = false :=
  ⟨tTim id, { tMsg with domain := 4 }, by decide +kernel⟩

theorem witness_TimeUnit_4 : ∃ (s : State) (m : PtpMsg) (y : PtpMsg) (arr : Nat),
    s.timUp = true ∧ s.timFromParent m = true ∧ s.tim.sync = some (y, arr) ∧ y.seq = m.seq ∧ y.port = m.port ∧ s.timDelay m.port = none :=
  ⟨tTim (fun x => { x with sync := some (tMsg, 4321) }), tMsg, tMsg, 4321, by decide +kernel⟩

theorem witness_TimeUnit_5 : ∃ (s : State) (port : Nat) (a : Announce),
    s.timUp = true ∧ s.fget TIM_CFG_MODE = 1 ∧ port < 4 ∧ s.tim.parent = some a ∧ a.port = port ∧ s.fget (TIM_PORT_n_CFG_P2P port) = 0 :=
  ⟨tTim (fun x => { x with reqSeq := 65535 }), 2, tAnn, by decide +kernel⟩

theorem witness_TimeUnit_6 : ∃ (s : State) (port : Nat),
    s.timUp = true ∧ s.fget TIM_CFG_MODE = 1 ∧ port < 4 ∧ s.fget (TIM_PORT_n_CFG_P2P port) = 1 :=
  ⟨(tTim id).fset (TIM_PORT_n_CFG_P2P 1) 1, 1, by decide +kernel⟩

theorem witness_TimeUnit_7 : ∃ (s : State) (m : PtpMsg) (t3 : Nat) (t2 : Nat) (t1 : Int),
    s.timUp = true ∧ s.timFromParent m = true ∧ m.port < 4 ∧ s.tim.reqs.toList.getD m.port none = some (m.seq, t3) ∧ s.tim.t12 = some (m.port, t1, t2) ∧ s.fget TIM_STAT_STEPPED = 1 :=
  ⟨(tTim (fun x => { x with reqs := #v[none, none, some (8, 3500), none], t12 := some (2, 3000, 3400) })).fset TIM_STAT_STEPPED 1, tMsg, 3500, 3400, 3000, by decide +kernel⟩

theorem witness_TimeUnit_8 : ∃ (s : State) (m : PtpMsg) (n : Nat),
    s.timUp = true ∧ m.port < 4 ∧ s.fget TIM_CFG_MODE = 1 ∧ s.fget (TIM_PORT_n_CFG_P2P m.port) = 1 ∧ m.l2 = s.flag TIM_CFG_L2 ∧ s.fget (TIM_PORT_n_CFG_ONESTEP m.port) = 1 :=
  ⟨((tTim id).fset (TIM_PORT_n_CFG_P2P 2) 1).fset (TIM_PORT_n_CFG_ONESTEP 2) 1, tMsg, 7, by decide +kernel⟩

theorem witness_TimeUnit_9 : ∃ (s : State) (m : PtpMsg) (n : Nat),
    s.timUp = true ∧ m.port < 4 ∧ s.fget TIM_CFG_MODE = 1 ∧ s.fget (TIM_PORT_n_CFG_P2P m.port) = 1 ∧ m.l2 = s.flag TIM_CFG_L2 ∧ s.fget (TIM_PORT_n_CFG_ONESTEP m.port) = 0 :=
  ⟨(tTim id).fset (TIM_PORT_n_CFG_P2P 2) 1, tMsg, 7, by decide +kernel⟩

theorem witness_TimeUnit_10 : ∃ (s : State) (m : PtpMsg) (q : Nat),
    s.timUp = true ∧ m.port < 4 ∧ s.fget TIM_CFG_MODE = 1 ∧ s.fget (TIM_PORT_n_CFG_P2P m.port) = 1 ∧ m.l2 = s.flag TIM_CFG_L2 ∧ s.tim.reqs.toList.getD m.port none = some (m.seq, q) :=
  ⟨(tTim (fun x => { x with reqs := #v[none, none, some (8, 3500), none] })).fset (TIM_PORT_n_CFG_P2P 2) 1, tMsg, 3500, by decide +kernel⟩

theorem witness_TimeUnit_11 : ∃ (s : State) (m : PtpMsg) (q : Nat) (k : Nat),
    s.tim.reqs.toList.getD m.port none = some (k, q) ∧ k ≠ m.seq :=
  ⟨(tTim (fun x => { x with reqs := #v[none, none, some (8, 3500), none] })).fset (TIM_PORT_n_CFG_P2P 2) 1, { tMsg with seq := 9 }, 3500, 8, by decide +kernel⟩

theorem witness_TimeUnit_12 : ∃ (s : State) (m : PtpMsg) (r : PtpMsg) (arr : Nat) (q : Nat),
    s.timUp = true ∧ m.port < 4 ∧ s.fget TIM_CFG_MODE = 1 ∧ s.fget (TIM_PORT_n_CFG_P2P m.port) = 1 ∧ m.l2 = s.flag TIM_CFG_L2 ∧ s.tim.reqs.toList.getD m.port none = some (m.seq, q) ∧ s.tim.pdelay.toList.getD m.port none = some (r, arr) ∧ r.seq = m.seq ∧ r.clock = m.clock :=
  ⟨(tTim (fun x => { x with reqs := #v[none, none, some (8, 3500), none], pdelay := #v[none, none, some (tMsg, 9000), none] })).fset (TIM_PORT_n_CFG_P2P 2) 1, { tMsg with ts := 4100 }, tMsg, 9000, 3500, by decide +kernel⟩

theorem witness_TimeUnit_13 : ∃ (s : State) (m : Announce),
    s.timUp = true ∧ s.fget TIM_CFG_MODE = 1 ∧ m.domain = s.fget TIM_CFG_DOMAIN ∧ m.l2 = s.flag TIM_CFG_L2 ∧ m.port < 4 ∧ s.tim.masters = [] ∧ s.tim.parent = none :=
  ⟨tTim (fun _ => .reset), { tAnn with steps := 300 }, by decide +kernel⟩

theorem witness_TimeUnit_14 : ∃ (s : State) (m : Announce) (a : Announce),
    s.timUp = true ∧ s.fget TIM_CFG_MODE = 1 ∧ m.domain = s.fget TIM_CFG_DOMAIN ∧ m.l2 = s.flag TIM_CFG_L2 ∧ m.port < 4 ∧ a.port < 4 ∧ s.tim.masters = [a] ∧ s.tim.parent = some a ∧ m.clock ≠ a.clock ∧ m.prio1 ≠ a.prio1 :=
  ⟨tTim id, { tAnn with clock := 5, prio1 := 99 }, tAnn, by decide +kernel⟩

theorem witness_TimeUnit_15 : ∃ (s : State) (a : Announce),
    s.timUp = true ∧ s.fget TIM_CFG_MODE = 1 ∧ s.tim.parent = some a ∧ s.tim.masters = [a] ∧ (s.fget TIM_STAT_STATE = 1 ∨ s.fget TIM_STAT_STATE = 2) :=
  ⟨(tTim id).fset TIM_STAT_STATE 2, tAnn, by decide +kernel⟩

theorem witness_TimeUnit_16 : ∃ (s : State) (r : Int),
    s.timUp = true ∧ s.fget TIM_CFG_MODE = 2 ∧ s.fget TIM_STAT_STEPPED = 1 ∧ s.tim.acceptJump = false ∧ (wholeOffset s.now.trainNs).natAbs ≤ 1000 ∧ (wholeOffset s.now.trainNs).natAbs ≤ s.fget TIM_JUMP_MAX_NS ∧ s.fget TIM_CFG_REFIN = 1 ∧ s.tim.within = 7 ∧ s.fget TIM_STAT_STATE ≠ 2 :=
  ⟨((((tTim (fun x => { x with within := 7 })).fset TIM_CFG_MODE 2).fset TIM_STAT_STEPPED 1).fset TIM_CFG_REFIN 1).fset TIM_JUMP_MAX_NS 1000, -200001, by decide +kernel⟩

theorem witness_TimeUnit_17 : ∃ (s : State) (r : Int),
    s.timUp = true ∧ s.fget TIM_CFG_MODE = 2 ∧ s.fget TIM_STAT_STEPPED = 1 ∧ s.tim.acceptJump = false ∧ s.fget TIM_JUMP_MAX_NS < (wholeOffset s.now.trainNs).natAbs ∧ s.tim.beyond = 2 ∧ s.fget TIM_STAT_STATE = 2 :=
  ⟨(((tTim (fun x => { x with beyond := 2 })).fset TIM_CFG_MODE 2).fset TIM_STAT_STEPPED 1).fset TIM_STAT_STATE 2 |>.fset TIM_JUMP_MAX_NS 299, 5, by decide +kernel⟩

theorem witness_TimeUnit_18 : ∃ (s : State) (r : Int),
    s.timUp = true ∧ s.fget TIM_CFG_MODE = 2 ∧ s.fget TIM_STAT_STEPPED = 1 ∧ s.tim.acceptJump = true :=
  ⟨((tTim (fun x => { x with acceptJump := true })).fset TIM_CFG_MODE 2).fset TIM_STAT_STEPPED 1, 5, by decide +kernel⟩

theorem witness_TimeUnit_19 : ∃ (s : State) (r : Int),
    s.timUp = true ∧ s.fget TIM_CFG_MODE = 2 ∧ s.fget TIM_STAT_STEPPED = 0 :=
  ⟨((tTim (fun x => { x with secset := true })).fset TIM_CFG_MODE 2).fset TIM_SECSET_SEC 0xFFFFFFFF, 5, by decide +kernel⟩

theorem witness_TimeUnit_20 : ∃ (s : State),
    s.timUp = true ∧ s.fget TIM_CFG_MODE = 2 ∧ (s.fget TIM_STAT_STATE = 1 ∨ s.fget TIM_STAT_STATE = 2) :=
  ⟨((tTim id).fset TIM_CFG_MODE 2).fset TIM_STAT_STATE 1, by decide +kernel⟩

theorem witness_TimeUnit_21 : ∃ (s : State),
    s.fget TIM_STAT_STATE = 3 :=
  ⟨(tTim id).fset TIM_STAT_STATE 3, by decide +kernel⟩

theorem witness_TimeUnit_22 : ∃ (s : State),
    s.timUp = true :=
  ⟨(tTim id).fset TIM_CFG_MODE 2, by decide +kernel⟩

theorem witness_TimeUnit_23 : ∃ (s : State) (k : BitVec 8),
    s.timUp = true ∧ k ≠ 0x71 :=
  ⟨tTim id, 0x70, by decide +kernel⟩

theorem witness_TimeUnit_24 : ∃ (s : State) (m : PtpMsg),
    s.timUp = true ∧ s.timFromParent m = true ∧ m.twoStep = false :=
  ⟨tTim id, tMsg, by decide +kernel⟩

theorem witness_TimeUnit_25 : ∃ (s : State) (m : PtpMsg) (y : PtpMsg) (arr : Nat),
    s.timUp = true ∧ s.timFromParent m = true ∧ s.tim.sync = some (y, arr) ∧ y.seq = m.seq ∧ y.port = m.port :=
  ⟨tTim (fun x => { x with sync := some (tMsg, 4321) }), tMsg, tMsg, 4321, by decide +kernel⟩

theorem witness_TimeUnit_26 : ∃ (s : State) (m : PtpMsg) (y : PtpMsg) (d : Int) (arr : Nat),
    s.timUp = true ∧ s.timFromParent m = true ∧ s.tim.sync = some (y, arr) ∧ y.seq = m.seq ∧ y.port = m.port ∧ s.timDelay m.port = some d ∧ s.fget TIM_STAT_STEPPED = 0 :=
  ⟨tTim (fun x => { x with sync := some (tMsg, 4321), delay := #v[none, none, some 100, none] }), tMsg, tMsg, 100, 4321, by decide +kernel⟩

theorem witness_TimeUnit_27 : ∃ (s : State) (m : PtpMsg) (d : Int),
    s.timUp = true ∧ s.timFromParent m = true ∧ m.twoStep = false ∧ s.timDelay m.port = some d ∧ s.fget TIM_STAT_STEPPED = 1 ∧ s.tim.acceptJump = false ∧ ((s.now.trainNs : Int) - (m.ts + m.corr) - d).natAbs ≤ s.fget TIM_JUMP_MAX_NS :=
  ⟨((tTim (fun x => { x with delay := #v[none, none, some 100, none] })).fset TIM_STAT_STEPPED 1).fset TIM_JUMP_MAX_NS 0xFFFFFFFF, { tMsg with ts := 5000000100 }, 100, by decide +kernel⟩

theorem witness_TimeUnit_28 : ∃ (s : State) (m : PtpMsg) (d : Int),
    s.timUp = true ∧ s.timFromParent m = true ∧ m.twoStep = false ∧ s.timDelay m.port = some d ∧ s.fget TIM_STAT_STEPPED = 1 ∧ s.tim.acceptJump = false ∧ s.fget TIM_JUMP_MAX_NS < ((s.now.trainNs : Int) - (m.ts + m.corr) - d).natAbs :=
  ⟨((tTim (fun x => { x with delay := #v[none, none, some 100, none] })).fset TIM_STAT_STEPPED 1), tMsg, 100, by decide +kernel⟩

theorem witness_TimeUnit_29 : ∃ (s : State) (m : PtpMsg) (y : PtpMsg) (arr : Nat),
    (s.tim.sync = none ∨ (s.tim.sync = some (y, arr) ∧ (s.timUp = false ∨ y.seq ≠ m.seq ∨ y.port ≠ m.port))) :=
  ⟨tTim id, tMsg, tMsg, 7, by decide +kernel⟩

theorem witness_TimeUnit_30 : ∃ (s : State) (m : PtpMsg) (n : Nat),
    s.timUp = false :=
  ⟨tRun, tMsg, 5, by decide +kernel⟩

theorem witness_TimeUnit_31 : ∃ (s : State) (port : Nat),
    (s.timUp = false ∨ s.fget TIM_CFG_MODE ≠ 1 ∨ 4 ≤ port ∨ (s.fget (TIM_PORT_n_CFG_P2P port) = 0 ∧ ∀ a, s.tim.parent = some a → a.port ≠ port)) :=
  ⟨tTim id, 3, by decide +kernel⟩

theorem witness_TimeUnit_32 : ∃ (s : State) (m : PtpMsg) (t3 : Nat) (t2 : Nat) (t1 : Int) (d : Int),
    s.timUp = true ∧ s.timFromParent m = true ∧ m.port < 4 ∧ s.tim.reqs.toList.getD m.port none = some (m.seq, t3) ∧ s.tim.t12 = some (m.port, t1, t2) ∧ s.fget TIM_STAT_STEPPED = 0 ∧ d = (((t2 : Int) - t1) + ((m.ts : Int) - m.corr - t3)) / 2 :=
  ⟨tTim (fun x => { x with reqs := #v[none, none, some (8, 3500), none], t12 := some (2, 3000, 3400) }), tMsg, 3500, 3400, 3000, 451, by decide +kernel⟩

theorem witness_TimeUnit_33 : ∃ (s : State) (m : PtpMsg),
    (s.timUp = false ∨ s.timFromParent m = false ∨ s.tim.t12 = none ∨ s.tim.reqs.toList.getD m.port none = none) :=
  ⟨tTim id, tMsg, by decide +kernel⟩

theorem witness_TimeUnit_34 : ∃ (s : State) (m : PtpMsg) (n : Nat),
    (4 ≤ m.port ∨ s.fget TIM_CFG_MODE ≠ 1 ∨ s.fget (TIM_PORT_n_CFG_P2P m.port) = 0 ∨ m.l2 ≠ s.flag TIM_CFG_L2) :=
  ⟨tTim id, tMsg, 5, by decide +kernel⟩

theorem witness_TimeUnit_35 : ∃ (s : State) (m : PtpMsg),
    (s.timUp = false ∨ s.tim.pdelay.toList.getD m.port none = none ∨ s.tim.reqs.toList.getD m.port none = none) :=
  ⟨tTim id, tMsg, by decide +kernel⟩

theorem witness_TimeUnit_36 : ∃ (s : State) (m : Announce),
    s.timUp = true ∧ s.fget TIM_CFG_MODE = 1 ∧ m.domain = s.fget TIM_CFG_DOMAIN ∧ m.l2 = s.flag TIM_CFG_L2 :=
  ⟨tTim id, { tAnn with clock := 5 }, by decide +kernel⟩

theorem witness_TimeUnit_37 : ∃ (s : State) (m : Announce) (b : Announce),
    s.timUp = true ∧ s.fget TIM_CFG_MODE = 1 ∧ m.domain = s.fget TIM_CFG_DOMAIN ∧ m.l2 = s.flag TIM_CFG_L2 ∧ b.port < 4 ∧ (bestMaster (s.tim.masters.filter (fun a => ¬(a.clock = m.clock ∧ a.port = m.port)) ++ [m]) = some b) :=
  ⟨tTim id, { tAnn with clock := 5 }, { tAnn with clock := 5 }, by decide +kernel⟩

theorem witness_TimeUnit_38 : ∃ (s : State) (m : Announce),
    (s.timUp = false ∨ s.fget TIM_CFG_MODE ≠ 1 ∨ m.domain ≠ s.fget TIM_CFG_DOMAIN ∨ m.l2 ≠ s.flag TIM_CFG_L2) :=
  ⟨tTim id, { tAnn with domain := 5 }, by decide +kernel⟩

theorem witness_TimeUnit_39 : ∃ (s : State) (a : Announce),
    s.timUp = true ∧ s.fget TIM_CFG_MODE = 1 ∧ s.tim.parent = some a :=
  ⟨(tTim id).fset TIM_STAT_STATE 1, tAnn, by decide +kernel⟩

theorem witness_TimeUnit_40 : ∃ (s : State),
    (s.timUp = false ∨ s.fget TIM_CFG_MODE ≠ 1 ∨ s.tim.parent = none) :=
  ⟨tTim (fun x => { x with parent := none }), by decide +kernel⟩

theorem witness_TimeUnit_41 : ∃ (s : State) (r : Int),
    s.timUp = true ∧ s.fget TIM_CFG_MODE = 2 ∧ s.fget TIM_STAT_STEPPED = 1 :=
  ⟨((tTim id).fset TIM_CFG_MODE 2).fset TIM_STAT_STEPPED 1, 5, by decide +kernel⟩

theorem witness_TimeUnit_42 : ∃ (s : State) (r : Int),
    (s.timUp = false ∨ s.fget TIM_CFG_MODE ≠ 2) :=
  ⟨tTim id, 5, by decide +kernel⟩

theorem witness_TimeUnit_43 : ∃ (s : State),
    s.timUp = true ∧ s.fget TIM_CFG_MODE = 2 ∧ s.fget TIM_STAT_STATE ≠ 1 ∧ s.fget TIM_STAT_STATE ≠ 2 :=
  ⟨(tTim id).fset TIM_CFG_MODE 2, by decide +kernel⟩

theorem witness_TimeUnit_44 : ∃ (s : State),
    s.fget TIM_STAT_STATE ≠ 3 :=
  ⟨tTim id, by decide +kernel⟩

theorem witness_TimeUnit_45 : ∃ (s : State) (k : BitVec 8),
    s.unitDown 0x22 = true :=
  ⟨tRun, 0x71, by decide +kernel⟩

theorem witness_CanControllers_1 : ∃ (s : State) (n : BitVec 2),
    s.canUp n.toNat = true ∧ s.canState n.toNat = 1 :=
  ⟨tOn.fset (CAN_n_STAT_STATE 3) 1, 3, by decide +kernel⟩

theorem witness_CanControllers_2 : ∃ (s : State) (n : BitVec 2) (f : CanFrame) (i : Nat) (e : CanFilt),
    s.canHears n.toNat = true ∧ f.fdf = false ∧ f.rtr = false ∧ s.fget (CAN_n_STAT_REC n.toNat) = 0 ∧ canMatch (canFilters (s.canCtl n.toNat).filter) f = some (i, e) ∧ e.dest = 2 ∧ e.slot < 64 :=
  ⟨tCanWith 1 (fun c => { c with sofUs := 9, filter := tFilt 2 63 }), 1, tCanF, 0, { lo := 0x100, hi := 0x1FF, mat := 2, ext := false, dest := 2, slot := 63 }, by decide +kernel⟩

theorem witness_CanControllers_3 : ∃ (s : State) (n : BitVec 2) (f : CanFrame) (i : Nat) (e : CanFilt),
    s.canHears n.toNat = true ∧ f.fdf = false ∧ f.rtr = false ∧ s.fget (CAN_n_STAT_REC n.toNat) = 0 ∧ canMatch (canFilters (s.canCtl n.toNat).filter) f = some (i, e) ∧ e.dest = 1 ∧ s.fget (CAN_n_FIFOSTAT_FILL n.toNat) < 32 :=
  ⟨(tCanWith 0 (fun c => { c with filter := tFilt 1 0 })).fset (CAN_n_FIFOSTAT_FILL 0) 31, 0, tCanF, 0, { lo := 0x100, hi := 0x1FF, mat := 2, ext := false, dest := 1, slot := 0 }, by decide +kernel⟩

theorem witness_CanControllers_4 : ∃ (s : State) (n : BitVec 2) (b : Nat),
    s.canUp n.toNat = true ∧ s.canState n.toNat = 2 ∧ b < 3 ∧ (∀ c : Nat, c < 3 → (s.canSt n.toNat c = 1 ↔ c = b)) ∧ (∀ c : Nat, c < 3 → s.canSt n.toNat c ≠ 2) :=
  ⟨(tCan 2).fset (CAN_n_TXSTAT_ST 2 1) 1, 2, 1, by decide +kernel⟩

theorem witness_CanControllers_5 : ∃ (s : State) (n : BitVec 2),
    s.canUp n.toNat = true ∧ s.canState n.toNat = 7 :=
  ⟨(tCan 2).fset (CAN_n_STAT_STATE 2) 7, 2, by decide +kernel⟩

theorem witness_CanControllers_6 : ∃ (s : State) (n : BitVec 2) (b : Nat) (delay : Nat),
    s.canUp n.toNat = true ∧ ((s.canMeasures n.toNat = true → delay ≤ 63 * s.canQuantum n.toNat)) ∧ b < 3 ∧ (∀ c : Nat, c < 3 → (s.canSt n.toNat c = 2 ↔ c = b)) ∧ (s.canItem n.toNat b).next = none ∧ s.canState n.toNat = 2 ∧ s.fget (CAN_n_STAT_TEC n.toNat) ≤ 128 ∧ s.fget (CAN_n_STAT_REC n.toNat) < 128 :=
  ⟨((tCan 3).fset (CAN_n_TXSTAT_ST 3 2) 2).fset (CAN_n_STAT_TEC 3) 128, 3, 2, 5, by decide +kernel⟩

theorem witness_CanControllers_7 : ∃ (s : State) (n : BitVec 2) (b : Nat) (delay : Nat) (e : CanTxEnd),
    s.canUp n.toNat = true ∧ ((s.canMeasures n.toNat = true → delay ≤ 63 * s.canQuantum n.toNat)) ∧ b < 3 ∧ (∀ c : Nat, c < 3 → (s.canSt n.toNat c = 2 ↔ c = b)) ∧ (s.canItem n.toNat b).next = none ∧ e ≠ .sent :=
  ⟨(tCan 3).fset (CAN_n_TXSTAT_ST 3 0) 2, 3, 0, 5, .lost, by decide +kernel⟩

theorem witness_CanControllers_8 : ∃ (s : State) (n : BitVec 2),
    s.canUp n.toNat = true ∧ s.canState n.toNat = 2 ∧ s.fget (CAN_n_STAT_REC n.toNat) < 128 ∧ s.fget (CAN_n_STAT_TEC n.toNat) + 8 < 256 :=
  ⟨(tCan 1).fset (CAN_n_STAT_TEC 1) 119, 1, by decide +kernel⟩

theorem witness_CanControllers_9 : ∃ (s : State) (n : BitVec 2),
    s.canUp n.toNat = true ∧ s.canState n.toNat = 3 ∧ 256 ≤ s.fget (CAN_n_STAT_TEC n.toNat) + 8 ∧ (∀ b : Nat, b < 3 → s.canSt n.toNat b ≠ 1 ∧ s.canSt n.toNat b ≠ 2) :=
  ⟨((tCan 1).fset (CAN_n_STAT_TEC 1) 248).fset (CAN_n_STAT_STATE 1) 3, 1, by decide +kernel⟩

theorem witness_CanControllers_10 : ∃ (s : State) (n : BitVec 2),
    s.canUp n.toNat = true ∧ s.canState n.toNat = 4 :=
  ⟨(tCan 2).fset (CAN_n_STAT_STATE 2) 4, 2, by decide +kernel⟩

theorem witness_CanControllers_11 : ∃ (s : State) (n : BitVec 2) (k : BitVec 8),
    s.canUp n.toNat = true ∧ (k ≠ 0x4B ∨ s.canState n.toNat ≠ 4) :=
  ⟨tCan 2, 2, 0x4B, by decide +kernel⟩

theorem witness_CanControllers_12 : ∃ (s : State) (n : BitVec 2),
    s.canUp n.toNat = true ∧ s.canState n.toNat = 5 :=
  ⟨((tCan 2).fset (CAN_n_STAT_STATE 2) 5).fset (CAN_n_TXSTAT_ST 2 1) 4, 2, by decide +kernel⟩

theorem witness_CanControllers_13 : ∃ (s : State) (n : BitVec 2) (b : Nat),
    s.canUp n.toNat = true ∧ b < 3 :=
  ⟨(tCan 2).fset (CAN_n_TXSTAT_ST 2 2) 1, 2, 2, by decide +kernel⟩

theorem witness_CanControllers_14 : ∃ (s : State) (n : BitVec 2),
    s.canUp n.toNat = true ∧ s.fget (CAN_n_FIFOSTAT_FILL n.toNat) ≠ 0 :=
  ⟨((tCan 2).fset (CAN_n_FIFOSTAT_FILL 2) 5).fset (CAN_n_FIFOSTAT_GET 2) 31, 2, by decide +kernel⟩

theorem witness_CanControllers_15 : ∃ (s : State) (n : BitVec 2) (a : Bool),
    s.canUp n.toNat = true ∧ s.fget (CAN_n_FIFOSTAT_FILL n.toNat) = 0 :=
  ⟨tCan 2, 2, true, by decide +kernel⟩

theorem witness_CanControllers_16 : ∃ (s : State) (n : BitVec 2),
    s.canUp n.toNat = true ∧ s.canState n.toNat = 6 :=
  ⟨(tCan 2).fset (CAN_n_STAT_STATE 2) 6, 2, by decide +kernel⟩

theorem witness_CanControllers_17 : ∃ (s : State) (n : BitVec 2),
    (s.canUp n.toNat = false ∨ (s.canState n.toNat ≠ 1 ∧ s.canState n.toNat ≠ 6)) :=
  ⟨tCan 2, 2, by decide +kernel⟩

theorem witness_CanControllers_18 : ∃ (s : State) (n : BitVec 2) (f : CanFrame),
    s.canHears n.toNat = true ∧ ((f.fdf = true → s.fget (CAN_n_CFG_FD_EN n.toNat) = 1)) :=
  ⟨tCan 2, 2, tCanF, by decide +kernel⟩

theorem witness_CanControllers_19 : ∃ (s : State) (n : BitVec 2) (f : CanFrame),
    s.canHears n.toNat = true ∧ (f.fdf = false ∨ s.fget (CAN_n_CFG_FD_EN n.toNat) = 1) ∧ s.fget (CAN_n_STAT_REC n.toNat) = 0 ∧ ((f.rtr = true ∧ s.fget (CAN_n_CFG_REJ_RTR n.toNat) = 1) ∨ (canMatch (canFilters (s.canCtl n.toNat).filter) f = none ∧ s.fget (CAN_n_CFG_NONMATCH n.toNat) = 0)) :=
  ⟨tCan 2, 2, tCanF, by decide +kernel⟩

theorem witness_CanControllers_20 : ∃ (s : State) (n : BitVec 2) (f : CanFrame),
    s.canHears n.toNat = true ∧ (f.fdf = false ∨ s.fget (CAN_n_CFG_FD_EN n.toNat) = 1) ∧ ((f.rtr = true ∧ s.fget (CAN_n_CFG_REJ_RTR n.toNat) = 1)) ∧ s.canState n.toNat = 2 ∧ 1 ≤ s.fget (CAN_n_STAT_REC n.toNat) ∧ s.fget (CAN_n_STAT_REC n.toNat) ≤ 127 ∧ s.fget (CAN_n_STAT_TEC n.toNat) < 128 :=
  ⟨((tCan 2).fset (CAN_n_STAT_REC 2) 9).fset (CAN_n_CFG_REJ_RTR 2) 1, 2, { tCanF with rtr := true }, by decide +kernel⟩

theorem witness_CanControllers_21 : ∃ (s : State) (n : BitVec 2) (f : CanFrame),
    (s.canHears n.toNat = false ∨ (f.fdf = true ∧ s.fget (CAN_n_CFG_FD_EN n.toNat) = 0)) :=
  ⟨tCan 2, 2, { tCanF with fdf := true }, by decide +kernel⟩

theorem witness_CanControllers_22 : ∃ (s : State) (n : BitVec 2) (b : Nat),
    s.canHears n.toNat = true ∧ (s.canState n.toNat = 2 ∨ s.canState n.toNat = 3) ∧ s.canSuspended n.toNat = false ∧ s.canArb n.toNat = none ∧ s.canChoose n.toNat = some b ∧ b < 3 :=
  ⟨((tCan 2).fset (CAN_n_TXSTAT_ST 2 1) 1).fset (CAN_n_TXSTAT_ST 2 2) 1, 2, 1, by decide +kernel⟩

theorem witness_CanControllers_23 : ∃ (s : State) (n : BitVec 2),
    s.canHears n.toNat = true ∧ ((s.canState n.toNat ≠ 2 ∧ s.canState n.toNat ≠ 3) ∨ s.canSuspended n.toNat = true ∨ s.canArb n.toNat ≠ none ∨ s.canChoose n.toNat = none) :=
  ⟨tCan 2, 2, by decide +kernel⟩

theorem witness_CanControllers_24 : ∃ (s : State) (n : BitVec 2) (e : CanErr),
    s.canHears n.toNat = false :=
  ⟨tRun, 2, .receiver, by decide +kernel⟩

theorem witness_CanControllers_25 : ∃ (s : State) (n : BitVec 2) (e : CanTxEnd) (b : Nat) (delay : Nat),
    s.canUp n.toNat = true ∧ ((s.canMeasures n.toNat = true → delay ≤ 63 * s.canQuantum n.toNat)) ∧ s.canArb n.toNat = some b :=
  ⟨(tCan 3).fset (CAN_n_TXSTAT_ST 3 2) 2, 3, .sent, 2, 5, by decide +kernel⟩

theorem witness_CanControllers_26 : ∃ (s : State) (n : BitVec 2) (e : CanTxEnd) (b : Nat) (delay : Nat),
    s.canUp n.toNat = true ∧ e ≠ .lost ∧ s.canMeasures n.toNat = true ∧ 63 * s.canQuantum n.toNat < delay ∧ s.canArb n.toNat = some b ∧ s.canState n.toNat = 2 ∧ s.fget (CAN_n_STAT_REC n.toNat) < 128 ∧ s.fget (CAN_n_STAT_TEC n.toNat) + 8 < 128 ∧ (s.canItem n.toNat b).next = none ∧ (s.canItem n.toNat b).cancel = false :=
  ⟨((tCanWith 3 (fun c => { c with tx := some { tCanF with fdf := true, brs := true } })).fset (CAN_n_DBT_TDC 3) 1).fset (CAN_n_TXSTAT_ST 3 2) 2, 3, .sent, 2, 64, by decide +kernel⟩

theorem witness_CanControllers_27 : ∃ (s : State) (n : BitVec 2) (e : CanTxEnd) (delay : Nat),
    s.canUp n.toNat = true ∧ ((s.canMeasures n.toNat = true → delay ≤ 63 * s.canQuantum n.toNat)) ∧ s.canArb n.toNat = none :=
  ⟨tCan 3, 3, .sent, 5, by decide +kernel⟩

theorem witness_CanControllers_28 : ∃ (s : State) (n : BitVec 2) (e : CanTxEnd) (delay : Nat),
    s.canUp n.toNat = false :=
  ⟨tRun, 3, .sent, 5, by decide +kernel⟩

theorem witness_CanControllers_29 : ∃ (s : State) (n : BitVec 2) (e : CanErr),
    s.canHears n.toNat = true :=
  ⟨tCan 1, 1, .receiver, by decide +kernel⟩

theorem witness_CanControllers_30 : ∃ (s : State) (n : BitVec 2),
    s.canUp n.toNat = true ∧ s.canState n.toNat = 2 ∧ s.fget (CAN_n_STAT_TEC n.toNat) < 128 ∧ s.fget (CAN_n_STAT_REC n.toNat) + 8 < 128 :=
  ⟨(tCan 1).fset (CAN_n_STAT_REC 1) 119, 1, by decide +kernel⟩

theorem witness_CanControllers_31 : ∃ (s : State) (n : BitVec 2) (k : BitVec 8) (m : BitVec 3) (a : Bool),
    s.canUp n.toNat = false :=
  ⟨tRun, 2, 0x4B, 7, true, by decide +kernel⟩

theorem witness_CanControllers_32 : ∃ (s : State) (n : BitVec 2),
    s.canState n.toNat ≠ 5 :=
  ⟨tCan 2, 2, by decide +kernel⟩

theorem witness_CanControllers_33 : ∃ (s : State) (n : BitVec 2) (m : BitVec 3),
    s.canUp n.toNat = true :=
  ⟨((tCan 2).fset (CAN_n_TXSTAT_ST 2 2) 1).fset (CAN_n_TXSTAT_ST 2 1) 2, 2, 7, by decide +kernel⟩

theorem witness_CanControllers_34 : ∃ (s : State) (n : BitVec 2) (b : Nat),
    s.canUp n.toNat = true ∧ b < 3 ∧ s.canSt n.toNat b ≠ 1 ∧ s.canSt n.toNat b ≠ 2 ∧ s.canSt n.toNat b ≠ 4 :=
  ⟨(tCan 2).fset (CAN_n_TXSTAT_ST 2 2) 3, 2, 2, by decide +kernel⟩

theorem witness_CanControllers_35 : ∃ (s : State) (n : BitVec 2),
    s.canUp n.toNat = true ∧ s.fget (CAN_n_FIFOSTAT_FILL n.toNat) ≠ 0 :=
  ⟨(tCan 2).fset (CAN_n_FIFOSTAT_FILL 2) 5, 2, by decide +kernel⟩

theorem witness_DroveCyclesAndReferences_1 : ∃ (s : State) (ch : Bool) (u : DrvRef),
    s.drvUp = true ∧ s.drvState (bitNat ch) = 4 ∧ (s.drvCh (bitNat ch)).used = some u ∧ (s.drvCh (bitNat ch)).passiveNext = false ∧ s.fget (DRV_n_STAT_MISSCNT (bitNat ch)) < s.drvRefMiss (bitNat ch) :=
  ⟨tDrv 1 4 (fun d => { d with used := some { start := 8, cyc := 1, rank := 2 }, heard := 7 }) |>.fset (DRV_n_CYC_CYC 1) 65535, true, { start := 8, cyc := 1, rank := 2 }, by decide +kernel⟩

theorem witness_DroveCyclesAndReferences_2 : ∃ (s : State) (ch : Bool),
    s.drvUp = true ∧ s.drvState (bitNat ch) = 4 ∧ (s.drvCh (bitNat ch)).used = none ∧ (s.drvCh (bitNat ch)).passiveNext = false ∧ s.fget (DRV_n_STAT_MISSCNT (bitNat ch)) < 15 :=
  ⟨tDrv 0 4 id |>.fset (DRV_n_STAT_MISSCNT 0) 1, false, by decide +kernel⟩

theorem witness_DroveCyclesAndReferences_3 : ∃ (s : State) (ch : Bool),
    s.drvLive (bitNat ch) = true ∧ s.drvState (bitNat ch) = 4 ∧ s.drvRank (bitNat ch) < 4 ∧ s.drvNode (bitNat ch) < 32 ∧ (s.drvCh (bitNat ch)).used = none ∧ s.crookOpen (bitNat ch) (s.drvRank (bitNat ch) * s.drvRstep (bitNat ch)) (s.refStart (bitNat ch) (s.drvRank (bitNat ch))) = true :=
  ⟨tDrv 1 4 (fun d => { d with heardPrev := 0x200 }), true, by decide +kernel⟩

theorem witness_DroveCyclesAndReferences_4 : ∃ (s : State) (ch : Bool) (u : DrvRef),
    s.drvLive (bitNat ch) = true ∧ s.drvState (bitNat ch) = 4 ∧ s.drvRank (bitNat ch) ≠ 0xFF ∧ (s.drvCh (bitNat ch)).used = some u :=
  ⟨tDrv 0 4 (fun d => { d with used := some { start := 8, cyc := 1, rank := 2 } }), false, { start := 8, cyc := 1, rank := 2 }, by decide +kernel⟩

theorem witness_DroveCyclesAndReferences_5 : ∃ (s : State) (ch : Bool),
    s.drvLive (bitNat ch) = true ∧ s.drvState (bitNat ch) = 4 ∧ s.drvRank (bitNat ch) ≠ 0xFF ∧ (s.drvCh (bitNat ch)).used.all (fun u => s.drvRank (bitNat ch) ≤ u.rank) = true ∧ s.crookOpen (bitNat ch) (s.drvRank (bitNat ch) * s.drvRstep (bitNat ch)) (s.refStart (bitNat ch) (s.drvRank (bitNat ch))) = false :=
  ⟨tDrv 0 4 (fun d => { d with c := 5000, marks := [400000, 0] }), false, by decide +kernel⟩

theorem witness_DroveCyclesAndReferences_6 : ∃ (s : State) (ch : Bool),
    s.drvLive (bitNat ch) = true ∧ s.drvState (bitNat ch) = 2 ∧ (s.drvCh (bitNat ch)).coldWin = true :=
  ⟨tDrv 0 2 (fun d => { d with coldWin := true }), false, by decide +kernel⟩

theorem witness_DroveCyclesAndReferences_7 : ∃ (s : State) (ch : Bool),
    s.drvLive (bitNat ch) = true ∧ s.drvState (bitNat ch) = 2 ∧ (s.drvCh (bitNat ch)).coldWin = false ∧ (s.drvCh (bitNat ch)).marks = [] ∧ (s.drvCh (bitNat ch)).blocks = [] ∧ s.drvRank (bitNat ch) ≠ 0 :=
  ⟨tDrv 0 2 id, false, by decide +kernel⟩

theorem witness_DroveCyclesAndReferences_8 : ∃ (s : State) (ch : Bool) (f : DroveFrame),
    s.drvUp = true ∧ f.coding = false ∧ s.drvCrcOk (bitNat ch) f = true ∧ frSlot f = 0 ∧ frLen f = 4 ∧ s.drvState (bitNat ch) = 1 ∧ (s.drvCh (bitNat ch)).first = none :=
  ⟨tDrv 1 1 id, true, tDf 0x21 0 7 9000 [1, 2, 3, 4], by decide +kernel⟩

theorem witness_DroveCyclesAndReferences_9 : ∃ (s : State) (ch : Bool) (f : DroveFrame),
    s.drvUp = true ∧ frKind f = 1 ∧ f.coding = false ∧ s.drvCrcOk (bitNat ch) f = false ∧ s.drvState (bitNat ch) = 1 :=
  ⟨tDrv 1 1 id, true, { tDf 0x21 0 7 9000 [1, 2, 3, 4] with bytes := [0x21, 9] }, by decide +kernel⟩

theorem witness_DroveCyclesAndReferences_10 : ∃ (s : State) (ch : Bool),
    s.drvLive (bitNat ch) = true ∧ s.drvState (bitNat ch) = 1 ∧ s.drvRank (bitNat ch) ≠ 0xFF ∧ (s.drvCh (bitNat ch)).coldWin = true :=
  ⟨tDrv 1 1 (fun d => { d with coldWin := true }), true, by decide +kernel⟩

theorem witness_DroveCyclesAndReferences_11 : ∃ (s : State) (ch : Bool),
    s.drvLive (bitNat ch) = true ∧ s.drvState (bitNat ch) = 4 :=
  ⟨tDrv 1 4 id, true, by decide +kernel⟩

theorem witness_DroveCyclesAndReferences_12 : ∃ (s : State) (ch : Bool),
    s.drvLive (bitNat ch) = true ∧ s.drvState (bitNat ch) = 4 :=
  ⟨tDrv 1 4 (fun d => { d with total := 20, blocks := [4, 5, 6] }), true, by decide +kernel⟩

theorem witness_DroveCyclesAndReferences_13 : ∃ (s : State) (ch : Bool),
    s.drvLive (bitNat ch) = true ∧ s.drvState (bitNat ch) = 1 ∧ s.drvRank (bitNat ch) ≠ 0xFF :=
  ⟨tDrv 1 1 (fun d => { d with marks := [5] }), true, by decide +kernel⟩

theorem witness_DroveCyclesAndReferences_14 : ∃ (s : State) (ch : Bool),
    s.drvUp = true :=
  ⟨tDrv 1 4 id, true, by decide +kernel⟩

theorem witness_DroveCyclesAndReferences_15 : ∃ (s : State) (k : BitVec 8) (m : BitVec 2),
    s.drvUp = true ∧ k ≠ 0x3D :=
  ⟨tDrv 0 4 id, 0x3C, 3, by decide +kernel⟩

theorem witness_DroveCyclesAndReferences_16 : ∃ (s : State) (ch : Bool),
    s.drvUp = true :=
  ⟨tDrv 0 4 id, false, by decide +kernel⟩

theorem witness_DroveCyclesAndReferences_17 : ∃ (s : State) (ch : Bool) (f : DroveFrame),
    s.drvUp = false :=
  ⟨tRun, true, tDf 0x21 0 7 9000 [1, 2, 3, 4], by decide +kernel⟩

theorem witness_DroveCyclesAndReferences_18 : ∃ (s : State) (ch : Bool),
    (s.drvState (bitNat ch) = 0 ∨ s.drvState (bitNat ch) = 6) :=
  ⟨tDrv 0 6 id, false, by decide +kernel⟩

theorem witness_DroveCyclesAndReferences_19 : ∃ (s : State) (ch : Bool),
    s.drvState (bitNat ch) ≠ 4 :=
  ⟨tDrv 0 1 id, false, by decide +kernel⟩

theorem witness_DroveCyclesAndReferences_20 : ∃ (s : State) (ch : Bool),
    s.drvRank (bitNat ch) = 0xFF :=
  ⟨tSect tOn 7 0 (tSched.set 18 0xFF), false, by decide +kernel⟩

theorem witness_DroveCyclesAndReferences_21 : ∃ (s : State) (ch : Bool),
    s.drvLive (bitNat ch) = true ∧ s.drvState (bitNat ch) = 2 ∧ ((s.drvCh (bitNat ch)).coldWin = true ∨ (s.crookSync (bitNat ch) = true ∧ s.crookOpen (bitNat ch) (s.drvRank (bitNat ch) * s.drvRstep (bitNat ch)) (s.refStart (bitNat ch) (s.drvRank (bitNat ch))) = true)) :=
  ⟨tDrv 0 2 (fun d => { d with coldWin := true }), false, by decide +kernel⟩

theorem witness_DroveCyclesAndReferences_22 : ∃ (s : State) (ch : Bool),
    s.drvLive (bitNat ch) = true ∧ s.drvState (bitNat ch) = 2 ∧ (s.drvCh (bitNat ch)).coldWin = false ∧ (s.crookSync (bitNat ch) = false ∨ s.crookOpen (bitNat ch) (s.drvRank (bitNat ch) * s.drvRstep (bitNat ch)) (s.refStart (bitNat ch) (s.drvRank (bitNat ch))) = false) :=
  ⟨tDrv 0 2 id, false, by decide +kernel⟩

theorem witness_DroveCyclesAndReferences_23 : ∃ (s : State) (ch : Bool),
    s.drvState (bitNat ch) ≠ 2 :=
  ⟨tDrv 0 4 id, false, by decide +kernel⟩

theorem witness_DroveCyclesAndReferences_24 : ∃ (s : State) (ch : Bool) (f : DroveFrame),
    s.drvUp = true :=
  ⟨tDrv 0 4 id, false, tDf 0x21 0 7 9000 [1, 2, 3, 4], by decide +kernel⟩

theorem witness_DroveCyclesAndReferences_25 : ∃ (s : State) (ch : Bool) (f : DroveFrame),
    s.drvUp = true ∧ s.drvState (bitNat ch) = 4 ∧ f.coding = false ∧ s.drvCrcOk (bitNat ch) f = true ∧ frSlot f = 0 ∧ frLen f = 4 ∧ frKind f = 1 ∧ s.drvPlace (bitNat ch) f.start (s.refStart (bitNat ch) (frRank f)) 4 = 0 ∧ (s.drvCh (bitNat ch)).used = none :=
  ⟨tDrv 1 4 (fun d => { d with c := 9000 }), true, tDf 0x01 0 7 9000 [1, 2, 3, 4], by decide +kernel⟩

theorem witness_DroveCyclesAndReferences_26 : ∃ (s : State) (ch : Bool) (f : DroveFrame),
    s.drvUp = true ∧ (s.drvState (bitNat ch) = 0 ∨ s.drvState (bitNat ch) = 6 ∨ (frKind f ≠ 1 ∧ frKind f ≠ 3)) :=
  ⟨tDrv 0 6 id, false, tDf 0x21 0 7 9000 [1, 2, 3, 4], by decide +kernel⟩

theorem witness_DroveCyclesAndReferences_27 : ∃ (s : State) (ch : Bool),
    s.drvLive (bitNat ch) = true ∧ s.drvState (bitNat ch) = 1 ∧ s.drvRank (bitNat ch) ≠ 0xFF :=
  ⟨tDrv 1 1 id, true, by decide +kernel⟩

theorem witness_DroveCyclesAndReferences_28 : ∃ (s : State) (ch : Bool),
    s.drvState (bitNat ch) ≠ 1 :=
  ⟨tDrv 1 4 id, true, by decide +kernel⟩

theorem witness_DroveCyclesAndReferences_29 : ∃ (s : State) (ch : Bool),
    s.drvLive (bitNat ch) = true ∧ s.drvState (bitNat ch) = 2 ∧ s.drvRank (bitNat ch) ≠ 0 :=
  ⟨tDrv 0 2 id, false, by decide +kernel⟩

theorem witness_DroveCyclesAndReferences_30 : ∃ (s : State) (ch : Bool),
    s.drvState (bitNat ch) ≠ 2 ∧ s.drvState (bitNat ch) ≠ 4 :=
  ⟨tDrv 1 1 id, true, by decide +kernel⟩

theorem witness_DroveCyclesAndReferences_31 : ∃ (s : State) (ch : Bool),
    s.drvLive (bitNat ch) = true :=
  ⟨tDrv 1 1 (fun d => { d with total := 20, blocks := [4, 5, 6] }), true, by decide +kernel⟩

theorem witness_DroveCyclesAndReferences_32 : ∃ (s : State) (ch : Bool),
    s.drvLive (bitNat ch) = true ∧ s.drvRank (bitNat ch) ≠ 0xFF ∧ (s.drvState (bitNat ch) ≠ 2 ∨ s.crookSync (bitNat ch) = false) :=
  ⟨tDrv 1 2 (fun d => { d with marks := [5] }), true, by decide +kernel⟩

theorem witness_DroveCyclesAndReferences_33 : ∃ (s : State) (m : BitVec 2),
    s.drvUp = true :=
  ⟨tDrv 1 4 id, 3, by decide +kernel⟩

theorem witness_DroveCyclesAndReferences_34 : ∃ (s : State) (k : BitVec 8) (m : BitVec 2),
    s.drvUp = false :=
  ⟨tRun, 0x3D, 3, by decide +kernel⟩

theorem witness_DroveSlots_1 : ∃ (s : State) (ch : Bool) (k : Nat) (bs : List Byte),
    s.drvLive (bitNat ch) = true ∧ s.ownSlot (bitNat ch) k = true ∧ k < 64 ∧ s.pubRead (s.drvWin (bitNat ch) k) (s.slotLen (bitNat ch) k) = (s, some bs) :=
  ⟨tDrv 0 4 (fun d => { d with slots := vecUpd d.slots 1 (fun y => { y with handed := true, qual := true }) }), false, 1, [0, 0], by decide +kernel⟩

theorem witness_DroveSlots_2 : ∃ (s : State) (ch : Bool) (k : Nat),
    s.drvLive (bitNat ch) = true ∧ s.ownSlot (bitNat ch) k = true ∧ k < 64 ∧ (((s.drvCh (bitNat ch)).slots.toList.getD k .reset).handed = false ∨ (s.pubRead (s.drvWin (bitNat ch) k) (s.slotLen (bitNat ch) k)).2 = none) :=
  ⟨tDrv 0 4 id, false, 1, by decide +kernel⟩

theorem witness_DroveSlots_3 : ∃ (s : State) (ch : Bool) (k : Nat),
    (s.drvLive (bitNat ch) = false ∨ s.ownSlot (bitNat ch) k = false) :=
  ⟨tDrv 0 4 id, false, 2, by decide +kernel⟩

theorem witness_DroveSlots_4 : ∃ (s : State) (ch : Bool) (k : Nat),
    s.drvLive (bitNat ch) = true ∧ s.ownSlot (bitNat ch) k = true ∧ (s.drvState (bitNat ch) = 4 ∨ s.drvState (bitNat ch) = 2) ∧ s.crookOpen (bitNat ch) (s.slotOfs (bitNat ch) k) (s.slotStart (bitNat ch) k) = true :=
  ⟨tDrv 0 4 id, false, 1, by decide +kernel⟩

theorem witness_DroveSlots_5 : ∃ (s : State) (ch : Bool) (k : Nat),
    s.drvLive (bitNat ch) = true ∧ s.ownSlot (bitNat ch) k = true ∧ (s.drvState (bitNat ch) = 4 ∨ s.drvState (bitNat ch) = 2) ∧ s.crookOpen (bitNat ch) (s.slotOfs (bitNat ch) k) (s.slotStart (bitNat ch) k) = true ∧ ((s.drvCh (bitNat ch)).slots.toList.getD k .reset).buf.length = s.slotLen (bitNat ch) k :=
  ⟨tDrv 0 4 (fun d => { d with slots := vecUpd d.slots 1 (fun y => { y with buf := [7, 8], bufQ := true }) }), false, 1, by decide +kernel⟩

theorem witness_DroveSlots_6 : ∃ (s : State) (ch : Bool) (k : Nat),
    s.drvLive (bitNat ch) = true ∧ s.ownSlot (bitNat ch) k = true ∧ (s.drvState (bitNat ch) = 4 ∨ s.drvState (bitNat ch) = 2) ∧ s.crookOpen (bitNat ch) (s.slotOfs (bitNat ch) k) (s.slotStart (bitNat ch) k) = false :=
  ⟨tDrv 0 4 (fun d => { d with c := 5000, marks := [400000, 0] }), false, 1, by decide +kernel⟩

theorem witness_DroveSlots_7 : ∃ (s : State) (ch : Bool) (k : Nat),
    s.drvState (bitNat ch) = 5 :=
  ⟨tDrv 0 5 id, false, 1, by decide +kernel⟩

theorem witness_DroveSlots_8 : ∃ (s : State) (ch : Bool) (f : DroveFrame),
    s.drvUp = true :=
  ⟨tDrv 1 4 id, true, tDf 0x42 2 7 2 [1, 2, 3], by decide +kernel⟩

theorem witness_DroveSlots_9 : ∃ (s : State) (ch : Bool) (f : DroveFrame),
    (s.drvUp = false ∨ (s.drvState (bitNat ch) ≠ 2 ∧ s.drvState (bitNat ch) ≠ 4 ∧ s.drvState (bitNat ch) ≠ 5)) :=
  ⟨tDrv 1 1 id, true, tDf 0x42 2 7 2 [1, 2, 3], by decide +kernel⟩

theorem witness_DroveSlots_10 : ∃ (s : State) (ch : Bool) (k : Nat) (f : DroveFrame),
    s.drvUp = true ∧ s.drvState (bitNat ch) = 4 ∧ s.drvFind (bitNat ch) f.start = some (k, 0) ∧ k < 64 ∧ f.coding = false ∧ s.drvCrcOk (bitNat ch) f = true ∧ frKind f = 2 ∧ frSlot f = k ∧ frNode f = s.slotOwner (bitNat ch) k ∧ frLen f = s.slotLen (bitNat ch) k ∧ frCyc f = s.fget (DRV_n_CYC_CYC (bitNat ch)) ∧ s.ownSlot (bitNat ch) k = false :=
  ⟨tDrv 1 4 id |>.fset (DRV_n_CYC_CYC 1) 7, true, 2, tDf 0x42 2 7 32016 [1, 2, 3], by decide +kernel⟩

theorem witness_DroveSlots_11 : ∃ (s : State) (ch : Bool) (k : Nat) (f : DroveFrame),
    s.drvUp = true ∧ s.drvState (bitNat ch) = 2 ∧ s.drvFind (bitNat ch) f.start = some (k, 0) ∧ k < 64 ∧ f.coding = false ∧ s.drvCrcOk (bitNat ch) f = true ∧ frKind f = 2 ∧ frSlot f = k ∧ frNode f = s.slotOwner (bitNat ch) k ∧ frLen f = s.slotLen (bitNat ch) k ∧ frCyc f = s.fget (DRV_n_CYC_CYC (bitNat ch)) ∧ s.ownSlot (bitNat ch) k = false :=
  ⟨tDrv 1 2 id |>.fset (DRV_n_CYC_CYC 1) 7, true, 2, tDf 0x42 2 7 32016 [1, 2, 3], by decide +kernel⟩

theorem witness_DroveSlots_12 : ∃ (s : State) (ch : Bool) (f : DroveFrame),
    s.drvUp = true ∧ s.drvState (bitNat ch) = 4 ∧ s.drvFind (bitNat ch) f.start = none :=
  ⟨tDrv 1 4 id, true, tDf 0x42 2 7 2 [1, 2, 3], by decide +kernel⟩

theorem witness_DroveSlots_13 : ∃ (s : State) (ch : Bool) (k : Nat) (f : DroveFrame),
    s.drvUp = true ∧ s.drvState (bitNat ch) = 4 ∧ s.drvFind (bitNat ch) f.start = some (k, 1) ∧ k < 64 :=
  ⟨tDrv 1 4 (fun d => { d with c := 100 }), true, 2, tDf 0x42 2 7 32050 [1, 2, 3], by decide +kernel⟩

theorem witness_FoldTransfers_1 : ∃ (s : State),
    s.flkUp = true :=
  ⟨tFold 3 2 id, by decide +kernel⟩

theorem witness_FoldTransfers_2 : ∃ (s : State) (f : FoldFrame),
    s.unitDown 0x2D = false ∧ s.fget SYS_PINSTAT_MODE ≠ 1 ∧ s.fget FLK_STAT_FWD = 1 ∧ s.foldMine f = false ∧ foHop f < 18 :=
  ⟨tFold 3 2 id, ⟨foldBytes 1 1 3 1 5 17 [1, 2, 3, 0xF]⟩, by decide +kernel⟩

theorem witness_FoldTransfers_3 : ∃ (s : State) (f : FoldFrame),
    foCrcOk f = true ∧ s.fget SYS_PINSTAT_MODE ≠ 1 ∧ (18 ≤ foHop f ∨ s.foldMine f = true) :=
  ⟨tFold 3 2 id, ⟨foldBytes 1 1 3 1 5 18 [1, 2, 3, 0xF]⟩, by decide +kernel⟩

theorem witness_FoldTransfers_4 : ∃ (s : State) (k : Nat) (tag : BitVec 8),
    k < 16 ∧ (s.fst k).quar.contains tag.toNat = true ∧ s.flk.waitTag = [] ∧ noFetch s = true :=
  ⟨tFoldSt 15 2 (fun x => { x with quar := [4, 9, 5] }), 15, 9, by decide +kernel⟩

theorem witness_FoldTransfers_5 : ∃ (s : State) (f : FoldFrame) (i : HubItem),
    s.flkUp = true ∧ foCrcOk f = true ∧ foKind f = 3 ∧ foCtrl f = s.fget FLK_CFG_CTRL ∧ (foBody f).length = 10 ∧ s.foldPending (foSt f) (foTs f % 256) = some i ∧ s.flk.waitTag = [] ∧ i.named = true ∧ i.kind ≠ 9 ∧ noFetch s = true ∧ leAt (foBody f) 0 1 % 8 = 0 :=
  ⟨tFold 3 2 (fun b => { b with reads := [(2, 5, tHub), (3, 5, tHub)] }), tFf 3 3 5 [0, 0, 1, 2, 3, 4, 5, 6, 7, 8], tHub, by decide +kernel⟩

theorem witness_FoldTransfers_6 : ∃ (s : State) (f : FoldFrame),
    s.flkUp = true ∧ foCrcOk f = true ∧ foKind f = 3 ∧ foCtrl f = s.fget FLK_CFG_CTRL ∧ (foBody f).length = 10 ∧ s.foldPending (foSt f) (foTs f % 256) = none ∧ (s.fst (foSt f)).quar.contains (foTs f % 256) = true ∧ s.flk.waitTag = [] ∧ noFetch s = true :=
  ⟨tFoldSt 3 2 (fun x => { x with quar := [5] }), tFf 3 3 5 [0, 0, 1, 2, 3, 4, 5, 6, 7, 8], by decide +kernel⟩

theorem witness_FoldTransfers_7 : ∃ (s : State) (k : Nat) (tag : BitVec 8) (i : HubItem),
    k < 16 ∧ s.foldPending k tag.toNat = some i ∧ i.named = true ∧ i.kind ≠ 9 ∧ noFetch s = true :=
  ⟨tFold 3 2 (fun b => { b with reads := [(3, 5, tHub)] }), 3, 5, tHub, by decide +kernel⟩

theorem witness_FoldTransfers_8 : ∃ (s : State) (f : FoldFrame),
    s.flkUp = true ∧ foCrcOk f = true ∧ foKind f = 4 ∧ foCtrl f = s.fget FLK_CFG_CTRL ∧ (foBody f).length = 0 :=
  ⟨tFoldSt 3 2 (fun x => { x with writes := [(65535, 8), (0, 8), (1, 16)] }), tFf 4 3 0 [], by decide +kernel⟩

theorem witness_FoldTransfers_9 : ∃ (s : State) (f : FoldFrame) (a : Nat),
    s.flkUp = true ∧ foCrcOk f = true ∧ foKind f = 5 ∧ foCtrl f = s.fget FLK_CFG_CTRL ∧ (foBody f).length = 4 ∧ (s.fst (foSt f)).writes = [(foTs f, a)] ∧ s.flk.log = [] :=
  ⟨tFoldSt 3 2 (fun x => { x with writes := [(7, 8)] }), tFf 5 3 7 [6, 0, 0, 0], 8, by decide +kernel⟩

theorem witness_FoldTransfers_10 : ∃ (s : State) (k : Nat) (q : BitVec 16) (a : Nat),
    k < 16 ∧ (s.fst k).writes = [(q.toNat, a)] ∧ s.flk.log = [] :=
  ⟨tFoldSt 15 2 (fun x => { x with writes := [(65535, 0xFFFFF8)] }), 15, 65535, 0xFFFFF8, by decide +kernel⟩

theorem witness_FoldTransfers_11 : ∃ (s : State) (e : LateErr),
    s.unitDown 0x2D = false ∧ s.flk.log = [e] :=
  ⟨(tFold 3 2 (fun b => { b with log := [⟨1, 2, 3, 4, 5⟩] })).fset FLK_LELSTAT_FILL 1, ⟨1, 2, 3, 4, 5⟩, by decide +kernel⟩

theorem witness_FoldTransfers_12 : ∃ (s : State),
    s.unitDown 0x2D = false ∧ s.flk.log = [] :=
  ⟨tFold 3 2 id, by decide +kernel⟩

theorem witness_FoldTransfers_13 : ∃ (s : State) (m : BitVec 16),
    s.unitDown 0x2D = false :=
  ⟨((tFold 3 2 id).fset (FLK_ST_k_DEGRADED 3) 1).fset (FLK_ST_k_DEGRADED 15) 1, 0x8000, by decide +kernel⟩

theorem witness_FoldTransfers_14 : ∃ (s : State) (n : BitVec 4) (w : Initiator),
    s.unitDown 0x2D = false ∧ s.fget (FLK_SEMCFG_n_EN n.toNat) = 1 ∧ semClass w ≠ 0 ∧ s.fget (FLK_SEM_n_HELD n.toNat) = 0 :=
  ⟨(tFold 3 2 id).fset (FLK_SEMCFG_n_EN 15) 1, 15, .update, by decide +kernel⟩

theorem witness_FoldTransfers_15 : ∃ (s : State) (n : BitVec 4) (w : Initiator),
    s.unitDown 0x2D = false ∧ (s.fget (FLK_SEMCFG_n_EN n.toNat) = 0 ∨ (s.fget (FLK_SEM_n_HELD n.toNat) = 1 ∧ s.fget (FLK_SEM_n_HOLDER n.toNat) ≠ semClass w)) :=
  ⟨((tFold 3 2 id).fset (FLK_SEMCFG_n_EN 15) 1).fset (FLK_SEM_n_HELD 15) 1 |>.fset (FLK_SEM_n_HOLDER 15) 2, 15, .update, by decide +kernel⟩

theorem witness_FoldTransfers_16 : ∃ (s : State) (n : BitVec 4) (w : Initiator),
    s.unitDown 0x2D = false ∧ s.flk.waitSem = [] ∧ noFetch s = true :=
  ⟨((tFold 3 2 id).fset (FLK_SEM_n_HELD 15) 1).fset (FLK_SEM_n_HOLDER 15) 3, 15, .update, by decide +kernel⟩

theorem witness_FoldTransfers_17 : ∃ (s : State) (n : BitVec 4),
    s.fget (FLK_SEM_n_HELD n.toNat) = 1 ∧ s.flk.waitSem = [] ∧ noFetch s = true :=
  ⟨((tFold 3 2 id).fset (FLK_SEM_n_HELD 0) 1).fset (FLK_SEM_n_HOLDER 0) 3, 0, by decide +kernel⟩

theorem witness_FoldTransfers_18 : ∃ (s : State),
    s.flkUp = false :=
  ⟨tRun, by decide +kernel⟩

theorem witness_FoldTransfers_19 : ∃ (s : State) (f : FoldFrame),
    s.flkUp = false :=
  ⟨tRun, tFf 3 3 5 [1], by decide +kernel⟩

theorem witness_FoldTransfers_20 : ∃ (s : State) (f : FoldFrame),
    s.flkUp = true ∧ foCrcOk f = false :=
  ⟨tFold 3 2 id, ⟨[0x11, 3, 1, 0, 5, 0, 17, 0, 1, 2, 3, 0xF, 4, 4, 4, 4]⟩, by decide +kernel⟩

theorem witness_FoldTransfers_21 : ∃ (s : State) (f : FoldFrame),
    s.flkUp = true ∧ foCrcOk f = true ∧ foCtrl f ≠ s.fget FLK_CFG_CTRL :=
  ⟨tFold 3 2 id, ⟨foldBytes 3 1 3 1 0 3 [0]⟩, by decide +kernel⟩

theorem witness_FoldTransfers_22 : ∃ (s : State) (f : FoldFrame),
    s.unitDown 0x2D = false ∧ s.fget FLK_STAT_FWD = 1 ∧ s.fget SYS_PINSTAT_MODE = 1 :=
  ⟨(tFold 3 2 id).fset SYS_PINSTAT_MODE 1, ⟨foldBytes 1 1 3 1 5 17 [1, 2, 3, 0xF]⟩, by decide +kernel⟩

theorem witness_FoldTransfers_23 : ∃ (s : State) (f : FoldFrame),
    (s.unitDown 0x2D = true ∨ s.fget FLK_STAT_FWD = 0) :=
  ⟨tOn, tFf 3 3 5 [1], by decide +kernel⟩

theorem witness_FoldTransfers_24 : ∃ (s : State) (st : BitVec 4) (tag : BitVec 8),
    (s.fst st.toNat).quar.contains tag.toNat = true :=
  ⟨tFoldSt 15 2 (fun x => { x with quar := [4, 9, 5] }), 15, 9, by decide +kernel⟩

theorem witness_FoldTransfers_25 : ∃ (s : State) (st : BitVec 4) (tag : BitVec 8),
    (s.fst st.toNat).quar.contains tag.toNat = false :=
  ⟨tFold 3 2 id, 15, 9, by decide +kernel⟩

theorem witness_FoldTransfers_26 : ∃ (s : State) (f : FoldFrame) (i : HubItem),
    s.flkUp = true ∧ foCrcOk f = true ∧ foKind f = 3 ∧ foCtrl f = s.fget FLK_CFG_CTRL ∧ (foBody f).length = 10 ∧ s.foldPending (foSt f) (foTs f % 256) = some i :=
  ⟨tFold 3 2 (fun b => { b with reads := [(2, 5, tHub), (3, 5, tHub)] }), tFf 3 3 5 [0, 0, 1, 2, 3, 4, 5, 6, 7, 8], tHub, by decide +kernel⟩

theorem witness_FoldTransfers_27 : ∃ (s : State) (f : FoldFrame),
    s.flkUp = true ∧ foCrcOk f = true ∧ foKind f = 3 ∧ foCtrl f = s.fget FLK_CFG_CTRL ∧ (foBody f).length = 10 ∧ s.foldPending (foSt f) (foTs f % 256) = none ∧ (s.fst (foSt f)).quar.contains (foTs f % 256) = false :=
  ⟨tFold 3 2 id, tFf 3 3 5 [0, 0, 1, 2, 3, 4, 5, 6, 7, 8], by decide +kernel⟩

theorem witness_FoldTransfers_28 : ∃ (s : State) (st : BitVec 4) (tag : BitVec 8) (i : HubItem),
    s.foldPending st.toNat tag.toNat = some i :=
  ⟨tFold 3 2 (fun b => { b with reads := [(3, 5, tHub)] }), 3, 5, tHub, by decide +kernel⟩

theorem witness_FoldTransfers_29 : ∃ (s : State) (st : BitVec 4) (tag : BitVec 8),
    s.foldPending st.toNat tag.toNat = none :=
  ⟨tFold 3 2 id, 3, 5, by decide +kernel⟩

theorem witness_FoldTransfers_30 : ∃ (s : State) (f : FoldFrame) (w : Nat × Nat),
    s.flkUp = true ∧ foCrcOk f = true ∧ foKind f = 5 ∧ foCtrl f = s.fget FLK_CFG_CTRL ∧ (foBody f).length = 4 ∧ (s.fst (foSt f)).writes.find? (fun w => w.1 = foTs f) = some w :=
  ⟨tFoldSt 3 2 (fun x => { x with writes := [(6, 4), (7, 8)] }), tFf 5 3 7 [6, 0, 0, 0], (7, 8), by decide +kernel⟩

theorem witness_FoldTransfers_31 : ∃ (s : State) (f : FoldFrame),
    s.flkUp = true ∧ foCrcOk f = true ∧ foKind f = 5 ∧ foCtrl f = s.fget FLK_CFG_CTRL ∧ (foBody f).length = 4 ∧ (s.fst (foSt f)).writes.find? (fun w => w.1 = foTs f) = none :=
  ⟨tFold 3 2 id, tFf 5 3 7 [6, 0, 0, 0], by decide +kernel⟩

theorem witness_FoldTransfers_32 : ∃ (s : State) (st : BitVec 4) (q : BitVec 16) (w : Nat × Nat),
    (s.fst st.toNat).writes.find? (fun w => w.1 = q.toNat) = some w :=
  ⟨tFoldSt 15 2 (fun x => { x with writes := [(5, 6), (65535, 0xFFFFF8)] }), 15, 65535, (65535, 0xFFFFF8), by decide +kernel⟩

theorem witness_FoldTransfers_33 : ∃ (s : State) (st : BitVec 4) (q : BitVec 16),
    (s.fst st.toNat).writes.find? (fun w => w.1 = q.toNat) = none :=
  ⟨tFold 3 2 id, 15, 65535, by decide +kernel⟩

theorem witness_FoldTransfers_34 : ∃ (s : State) (e : LateErr) (d : LateErr) (l : List LateErr),
    s.unitDown 0x2D = false ∧ s.flk.log = e :: d :: l ∧ l.length < 31 :=
  ⟨(tFold 3 2 (fun b => { b with log := [⟨1, 2, 3, 4, 5⟩, ⟨6, 7, 1, 9, 0⟩] })).fset FLK_LELSTAT_FILL 2, ⟨1, 2, 3, 4, 5⟩, ⟨6, 7, 1, 9, 0⟩, [], by decide +kernel⟩

theorem witness_FoldTransfers_35 : ∃ (s : State),
    s.unitDown 0x2D = false :=
  ⟨tFold 3 2 id, by decide +kernel⟩

theorem witness_FoldTransfers_36 : ∃ (s : State) (b : Bool) (m : BitVec 16) (n : BitVec 4) (w : Initiator),
    s.unitDown 0x2D = true :=
  ⟨tRun, true, 1, 2, .update, by decide +kernel⟩

theorem witness_FoldTransfers_37 : ∃ (s : State) (n : BitVec 4) (w : Initiator),
    s.unitDown 0x2D = false ∧ s.fget (FLK_SEMCFG_n_EN n.toNat) = 1 ∧ semClass w ≠ 0 ∧ s.fget (FLK_SEM_n_HELD n.toNat) = 1 ∧ s.fget (FLK_SEM_n_HOLDER n.toNat) = semClass w :=
  ⟨(((tFold 3 2 id).fset (FLK_SEMCFG_n_EN 15) 1).fset (FLK_SEM_n_HELD 15) 1).fset (FLK_SEM_n_HOLDER 15) 3, 15, .update, by decide +kernel⟩

theorem witness_FoldTransfers_38 : ∃ (s : State) (n : BitVec 4) (w : Initiator),
    s.unitDown 0x2D = false ∧ semClass w = 0 :=
  ⟨(tFold 3 2 id).fset (FLK_SEMCFG_n_EN 15) 1, 15, .debug, by decide +kernel⟩

theorem witness_FoldTransfers_39 : ∃ (s : State) (n : BitVec 4) (w : Initiator),
    s.unitDown 0x2D = false ∧ s.fget (FLK_SEM_n_HELD n.toNat) = 1 ∧ s.fget (FLK_SEM_n_HOLDER n.toNat) = semClass w :=
  ⟨((tFold 3 2 id).fset (FLK_SEM_n_HELD 15) 1).fset (FLK_SEM_n_HOLDER 15) 3, 15, .update, by decide +kernel⟩

theorem witness_FoldTransfers_40 : ∃ (s : State) (n : BitVec 4) (w : Initiator),
    s.unitDown 0x2D = false ∧ (s.fget (FLK_SEM_n_HELD n.toNat) = 0 ∨ s.fget (FLK_SEM_n_HOLDER n.toNat) ≠ semClass w) :=
  ⟨((tFold 3 2 id).fset (FLK_SEM_n_HELD 15) 1).fset (FLK_SEM_n_HOLDER 15) 2, 15, .update, by decide +kernel⟩

theorem witness_FoldTransfers_41 : ∃ (s : State) (n : BitVec 4),
    s.fget (FLK_SEM_n_HELD n.toNat) = 1 :=
  ⟨((tFold 3 2 id).fset (FLK_SEM_n_HELD 0) 1).fset (FLK_SEM_n_HOLDER 0) 3, 0, by decide +kernel⟩

theorem witness_FoldTransfers_42 : ∃ (s : State) (n : BitVec 4),
    s.fget (FLK_SEM_n_HELD n.toNat) = 0 :=
  ⟨tFold 3 2 id, 0, by decide +kernel⟩

theorem witness_FoldStations_1 : ∃ (s : State) (k : Nat),
    s.flkUp = true ∧ s.foldStations = [k] ∧ (s.fstate k ≠ 1 ∧ s.fstate k ≠ 2 ∨ s.flk.supOut = false) :=
  ⟨tFold 3 4 (fun b => { b with supOut := true }), 3, by decide +kernel⟩

theorem witness_FoldStations_2 : ∃ (s : State) (k : Nat),
    s.flkUp = true ∧ s.foldStations = [k] ∧ s.fstate k = 2 ∧ s.flk.supOut = true ∧ s.fget FLK_CFG_LOSS_N ≤ (s.fst k).miss + 1 ∧ s.flk.load = none :=
  ⟨(tFoldSt 3 2 (fun x => { x with miss := 2 })).fset FLK_CFG_LOSS_N 3 |>.flkUpd (fun b => { b with supOut := true }), 3, by decide +kernel⟩

theorem witness_FoldStations_3 : ∃ (s : State) (f : FoldFrame) (k : Nat),
    s.flkUp = true ∧ foCrcOk f = true ∧ foKind f = 10 ∧ foCtrl f = s.fget FLK_CFG_CTRL ∧ (foBody f).length = 8 ∧ s.foldStations = [k] ∧ k < 16 ∧ s.fstate k = 2 ∧ leAt (foBody f) 4 1 = 0 ∧ 2 ≤ bitsOf (leAt (foBody f) 0 4) (2 * k) 2 :=
  ⟨tFoldSt 15 2 (fun x => { x with miss := 2 }), tFf 10 0 0 [0, 0, 0, 0xC0, 0, 0, 0, 0], 15, by decide +kernel⟩

theorem witness_FoldStations_4 : ∃ (s : State),
    s.flkUp = true ∧ (s.foldStations.filter (fun k => s.fstate k = 2)) = [] :=
  ⟨tFold 3 1 id, by decide +kernel⟩

theorem witness_FoldStations_5 : ∃ (s : State) (k : Nat),
    s.flkUp = true ∧ (s.foldStations.filter (fun k => s.fstate k = 2)) = [k] ∧ s.inWords k ≠ 0 ∧ (s.fst k).out = none :=
  ⟨tFold 3 2 id, 3, by decide +kernel⟩

theorem witness_FoldStations_6 : ∃ (s : State) (f : FoldFrame) (k : Nat),
    s.flkUp = true ∧ foCrcOk f = true ∧ foKind f = 7 ∧ foCtrl f = s.fget FLK_CFG_CTRL ∧ (foBody f).length = 8 + 4 * s.inWords k ∧ foSt f = k ∧ s.foldEn k = true ∧ s.fstate k = 2 :=
  ⟨tFold 3 2 id, tFf 7 3 0 [3, 0, 0, 0, 0, 0, 0, 0, 1, 2, 3, 4, 5, 6, 7, 8], 3, by decide +kernel⟩

theorem witness_FoldStations_7 : ∃ (s : State) (f : FoldFrame) (k : Nat),
    s.flkUp = true ∧ foCrcOk f = true ∧ foKind f = 9 ∧ foCtrl f = s.fget FLK_CFG_CTRL ∧ (foBody f).length = 4 ∧ foSt f = k :=
  ⟨tFoldSt 3 2 (fun x => { x with live := { x.live with msgs := 0xFFFFFFFF } }), tFf 9 3 0 [1, 2, 3, 4], 3, by decide +kernel⟩

theorem witness_FoldStations_8 : ∃ (s : State),
    s.flkUp = true ∧ s.cyc.started = true ∧ s.flk.enumDue = true ∧ s.flk.enumRun = false :=
  ⟨{ tFold 3 0 (fun b => { b with enumDue := true }) with cyc := { tOn.cyc with started := true } }, by decide +kernel⟩

theorem witness_FoldStations_9 : ∃ (s : State) (f : FoldFrame),
    s.flkUp = true ∧ foCrcOk f = true ∧ foKind f = 11 ∧ foCtrl f = s.fget FLK_CFG_CTRL ∧ (foBody f).length = 12 ∧ s.flk.enumRun = true ∧ leAt (foBody f) 0 8 = 0 :=
  ⟨tFold 3 0 (fun b => { b with enumRun := true }), tFf 11 0 0 (List.replicate 12 0), by decide +kernel⟩

theorem witness_FoldStations_10 : ∃ (s : State) (f : FoldFrame) (k : Nat),
    s.flkUp = true ∧ foCrcOk f = true ∧ foKind f = 11 ∧ foCtrl f = s.fget FLK_CFG_CTRL ∧ (foBody f).length = 12 ∧ s.flk.enumRun = true ∧ leAt (foBody f) 0 8 ≠ 0 ∧ s.uidEntry (leAt (foBody f) 0 8) = some k ∧ k < 16 ∧ s.boot.act.foldF k 24 4 = 0 ∧ s.fstate k = 0 :=
  ⟨tFold 3 0 (fun b => { b with enumRun := true }), tFf 11 0 0 [9, 0, 0, 0, 0, 0, 0, 1, 2, 0, 9, 0xD], 3, by decide +kernel⟩

theorem witness_FoldStations_11 : ∃ (s : State) (k : Nat),
    s.flkUp = true ∧ k < 16 ∧ s.flk.load = none ∧ s.foldStations.find? (fun j => s.fstate j = 1) = some k ∧ (s.stImage k).length ≤ 128 ∧ s.stImage k ≠ [] :=
  ⟨tSect (tFold 3 1 id) 15 3 [1, 2, 3], 3, by decide +kernel⟩

theorem witness_FoldStations_12 : ∃ (s : State) (f : FoldFrame) (l : FlkLoad),
    s.flkUp = true ∧ foCrcOk f = true ∧ foKind f = 15 ∧ foCtrl f = s.fget FLK_CFG_CTRL ∧ (foBody f).length = 8 ∧ s.flk.load = some l ∧ l.st = foSt f ∧ l.started = true ∧ leAt (foBody f) 0 1 = 0 :=
  ⟨tFold 3 1 (fun b => { b with load := some ⟨3, 1, true, false, true⟩ }), tFf 15 3 0 (List.replicate 8 0), ⟨3, 1, true, false, true⟩, by decide +kernel⟩

theorem witness_FoldStations_13 : ∃ (s : State) (k : Nat) (l : FlkLoad),
    k < 16 ∧ s.flk.load = some l ∧ l.st = k ∧ l.started = true :=
  ⟨tFold 3 1 (fun b => { b with load := some ⟨3, 1, true, false, true⟩ }), 3, ⟨3, 1, true, false, true⟩, by decide +kernel⟩

theorem witness_FoldStations_14 : ∃ (s : State) (k : Nat) (l : FlkLoad),
    k < 16 ∧ s.flkUp = true ∧ s.foldEn k = true ∧ s.flk.load = some l ∧ l.st = k :=
  ⟨tFold 3 1 (fun b => { b with load := some ⟨3, 1, true, false, true⟩ }), 3, ⟨3, 1, true, false, true⟩, by decide +kernel⟩

theorem witness_FoldStations_15 : ∃ (s : State) (k : Nat),
    k < 16 ∧ s.flkUp = true ∧ s.foldEn k = true ∧ (s.fst k).numbered = true :=
  ⟨tFoldSt 3 5 (fun x => { x with numbered := true }), 3, by decide +kernel⟩

theorem witness_FoldStations_16 : ∃ (s : State) (key : BitVec 8) (k : Nat),
    s.flkUp = true ∧ key ≠ 0x2F :=
  ⟨tFold 3 5 id, 0x2E, 3, by decide +kernel⟩

theorem witness_FoldStations_17 : ∃ (s : State),
    s.flkUp = true ∧ s.flk.supOut = false :=
  ⟨tFold 3 4 id, by decide +kernel⟩

theorem witness_FoldStations_18 : ∃ (s : State),
    s.flkUp = true ∧ s.flk.supOut = true :=
  ⟨tFold 3 4 (fun b => { b with supOut := true }), by decide +kernel⟩

theorem witness_FoldStations_19 : ∃ (s : State) (f : FoldFrame),
    s.flkUp = true ∧ foCrcOk f = true ∧ foKind f = 10 ∧ foCtrl f = s.fget FLK_CFG_CTRL ∧ (foBody f).length = 8 :=
  ⟨tFoldSt 15 2 (fun x => { x with miss := 2 }), tFf 10 0 0 [0, 0, 0, 0xC0, 1, 0, 0, 0], by decide +kernel⟩

theorem witness_FoldStations_20 : ∃ (s : State),
    s.flkUp = true :=
  ⟨tFold 3 2 id, by decide +kernel⟩

theorem witness_FoldStations_21 : ∃ (s : State) (k : Nat) (q : Nat) (qual : Nat) (ws : List Nat),
    s.flkUp = true ∧ (s.foldStations.filter (fun k => s.fstate k = 2)) = [k] ∧ s.inWords k = 0 ∧ (s.fst k).out = some (q, qual, ws) ∧ s.rst.safe = none :=
  ⟨(tSect tOn 8 0 ((tFoldSec 3).set (16 + 32 * 3 + 8) 0)).fset FLK_CFG_EN 1 |>.fset (FLK_ST_k_STATE 3) 2 |>.fset FLK_STAT_FWD 1 |>.fstUpd 3 (fun x => { x with out := some (6, 1, [7]) }), 3, 6, 1, [7], by decide +kernel⟩

theorem witness_FoldStations_22 : ∃ (s : State) (f : FoldFrame),
    s.flkUp = true ∧ foCrcOk f = true ∧ foKind f = 7 ∧ foCtrl f = s.fget FLK_CFG_CTRL ∧ (foBody f).length = 8 + 4 * s.inWords (foSt f) ∧ (s.foldEn (foSt f) = false ∨ s.fstate (foSt f) ≠ 2) :=
  ⟨tFold 3 1 id, tFf 7 3 0 [3, 0, 0, 0, 0, 0, 0, 0, 1, 2, 3, 4, 5, 6, 7, 8], by decide +kernel⟩

theorem witness_FoldStations_23 : ∃ (s : State),
    s.flkUp = true ∧ s.cyc.started = true ∧ s.flk.enumDue = true :=
  ⟨{ tFold 3 0 (fun b => { b with enumDue := true, enumRun := true }) with cyc := { tOn.cyc with started := true } }, by decide +kernel⟩

theorem witness_FoldStations_24 : ∃ (s : State),
    (s.cyc.started = false ∨ s.flk.enumDue = false) :=
  ⟨tFold 3 0 id, by decide +kernel⟩

theorem witness_FoldStations_25 : ∃ (s : State) (f : FoldFrame),
    s.flkUp = true ∧ foCrcOk f = true ∧ foKind f = 11 ∧ foCtrl f = s.fget FLK_CFG_CTRL ∧ (foBody f).length = 12 :=
  ⟨tFold 3 0 (fun b => { b with enumRun := true }), tFf 11 0 0 [9, 0, 0, 0, 0, 0, 0, 1, 2, 0, 9, 0xD], by decide +kernel⟩

theorem witness_FoldStations_26 : ∃ (s : State) (st : BitVec 4),
    s.flkUp = true ∧ s.flk.load = none ∧ s.foldStations.find? (fun j => s.fstate j = 1) = some st.toNat :=
  ⟨tSect (tFold 3 1 id) 15 3 [1, 2, 3], 3, by decide +kernel⟩

theorem witness_FoldStations_27 : ∃ (s : State) (st : BitVec 4) (l : FlkLoad),
    s.flkUp = true ∧ s.flk.load = some l ∧ l.st = st.toNat ∧ l.started = false ∧ (s.fst st.toNat).writes.length ≤ 6 :=
  ⟨tSect (tFold 3 1 (fun b => { b with load := some ⟨3, 1, false, true, true⟩ })) 15 3 (List.replicate 700 7), 3, ⟨3, 1, false, true, true⟩, by decide +kernel⟩

theorem witness_FoldStations_28 : ∃ (s : State) (st : BitVec 4),
    (s.flkUp = false ∨ (s.flk.load = none ∧ s.foldStations.find? (fun j => s.fstate j = 1) ≠ some st.toNat) ∨ (∃ l, s.flk.load = some l ∧ (l.st ≠ st.toNat ∨ l.started = true ∨ 6 < (s.fst st.toNat).writes.length))) :=
  ⟨tFold 3 2 id, 3, Or.inr (Or.inl (by decide +kernel))⟩

theorem witness_FoldStations_29 : ∃ (s : State) (f : FoldFrame),
    s.flkUp = true ∧ foCrcOk f = true ∧ foKind f = 15 ∧ foCtrl f = s.fget FLK_CFG_CTRL ∧ (foBody f).length = 8 :=
  ⟨tFold 3 1 (fun b => { b with load := some ⟨3, 1, true, false, true⟩ }), tFf 15 3 0 [1, 0, 0, 0, 0, 0, 0, 0], by decide +kernel⟩

theorem witness_FoldStations_31 : ∃ (s : State) (k : Nat),
    k < 16 ∧ s.flkUp = true ∧ s.foldEn k = true ∧ ((∀ l, s.flk.load = some l → l.st ≠ k)) :=
  ⟨tFold 3 1 id, 3, by decide +kernel⟩

theorem witness_FoldStations_32 : ∃ (s : State) (k : Nat),
    k < 16 ∧ s.flkUp = true ∧ s.foldEn k = true ∧ (s.fst k).numbered = false :=
  ⟨tFold 3 5 id, 3, by decide +kernel⟩

theorem witness_FoldStations_33 : ∃ (s : State) (k : Nat),
    k < 16 ∧ s.flkUp = true ∧ s.foldEn k = false :=
  ⟨tFold 3 5 id, 4, by decide +kernel⟩

theorem witness_FoldStations_34 : ∃ (s : State) (key : BitVec 8) (n : BitVec 4),
    s.flkUp = false :=
  ⟨tRun, 0x2F, 3, by decide +kernel⟩

theorem witness_OutstationCommands_1 : ∃ (s : State) (f : FoldFrame),
    s.stationUp = true ∧ foCrcOk f = true ∧ foKind f = 1 ∧ (foBody f).length = 4 ∧ s.station.num = some (foSt f) :=
  ⟨tStn (fun x => { x with out := (5, 1) }), tFf 1 3 7 [0, 1, 2, 0xFF], by decide +kernel⟩

theorem witness_OutstationCommands_3 : ∃ (s : State) (f : FoldFrame),
    s.stationUp = true ∧ foCrcOk f = true ∧ foKind f = 2 ∧ (foBody f).length = 12 ∧ s.station.num = some (foSt f) ∧ (s.stnHear f).fromMaster f = true ∧ foTs f = (s.stnHear f).station.nextSeq.toList.getD (foCtrl f) 0 ∧ leAt (foBody f) 0 3 = 0x20100 ∧ leAt (foBody f) 3 1 = 0xFF :=
  ⟨tStn (fun x => { x with out := (5, 1), nextSeq := #v[65535, 0] }), tFf 2 3 65535 [0, 1, 2, 0xFF, 1, 2, 3, 4, 5, 6, 7, 8], by decide +kernel⟩

theorem witness_OutstationCommands_4 : ∃ (s : State) (f : FoldFrame),
    s.stationUp = true ∧ foCrcOk f = true ∧ foKind f = 2 ∧ (foBody f).length = 12 ∧ s.station.num = some (foSt f) ∧ (s.stnHear f).fromMaster f = false :=
  ⟨tStn (fun x => { x with claim := #v[9, 0], heardNs := #v[some 0, none] }), ⟨foldBytes 2 1 3 1 0 3 [0, 1, 2, 0xFF, 1, 2, 3, 4, 5, 6, 7, 8]⟩,
    by decide +kernel, by decide +kernel, by decide +kernel, by decide +kernel, by decide +kernel, fromMaster_none⟩

theorem witness_OutstationCommands_5 : ∃ (s : State) (f : FoldFrame),
    s.stationUp = true ∧ foCrcOk f = true ∧ foKind f = 6 ∧ (foBody f).length = 0 ∧ s.station.num = some (foSt f) :=
  ⟨tStn id, tFf 6 3 0 [], by decide +kernel⟩

theorem witness_OutstationCommands_6 : ∃ (s : State) (f : FoldFrame),
    s.stationUp = true ∧ foCrcOk f = true ∧ foKind f = 8 ∧ (foBody f).length = 16 ∧ s.station.num = some (foSt f) ∧ (s.stnHear f).fromMaster f = true ∧ s.station.loaded = true ∧ (s.stnHear f).station.oseq.toList.getD (foCtrl f) none = none ∧ s.clk.hold = false ∧ bitOf (s.fget CLK_GMAP_ISLAND) 8 = true :=
  ⟨(tStn (fun x => { x with loaded := true, expired := true })).fset CLK_GMAP_ISLAND 0x3FFFF, tFf 8 3 7 [1, 0, 0, 0, 0, 0, 0, 0, 0xFF, 0xFF, 0xFF, 0, 1, 0, 0, 0], by decide +kernel⟩

theorem witness_OutstationCommands_7 : ∃ (s : State) (f : FoldFrame),
    s.stationUp = true ∧ foCrcOk f = true ∧ foKind f = 8 ∧ (foBody f).length = 16 ∧ s.station.num = some (foSt f) ∧ s.station.loaded = false :=
  ⟨tStn id, tFf 8 3 7 (List.replicate 16 1), by decide +kernel⟩

theorem witness_OutstationCommands_8 : ∃ (s : State) (f : FoldFrame) (n : Nat),
    s.stationUp = true ∧ foCrcOk f = true ∧ foKind f = 10 ∧ (foBody f).length = 8 ∧ s.station.num = some n ∧ foHop f < 18 :=
  ⟨tStn (fun x => { x with loaded := true, expired := true }), tFf 10 0 0 [2, 0, 0, 0, 1, 0, 0, 0], 3, by decide +kernel⟩

theorem witness_OutstationCommands_9 : ∃ (s : State) (f : FoldFrame),
    s.stationUp = true ∧ foCrcOk f = true ∧ foKind f = 11 ∧ (foBody f).length = 12 ∧ s.station.num = none ∧ foHop f < 18 ∧ leAt (foBody f) 0 8 = 0 :=
  ⟨tStn (fun x => { x with num := none }), tFf 11 0 0 (List.replicate 12 0), by decide +kernel⟩

theorem witness_OutstationCommands_10 : ∃ (s : State) (f : FoldFrame),
    s.stationUp = true ∧ foCrcOk f = true ∧ foKind f = 11 ∧ (foBody f).length = 12 ∧ foHop f < 18 ∧ (s.station.num ≠ none ∨ leAt (foBody f) 0 8 ≠ 0) :=
  ⟨tStn id, tFf 11 0 0 (List.replicate 12 0), by decide +kernel⟩

theorem witness_OutstationCommands_11 : ∃ (s : State) (c : Nat) (claim : Nat) (ts : Nat) (hop : Nat) (n : Nat) (f : FoldFrame),
    s.stationUp = true ∧ s.station.num = none ∧ c < 2 ∧ n < 16 ∧ hop < 256 ∧ f = ⟨foldBytes 12 c 0 claim ts hop (leBytes 8 Config.stationUid.toNat ++ [BitVec.ofNat 8 n, 0, 0, 0])⟩ :=
  ⟨tStn (fun x => { x with num := none }), 1, 2, 3, 18, 15, _, by decide +kernel, by decide +kernel,
    by decide, by decide, by decide, rfl⟩

theorem witness_OutstationCommands_12 : ∃ (s : State) (f : FoldFrame),
    s.stationUp = true ∧ foCrcOk f = true ∧ foKind f = 13 ∧ 5 ≤ (foBody f).length ∧ (foBody f).length ≤ 132 ∧ s.station.num = some (foSt f) ∧ (s.stnHear f).fromMaster f = true ∧ s.station.loaded = false :=
  ⟨tStn id, tFf 13 3 0 [0, 1, 0, 0, 9, 8, 7], by decide +kernel⟩

theorem witness_OutstationCommands_13 : ∃ (s : State) (f : FoldFrame),
    s.stationUp = true ∧ foCrcOk f = true ∧ foKind f = 14 ∧ (foBody f).length = 8 ∧ s.station.num = some (foSt f) ∧ (s.stnHear f).fromMaster f = true ∧ crc32c (mapBytes memDflt s.station.image 0 (leAt (foBody f) 0 4)) ≠ leAt (foBody f) 4 4 :=
  ⟨tStn id, tFf 14 3 0 [0, 0, 0, 0, 1, 0, 0, 0], by decide +kernel⟩

theorem witness_OutstationCommands_14 : ∃ (s : State) (f : FoldFrame) (m : RegMap),
    s.stationUp = true ∧ foCrcOk f = true ∧ foKind f = 14 ∧ (foBody f).length = 8 ∧ s.station.num = some (foSt f) ∧ (s.stnHear f).fromMaster f = true ∧ crc32c (mapBytes memDflt s.station.image 0 (leAt (foBody f) 0 4)) = leAt (foBody f) 4 4 ∧ stnBank s.regs (stnList (mapBytes memDflt s.station.image 0 (leAt (foBody f) 0 4))) = some m :=
  ⟨tStn id, tFf 14 3 0 (List.replicate 8 0), (tStn id).regs, by decide +kernel, by decide +kernel,
    by decide +kernel, by decide +kernel, by decide +kernel, by decide +kernel, by decide +kernel, stnBank_nil⟩

theorem witness_OutstationCommands_15 : ∃ (s : State),
    s.stationUp = true ∧ s.station.loaded = true ∧ s.clk.hold = false ∧ bitOf (s.fget CLK_GMAP_ISLAND) 8 = true :=
  ⟨(tStn (fun x => { x with loaded := true })).fset CLK_GMAP_ISLAND 0x3FFFF, by decide +kernel⟩

theorem witness_OutstationCommands_16 : ∃ (s : State) (f : FoldFrame),
    s.stationUp = false :=
  ⟨tOn, tFf 1 3 7 [0, 1, 2, 0xFF], by decide +kernel⟩

theorem witness_OutstationCommands_17 : ∃ (s : State) (f : FoldFrame),
    s.stationUp = true ∧ foCrcOk f = false :=
  ⟨tStn id, ⟨[0x11, 3, 1, 0, 5, 0, 17, 0, 1, 2, 3, 0xF, 4, 4, 4, 4]⟩, by decide +kernel⟩

theorem witness_OutstationCommands_18 : ∃ (s : State) (f : FoldFrame),
    foCrcOk f = true ∧ s.station.num ≠ some (foSt f) :=
  ⟨tStn id, tFf 1 4 7 [0, 1, 2, 0xFF], by decide +kernel⟩

theorem witness_OutstationCommands_19 : ∃ (s : State) (f : FoldFrame),
    s.stationUp = true ∧ foCrcOk f = true ∧ foKind f = 2 ∧ (foBody f).length = 12 ∧ s.station.num = some (foSt f) ∧ (s.stnHear f).fromMaster f = true :=
  ⟨tStn (fun x => { x with out := (5, 1), nextSeq := #v[65535, 0] }), tFf 2 3 0 [0, 1, 2, 0xFF, 1, 2, 3, 4, 5, 6, 7, 8], by decide +kernel, by decide +kernel, by decide +kernel, by decide +kernel, by decide +kernel, by decide +kernel⟩

theorem witness_OutstationCommands_20 : ∃ (s : State) (f : FoldFrame) (r : State × Nat),
    s.stationUp = true ∧ foCrcOk f = true ∧ foKind f = 2 ∧ (foBody f).length = 12 ∧ s.station.num = some (foSt f) ∧ (s.stnHear f).fromMaster f = true ∧ foTs f = (s.stnHear f).station.nextSeq.toList.getD (foCtrl f) 0 ∧ (s.stnHear f).stnWrite (leAt (foBody f) 0 3) (leAt (foBody f) 3 1) (leAt (foBody f) 4 8) = r :=
  ⟨tStn (fun x => { x with out := (5, 1), nextSeq := #v[65535, 0] }), tFf 2 3 65535 [0, 0, 3, 0xFF, 1, 2, 3, 4, 5, 6, 7, 8], (((tStn (fun x => { x with out := (5, 1), nextSeq := #v[65535, 0] })).stnHear (tFf 2 3 65535 [0, 0, 3, 0xFF, 1, 2, 3, 4, 5, 6, 7, 8])).stnWrite 0x30000 0xFF 0x0807060504030201), by decide +kernel⟩

theorem witness_OutstationCommands_21 : ∃ (s : State) (f : FoldFrame),
    s.stationUp = true ∧ foCrcOk f = true ∧ s.station.num = some (foSt f) ∧ (s.stnHear f).fromMaster f = false :=
  ⟨tStn (fun x => { x with claim := #v[9, 0], heardNs := #v[some 0, none] }), ⟨foldBytes 2 1 3 1 0 3 [0, 1, 2, 0xFF, 1, 2, 3, 4, 5, 6, 7, 8]⟩,
    by decide +kernel, by decide +kernel, by decide +kernel, fromMaster_none⟩

theorem witness_OutstationCommands_22 : ∃ (s : State) (f : FoldFrame),
    s.stationUp = true ∧ foCrcOk f = true ∧ foKind f = 8 ∧ (foBody f).length = 16 ∧ s.station.num = some (foSt f) ∧ (s.stnHear f).fromMaster f = true ∧ s.station.loaded = true :=
  ⟨tStn (fun x => { x with loaded := true, expired := true, oseq := #v[some 65530, none] }), tFf 8 3 7 [1, 0, 0, 0, 0, 0, 0, 0, 0xFF, 0xFF, 0xFF, 0, 1, 0, 0, 0], by decide +kernel⟩

theorem witness_OutstationCommands_23 : ∃ (s : State) (f : FoldFrame),
    s.stationUp = true ∧ foCrcOk f = true ∧ foKind f = 10 ∧ (foBody f).length = 8 ∧ s.station.num = none ∧ foHop f < 18 :=
  ⟨tStn (fun x => { x with num := none }), tFf 10 0 0 [2, 0, 0, 0, 255, 0, 0, 0], by decide +kernel⟩

theorem witness_OutstationCommands_24 : ∃ (s : State) (f : FoldFrame),
    s.stationUp = true ∧ foCrcOk f = true ∧ 18 ≤ foHop f :=
  ⟨tStn id, ⟨foldBytes 10 0 0 0 0 18 (List.replicate 8 0)⟩, by decide +kernel⟩

theorem witness_OutstationCommands_25 : ∃ (s : State) (f : FoldFrame),
    s.stationUp = true ∧ foCrcOk f = true ∧ foKind f = 12 ∧ (foBody f).length = 12 ∧ s.station.num ≠ none :=
  ⟨tStn id, tFf 12 0 0 (List.replicate 12 0), by decide +kernel⟩

theorem witness_OutstationCommands_26 : ∃ (s : State) (f : FoldFrame),
    s.stationUp = true ∧ foCrcOk f = true ∧ foKind f = 13 ∧ 5 ≤ (foBody f).length ∧ (foBody f).length ≤ 132 ∧ s.station.num = some (foSt f) ∧ (s.stnHear f).fromMaster f = true ∧ s.station.loaded = true :=
  ⟨(tStn (fun x => { x with loaded := true })).fset CLK_GMAP_ISLAND 0x3FFFF, tFf 13 3 0 [0, 1, 0, 0, 9, 8, 7], by decide +kernel⟩

theorem witness_OutstationCommands_27 : ∃ (s : State) (f : FoldFrame),
    s.stationUp = true ∧ foCrcOk f = true ∧ foKind f = 14 ∧ (foBody f).length = 8 ∧ s.station.num = some (foSt f) ∧ (s.stnHear f).fromMaster f = true :=
  ⟨tStn id, tFf 14 3 0 (List.replicate 8 0), by decide +kernel⟩

theorem witness_OutstationCommands_28 : ∃ (s : State),
    s.stationUp = true ∧ s.station.loaded = true :=
  ⟨tStn (fun x => { x with loaded := true }), by decide +kernel⟩

theorem witness_OutstationCommands_29 : ∃ (s : State),
    s.station.loaded = false :=
  ⟨tStn id, by decide +kernel⟩

theorem witness_PairLink_1 : ∃ (s : State),
    s.pairUp = true ∧ s.rst.safe = none ∧ s.fget PAIR_CFG_ETH_EN = 0 :=
  ⟨tPair (fun p => { p with seq := 0xFFFFFFFF }), by decide +kernel⟩

theorem witness_PairLink_2 : ∃ (s : State) (b : List Byte) (i : Nat),
    s.pairUp = true ∧ s.rst.safe = none ∧ s.fget PAIR_CFG_ETH_EN = 1 ∧ i = s.fget PAIR_SESS_PUB ∧ i < s.pde.sess.length ∧ b = s.hbRecord ∧ s.memx.upsets = [] ∧ s.memx.poisoned = [] :=
  ⟨{ tPd with regs := ((tPair id).fset PAIR_CFG_ETH_EN 1).regs }, { tPd with regs := ((tPair id).fset PAIR_CFG_ETH_EN 1).regs }.hbRecord, 0, by decide +kernel⟩

theorem witness_PairLink_3 : ∃ (s : State),
    s.rst.safe.isSome = true :=
  ⟨{ tPair id with rst := { tOn.rst with safe := some 3 } }, by decide +kernel⟩

theorem witness_PairLink_4 : ∃ (s : State) (r : HbRecord) (m : Bool),
    s.pairUp = true ∧ s.fget PAIR_CFG_ETH_EN = 0 ∧ s.fget PAIR_STAT_HEARD_ETH = 0 ∧ s.pair.eth = none ∧ s.hbOk r.bytes = true ∧ bitsOf (leAt r.bytes 1 1) 0 1 ≠ s.fget PAIR_CFG_UNIT ∧ (m = decide (hbClaim r.bytes < s.claimNow ∨ (hbClaim r.bytes = s.claimNow ∧ s.fget PAIR_CFG_UNIT = 0))) :=
  ⟨tPair id, ⟨tRec 5⟩, false, by decide +kernel⟩

theorem witness_PairLink_5 : ∃ (s : State) (r : HbRecord),
    s.pairUp = true ∧ s.fget PAIR_CFG_ETH_EN = 0 ∧ s.hbOk r.bytes = true ∧ bitsOf (leAt r.bytes 1 1) 0 1 = s.fget PAIR_CFG_UNIT :=
  ⟨(tPair id).fset PAIR_CFG_UNIT 1, ⟨[1, 1] ++ List.replicate 14 0 ++ leBytes 4 (hbCrc 0 ([1, 1] ++ List.replicate 14 0))⟩, by decide +kernel⟩

theorem witness_PairLink_6 : ∃ (s : State) (r : HbRecord),
    s.pairUp = true ∧ s.fget PAIR_CFG_ETH_EN = 0 ∧ s.hbOk r.bytes = false :=
  ⟨tPair id, ⟨[1, 2, 3]⟩, by decide +kernel⟩

theorem witness_PairLink_7 : ∃ (s : State),
    s.pairUp = true ∧ s.fget PAIR_CFG_ETH_EN = 0 ∧ s.fget PAIR_STAT_HEARD_ETH = 0 :=
  ⟨(tPair id).fset PAIR_STAT_HEARD_LINK 1, by decide +kernel⟩

theorem witness_PairLink_8 : ∃ (s : State) (i : Nat),
    s.pairUp = true ∧ s.rst.safe = none ∧ s.fget PAIR_CFG_ETH_EN = 1 ∧ i = s.fget PAIR_SESS_PUB ∧ i < s.pde.sess.length :=
  ⟨{ tPd with regs := ((tPair id).fset PAIR_CFG_ETH_EN 1).regs }, 0, by decide +kernel⟩

theorem witness_PairLink_9 : ∃ (s : State),
    s.pairUp = true ∧ s.rst.safe = none :=
  ⟨{ tPd with regs := ((tPair id).fset PAIR_CFG_ETH_EN 1).regs }, by decide +kernel⟩

theorem witness_PairLink_10 : ∃ (s : State) (b : Bool) (r : HbRecord),
    s.pairUp = false :=
  ⟨tOn, true, ⟨tRec 5⟩, by decide +kernel⟩

theorem witness_PairLink_11 : ∃ (s : State) (r : HbRecord),
    s.fget PAIR_CFG_ETH_EN = 0 :=
  ⟨tPair id, ⟨tRec 5⟩, by decide +kernel⟩

theorem witness_PairLink_12 : ∃ (s : State) (eth : Bool) (r : HbRecord),
    s.pairUp = true ∧ ((eth = true → s.fget PAIR_CFG_ETH_EN = 1)) :=
  ⟨(tPair id).fset PAIR_CFG_ETH_EN 1, true, ⟨tRec 5⟩, by decide +kernel⟩

theorem witness_PairLink_13 : ∃ (s : State) (eth : Bool) (r : HbRecord),
    s.pairUp = true ∧ ((eth = true → s.fget PAIR_CFG_ETH_EN = 1)) ∧ s.hbOk r.bytes = true ∧ bitsOf (leAt r.bytes 1 1) 0 1 ≠ s.fget PAIR_CFG_UNIT ∧ (if eth then s.pair.link else s.pair.eth) = none :=
  ⟨(tPair id).fset PAIR_CFG_ETH_EN 1, true, ⟨tRec 5⟩, by decide +kernel⟩

theorem witness_PairLink_14 : ∃ (s : State) (eth : Bool) (r : HbRecord) (o : List Byte) (us : Nat),
    s.pairUp = true ∧ ((eth = true → s.fget PAIR_CFG_ETH_EN = 1)) ∧ s.hbOk r.bytes = true ∧ bitsOf (leAt r.bytes 1 1) 0 1 ≠ s.fget PAIR_CFG_UNIT ∧ (if eth then s.pair.link else s.pair.eth) = some (o, us) ∧ hbSeq o = hbSeq r.bytes ∧ o ≠ r.bytes :=
  ⟨(tPair (fun p => { p with link := some (tRec 9, 4) })).fset PAIR_CFG_ETH_EN 1, true, ⟨tRec 5⟩, tRec 9, 4, by decide +kernel⟩

theorem witness_PairLink_15 : ∃ (s : State),
    s.pairUp = true :=
  ⟨(tPair id).fset PAIR_STAT_HEARD_LINK 1, by decide +kernel⟩

theorem witness_FlashOperationsAndRecorder_1 : ∃ (s : State) (op : FlashOp),
    s.flc.running = none ∧ nextOp s.flc.waiting = some op ∧ s.flc.dead = false ∧ s.touchesUsed op = false :=
  ⟨{ tSet with flc := { tSet.flc with waiting := [.program 5 0 [1], .eraseSector 3 4096, .eraseSector 3 8192] } }, .eraseSector 3 4096, by decide +kernel⟩

theorem witness_FlashOperationsAndRecorder_2 : ∃ (s : State),
    s.flc.running.isSome = true :=
  ⟨{ tSet with flc := { tSet.flc with running := some (.program 5 0 [1]) } }, by decide +kernel⟩

theorem witness_FlashOperationsAndRecorder_3 : ∃ (s : State) (a : Nat),
    s.flc.running = some (.eraseSector 5 a) ∧ s.flc.dead = false ∧ s.touchesUsed (.eraseSector 5 a) = false ∧ s.upd.job = some .open_ ∧ s.upd.left = 1 ∧ s.upd.late = false :=
  ⟨{ tSet with flc := { tSet.flc with running := some (.eraseSector 5 0x80010) }, upd := { tSet.upd with job := some .open_, left := 1 } }, 0x80010, by decide +kernel⟩

theorem witness_FlashOperationsAndRecorder_4 : ∃ (s : State) (op : FlashOp),
    s.flc.running = some op ∧ s.flc.dead = false ∧ s.touchesUsed op = false :=
  ⟨{ tSet with flc := { tSet.flc with running := some (.program 5 0 [1]) } }, .program 5 0 [1], by decide +kernel⟩

theorem witness_FlashOperationsAndRecorder_5 : ∃ (s : State) (tc : Int) (cm : Nat),
    s.unitDown 0x38 = false ∧ s.fget REC_CFG_EN = 1 ∧ s.fget (pstat .flogic) ≠ 2 ∧ s.fget (REC_HIST_h_i_VAL 2 (min (envBin tc (-500) 30) 63)) ≠ 0xFFFFFFFE ∧ s.fget (REC_HIST_h_i_VAL 3 (min (envBin (cm * 200 : Nat) (168 * 800) 800) 63)) ≠ 0xFFFFFFFE ∧ s.extUnset 3 = false ∧ s.extUnset 4 = false ∧ toSigned 32 (s.fget (extF 3 0)) ≤ tc ∧ tc ≤ toSigned 32 (s.fget (extF 4 0)) ∧ s.extUnset 5 = false ∧ s.extUnset 6 = false ∧ (s.fget (extF 5 0)) ≤ (cm : Int) ∧ (cm : Int) ≤ (s.fget (extF 6 0)) :=
  ⟨((((((tOn.fset REC_CFG_EN 1).fset (pstat .flogic) 0).fset (extF 3 0) 0xFFFFFFFF).fset (extF 4 0) 50).fset (extF 5 0) 700).fset (extF 6 0) 900), 50, 800, by decide +kernel⟩

theorem witness_FlashOperationsAndRecorder_6 : ∃ (s : State) (tc : Int) (cm : Nat),
    s.unitDown 0x38 = false ∧ s.fget REC_CFG_EN = 1 ∧ s.fget (pstat .flogic) ≠ 2 ∧ toSigned 32 (s.fget (extF 4 0)) < tc ∧ tc < 2 ^ 31 :=
  ⟨(tOn.fset REC_CFG_EN 1).fset (pstat .flogic) 0, 50, 800, by decide +kernel⟩

theorem witness_FlashOperationsAndRecorder_7 : ∃ (s : State),
    s.unitDown 0x38 = false ∧ s.fget REC_CFG_EN = 1 ∧ s.fget REC_STAT_NEXT < 256 ∧ s.fget REC_STAT_WRITING = 0 ∧ s.recd.erasing = 0 ∧ s.boot.dirOk = true :=
  ⟨(tSet.fset REC_CFG_EN 1).fset REC_STAT_NEXT 255, by decide +kernel⟩

theorem witness_FlashOperationsAndRecorder_8 : ∃ (s : State),
    s.unitDown 0x38 = false ∧ s.fget REC_CFG_EN = 1 ∧ 256 ≤ s.fget REC_STAT_NEXT :=
  ⟨(tSet.fset REC_CFG_EN 1).fset REC_STAT_NEXT 256, by decide +kernel⟩

theorem witness_FlashOperationsAndRecorder_9 : ∃ (s : State) (k : BitVec 8),
    s.unitDown 0x38 = false ∧ (k ≠ 0xE7 ∨ s.fget REC_STAT_WRITING = 1) :=
  ⟨tSet.fset REC_STAT_WRITING 1, 0xE7, by decide +kernel⟩

theorem witness_FlashOperationsAndRecorder_10 : ∃ (s : State),
    s.unitDown 0x38 = false ∧ s.boot.dirOk = true ∧ s.recd.erasing = 0 :=
  ⟨tSet.fset REC_FULL_FULL 1, by decide +kernel⟩

theorem witness_FlashOperationsAndRecorder_11 : ∃ (s : State),
    nextOp s.flc.waiting = none :=
  ⟨tSet, by decide +kernel⟩

theorem witness_FlashOperationsAndRecorder_12 : ∃ (s : State) (b : Bool),
    s.flc.dead = true :=
  ⟨{ tSet with flc := { tSet.flc with dead := true, waiting := [.program 5 0 [1]] } }, true, by decide +kernel⟩

theorem witness_FlashOperationsAndRecorder_13 : ∃ (s : State) (b : Bool),
    s.flc.running = none :=
  ⟨tSet, true, by decide +kernel⟩

theorem witness_FlashOperationsAndRecorder_14 : ∃ (s : State) (op : FlashOp),
    s.flc.running = none ∧ nextOp s.flc.waiting = some op ∧ s.flc.dead = false ∧ s.touchesUsed op = true :=
  ⟨{ tSet with boot := { tSet.boot with dirOk := true, act := { tSet.boot.act with loaded := true, slot := false } }, flc := { tSet.flc with waiting := [.program 5 0x10000 [1]] } }, .program 5 0x10000 [1], by decide +kernel⟩

theorem witness_FlashOperationsAndRecorder_15 : ∃ (s : State) (b : Bool) (op : FlashOp),
    s.flc.running = some op ∧ s.flc.dead = false ∧ s.touchesUsed op = true :=
  ⟨{ tSet with boot := { tSet.boot with dirOk := true, act := { tSet.boot.act with loaded := true, slot := false } }, flc := { tSet.flc with running := some (.program 5 0x10000 [1]) } }, true, .program 5 0x10000 [1], by decide +kernel⟩

theorem witness_FlashOperationsAndRecorder_16 : ∃ (s : State) (op : FlashOp),
    s.flc.running = some op ∧ s.flc.dead = false ∧ s.touchesUsed op = false :=
  ⟨{ tSet with flc := { tSet.flc with running := some (.program 5 0x90000 [1]) } }, .program 5 0x90000 [1], by decide +kernel⟩

theorem witness_FlashOperationsAndRecorder_17 : ∃ (s : State) (c : Nat) (a : Nat) (bs : List Byte),
    s.flc.running = some (.program c a bs) ∧ c ≠ 2 ∧ s.flc.dead = false ∧ s.touchesUsed (.program c a bs) = false :=
  ⟨{ tSet with flc := { tSet.flc with running := some (.program 4 0x90000 [1]) } }, 4, 0x90000, [1], by decide +kernel⟩

theorem witness_FlashOperationsAndRecorder_18 : ∃ (s : State) (a : Nat) (bs : List Byte),
    s.flc.running = some (.program 4 a bs) ∧ s.flc.dead = false ∧ s.touchesUsed (.program 4 a bs) = false ∧ s.flc.retry = true ∧ s.fget REC_STAT_NEXT < 255 :=
  ⟨{ tSet with flc := { tSet.flc with retry := true, running := some (.program 4 0x90000 [1]) } }, 0x90000, [1], by decide +kernel⟩

theorem witness_FlashOperationsAndRecorder_19 : ∃ (s : State) (tc : Int) (cm : Nat),
    s.unitDown 0x38 = false ∧ s.fget REC_CFG_EN = 1 :=
  ⟨(tOn.fset REC_CFG_EN 1).fset (pstat .flogic) 2, 50, 800, by decide +kernel⟩

theorem witness_FlashOperationsAndRecorder_20 : ∃ (s : State) (tc : Int) (cm : Nat),
    (s.unitDown 0x38 = true ∨ s.fget REC_CFG_EN = 0) :=
  ⟨tRun, 50, 800, by decide +kernel⟩

theorem witness_FlashOperationsAndRecorder_21 : ∃ (s : State),
    s.fget REC_STAT_NEXT < 256 ∧ (s.fget REC_STAT_WRITING = 1 ∨ s.recd.erasing ≠ 0 ∨ s.boot.dirOk = false) :=
  ⟨tSet.fset REC_STAT_WRITING 1, by decide +kernel⟩

theorem witness_FlashOperationsAndRecorder_22 : ∃ (s : State),
    s.unitDown 0x38 = false ∧ s.fget REC_STAT_WRITING = 0 :=
  ⟨tOn, by decide +kernel⟩

theorem witness_FlashOperationsAndRecorder_23 : ∃ (s : State),
    s.unitDown 0x38 = false ∧ (s.boot.dirOk = false ∨ s.recd.erasing ≠ 0) :=
  ⟨{ tSet with recd := { tSet.recd with erasing := 3 } }, by decide +kernel⟩

theorem witness_FlashOperationsAndRecorder_24 : ∃ (s : State) (k : BitVec 8),
    s.unitDown 0x38 = true :=
  ⟨tRun, 0xE7, by decide +kernel⟩

theorem witness_UpdateCommands_1 : ∃ (s : State) (b : Bool),
    s.unitDown 0x39 = false ∧ s.updState = 0 ∧ s.upd.job = none ∧ s.boot.dirOk = true ∧ s.slotInUse b = false :=
  ⟨tUpd 0 0 0, true, by decide +kernel⟩

theorem witness_UpdateCommands_2 : ∃ (s : State) (b : Bool),
    s.unitDown 0x39 = false :=
  ⟨{ tUpd 0 0 0 with boot := { tSet.boot with shd := { tSet.boot.shd with loaded := true, slot := true } } }, true, by decide +kernel⟩

theorem witness_UpdateCommands_3 : ∃ (s : State),
    s.unitDown 0x39 = false ∧ s.updState = 2 ∧ s.upd.job = none ∧ s.argsOk = true ∧ commBelow (s.fget UPD_ARG_SRC_SRC) (s.fget UPD_ARG_LEN_LEN) = true ∧ (s.engineRead (s.fget UPD_ARG_SRC_SRC) (s.fget UPD_ARG_LEN_LEN)).1 = s ∧ (s.engineRead (s.fget UPD_ARG_SRC_SRC) (s.fget UPD_ARG_LEN_LEN)).2 = some (s.memBytes (s.fget UPD_ARG_SRC_SRC) (s.fget UPD_ARG_LEN_LEN)) ∧ s.fget UPD_ARG_OFS_OFS + s.fget UPD_ARG_LEN_LEN ≤ 0x1000 :=
  ⟨tUpd 2 0x100 7, by decide +kernel⟩

theorem witness_UpdateCommands_4 : ∃ (s : State) (g : Nat),
    s.unitDown 0x39 = false ∧ s.updState = 2 ∧ s.upd.job = none ∧ s.argsOk = true ∧ s.fget UPD_ARG_SRC_SRC / 0x10000000 = 6 ∧ (s.attrs (s.fget UPD_ARG_SRC_SRC)).effect = false ∧ s.fget UPD_ARG_LEN_LEN ≤ 8 ∧ s.unitDown 0x2D = false ∧ s.semBlock (s.fget UPD_ARG_SRC_SRC) 3 = none ∧ s.fstate (stOf (s.fget UPD_ARG_SRC_SRC)) = 2 ∧ s.freeTag (stOf (s.fget UPD_ARG_SRC_SRC)) = some g :=
  ⟨tFetch 2 3, 0, by decide +kernel⟩

theorem witness_UpdateCommands_5 : ∃ (s : State),
    s.unitDown 0x39 = false ∧ s.updState = 2 ∧ s.upd.job = none ∧ s.argsOk = true ∧ s.fget UPD_ARG_SRC_SRC / 0x10000000 = 6 ∧ (s.attrs (s.fget UPD_ARG_SRC_SRC)).effect = false ∧ (s.unitDown 0x2D = true ∨ (s.semBlock (s.fget UPD_ARG_SRC_SRC) 3 = none ∧ s.fstate (stOf (s.fget UPD_ARG_SRC_SRC)) ≠ 2)) :=
  ⟨tFetch 3 3, by decide +kernel⟩

theorem witness_UpdateCommands_6 : ∃ (s : State) (f : FoldFrame) (i : HubItem) (a : Nat) (o : Nat) (n : Nat),
    s.flkUp = true ∧ foCrcOk f = true ∧ foKind f = 3 ∧ foCtrl f = s.fget FLK_CFG_CTRL ∧ (foBody f).length = 10 ∧ s.foldPending (foSt f) (foTs f % 256) = some i ∧ s.flk.waitTag = [] ∧ i.kind = 9 ∧ i.seq = 0 ∧ s.upd.job = some (.fetch a o n 1 []) ∧ 1 ≤ n ∧ n ≤ 8 ∧ o + n ≤ 0x1000 :=
  ⟨{ tFetch 2 3 with flk := { (tFetch 2 3).flk with reads := [(3, 5, fetchItem 0 0)] }, upd := { tSet.upd with job := some (.fetch 0 0x100 3 1 []) } }, tFf 3 3 5 [0, 0, 1, 2, 3, 4, 5, 6, 7, 8], fetchItem 0 0, 0, 0x100, 3, by decide +kernel⟩

theorem witness_UpdateCommands_7 : ∃ (s : State) (h : Bool),
    s.unitDown 0x39 = false ∧ s.updState ≠ 2 :=
  ⟨tUpd 7 0 1, false, by decide +kernel⟩

theorem witness_UpdateCommands_8 : ∃ (s : State) (h : Bool),
    s.unitDown 0x39 = false ∧ s.updState = 2 ∧ s.upd.job = none ∧ s.closeOk = false ∧ s.upd.late = false :=
  ⟨tUpd 2 0 0, true, by decide +kernel⟩

theorem witness_UpdateCommands_9 : ∃ (s : State),
    s.unitDown 0x39 = false ∧ s.updState = 2 ∧ s.upd.job = none ∧ s.closeOk = true :=
  ⟨tClose, by decide +kernel, by decide +kernel, by decide +kernel, tClose_ok⟩

theorem witness_UpdateCommands_10 : ∃ (s : State),
    s.unitDown 0x39 = false ∧ s.updState = 2 ∧ s.upd.job = none ∧ s.upd.late = false :=
  ⟨{ tUpd 2 0 0 with flc := { tSet.flc with waiting := [.program 5 0 [1], .program 4 0 [1]] } }, by decide +kernel⟩

theorem witness_UpdateCommands_11 : ∃ (s : State) (j : UpdJob),
    s.unitDown 0x39 = false ∧ s.upd.job = some j ∧ s.upd.begun = true :=
  ⟨{ tUpd 1 0 0 with upd := { tSet.upd with job := some .open_, left := 3, begun := true } }, .open_, by decide +kernel⟩

theorem witness_UpdateCommands_12 : ∃ (s : State),
    s.unitDown 0x39 = false ∧ (s.updState = 6 ∨ s.updState = 7) ∧ (1 ≤ s.fget UPD_ACTWIN_MS ∧ s.fget UPD_ACTWIN_MS ≤ 60000) ∧ s.fget BOOT_SSTAT_READY = 0 ∧ s.fget UPD_STAT_RESTART_NEEDED = 1 ∧ s.fget UPD_STAT_HELD_HDR = 1 ∧ s.fget SYS_RSTCFG_SW_WARM_EN = 1 :=
  ⟨((((tUpd 6 0 0).fset UPD_ACTWIN_MS 60000).fset UPD_STAT_RESTART_NEEDED 1).fset UPD_STAT_HELD_HDR 1).fset SYS_RSTCFG_SW_WARM_EN 1 |>.fset UPD_ACTTIME_HI_NS 5 |>.fset BOOT_SSTAT_READY 0, by decide +kernel⟩

theorem witness_UpdateCommands_13 : ∃ (s : State),
    s.unitDown 0x39 = false ∧ (s.fget UPD_ACTWIN_MS = 0 ∨ 60000 < s.fget UPD_ACTWIN_MS ∨ (s.updState ≠ 6 ∧ s.updState ≠ 7)) :=
  ⟨tUpd 6 0 0, by decide +kernel⟩

theorem witness_UpdateCommands_14 : ∃ (s : State),
    s.unitDown 0x39 = false ∧ s.updState = 7 :=
  ⟨{ tUpd 7 0 0 with upd := { tSet.upd with armed := some (true, 4, 5) } }, by decide +kernel⟩

theorem witness_UpdateCommands_15 : ∃ (s : State) (h : Nat),
    s.unitDown 0x39 = false ∧ s.upd.job = none ∧ s.updState ≠ 8 ∧ (1 ≤ s.fget UPD_ARG_LEN_LEN ∧ s.fget UPD_ARG_LEN_LEN ≤ 4080) ∧ s.fget UPD_ARG_SRC_SRC % 8 = 0 ∧ commBelow (s.fget UPD_ARG_SRC_SRC) (s.fget UPD_ARG_LEN_LEN) = true ∧ s.boot.dirOk = true ∧ (s.engineRead (s.fget UPD_ARG_SRC_SRC) (s.fget UPD_ARG_LEN_LEN)).1 = s ∧ (s.engineRead (s.fget UPD_ARG_SRC_SRC) (s.fget UPD_ARG_LEN_LEN)).2 = some (s.memBytes (s.fget UPD_ARG_SRC_SRC) (s.fget UPD_ARG_LEN_LEN)) ∧ s.ownHalf = some h ∧ s.setFree h + (setRecord (s.setSeq + 1) s.boot.act.format (s.fget UPD_ARG_OFS_OFS) (s.memBytes (s.fget UPD_ARG_SRC_SRC) (s.fget UPD_ARG_LEN_LEN))).length + 16 ≤ s.setSize :=
  ⟨tUpd 0 0x77 5, 0, by decide +kernel⟩

theorem witness_UpdateCommands_16 : ∃ (s : State),
    s.updState = 8 ∧ s.rst.active = false :=
  ⟨tUpd 8 0 0, by decide +kernel⟩

theorem witness_UpdateCommands_17 : ∃ (s : State) (k : BitVec 8) (b : Bool),
    s.unitDown 0x39 = false ∧ k ≠ 0x9E :=
  ⟨tUpd 2 0 1, 0x9F, true, by decide +kernel⟩

theorem witness_UpdateCommands_18 : ∃ (s : State) (b : Bool),
    s.unitDown 0x39 = false ∧ s.slotInUse b = false :=
  ⟨{ tUpd 0 0 0 with upd := { tSet.upd with job := some .close } }, true, by decide +kernel⟩

theorem witness_UpdateCommands_19 : ∃ (s : State),
    s.unitDown 0x39 = false ∧ s.updState = 2 ∧ s.upd.job = none ∧ s.argsOk = true ∧ commBelow (s.fget UPD_ARG_SRC_SRC) (s.fget UPD_ARG_LEN_LEN) = true :=
  ⟨tUpd 2 0x1F00 0x300, by decide +kernel⟩

theorem witness_UpdateCommands_20 : ∃ (s : State),
    s.unitDown 0x39 = false ∧ s.updState = 2 ∧ s.upd.job = none ∧ s.argsOk = true ∧ s.fget UPD_ARG_SRC_SRC / 0x10000000 = 6 ∧ (s.attrs (s.fget UPD_ARG_SRC_SRC)).effect = false :=
  ⟨tFetch 2 3, by decide +kernel⟩

theorem witness_UpdateCommands_21 : ∃ (s : State),
    s.unitDown 0x39 = false ∧ s.updState = 2 ∧ s.upd.job = none :=
  ⟨tUpd 2 0x101 7, by decide +kernel⟩

theorem witness_UpdateCommands_22 : ∃ (s : State) (h : Bool),
    s.unitDown 0x39 = false ∧ s.upd.job ≠ none :=
  ⟨{ tUpd 2 0 0 with upd := { tSet.upd with job := some .close } }, false, by decide +kernel⟩

theorem witness_UpdateCommands_23 : ∃ (s : State) (j : UpdJob),
    s.unitDown 0x39 = false ∧ s.upd.job = some j ∧ (match j with | .setwrite _ => false | _ => true) = true ∧ s.upd.begun = false ∧ s.upd.late = false :=
  ⟨{ tUpd 1 0 0 with upd := { tSet.upd with job := some .open_, left := 3 } }, .open_, by decide +kernel⟩

theorem witness_UpdateCommands_24 : ∃ (s : State) (b : Nat),
    s.unitDown 0x39 = false ∧ s.upd.job = some (.setwrite b) ∧ b < 16 ∧ s.upd.begun = false ∧ s.upd.late = false :=
  ⟨{ tUpd 3 0 0 with upd := { tSet.upd with job := some (.setwrite 6), left := 3 } }, 6, by decide +kernel⟩

theorem witness_UpdateCommands_25 : ∃ (s : State),
    s.unitDown 0x39 = false ∧ s.upd.job = none ∧ s.updState ≠ 2 ∧ (s.fget UPD_STAT_HELD_HDR = 0 ∨ s.updState = 8) :=
  ⟨tUpd 0 0 0, by decide +kernel⟩

theorem witness_UpdateCommands_26 : ∃ (s : State),
    s.unitDown 0x39 = false ∧ s.upd.job = none ∧ s.fget UPD_STAT_HELD_HDR = 1 ∧ s.updState ≠ 8 ∧ s.upd.late = false :=
  ⟨(tUpd 7 0 0).fset UPD_STAT_HELD_HDR 1, by decide +kernel⟩

theorem witness_UpdateCommands_27 : ∃ (s : State),
    s.unitDown 0x39 = false ∧ (s.updState = 6 ∨ s.updState = 7) ∧ (1 ≤ s.fget UPD_ACTWIN_MS ∧ s.fget UPD_ACTWIN_MS ≤ 60000) ∧ s.fget BOOT_SSTAT_READY = 1 ∧ s.fget BOOT_SSTAT_NEEDS_RESTART = 0 ∧ s.boot.shd.loaded = true ∧ s.boot.shd.slot = s.updSlot :=
  ⟨{ ((tUpd 6 0 0).fset UPD_ACTWIN_MS 60000).fset BOOT_SSTAT_READY 1 with boot := { tSet.boot with shd := { tSet.boot.shd with loaded := true, slot := false } } }, by decide +kernel⟩

theorem witness_UpdateCommands_28 : ∃ (s : State),
    s.unitDown 0x39 = false ∧ (s.fget BOOT_SSTAT_READY = 0 ∨ s.fget BOOT_SSTAT_NEEDS_RESTART = 1 ∨ s.boot.shd.loaded = false ∨ s.boot.shd.slot ≠ s.updSlot) ∧ (s.fget UPD_STAT_RESTART_NEEDED = 0 ∨ s.fget UPD_STAT_HELD_HDR = 0 ∨ s.fget SYS_RSTCFG_SW_WARM_EN = 0) :=
  ⟨(tUpd 6 0 0).fset UPD_ACTWIN_MS 60000, by decide +kernel⟩

theorem witness_UpdateCommands_29 : ∃ (s : State),
    s.unitDown 0x39 = false ∧ s.updState ≠ 7 :=
  ⟨tUpd 6 0 0, by decide +kernel⟩

theorem witness_UpdateCommands_30 : ∃ (s : State) (x : State) (bs : List Byte) (ok : Bool),
    s.unitDown 0x39 = false ∧ s.upd.job = none ∧ s.updState ≠ 8 ∧ (1 ≤ s.fget UPD_ARG_LEN_LEN ∧ s.fget UPD_ARG_LEN_LEN ≤ 4080) ∧ s.fget UPD_ARG_SRC_SRC % 8 = 0 ∧ commBelow (s.fget UPD_ARG_SRC_SRC) (s.fget UPD_ARG_LEN_LEN) = true ∧ s.boot.dirOk = true ∧ s.srcBytes (s.fget UPD_ARG_SRC_SRC) (s.fget UPD_ARG_LEN_LEN) = (x, bs, ok) :=
  ⟨tUpd 0 0x77 5, tUpd 0 0x77 5, List.replicate 5 0, true, by decide +kernel⟩

theorem witness_UpdateCommands_31 : ∃ (s : State),
    s.unitDown 0x39 = false :=
  ⟨tUpd 8 0x77 5, by decide +kernel⟩

theorem witness_UpdateCommands_32 : ∃ (s : State),
    s.updState = 8 :=
  ⟨tUpd 8 0 0, by decide +kernel⟩

theorem witness_UpdateCommands_33 : ∃ (s : State) (ok : Bool),
    s.updState ≠ 8 :=
  ⟨tUpd 7 0 0, true, by decide +kernel⟩

theorem witness_UpdateCommands_34 : ∃ (s : State) (k : BitVec 8) (b : Bool),
    s.unitDown 0x39 = true :=
  ⟨tRun, 0x9E, true, by decide +kernel⟩

theorem witness_AddressFaults_1 : ∃ (s : State) (bk : Bank) (o : Nat) (src : Nat) (bits : List Nat),
    bankWord bk = 32 ∧ src < 8 ∧ s.poisonedAt bk o = false ∧ s.upsetsAt (wordKey bk o) = bits ∧ symbolsHit bits ≤ 5 ∧ bits.any (fun b => 336 ≤ b) = true :=
  ⟨{ tRun with memx := { tRun.memx with upsets := [(0x20000000, [340])] } }, .comm, 0x1F, 4, [340], by decide +kernel⟩

theorem witness_AddressFaults_2 : ∃ (s : State) (bk : Bank) (o : Nat) (bits : List Nat) (r : BusReq),
    s.hubStopped = false ∧ busOk r = true ∧ s.waitingAt (targetNo (busItem r).req.addr) = [] ∧ s.hubPerm (busItem r) = false ∧ burstBank r.addr = some (bk, o) ∧ r.init ≠ .debug ∧ s.poisonedAt bk o = false ∧ s.upsetsAt (wordKey bk o) = bits ∧ symbolsHit bits ≤ 5 ∧ bits.any (fun b => 336 ≤ b) = true ∧ r.write = false ∧ isLane r.init = false :=
  ⟨{ tRun with memx := { tRun.memx with upsets := [(0x20000000, [340])] } }, .comm, 0x1F, [340], { init := .engine, write := false, addr := 0x2000001F, size := 1, data := 0, tag := 9 }, by decide +kernel⟩

theorem witness_AddressFaults_3 : ∃ (s : State) (bk : Bank) (o : Nat) (bits : List Nat),
    bankWord bk = 32 ∧ s.bankOn bk = true ∧ o = s.scrubPtr (bankNum bk) * bankWord bk ∧ o + bankWord bk < bankSize bk ∧ s.poisonedAt bk o = false ∧ s.upsetsAt (wordKey bk o) = bits ∧ symbolsHit bits ≤ 5 ∧ bits.any (fun b => 336 ≤ b) = true :=
  ⟨{ ((tRun.fset (pstat .common) 2).memPut 0x5FFFA0 [1, 2, 3]) with memx := { ((tRun.fset (pstat .common) 2).memPut 0x5FFFA0 [1, 2, 3]).memx with scrub := [(4, 0x2FFFD)], upsets := [(0x5FFFA0, [4, 336])] } }, .shared, 0x5FFFA0, [4, 336], by decide +kernel⟩

theorem witness_BallStates_1 : ∃ (s : State) (n : Nat),
    (s.phys.ok.getLsbD 6 = false ∨ s.phys.ok.getLsbD 7 = false ∨ s.fd.cfgd = false ∨ s.rst.active = true) :=
  ⟨tRun, 3, by decide +kernel⟩

theorem witness_BallStates_2 : ∃ (s : State) (n : Nat),
    s.phys.ok.getLsbD 4 = true ∧ (s.fget (pstat .bus) < 2 ∨ (∃ e, e ∈ s.rst.locals ∧ e.target = 8 ∧ e.phase = .hold)) :=
  ⟨{ tRun with phys := { tRun.phys with ok := 0xFF } }, 3, by decide +kernel, .inl (by decide +kernel)⟩

theorem witness_BallStates_3 : ∃ (s : State),
    s.phys.ok.getLsbD 3 = true ∧ s.rst.active = true :=
  ⟨{ State.reset with phys := { tRun.phys with ok := 0xFF } }, by decide +kernel⟩

theorem witness_BallStates_4 : ∃ (s : State) (e : LocalEp),
    s.phys.ok.getLsbD 3 = true ∧ s.rst.active = false ∧ e ∈ s.rst.locals ∧ e.target = 7 ∧ e.phase = .asserted ∧ s.fget CLK_OUTCFG_SEL ≠ 0 :=
  ⟨{ tRun with phys := { tRun.phys with ok := 0xFF }, rst := { tRun.rst with locals := [{ target := 7, src := .debug, phase := .asserted, wdrop := 0, held := [] }] } }.fset CLK_OUTCFG_SEL 2, { target := 7, src := .debug, phase := .asserted, wdrop := 0, held := [] }, by decide +kernel⟩

theorem witness_BallStates_5 : ∃ (s : State),
    s.phys.ok.getLsbD 3 = true :=
  ⟨{ tRun with phys := { tRun.phys with ok := 0xFF } }, by decide +kernel⟩

/-! ### Witnesses of the statements that are not made of clauses -/

theorem witness_ConditionsAfterCompare : ∃ (x : Lane) (w : Bool) (A : BitVec (opWidth w))
    (B : BitVec (opWidth w)) (y : Lane), y.st = subFlags x A B :=
  ⟨tLane, true, 0x80000000, 1, { tLane with st := subFlags tLane (0x80000000 : BitVec 32) 1 }, rfl⟩

theorem witness_StepRunsTheFront_idle : ∃ s : State, s.pending = [] := ⟨State.reset, rfl⟩

theorem witness_StepsKeepCanonicalForms : ∃ s : State, s.wf :=
  ⟨State.reset, by decide +kernel, by decide +kernel, by decide +kernel⟩

theorem witness_SafeOutputStaysLow :
    ∃ s t : State, safeOutLow s ∧ step s = .next t :=
  ⟨State.reset, State.reset.tick, fun _ => rfl, rfl⟩

/-! ### Commands with operands that the spec does not list -/

theorem test_wf_size : (Instr.registerWrite .engine 0x40000000 4 0).wf = true
    ∧ (Instr.registerWrite .engine 0x40000000 3 0).wf = false := by decide

theorem test_wf_address : (Instr.registerWrite .engine 0x100000000 4 0).wf = false := by decide

theorem test_wf_request : (Instr.hubRequest (.present ⟨.engine, false, 8, 4, 0, 0⟩)).wf = true
    ∧ (Instr.hubRequest (.present ⟨.engine, false, 8, 5, 0, 0⟩)).wf = false := by decide

theorem test_wf_target : (Instr.localReset 0x2E .debug).wf = true
    ∧ (Instr.localReset 0x2F .debug).wf = false := by decide

theorem test_wf_cond : (Instr.set .a 1 0x13).wf = true ∧ (Instr.set .a 1 0x14).wf = false := by
  decide

theorem test_wf_sz : (Instr.ldu .a 2 1 2 0).wf = true ∧ (Instr.ldu .a 3 1 2 0).wf = false := by
  decide

theorem test_wf_row : (Instr.trackerEntryExpiry .shared 6143).wf = true
    ∧ (Instr.trackerEntryExpiry .shared 6144).wf = false := by decide

theorem test_wf_port : (Instr.ptpDelayReqSend 3).wf = true
    ∧ (Instr.ptpDelayReqSend 4).wf = false := by decide

theorem test_wf_session : (Instr.pdSessionTimeout 511).wf = true
    ∧ (Instr.pdSessionTimeout 512).wf = false := by decide

/-! ### Single steps. The expected values are worked out by hand from the rules that are named. -/

/-- What a command leaves, as far as it goes on. -/
def tAfter {α : Type} (o : Out) (f : State → α) : Option α :=
  match o with
  | .next t => some (f t)
  | _ => none

/-- Lane A with two operands in g1 and g2. -/
def tArg (a b : DWord) : State :=
  { tRun with laneA := { tLane with g := (tLane.g.set 1 a).set 2 b } }

/-- ADD.W wraps and sign-extends; V and N are set, Q stays (R222, R219). -/
theorem test_add_wraps :
    tAfter (exec (.add .a true 3 1 2) (tArg 0x7FFFFFFF 1)) (fun t => (t.laneA.g[3], t.laneA.st))
      = some (0xFFFFFFFF80000000, 0x1A) := by decide +kernel

/-- The destination may be a source (R222). -/
theorem test_sub_source :
    tAfter (exec (.sub .a false 1 2 1) (tArg 3 10)) (fun t => t.laneA.g[1]) = some 7 := by
  decide +kernel

/-- ADDS.W saturates at the largest value (R222). -/
theorem test_adds_saturates :
    tAfter (exec (.adds .a true 3 1 2) (tArg 0x7FFFFFFF 1)) (fun t => t.laneA.g[3])
      = some 0x7FFFFFFF := by decide +kernel

/-- The remainder takes the sign of the dividend: -7 = 2 * -3 - 1 (R223). -/
theorem test_rem_sign :
    tAfter (exec (.rem .a true 3 1 2) (tArg 0xFFFFFFF9 2)) (fun t => t.laneA.g[3])
      = some 0xFFFFFFFFFFFFFFFF := by decide +kernel

/-- A write to g0 is discarded (R215). -/
theorem test_g0 : tAfter (exec (.add .a true 0 1 2) (tArg 5 6))
    (fun t => (t.laneA.gpr 0, t.laneA.pc)) = some (0, 0x10000014) := by decide +kernel

/-- 1.5 + 0.25 = 1.75 in binary32 (R228). -/
theorem test_fadd : tAfter (exec (.fadd .a false 3 1 2) (tArg 0x3FC00000 0x3E800000))
    (fun t => t.laneA.g[3].setWidth 32) = some 0x3FE00000#32 := by decide +kernel

/-- 1234 in packed decimal (R229). -/
theorem test_i2bcd : tAfter (exec (.i2bcd .a 3 1) (tArg 1234 0)) (fun t => t.laneA.g[3])
    = some 0x1234 := by decide +kernel

/-- A store to the active half and the load of its low half word (R230, little-endian). -/
theorem test_store_bytes :
    tAfter (exec (.st .a 2 1 2 0) { tArg 0x12345678 0x10009000 with
      mem := [(0x110000013, 0xC0), (0x110000017, 0xC0)] })
      (fun t => (tAfter (exec (.ldu .a 1 4 2 0) t) (fun u => u.laneA.g[4]))) = some (some 0x5678) := by
  decide +kernel

/-- A division by zero writes no result (R223). -/
theorem test_div_zero :
    tAfter (exec (.div .a true 3 1 2) (tArg 5 0)) (fun t => t.laneA.g[3]) = some 0x8000000000000000 := by
  decide +kernel

/-- Idle, the block keeps its pins and its queue. -/
theorem test_idle : tAfter (step State.reset) (fun t => (t.pins, t.pending)) =
    some (State.reset.pins, []) := by decide +kernel

/-- The command in front runs and leaves the queue. -/
theorem test_front : tAfter (step { tRun with pending := [.nop .a, .coreWarn] })
    (fun t => (t.laneA.pc, t.pending)) = some (0x10000014, [.coreWarn]) := by decide +kernel

/-- A refused key is answered TARGET (R168). -/
theorem test_key : tAfter (exec (.shadowLoadStart 0x5B false) tRun) (fun t => t.resp)
    = some .target := by decide +kernel

end Sys2Proof.Machine
end

namespace Sys2Proof.Machine

open Sys2Proof.Claims State

/-! ### The state after power-on -/

/-- Right after power-on SYS_RSTCAUSE alone is listed; every other register reads its Reset column
(R10). -/
theorem State.reset_regWord_of_ne {a : Nat} (h : a ≠ 0x40000004) :
    State.reset.regWord a = regReset a := by
  simp [State.regWord, RegMap.word, State.reset, smGet, h.symm]

/-- Settles O57: the fields are those that `State.reset` writes, and its one listed register is
SYS_RSTCAUSE. -/
theorem resetState : Obligations.ResetState := by
  refine ⟨rfl, rfl, rfl, State.reset_wf, rfl, rfl, rfl, rfl, rfl, fun _ => rfl, rfl, fun a ha => ?_⟩
  exact State.reset_regWord_of_ne ha

/-! ### A local episode of target 0 -/

/-- Refutes O29: its second clause has every store to memory take a posted-write credit, whatever
local resets are in progress. The model finds the wrapper before an address by the unit code of the
address, which is 0 for every address of memory. A local episode of target 0, which Table 04-4 does
not list but no hypothesis excludes, therefore counts as a closed wrapper before the memories, and
the engine's store below is performed without a credit (R149). -/
theorem not_hubRequests : ¬ Obligations.HubRequests := by
  intro h
  obtain ⟨-, hstore, -⟩ := h { State.reset with rst := { State.reset.rst with
    active := false
    locals := [{ target := 0, src := .software, held := [], phase := .hold, wdrop := 0 }] } }
  obtain ⟨t, ht, -, -, -, -, -, -, -, -, -, hcredit⟩ := hstore .comm 6
    { init := .engine, write := true, addr := 0x20000006, size := 2, data := 1, tag := 9 }
    (by decide +kernel) (by decide +kernel) (by decide +kernel) (by decide +kernel)
    (by decide +kernel) (by decide +kernel) (by decide +kernel) (by decide +kernel)
    (by decide +kernel) (by decide +kernel) (by decide +kernel)
  cases ht
  revert hcredit
  decide +kernel

/-! ### Canonical forms: states in general -/

/-- Either branch of a decision in canonical form, the decision's outcome is. -/
theorem State.ite_wf {c : Prop} [Decidable c] {a b : State} (ha : a.wf) (hb : b.wf) :
    (if c then a else b).wf := by
  split
  · exact ha
  · exact hb

/-- The canonical forms depend on memory, flash and registers alone, whatever the record's other
fields hold. -/
theorem State.record_wf {pending regs mem flash phys board pins bkup pwr rst clk memx wear flc boot
    laneA laneB laneC triad cyc now fd link sig sigAt clkOut sigSlot eth pde tim can drv flk station
    pair recd upd resp rdata rtag reff freeCtr}
    (h : memWf mem = true ∧ flashWf flash = true ∧ regWf regs = true) :
    State.wf
      { pending, regs, mem, flash, phys, board, pins, bkup, pwr, rst, clk, memx, wear, flc, boot
        laneA, laneB, laneC, triad, cyc, now, fd, link, sig, sigAt, clkOut, sigSlot, eth, pde
        tim, can, drv, flk, station, pair, recd, upd, resp, rdata, rtag, reff, freeCtr } := h

/-- A fold that carries a second value along. -/
theorem State.foldl_fst_wf {α β : Type} {f : State × α → β → State × α}
    (hf : ∀ (p : State × α) (b : β), p.1.wf → (f p b).1.wf) (bs : List β) {p : State × α}
    (h : p.1.wf) : (bs.foldl f p).1.wf :=
  List.foldlRecOn (motive := fun p => p.1.wf) bs f h fun p hp b _ => hf p b hp

/-! ### The register banks -/

theorem regWf_bankWrite {m : RegMap} {a : Nat} {v : Word} (h : regWf m = true) :
    regWf (m.bankWrite a v) = true := regWf_setWord _ _ h

theorem regWf_bankLoad {m bank : RegMap} (h : regWf m = true) : regWf (m.bankLoad bank) = true := by
  refine regWf_foldl (fun _ _ hm => regWf_bankWrite hm) _ (regWf_foldl (fun acc p hm => ?_) _ h)
  split
  · exact hm
  · exact regWf_setWord _ _ hm

/-- The register list of a station's image, where every entry can be written, keeps the canonical
form (R157). -/
theorem regWf_stnBank {m b : RegMap} {l : List (Nat × Nat)} (h : regWf m = true)
    (e : stnBank m l = some b) : regWf b = true := by
  have key : ∀ x, stnBank m l = some x → regWf x = true := by
    unfold stnBank
    refine List.foldlRecOn (motive := fun acc => ∀ x, acc = some x → regWf x = true) l _ ?_ ?_
    · rintro _ ⟨⟩
      exact h
    · rintro (_ | y) hacc p - x hx
      · cases hx
      · dsimp only at hx
        split at hx
        · cases hx
          exact regWf_bankWrite (hacc y rfl)
        · cases hx
  exact key b e

/-- A command that answers a canonical state goes on. -/
theorem next_wf {t : State} (h : t.wf) : Yields (.next t) State.wf := ⟨t, rfl, h⟩

/-- What an instruction's operation answers holds a state in canonical form, where it holds one. -/
def IRes.wf : IRes → Prop
  | .done t => t.wf
  | .goto t _ => t.wf
  | .hold t => t.wf
  | .trap _ _ => True
  | .ded t _ => t.wf

/-! ### Registers, responses and lanes -/

theorem State.pairHold_wf {s : State} {b : Nat} {held : Bool} (h : s.wf) :
    (s.pairHold b held).wf := h

/-! ### The coded words of the memory banks -/

theorem State.flipBits_wf {s : State} {bk : Bank} {word : Nat} {bits : List Nat} (h : s.wf) :
    (s.flipBits bk word bits).wf := ite_wf (setUpsets_wf _ _ h) h

theorem State.bankBytes_wf {s : State} {bk : Bank} {off n src : Nat} (h : s.wf) :
    (s.bankBytes bk off n src).1.wf := by
  unfold State.bankBytes
  split
  · exact h
  · refine foldl_fst_wf (fun _ o hp => ?_) _ ?_
    · exact wordRead_wf bk o src hp
    · exact h

theorem State.engineRead_wf {s : State} {a n : Nat} (h : s.wf) : (s.engineRead a n).1.wf := by
  unfold State.engineRead
  split
  · exact bankBytes_wf h
  · exact h

theorem State.burstPut_wf {s : State} {a : Nat} {bs : List Byte} (h : s.wf) :
    (s.burstPut a bs).wf := by
  unfold State.burstPut
  split
  · exact bankPut_wf _ _ _ _ h
  · exact memPut_keeps _ _ h

theorem State.burstPutLe_wf {s : State} {a n v : Nat} (h : s.wf) : (s.burstPutLe a n v).wf :=
  burstPut_wf h

theorem State.privPut_wf {s : State} {k : CoreId} {a : Nat} {bs : List Byte} (h : s.wf) :
    (s.privPut k a bs).wf := bankPut_wf _ _ _ _ h

/-! ### What the flash holds -/

theorem State.programWord_wf {s : State} {b : Bool} {o : Nat} {ok : Bool} (h : s.wf) :
    (s.programWord b o ok).wf := ite_wf (flashProgram_keeps _ _ h) (raise_wf _ h)

theorem State.retainWear_wf {s : State} {e : WearE} (h : s.wf) : (s.retainWear e).wf :=
  memPut_keeps _ _ h

theorem State.pendWearFlash_wf {s : State} {e : WearE} (h : s.wf) : (s.pendWearFlash e).wf := by
  unfold State.pendWearFlash
  extract_lets _ s1
  have h1 : s1.wf := raise_wf _ h
  exact ite_wf (flashQueue_wf _ h1) h1

theorem State.spareExhausted_wf {s : State} {kind : Nat} (h : s.wf) : (s.spareExhausted kind).wf :=
  wearLog_wf _ _ _ h

theorem State.strayRecord_wf {s : State} {core lane cause : Nat} (h : s.wf) :
    (s.strayRecord core lane cause).wf := by
  unfold State.strayRecord
  extract_lets _ _ _ _ _ _ s1
  have h1 : s1.wf := raise_wf _ h
  exact ite_wf (flashQueue_wf _ h1) h1

theorem State.retryWear_wf {s : State} (h : s.wf) : s.retryWear.wf := ite_wf h h

/-! ### The event recorder -/

theorem State.binAdd_wf {s : State} {f : Fld} (h : s.wf) : (s.binAdd f).wf :=
  when_wf (fun _ => raise_wf _) (bump_wf _ h)

theorem State.histAdd_wf {s : State} {h i : Nat} (hs : s.wf) : (s.histAdd h i).wf := binAdd_wf hs

theorem State.lateAdd_wf {s : State} {ns : Nat} (h : s.wf) : (s.lateAdd ns).wf := binAdd_wf h

theorem State.extSet_wf {s : State} {e v aux : Nat} (h : s.wf) : (s.extSet e v aux).wf :=
  fset_wf _ _ (fset_wf _ _ (fset_wf _ _ (fset_wf _ _ h)))

theorem State.extMax_wf {s : State} {e : Nat} {v : Int} {aux : Nat} (h : s.wf) :
    (s.extMax e v aux).wf := when_wf (fun _ => extSet_wf) h

theorem State.extMin_wf {s : State} {e : Nat} {v : Int} (h : s.wf) : (s.extMin e v).wf :=
  when_wf (fun _ => extSet_wf) h

theorem State.ringAdd_wf {s : State} {op : Nat} (h : s.wf) : (s.ringAdd op).wf := h

theorem State.recSnapshot_wf {s : State} {trig : Nat} (h : s.wf) : (s.recSnapshot trig).wf := by
  unfold State.recSnapshot
  split
  · exact h
  · split
    · exact bump_wf _ h
    · exact ite_wf h (record_wf (flashQueue_wf _ (flashQueue_wf _ (raise_wf _ h))))

theorem State.regsFrom_wf {s : State} {a o n : Nat} {b : List Byte} (h : s.wf) :
    (s.regsFrom a b o n).wf := by
  induction n generalizing s a o with
  | zero => exact h
  | succ n ih => exact ih (setReg_wf _ _ h)

theorem State.recRestore_wf {s : State} (h : s.wf) : s.recRestore.wf := by
  unfold State.recRestore
  split
  · exact fset_wf _ _ h
  · extract_lets _ s1 s2 _ env
    have h1 : s1.wf := when_wf (fun _ => raise_wf _) (fset_wf _ _ h)
    have h2 : s2.wf := when_wf (fun _ => raise_wf _) h1
    have henv : ∀ (h : Nat) (x : State), x.wf → (env h x).wf := by
      intro h x hx
      unfold env
      split
      · exact regsFrom_wf hx
      · exact hx
    clear_value s2 env
    split
    · exact h2
    · extract_lets s3 s4 s5 _ s6
      have h3 : s3.wf := record_wf h2
      have h4 : s4.wf := fset_wf _ _ h3
      have h5 : s5.wf := regsFrom_wf (regsFrom_wf (regsFrom_wf (regsFrom_wf h4)))
      have h6 : s6.wf := henv _ _ (henv _ _ (henv _ _ h5))
      exact ite_wf h4 (raise_wf _ (record_wf h6))

/-! ### The sigma-delta filter chain -/

theorem State.sigUpd_wf {s : State} {n : Nat} {f : SigCh → SigCh} (h : s.wf) :
    (s.sigUpd n f).wf := h

theorem State.sigEvt_wf {s : State} {n : Nat} {f : Fld} (h : s.wf) : (s.sigEvt n f).wf :=
  raise_wf _ (raise_wf _ h)

theorem State.sigRestart_wf {s : State} {n : Nat} (h : s.wf) : (s.sigRestart n).wf :=
  lower_wf _ (fset_wf _ _ (show_wf _ _ (sigUpd_wf h)))

theorem State.sigRestartAll_wf {s : State} (h : s.wf) : s.sigRestartAll.wf :=
  foldl_wf (fun _ _ => when_wf fun _ => sigRestart_wf) _ h

theorem State.clkFollow_wf {s : State} (h : s.wf) : s.clkFollow.wf :=
  foldl_wf (fun _ _ => record_wf) _ h

theorem State.sigStart_wf {s : State} (h : s.wf) : s.sigStart.wf :=
  sigRestartAll_wf (clkFollow_wf (raise_wf _ (raise_wf _ h)))

theorem State.sigClear_wf {s : State} (h : s.wf) : s.sigClear.wf := h

theorem State.sigBits_wf {s : State} {n : Nat} {bits : List Bool} (h : s.wf) :
    (s.sigBits n bits).wf := when_wf (fun _ => lower_wf _) (sigUpd_wf h)

theorem State.sigQueue_wf {s : State} {n : Nat} (h : s.wf) : (s.sigQueue n).wf :=
  ite_wf (raise_wf _ (sigRestart_wf (sigEvt_wf (sigUpd_wf h)))) (fset_wf _ _ (sigUpd_wf h))

theorem State.sigResult_wf {s : State} {n : Nat} {v : Int} {sat : Bool} {inst : Nat} (h : s.wf) :
    (s.sigResult n v sat inst).wf := by
  unfold State.sigResult
  extract_lets _ _ _ s1 s2 _ s3
  have h1 : s1.wf := when_wf (fun _ => sigEvt_wf) h
  have h2 : s2.wf := fset_wf _ _ (show_wf _ _ (show_wf _ _ h1))
  have h3 : s3.wf := show_wf _ _ h2
  exact sigUpd_wf h3

theorem State.sigAfter_wf {s : State} {n stage : Nat} {v : Int} {sat : Bool} {inst : Nat}
    (h : s.wf) :
    (s.sigAfter n stage v sat inst).wf := by
  unfold State.sigAfter
  extract_lets push
  have hpush : ∀ (k : Nat), (push k).wf :=
    fun k => sigUpd_wf h
  exact ite_wf (hpush _) (ite_wf (hpush _) (sigResult_wf h))

theorem State.sigWork_wf {s t : State} {n clk used : Nat} {w : SigWork} (h : s.wf)
    (e : s.sigWork n w clk = some (t, used)) : t.wf := by
  unfold State.sigWork at e
  extract_lets pop _ _ _ _ hb _ _ at e
  split at e
  · split at e
    · cases e
    · cases e
      exact sigAfter_wf (sigUpd_wf (sigUpd_wf h))
  · split at e
    · split at e
      · cases e
      · cases e
        exact sigAfter_wf (sigUpd_wf (sigUpd_wf h))
    · cases e
      exact sigUpd_wf (sigUpd_wf h)

theorem State.sigRun_wf {s : State} {n fuel clk : Nat} (h : s.wf) : (s.sigRun n fuel clk).wf := by
  induction fuel generalizing s clk with
  | zero => exact h
  | succ fuel ih =>
    unfold State.sigRun
    extract_lets c
    split
    · split
      · next e => exact ih (sigWork_wf h e)
      · exact sigUpd_wf h
    · split
      · exact h
      · exact ih (sigAfter_wf (sigUpd_wf h))

theorem State.sigGroupWrite_wf {s : State} {n : Nat} (h : s.wf) : (s.sigGroupWrite n).wf := by
  unfold State.sigGroupWrite
  extract_lets
  split
  · exact h
  · exact ite_wf (foldl_wf (fun _ _ => sigUpd_wf) _ h) h

theorem State.sigInput_wf {s : State} (h : s.wf) : s.sigInput.wf := by
  unfold State.sigInput
  extract_lets s1
  have h1 : s1.wf := h
  refine foldl_wf (fun _ _ hx => ?_) _ h1
  exact ite_wf (when_wf (fun _ => sigEvt_wf) (show_wf _ _ hx)) hx

/-! ### The switch and the PRP pairs -/

theorem State.learn_wf {s : State} {mac vid port : Nat} (h : s.wf) : (s.learn mac vid port).wf :=
  ite_wf h (ite_wf h h)

theorem State.cellPut_wf {s : State} {cells : List Nat} {body : List Byte} (h : s.wf) :
    (s.cellPut cells body).wf := foldl_wf (fun _ _ => burstPut_wf) _ h

theorem State.cellRead_wf {s : State} {cells : List Nat} {n : Nat} (h : s.wf) :
    (s.cellRead cells n).1.wf := by
  refine foldl_fst_wf (fun _ _ hp => ?_) _ ?_
  · exact engineRead_wf hp
  · exact h

theorem State.enqueue_wf {s : State} {inPort prio : Nat} {flooded : Bool} {f : EthFrame}
    {port : Nat}
    (h : s.wf) : (s.enqueue inPort prio flooded f port).wf :=
  ite_wf h (ite_wf (bump_wf _ (raise_wf _ h)) (record_wf (cellPut_wf h)))

theorem State.prpSend_wf {s : State} {p prio : Nat} {flooded : Bool} {out : Nat → EthFrame}
    (h : s.wf) :
    (s.prpSend p prio flooded out).wf := foldl_wf (fun _ _ hx => ite_wf (enqueue_wf hx) hx) _ h

theorem State.internal_wf {s : State} {f : EthFrame} (h : s.wf) : (s.internal f).wf := by
  unfold State.internal
  split
  · exact ite_wf h h
  · exact h

theorem State.forwardTo_wf {s : State} {inPort prio ports untag : Nat} {flooded : Bool}
    {f : EthFrame}
    (h : s.wf) : (s.forwardTo inPort prio ports untag flooded f).wf := by
  unfold State.forwardTo
  extract_lets _ _ _ s1
  have h1 : s1.wf := by
    unfold s1
    refine foldl_wf (fun _ _ hx => ?_) _ h
    extract_lets y
    have hy : y.wf := enqueue_wf hx
    exact ite_wf (internal_wf hy) hy
  exact foldl_wf (fun _ _ hx => ite_wf (prpSend_wf hx) hx) _ h1

theorem State.prpReceive_wf {s : State} {port : Nat} {dualComid : Nat → Nat → Bool} {f : EthFrame}
    (h : s.wf) : (s.prpReceive port dualComid f).1.wf := by
  unfold State.prpReceive
  extract_lets p bare tab s1
  have h1 : s1.wf := when_wf (fun _ => raise_wf _) h
  split
  · exact h
  · next q lan _ =>
    by_cases hw : lan ≠ (if port % 2 = 0 then 0xA else 0xB)
    · rw [if_pos hw]
      exact bump_wf _ (raise_wf _ h)
    · rw [if_neg hw, apply_ite Prod.fst]
      refine ite_wf h ?_
      extract_lets key
      rw [apply_ite Prod.fst]
      exact ite_wf (bump_wf _ h) (record_wf h1)

theorem State.ethDrop_wf {s : State} {port : Nat} {evt : Option Fld} (h : s.wf) :
    (s.ethDrop port evt).wf := by
  unfold State.ethDrop
  extract_lets s1
  have h1 : s1.wf := bump_wf _ h
  split
  · exact raise_wf _ h1
  · exact h1

theorem State.switchFrame_wf {s : State} {port : Nat} {f : EthFrame} (h : s.wf) :
    (s.switchFrame port f).wf := by
  unfold State.switchFrame
  extract_lets _ _ _ _ s1 _ known
  have h1 : s1.wf := learn_wf h
  clear_value known
  split
  · exact ite_wf (ethDrop_wf h) (learn_wf h)
  · split
    · exact ethDrop_wf h
    · split <;> exact forwardTo_wf h1

theorem State.ethClear_wf {s : State} (h : s.wf) : s.ethClear.wf := h

/-! ### The time unit -/

theorem State.timUpd_wf {s : State} {f : Tim → Tim} (h : s.wf) : (s.timUpd f).wf := h

theorem State.timTo_wf {s : State} {v : Nat} (h : s.wf) : (s.timTo v).wf :=
  pairHold_wf (fset_wf _ _ h)

theorem State.timHold_wf {s : State} (h : s.wf) : s.timHold.wf :=
  ite_wf (timUpd_wf (raise_wf _ (timTo_wf h))) h

theorem State.timStep_wf {s : State} {ns : Int} (h : s.wf) : (s.timStep ns).wf :=
  timUpd_wf (timTo_wf (raise_wf _ h))

theorem State.timRate_wf {s : State} (h : s.wf) : s.timRate.wf :=
  fset_wf _ _ (free_wf h)

theorem State.timMeasure_wf {s : State} {off : Int} {rate : Option Int} (h : s.wf) :
    (s.timMeasure off rate).wf := by
  unfold State.timMeasure
  extract_lets s1 s2 _ s3 _ _ _ s2'
  have h1 : s1.wf := fset_wf _ _ h
  have h2 : s2.wf := by
    unfold s2
    split
    · exact fset_wf _ _ h1
    · exact timRate_wf h1
  have h3 : s3.wf := timUpd_wf h2
  have h2' : s2'.wf := timUpd_wf h1
  split
  · exact raise_wf _ (timStep_wf h1)
  · split
    · exact timStep_wf h1
    · split
      · exact when_wf (fun _ => raise_wf _) (timTo_wf h3)
      · exact ite_wf (raise_wf _ (timHold_wf h2')) h2'

theorem State.timSelect_wf {s : State} (h : s.wf) : s.timSelect.wf := by
  unfold State.timSelect
  split
  · exact fset_wf _ _ (timUpd_wf h)
  · extract_lets _ s1 s2
    have h1 : s1.wf := timUpd_wf h
    have h2 : s2.wf := fset_wf _ _ (fset_wf _ _ h1)
    exact ite_wf h2 (raise_wf _ (timUpd_wf h2))

theorem State.timSynced_wf {s : State} {port : Nat} {origin : Int} {arrival : Nat} (h : s.wf) :
    (s.timSynced port origin arrival).wf := by
  unfold State.timSynced
  extract_lets s1
  have h1 : s1.wf := timUpd_wf h
  split
  · exact timMeasure_wf h1
  · exact h1

theorem State.timClear_wf {s : State} (h : s.wf) : s.timClear.wf := record_wf (pairHold_wf h)

theorem State.timCommand_wf {s : State} {key action : Nat} (h : s.wf) :
    (s.timCommand key action).wf := by
  unfold State.timCommand
  split
  · exact answer_wf _ h
  · split
    · exact answer_wf _ (timUpd_wf h)
    · exact ite_wf (answer_wf _ h) (answer_wf _ (timUpd_wf h))

/-! ### The process data engine -/

theorem State.pubRead_wf {s : State} {a n : Nat} (h : s.wf) : (s.pubRead a n).1.wf := by
  unfold State.pubRead
  split
  · exact h
  · exact engineRead_wf h

theorem State.rxPut_wf {s : State} {a : Nat} {bs : List Byte} (h : s.wf) : (s.rxPut a bs).wf := h

theorem State.pdeUpd_wf {s : State} {f : Pde → Pde} (h : s.wf) : (s.pdeUpd f).wf := h

theorem State.netSend_wf {s : State} {t : NetTx} (h : s.wf) : (s.netSend t).wf := pdeUpd_wf h

theorem State.mdOut_wf {s : State} {m : MdMsg} (h : s.wf) : (s.mdOut m).wf := netSend_wf h

theorem State.pdShow_wf {s : State} (h : s.wf) : s.pdShow.wf :=
  fset_wf _ _ (fset_wf _ _ (foldl_wf (fun _ _ => show_wf _ _) _ h))

theorem State.pdAfresh_wf {s : State} {i : Nat} {addr : Option Nat} (h : s.wf) :
    (s.pdAfresh i addr).wf := lower_wf _ (lower_wf _ (lower_wf _ (lower_wf _ (pdUpd_wf _ _ h))))

theorem State.pdRebind_wf {s : State} (h : s.wf) : s.pdRebind.wf := by
  unfold State.pdRebind
  extract_lets one
  have hone : ∀ (x : State) (i : Nat), x.wf → (one x i).wf :=
    fun _ _ hx => ite_wf hx (when_wf (fun _ => raise_wf _) (pdAfresh_wf hx))
  exact pdShow_wf (foldl_wf (fun _ _ => hone _ _) _ h)

theorem State.pdeStart_wf {s : State} (h : s.wf) : s.pdeStart.wf := by
  unfold State.pdeStart
  extract_lets _ _ _ s1 s2 _ s3
  have h1 : s1.wf := pdeUpd_wf h
  have h2 : s2.wf := fset_wf _ _ (fset_wf _ _ h1)
  have h3 : s3.wf := foldl_wf (fun _ _ => pdUpd_wf _ _) _ h2
  exact pdShow_wf (when_wf (fun _ => netSend_wf) h3)

theorem State.pdeSwap_wf {s : State} {old : CfgSet} (h : s.wf) : (s.pdeSwap old).wf :=
  pdShow_wf (foldl_wf (fun _ _ hx => ite_wf hx (setReg_wf _ _ hx)) _ (pdeUpd_wf h))

theorem State.vscInt_wf {s : State} {i : Nat} (h : s.wf) : (s.vscInt i).wf := by
  unfold State.vscInt
  extract_lets _ _ s1
  have h1 : s1.wf := fset_wf _ _ (raise_wf _ (pdeUpd_wf h))
  exact when_wf (fun _ hx => raise_wf _ (raise_wf _ hx)) (fset_wf _ _ (bump_wf _ h1))

theorem State.pdHand_wf {s : State} {i : Nat} {q : Bool} (h : s.wf) : (s.pdHand i q).wf :=
  pdUpd_wf _ _ h

theorem State.pdAccept_wf {s : State} {i : Nat} {e : PdS} {f : PdFrame} (h : s.wf) :
    (s.pdAccept i e f).wf := lower_wf _ (lower_wf _ (raise_wf _ (pdUpd_wf _ _ (rxPut_wf h))))

theorem State.pdFail_wf {s : State} {i code : Nat} (h : s.wf) : (s.pdFail i code).wf := by
  unfold State.pdFail
  split
  · exact vscInt_wf h
  · extract_lets s1 s2 s3
    have h1 : s1.wf := fset_wf _ _ h
    have h2 : s2.wf := when_wf (fun _ => raise_wf _) h1
    have h3 : s3.wf := when_wf (fun _ hx => count_wf _ (raise_wf _ hx)) h2
    exact when_wf (fun _ => raise_wf _) h3

theorem State.pdLoss_wf {s : State} {i : Nat} {firstB : Bool} (h : s.wf) :
    (s.pdLoss i firstB).wf :=
  raise_wf _ (ite_wf (bump_wf _ (bump_wf _ h)) (bump_wf _ (bump_wf _ h)))

theorem State.pdDual_wf {s : State} {i : Nat} {e : PdS} {lanB : Bool} {f : PdFrame} (h : s.wf) :
    (s.pdDual i e lanB f).wf := by
  unfold State.pdDual
  split
  · exact pdUpd_wf _ _ h
  · exact ite_wf h (ite_wf (pdAccept_wf h) (raise_wf _ (raise_wf _ (pdUpd_wf _ _ h))))

theorem State.pdeInput_wf {s : State} (h : s.wf) : s.pdeInput.wf := pdeUpd_wf h

theorem State.dirCommand_wf {s : State} {key ofs : Nat} (h : s.wf) : (s.dirCommand key ofs).wf := by
  unfold State.dirCommand
  split
  · exact answer_wf _ h
  · exact ite_wf (answer_wf _ (fset_wf _ _ h)) (answer_wf _ (pdeUpd_wf (fset_wf _ _ h)))

theorem State.dirDue_wf {s : State} (h : s.wf) : s.dirDue.wf := when_wf (fun _ => pdeUpd_wf) h

theorem State.dirCopied_wf {s : State} (h : s.wf) : s.dirCopied.wf := by
  unfold State.dirCopied
  extract_lets _ r _ _ t s
  have hr : r.1.wf := engineRead_wf h
  have ht : t.1.wf := by
    unfold t
    split
    · exact hr
    · exact engineRead_wf hr
  have hs : s.wf := ht
  exact ite_wf (raise_wf _ (fset_wf _ _ (fset_wf _ _ hs))) (fset_wf _ _ (pdeUpd_wf hs))

theorem State.dirSwitch_wf {s : State} (h : s.wf) : s.dirSwitch.wf := by
  unfold State.dirSwitch
  split
  · exact h
  · extract_lets s1 s2 s3 s4
    have h1 : s1.wf := pdeUpd_wf h
    have h2 : s2.wf := fset_wf _ _ (fset_wf _ _ h1)
    have h3 : s3.wf := raise_wf _ (bump_wf _ (fset_wf _ _ (fset_wf _ _ h2)))
    have h4 : s4.wf := by
      unfold s4
      split
      · exact ite_wf h3 (netSend_wf (fset_wf _ _ h3))
      · exact h3
    exact pdRebind_wf h4

theorem State.mdSend_wf {s : State} {q addr len : Nat} (h : s.wf) : (s.mdSend q addr len).1.wf := by
  unfold State.mdSend
  extract_lets _ _ _ s1
  have h1 : s1.wf := when_wf (fun _ hx => raise_wf _ (bump_wf _ hx)) h
  split
  · exact h
  · split
    · exact h
    · exact pdeUpd_wf h1

theorem State.mdPlace_wf {s : State} {q : Nat} {data : List Byte} {sender ip sess : Nat}
    (h : s.wf) :
    (s.mdPlace q data sender ip sess).wf := by
  unfold State.mdPlace
  extract_lets
  split
  · exact raise_wf _ (bump_wf _ h)
  · exact pdeUpd_wf (burstPut_wf h)

theorem State.mdTake_wf {s : State} {q : Nat} (h : s.wf) : (s.mdTake q).1.wf := by
  unfold State.mdTake
  extract_lets
  split
  · exact h
  · exact when_wf (fun _ => pdeUpd_wf) (pdeUpd_wf h)

theorem State.mdFree_wf {s : State} (h : s.wf) : s.mdFree.wf := pdeUpd_wf h

theorem State.mdSendData_wf {s : State} {q : Nat} {data : List Byte} (h : s.wf) :
    (s.mdSendData q data).wf := by
  unfold State.mdSendData
  extract_lets _ _ _ _ s1
  have h1 : s1.wf := pdeUpd_wf h
  split
  · split
    · exact raise_wf _ h
    · exact mdOut_wf (pdeUpd_wf h)
  · split
    · exact raise_wf _ h1
    · exact mdOut_wf h1

theorem State.mdSendOne_wf {s : State} {q addr len : Nat} (h : s.wf) :
    (s.mdSendOne q addr len).wf := by
  unfold State.mdSendOne
  extract_lets r
  have hr : r.1.wf := engineRead_wf h
  split
  · exact mdSendData_wf hr
  · exact raise_wf _ hr

theorem State.mdSendAll_wf {s : State} (h : s.wf) : s.mdSendAll.wf :=
  ite_wf h (foldl_wf (fun _ _ => mdSendOne_wf) _ (pdeUpd_wf h))

theorem State.mdReceive_wf {s : State} {m : MdMsg} (h : s.wf) : (s.mdReceive m).wf := by
  unfold State.mdReceive
  extract_lets
  split
  · split
    · exact ite_wf (mdPlace_wf h) h
    · exact h
  · split
    · split
      · exact mdOut_wf h
      · split
        · exact mdPlace_wf h
        · exact h
    · split
      · split
        · exact h
        · exact ite_wf (mdPlace_wf (pdeUpd_wf h)) h
      · exact h

theorem State.mdTimeout_wf {s : State} {q : Nat} (h : s.wf) : (s.mdTimeout q).wf := by
  unfold State.mdTimeout
  split
  · exact h
  · exact mdPlace_wf (pdeUpd_wf h)

/-! ### The CAN FD controllers -/

theorem State.canSetSt_wf {s : State} {n b v : Nat} (h : s.wf) : (s.canSetSt n b v).wf :=
  fset_wf _ _ h

theorem State.canItemUpd_wf {s : State} {n b : Nat} {f : CanItem → CanItem} (h : s.wf) :
    (s.canItemUpd n b f).wf := canUpd_wf _ _ h

theorem State.canStore_wf {s : State} {n b elem : Nat} {f : CanFrame} (h : s.wf) :
    (s.canStore n b elem f).wf :=
  raise_wf _ (when_wf (fun _ hx => bump_wf _ (raise_wf _ hx)) (canUpd_wf _ _ h))

theorem State.canFifo_wf {s : State} {n elem : Nat} {f : CanFrame} (h : s.wf) :
    (s.canFifo n elem f).wf := by
  unfold State.canFifo
  extract_lets _ _ put s1
  have hput : ∀ (x : State) (k : Nat), x.wf → (put x k).wf :=
    fun _ _ => canUpd_wf _ _
  have h1 : s1.wf := bump_wf _ (raise_wf _ h)
  exact ite_wf (fset_wf _ _ (hput _ _ h)) (ite_wf (fset_wf _ _ (hput _ _ h1)) h1)

theorem State.canReceive_wf {s : State} {n : Nat} {f : CanFrame} (h : s.wf) :
    (s.canReceive n f).wf := by
  unfold State.canReceive
  split
  · exact h
  · split
    · split
      · exact canFifo_wf h
      · exact canStore_wf h
      · exact h
    · exact ite_wf (canFifo_wf (free_wf h)) h

theorem State.canHand_wf {s : State} {n b : Nat} {content : List Byte} {q : Bool} (h : s.wf) :
    (s.canHand n b content q).wf := by
  unfold State.canHand
  extract_lets _ s1
  have h1 : s1.wf := canItemUpd_wf h
  split
  · exact canItemUpd_wf h
  · exact ite_wf (raise_wf _ (canSetSt_wf h)) (ite_wf (raise_wf _ h1) (canSetSt_wf h1))

theorem State.canDelay_wf {s : State} {n delay : Nat} (h : s.wf) : (s.canDelay n delay).1.wf := by
  unfold State.canDelay
  split
  · exact canUpd_wf _ _ h
  · exact h

theorem State.canNext_wf {s : State} {n b : Nat} (h : s.wf) : (s.canNext n b).wf := by
  unfold State.canNext
  split
  · exact h
  · extract_lets s1
    have h1 : s1.wf := canItemUpd_wf h
    exact ite_wf (raise_wf _ (canSetSt_wf h1)) (canSetSt_wf h1)

theorem State.canFailed_wf {s : State} {n b retry : Nat} (h : s.wf) : (s.canFailed n b retry).wf :=
  canNext_wf (ite_wf (canSetSt_wf (canItemUpd_wf h)) (canSetSt_wf h))

theorem State.canBusOff_wf {s : State} {n : Nat} (h : s.wf) : (s.canBusOff n).wf := by
  unfold State.canBusOff
  extract_lets s1 s2
  have h1 : s1.wf := by
    unfold s1
    refine foldl_wf (fun _ _ hx => ?_) _ h
    exact ite_wf (canSetSt_wf hx) (ite_wf (canFailed_wf (fset_wf _ _ hx)) hx)
  have h2 : s2.wf := count_wf _ (raise_wf _ (fset_wf _ _ h1))
  exact ite_wf (fset_wf _ _ h2) h2

theorem State.canErrState_wf {s : State} {n : Nat} (h : s.wf) : (s.canErrState n).wf :=
  ite_wf (raise_wf _ (fset_wf _ _ h)) (ite_wf (fset_wf _ _ h) h)

theorem State.canError_wf {s : State} {n : Nat} {e : CanErr} (h : s.wf) : (s.canError n e).wf := by
  unfold State.canError
  extract_lets s1
  have h1 : s1.wf := bump_wf _ (raise_wf _ h)
  split
  · exact canUpd_wf _ _ h1
  · split
    · exact h1
    · split
      · exact canErrState_wf (bump_wf _ h1)
      · exact canErrState_wf (bumpBy_wf _ _ h1)
      · exact h1
      · exact ite_wf (canBusOff_wf (fset_wf _ _ h1)) (canErrState_wf (bumpBy_wf _ _ h1))

theorem State.canRecDown_wf {s : State} {n : Nat} (h : s.wf) : (s.canRecDown n).wf := by
  unfold State.canRecDown
  extract_lets
  split
  · exact h
  · split
    · exact h
    · split
      · exact canErrState_wf (fset_wf _ _ h)
      · exact canErrState_wf (fset_wf _ _ (free_wf h))

theorem State.canSent_wf {s : State} {n b : Nat} (h : s.wf) : (s.canSent n b).wf :=
  canNext_wf (canSetSt_wf (canItemUpd_wf (canErrState_wf (fset_wf _ _ (fset_wf _ _ h)))))

theorem State.canCancel_wf {s : State} {n b : Nat} (h : s.wf) : (s.canCancel n b).wf := by
  unfold State.canCancel
  split
  · exact canSetSt_wf h
  · exact canSetSt_wf h
  · exact canItemUpd_wf h
  · exact h

theorem State.canStart_wf {s : State} {n : Nat} (h : s.wf) : (s.canStart n).wf := fset_wf _ _ h

theorem State.canClear_wf {s : State} {n : Nat} (h : s.wf) : (s.canClear n).wf := canUpd_wf _ _ h

theorem State.canSwap_wf {s : State} {n : Nat} {old : RegMap} (h : s.wf) :
    (s.canSwap n old).wf := by
  unfold State.canSwap
  extract_lets _ s1
  have h1 : s1.wf := foldl_wf (fun _ _ hx => canItemUpd_wf (ite_wf (canSetSt_wf hx) hx)) _ h
  exact ite_wf h (canStart_wf (canUpd_wf _ _ h1))

theorem State.canSafe_wf {s : State} {n : Nat} (h : s.wf) : (s.canSafe n).wf :=
  ite_wf h (fset_wf _ _ (foldl_wf (fun _ _ hx => canItemUpd_wf (canSetSt_wf hx)) _ h))

theorem State.canInput_wf {s : State} {n : Nat} (h : s.wf) : (s.canInput n).wf := by
  unfold State.canInput
  extract_lets _ _ one s1
  have hone : ∀ (x : State) (p : CanBuf × Nat), x.wf → (one x p).wf := by
    intro x p hx
    unfold one
    split
    · exact hx
    · exact burstPut_wf hx
  have h1 : s1.wf := ite_wf (foldl_wf (fun _ _ => hone _ _) _ h) h
  exact canUpd_wf _ _ h1

/-! ### The Drove bus -/

theorem State.drvTo_wf {s : State} {n v : Nat} (h : s.wf) : (s.drvTo n v).wf := fset_wf _ _ h

theorem State.drvReject_wf {s : State} {n slot check : Nat} (h : s.wf) :
    (s.drvReject n slot check).wf := by
  unfold State.drvReject
  extract_lets s1
  have h1 : s1.wf := by
    unfold s1
    split
    · exact bump_wf _ h
    · exact bump_wf _ h
    · exact bump_wf _ h
    · exact bump_wf _ h
    · exact bump_wf _ h
    · exact bump_wf _ h
    · exact h
  exact fset_wf _ _ (fset_wf _ _ (fset_wf _ _ h1))

theorem State.drvListen_wf {s : State} {n : Nat} (h : s.wf) : (s.drvListen n).wf := by
  unfold State.drvListen
  extract_lets _ s1 s2
  have h1 : s1.wf := drvUpd_wf _ _ (drvTo_wf h)
  have h2 : s2.wf := fset_wf _ _ h1
  exact when_wf (fun _ hx => count_wf _ (raise_wf _ hx)) h2

theorem State.drvPassive_wf {s : State} {n why : Nat} (h : s.wf) : (s.drvPassive n why).wf :=
  drvUpd_wf _ _ (raise_wf _ (fset_wf _ _ (drvTo_wf h)))

theorem State.drvActive_wf {s : State} {n : Nat} (h : s.wf) : (s.drvActive n).wf :=
  ite_wf (drvPassive_wf h) (drvUpd_wf _ _ (raise_wf _ (fset_wf _ _ (drvTo_wf h))))

theorem State.drvBackoff_wf {s : State} {n : Nat} (h : s.wf) : (s.drvBackoff n).wf := by
  unfold State.drvBackoff
  extract_lets _ s1
  have h1 : s1.wf := drvUpd_wf _ _ (bump_wf _ (raise_wf _ h))
  exact ite_wf (drvListen_wf (drvTo_wf h1)) (drvTo_wf h1)

theorem State.drvMismatch_wf {s : State} {n why : Nat} (h : s.wf) : (s.drvMismatch n why).wf := by
  unfold State.drvMismatch
  split
  · exact drvBackoff_wf h
  · exact drvPassive_wf h
  · exact h

theorem State.drvBlock_wf {s : State} {n : Nat} (h : s.wf) : (s.drvBlock n).wf := by
  unfold State.drvBlock
  extract_lets _ _ s1 s2
  have h1 : s1.wf := bump_wf _ (raise_wf _ (drvUpd_wf _ _ h))
  have h2 : s2.wf := drvMismatch_wf h1
  exact ite_wf (drvTo_wf (raise_wf _ h2)) h2

theorem State.drvMark_wf {s : State} {n : Nat} {t : Int} (h : s.wf) : (s.drvMark n t).wf :=
  drvUpd_wf _ _ h

theorem State.drvUse_wf {s : State} {n : Nat} {r : DrvRef} {node memb : Nat} {own : Bool}
    (h : s.wf) :
    (s.drvUse n r node memb own).wf := by
  unfold State.drvUse
  extract_lets s1 s2 _ s3
  have h1 : s1.wf := when_wf (fun _ => raise_wf _) h
  have h2 : s2.wf := fset_wf _ _ (fset_wf _ _ (fset_wf _ _ (show_wf _ _ (fset_wf _ _ h1))))
  have h3 : s3.wf := drvUpd_wf _ _ h2
  exact rxPut_wf h3

theorem State.drvCorrect_wf {s : State} {n : Nat} {r : DrvRef} (h : s.wf) :
    (s.drvCorrect n r).wf := by
  unfold State.drvCorrect
  extract_lets _ _ s1 _ _ _ s2 _ s2'
  have h1 : s1.wf := fset_wf _ _ h
  have h2 : s2.wf := drvUpd_wf _ _ h1
  have h2' : s2'.wf := drvUpd_wf _ _ (bump_wf _ h1)
  exact ite_wf (fset_wf _ _ h2) (ite_wf (drvPassive_wf h2') h2')

theorem State.drvJoinRef_wf {s : State} {n : Nat} {r : DrvRef} (h : s.wf) :
    (s.drvJoinRef n r).wf := by
  unfold State.drvJoinRef
  split
  · exact drvUpd_wf _ _ h
  · exact ite_wf h (ite_wf (fset_wf _ _ (drvUpd_wf _ _ h)) (drvUpd_wf _ _ h))

theorem State.drvRef_wf {s : State} {n : Nat} {f : DroveFrame} (h : s.wf) : (s.drvRef n f).wf := by
  unfold State.drvRef
  extract_lets _ _ _ _ s1 s1'
  have h1 : s1.wf := fset_wf _ _ (drvUpd_wf _ _ h)
  have h1' : s1'.wf := drvCorrect_wf (drvUse_wf h)
  split
  · exact h
  · split
    · exact drvUse_wf (drvJoinRef_wf h)
    · split
      · exact drvUse_wf (drvJoinRef_wf (drvListen_wf h))
      · split
        · exact ite_wf (drvActive_wf (drvUse_wf h1)) h
        · split
          · split
            · exact ite_wf h (raise_wf _ (drvReject_wf h))
            · exact ite_wf (drvJoinRef_wf h1') (ite_wf (drvUpd_wf _ _ h1') h1')
          · exact h

theorem State.drvRefIn_wf {s : State} {n kind : Nat} {f : DroveFrame} (h : s.wf) :
    (s.drvRefIn n kind f).wf := by
  unfold State.drvRefIn
  extract_lets _ _ s0
  have h0 : s0.wf := when_wf (fun _ => drvMark_wf) h
  split
  · exact h
  · split
    · exact drvReject_wf h0
    · split
      · exact drvReject_wf h0
      · exact ite_wf (drvReject_wf h0) (ite_wf (drvReject_wf h0) (drvRef_wf h0))

theorem State.drvData_wf {s : State} {n : Nat} {f : DroveFrame} (h : s.wf) :
    (s.drvData n f).wf := by
  unfold State.drvData
  extract_lets
  split
  · exact h
  · split
    · exact drvReject_wf h
    · split
      · exact drvReject_wf h
      · split
        · exact drvReject_wf h
        · split
          · exact drvReject_wf h
          · split
            · exact drvReject_wf h
            · refine when_wf (fun _ hx => ?_) (rxPut_wf (drvUpd_wf _ _ h))
              exact drvActive_wf (drvUpd_wf _ _ hx)

theorem State.drvHand_wf {s : State} {n k : Nat} {q : Bool} (h : s.wf) : (s.drvHand n k q).wf :=
  drvUpd_wf _ _ h

theorem State.drvCycleStart_wf {s : State} {n : Nat} (h : s.wf) : (s.drvCycleStart n).wf := by
  unfold State.drvCycleStart
  extract_lets st _ _ _ s1 s2 s3
  have h1 : s1.wf := drvUpd_wf _ _ (fset_wf _ _ h)
  have h2 : s2.wf := ite_wf (bump_wf _ h1) h1
  have h3 : s3.wf := when_wf (fun _ => lower_wf _) h2
  clear_value s3
  clear s1 s2 h1 h2
  clear_value st
  split
  · exact h
  · split
    · exact h3
    · exact ite_wf (drvListen_wf h3) h3
    · exact drvActive_wf h3
    · exact ite_wf (drvListen_wf h3) (ite_wf (drvActive_wf h3) (ite_wf (drvPassive_wf h3) h3))

theorem State.drvStartCh_wf {s : State} {n : Nat} (h : s.wf) : (s.drvStartCh n).wf :=
  drvTo_wf (fset_wf _ _ (drvUpd_wf _ _ h))

theorem State.drvStart_wf {s : State} (h : s.wf) : s.drvStart.wf := drvStartCh_wf (drvStartCh_wf h)

theorem State.drvClear_wf {s : State} (h : s.wf) : s.drvClear.wf := h

theorem State.drvSwap_wf {s : State} {n : Nat} {old : CfgSet} {oldRegs : RegMap} (h : s.wf) :
    (s.drvSwap n old oldRegs).wf := by
  unfold State.drvSwap
  split
  · exact h
  · split
    · exact fset_wf _ _ h
    · extract_lets
      refine when_wf (fun _ hx => count_wf _ (raise_wf _ hx)) ?_
      exact lower_wf _ (fset_wf _ _ (drvStartCh_wf h))

theorem State.drvSafe_wf {s : State} (h : s.wf) : s.drvSafe.wf :=
  foldl_wf (fun _ _ hx => ite_wf hx (drvTo_wf hx)) _ h

theorem State.drvInput_wf {s : State} (h : s.wf) : s.drvInput.wf :=
  foldl_wf (fun _ _ => drvUpd_wf _ _) _ h

/-! ### The Fold link bridge -/

theorem State.flkUpd_wf {s : State} {f : Flk → Flk} (h : s.wf) : (s.flkUpd f).wf := h

theorem State.fstTo_wf {s : State} {k v : Nat} (h : s.wf) : (s.fstTo k v).wf :=
  pairHold_wf (fset_wf _ _ (fset_wf _ _ h))

theorem State.foldOut_wf {s : State} {b : List Byte} (h : s.wf) : (s.foldOut b).wf := flkUpd_wf h

theorem State.foldSend_wf {s : State} {kind st ts : Nat} {body : List Byte} (h : s.wf) :
    (s.foldSend kind st ts body).wf := foldOut_wf h

theorem State.stnUpd_wf {s : State} {f : Station → Station} (h : s.wf) : (s.stnUpd f).wf := h

theorem State.stnHear_wf {s : State} {f : FoldFrame} (h : s.wf) : (s.stnHear f).wf := stnUpd_wf h

theorem State.foldIn_wf {s : State} {f : FoldFrame} {kind len : Nat} {k : State → State}
    (h : s.wf) (hk : ∀ x, x.wf → (k x).wf) : (s.foldIn f kind len k).wf :=
  ite_wf h (ite_wf (raise_wf _ h) (ite_wf h (hk _ h)))

theorem State.lelShow_wf {s : State} (h : s.wf) : s.lelShow.wf := by
  unfold State.lelShow
  extract_lets s1
  have h1 : s1.wf := fset_wf _ _ h
  split
  · exact setReg_wf _ _ (setReg_wf _ _ h1)
  · exact fset_wf _ _ (fset_wf _ _ (fset_wf _ _ (fset_wf _ _ (fset_wf _ _ h1))))

theorem State.lateErr_wf {s : State} {k seq code addr : Nat} (h : s.wf) :
    (s.lateErr k seq code addr).wf := by
  unfold State.lateErr
  extract_lets s0 _ s1
  have h0 : s0.wf := bump_wf _ h
  have h1 : s1.wf := fstUpd_wf _ _ (flkUpd_wf h0)
  exact ite_wf (raise_wf _ (bump_wf _ h0)) (lelShow_wf (raise_wf _ (raise_wf _ h1)))

theorem State.foldRead_wf {s : State} {i : HubItem} (h : s.wf) : (s.foldRead i).wf := by
  unfold State.foldRead
  extract_lets
  split
  · exact reply_wf _ _ _ _ h
  · split
    · exact flkUpd_wf h
    · exact foldSend_wf (flkUpd_wf h)

theorem State.tagFreed_wf {s : State} {k : Nat} (h : s.wf) : (s.tagFreed k).wf := by
  unfold State.tagFreed
  split
  · exact h
  · exact foldRead_wf (flkUpd_wf h)

theorem State.foldWrite_wf {s : State} {i : HubItem} (h : s.wf) : (s.foldWrite i).wf := by
  unfold State.foldWrite
  extract_lets _ _ _ s1
  have h1 : s1.wf := reply_wf _ _ _ _ h
  exact ite_wf (lateErr_wf h1) (foldSend_wf (fstUpd_wf _ _ h1))

theorem State.foldAccess_wf {s : State} {i : HubItem} (h : s.wf) : (s.foldAccess i).wf := by
  unfold State.foldAccess
  split
  · exact flkUpd_wf h
  · exact ite_wf (foldRead_wf h) (ite_wf (foldWrite_wf h) h)

theorem State.semFree_wf {s : State} {n : Nat} (h : s.wf) : (s.semFree n).wf :=
  foldl_wf (fun _ _ => foldAccess_wf) _ (flkUpd_wf (fset_wf _ _ (lower_wf _ h)))

theorem State.semAcquire_wf {s : State} {n cls : Nat} (h : s.wf) : (s.semAcquire n cls).1.wf := by
  unfold State.semAcquire
  split
  · exact h
  · split
    · exact fset_wf _ _ (raise_wf _ h)
    · exact h

theorem State.semWrite_wf {s : State} {n cls v : Nat} (h : s.wf) : (s.semWrite n cls v).wf :=
  ite_wf (answer_wf _ h) (ite_wf (answer_wf _ (semFree_wf h)) (answer_wf _ h))

theorem State.flkSafe_wf {s : State} (h : s.wf) : s.flkSafe.wf :=
  foldl_wf (fun _ _ => when_wf fun _ => semFree_wf) _ h

theorem State.sendImg_wf {s : State} {k : Nat} (h : s.wf) : (s.sendImg k).wf := by
  unfold State.sendImg
  split
  · exact ite_wf h (foldSend_wf h)
  · exact h

theorem State.toService_wf {s : State} {k : Nat} (h : s.wf) : (s.toService k).wf :=
  fstUpd_wf _ _ (fstTo_wf h)

theorem State.stationLost_wf {s : State} {k : Nat} (h : s.wf) : (s.stationLost k).wf := by
  unfold State.stationLost
  extract_lets s1 s2
  have h1 : s1.wf := count_wf _ (raise_wf _ (bump_wf _ (fstTo_wf h)))
  have h2 : s2.wf := fstUpd_wf _ _ h1
  split
  · exact ite_wf (fset_wf _ _ (lower_wf _ (flkUpd_wf h2))) h2
  · exact h2

theorem State.stationMiss_wf {s : State} {k : Nat} (h : s.wf) : (s.stationMiss k).wf := by
  unfold State.stationMiss
  extract_lets _ s1
  have h1 : s1.wf := fstUpd_wf _ _ h
  exact ite_wf (stationLost_wf h1) h1

theorem State.stationReport_wf {s : State} {k bits : Nat} (h : s.wf) :
    (s.stationReport k bits).wf := by
  unfold State.stationReport
  split
  · exact stationMiss_wf h
  · extract_lets s1
    have h1 : s1.wf := show_wf _ _ (fstUpd_wf _ _ h)
    split
    · exact fstUpd_wf _ _ (fstTo_wf h1)
    · split
      · exact h1
      · split
        · exact when_wf (fun _ => raise_wf _) (fstTo_wf h1)
        · exact foldSend_wf (sendImg_wf (raise_wf _ (toService_wf h1)))

theorem State.loadEnd_wf {s : State} {result : Nat} (h : s.wf) : (s.loadEnd result).wf :=
  fset_wf _ _ (lower_wf _ (flkUpd_wf h))

theorem State.loadStep_wf {s : State} {l : FlkLoad} (h : s.wf) : (s.loadStep l).wf := by
  unfold State.loadStep
  extract_lets _ part s1 _ _ s2
  have hpart : ∀ (x : State) (o : Nat), x.wf → (part x o).wf :=
    fun _ _ hx => ite_wf hx (foldSend_wf hx)
  have h1 : s1.wf := hpart _ _ (hpart _ _ h)
  have h2 : s2.wf := when_wf (fun _ => foldSend_wf) (fset_wf _ _ h1)
  exact flkUpd_wf h2

theorem State.loadBegin_wf {s : State} {k : Nat} {retry late : Bool} (h : s.wf) :
    (s.loadBegin k retry late).wf := flkUpd_wf (fset_wf _ _ (fset_wf _ _ (raise_wf _ h)))

theorem State.loadFailed_wf {s : State} {l : FlkLoad} (h : s.wf) : (s.loadFailed l).wf :=
  ite_wf (loadBegin_wf h) (raise_wf _ (fstTo_wf (loadEnd_wf h)))

theorem State.foldExchange_wf {s : State} {l : List (Nat × Nat × Nat × Bool)} (h : s.wf) :
    (s.foldExchange l).wf := by
  unfold State.foldExchange
  refine foldl_wf (fun _ _ hx => ?_) _ h
  extract_lets _ _ _ y
  have hy : y.wf := fstUpd_wf _ _ hx
  exact ite_wf hx (ite_wf (sendImg_wf hy) hy)

theorem State.flkStart_wf {s : State} (h : s.wf) : s.flkStart.wf := flkUpd_wf (raise_wf _ h)

theorem State.flkClear_wf {s : State} (h : s.wf) : s.flkClear.wf := h

theorem State.flkAbort_wf {s : State} (h : s.wf) : s.flkAbort.1.wf :=
  foldl_wf (fun _ _ => reply_wf _ _ _ _) _ h

theorem State.flkInput_wf {s : State} (h : s.wf) : s.flkInput.wf :=
  foldl_wf (fun _ _ => fstUpd_wf _ _) _ h

/-! ### Pair operation -/

theorem State.pairUpd_wf {s : State} {f : Pair → Pair} (h : s.wf) : (s.pairUpd f).wf := h

theorem State.pairClaim_wf {s : State} (h : s.wf) : s.pairClaim.wf :=
  ite_wf h (ite_wf (fset_wf _ _ h) (show_wf _ _ (fset_wf _ _ (pairUpd_wf h))))

theorem State.pairJudgeWith_wf {s : State} {link : Bool} (h : s.wf) :
    (s.pairJudgeWith link).wf := by
  unfold State.pairJudgeWith
  split
  · exact h
  · extract_lets _ _ s1 _ _ _ _ s2 s3 s4 s5
    have h1 : s1.wf := show_wf _ _ (show_wf _ _ h)
    have h2 : s2.wf := show_wf _ _ h1
    have h3 : s3.wf := when_wf (fun _ => raise_wf _) h2
    have h4 : s4.wf := when_wf (fun _ => raise_wf _) h3
    have h5 : s5.wf := when_wf (fun _ hx => count_wf _ (bump_wf _ hx)) h4
    exact when_wf (fun _ => raise_wf _) (when_wf (fun _ => raise_wf _) h5)

theorem State.pairJudge_wf {s : State} (h : s.wf) : s.pairJudge.wf := pairJudgeWith_wf h

theorem State.pairPick_wf {s : State} (h : s.wf) : s.pairPick.wf := pairUpd_wf h

theorem State.pairReceive_wf {s : State} {eth : Bool} {b : List Byte} (h : s.wf) :
    (s.pairReceive eth b).wf := by
  unfold State.pairReceive
  split
  · exact h
  · split
    · extract_lets s1 s2
      have h1 : s1.wf := bump_wf _ h
      have h2 : s2.wf := when_wf (fun _ => raise_wf _) h1
      exact pairJudge_wf (ite_wf (pairUpd_wf h2) h2)
    · extract_lets _ _ s1 s1'
      have h1 : s1.wf := pairUpd_wf h
      have h1' : s1'.wf := pairUpd_wf h
      exact ite_wf (pairJudgeWith_wf (raise_wf _ h1)) (pairJudgeWith_wf (pairPick_wf h1'))

theorem State.pairBoundary_wf {s : State} (h : s.wf) : s.pairBoundary.wf :=
  pairJudge_wf (pairClaim_wf (pairUpd_wf h))

theorem State.pairSafe_wf {s : State} (h : s.wf) : s.pairSafe.wf := pairJudge_wf (fset_wf _ _ h)

theorem State.pairInput_wf {s : State} (h : s.wf) : s.pairInput.wf := pairUpd_wf h

theorem State.pairClear_wf {s : State} (h : s.wf) : s.pairClear.wf := h

/-! ### The update unit -/

theorem State.updUpd_wf {s : State} {f : Upd → Upd} (h : s.wf) : (s.updUpd f).wf := h

theorem State.updEnd_wf {s : State} {st result : Nat} (h : s.wf) : (s.updEnd st result).wf :=
  updUpd_wf (fset_wf _ _ (fset_wf _ _ h))

theorem State.fetchDrop_wf {s : State} (h : s.wf) : s.fetchDrop.wf := flkUpd_wf h

theorem State.updDrop_wf {s : State} (h : s.wf) : s.updDrop.wf := fetchDrop_wf h

theorem State.updRefuse_wf {s : State} {result : Nat} (h : s.wf) : (s.updRefuse result).wf :=
  answer_wf _ (fset_wf _ _ h)

theorem State.updQueue_wf {s : State} {op : FlashOp} (h : s.wf) : (s.updQueue op).wf :=
  updUpd_wf (flashQueue_wf _ h)

theorem State.updNextPage_wf {s : State} (h : s.wf) : s.updNextPage.wf := by
  unfold State.updNextPage
  split
  · exact updEnd_wf h
  · exact ite_wf (updUpd_wf (updQueue_wf h)) (updEnd_wf h)
  · exact h

theorem State.updBytes_wf {s : State} {ofs : Nat} {bs : List Byte} {result st : Nat} (h : s.wf) :
    (s.updBytes ofs bs result st).wf := updNextPage_wf (updUpd_wf (fset_wf _ _ (updUpd_wf h)))

theorem State.fetchIssue_wf {s : State} {n : Nat} (h : s.wf) : (s.fetchIssue n).wf := by
  induction n generalizing s with
  | zero => exact h
  | succ n ih =>
    unfold State.fetchIssue
    split
    · split
      · exact ih (ite_wf (reply_wf _ _ _ _ (updUpd_wf h)) (foldAccess_wf (updUpd_wf h)))
      · exact h
    · exact h

theorem State.fetchPump_wf {s : State} (h : s.wf) : s.fetchPump.wf := by
  unfold State.fetchPump
  extract_lets s1
  have h1 : s1.wf := fetchIssue_wf h
  split
  · exact ite_wf h1 (updBytes_wf h1)
  · exact h1

theorem State.setProgram_wf {s : State} {h o : Nat} {r : List Byte} (hs : s.wf) :
    (s.setProgram h o r).wf := updQueue_wf (updQueue_wf hs)

theorem State.updClear_wf {s : State} (h : s.wf) : s.updClear.wf := record_wf (updDrop_wf h)

/-! ### The units in the safe state, in a local reset and after a reload -/

theorem State.unitsSafe_wf {s : State} (h : s.wf) : s.unitsSafe.wf := by
  unfold State.unitsSafe
  refine pairSafe_wf ?_
  exact fetchPump_wf (flkSafe_wf (drvSafe_wf (foldl_wf (fun _ _ => canSafe_wf) _ h)))

theorem State.unitClear_wf {s : State} {u : Nat} (h : s.wf) : (s.unitClear u).wf := by
  unfold State.unitClear
  split
  · exact ethClear_wf h
  · exact h
  · exact timClear_wf h
  · exact canClear_wf h
  · exact canClear_wf h
  · exact canClear_wf h
  · exact canClear_wf h
  · exact drvClear_wf h
  · exact flkClear_wf h
  · exact pairClear_wf h
  · exact sigClear_wf h
  · exact h
  · exact updClear_wf h
  · exact h

theorem State.unitStart_wf {s : State} {u : Nat} (h : s.wf) : (s.unitStart u).wf := by
  unfold State.unitStart
  split
  · exact fset_wf _ _ h
  · exact pdeStart_wf h
  · exact canStart_wf h
  · exact canStart_wf h
  · exact canStart_wf h
  · exact canStart_wf h
  · exact drvStart_wf h
  · exact flkStart_wf h
  · exact sigStart_wf h
  · exact recRestore_wf h
  · exact h

/-! ### Resets -/

theorem State.safeEnter_wf {s : State} {code : Nat} (h : s.wf) : (s.safeEnter code).wf := by
  unfold State.safeEnter
  split
  · exact h
  · extract_lets _ _ s1 s2 s3 s4
    have h1 : s1.wf := h
    have h2 : s2.wf := unitsSafe_wf (linkSend_wf _ h1)
    have h3 : s3.wf := fset_wf _ _ (count_wf _ h2)
    have h4 : s4.wf := when_wf (fun _ => recSnapshot_wf) h3
    exact record_wf h4

theorem State.lanePart_wf {s : State} {l : LaneId} (h : s.wf) : (s.lanePart l).wf :=
  record_wf (fset_wf _ _ (updLane_wf _ _ h))

theorem State.soloFallback_wf {s : State} (h : s.wf) : s.soloFallback.wf :=
  record_wf (fset_wf _ _ (foldl_wf (fun _ _ => lanePart_wf) _ h))

theorem State.evalSets_wf {s : State} (h : s.wf) : s.evalSets.wf := by
  unfold State.evalSets
  split
  · exact h
  · split
    · exact safeEnter_wf h
    · exact ite_wf h (ite_wf (safeEnter_wf h) (ite_wf (soloFallback_wf h) h))

theorem State.paddocksAfter_wf {s : State} {cold : Bool} {t : State} (ht : t.wf) :
    (s.paddocksAfter cold t).wf := by
  unfold State.paddocksAfter
  extract_lets keep t1
  have hkeep : ∀ (x : State) (p : Paddock), x.wf → (keep x p).wf :=
    fun _ _ => fset_wf _ _
  have ht1 : t1.wf := foldl_wf (fun _ _ => hkeep _ _) _ ht
  exact fset_wf _ _ (fset_wf _ _ ht1)

theorem State.deviceClear_wf {s : State} {cold : Bool} (h : s.wf) : (s.deviceClear cold).wf :=
  paddocksAfter_wf
    (record_wf ⟨smWf_filter _ h.1, h.2.1, regWf_afterReset cold s.regs⟩)

theorem State.causeStart_wf {s : State} (h : s.wf) : s.causeStart.wf :=
  record_wf (fset_wf _ _ (fset_wf _ _ (setReg_wf _ _ h)))

theorem State.episodeStart_wf {s : State} {cold : Bool} (h : s.wf) : (s.episodeStart cold).wf :=
  fset_wf _ _ (record_wf (deviceClear_wf (linkSend_wf _ (causeStart_wf h))))

theorem State.episodeJoin_wf {s : State} {cold : Bool} (h : s.wf) : (s.episodeJoin cold).wf :=
  fset_wf _ _ (deviceClear_wf h)

theorem State.assertDevice_wf {s : State} {src : RstSrc} {cold : Bool} (h : s.wf) :
    (s.assertDevice src cold).wf :=
  record_wf (raise_wf _ (ite_wf (episodeJoin_wf h) (episodeStart_wf h)))

theorem State.clockFault_wf {s : State} {code : Nat} (h : s.wf) : (s.clockFault code).wf :=
  assertDevice_wf (record_wf (when_wf (fun _ => safeEnter_wf) (fset_wf _ _ h)))

theorem State.voterFault_wf {s : State} {cause shep lane : Nat} (h : s.wf) :
    (s.voterFault cause shep lane).wf := by
  unfold State.voterFault
  extract_lets s1
  have h1 : s1.wf := fset_wf _ _ (fset_wf _ _ (fset_wf _ _ (fset_wf _ _ (raise_wf _ h))))
  exact assertDevice_wf (safeEnter_wf h1)

theorem State.sampleStraps_wf {s : State} {st : Straps} (h : s.wf) : (s.sampleStraps st).wf :=
  fset_wf _ _ (show_wf _ _ (fset_wf _ _ h))

theorem State.countEpisode_wf {s : State} (h : s.wf) : s.countEpisode.wf :=
  ite_wf h (record_wf (fset_wf _ _ (when_wf (fun _ => raise_wf _) h)))

theorem State.rampHead_wf {s : State} (h : s.wf) : s.rampHead.wf := by
  unfold State.rampHead
  split
  · exact h
  · exact fset_wf _ _ h

theorem State.releaseStart_wf {s : State} {st : Straps} (h : s.wf) : (s.releaseStart st).wf := by
  unfold State.releaseStart
  extract_lets s1 _ _ s2 _ _ _ _ _ s3
  have h1 : s1.wf := countEpisode_wf (sampleStraps_wf h)
  have h2 : s2.wf := foldl_wf (fun _ _ hx => lower_wf _ (fset_wf _ _ hx)) _ h1
  have h3 : s3.wf := record_wf h2
  exact rampHead_wf h3

theorem State.tryRelease_wf {s : State} {st : Straps} (h : s.wf) : (s.tryRelease st).wf :=
  ite_wf (releaseStart_wf h) h

theorem State.releaseSource_wf {s : State} {src : RstSrc} {st : Straps} (h : s.wf) :
    (s.releaseSource src st).wf := tryRelease_wf h

theorem State.wearRebuild_wf {s : State} (h : s.wf) : s.wearRebuild.wf := by
  unfold State.wearRebuild
  extract_lets _ _ _ _ s1 _ _ s2 s3 _ _ _ s4
  have h1 : s1.wf := foldl_wf (fun _ _ => retainWear_wf) _ h
  have h2 : s2.wf := record_wf h1
  have h3 : s3.wf := foldl_wf (fun _ _ => pendWearFlash_wf) _ h2
  have h4 : s4.wf := record_wf h3
  exact when_wf (fun _ => record_wf) h4

theorem State.wearApply_wf {s : State} {e : WearE} (h : s.wf) : (s.wearApply e).wf := by
  unfold State.wearApply
  split
  · exact raise_wf _ (raise_wf _ h)
  · exact fset_wf _ _ h
  · exact record_wf (fset_wf _ _ h)
  · exact fset_wf _ _ h
  · exact h

theorem State.strayCounts_wf {s : State} (h : s.wf) : s.strayCounts.wf :=
  foldl_wf (fun _ _ => fset_wf _ _) _ h

theorem State.flashDiscovery_wf {s : State} (h : s.wf) : s.flashDiscovery.wf :=
  fset_wf _ _ (show_wf _ _ (show_wf _ _ (show_wf _ _ (fset_wf _ _ (fset_wf _ _ h)))))

theorem State.releaseEnd_wf {s : State} (h : s.wf) : s.releaseEnd.wf := by
  unfold State.releaseEnd
  extract_lets _ _ _ _ s1
  have h1 : s1.wf := h
  split
  · exact raise_wf _ h
  · split
    · exact record_wf h1
    · exact ite_wf (raise_wf _ h1) (flashDiscovery_wf (fset_wf _ _ h1))

theorem State.releaseAdvance_wf {s : State} (h : s.wf) : s.releaseAdvance.wf := by
  unfold State.releaseAdvance
  split
  · extract_lets s1 s2 s3 _ s4
    have h1 : s1.wf := when_wf (fun _ => wearRebuild_wf) h
    have h2 : s2.wf := strayCounts_wf (foldl_wf (fun _ _ => wearApply_wf) _ h1)
    have h3 : s3.wf := foldl_wf (fun _ _ hx => ite_wf (fset_wf _ _ hx) hx) _ h2
    have h4 : s4.wf := record_wf h3
    exact ite_wf (releaseEnd_wf h4) h4
  · exact h

theorem State.unitReset_wf {s : State} {u : Nat} (h : s.wf) : (s.unitReset u).wf := by
  obtain ⟨hmem, hflash, hregs⟩ := h
  exact unitClear_wf (record_wf ⟨hmem, hflash, regWf_clear _ _ hregs⟩)

theorem State.unitReload_wf {s : State} {u : Nat} (h : s.wf) : (s.unitReload u).wf := by
  obtain ⟨hmem, hflash, hregs⟩ := h
  refine unitStart_wf (record_wf ⟨hmem, hflash, ?_⟩)
  exact regWf_foldl (fun _ _ hm => regWf_setWord _ _ hm) _
    (regWf_foldl (fun _ _ hm => regWf_setWord _ _ hm) _ hregs)

theorem State.fieldReload_wf {s : State} (h : s.wf) : s.fieldReload.wf :=
  lower_wf _ (fset_wf _ _ (record_wf (linkSend_wf _ (linkSend_wf _ h))))

theorem State.localAssert_wf {s : State} {t : Nat} (h : s.wf) : (s.localAssert t).1.wf := by
  unfold State.localAssert
  extract_lets hit lost drops _ s1 s2
  have h1 : s1.wf := record_wf h
  have h2 : s2.wf := foldl_wf (fun _ _ => reply_wf _ _ _ _) _ h1
  split
  next s3 fw e =>
  have h3 : s3.wf := by
    split at e
    · have hf : s2.flkAbort.1.wf := flkAbort_wf h2
      rwa [e] at hf
    · cases e
      exact h2
  exact ite_wf (fset_wf _ _ (linkSend_wf _ (fetchPump_wf h3)))
    (foldl_wf (fun _ _ => unitReset_wf) _ (fetchPump_wf h3))

theorem State.localMap_wf {s : State} {t : Nat} {f : LocalEp → LocalEp} (h : s.wf) :
    (s.localMap t f).wf := h

theorem State.localAbsorb_wf {s : State} {e : LocalEp} {src : LocalSrc} (h : s.wf) :
    (s.localAbsorb e src).wf := record_wf (localAssert_wf h)

theorem State.localBegin_wf {s : State} {t : Nat} {src : LocalSrc} (h : s.wf) :
    (s.localBegin t src).wf := by
  unfold State.localBegin
  split
  · exact h
  · split <;> exact ite_wf h (localAbsorb_wf h)

theorem State.localReleased_wf {s : State} {src : LocalSrc} (h : s.wf) :
    (s.localReleased src).wf := h

theorem State.localOpen_wf {s : State} (h : s.wf) : s.localOpen.wf := by
  unfold State.localOpen
  extract_lets _ _ _ s1
  have h1 : s1.wf := h
  refine foldl_wf (fun _ _ hx => ?_) _ h1
  exact fset_wf _ _ (bump_wf _ (fset_wf _ _ (fset_wf _ _ hx)))

/-! ### The field die -/

theorem State.loopEval_wf {s : State} (h : s.wf) : s.loopEval.wf := h

theorem State.fdUpd_wf {s : State} {f : Fd → Fd} (h : s.wf) : (s.fdUpd f).wf :=
  ite_wf (loopEval_wf h) h

theorem State.popField_wf {s t : State} {p : LinkFrame → Bool} {f : LinkFrame} (h : s.wf)
    (e : s.popField p = some (f, t)) : t.wf := by
  unfold State.popField at e
  split at e
  · cases e
  · split at e
    · cases e
      exact h
    · cases e

theorem State.fieldDrop_wf {s : State} (h : s.wf) : s.fieldDrop.wf := h

theorem execFieldResetFrame_wf {crcOk : Bool} {s : State} (h : s.wf) :
    Yields (execFieldResetFrame crcOk s) State.wf := by
  refine next_wf ?_
  split
  · next e => exact ite_wf (fieldDrop_wf (popField_wf h e)) (popField_wf h e)
  · exact h

theorem execFieldLoadFrame_wf {crcOk : Bool} {s : State} (h : s.wf) :
    Yields (execFieldLoadFrame crcOk s) State.wf := by
  unfold execFieldLoadFrame
  refine next_wf ?_
  split
  · exact ite_wf h (ite_wf (loopEval_wf (record_wf h)) (record_wf h))
  · exact h

theorem State.fdTake_wf {s : State} {crcOk : Bool} {f : Fd → Fd} (h : s.wf) :
    (s.fdTake crcOk f).wf := when_wf (fun _ => fdUpd_wf) h

theorem State.fdImage_wf {s : State} {crcOk : Bool} {type : Nat} {b : List Byte} (h : s.wf) :
    (s.fdImage crcOk type b).wf := by
  unfold State.fdImage
  split
  · exact fdTake_wf h
  · exact h

theorem execFieldCommitFrame_wf {crcOk : Bool} {s : State} (h : s.wf) :
    Yields (execFieldCommitFrame crcOk s) State.wf := by
  unfold execFieldCommitFrame
  refine next_wf ?_
  split
  · exact fdImage_wf h
  · exact h

theorem execFieldRefreshFrame_wf {crcOk : Bool} {s : State} (h : s.wf) :
    Yields (execFieldRefreshFrame crcOk s) State.wf := by
  unfold execFieldRefreshFrame
  refine next_wf ?_
  split
  · exact fdImage_wf h
  · exact h

theorem execFieldSafeFrame_wf {crcOk : Bool} {s : State} (h : s.wf) :
    Yields (execFieldSafeFrame crcOk s) State.wf := by
  refine next_wf ?_
  split
  · next e =>
    have ht := popField_wf h e
    exact ite_wf (loopEval_wf (record_wf ht)) ht
  · exact h

theorem State.fieldTimeout_wf {s : State} (h : s.wf) : s.fieldTimeout.wf := fdUpd_wf h

theorem State.driftAll_wf {s : State} {cmp : BitVec 16} {dr : List (Nat × Nat)} (h : s.wf) :
    (s.driftAll cmp dr).wf := foldl_wf (fun _ _ hx => ite_wf (record_wf hx) hx) _ h

theorem State.fieldSubst_wf {s : State} {e : Nat × Nat × Nat} (h : s.wf) : (s.fieldSubst e).wf :=
  ite_wf h (when_wf (fun _ => spareExhausted_wf) (wearLog_wf _ _ _ h))

theorem execStatusFrameReceived_wf {crcOk : Bool} {s : State} (h : s.wf) :
    Yields (execStatusFrameReceived crcOk s) State.wf := by
  refine next_wf ?_
  split
  · exact h
  · next fr t _ =>
    extract_lets _ s1 regs _ s2 s3 s4
    have h1 : s1.wf := record_wf h
    have hr : regWf regs = true := regWf_foldl (fun _ _ hm => regWf_setWord _ _ hm) _ h1.2.2
    have h2 : s2.wf := record_wf ⟨h1.1, h1.2.1, hr⟩
    have h3 : s3.wf := show_wf _ _ (show_wf _ _ h2)
    have h4 : s4.wf := foldl_wf (fun _ _ => raise_wf _) _ h3
    exact ite_wf h1 (ite_wf (bump_wf _ h1) (foldl_wf (fun _ _ => fieldSubst_wf) _ h4))

theorem State.linkFailure_wf {s : State} (h : s.wf) : s.linkFailure.wf := by
  unfold State.linkFailure
  extract_lets s1 _ s2 s3
  have h1 : s1.wf := lower_wf _ (raise_wf _ (fset_wf _ _ h))
  have h2 : s2.wf := record_wf h1
  have h3 : s3.wf := when_wf (fun _ => safeEnter_wf) h2
  exact evalSets_wf h3

/-! ### Supplies -/

theorem State.setOk_wf {s : State} {r : Rail} {b : Bool} (h : s.wf) : (s.setOk r b).wf := by
  unfold State.setOk
  split <;> exact h

theorem State.brownout_wf {s : State} {r : Rail} {code : Nat} (h : s.wf) :
    (s.brownout r code).wf := when_wf (fun _ => fset_wf _ _) (assertDevice_wf h)

theorem State.vflLost_wf {s : State} (h : s.wf) : s.vflLost.wf :=
  record_wf (lower_wf _ (fset_wf _ _ (fset_wf _ _ (raise_wf _ h))))

theorem State.toVbk_wf {s : State} (h : s.wf) : s.toVbk.wf := h

theorem execSupplyMonitorTrip_wf {r : Rail} {s : State} (h : s.wf) :
    Yields (execSupplyMonitorTrip r s) State.wf := by
  unfold execSupplyMonitorTrip
  extract_lets s1 _ s2 upd upd'
  have h1 : s1.wf := setOk_wf h
  have h2 : s2.wf := record_wf h1
  have hupd : upd.wf := raise_wf _ h1
  have hupd' : upd'.wf := raise_wf _ h1
  refine next_wf ?_
  split
  · exact brownout_wf (toVbk_wf h1)
  · exact brownout_wf h1
  · exact brownout_wf h1
  · exact brownout_wf h1
  · exact evalSets_wf (localBegin_wf (raise_wf _ h1))
  · exact evalSets_wf (localBegin_wf (raise_wf _ h1))
  · exact evalSets_wf (vflLost_wf h1)
  · exact evalSets_wf (loopEval_wf (fset_wf _ _ (raise_wf _ h1)))
  · exact ite_wf (toVbk_wf h2) h2
  · exact record_wf hupd
  · exact record_wf hupd'

theorem State.bkupClear_wf {s : State} (h : s.wf) : s.bkupClear.wf := by
  unfold State.bkupClear
  split
  · exact record_wf (raise_wf _ (memClear_keeps _ _ (fset_wf _ _ (lower_wf _ (fset_wf _ _ h)))))
  · exact h

theorem State.fieldWaitEnd_wf {s : State} (h : s.wf) : s.fieldWaitEnd.wf :=
  when_wf (fun _ => lower_wf _) h

theorem State.fieldStart_wf {s : State} (h : s.wf) : s.fieldStart.wf := by
  unfold State.fieldStart
  extract_lets s1 upd s2
  have h1 : s1.wf := setOk_wf h
  have hupd : upd.wf := fset_wf _ _ h1
  have h2 : s2.wf := record_wf hupd
  exact ite_wf h1 (fieldWaitEnd_wf (when_wf (fun _ => fieldReload_wf) h2))

theorem State.fpowerStart_wf {s : State} (h : s.wf) : s.fpowerStart.wf :=
  fieldWaitEnd_wf (when_wf (fun _ => fset_wf _ _) h)

theorem execSupplyMonitorRelease_wf {r : Rail} {st : Straps} {s : State} (h : s.wf) :
    Yields (execSupplyMonitorRelease r st s) State.wf := by
  unfold execSupplyMonitorRelease
  extract_lets s1 group _ s2
  have h1 : s1.wf := setOk_wf h
  have hgroup : ∀ (x : State), x.wf → (group x).wf :=
    fun _ hx => ite_wf (localReleased_wf hx) hx
  have h2 : s2.wf := record_wf h1
  refine next_wf ?_
  split
  · exact releaseSource_wf (assertDevice_wf h2)
  · exact releaseSource_wf h1
  · exact releaseSource_wf h1
  · exact releaseSource_wf h1
  · exact hgroup _ h1
  · exact hgroup _ h1
  · exact fieldStart_wf h1
  · exact fpowerStart_wf h1
  · exact record_wf h1
  · exact record_wf h1
  · exact record_wf h1

theorem execOvervoltageEvent_wf {r : Rail} {mv : Nat} {s : State} (h : s.wf) :
    Yields (execOvervoltageEvent r mv s) State.wf := by
  unfold execOvervoltageEvent
  refine next_wf ?_
  split
  · exact when_wf (fun _ => extMax_wf) (record_wf (raise_wf _ h))
  · exact h
  · exact h
  · exact h
  · exact h
  · exact when_wf (fun _ => extMax_wf) (raise_wf _ h)
  · exact raise_wf _ h
  · exact raise_wf _ h
  · exact raise_wf _ h
  · exact raise_wf _ h
  · exact raise_wf _ h

theorem State.powerGood_wf {s : State} {st : Straps} (h : s.wf) : (s.powerGood st).wf := by
  unfold State.powerGood
  extract_lets s1
  have h1 : s1.wf := bkupClear_wf h
  exact ite_wf (releaseSource_wf (record_wf h1)) h1

theorem State.rampNext_wf {s : State} (h : s.wf) : s.rampNext.wf :=
  releaseAdvance_wf (rampHead_wf h)

theorem State.paddockOn_wf {s : State} {p : Paddock} (h : s.wf) : (s.paddockOn p).wf :=
  foldl_wf (fun _ _ => raise_wf _) _ (fset_wf _ _ h)

theorem State.appOn_wf {s : State} {p : Paddock} (h : s.wf) : (s.appOn p).wf := by
  unfold State.appOn
  split
  · exact ite_wf (fieldReload_wf (record_wf (fset_wf _ _ h))) (fset_wf _ _ h)
  · exact fset_wf _ _ h
  · exact record_wf (when_wf (fun _ => fset_wf _ _) (paddockOn_wf h))

theorem execPaddockPowerGood_wf {s : State} (h : s.wf) :
    Yields (execPaddockPowerGood s) State.wf := by
  unfold execPaddockPowerGood
  refine next_wf ?_
  split
  · exact rampNext_wf (paddockOn_wf h)
  · split
    · exact localReleased_wf (appOn_wf h)
    · exact h

theorem execPaddockPowerTimeout_wf {s : State} (h : s.wf) :
    Yields (execPaddockPowerTimeout s) State.wf := by
  unfold execPaddockPowerTimeout
  refine next_wf ?_
  split
  · exact rampNext_wf (raise_wf _ (fset_wf _ _ h))
  · split
    · exact record_wf (when_wf (fun _ => raise_wf _) (fset_wf _ _ h))
    · exact h

theorem State.reqOff_wf {s : State} {p : Paddock} (h : s.wf) : (s.reqOff p).wf := by
  unfold State.reqOff
  split
  · exact answer_wf _ h
  · extract_lets s1 s2
    have h1 : s1.wf := answer_wf _ (raise_wf _ h)
    have h2 : s2.wf := fset_wf _ _ h1
    exact ite_wf h1 (ite_wf (record_wf h2) (record_wf h2))

theorem State.goesOn_wf {s : State} {p : Paddock} (h : s.wf) : (s.goesOn p).wf := fset_wf _ _ h

theorem State.reqCancel_wf {s : State} {p : Paddock} (h : s.wf) : (s.reqCancel p).wf :=
  ite_wf (answer_wf _ (record_wf (goesOn_wf (lower_wf _ h)))) (answer_wf _ h)

theorem State.reqOn_wf {s : State} {p : Paddock} (h : s.wf) : (s.reqOn p).wf := by
  unfold State.reqOn
  extract_lets _ s1 s2
  have h1 : s1.wf := answer_wf _ (lower_wf _ h)
  have h2 : s2.wf := fset_wf _ _ h1
  exact ite_wf (answer_wf _ h) (ite_wf h1 (record_wf h2))

theorem State.reqBit_wf {s : State} {p : Paddock} {b : Bool} (h : s.wf) : (s.reqBit p b).wf := by
  unfold State.reqBit
  split
  · exact ite_wf (answer_wf _ h) (reqOff_wf h)
  · exact ite_wf (reqCancel_wf h) (ite_wf (reqOn_wf h) (answer_wf _ h))

theorem State.writePwrReq_wf {s : State} {v : Nat} (h : s.wf) : (s.writePwrReq v).wf :=
  ite_wf (answer_wf _ h) (foldl_wf (fun _ _ => reqBit_wf) _ (answer_wf _ h))

theorem execPlannedDrainExpiry_wf {k : DrainKey} {s : State} (h : s.wf) :
    Yields (execPlannedDrainExpiry k s) State.wf := by
  unfold execPlannedDrainExpiry
  refine next_wf ?_
  split
  · exact ite_wf h h
  · split
    · exact evalSets_wf (localAbsorb_wf h)
    · exact h

theorem State.gateEnd_wf {s : State} {p : Paddock} (h : s.wf) : (s.gateEnd p).wf :=
  when_wf (fun _ hx => fset_wf _ _ (lower_wf _ hx)) h

theorem State.paddockOff_wf {s : State} {p : Paddock} (h : s.wf) : (s.paddockOff p).wf := by
  unfold State.paddockOff
  extract_lets s1 s2 _ upd _ s3 upd'
  have h1 : s1.wf := foldl_wf (fun _ _ => localAssert_wf) _ h
  have h2 : s2.wf := foldl_wf (fun _ _ => lower_wf _) _ (gateEnd_wf h1)
  have hupd : upd.wf := fset_wf _ _ h2
  have h3 : s3.wf := record_wf hupd
  have hupd' : upd'.wf := lower_wf _ (fset_wf _ _ h3)
  split
  · exact record_wf hupd'
  · exact loopEval_wf h3
  · split
    · exact record_wf h3
    · exact h3

theorem State.boundaryOff_wf {s : State} (h : s.wf) : s.boundaryOff.wf := by
  unfold State.boundaryOff
  extract_lets _ _ s1 _ s2
  have h1 : s1.wf := by
    unfold s1
    refine foldl_wf (fun _ _ hx => ?_) _ h
    exact ite_wf hx (ite_wf (paddockOff_wf hx) (raise_wf _ (lower_wf _ (goesOn_wf hx))))
  have h2 : s2.wf := by
    unfold s2
    refine foldl_wf (fun _ _ hx => ?_) _ h1
    split
    · exact fset_wf _ _ (bump_wf _ (fset_wf _ _ (fset_wf _ _ hx)))
    · exact hx
  exact record_wf h2

/-! ### The commands of reset -/

theorem State.debugLocal_wf {s : State} {target : Nat} {fits : Bool} (h : s.wf) :
    (s.debugLocal target fits).wf :=
  ite_wf (evalSets_wf (localBegin_wf (answer_wf _ h))) (answer_wf _ h)

theorem execDebugResetCommand_wf {trstHigh : Bool} {reach : Reach} {target : Nat} {s : State}
    (h : s.wf) : Yields (execDebugResetCommand trstHigh reach target s) State.wf := by
  unfold execDebugResetCommand
  refine next_wf ?_
  split
  · exact h
  · split
    · exact assertDevice_wf h
    · exact assertDevice_wf h
    · exact debugLocal_wf h
    · exact debugLocal_wf h

theorem State.trimDone_wf {s : State} (h : s.wf) : s.trimDone.wf := h

theorem execTrimCopyDone_wf {crcOk : Bool} {s : State} (h : s.wf) :
    Yields (execTrimCopyDone crcOk s) State.wf := by
  unfold execTrimCopyDone
  refine next_wf ?_
  split
  · exact h
  · split
    · exact trimDone_wf (lower_wf _ (fset_wf _ _ (raise_wf _ h)))
    · exact ite_wf h (trimDone_wf (raise_wf _ (fset_wf _ _ h)))

theorem State.swrstWarm_wf {s : State} {key : Nat} (h : s.wf) : (s.swrstWarm key).wf :=
  ite_wf (assertDevice_wf (answer_wf _ h)) (answer_wf _ h)

theorem State.swrstLocal_wf {s : State} {key target : Nat} {paddock : Bool} (h : s.wf) :
    (s.swrstLocal key target paddock).wf :=
  ite_wf (evalSets_wf (localBegin_wf (answer_wf _ h))) (answer_wf _ h)

theorem State.writeSwrst_wf {s : State} {v : Nat} (h : s.wf) : (s.writeSwrst v).wf := by
  unfold State.writeSwrst
  split
  · exact swrstLocal_wf h
  · exact swrstLocal_wf h
  · exact swrstWarm_wf h
  · exact answer_wf _ h

/-! ### Clocks -/

theorem State.settled_wf {s : State} (h : s.wf) : s.settled.wf := ite_wf (ite_wf h h) h

theorem execHrcSettleExpiry_wf {o : Hrc} {s : State} (h : s.wf) :
    Yields (execHrcSettleExpiry o s) State.wf := by
  unfold execHrcSettleExpiry
  refine next_wf ?_
  split <;> exact ite_wf h (settled_wf h)

theorem State.hrc1Qualify_wf {s : State} (h : s.wf) : s.hrc1Qualify.wf :=
  record_wf (show_wf _ _ (raise_wf _ h))

theorem execQualWindowEnd_wf {o : Osc} {count : Nat} {s : State} (h : s.wf) :
    Yields (execQualWindowEnd o count s) State.wf := by
  unfold execQualWindowEnd
  refine next_wf ?_
  split
  · split
    · exact h
    · split
      · exact record_wf (hrc1Qualify_wf h)
      · exact ite_wf (when_wf (fun _ => clockFault_wf) (raise_wf _ (hrc1Qualify_wf h))) h
  · split
    · exact h
    · split
      · exact record_wf (fset_wf _ _ (raise_wf _ h))
      · exact ite_wf (clockFault_wf (raise_wf _ h)) h

theorem execPllLock_wf {s : State} (h : s.wf) : Yields (execPllLock s) State.wf := by
  unfold execPllLock
  refine next_wf ?_
  exact ite_wf (releaseAdvance_wf (record_wf (raise_wf _ (raise_wf _ (raise_wf _ h))))) h

theorem State.enterHold_wf {s : State} (h : s.wf) : s.enterHold.wf :=
  record_wf (fset_wf _ _ (fset_wf _ _ (unitsSafe_wf h)))

theorem State.hrc1Loss_wf {s : State} (h : s.wf) : s.hrc1Loss.wf :=
  when_wf (fun _ => enterHold_wf) (record_wf (raise_wf _ (lower_wf _ h)))

theorem State.xtalLoss_wf {s : State} (h : s.wf) : s.xtalLoss.wf := by
  unfold State.xtalLoss
  extract_lets s1 _ s2
  have h1 : s1.wf := raise_wf _ (lower_wf _ h)
  have h2 : s2.wf := record_wf h1
  exact ite_wf (fset_wf _ _ h2) (enterHold_wf h2)

/-- Table 05-3 leads to no loss, to one of the two losses, or to a clock fault. -/
theorem execMonitorWindowEnd_wf {xh hh xh1 : Option Nat} {s : State} (h : s.wf) :
    Yields (execMonitorWindowEnd xh hh xh1 s) State.wf := by
  refine next_wf (when_wf (fun x hx => ite_wf hx ?_) h)
  extract_lets _ _ _ xPair hPair x1Pair
  clear_value xPair hPair x1Pair
  split
  · exact hx
  · exact hrc1Loss_wf (record_wf hx)
  · exact xtalLoss_wf (record_wf hx)
  · exact clockFault_wf (record_wf hx)

/-- A missing edge is judged as the end of a window that finds both pairs of the crystal beyond
their limits. -/
theorem execMissingEdgeTrip_wf {s : State} (h : s.wf) :
    Yields (execMissingEdgeTrip s) State.wf := by
  have hwin := execMonitorWindowEnd_wf (xh := some 20001) (hh := none) (xh1 := some 20001) h
  unfold execMissingEdgeTrip
  split
  · next hc =>
    rw [Bool.and_eq_true] at hc
    simpa [execMonitorWindowEnd, State.when, hc.1] using hwin
  · exact next_wf h
theorem execSerrefLoss_wf {s : State} (h : s.wf) : Yields (execSerrefLoss s) State.wf := by
  unfold execSerrefLoss
  extract_lets s1 upd
  have h1 : s1.wf := when_wf (fun _ => raise_wf _) (raise_wf _ h)
  have hupd : upd.wf := fset_wf _ _ (fset_wf _ _ h1)
  exact next_wf (record_wf hupd)

theorem execDisciplineStep_wf {o : Hrc} {err : Int} {s : State} (h : s.wf) :
    Yields (execDisciplineStep o err s) State.wf := by
  unfold execDisciplineStep
  extract_lets
  refine next_wf ?_
  split
  · exact fset_wf _ _ h
  · split
    · exact fset_wf _ _ (when_wf (fun _ => raise_wf _) h)
    · exact when_wf (fun _ => raise_wf _) (fset_wf _ _ (fset_wf _ _ h))

theorem State.gateWrite_wf {s : State} {c : Nat} {opening : Bool} (h : s.wf) :
    (s.gateWrite c opening).wf := by
  unfold State.gateWrite
  split
  · exact answer_wf _ h
  · extract_lets s1 upd
    have h1 : s1.wf := answer_wf _ (fset_wf _ _ h)
    have hupd : upd.wf := fset_wf _ _ h1
    split
    · exact fset_wf _ _ h1
    · exact ite_wf (record_wf hupd) (ite_wf (record_wf hupd) (raise_wf _ (fset_wf _ _ h1)))

theorem execGateOpenEffect_wf {s : State} (h : s.wf) : Yields (execGateOpenEffect s) State.wf := by
  unfold execGateOpenEffect
  refine next_wf ?_
  split
  · exact record_wf (raise_wf _ h)
  · exact h

theorem State.closeRefuse_wf {s : State} (h : s.wf) : s.closeRefuse.wf :=
  when_wf (fun _ hx => fset_wf _ _ (lower_wf _ hx)) h

theorem State.openUsedGates_wf {s : State} (h : s.wf) : s.openUsedGates.wf := by
  unfold State.openUsedGates
  refine closeRefuse_wf ?_
  refine foldl_wf (fun _ _ hx => ?_) _ h
  split
  · split
    · exact raise_wf _ (raise_wf _ hx)
    · exact raise_wf _ hx
  · exact hx

theorem State.writeOutcfg_wf {s : State} {v : Nat} (h : s.wf) : (s.writeOutcfg v).wf := by
  unfold State.writeOutcfg
  split
  · exact answer_wf _ h
  · exact record_wf (answer_wf _ (fset_wf _ _ (fset_wf _ _ (fset_wf _ _ (fset_wf _ _ h)))))

/-! ### The memory banks -/

theorem State.setScrub_wf {s : State} {b n : Nat} (h : s.wf) : (s.setScrub b n).wf := h

theorem State.upset_wf {s : State} {bank : Bank} {flips : List (Nat × List Nat)} (h : s.wf) :
    (s.upset bank flips).wf := foldl_wf (fun _ _ => flipBits_wf) _ h

theorem execScrubStep_wf {bank : Bank} {flips : List (Nat × List Nat)} {s : State} (h : s.wf) :
    Yields (execScrubStep bank flips s) State.wf := by
  unfold execScrubStep
  extract_lets _ s0 _ s1
  have h0 : s0.wf := upset_wf h
  have h1 : s1.wf := wordScrub_wf _ _ _ h0
  refine next_wf ?_
  split
  · exact h0
  · exact ite_wf (setScrub_wf h1) (when_wf (fun _ => bump_wf _) (setScrub_wf h1))

theorem execColumnRepairRowCopy_wf {bank : Bank} {s : State} (h : s.wf) :
    Yields (execColumnRepairRowCopy bank s) State.wf := by
  unfold execColumnRepairRowCopy
  extract_lets
  refine next_wf ?_
  split
  · exact h
  · extract_lets s1
    have h1 : s1.wf := rowCopy_wf _ _ h
    exact ite_wf (record_wf h1) (show_wf _ _ (record_wf h1))

theorem State.remapRow_wf {s : State} {b row : Nat} (h : s.wf) : (s.remapRow b row).wf := by
  unfold State.remapRow
  extract_lets _ _ s0 _ s1 _ _ s2 s3
  have h0 : s0.wf := h
  have h1 : s1.wf := raise_wf _ (fset_wf _ _ h0)
  have h2 : s2.wf := record_wf h1
  have h3 : s3.wf := wearLog_wf _ _ _ (rowCopy_wf _ _ h2)
  exact ite_wf h0 (when_wf (fun _ hx => raise_wf _ (spareExhausted_wf hx)) h3)

theorem State.startColumn_wf {s : State} {c : Nat × Nat × Nat} (h : s.wf) :
    (s.startColumn c).wf := by
  unfold State.startColumn
  extract_lets _ s1 _ _ s2
  have h1 : s1.wf := raise_wf _ (raise_wf _ (fset_wf _ _ h))
  have h2 : s2.wf := record_wf h1
  exact raise_wf _ (spareExhausted_wf (wearLog_wf _ _ _ h2))

theorem State.boundaryRemaps_wf {s : State} (h : s.wf) : s.boundaryRemaps.wf := by
  unfold State.boundaryRemaps
  extract_lets _ _ s1 s2
  have h1 : s1.wf := h
  have h2 : s2.wf := by
    unfold s2
    refine foldl_wf (fun _ _ hx => ?_) _ h1
    split
    · exact remapRow_wf hx
    · exact hx
  exact foldl_wf (fun _ _ => startColumn_wf) _ (record_wf h2)

theorem State.setHeld_wf {s : State} {l : LaneId} {h : List (Nat × DWord)} (hs : s.wf) :
    (s.setHeld l h).wf := when_wf (fun _ => fset_wf _ _) (updLane_wf _ _ hs)

theorem State.heldLost_wf {s : State} {l : LaneId} {n : Nat} (h : s.wf) : (s.heldLost l n).wf :=
  ite_wf h (bumpBy_wf _ _ (bumpBy_wf _ _ (raise_wf _ h)))

theorem State.heldTake_wf {s : State} {l : LaneId} {a : Nat} (h : s.wf) : (s.heldTake l a).wf :=
  setHeld_wf h

theorem State.heldStore_wf {s : State} {l : LaneId} {a : Nat} (h : s.wf) : (s.heldStore l a).wf :=
  ite_wf h (heldLost_wf (setHeld_wf h))

theorem State.heldAdd_wf {s : State} {l : LaneId} {a : Nat} {d : DWord} (h : s.wf) :
    (s.heldAdd l a d).wf := heldLost_wf (setHeld_wf h)

theorem State.heldFlush_wf {s : State} {l : LaneId} (h : s.wf) : (s.heldFlush l).wf :=
  heldLost_wf (setHeld_wf h)

theorem State.xspiRead_wf {s : State} {ini : Initiator} {a n : Nat} (h : s.wf) :
    (s.xspiRead ini a n).wf := ite_wf (answer_wf _ h) (ite_wf (answer_wf _ h) (answerData_wf _ h))

theorem State.failOldest_wf {s : State} {p : HubItem → Bool} {r : Resp} (h : s.wf) :
    (s.failOldest p r).wf := by
  unfold State.failOldest
  split
  · exact reply_wf _ _ _ _ h
  · exact answer_wf _ h

theorem State.setCredits_wf {s : State} {ini t n : Nat} (h : s.wf) : (s.setCredits ini t n).wf := h

/-! ### COMMIT and EXCHANGE -/

theorem State.itemTouch_wf {s : State} {kind key : Nat} (h : s.wf) : (s.itemTouch kind key).wf :=
  ite_wf h h

theorem State.outWord_wf {s : State} {k : Nat} (h : s.wf) : (s.outWord k).1.wf := engineRead_wf h

theorem State.cycWords_wf {s : State} (h : s.wf) : s.cycWords.1.wf := by
  refine foldl_fst_wf (fun _ _ hp => ?_) _ ?_
  · exact outWord_wf hp
  · exact h

theorem State.itemWord_wf {s : State} {w : OutW} (h : s.wf) : (s.itemWord w).wf :=
  ite_wf (burstPutLe_wf (itemTouch_wf h)) h

theorem State.commitWords_wf {s : State} {ws : List OutW} (h : s.wf) : (s.commitWords ws).wf :=
  fset_wf _ _ (linkSend_wf _ (record_wf (foldl_wf (fun _ _ => itemWord_wf) _ h)))

theorem State.itemHand_wf {s : State} {ws : List OutW} {x : Nat × Nat} (h : s.wf) :
    (s.itemHand ws x).wf := by
  unfold State.itemHand
  extract_lets _ r
  have hr : r.1.wf := engineRead_wf h
  split
  · exact h
  · split
    · exact pdHand_wf h
    · split
      · exact canHand_wf hr
      · exact hr
    · exact drvHand_wf h

theorem State.exchange_wf {s : State} {ws : List OutW} (h : s.wf) : (s.exchange ws).wf :=
  record_wf (foldExchange_wf (foldl_wf (fun _ _ => itemHand_wf) _ h))

theorem State.commitPhase_wf {s : State} (h : s.wf) : s.commitPhase.wf := by
  unfold State.commitPhase
  extract_lets r _ s1
  have hr : r.1.wf := cycWords_wf (fset_wf _ _ h)
  have h1 : s1.wf := dirDue_wf (mdFree_wf (mdSendAll_wf (commitWords_wf hr)))
  exact fset_wf _ _ (exchange_wf h1)

theorem State.tryCommit_wf {s : State} (h : s.wf) : s.tryCommit.wf := ite_wf (commitPhase_wf h) h

/-! ### What every instruction shares -/

theorem State.safeDrain_wf {s : State} (h : s.wf) : s.safeDrain.wf := ite_wf (safeEnter_wf h) h

theorem State.safeAction_wf {s : State} {l : LaneId} (h : s.wf) : (s.safeAction l).wf :=
  ite_wf (tryCommit_wf (updLane_wf _ _ h)) (safeDrain_wf (updLane_wf _ _ h))

theorem State.privDedTake_wf {s : State} {l : LaneId} {a : Nat} (h : s.wf) :
    (s.privDedTake l a).wf := send_wf _ _ _ _ _ (updLane_wf _ _ (raise_wf _ (recordUe_wf _ _ _ h)))

theorem State.trapEnter_wf {s : State} {l : LaneId} {code faddr resp : Nat} (h : s.wf) :
    (s.trapEnter l code faddr resp).wf := by
  unfold State.trapEnter
  extract_lets _ _ s _ _ _ _ _ s1
  have hs : s.wf := lseen_wf _ _ h
  have h1 : s1.wf :=
    lstore_wf _ _ _ _ (lstore_wf _ _ _ _ (lstore_wf _ _ _ _ (lstore_wf _ _ _ _ hs)))
  exact ite_wf (privDedTake_wf h) (ite_wf (safeAction_wf hs) (updLane_wf _ _ h1))

theorem State.instr_wf {s : State} {l : LaneId} {f : State → Lane → IRes}
    (h : s.wf) (hf : ∀ x y, x.wf → (f x y).wf) : (s.instr l f).wf := by
  rcases s.instr_cases l f with e | e | e | ⟨u, hu, e⟩
  · rwa [e]
  · exact e.symm ▸ trapEnter_wf h
  · exact e.symm ▸ privDedTake_wf h
  · have hs : u.wf := hu ▸ lseen_wf _ _ h
    have hr := hf u (s.lane l) hs
    rcases e with ⟨_, _, e⟩ | ⟨t, _, hd, e⟩ | ⟨t, hd, e⟩ | ⟨t, hd, e⟩ | ⟨t, _, hd, e⟩
    · exact e.symm ▸ trapEnter_wf hs
    all_goals rw [hd] at hr
    · exact e.symm ▸ privDedTake_wf hr
    · exact e.symm ▸ hr
    · exact e.symm ▸ updLane_wf _ _ hr
    · exact e.symm ▸ updLane_wf _ _ hr

theorem State.instrLane_wf {s : State} {l : LaneId} {f : Lane → Lane} (h : s.wf) :
    (s.instrLane l f).wf := instr_wf h (fun _ _ => updLane_wf _ _)

theorem State.endReady_wf {s : State} {l : LaneId} (h : s.wf) : (s.endReady l).wf := by
  unfold State.endReady
  split
  · exact trapEnter_wf h
  · exact updLane_wf _ _ (send_wf _ _ _ _ _ (heldFlush_wf h))

theorem State.endBegin_wf {s : State} {l : LaneId} {disp : Bool} (h : s.wf) :
    (s.endBegin l disp).wf := by
  unfold State.endBegin
  extract_lets s1
  have h1 : s1.wf := updLane_wf _ _ h
  exact ite_wf (endReady_wf h1) h1

theorem State.dispatch_wf {s : State} {l : LaneId} {i : Nat} (h : s.wf) : (s.dispatch l i).wf := by
  unfold State.dispatch
  split
  · exact endBegin_wf h
  · exact updLane_wf _ _ h

theorem State.transfer_wf {s : State} {l : LaneId} {x : Lane} {a : Nat} {unitEnd : Bool}
    (h : s.wf) :
    (s.transfer l x a unitEnd).wf := by
  unfold State.transfer
  split
  · exact dispatch_wf h
  · split
    · exact trivial
    · split
      · exact trivial
      · exact h

theorem State.localLoad_wf {s : State} {l : LaneId} {a n : Nat} {k : State → Nat → IRes}
    (h : s.wf) (hk : ∀ x y, x.wf → (k x y).wf) : (s.localLoad l a n k).wf := by
  unfold State.localLoad
  split
  · exact trivial
  · split
    · exact trivial
    · split
      · exact h
      · exact hk _ _ (lseen_wf _ _ h)

theorem State.localStore_wf {s : State} {l : LaneId} {a n v : Nat} (h : s.wf) :
    (s.localStore l a n v).wf := by
  unfold State.localStore
  split
  · exact trivial
  · split
    · exact trivial
    · split
      · exact h
      · exact lstore_wf _ _ _ _ h

/-! ### Integer arithmetic -/

theorem State.divide_wf {s : State} {l : LaneId} {w : Bool} {b : GReg} {f : Lane → Lane}
    (h : s.wf) : (s.divide l w b f).wf := by
  unfold State.divide
  refine instr_wf h (fun _ _ hx => ?_)
  split
  · exact trivial
  · exact updLane_wf _ _ hx

/-! ### Conversions -/

theorem State.sized_wf {s : State} {l : LaneId} {sz : BitVec 2} {f : State → Nat → Lane → IRes}
    (h : s.wf) (hf : ∀ x y z, x.wf → (f x y z).wf) : (s.sized l sz f).wf := by
  unfold State.sized
  refine instr_wf h (fun _ _ hx => ?_)
  split
  · exact trivial
  · exact hf _ _ _ hx

theorem State.toInt_wf {s : State} {l : LaneId} {p : Bool} {d a : GReg} {trunc : Bool} {lo hi : Int}
    (h : s.wf) : (s.toInt l p d a trunc lo hi).wf := by
  unfold State.toInt
  refine instr_wf h (fun _ _ hx => ?_)
  split
  · exact trivial
  · exact trivial
  · extract_lets
    split
    · exact trivial
    · exact updLane_wf _ _ hx

theorem execNrw_wf {l : LaneId} {sz : BitVec 2} {d a : GReg} {s : State} (h : s.wf) :
    Yields (execNrw l sz d a s) State.wf := by
  unfold execNrw
  refine next_wf ?_
  refine sized_wf h (fun _ _ _ hx => ?_)
  split
  · exact updLane_wf _ _ hx
  · exact trivial

theorem execNrwu_wf {l : LaneId} {sz : BitVec 2} {d a : GReg} {s : State} (h : s.wf) :
    Yields (execNrwu l sz d a s) State.wf := by
  unfold execNrwu
  refine next_wf ?_
  refine sized_wf h (fun _ _ _ hx => ?_)
  split
  · exact updLane_wf _ _ hx
  · exact trivial

theorem execBcd2i_wf {l : LaneId} {d a : GReg} {s : State} (h : s.wf) :
    Yields (execBcd2i l d a s) State.wf := by
  unfold execBcd2i
  refine next_wf ?_
  refine instr_wf h (fun _ _ hx => ?_)
  extract_lets
  split
  · exact trivial
  · exact updLane_wf _ _ hx

theorem execI2bcd_wf {l : LaneId} {d a : GReg} {s : State} (h : s.wf) :
    Yields (execI2bcd l d a s) State.wf := by
  unfold execI2bcd
  refine next_wf ?_
  refine instr_wf h (fun _ _ hx => ?_)
  extract_lets
  split
  · exact trivial
  · exact updLane_wf _ _ hx

/-! ### Loads and stores -/

theorem State.loadTo_wf {s : State} {l : LaneId} {d : GReg} {a n : Nat} {signed : Bool} (h : s.wf) :
    (s.loadTo l d a n signed).wf := localLoad_wf h (fun _ _ => updLane_wf _ _)

theorem State.readSend_wf {s : State} {l : LaneId} {a mask : Nat} {dst : ReadDest} (h : s.wf) :
    (s.readSend l a mask dst).wf := updLane_wf _ _ (send_wf _ _ _ _ _ h)

theorem State.readHeld_wf {s : State} {l : LaneId} {d : GReg} {a n : Nat} {signed : Bool}
    {w : DWord}
    (h : s.wf) : (s.readHeld l d a n signed w).wf := updLane_wf _ _ (heldTake_wf (updLane_wf _ _ h))

theorem State.prefetchNext_wf {s : State} {l : LaneId} {a : Nat} (h : s.wf) :
    (s.prefetchNext l a).wf := ite_wf h (updLane_wf _ _ (send_wf _ _ _ _ _ h))

theorem State.genLoad_wf {s : State} {l : LaneId} {d : GReg} {a n : Nat} {signed : Bool}
    (h : s.wf) :
    (s.genLoad l d a n signed).wf := by
  unfold State.genLoad
  split
  · exact trivial
  · split
    · exact loadTo_wf h
    · split
      · exact readHeld_wf h
      · exact prefetchNext_wf (readSend_wf h)

theorem execLdu_wf {l : LaneId} {sz : BitVec 2} {d a : GReg} {imm : BitVec 16} {s : State}
    (h : s.wf) : Yields (execLdu l sz d a imm s) State.wf := by
  unfold execLdu
  refine next_wf ?_
  refine instr_wf h (fun _ _ hx => ?_)
  split
  · exact trivial
  · exact genLoad_wf hx

theorem execSt_wf {l : LaneId} {sz : BitVec 2} {d a : GReg} {imm : BitVec 16} {s : State}
    (h : s.wf) : Yields (execSt l sz d a imm s) State.wf := by
  unfold execSt
  refine next_wf ?_
  refine instr_wf h (fun _ _ hx => ?_)
  extract_lets
  split
  · exact trivial
  · split
    · exact localStore_wf hx
    · exact send_wf _ _ _ _ _ (heldStore_wf hx)

/-! ### Timers and edge detectors -/

theorem State.slotPut_wf {s : State} {l : LaneId} {a : Nat} {t : Slot} (h : s.wf) :
    (s.slotPut l a t).wf := lstore_wf _ _ _ _ (lstore_wf _ _ _ _ h)

theorem State.withSlot_wf {s : State} {l : LaneId} {writes : Bool} {slot : BitVec 13}
    {f : State → Lane → Nat → IRes}
    (h : s.wf) (hf : ∀ x y z, x.wf → (f x y z).wf) : (s.withSlot l writes slot f).wf := by
  unfold State.withSlot
  refine instr_wf h (fun _ _ hx => ?_)
  extract_lets
  split
  · exact trivial
  · split
    · exact trivial
    · split
      · exact hx
      · split
        · exact lseen_wf _ _ hx
        · exact hf _ _ _ (lseen_wf _ _ (lseen_wf _ _ hx))

theorem State.timer_wf {s : State} {l : LaneId} {d p : GReg} {slot : BitVec 13}
    {f : Slot → Bool → Nat → Slot × Bool}
    (h : s.wf) : (s.timer l d p slot f).wf :=
  withSlot_wf h (fun _ _ _ hx => updLane_wf _ _ (slotPut_wf hx))

theorem State.showPrimes_wf {s : State} (h : s.wf) : s.showPrimes.wf := by
  unfold State.showPrimes
  split <;> exact fset_wf _ _ h

theorem State.edge_wf {s : State} {l : LaneId} {d : GReg} {bit : BitVec 19} {q : Bool → Bool → Bool}
    (h : s.wf) : (s.edge l d bit q).wf := by
  unfold State.edge
  refine instr_wf h (fun _ _ hx => ?_)
  extract_lets _ _ _ _ s1
  have h1 : s1.wf := lstore_wf _ _ _ _ hx
  split
  · exact trivial
  · split
    · exact hx
    · split
      · exact showPrimes_wf (updLane_wf _ _ (lstore_wf _ _ _ _ h1))
      · exact updLane_wf _ _ h1

/-! ### The I/O image and the message queues -/

theorem State.inRead_wf {s : State} {l : LaneId} {d : GReg} {item : Nat} {signed : Bool}
    (h : s.wf) :
    (s.inRead l d item signed).wf := by
  unfold State.inRead
  refine instr_wf h (fun _ _ hx => ?_)
  extract_lets
  split
  · exact trivial
  · exact readSend_wf hx

theorem execOutItem_wf {l : LaneId} {d : GReg} {item : BitVec 16} {s : State} (h : s.wf) :
    Yields (execOutItem l d item s) State.wf := by
  unfold execOutItem
  refine next_wf ?_
  refine instr_wf h (fun _ _ hx => ?_)
  extract_lets
  split
  · exact trivial
  · exact send_wf _ _ _ _ _ hx

theorem execSend_wf {l : LaneId} {a d : GReg} {q : BitVec 8} {s : State} (h : s.wf) :
    Yields (execSend l a d q s) State.wf := by
  unfold execSend
  refine next_wf ?_
  refine instr_wf h (fun _ _ hx => ?_)
  extract_lets
  split
  · exact trivial
  · exact send_wf _ _ _ _ _ hx

/-! ### The flash controller and the update unit's commands -/

theorem State.opPerm_wf {s : State} (h : s.wf) : s.opPerm.wf :=
  raise_wf _ (updEnd_wf (updDrop_wf h))

theorem execFlashOpStart_wf {s : State} (h : s.wf) : Yields (execFlashOpStart s) State.wf := by
  unfold execFlashOpStart
  refine next_wf ?_
  split
  · exact ite_wf h (ite_wf (opPerm_wf h) (when_wf (fun _ => updUpd_wf) h))
  · exact h

theorem State.strayProgram_wf {s : State} {e : StrayE} (h : s.wf) : (s.strayProgram e).wf :=
  flashProgram_keeps _ _ (when_wf (fun _ => flashErase_keeps _) h)

theorem State.flashApply_wf {s : State} {op : FlashOp} (h : s.wf) : (s.flashApply op).wf := by
  unfold State.flashApply
  split
  · exact flashProgram_keeps _ _ h
  · exact strayProgram_wf h
  · exact flashErase_keeps _ h
  · exact flashProgram_keeps _ _ h

theorem State.wearDone_wf {s : State} {op : FlashOp} (h : s.wf) : (s.wearDone op).wf :=
  show_wf _ _ h

theorem State.recPlaceUsed_wf {s : State} (h : s.wf) : s.recPlaceUsed.wf :=
  when_wf (fun _ hx => raise_wf _ (raise_wf _ hx)) (record_wf (fset_wf _ _ (lower_wf _ h)))

theorem State.recOpDone_wf {s : State} {op : FlashOp} (h : s.wf) : (s.recOpDone op).wf := by
  unfold State.recOpDone
  split
  · exact when_wf (fun _ hx => raise_wf _ (fset_wf _ _ hx)) h
  · exact ite_wf (fset_wf _ _ (recPlaceUsed_wf h)) h
  · exact h

theorem State.recOpFail_wf {s : State} {op : FlashOp} (h : s.wf) : (s.recOpFail op).wf := by
  unfold State.recOpFail
  split
  · exact raise_wf _ (recPlaceUsed_wf h)
  · exact recOpDone_wf h

theorem State.updOpDone_wf {s : State} (h : s.wf) : s.updOpDone.wf := by
  unfold State.updOpDone
  extract_lets s1
  have h1 : s1.wf := updUpd_wf h
  split
  · exact updNextPage_wf (updUpd_wf (bumpBy_wf _ _ h1))
  · exact ite_wf (updEnd_wf (fset_wf _ _ h1)) h1
  · exact ite_wf (updEnd_wf h1) h1
  · exact ite_wf (updEnd_wf h1) h1
  · exact h

theorem State.updOpFail_wf {s : State} (h : s.wf) : s.updOpFail.wf := by
  unfold State.updOpFail
  split
  · exact updEnd_wf (updDrop_wf h)
  · exact updEnd_wf (updDrop_wf h)
  · exact updEnd_wf (updDrop_wf h)
  · exact h

theorem execFlashOpComplete_wf {ok : Bool} {s : State} (h : s.wf) :
    Yields (execFlashOpComplete ok s) State.wf := by
  unfold execFlashOpComplete
  refine next_wf ?_
  split
  · exact h
  · extract_lets _ s1 s2 s2'
    have h1 : s1.wf := h
    have h2 : s2.wf := flashApply_wf h1
    have h2' : s2'.wf := raise_wf _ h1
    split
    · exact h
    · split
      · exact opPerm_wf h
      · split
        · split
          · exact wearDone_wf h2
          · exact recOpDone_wf h2
          · exact updOpDone_wf h2
        · split
          · exact h
          · split
            · exact h2'
            · exact recOpFail_wf h2'
            · exact updOpFail_wf h2'

theorem State.updBegin_wf {s : State} {st : Nat} {j : UpdJob} (h : s.wf) : (s.updBegin st j).wf :=
  updUpd_wf (fset_wf _ _ (fset_wf _ _ (answer_wf _ h)))

theorem State.updKey_wf {s : State} {key : Nat} {k : State → State}
    (h : s.wf) (hk : ∀ x, x.wf → (k x).wf) : (s.updKey key k).wf :=
  ite_wf (answer_wf _ h) (ite_wf (answer_wf _ h) (hk _ h))

theorem State.updOpen_wf {s : State} {slot : Bool} (h : s.wf) : (s.updOpen slot).wf := by
  unfold State.updOpen
  split
  · exact raise_wf _ (answer_wf _ (fset_wf _ _ h))
  · split
    · exact updRefuse_wf h
    · split
      · exact updRefuse_wf h
      · extract_lets s1 s2
        have h1 : s1.wf := lower_wf _ (lower_wf _ (show_wf _ _ (updBegin_wf h)))
        have h2 : s2.wf := updUpd_wf h1
        exact foldl_wf (fun _ _ => updQueue_wf) _ h2

theorem State.srcBytes_wf {s : State} {a n : Nat} (h : s.wf) : (s.srcBytes a n).1.wf := by
  unfold State.srcBytes
  extract_lets r
  have hr : r.1.wf := engineRead_wf h
  split
  · exact hr
  · split <;> exact hr

theorem State.updCopy_wf {s : State} {st : Nat} {bs : List Byte} {ok : Bool} (h : s.wf) :
    (s.updCopy st bs ok).wf := updBytes_wf (updBegin_wf h)

theorem State.updWrite_wf {s : State} (h : s.wf) : s.updWrite.wf :=
  ite_wf (updRefuse_wf h) (ite_wf (updRefuse_wf h) (updCopy_wf (srcBytes_wf h)))

theorem State.updFetch_wf {s : State} (h : s.wf) : s.updFetch.wf :=
  ite_wf (updRefuse_wf h) (ite_wf (updRefuse_wf h) (fetchPump_wf (updBegin_wf h)))

theorem State.updClose_wf {s : State} {hold : Bool} (h : s.wf) : (s.updClose hold).wf := by
  unfold State.updClose
  split
  · exact updRefuse_wf h
  · split
    · exact updEnd_wf (raise_wf _ (answer_wf _ h))
    · extract_lets _ _ s1
      have h1 : s1.wf := show_wf _ _ (updBegin_wf h)
      exact ite_wf (updEnd_wf (raise_wf _ h1)) (updQueue_wf h1)

theorem State.updAbort_wf {s : State} (h : s.wf) : s.updAbort.wf := by
  unfold State.updAbort
  extract_lets s0 stop
  have h0 : s0.wf := answer_wf _ h
  have hstop : ∀ (x : State), x.wf → (stop x).wf :=
    fun _ hx => updUpd_wf (lower_wf _ (updEnd_wf (updDrop_wf hx)))
  split
  · exact ite_wf (updUpd_wf (raise_wf _ h0)) (updEnd_wf (updDrop_wf h0))
  · exact ite_wf (updUpd_wf (raise_wf _ h0)) (hstop _ h0)
  · exact ite_wf (hstop _ h0) (fset_wf _ _ (raise_wf _ h0))

theorem State.updArm_wf {s : State} (h : s.wf) : s.updArm.wf :=
  ite_wf (updRefuse_wf h) (updUpd_wf (fset_wf _ _ (fset_wf _ _ (answer_wf _ h))))

theorem State.updDisarm_wf {s : State} (h : s.wf) : s.updDisarm.wf :=
  updUpd_wf (when_wf (fun _ => fset_wf _ _) h)

theorem execActivationHeaderProgrammed_wf {ok : Bool} {s : State} (h : s.wf) :
    Yields (execActivationHeaderProgrammed ok s) State.wf := by
  unfold execActivationHeaderProgrammed
  refine next_wf ?_
  split
  · exact h
  · split
    · exact assertDevice_wf (raise_wf _ (flashProgram_keeps _ _ h))
    · exact fset_wf _ _ (fset_wf _ _ (raise_wf _ h))

theorem State.setCompact_wf {s : State} {h : Nat} {new : List Byte} (hs : s.wf) :
    (s.setCompact h new).wf := by
  unfold State.setCompact
  extract_lets _ s1 put p s2
  have h1 : s1.wf := foldl_wf (fun _ _ => updQueue_wf) _ hs
  clear_value s1
  have hp : p.1.wf := by
    refine foldl_fst_wf (fun q r hq => ?_) _ h1
    exact setProgram_wf hq
  have h2 : s2.wf := updQueue_wf hp
  clear_value s2
  exact raise_wf _ (setProgram_wf h2)

theorem State.updSetwrite_wf {s : State} (h : s.wf) : s.updSetwrite.wf := by
  unfold State.updSetwrite
  extract_lets _ _ _ src s _ s1
  have hsrc : src.1.wf := srcBytes_wf h
  have hs : s.wf := hsrc
  have h1 : s1.wf := updBegin_wf hs
  split
  · exact updRefuse_wf h
  · split
    · exact updRefuse_wf h
    · split
      · exact updEnd_wf (answer_wf _ hs)
      · split
        · exact setProgram_wf h1
        · exact setCompact_wf h1
        · exact updEnd_wf (raise_wf _ h1)

/-! ### Writes of registers -/

theorem State.rwWrite_wf {s : State} {a v : Nat} (h : s.wf) : (s.rwWrite a v).wf :=
  ite_wf (answer_wf _ h) (answer_wf _ (setReg_wf _ _ h))

theorem State.bkrWrite_wf {s : State} {a v : Nat} (h : s.wf) : (s.bkrWrite a v).wf := by
  unfold State.bkrWrite
  extract_lets
  split
  · split
    · exact h
    · exact h
  · split
    · exact h
    · exact h

theorem State.rwLoad_wf {s : State} {a v : Nat} (h : s.wf) : (s.rwLoad a v).wf := by
  unfold State.rwLoad
  split
  · exact writePwrReq_wf h
  · split
    · exact writeOutcfg_wf h
    · split
      · exact answer_wf _ (bkrWrite_wf h)
      · split
        · exact semWrite_wf h
        · exact rwWrite_wf h

/-! ### Loading a configuration set -/

theorem State.relocate_wf {s : State} {k : CoreId} {hb cofs : Nat} (h : s.wf) :
    (s.relocate k hb cofs).wf := by
  unfold State.relocate
  refine foldl_wf (fun _ _ hx => ?_) _ h
  extract_lets _ r
  have hr : r.1.wf := bankBytes_wf hx
  split
  · exact ite_wf hr (privPut_wf hr)
  · exact hr

theorem State.instInit_wf {s : State} {k : CoreId} {hb : Nat} {i : InstE} (h : s.wf) :
    (s.instInit k hb i).wf := by
  unfold State.instInit
  split
  · exact privPut_wf h
  · extract_lets r
    have hr : r.1.wf := bankBytes_wf h
    split
    · exact privPut_wf hr
    · exact hr

theorem State.coreLoad_wf {s : State} {g : Img} {h : Nat} {k : CoreId} (hs : s.wf) :
    (s.coreLoad g h k).wf := by
  unfold State.coreLoad
  extract_lets _ s1
  have h1 : s1.wf := foldl_wf (fun _ _ => privPut_wf) _ hs
  exact foldl_wf (fun _ _ => instInit_wf) _ (relocate_wf h1)

theorem State.halfLoad_wf {s : State} {g : Img} {h : Nat} (hs : s.wf) : (s.halfLoad g h).wf :=
  burstPut_wf (foldl_wf (fun _ _ => coreLoad_wf) _ hs)

theorem State.showCheck_wf {s : State} {v : Nat} (h : s.wf) : (s.showCheck v).wf :=
  fset_wf _ _ (show_wf _ _ (show_wf _ _ (show_wf _ _ (fset_wf _ _ (fset_wf _ _ h)))))

/-! ### The Shepherds -/

theorem State.retireCore_wf {s : State} {k : CoreId} (h : s.wf) : (s.retireCore k).wf := by
  unfold State.retireCore
  extract_lets s1 s2 _ s3
  have h1 : s1.wf := count_wf _ (raise_wf _ (raise_wf _ (wearLog_wf _ _ _ h)))
  have h2 : s2.wf := raise_wf _ h1
  have h3 : s3.wf := by
    unfold s3
    split
    · exact record_wf (fset_wf _ _ h2)
    · exact record_wf h2
  exact evalSets_wf h3

theorem State.foldItems_wf {s : State} {f : HubItem → HubItem} (h : s.wf) : (s.foldItems f).wf := h

theorem State.discardLane_wf {s : State} {l : LaneId} (h : s.wf) : (s.discardLane l).wf :=
  record_wf (updLane_wf _ _ (foldItems_wf h))

theorem State.stray_wf {s : State} {l : LaneId} {cause kind cls : Nat} (h : s.wf) :
    (s.stray l cause kind cls).wf := by
  unfold State.stray
  extract_lets _ s1 s2 s3 s4 _ s5
  have h1 : s1.wf := fset_wf _ _ (updLane_wf _ _ (discardLane_wf h))
  have h2 : s2.wf := by
    unfold s2
    refine fset_wf _ _ ?_
    exact fset_wf _ _ (fset_wf _ _ (fset_wf _ _ (fset_wf _ _ (raise_wf _ (raise_wf _ h1)))))
  have h3 : s3.wf := count_wf _ (fset_wf _ _ (bump_wf _ h2))
  have h4 : s4.wf := strayRecord_wf h3
  have h5 : s5.wf := fset_wf _ _ h4
  exact ite_wf (retireCore_wf h5) h5

theorem State.updWin_wf {s : State} {q : BitVec 32} {f : Win → Win} (h : s.wf) :
    (s.updWin q f).wf := h

theorem State.splitWin_wf {s : State} {q : BitVec 32} {a b : Judg} (h : s.wf) :
    (s.splitWin q a b).wf := by
  unfold State.splitWin
  split
  · exact updWin_wf h
  · exact h

theorem State.judgeWin_wf {s : State} {q : BitVec 32} {closed : Bool} (h : s.wf) :
    (s.judgeWin q closed).wf := by
  unfold State.judgeWin
  split
  · exact h
  · extract_lets _ a b
    clear_value a b
    split
    · exact splitWin_wf h
    · split
      · exact h
      · exact safeEnter_wf h
      · exact foldl_wf (fun _ _ => stray_wf) _
          (foldl_wf (fun _ _ => stray_wf) _ (updWin_wf h))

theorem State.judge_wf {s : State} {q : BitVec 32} {closed : Bool} (h : s.wf) :
    (s.judge q closed).wf := by
  unfold State.judge
  extract_lets s1
  have h1 : s1.wf := judgeWin_wf h
  exact ite_wf (foldl_wf (fun _ _ => judgeWin_wf) _ h1) h1

theorem State.hubPush_wf {s : State} {i : HubItem} (h : s.wf) : (s.hubPush i).wf := h

theorem State.sysopDone_wf {s : State} {fn : Nat} {v : DWord} (h : s.wf) :
    (s.sysopDone fn v).wf := by
  unfold State.sysopDone
  split
  · exact h
  · exact safeEnter_wf h
  · exact count_wf _ (ringAdd_wf h)
  · exact h

theorem State.perform_wf {s : State} {ini : Initiator} {t : Txn} {lanes : List LaneId} (h : s.wf) :
    (s.perform ini t lanes).wf := by
  unfold State.perform
  split
  · exact hubReply_wf _ _ _ _ (sysopDone_wf h)
  · exact h
  · exact ite_wf h (hubPush_wf h)

theorem State.purgeWins_wf {s : State} (h : s.wf) : s.purgeWins.wf := h

theorem State.dropMade_wf {s : State} {q : BitVec 32} (h : s.wf) : (s.dropMade q).wf :=
  record_wf (foldItems_wf h)

theorem State.releaseWin_wf {s : State} {w : Win} (h : s.wf) : (s.releaseWin w).1.wf := by
  unfold State.releaseWin
  extract_lets done _ s1
  have hdone : ∀ (x : State), x.wf → (done x).wf :=
    fun _ => updWin_wf
  have h1 : s1.wf := ite_wf (dropMade_wf h) h
  split
  · exact h
  · split
    · split
      · exact h
      · split
        · exact h
        · split
          · exact hdone _ h
          · exact perform_wf (hdone _ h1)
    · split
      · exact h
      · split
        · exact hubPush_wf (updWin_wf h)
        · exact h
      · exact h

theorem State.releaseFrom_wf {s : State} {ws : List Win} (h : s.wf) : (s.releaseFrom ws).wf := by
  induction ws generalizing s with
  | nil => exact h
  | cons w ws ih =>
    have hw : (s.releaseWin w).1.wf := releaseWin_wf h
    unfold State.releaseFrom
    split
    · next e =>
      rw [e] at hw
      exact ih hw
    · next e =>
      rw [e] at hw
      exact hw

theorem State.releaseAll_wf {s : State} (h : s.wf) : s.releaseAll.wf :=
  safeDrain_wf (purgeWins_wf (releaseFrom_wf h))

theorem State.forward_wf {s : State} {l : LaneId} {t : Txn} (h : s.wf) : (s.forward l t).wf := by
  unfold State.forward
  split
  · exact safeAction_wf h
  · split
    · exact h
    · exact ite_wf (ite_wf h (tryCommit_wf h)) (ite_wf (hubReply_wf _ _ _ _ h) (perform_wf h))

theorem State.openWin_wf {s : State} {q : BitVec 32} (h : s.wf) : (s.openWin q).wf := by
  unfold State.openWin
  split <;> exact h

theorem State.arrive_wf {s : State} {l : LaneId} {t u : Txn} (h : s.wf) : (s.arrive l t u).wf := by
  unfold State.arrive
  extract_lets s1 s2 s3 s4
  have h1 : s1.wf := openWin_wf (openWin_wf h)
  have h2 : s2.wf := updWin_wf h1
  have h3 : s3.wf := updWin_wf h2
  have h4 : s4.wf := judge_wf h3
  exact releaseAll_wf (ite_wf h4 (judge_wf h4))

theorem execShepherdTransaction_wf {l : LaneId} {flips : List (Bool × Nat)} {s : State} (h : s.wf) :
    Yields (execShepherdTransaction l flips s) State.wf := by
  unfold execShepherdTransaction
  refine next_wf ?_
  split
  · exact h
  · split
    · exact h
    · extract_lets s1
      have h1 : s1.wf := updLane_wf _ _ h
      split
      · exact voterFault_wf h1
      · split
        · exact arrive_wf h1
        · exact ite_wf (ite_wf (safeDrain_wf (forward_wf h1)) (voterFault_wf h1)) h1

theorem execVerdictExchange_wf {seq : BitVec 32} {same : Bool} {s : State} (h : s.wf) :
    Yields (execVerdictExchange seq same s) State.wf := by
  unfold execVerdictExchange
  refine next_wf ?_
  split
  · split
    · exact ite_wf h (ite_wf (releaseAll_wf (updWin_wf h)) (voterFault_wf h))
    · exact h
  · exact h

theorem execVerdictExchangeTimeout_wf {seq : BitVec 32} {second : Bool} {s : State} (h : s.wf) :
    Yields (execVerdictExchangeTimeout seq second s) State.wf := by
  unfold execVerdictExchangeTimeout
  refine next_wf ?_
  split
  · split
    · exact ite_wf h (voterFault_wf h)
    · exact h
  · exact h

theorem State.respTaken_wf {s : State} {l : LaneId} {r : RdResp} (h : s.wf) :
    (s.respTaken l r).wf := h

theorem State.readDone_wf {s : State} {l : LaneId} {d : ReadDest} {r : RdResp} {a : Nat}
    (h : s.wf) :
    (s.readDone l d r a).wf := by
  unfold State.readDone
  split
  · exact trapEnter_wf (updLane_wf _ _ h)
  · exact when_wf (fun _ => raise_wf _) (updLane_wf _ _ h)

theorem execReplicatedReadResponse_wf {l : LaneId} {flips : List (Bool × Nat)} {s : State}
    (h : s.wf) : Yields (execReplicatedReadResponse l flips s) State.wf := by
  unfold execReplicatedReadResponse
  refine next_wf ?_
  split
  · exact h
  · extract_lets _ _ _ _ _ s1 _ s2
    have h1 : s1.wf := respTaken_wf h
    have h2 : s2.wf := updLane_wf _ _ h1
    split
    · exact voterFault_wf h
    · split
      · exact voterFault_wf h
      · split
        · exact ite_wf (heldAdd_wf h2) h2
        · split
          · exact ite_wf (readDone_wf h1) h1
          · exact h1

/-! ### Start-up and swaps -/

theorem State.bootUpd_wf {s : State} {f : Boot → Boot} (h : s.wf) : (s.bootUpd f).wf := h

theorem State.inPhase_wf {s : State} {p : Nat} {f : State → State}
    (h : s.wf) (hf : ∀ x, x.wf → (f x).wf) : (s.inPhase p f).wf := ite_wf (hf _ h) h

theorem State.wearResync_wf {s : State} (h : s.wf) : s.wearResync.wf :=
  retryWear_wf (foldl_wf (fun _ _ => pendWearFlash_wf) _ (bootUpd_wf h))

theorem State.showSlot_wf {s : State} {b : Bool} (h : s.wf) : (s.showSlot b).wf := by
  unfold State.showSlot
  extract_lets
  split
  · exact fset_wf _ _ (show_wf _ _ (fset_wf _ _ h))
  · exact fset_wf _ _ (show_wf _ _ (fset_wf _ _ h))

theorem State.noImage_wf {s : State} (h : s.wf) : s.noImage.wf := fset_wf _ _ (raise_wf _ h)

theorem State.takeSlot_wf {s : State} {b ok : Bool} (h : s.wf) : (s.takeSlot b ok).wf :=
  fset_wf _ _ (show_wf _ _ (ite_wf h (ite_wf (programWord_wf h) (programWord_wf h))))

theorem State.rejectSlot_wf {s : State} {b ok : Bool} (h : s.wf) : (s.rejectSlot b ok).wf :=
  raise_wf _ (programWord_wf h)

theorem State.selectLoop_wf {s : State} {ok : Bool} {n : Nat} {cand : List Bool} (h : s.wf) :
    (s.selectLoop ok n cand).wf := by
  induction n generalizing s cand with
  | zero => exact noImage_wf h
  | succ n ih =>
    unfold State.selectLoop
    extract_lets gen pick
    clear_value pick
    split
    · exact noImage_wf h
    · next b =>
      have h1 : (s.when (cand.length = 2 && gen false = gen true)
          (fun x => x.raise BOOT_STAT_GEN_TIE)).wf := when_wf (fun _ => raise_wf _) h
      exact ite_wf (ih (rejectSlot_wf h1)) (takeSlot_wf h1)

theorem State.showSlots_wf {s : State} {l : List Bool} (h : s.wf) : (s.showSlots l).wf :=
  foldl_wf (fun _ _ hx => ite_wf hx (showSlot_wf hx)) _ h

theorem State.flashAnswered_wf {s : State} (h : s.wf) : s.flashAnswered.wf := h

theorem State.selectSlot_wf {s : State} {ok : Bool} (h : s.wf) : (s.selectSlot ok).wf :=
  ite_wf (noImage_wf h) (showSlots_wf (selectLoop_wf (wearResync_wf (show_wf _ _ h))))

theorem State.missingCheck_wf {s : State} {k : State → State}
    (h : s.wf) (hk : ∀ x, x.wf → (k x).wf) : (s.missingCheck k).wf := by
  unfold State.missingCheck
  extract_lets s1
  have h1 : s1.wf := show_wf _ _ (show_wf _ _ (show_wf _ _ h))
  exact ite_wf (fset_wf _ _ h1) (hk _ h1)

theorem execMemoryInitSelftest_wf {coreOk : BitVec 4} {shep1Ok shep2Ok : Bool} {s : State}
    (h : s.wf) : Yields (execMemoryInitSelftest coreOk shep1Ok shep2Ok s) State.wf := by
  refine next_wf (inPhase_wf h fun _ hx => ?_)
  obtain ⟨hmem, hflash, hregs⟩ := hx
  exact missingCheck_wf (record_wf ⟨smWf_filter _ hmem, hflash, hregs⟩) (fun z hz => fset_wf _ _ hz)

theorem State.loadFail_wf {s : State} {b ok : Bool} (h : s.wf) : (s.loadFail b ok).wf :=
  fset_wf _ _ (bootUpd_wf (fset_wf _ _ (rejectSlot_wf h)))

theorem State.rwEntries_wf {s : State} {l : List (Nat × Word)} (h : s.wf) : (s.rwEntries l).1.wf :=
  record_wf (foldl_fst_wf (fun _ _ => rwLoad_wf) _ h)

theorem State.startSet_wf {s : State} {g : Img} {agree : Bool} (h : s.wf) :
    (s.startSet g agree).wf := by
  unfold State.startSet
  extract_lets s1 s2 s3 s4
  have h1 : s1.wf := lower_wf _ (bootUpd_wf h)
  have h2 : s2.wf := record_wf ⟨h1.1, h1.2.1, regWf_bankLoad h1.2.2⟩
  have h3 : s3.wf := show_wf _ _ (halfLoad_wf h2)
  have h4 : s4.wf := when_wf (fun _ => raise_wf _) h3
  exact fset_wf _ _ (showCheck_wf h4)

theorem execSectionLoad_wf {unitsAgree progOk : Bool} {coreFail : BitVec 4} {s : State} (h : s.wf) :
    Yields (execSectionLoad unitsAgree progOk coreFail s) State.wf := by
  unfold execSectionLoad
  refine next_wf ?_
  refine inPhase_wf h (fun x hx => ?_)
  extract_lets x
  have hx : x.wf := flashAnswered_wf hx
  split
  · exact loadFail_wf hx
  · exact ite_wf (bootUpd_wf (startSet_wf (rwEntries_wf hx))) (loadFail_wf hx)

theorem State.unitUp_wf {s : State} {u : Nat} (h : s.wf) : (s.unitUp u).wf :=
  ite_wf h (unitStart_wf h)

theorem execEngineReload_wf {fwdEth fwdFlk : Bool} {failed : List Nat} {s : State} (h : s.wf) :
    Yields (execEngineReload fwdEth fwdFlk failed s) State.wf := by
  unfold execEngineReload
  refine next_wf ?_
  refine inPhase_wf h (fun _ hx => ?_)
  extract_lets x1 x2 x3 x4
  have hx1 : x1.wf := bootUpd_wf hx
  have hx2 : x2.wf := ite_wf (fieldReload_wf hx1) (raise_wf _ hx1)
  have hx3 : x3.wf := foldl_wf (fun _ _ => unitUp_wf) _ hx2
  have hx4 : x4.wf :=
    when_wf (fun _ => lower_wf _) (when_wf (fun _ => lower_wf _) hx3)
  exact fset_wf _ _ (count_wf _ hx4)

theorem State.fieldAck_wf {s : State} {ok : Bool} (h : s.wf) : (s.fieldAck ok).wf := by
  unfold State.fieldAck
  split
  · exact lower_wf _ (raise_wf _ (fset_wf _ _ h))
  · exact ite_wf (bootUpd_wf (fieldReload_wf h)) (bootUpd_wf (raise_wf _ (fset_wf _ _ h)))

theorem State.reserveGone_wf {s : State} (h : s.wf) : s.reserveGone.wf :=
  ite_wf h (spareExhausted_wf h)

theorem State.startLanes_wf {s : State} (h : s.wf) : s.startLanes.wf := by
  unfold State.startLanes
  extract_lets
  refine foldl_fst_wf (fun _ _ hp => ?_) _ h
  extract_lets x
  have hx : x.wf := hp
  split
  · exact hx
  · split
    · exact fset_wf _ _ hx
    · extract_lets x1 _ x2
      have hx1 : x1.wf := fset_wf _ _ hx
      have hx2 : x2.wf :=
        ite_wf (when_wf (fun _ => reserveGone_wf) (wearLog_wf _ _ _ hx1)) hx1
      exact hx2

theorem State.startMode_wf {s : State} {m : Nat} (h : s.wf) : (s.startMode m).wf :=
  fset_wf _ _ (foldl_wf (fun _ _ => fset_wf _ _) _ h)

theorem State.startChecks_wf {s : State} {miss1 miss2 : List Nat} (h : s.wf) :
    (s.startChecks miss1 miss2).wf := by
  unfold State.startChecks
  extract_lets _ _ _ s1 _ s2 _ s3 _ s4 s5 s6 s7
  have h1 : s1.wf := fset_wf _ _ (fset_wf _ _ (fset_wf _ _ h))
  have h2 : s2.wf := when_wf (fun _ => raise_wf _) h1
  have h3 : s3.wf := startLanes_wf (fset_wf _ _ h2)
  have h4 : s4.wf := record_wf h3
  have h5 : s5.wf := fset_wf _ _ h4
  have h6 : s6.wf := startMode_wf h5
  have h7 : s7.wf := ite_wf (raise_wf _ (fset_wf _ _ h6)) (fset_wf _ _ h6)
  exact ite_wf (fset_wf _ _ (fset_wf _ _ h5)) (fset_wf _ _ h7)

theorem execStartupChecks_wf {miss1 miss2 : List Nat} {s : State} (h : s.wf) :
    Yields (execStartupChecks miss1 miss2 s) State.wf := by
  unfold execStartupChecks
  refine next_wf ?_
  refine inPhase_wf h (fun _ hx => ?_)
  exact ite_wf (raise_wf _ hx) (missingCheck_wf hx (fun _ => startChecks_wf))

theorem State.sresult_wf {s : State} {r : Nat} {resp : Resp} (h : s.wf) : (s.sresult r resp).wf :=
  answer_wf _ (fset_wf _ _ h)

theorem State.sloadStart_wf {s : State} {key : Nat} {b : Bool} (h : s.wf) :
    (s.sloadStart key b).wf := by
  unfold State.sloadStart
  split
  · exact answer_wf _ h
  · split
    · exact sresult_wf h
    · split
      · exact sresult_wf h
      · split
        · exact sresult_wf h
        · split
          · exact sresult_wf h
          · exact answer_wf _ (bootUpd_wf (lower_wf _ (lower_wf _ (lower_wf _ (raise_wf _ h)))))

theorem State.sloadAbort_wf {s : State} {key : Nat} (h : s.wf) : (s.sloadAbort key).wf := by
  unfold State.sloadAbort
  split
  · exact answer_wf _ h
  · split
    · exact sresult_wf (bootUpd_wf (lower_wf _ h))
    · exact ite_wf (sresult_wf h) (answer_wf _ h)

theorem State.sloadDone_wf {s : State} {g : Img} {agree : Bool} (h : s.wf) :
    (s.sloadDone g agree).wf := by
  unfold State.sloadDone
  extract_lets _ _ s1 s2 s3 s4
  have h1 : s1.wf := bootUpd_wf (halfLoad_wf h)
  have h2 : s2.wf := show_wf _ _ (show_wf _ _ (show_wf _ _ h1))
  have h3 : s3.wf := when_wf (fun _ => raise_wf _) h2
  have h4 : s4.wf := when_wf (fun _ => raise_wf _) h3
  exact fset_wf _ _ (fset_wf _ _ h4)

theorem execShadowLoadDone_wf {unitsAgree : Bool} {coreFail : BitVec 4} {s : State} (h : s.wf) :
    Yields (execShadowLoadDone unitsAgree coreFail s) State.wf := by
  unfold execShadowLoadDone
  refine next_wf ?_
  split
  · exact h
  · extract_lets s1
    have h1 : s1.wf := bootUpd_wf (lower_wf _ h)
    split
    · exact fset_wf _ _ h1
    · exact ite_wf (sloadDone_wf h1) (fset_wf _ _ h1)

theorem State.armSwap_wf {s : State} {ok : Bool} (h : s.wf) : (s.armSwap ok).1.wf := by
  unfold State.armSwap
  split
  · exact fset_wf _ _ (when_wf (fun _ => programWord_wf) h)
  · exact bootUpd_wf h

theorem State.cfgSwap_wf {s : State} {key : Nat} {ok : Bool} (h : s.wf) : (s.cfgSwap key ok).wf :=
  ite_wf (answer_wf _ h) (answer_wf _ (armSwap_wf h))

theorem State.cfgConfirm_wf {s : State} {key : Nat} {ok : Bool} (h : s.wf) :
    (s.cfgConfirm key ok).wf := by
  unfold State.cfgConfirm
  split
  · exact answer_wf _ h
  · extract_lets _ s1 _ s2 s3
    have h1 : s1.wf := ite_wf h (programWord_wf h)
    have h2 : s2.wf := when_wf (fun _ hx => lower_wf _ (bootUpd_wf hx)) h1
    have h3 : s3.wf := lower_wf _ (raise_wf _ h2)
    exact sresult_wf (bootUpd_wf h3)

/-! ### Compare and select -/

theorem State.instrCond_wf {s : State} {l : LaneId} {c : BitVec 5} {f : State → Lane → Bool → IRes}
    (h : s.wf) (hf : ∀ x y z, x.wf → (f x y z).wf) : (s.instrCond l c f).wf := by
  unfold State.instrCond
  refine instr_wf h (fun _ _ hx => ?_)
  split
  · exact trivial
  · exact hf _ _ _ hx

/-! ### Branch and call -/

theorem State.jump_wf {s : State} {a : Nat} {t : State} (ht : t.wf) : (s.jump a t).wf := by
  unfold State.jump
  split
  · exact trivial
  · split
    · exact trivial
    · exact ht

theorem execBr_wf {l : LaneId} {cond : BitVec 5} {disp : BitVec 21} {s : State} (h : s.wf) :
    Yields (execBr l cond disp s) State.wf := by
  unfold execBr
  refine next_wf ?_
  refine instrCond_wf h (fun _ _ _ hx => ?_)
  split
  · exact jump_wf hx
  · exact hx

theorem State.callFb_wf {s : State} {l : LaneId} {x : Lane} {ib a : Nat} (h : s.wf) :
    (s.callFb l x ib a).wf := by
  unfold State.callFb
  extract_lets _ s1
  have h1 : s1.wf := lstore_wf _ _ _ _ (lstore_wf _ _ _ _ h)
  split
  · exact trivial
  · split
    · exact trivial
    · split
      · exact trivial
      · split
        · exact trivial
        · split
          · exact trivial
          · exact updLane_wf _ _ h1

theorem execCallr_wf {l : LaneId} {a : GReg} {s : State} (h : s.wf) :
    Yields (execCallr l a s) State.wf := by
  unfold execCallr
  refine next_wf ?_
  refine instr_wf h (fun _ _ hx => ?_)
  split
  · exact dispatch_wf (updLane_wf _ _ hx)
  · exact jump_wf (updLane_wf _ _ hx)

theorem execRetFb_wf {l : LaneId} {s : State} (h : s.wf) : Yields (execRetFb l s) State.wf := by
  unfold execRetFb
  refine next_wf ?_
  refine instr_wf h (fun _ _ hx => ?_)
  extract_lets _ _ s
  have hs : s.wf := lseen_wf _ _ (lseen_wf _ _ hx)
  split
  · exact trivial
  · split
    · exact trivial
    · split
      · exact trivial
      · split
        · exact hx
        · split
          · exact lseen_wf _ _ hx
          · exact updLane_wf _ _ hs

theorem execRetTrap_wf {l : LaneId} {s : State} (h : s.wf) : Yields (execRetTrap l s) State.wf := by
  unfold execRetTrap
  refine next_wf ?_
  refine instr_wf h (fun _ _ hx => ?_)
  extract_lets _ _ s _ _ _ _ s1 s2 s2'
  have hs : s.wf := foldl_wf (fun _ _ => lseen_wf _ _) _ hx
  have h1 : s1.wf := updLane_wf _ _ hs
  have h2 : s2.wf := updLane_wf _ _ h1
  have h2' : s2'.wf := by
    unfold s2'
    split
    · exact updLane_wf _ _ h1
    · exact h1
  split
  · exact trivial
  · split
    · exact trivial
    · split
      · exact foldl_wf (fun _ _ => lseen_wf _ _) _ hx
      · split
        · split
          · exact endBegin_wf h2
          · exact h2
        · exact h2'

theorem execChk_wf {l : LaneId} {a b : GReg} {s : State} (h : s.wf) :
    Yields (execChk l a b s) State.wf := by
  unfold execChk
  refine next_wf ?_
  refine instr_wf h (fun _ _ hx => ?_)
  split
  · exact trivial
  · exact hx

/-! ### System instructions -/

theorem State.sysop_wf {s : State} {l : LaneId} {fn : Nat} {ok : Bool} {v : DWord} (h : s.wf) :
    (s.sysop l fn ok v).wf := by
  unfold State.sysop
  split
  · exact send_wf _ _ _ _ _ h
  · exact trivial

theorem execEndCommitWaitDone_wf {l : LaneId} {s : State} (h : s.wf) :
    Yields (execEndCommitWaitDone l s) State.wf := by
  unfold execEndCommitWaitDone
  refine next_wf ?_
  split
  · exact ite_wf (endReady_wf h) h
  · exact h

theorem execMfs_wf {l : LaneId} {d : GReg} {code : BitVec 3} {s : State} (h : s.wf) :
    Yields (execMfs l d code s) State.wf := by
  unfold execMfs
  refine next_wf ?_
  refine instr_wf h (fun _ _ hx => ?_)
  split
  · exact updLane_wf _ _ hx
  · exact trivial

theorem execMts_wf {l : LaneId} {a : GReg} {code : BitVec 3} {s : State} (h : s.wf) :
    Yields (execMts l a code s) State.wf := by
  refine next_wf (instr_wf h fun _ _ hx => ?_)
  extract_lets v w base stack upd
  have hupd : ∀ b f, (upd b f).wf := by
    intro b f
    unfold upd
    split
    · exact updLane_wf _ _ hx
    · trivial
  split
  · exact hupd _ _
  · exact hupd _ _
  · exact hupd _ _
  · exact hupd _ _
  · exact hupd _ _
  · trivial

/-! ### The commands of the CAN FD controllers -/

theorem execCanBusIntegration_wf {n : BitVec 2} {s : State} (h : s.wf) :
    Yields (execCanBusIntegration n s) State.wf := by
  unfold execCanBusIntegration
  extract_lets _ s1 s2
  have h1 : s1.wf := canUpd_wf _ _ h
  have h2 : s2.wf := fset_wf _ _ (fset_wf _ _ h1)
  exact next_wf (ite_wf h (ite_wf (fset_wf _ _ h2) (ite_wf (canUpd_wf _ _ h) h)))

theorem execCanStartOfFrame_wf {n : BitVec 2} {s : State} (h : s.wf) :
    Yields (execCanStartOfFrame n s) State.wf := by
  unfold execCanStartOfFrame
  extract_lets _ _ s1
  have h1 : s1.wf := canUpd_wf _ _ h
  refine next_wf ?_
  split
  · exact h
  · split
    · split
      · exact h1
      · exact canUpd_wf _ _ (canSetSt_wf h1)
    · exact h1

theorem execCanTransmissionEnd_wf {n : BitVec 2} {r : CanTxEnd} {delay : Nat} {s : State}
    (h : s.wf) :
    Yields (execCanTransmissionEnd n r delay s) State.wf := by
  unfold execCanTransmissionEnd
  extract_lets _ d s1 s2
  have hd : d.1.wf := by
    unfold d
    split
    · exact h
    · exact canDelay_wf h
  have h1 : s1.wf := canUpd_wf _ _ hd
  have h2 : s2.wf := canError_wf h1
  refine next_wf ?_
  split
  · exact h
  · split
    · split
      · exact canFailed_wf h2
      · exact h2
    · split
      · exact ite_wf (canSent_wf h1) (canFailed_wf h1)
      · exact h1

theorem State.canCmd_wf {s : State} {n key : Nat} (h : s.wf) : (s.canCmd n key).wf :=
  ite_wf (answer_wf _ h) (ite_wf (answer_wf _ (fset_wf _ _ h)) (answer_wf _ h))

theorem execCanRecoveryDone_wf {n : BitVec 2} {s : State} (h : s.wf) :
    Yields (execCanRecoveryDone n s) State.wf := by
  unfold execCanRecoveryDone
  extract_lets _ s1 s2
  have h1 : s1.wf := fset_wf _ _ (fset_wf _ _ h)
  have h2 : s2.wf := raise_wf _ (fset_wf _ _ h1)
  exact next_wf (ite_wf h (foldl_wf (fun _ _ hx => ite_wf (canSetSt_wf hx) hx) _ h2))

theorem State.canCancels_wf {s : State} {n mask : Nat} (h : s.wf) : (s.canCancels n mask).wf :=
  answer_wf _ (foldl_wf (fun _ _ hx => ite_wf (canCancel_wf hx) hx) _ h)

theorem State.canAck_wf {s : State} {n : Nat} {ack : Bool} (h : s.wf) : (s.canAck n ack).wf := by
  unfold State.canAck
  split
  · exact answer_wf _ h
  · exact ite_wf (answer_wf _ h) (answer_wf _ (fset_wf _ _ (fset_wf _ _ h)))

/-! ### The exchange of the sets -/

theorem State.migDed_wf {s : State} {l : LaneId} {a : Nat} (h : s.wf) : (s.migDed l a).wf :=
  updLane_wf _ _ h

theorem State.migWord_wf {s : State} {l : LaneId} {k : CoreId} {src dst : Nat} (h : s.wf) :
    (s.migWord l k src dst).wf := ite_wf (migDed_wf h) (privPut_wf (privSeen_wf _ _ h))

theorem State.migCopy_wf {s : State} {l : LaneId} {k : CoreId} {src dst n : Nat} (h : s.wf) :
    (s.migCopy l k src dst n).wf := foldl_wf (fun _ _ => migWord_wf) _ h

theorem State.migEdge_wf {s : State} {l : LaneId} {k : CoreId} {src dst e : Nat} (h : s.wf) :
    (s.migEdge l k src dst e).wf := by
  unfold State.migEdge
  extract_lets
  split
  · exact migDed_wf h
  · exact ite_wf (migDed_wf h) (privPut_wf (privSeen_wf _ _ (privSeen_wf _ _ h)))

theorem State.migLane_wf {s : State} {m : Mig} {l : LaneId} (h : s.wf) : (s.migLane m l).wf := by
  unfold State.migLane
  extract_lets _ s1 s2 s3 s4
  have h1 : s1.wf := by
    unfold s1
    refine foldl_wf (fun _ _ hx => ?_) _ h
    exact foldl_wf (fun _ _ => migEdge_wf) _ (foldl_wf (fun _ _ => migCopy_wf) _ hx)
  have h2 : s2.wf := foldl_wf (fun _ _ => migCopy_wf) _ h1
  have h3 : s3.wf := privPut_wf h2
  have h4 : s4.wf := foldl_wf (fun _ _ => privPut_wf) _ h3
  exact updLane_wf _ _ h4

theorem State.migrate_wf {s : State} {m : Mig} (h : s.wf) : (s.migrate m).wf := by
  unfold State.migrate
  extract_lets _ s1 s2 s3
  have h1 : s1.wf := foldl_wf (fun _ _ => updLane_wf _ _) _ h
  have h2 : s2.wf := foldl_wf (fun _ _ => migLane_wf) _ h1
  have h3 : s3.wf :=
    when_wf (fun _ => raise_wf _) (when_wf (fun _ => raise_wf _) h2)
  exact fset_wf _ _ (fset_wf _ _ h3)

theorem State.swapWords_wf {s : State} {ok : Bool} (h : s.wf) : (s.swapWords ok).wf := by
  unfold State.swapWords
  extract_lets
  split
  · exact h
  · exact ite_wf (programWord_wf h) (ite_wf h (ite_wf (programWord_wf h) (programWord_wf h)))

theorem State.exchangeSets_wf {s : State} (h : s.wf) : s.exchangeSets.wf := by
  unfold State.exchangeSets
  extract_lets _ _ _ _ s1 s2 s3 s4 _ s5
  have h1 : s1.wf := bootUpd_wf (fset_wf _ _ h)
  have h2 : s2.wf := record_wf ⟨h1.1, h1.2.1, regWf_bankLoad h1.2.2⟩
  have h3 : s3.wf := rwEntries_wf h2
  have h4 : s4.wf := lower_wf _ (raise_wf _ (show_wf _ _ (show_wf _ _ (fset_wf _ _ h3))))
  have h5 : s5.wf := fset_wf _ _ (showCheck_wf (fset_wf _ _ (show_wf _ _ h4)))
  exact show_wf _ _ (bootUpd_wf h5)

theorem State.sigFollow_wf {s : State} {old : RegMap} (h : s.wf) : (s.sigFollow old).wf :=
  foldl_wf (fun _ _ => when_wf fun _ => sigRestart_wf) _ (clkFollow_wf h)

theorem State.engineSwap_wf {s : State} {old : CfgSet} {oldRegs : RegMap} (h : s.wf) :
    (s.engineSwap old oldRegs).wf := by
  unfold State.engineSwap
  extract_lets s1 s2 s3 s4
  have h1 : s1.wf := pdeSwap_wf (openUsedGates_wf h)
  have h2 : s2.wf := foldl_wf (fun _ _ => canSwap_wf) _ h1
  have h3 : s3.wf := foldl_wf (fun _ _ => drvSwap_wf) _ h2
  have h4 : s4.wf := sigFollow_wf h3
  exact when_wf (fun _ => timTo_wf) h4

theorem State.doSwap_wf {s : State} {ok : Bool} (h : s.wf) : (s.doSwap ok).wf := by
  unfold State.doSwap
  extract_lets _ _ _ _ s1 _ s2 _ _ s3 s4
  have h1 : s1.wf := exchangeSets_wf (swapWords_wf h)
  have h2 : s2.wf := record_wf h1
  have h3 : s3.wf := ite_wf (record_wf h2) h2
  have h4 : s4.wf := migrate_wf (engineSwap_wf h3)
  exact ite_wf (fset_wf _ _ (bootUpd_wf h)) (count_wf _ (bump_wf _ (raise_wf _ h4)))

theorem State.swapStep_wf {s : State} {ok : Bool} (h : s.wf) : (s.swapStep ok).wf :=
  ite_wf h (ite_wf (bootUpd_wf h) (doSwap_wf h))

/-! ### Copies between cores and mode requests -/

theorem State.copyWord_wf {s : State} {ks kd : CoreId} {off : Nat} (h : s.wf) :
    (s.copyWord ks kd off).wf := by
  unfold State.copyWord
  extract_lets r
  have hr : r.1.wf := wordRead_wf _ _ _ h
  split
  · exact memPutLe_keeps _ _ _ hr
  · exact setUpsets_wf _ _ hr

theorem State.copyRange_wf {s : State} {ks kd : CoreId} {lo n : Nat} (h : s.wf) :
    (s.copyRange ks kd lo n).wf := by
  obtain ⟨hmem, hflash, hregs⟩ := h
  exact foldl_wf (fun _ _ => copyWord_wf) _
    (record_wf ⟨copyPriv_wf ks kd lo n hmem, hflash, hregs⟩)

theorem State.fullCopy_wf {s : State} {src dst : LaneId} {kd : CoreId} (h : s.wf) :
    (s.fullCopy src dst kd).wf := setLane_wf _ _ (foldl_wf (fun _ _ => copyRange_wf) _ h)

theorem State.triUpd_wf {s : State} {f : Triad → Triad} (h : s.wf) : (s.triUpd f).wf := h

theorem State.startCopy_wf {s : State} {l : LaneId} {k : CoreId} (h : s.wf) :
    (s.startCopy l k).wf := by
  unfold State.startCopy
  split
  · exact h
  · exact record_wf (triUpd_wf (fullCopy_wf h))

theorem State.substitute_wf {s : State} (h : s.wf) : s.substitute.wf := by
  unfold State.substitute
  split
  · exact ite_wf (startCopy_wf h) h
  · exact h

theorem State.substituted_wf {s : State} {l : LaneId} {k : CoreId} {pass : Bool} (h : s.wf) :
    (s.substituted l k pass).wf := by
  unfold State.substituted
  split
  · extract_lets _ s1 s2 s3
    have h1 : s1.wf := wearLog_wf _ _ _ (fset_wf _ _ (fset_wf _ _ h))
    have h2 : s2.wf := when_wf (fun _ => reserveGone_wf) h1
    have h3 : s3.wf := triUpd_wf (count_wf _ (raise_wf _ h2))
    exact paddockOff_wf h3
  · exact when_wf (fun _ => reserveGone_wf) (retireCore_wf (raise_wf _ h))

theorem State.regionHash_wf {s : State} {k : CoreId} {r : Nat} (h : s.wf) :
    (s.regionHash k r).1.wf := bankBytes_wf h

theorem State.regionHashes_wf {s : State} {r : Nat} {ls : List LaneId} (h : s.wf) :
    (s.regionHashes r ls).1.wf := by
  refine foldl_fst_wf (fun _ _ hp => ?_) _ ?_
  · exact regionHash_wf hp
  · exact h

theorem State.latent_wf {s : State} {l src : LaneId} {r n : Nat} (h : s.wf) :
    (s.latent l src r n).wf := by
  unfold State.latent
  extract_lets _ _ s1 s2
  have h1 : s1.wf := count_wf _ (fset_wf _ _ (fset_wf _ _ (bump_wf _ (raise_wf _ h))))
  have h2 : s2.wf := triUpd_wf (fset_wf _ _ h1)
  exact ite_wf (stray_wf (triUpd_wf (fset_wf _ _ h1))) (raise_wf _ (copyRange_wf h2))

theorem State.surveyRegion_wf {s : State} {r n : Nat} (h : s.wf) : (s.surveyRegion r n).wf := by
  unfold State.surveyRegion
  extract_lets x s
  have hx : x.1.wf := regionHashes_wf h
  have hs : s.wf := hx
  split
  · exact hs
  · split
    · exact latent_wf hs
    · exact safeEnter_wf hs

theorem State.survey_wf {s : State} {n : Nat} (h : s.wf) : (s.survey n).wf := by
  unfold State.survey
  extract_lets _ _ s1
  have h1 : s1.wf := ite_wf h (surveyRegion_wf h)
  exact ite_wf h (when_wf (fun _ => bump_wf _) (fset_wf _ _ (show_wf _ _ h1)))

theorem State.reintegrate_wf {s : State} (h : s.wf) : s.reintegrate.wf := by
  unfold State.reintegrate
  split
  · exact ite_wf h (startCopy_wf h)
  · exact h

theorem State.reintegrated_wf {s : State} {l : LaneId} {k : CoreId} {pass : Bool} (h : s.wf) :
    (s.reintegrated l k pass).wf := ite_wf (fset_wf _ _ h) (retireCore_wf (raise_wf _ h))

theorem State.leave_wf {s : State} {l : LaneId} (h : s.wf) : (s.leave l).wf :=
  fset_wf _ _ (updLane_wf _ _ (discardLane_wf h))

theorem State.setMode_wf {s : State} {m : Nat} (h : s.wf) : (s.setMode m).wf :=
  triUpd_wf (raise_wf _ (fset_wf _ _ h))

theorem State.dropLost_wf {s : State} (h : s.wf) : s.dropLost.wf :=
  triUpd_wf (foldl_wf (fun _ _ => when_wf fun _ => paddockOff_wf) _ h)

theorem State.toPair_wf {s : State} (h : s.wf) : s.toPair.wf :=
  setMode_wf (dropLost_wf (foldl_wf (fun _ _ hx => ite_wf hx (leave_wf hx)) _ h))

theorem State.toSolo_wf {s : State} (h : s.wf) : s.toSolo.wf := by
  unfold State.toSolo
  refine setMode_wf ?_
  refine dropLost_wf ?_
  refine foldl_wf (fun _ _ hx => ?_) _ h
  split
  · exact fset_wf _ _ hx
  · exact leave_wf hx
  · exact hx

theorem State.soloSetup_wf {s : State} {l : LaneId} (h : s.wf) : (s.soloSetup l).wf :=
  fset_wf _ _ (updLane_wf _ _ (foldl_wf (fun _ _ => instInit_wf) _ h))

theorem State.joinLane_wf {s : State} {l : LaneId} {k : CoreId} (h : s.wf) :
    (s.joinLane l k).wf := by
  unfold State.joinLane
  extract_lets s1
  have h1 : s1.wf := fset_wf _ _ h
  exact ite_wf (triUpd_wf h1) (startCopy_wf h1)

theorem State.triadToSolo_wf {s : State} (h : s.wf) : s.triadToSolo.wf := by
  unfold State.triadToSolo
  extract_lets
  split
  · exact setMode_wf h
  · split
    · exact record_wf (soloSetup_wf (setMode_wf h))
    · exact ite_wf (triUpd_wf (setMode_wf (leave_wf h))) (setMode_wf (dropLost_wf h))

theorem State.soloToTriad_wf {s : State} (h : s.wf) : s.soloToTriad.wf := by
  unfold State.soloToTriad
  extract_lets _ _ s1
  have h1 : s1.wf := setMode_wf h
  split
  · exact joinLane_wf (setMode_wf (leave_wf h))
  · split
    · exact joinLane_wf h1
    · exact triUpd_wf h1

theorem State.modeDone_wf {s : State} (h : s.wf) : s.modeDone.wf := fset_wf _ _ h

theorem State.modeRefuse_wf {s : State} {r : Nat} (h : s.wf) : (s.modeRefuse r).wf :=
  raise_wf _ (fset_wf _ _ h)

theorem State.handleMode_wf {s : State} {q : Nat} (h : s.wf) : (s.handleMode q).wf := by
  unfold State.handleMode
  extract_lets x
  have hx : x.wf := fset_wf _ _ h
  split
  · exact modeDone_wf hx
  · split
    · exact modeRefuse_wf hx
    · split
      · exact modeRefuse_wf hx
      · split
        · exact ite_wf (modeRefuse_wf hx) (modeDone_wf (toSolo_wf hx))
        · exact modeDone_wf (toPair_wf hx)
        · split
          · exact ite_wf (modeDone_wf (triadToSolo_wf hx)) (modeRefuse_wf hx)
          · split
            · exact modeRefuse_wf hx
            · exact ite_wf (modeDone_wf (joinLane_wf (setMode_wf hx))) (modeRefuse_wf hx)
        · split
          · exact modeDone_wf (soloToTriad_wf hx)
          · split
            · exact modeRefuse_wf hx
            · exact modeDone_wf (joinLane_wf (setMode_wf hx))

theorem State.modeStep_wf {s : State} {forced : Bool} (h : s.wf) : (s.modeStep forced).wf := by
  unfold State.modeStep
  extract_lets q x y
  have hx : x.wf := triUpd_wf h
  have hy : y.wf := toPair_wf hx
  clear_value q
  split
  · split
    · exact fset_wf _ _ (fset_wf _ _ hy)
    · exact hy
  · split
    · exact handleMode_wf hx
    · exact hx

theorem State.unmarked_wf {s : State} (h : s.wf) : s.unmarked.wf :=
  ite_wf h (ite_wf (safeEnter_wf h) (toSolo_wf h))

theorem State.joinWaiting_wf {s : State} (h : s.wf) : s.joinWaiting.wf := by
  unfold State.joinWaiting
  split
  · exact ite_wf h (startCopy_wf (triUpd_wf h))
  · exact h

theorem State.joined_wf {s : State} {l : LaneId} {k : CoreId} {pass : Bool} (h : s.wf) :
    (s.joined l k pass).wf := by
  unfold State.joined
  split
  · exact ite_wf (soloSetup_wf h) (fset_wf _ _ h)
  · extract_lets s1
    have h1 : s1.wf := retireCore_wf (raise_wf _ h)
    exact ite_wf (triUpd_wf h1) h1

/-! ### The INPUT phase -/

theorem State.sourceSeen_wf {s : State} (h : s.wf) : s.sourceSeen.wf := by
  unfold State.sourceSeen
  refine foldl_wf (fun _ _ hx => ?_) _ h
  split
  · exact engineRead_wf hx
  · exact hx

theorem State.fillImage_wf {s : State} (h : s.wf) : s.fillImage.wf :=
  record_wf (burstPut_wf (sourceSeen_wf h))

theorem State.updInput_wf {s : State} (h : s.wf) : s.updInput.wf := by
  unfold State.updInput
  split
  · exact h
  · split
    · exact h
    · extract_lets s1 r
      have h1 : s1.wf := updUpd_wf h
      have hr : r.1.wf := armSwap_wf h1
      split
      · exact fset_wf _ _ (fset_wf _ _ (raise_wf _ h1))
      · split
        · exact fset_wf _ _ h1
        · split
          · exact fset_wf _ _ (fset_wf _ _ (raise_wf _ hr))
          · exact fset_wf _ _ (fset_wf _ _ (raise_wf _ hr))

theorem State.latchCycle_wf {s : State} (h : s.wf) : s.latchCycle.wf := fset_wf _ _ (fset_wf _ _ h)

theorem State.freshLanes_wf {s : State} (h : s.wf) : s.freshLanes.wf :=
  foldl_wf (fun _ _ => updLane_wf _ _) _ h

theorem State.flipBanks_wf {s : State} (h : s.wf) : s.flipBanks.wf := by
  unfold State.flipBanks
  extract_lets s1 _ _ s2 s3
  have h1 : s1.wf := foldl_wf (fun _ _ => burstPut_wf) _ h
  have h2 : s2.wf := record_wf h1
  have h3 : s3.wf :=
    foldl_wf (fun _ _ => canInput_wf) _ (pdeInput_wf (sigInput_wf h2))
  exact pairInput_wf (flkInput_wf (drvInput_wf h3))

theorem State.beginLane_wf {s : State} {l : LaneId} (h : s.wf) : (s.beginLane l).wf := by
  unfold State.beginLane
  extract_lets s1
  have h1 : s1.wf := updLane_wf _ _ h
  split
  · exact h1
  · split
    · exact privDedTake_wf (updLane_wf _ _ h1)
    · exact ite_wf (endBegin_wf h1) (dispatch_wf h1)

theorem State.inputPhase_wf {s : State} (h : s.wf) : s.inputPhase.wf := by
  unfold State.inputPhase
  extract_lets s1 s2 s3 s4
  have h1 : s1.wf := updInput_wf (flipBanks_wf (freshLanes_wf (latchCycle_wf h)))
  have h2 : s2.wf := fillImage_wf h1
  have h3 : s3.wf := lower_wf _ (fset_wf _ _ h2)
  have h4 : s4.wf := triUpd_wf h3
  exact fset_wf _ _ (foldl_wf (fun _ _ => beginLane_wf) _ h4)

/-! ### The cycle boundary -/

theorem State.closeCycle_wf {s : State} (h : s.wf) : s.closeCycle.wf := by
  unfold State.closeCycle
  extract_lets _ _ s1 s2 _ s3 s4
  have h1 : s1.wf := fset_wf _ _ (fset_wf _ _ h)
  have h2 : s2.wf :=
    when_wf (fun _ hx => when_wf (fun _ => histAdd_wf) (extMax_wf hx)) h1
  have h3 : s3.wf := by
    unfold s3
    refine when_wf (fun _ hx => ?_) h2
    exact count_wf _ (count_wf _ (bump_wf _ (raise_wf _ (raise_wf _ hx))))
  have h4 : s4.wf := show_wf _ _ h3
  exact record_wf h4

theorem State.firstCycle_wf {s : State} (h : s.wf) : s.firstCycle.wf := by
  unfold State.firstCycle
  extract_lets _ s1 s2
  have h1 : s1.wf := h
  have h2 : s2.wf := fset_wf _ _ h1
  exact ite_wf h2 (record_wf h2)

theorem State.waitTest_wf {s : State} {stage : Nat} {k : State → State}
    (h : s.wf) (hk : ∀ x, x.wf → (k x).wf) : (s.waitTest stage k).wf := ite_wf (hk _ h) h

theorem State.standbyTest_wf {s : State} {k : State → State}
    (h : s.wf) (hk : ∀ x, x.wf → (k x).wf) : (s.standbyTest k).wf := by
  unfold State.standbyTest
  split
  · split
    · exact voterFault_wf h
    · exact hk _ (pairUpd_wf h)
  · exact hk _ h

theorem State.boundaryEnd_wf {s : State} (h : s.wf) : s.boundaryEnd.wf := by
  unfold State.boundaryEnd
  refine standbyTest_wf (boundaryOff_wf (pairBoundary_wf h)) (fun _ hx => ?_)
  exact inputPhase_wf (localOpen_wf (dirSwitch_wf hx))

theorem State.boundaryMode_wf {s : State} {forced : Bool} (h : s.wf) :
    (s.boundaryMode forced).wf :=
  waitTest_wf (modeStep_wf (unmarked_wf h)) (fun _ => boundaryEnd_wf)

theorem State.boundarySwap_wf {s : State} {forced : Bool} (h : s.wf) :
    (s.boundarySwap forced).wf := by
  unfold State.boundarySwap
  refine waitTest_wf ?_ (fun _ => boundaryMode_wf)
  exact joinWaiting_wf (swapStep_wf (boundaryRemaps_wf h))

theorem State.boundarySurvey_wf {s : State} {forced : Bool} (h : s.wf) :
    (s.boundarySurvey forced).wf := by
  unfold State.boundarySurvey
  extract_lets s1
  have h1 : s1.wf := ite_wf h (survey_wf h)
  exact waitTest_wf (reintegrate_wf h1) (fun _ => boundarySwap_wf)

theorem State.regionWrites_wf {s : State} (h : s.wf) : s.regionWrites.wf :=
  record_wf (foldl_wf (fun _ _ => setReg_wf _ _) _ h)

theorem State.boundaryBegin_wf {s : State} {ok : Bool} {sweep : Option (Nat × BitVec 2)}
    (h : s.wf) :
    (s.boundaryBegin ok sweep).wf := by
  unfold State.boundaryBegin
  extract_lets s1 _ s2 s3 s4 s5
  have h1 : s1.wf := ite_wf (closeCycle_wf h) (firstCycle_wf (evalSets_wf h))
  have h2 : s2.wf := record_wf h1
  have h3 : s3.wf := retryWear_wf (evalSets_wf (regionWrites_wf (fset_wf _ _ h2)))
  have h4 : s4.wf := when_wf (fun _ => fieldReload_wf) h3
  have h5 : s5.wf := triUpd_wf (foldl_wf (fun _ _ => paddockOff_wf) _ h4)
  exact waitTest_wf (substitute_wf h5) (fun _ => boundarySurvey_wf)

theorem State.testOver_wf {s : State} (h : s.wf) : s.testOver.wf := triUpd_wf h

theorem execSubstitutionSelftestDone_wf {l : LaneId} {pass : Bool} {s : State} (h : s.wf) :
    Yields (execSubstitutionSelftestDone l pass s) State.wf := by
  unfold execSubstitutionSelftestDone
  refine next_wf ?_
  split
  · exact boundarySurvey_wf (substituted_wf (testOver_wf h))
  · exact h

theorem execReintegrationSelftestDone_wf {l : LaneId} {pass : Bool} {s : State} (h : s.wf) :
    Yields (execReintegrationSelftestDone l pass s) State.wf := by
  unfold execReintegrationSelftestDone
  refine next_wf ?_
  split
  · extract_lets s1
    have h1 : s1.wf := testOver_wf h
    split
    · exact boundarySwap_wf (reintegrated_wf h1)
    · exact boundaryMode_wf (joined_wf h1)
    · exact boundaryEnd_wf (joined_wf h1)
  · exact h

/-! ### The commands of the Drove bus -/

theorem State.drvSend_wf {s : State} {n : Nat} {b : List Byte} (h : s.wf) : (s.drvSend n b).wf :=
  drvUpd_wf _ _ h

theorem execDroveRefSend_wf {ch : Bool} {s : State} (h : s.wf) :
    Yields (execDroveRefSend ch s) State.wf := by
  unfold execDroveRefSend
  extract_lets _ _ _ _ s1
  have h1 : s1.wf := drvMark_wf (drvSend_wf h)
  refine next_wf ?_
  split
  · exact h
  · split
    · exact drvBlock_wf h
    · split
      · exact h1
      · exact fset_wf _ _ (drvUpd_wf _ _ (drvUse_wf h1))

theorem State.drvCold_wf {s : State} {n : Nat} (h : s.wf) : (s.drvCold n).wf :=
  ite_wf (drvUpd_wf _ _ (drvMark_wf (drvSend_wf h))) (drvBlock_wf h)

theorem execDroveSlotBufferCopy_wf {ch : Bool} {slot : Nat} {s : State} (h : s.wf) :
    Yields (execDroveSlotBufferCopy ch slot s) State.wf := by
  unfold execDroveSlotBufferCopy
  extract_lets _ _ _ r
  have hr : r.1.wf := by
    unfold r
    split
    · exact pubRead_wf h
    · exact h
  exact next_wf (ite_wf h (drvUpd_wf _ _ hr))

theorem State.drvCmd_wf {s : State} {passive resume : Nat} (h : s.wf) :
    (s.drvCmd passive resume).wf := by
  unfold State.drvCmd
  extract_lets one
  have hone : ∀ (x : State) (n : Nat), x.wf → (one x n).wf := by
    intro x n hx
    unfold one
    split
    · exact when_wf (fun _ => drvUpd_wf _ _) (raise_wf _ hx)
    · exact ite_wf (drvUpd_wf _ _ (lower_wf _ hx)) hx
  exact answer_wf _ (foldl_wf (fun _ _ => hone _ _) _ h)

theorem State.drvKeyed_wf {s : State} {key passive resume : Nat} (h : s.wf) :
    (s.drvKeyed key passive resume).wf :=
  ite_wf (answer_wf _ h) (ite_wf (answer_wf _ h) (drvCmd_wf h))

/-! ### The commands of the switch and of the internal port -/

theorem execSwitchFrameReceived_wf {port : Nat} {f : EthFrame} {s : State} (h : s.wf) :
    Yields (execSwitchFrameReceived port f s) State.wf := by
  refine next_wf ?_
  have hp : (s.prpReceive port s.dualComid f).1.wf := prpReceive_wf h
  refine ite_wf h (ite_wf (ethDrop_wf h) (ite_wf (ethDrop_wf h) (ite_wf h (ite_wf ?_ ?_))))
  · split
    · next e =>
      rw [e] at hp
      exact switchFrame_wf hp
    · next e =>
      rw [e] at hp
      exact hp
  · exact switchFrame_wf h

theorem execSwitchEgressTransmit_wf {port : Nat} {s : State} (h : s.wf) :
    Yields (execSwitchEgressTransmit port s) State.wf := by
  unfold execSwitchEgressTransmit
  refine next_wf ?_
  split
  · exact h
  · split
    · exact h
    · exact when_wf (fun _ => raise_wf _) (record_wf (cellRead_wf h))

theorem State.mdioWrite_wf {s : State} {v : Nat} (h : s.wf) : (s.mdioWrite v).wf :=
  ite_wf h (fset_wf _ _ (fset_wf _ _ (fset_wf _ _ (fset_wf _ _ (fset_wf _ _ h)))))

theorem State.arpLearn_wf {s : State} {ip mac : Nat} (h : s.wf) : (s.arpLearn ip mac).wf :=
  pdeUpd_wf h

/-! ### The commands of the Fold link bridge -/

theorem execFoldFrameForward_wf {f : FoldFrame} {s : State} (h : s.wf) :
    Yields (execFoldFrameForward f s) State.wf := by
  unfold execFoldFrameForward
  refine next_wf ?_
  split
  · exact h
  · extract_lets s1
    have h1 : s1.wf :=
      when_wf (fun _ => stnHear_wf) (when_wf (fun _ => raise_wf _) h)
    exact ite_wf h1 (foldOut_wf h1)

theorem State.foldDone_wf {s : State} {k t : Nat} (h : s.wf) : (s.foldDone k t).wf := flkUpd_wf h

theorem execFoldRspReceived_wf {f : FoldFrame} {s : State} (h : s.wf) :
    Yields (execFoldRspReceived f s) State.wf := by
  unfold execFoldRspReceived
  refine next_wf ?_
  refine foldIn_wf h (fun _ hx => ?_)
  extract_lets
  split
  · exact fetchPump_wf (tagFreed_wf (reply_wf _ _ _ _ (foldDone_wf hx)))
  · exact ite_wf (fetchPump_wf (tagFreed_wf (fstUpd_wf _ _ (bump_wf _ hx)))) hx

theorem execFoldReadTimeout_wf {st : BitVec 4} {tag : BitVec 8} {s : State} (h : s.wf) :
    Yields (execFoldReadTimeout st tag s) State.wf := by
  unfold execFoldReadTimeout
  extract_lets
  refine next_wf ?_
  split
  · exact fetchPump_wf (fstUpd_wf _ _ (reply_wf _ _ _ _ (foldDone_wf h)))
  · exact h

theorem State.writeErr_wf {s : State} {k seq code : Nat} (h : s.wf) :
    (s.writeErr k seq code).wf := by
  unfold State.writeErr
  split
  · exact lateErr_wf (fstUpd_wf _ _ h)
  · exact h

theorem execFoldSupTick_wf {s : State} (h : s.wf) : Yields (execFoldSupTick s) State.wf := by
  unfold execFoldSupTick
  refine next_wf ?_
  split
  · exact h
  · exact foldSend_wf (flkUpd_wf (ite_wf (foldl_wf (fun _ _ => stationMiss_wf) _ h) h))

theorem execFoldSupReturned_wf {f : FoldFrame} {s : State} (h : s.wf) :
    Yields (execFoldSupReturned f s) State.wf := by
  unfold execFoldSupReturned
  refine next_wf ?_
  refine foldIn_wf h (fun _ hx => ?_)
  exact foldl_wf (fun _ _ => stationReport_wf) _ (show_wf _ _ (flkUpd_wf hx))

theorem execFoldScanTick_wf {s : State} (h : s.wf) : Yields (execFoldScanTick s) State.wf := by
  unfold execFoldScanTick
  refine next_wf ?_
  split
  · exact h
  · exact foldl_wf (fun _ _ hx => sendImg_wf (when_wf (fun _ => foldSend_wf) hx)) _ h

theorem State.enumq_wf {s : State} (h : s.wf) : s.enumq.wf := foldSend_wf h

theorem State.enumAssign_wf {s : State} {uid ident k : Nat} (h : s.wf) :
    (s.enumAssign uid ident k).wf := by
  unfold State.enumAssign
  extract_lets s1
  have h1 : s1.wf := foldSend_wf (fstUpd_wf _ _ h)
  exact ite_wf (raise_wf _ (fstTo_wf h1)) (ite_wf h1 (fstTo_wf h1))

theorem execFoldEnumqReturned_wf {f : FoldFrame} {s : State} (h : s.wf) :
    Yields (execFoldEnumqReturned f s) State.wf := by
  unfold execFoldEnumqReturned
  refine next_wf ?_
  refine foldIn_wf h (fun _ hx => ?_)
  extract_lets
  split
  · exact hx
  · split
    · exact flkUpd_wf hx
    · refine enumq_wf ?_
      split
      · exact enumAssign_wf hx
      · exact raise_wf _ hx

theorem execFoldStationLoad_wf {st : BitVec 4} {s : State} (h : s.wf) :
    Yields (execFoldStationLoad st s) State.wf := by
  unfold execFoldStationLoad
  extract_lets _ next
  have hnext : ∀ (x : State), x.wf → (next x).wf := by
    intro x hx
    unfold next
    split
    · exact ite_wf (loadStep_wf hx) hx
    · exact hx
  refine next_wf ?_
  split
  · exact h
  · split
    · exact hnext _ h
    · exact ite_wf (hnext _ (loadBegin_wf h)) h

theorem execFoldLackReceived_wf {f : FoldFrame} {s : State} (h : s.wf) :
    Yields (execFoldLackReceived f s) State.wf := by
  unfold execFoldLackReceived
  refine next_wf ?_
  refine foldIn_wf h (fun _ hx => ?_)
  split
  · split
    · exact hx
    · exact ite_wf (loadFailed_wf hx) (loadEnd_wf (fstUpd_wf _ _ (bump_wf _ (toService_wf hx))))
  · exact hx

theorem execFoldLackTimeout_wf {st : BitVec 4} {s : State} (h : s.wf) :
    Yields (execFoldLackTimeout st s) State.wf := by
  unfold execFoldLackTimeout
  refine next_wf ?_
  split
  · exact ite_wf (loadFailed_wf h) h
  · exact h

theorem State.ldAbort_wf {s : State} {k : Nat} (h : s.wf) : (s.ldAbort k).wf := by
  unfold State.ldAbort
  extract_lets late
  have hlate : ∀ (x : State), x.wf → (late x).wf :=
    fun _ hx => answer_wf _ (fset_wf _ _ (raise_wf _ hx))
  split
  · split
    · exact ite_wf (hlate _ (flkUpd_wf h)) (answer_wf _ (fstTo_wf (loadEnd_wf h)))
    · exact ite_wf (answer_wf _ (fset_wf _ _ (fstTo_wf h))) (hlate _ h)
  · exact ite_wf (answer_wf _ (fset_wf _ _ (fstTo_wf h))) (hlate _ h)

theorem State.ldReload_wf {s : State} {k : Nat} (h : s.wf) : (s.ldReload k).wf :=
  answer_wf _ (ite_wf (fstTo_wf h) h)

theorem State.ldCmd_wf {s : State} {key action k : Nat} (h : s.wf) : (s.ldCmd key action k).wf := by
  unfold State.ldCmd
  split
  · exact answer_wf _ h
  · split
    · exact answer_wf _ h
    · exact ite_wf (answer_wf _ (fset_wf _ _ h)) (ite_wf (ldAbort_wf h) (ldReload_wf h))

theorem State.lelPop_wf {s : State} {pop : Bool} (h : s.wf) : (s.lelPop pop).wf :=
  ite_wf (answer_wf _ h) (answer_wf _ (ite_wf (lelShow_wf (flkUpd_wf h)) h))

theorem State.degClr_wf {s : State} {mask : Nat} (h : s.wf) : (s.degClr mask).wf :=
  answer_wf _ (foldl_wf (fun _ _ => when_wf fun _ => lower_wf _) _ h)

theorem execFlkSemAcquire_wf {n : BitVec 4} {ini : Initiator} {s : State} (h : s.wf) :
    Yields (execFlkSemAcquire n ini s) State.wf := by
  refine next_wf ?_
  split
  · exact answer_wf _ h
  · exact answerData_wf _ (semAcquire_wf h)

/-! ### The commands of the process data engine -/

theorem execPdPublishInstant_wf {sess : Nat} {unitsAgree : Bool} {lateNs : Nat} {s : State}
    (h : s.wf) :
    Yields (execPdPublishInstant sess unitsAgree lateNs s) State.wf := by
  unfold execPdPublishInstant
  extract_lets _ r x
  have hr : r.1.wf := pubRead_wf h
  have hx : x.wf := hr
  refine next_wf ?_
  split
  · exact h
  · split
    · exact when_wf (fun _ => raise_wf _) (lower_wf _ (raise_wf _ h))
    · split
      · exact hx
      · split
        · exact vscInt_wf hx
        · extract_lets _ s1 s2
          have h1 : s1.wf := pdUpd_wf _ _ (netSend_wf hx)
          have h2 : s2.wf := raise_wf _ (lower_wf _ h1)
          exact when_wf (fun _ hx => extMax_wf (lateAdd_wf hx)) h2

theorem State.pairSession_wf {s : State} {i : Nat} {f : PdFrame} (h : s.wf) :
    (s.pairSession i f).wf := ite_wf (pairReceive_wf h) h

theorem execPdFrameReceived_wf {lan : Option Bool} {f : PdFrame} {unitsAgree : Bool} {s : State}
    (h : s.wf) : Yields (execPdFrameReceived lan f unitsAgree s) State.wf := by
  unfold execPdFrameReceived
  refine next_wf ?_
  split
  · exact h
  · split
    · exact h
    · extract_lets
      split
      · exact h
      · split
        · exact h
        · exact ite_wf (pdDual_wf h) (pairSession_wf (pdAccept_wf h))
        · exact pdFail_wf h

theorem execPdSessionTimeout_wf {sess : Nat} {s : State} (h : s.wf) :
    Yields (execPdSessionTimeout sess s) State.wf := by
  unfold execPdSessionTimeout
  refine next_wf ?_
  split
  · exact h
  · exact pairJudge_wf (count_wf _ (raise_wf _ (lower_wf _ (raise_wf _ (pdUpd_wf _ _ h)))))

theorem execDualWindowClose_wf {sess : Nat} {s : State} (h : s.wf) :
    Yields (execDualWindowClose sess s) State.wf := by
  unfold execDualWindowClose
  refine next_wf ?_
  split
  · exact ite_wf (pdLoss_wf (pdAccept_wf h)) h
  · exact h

theorem execMdMessageReceived_wf {m : MdMsg} {s : State} (h : s.wf) :
    Yields (execMdMessageReceived m s) State.wf := by
  unfold execMdMessageReceived
  extract_lets _ s1
  have h1 : s1.wf := by
    unfold s1
    split
    · exact pdeUpd_wf h
    · exact h
  exact next_wf (ite_wf (mdReceive_wf h1) h)

/-! ### The commands of the event recorder -/

theorem execRecorderEnvSample_wf {tempDc : Int} {coreMv : Nat} {s : State} (h : s.wf) :
    Yields (execRecorderEnvSample tempDc coreMv s) State.wf := by
  unfold execRecorderEnvSample
  refine next_wf ?_
  split
  · exact h
  · extract_lets _ s1 s2
    have h1 : s1.wf := when_wf (fun _ hx => extMax_wf (extMin_wf (histAdd_wf hx))) h
    have h2 : s2.wf := extMax_wf (extMin_wf (histAdd_wf h1))
    exact extMax_wf (extMin_wf (histAdd_wf h2))

theorem State.recErase_wf {s : State} (h : s.wf) : s.recErase.wf :=
  foldl_wf (fun _ _ => flashQueue_wf _) _ (record_wf (fset_wf _ _ (lower_wf _ h)))

theorem State.recCmd_wf {s : State} {key : Nat} {erase snap : Bool} (h : s.wf) :
    (s.recCmd key erase snap).wf := by
  unfold State.recCmd
  split
  · exact answer_wf _ h
  · split
    · exact answer_wf _ h
    · extract_lets s1
      have h1 : s1.wf := when_wf (fun _ => recSnapshot_wf) (answer_wf _ h)
      exact when_wf (fun _ => recErase_wf) h1

/-! ### The commands of the signal unit -/

theorem State.sigClkBad_wf {s : State} {n : Nat} (h : s.wf) : (s.sigClkBad n).wf :=
  raise_wf _ (when_wf (fun _ => sigEvt_wf) (sigUpd_wf h))

theorem execSdClockWindow_wf {ch : BitVec 4} {edges : Nat} {s : State} (h : s.wf) :
    Yields (execSdClockWindow ch edges s) State.wf := by
  unfold execSdClockWindow
  extract_lets
  refine next_wf ?_
  exact ite_wf h (ite_wf (sigClkBad_wf h) (when_wf (fun _ => lower_wf _) (sigUpd_wf h)))

theorem State.sigRestartMask_wf {s : State} {mask : Nat} (h : s.wf) : (s.sigRestartMask mask).wf :=
  foldl_wf (fun _ _ => when_wf fun _ => sigRestart_wf) _ h

theorem State.sigSync_wf {s : State} (h : s.wf) : s.sigSync.wf := by
  unfold State.sigSync
  extract_lets _ s1
  have h1 : s1.wf := foldl_wf (fun _ _ hx => sigUpd_wf (sigRestart_wf hx)) _ h
  exact when_wf (fun _ => raise_wf _) h1

theorem execScsConversionStart_wf {ch : BitVec 4} {bit : Bool} {s : State} (h : s.wf) :
    Yields (execScsConversionStart ch bit s) State.wf := by
  unfold execScsConversionStart
  extract_lets _ _ s1
  have h1 : s1.wf := sigBits_wf h
  exact next_wf (ite_wf (ite_wf (sigUpd_wf h1) h1) h)

/-! ### The commands of the time unit -/

theorem execPtpFollowUpReceived_wf {m : PtpMsg} {s : State} (h : s.wf) :
    Yields (execPtpFollowUpReceived m s) State.wf := by
  unfold execPtpFollowUpReceived
  refine next_wf ?_
  split
  · exact ite_wf (timSynced_wf h) h
  · exact h

theorem State.timRequest_wf {s : State} {port : Nat} {peer : Bool} (h : s.wf) :
    (s.timRequest port peer).wf := netSend_wf (timUpd_wf h)

theorem execPtpDelayReqSend_wf {port : Nat} {s : State} (h : s.wf) :
    Yields (execPtpDelayReqSend port s) State.wf := by
  unfold execPtpDelayReqSend
  refine next_wf ?_
  split
  · exact h
  · split
    · exact timRequest_wf h
    · split
      · exact ite_wf (timRequest_wf h) h
      · exact h

theorem State.timSetDelay_wf {s : State} {port : Nat} {d : Int} (h : s.wf) :
    (s.timSetDelay port d).wf := timUpd_wf h

theorem execPtpDelayRespReceived_wf {m : PtpMsg} {s : State} (h : s.wf) :
    Yields (execPtpDelayRespReceived m s) State.wf := by
  unfold execPtpDelayRespReceived
  refine next_wf ?_
  split
  · split
    · extract_lets _ s1
      have h1 : s1.wf := timUpd_wf (timSetDelay_wf h)
      exact ite_wf h1 (timMeasure_wf h1)
    · exact h
  · exact h

theorem execPtpPdelayRespReceived_wf {m : PtpMsg} {s : State} (h : s.wf) :
    Yields (execPtpPdelayRespReceived m s) State.wf := by
  unfold execPtpPdelayRespReceived
  refine next_wf ?_
  split
  · exact h
  · exact ite_wf (timUpd_wf h) (timUpd_wf (timSetDelay_wf h))

theorem execPtpPdelayRespFollowUp_wf {m : PtpMsg} {s : State} (h : s.wf) :
    Yields (execPtpPdelayRespFollowUp m s) State.wf := by
  unfold execPtpPdelayRespFollowUp
  refine next_wf ?_
  split
  · exact ite_wf (timUpd_wf (timSetDelay_wf h)) h
  · exact h

theorem execAnnounceReceiptTimeout_wf {s : State} (h : s.wf) :
    Yields (execAnnounceReceiptTimeout s) State.wf := by
  unfold execAnnounceReceiptTimeout
  refine next_wf ?_
  split
  · exact ite_wf (timSelect_wf (timUpd_wf (timHold_wf h))) h
  · exact h

theorem execPpsInEdge_wf {refPpb : Int} {s : State} (h : s.wf) :
    Yields (execPpsInEdge refPpb s) State.wf := by
  unfold execPpsInEdge
  refine next_wf ?_
  exact ite_wf h (ite_wf (timStep_wf (timUpd_wf h)) (ite_wf h (timMeasure_wf (timUpd_wf h))))

/-! ### The hub -/

theorem State.memRead_wf {s : State} {i : HubItem} {bk : Bank} {off : Nat} (h : s.wf) :
    (s.memRead i bk off).wf := by
  unfold State.memRead
  extract_lets r
  have hr : r.1.wf := wordRead_wf _ _ _ h
  split
  · exact replyNat_wf _ _ _ _ hr
  · exact reply_wf _ _ _ _ hr

theorem State.memWrite_wf {s : State} {i : HubItem} {bk : Bank} {off : Nat} (h : s.wf) :
    (s.memWrite i bk off).wf := by
  unfold State.memWrite
  extract_lets r
  have hr : r.1.wf := wordStore_wf _ _ _ _ _ h
  exact ite_wf (reply_wf _ _ _ _ hr) (reply_wf _ _ _ _ hr)

theorem State.memStore_wf {s : State} {i : HubItem} {bk : Bank} {off : Nat} (h : s.wf) :
    (s.memStore i bk off).wf := by
  unfold State.memStore
  split
  · exact reply_wf _ _ _ _ h
  · split
    · exact memWrite_wf h
    · exact ite_wf (reply_wf _ _ _ _ h) (ite_wf (memWrite_wf h) (memWrite_wf (itemTouch_wf h)))

theorem State.memOut_wf {s : State} {i : HubItem} (h : s.wf) : (s.memOut i).wf := by
  unfold State.memOut
  extract_lets _ _ _ s1
  have h1 : s1.wf := ite_wf h h
  split
  · exact reply_wf _ _ _ _ h
  · exact ite_wf (reply_wf _ _ _ _ h) (ite_wf (memWrite_wf h) (memWrite_wf h1))

theorem State.mdPortSend_wf {s : State} {i : HubItem} (h : s.wf) : (s.mdPortSend i).wf := by
  unfold State.mdPortSend
  extract_lets _ _ r
  have hr : r.1.wf := mdSend_wf h
  split
  · exact reply_wf _ _ _ _ h
  · exact ite_wf (reply_wf _ _ _ _ h) (ite_wf (reply_wf _ _ _ _ h) (reply_wf _ _ _ _ hr))

theorem State.mdPortRecv_wf {s : State} {i : HubItem} {q : Nat} (h : s.wf) :
    (s.mdPortRecv i q).wf := by
  unfold State.mdPortRecv
  extract_lets _ r
  have hr : r.1.wf := mdTake_wf h
  split
  · exact reply_wf _ _ _ _ h
  · exact ite_wf (reply_wf _ _ _ _ h) (ite_wf (reply_wf _ _ _ _ h) (reply_wf _ _ _ _ hr))

theorem State.regRead_wf {s : State} {ini : Initiator} {a : Nat} (h : s.wf) :
    (s.regRead ini a).1.wf := by
  unfold State.regRead
  split
  · exact semAcquire_wf h
  · exact h
  · split
    · exact h
    · exact h

theorem State.rwlFollow_wf {s : State} {old : RegMap} (h : s.wf) : (s.rwlFollow old).wf := by
  unfold State.rwlFollow
  extract_lets s1 s2
  have h1 : s1.wf := foldl_wf (fun _ _ => canSwap_wf) _ (sigFollow_wf h)
  have h2 : s2.wf := foldl_wf (fun _ _ => drvSwap_wf) _ h1
  exact when_wf (fun _ => timTo_wf) h2

theorem State.rwlWrite_wf {s : State} {a v : Nat} (h : s.wf) : (s.rwlWrite a v).wf := by
  unfold State.rwlWrite
  extract_lets
  split
  · exact answer_wf _ h
  · split
    · exact answer_wf _ h
    · exact ite_wf (answer_wf _ h) (answer_wf _ (rwlFollow_wf (setReg_wf _ _ h)))

theorem State.plainWrite_wf {s : State} {a v : Nat} (h : s.wf) : (s.plainWrite a v).wf :=
  ite_wf (rwlWrite_wf h) (ite_wf (answer_wf _ h) (answer_wf _ (setReg_wf _ _ h)))

theorem State.updStore_wf {s : State} {v : Nat} (h : s.wf) : (s.updStore v).wf := by
  unfold State.updStore
  extract_lets act
  clear_value act
  refine updKey_wf h (fun _ hx => ?_)
  split
  · exact updOpen_wf hx
  · exact updWrite_wf hx
  · exact updFetch_wf hx
  · exact updClose_wf hx
  · exact updArm_wf hx
  · exact updDisarm_wf (answer_wf _ hx)
  · exact updAbort_wf hx
  · exact updSetwrite_wf hx
  · exact answer_wf _ hx

theorem State.cmdStore_wf {s t : State} {a v : Nat} (h : s.wf) (e : s.cmdStore a v = some t) :
    t.wf := by
  unfold State.cmdStore at e
  split at e <;> cases e
  · exact writeSwrst_wf h
  · exact writePwrReq_wf h
  · exact gateWrite_wf h
  · exact writeOutcfg_wf h
  · exact ite_wf (sloadAbort_wf h) (sloadStart_wf h)
  · split
    · exact cfgSwap_wf h
    · exact cfgConfirm_wf h
    · exact answer_wf _ h
  · exact answer_wf _ (when_wf (fun _ => sigSync_wf) (sigRestartMask_wf h))
  · exact answer_wf _ (mdioWrite_wf h)
  · exact dirCommand_wf h
  · exact timCommand_wf h
  · exact drvKeyed_wf h
  · exact ite_wf (ldCmd_wf h) (answer_wf _ h)
  · exact degClr_wf h
  · exact lelPop_wf h
  · exact recCmd_wf h
  · exact updStore_wf h

theorem State.canStoreReg_wf {s t : State} {n o v : Nat} (h : s.wf)
    (e : s.canStoreReg n o v = some t) : t.wf := by
  unfold State.canStoreReg at e
  split at e
  · cases e
    exact ite_wf (canCmd_wf h) (answer_wf _ h)
  · cases e
    exact canCancels_wf h
  · cases e
    exact canAck_wf h
  · split at e <;> cases e
    exact answer_wf _ h

theorem State.regStore_wf {s : State} {ini : Initiator} {a v : Nat} (h : s.wf) :
    (s.regStore ini a v).wf := by
  unfold State.regStore
  split
  · next e => exact cmdStore_wf h e
  · exact fetchPump_wf (semWrite_wf h)
  · split
    · split
      · next e => exact canStoreReg_wf h e
      · exact plainWrite_wf h
    · exact plainWrite_wf h

theorem State.regAccess_wf {s : State} {i : HubItem} (h : s.wf) : (s.regAccess i).wf := by
  unfold State.regAccess
  extract_lets _ t r
  have ht : t.wf := regStore_wf h
  have hr : r.1.wf := regRead_wf h
  split
  · exact ite_wf (reply_wf _ _ _ _ h) (ite_wf (mdPortRecv_wf h) (reply_wf _ _ _ _ h))
  · split
    · exact reply_wf _ _ _ _ h
    · split
      · exact reply_wf _ _ _ _ h
      · exact ite_wf (reply_wf _ _ _ _ ht) (reply_wf _ _ _ _ hr)

theorem State.bkupAccess_wf {s : State} {i : HubItem} (h : s.wf) : (s.bkupAccess i).wf := by
  unfold State.bkupAccess
  extract_lets
  split
  · split
    · exact reply_wf _ _ _ _ h
    · exact ite_wf (reply_wf _ _ _ _ h) (reply_wf _ _ _ _ (memPutLe_keeps _ _ _ h))
  · split
    · exact reply_wf _ _ _ _ h
    · exact ite_wf (reply_wf _ _ _ _ (bkrWrite_wf h)) (reply_wf _ _ _ _ h)

theorem State.xspiAccess_wf {s : State} {i : HubItem} (h : s.wf) : (s.xspiAccess i).wf :=
  reply_wf _ _ _ _ (xspiRead_wf h)

theorem State.hubAccess_wf {s : State} {i : HubItem} (h : s.wf) : (s.hubAccess i).wf := by
  unfold State.hubAccess
  extract_lets
  split
  · exact reply_wf _ _ _ _ h
  · split
    · exact memOut_wf h
    · split
      · exact mdPortSend_wf h
      · split
        · exact reply_wf _ _ _ _ h
        · split
          · exact reply_wf _ _ _ _ h
          · split
            · exact ite_wf (memRead_wf h) (ite_wf (memStore_wf h) (memWrite_wf h))
            · split
              · exact reply_wf _ _ _ _ h
              · split
                · exact regAccess_wf h
                · exact ite_wf (reply_wf _ _ _ _ h) (foldAccess_wf h)
                · exact xspiAccess_wf h
                · exact bkupAccess_wf h

theorem State.hubCredit_wf {s : State} {i : HubItem} (h : s.wf) : (s.hubCredit i).wf :=
  ite_wf (setCredits_wf h) h

theorem State.hubTake_wf {s : State} {i : HubItem} (h : s.wf) : (s.hubTake i).wf := h

theorem State.hubGrant_wf {s : State} {t : Nat} (h : s.wf) : (s.hubGrant t).wf := by
  unfold State.hubGrant
  split
  · exact h
  · split
    · exact hubAccess_wf (hubCredit_wf (hubTake_wf h))
    · exact h

theorem State.hubPresent_wf {s : State} {r : BusReq} (h : s.wf) : (s.hubPresent r).wf := by
  unfold State.hubPresent
  split
  · exact answer_wf _ h
  · exact ite_wf (answer_wf _ h) (ite_wf (hubPush_wf h) (hubAccess_wf (hubCredit_wf h)))

theorem execHubRequest_wf {c : HubCmd} {s : State} (h : s.wf) :
    Yields (execHubRequest c s) State.wf := by
  unfold execHubRequest
  refine next_wf ?_
  split
  · exact hubPresent_wf h
  · exact hubGrant_wf h

theorem execTargetResponseTimeout_wf {c : HubCmd} {s : State} (h : s.wf) :
    Yields (execTargetResponseTimeout c s) State.wf := by
  unfold execTargetResponseTimeout
  refine next_wf ?_
  split
  · exact answer_wf _ h
  · split
    · exact reply_wf _ _ _ _ (hubTake_wf h)
    · exact h

/-! ### Shifts by an immediate -/

theorem State.shiftImm_wf {s : State} {l : LaneId} {w : Bool} {n : BitVec 6} {f : Lane → Lane}
    (h : s.wf) : (s.shiftImm l w n f).wf := by
  unfold State.shiftImm
  refine instr_wf h (fun _ _ hx => ?_)
  split
  · exact trivial
  · exact updLane_wf _ _ hx

/-! ### The pair link -/

theorem execHeartbeatTick_wf {s : State} (h : s.wf) : Yields (execHeartbeatTick s) State.wf := by
  unfold execHeartbeatTick
  refine next_wf ?_
  split
  · exact h
  · extract_lets _ s1
    have h1 : s1.wf := pairUpd_wf h
    exact ite_wf h1 (pdHand_wf (burstPut_wf h1))

/-! ### The station of the Fold link -/

theorem State.stnIn_wf {s : State} {f : FoldFrame} {kind : Nat} {len : Nat → Bool} {own : Bool}
    {k : State → State}
    (h : s.wf) (hk : ∀ x, x.wf → (k x).wf) : (s.stnIn f kind len own k).wf :=
  ite_wf h (ite_wf (raise_wf _ h) (ite_wf h (ite_wf h (hk _ (stnHear_wf h)))))

theorem State.stnSend_wf {s : State} {f : FoldFrame} {kind ts : Nat} {body : List Byte} (h : s.wf) :
    (s.stnSend f kind ts body).wf := foldOut_wf h

theorem State.stnPass_wf {s : State} {f : FoldFrame} {body : List Byte} (h : s.wf) :
    (s.stnPass f body).wf := ite_wf h (foldOut_wf h)

theorem State.stnWrite_wf {s : State} {o mask data : Nat} (h : s.wf) :
    (s.stnWrite o mask data).1.wf := by
  unfold State.stnWrite
  split
  · exact h
  · split
    · extract_lets
      split
      · exact h
      · split
        · exact plainWrite_wf h
        · exact h
    · split
      · exact stnUpd_wf h
      · exact h

theorem State.stnPerform_wf {s : State} {f : FoldFrame} (h : s.wf) : (s.stnPerform f).wf := by
  unfold State.stnPerform
  extract_lets _ r s1
  have hr : r.1.wf := stnWrite_wf h
  have h1 : s1.wf := stnUpd_wf hr
  exact ite_wf (stnSend_wf h1) (stnSend_wf h1)

theorem execStationWr_wf {f : FoldFrame} {s : State} (h : s.wf) :
    Yields (execStationWr f s) State.wf := by
  unfold execStationWr
  refine next_wf ?_
  refine stnIn_wf h (fun _ hx => ?_)
  exact ite_wf hx (ite_wf (stnPerform_wf hx) (ite_wf (stnPerform_wf (stnSend_wf hx)) hx))

theorem State.stnDrop_wf {s : State} (h : s.wf) : s.stnDrop.wf :=
  linkSend_wf _ (record_wf (stnUpd_wf h))

theorem execStationLdata_wf {f : FoldFrame} {s : State} (h : s.wf) :
    Yields (execStationLdata f s) State.wf := by
  unfold execStationLdata
  refine next_wf ?_
  refine stnIn_wf h (fun _ hx => ?_)
  exact ite_wf hx (stnUpd_wf (when_wf (fun _ => stnDrop_wf) hx))

theorem execStationLstart_wf {f : FoldFrame} {s : State} (h : s.wf) :
    Yields (execStationLstart f s) State.wf := by
  refine next_wf (stnIn_wf h fun _ hx => ?_)
  extract_lets _ _ _ ack
  have hack : ∀ (y : State) (code : Nat), y.wf → (ack y code).wf := fun _ _ => stnSend_wf
  split
  · exact hx
  · split
    · exact hack _ _ hx
    · split
      · exact hack _ _ hx
      · next m e =>
        have hm : regWf m = true := regWf_stnBank hx.2.2 e
        exact hack _ _ (fieldReload_wf (record_wf (stnUpd_wf (record_wf ⟨hx.1, hx.2.1, hm⟩))))

/-! ### An idle block -/

theorem State.trainTick_wf {s : State} (h : s.wf) : s.trainTick.wf := h

theorem State.tick_wf {s : State} (h : s.wf) : s.tick.wf := ite_wf h (trainTick_wf h)

theorem State.popped_wf {s : State} {rest : List Instr} (h : s.wf) : (s.popped rest).wf := h

/-! ### Every step -/

/-- Every command goes on, and keeps the canonical forms. -/
theorem exec_wf (c : Instr) {s : State} (h : s.wf) : Yields (exec c s) State.wf := by
  cases c with
  | registerWrite => exact next_wf (ite_wf (hubPresent_wf h) (answer_wf _ h))
  | wearFlashRetryTick => exact next_wf (retryWear_wf h)
  | plannedDrainExpiry => exact execPlannedDrainExpiry_wf h
  | supplyMonitorTrip => exact execSupplyMonitorTrip_wf h
  | supplyMonitorRelease => exact execSupplyMonitorRelease_wf h
  | overvoltageEvent => exact execOvervoltageEvent_wf h
  | coreWarn | vbkLow => exact next_wf (record_wf (raise_wf _ h))
  | bkupChangeover => exact next_wf (ite_wf h (toVbk_wf h))
  | powerGood => exact next_wf (when_wf (fun _ => powerGood_wf) h)
  | paddockPowerGood => exact execPaddockPowerGood_wf h
  | paddockPowerTimeout => exact execPaddockPowerTimeout_wf h
  | fieldDiePowerOn => exact next_wf (fieldStart_wf h)
  | rtcTick => exact next_wf (ite_wf h h)
  | pwrReqSwitchOff => exact next_wf (reqOff_wf h)
  | pwrReqCancel => exact next_wf (reqCancel_wf h)
  | pwrReqSwitchOn => exact next_wf (reqOn_wf h)
  | paddockReloadDone =>
    exact next_wf (ite_wf (record_wf (foldl_wf (fun _ _ => unitReload_wf) _ h)) h)
  | resetNLowFiltered => exact next_wf (assertDevice_wf h)
  | resetNLowWidened => exact next_wf (ite_wf (raise_wf _ (assertDevice_wf h)) h)
  | resetNRelease | resetStretchExpiry => exact next_wf (releaseSource_wf h)
  | debugResetCommand => exact execDebugResetCommand_wf h
  | trimCopyDone => exact execTrimCopyDone_wf h
  | swrstDeviceWarm => exact next_wf (swrstWarm_wf h)
  | swrstPaddock | swrstUnit => exact next_wf (swrstLocal_wf h)
  | localReset => exact next_wf (when_wf (fun _ hx => evalSets_wf (localBegin_wf hx)) h)
  | localResetHoldExpiry =>
    exact next_wf (ite_wf (when_wf (fun _ => fieldReload_wf) (localMap_wf h)) h)
  | localResetReloadDone =>
    exact next_wf (ite_wf (localMap_wf (foldl_wf (fun _ _ => unitReload_wf) _ h)) h)
  | hrcSettleExpiry => exact execHrcSettleExpiry_wf h
  | qualWindowEnd => exact execQualWindowEnd_wf h
  | pllLock => exact execPllLock_wf h
  | hrc1QualTimeout => exact next_wf (ite_wf (clockFault_wf h) h)
  | xtalQualTimeout => exact next_wf (ite_wf (record_wf (fset_wf _ _ (raise_wf _ h))) h)
  | monitorWindowEnd => exact execMonitorWindowEnd_wf h
  | missingEdgeTrip => exact execMissingEdgeTrip_wf h
  | hrc1RestartExpiry | ppsOutPulse | ppsOutPulseEnd | trackerEntryExpiry | macEntryAgeing
    | prpEntryExpiry | serrefReturn =>
    exact next_wf h
  | clockHoldTimeout => exact next_wf (when_wf (fun _ => clockFault_wf) h)
  | pllLockLoss => exact next_wf (ite_wf (clockFault_wf (fset_wf _ _ (lower_wf _ h))) h)
  | serrefLoss => exact execSerrefLoss_wf h
  | fieldOscMismatch => exact next_wf (when_wf (fun _ => fieldTimeout_wf) h)
  | disciplineStep => exact execDisciplineStep_wf h
  | clkGateOpen | clkGateClose => exact next_wf (gateWrite_wf h)
  | busQuietHandshake => exact next_wf (ite_wf (fset_wf _ _ (lower_wf _ (lower_wf _ h))) h)
  | gateCloseTimeout => exact next_wf (ite_wf (fset_wf _ _ (lower_wf _ h)) h)
  | gateOpenEffect => exact execGateOpenEffect_wf h
  | clkOutcfgWrite => exact next_wf (writeOutcfg_wf h)
  | hubRequest => exact execHubRequest_wf h
  | targetResponseTimeout => exact execTargetResponseTimeout_wf h
  | postedWriteCreditReturn => exact next_wf (setCredits_wf h)
  | scrubStep => exact execScrubStep_wf h
  | columnRepairRowCopy => exact execColumnRepairRowCopy_wf h
  | xspiWindowRead => exact next_wf (xspiRead_wf h)
  | xspiReadTimeout => exact next_wf (failOldest_wf h)
  | startupFlashReadTimeout => exact next_wf (ite_wf (ite_wf (fset_wf _ _ (raise_wf _ h)) h) h)
  | slotSelection => exact next_wf (inPhase_wf h (fun _ hx => selectSlot_wf (flashAnswered_wf hx)))
  | memoryInitSelftest => exact execMemoryInitSelftest_wf h
  | sectionLoad => exact execSectionLoad_wf h
  | engineReload => exact execEngineReload_wf h
  | fieldReloadAck => exact next_wf (when_wf (fun _ => fieldAck_wf) h)
  | startupChecks => exact execStartupChecks_wf h
  | shadowLoadStart => exact next_wf (sloadStart_wf h)
  | shadowLoadAbort => exact next_wf (sloadAbort_wf h)
  | shadowLoadDone => exact execShadowLoadDone_wf h
  | cfgSwapArm => exact next_wf (cfgSwap_wf h)
  | cfgSwapConfirm => exact next_wf (cfgConfirm_wf h)
  | bootLockSet => exact next_wf (answer_wf _ (raise_wf _ h))
  | shepherdTransaction => exact execShepherdTransaction_wf h
  | votingWindowClose => exact next_wf (releaseAll_wf (judge_wf h))
  | verdictExchange => exact execVerdictExchange_wf h
  | verdictExchangeTimeout => exact execVerdictExchangeTimeout_wf h
  | replicatedReadResponse => exact execReplicatedReadResponse_wf h
  | reintegrationSelftestDone => exact execReintegrationSelftestDone_wf h
  | substitutionSelftestDone => exact execSubstitutionSelftestDone_wf h
  | reserveSelftestFail => exact next_wf (ite_wf (raise_wf _ (reserveGone_wf (retireCore_wf h))) h)
  | runtimeInjectionFlagged =>
    exact next_wf (ite_wf h (ite_wf (tryCommit_wf (record_wf (fset_wf _ _ h))) (voterFault_wf h)))
  | add | sub | mul | mulh | mulhu | adds | subs | muls | addsu | subsu | neg | negs | abs
    | abss | min | max | minu | maxu | limit | addi | and | or | xor | andn | orn | xnor | not
    | shl | shr | sar | rol | ror | clz | ctz | popc | bset | bclr | btst | bext | bins | andi
    | ori | xori | lui | cmp | tst | cmpi | cmpiu | fadd | fsub | fmul | fdiv | fsqrt | fma
    | fmin | fmax | fabs | fneg | fcmp | fclass | cvtIf | cvtUf | cvtSd | cvtDs | qget | qput
    | qand | getc | nop =>
    exact next_wf (instrLane_wf h)
  | div | divu | rem | remu => exact next_wf (divide_wf h)
  | shli | shri | sari | rori => exact next_wf (shiftImm_wf h)
  | set | sel => exact next_wf (instrCond_wf h (fun _ _ _ => updLane_wf _ _))
  | br => exact execBr_wf h
  | call => exact next_wf (instr_wf h (fun _ _ hx => jump_wf (updLane_wf _ _ hx)))
  | callFb | callrFb => exact next_wf (instr_wf h (fun _ _ => callFb_wf))
  | jmpr | ret => exact next_wf (instr_wf h (fun _ _ => transfer_wf))
  | callr => exact execCallr_wf h
  | retFb => exact execRetFb_wf h
  | retTrap => exact execRetTrap_wf h
  | chk => exact execChk_wf h
  | sext | zext => exact next_wf (sized_wf h (fun _ _ _ => updLane_wf _ _))
  | cvtFi | cvtFu | truncFi | truncFu => exact next_wf (toInt_wf h)
  | nrw => exact execNrw_wf h
  | nrwu => exact execNrwu_wf h
  | bcd2i => exact execBcd2i_wf h
  | i2bcd => exact execI2bcd_wf h
  | ldi | ldiu | ldc | ldcu => exact next_wf (instr_wf h (fun _ _ => loadTo_wf))
  | sti => exact next_wf (instr_wf h (fun _ _ => localStore_wf))
  | ld => exact next_wf (instr_wf h (fun _ _ => genLoad_wf))
  | ldu => exact execLdu_wf h
  | st => exact execSt_wf h
  | ton | tof | tp => exact next_wf (timer_wf h)
  | tet => exact next_wf (withSlot_wf h (fun _ _ _ => updLane_wf _ _))
  | trst => exact next_wf (withSlot_wf h (fun _ _ _ hx => updLane_wf _ _ (slotPut_wf hx)))
  | rTrig | fTrig => exact next_wf (edge_wf h)
  | inItem | inItemS => exact next_wf (inRead_wf h)
  | outItem => exact execOutItem_wf h
  | send => exact execSend_wf h
  | recv => exact next_wf (instr_wf h (fun _ _ => readSend_wf))
  | sysopMode | sysopSafe | sysopEvent => exact next_wf (instr_wf h (fun _ _ => sysop_wf))
  | endUnit => exact next_wf (instr_wf h (fun _ _ => endBegin_wf))
  | endCommitWaitDone => exact execEndCommitWaitDone_wf h
  | mfs => exact execMfs_wf h
  | mts => exact execMts_wf h
  | cycleBoundary =>
    exact next_wf (when_wf (fun _ hx => ite_wf (fset_wf _ _ hx) (boundaryBegin_wf hx)) h)
  | soloLateHalt =>
    exact next_wf (ite_wf (tryCommit_wf (raise_wf _ (raise_wf _ (updLane_wf _ _ h)))) h)
  | sheepdogTrip => exact next_wf (when_wf (fun _ hx => assertDevice_wf (safeEnter_wf hx)) h)
  | trialTimerExpiry =>
    exact next_wf (ite_wf (when_wf (fun _ => raise_wf _) (armSwap_wf (lower_wf _ h))) h)
  | refreshSendTick => exact next_wf (when_wf (fun _ => linkSend_wf _) h)
  | fieldResetFrame => exact execFieldResetFrame_wf h
  | fieldLoadFrame => exact execFieldLoadFrame_wf h
  | fieldCommitFrame => exact execFieldCommitFrame_wf h
  | fieldRefreshFrame => exact execFieldRefreshFrame_wf h
  | fieldSafeFrame => exact execFieldSafeFrame_wf h
  | fieldLinkTimeout => exact next_wf (fieldTimeout_wf h)
  | statusFrameTick => exact next_wf (ite_wf (record_wf (driftAll_wf h)) h)
  | statusFrameReceived => exact execStatusFrameReceived_wf h
  | barrierLinkFailure => exact next_wf (when_wf (fun _ => linkFailure_wf) h)
  | inputFilterSample | frontEndTest | outputOvertemp | outputOpenLoad | outputRetryExpiry
    | segmentHandoverExpiry | outputTestPulse | outputTestPulseEnd | brakeLoopDemandMet
    | blHsSenseHigh | blHsSenseTimeout | blLsSenseHigh | blLsSenseLow | blLsSenseTimeout
    | brakeLoopTestPulse | brakeLoopTestEnd =>
    exact next_wf (fdUpd_wf h)
  | outputShort => exact next_wf (when_wf (fun _ => fdUpd_wf) h)
  | sdClockWindow => exact execSdClockWindow_wf h
  | sdClockMissing => exact next_wf (ite_wf (sigClkBad_wf h) h)
  | sdBitstreamStuck => exact next_wf (ite_wf (raise_wf _ (when_wf (fun _ => sigEvt_wf) h)) h)
  | sinc3Output => exact next_wf (ite_wf (sigQueue_wf (sigBits_wf h)) h)
  | engineSlot => exact next_wf (ite_wf h (ite_wf (sigGroupWrite_wf (sigRun_wf (sigUpd_wf h))) h))
  | sigCmdRestart => exact next_wf (ite_wf (answer_wf _ h) (answer_wf _ (sigRestartMask_wf h)))
  | sigCmdSync =>
    exact next_wf (ite_wf (answer_wf _ h) (answer_wf _ (when_wf (fun _ => sigSync_wf) h)))
  | syncDfEdge => exact next_wf (ite_wf (sigSync_wf h) h)
  | scsConversionStart => exact execScsConversionStart_wf h
  | scsConversionDone => exact next_wf (ite_wf (sigUpd_wf (sigQueue_wf (sigBits_wf h))) h)
  | switchFrameReceived => exact execSwitchFrameReceived_wf h
  | switchEgressTransmit => exact execSwitchEgressTransmit_wf h
  | mdioAccess => exact next_wf (ite_wf (answer_wf _ h) (answer_wf _ (mdioWrite_wf h)))
  | mdioAccessDone =>
    exact next_wf (ite_wf h (raise_wf _ (lower_wf _ (when_wf (fun _ => fset_wf _ _) h))))
  | prpSupervisionTick => exact next_wf (ite_wf (record_wf (prpSend_wf h)) h)
  | arpRequestReceived => exact next_wf (ite_wf (netSend_wf (arpLearn_wf h)) h)
  | arpCacheRefresh | icmpEchoRequest | igmpQueryReceived => exact next_wf (ite_wf (netSend_wf h) h)
  | ipReassemblyTimeout => exact next_wf (pdeUpd_wf h)
  | pdPublishInstant => exact execPdPublishInstant_wf h
  | pdFrameReceived => exact execPdFrameReceived_wf h
  | pdSessionTimeout => exact execPdSessionTimeout_wf h
  | dualWindowClose => exact execDualWindowClose_wf h
  | directoryCommit => exact next_wf (ite_wf (answer_wf _ h) (dirCommand_wf h))
  | directoryCopyDone => exact next_wf (ite_wf (dirCopied_wf h) h)
  | mdMessageReceived => exact execMdMessageReceived_wf h
  | mdReplyTimeout => exact next_wf (ite_wf (mdTimeout_wf h) h)
  | ptpSyncReceived => exact next_wf (ite_wf h (ite_wf (timUpd_wf h) (timSynced_wf h)))
  | ptpFollowUpReceived => exact execPtpFollowUpReceived_wf h
  | ptpDelayReqSend => exact execPtpDelayReqSend_wf h
  | ptpDelayRespReceived => exact execPtpDelayRespReceived_wf h
  | ptpPdelayReqReceived => exact next_wf (ite_wf h (ite_wf (netSend_wf h) (netSend_wf h)))
  | ptpPdelayRespReceived => exact execPtpPdelayRespReceived_wf h
  | ptpPdelayRespFollowUp => exact execPtpPdelayRespFollowUp_wf h
  | ptpAnnounceReceived => exact next_wf (ite_wf (timSelect_wf (timUpd_wf h)) h)
  | announceReceiptTimeout => exact execAnnounceReceiptTimeout_wf h
  | ppsInEdge => exact execPpsInEdge_wf h
  | ppsInMissing => exact next_wf (ite_wf (raise_wf _ (timHold_wf h)) h)
  | holdoverExpiry => exact next_wf (ite_wf (raise_wf _ (timTo_wf h)) h)
  | timAcceptJump | timSecsetApply => exact next_wf (ite_wf (answer_wf _ h) (timCommand_wf h))
  | canBusIntegration => exact execCanBusIntegration_wf h
  | canFrameReceived => exact next_wf (ite_wf h (ite_wf h (canReceive_wf (canRecDown_wf h))))
  | canStartOfFrame => exact execCanStartOfFrame_wf h
  | canTransmissionEnd => exact execCanTransmissionEnd_wf h
  | canError => exact next_wf (ite_wf (canError_wf h) h)
  | canRecover => exact next_wf (canCmd_wf h)
  | canRecoveryDone => exact execCanRecoveryDone_wf h
  | canTxCancel => exact next_wf (ite_wf (canCancels_wf h) (answer_wf _ h))
  | canFifoAck => exact next_wf (ite_wf (canAck_wf h) (answer_wf _ h))
  | droveCycleStart => exact next_wf (ite_wf (drvCycleStart_wf h) h)
  | droveRefSend => exact execDroveRefSend_wf h
  | droveColdSend => exact next_wf (ite_wf (drvCold_wf h) h)
  | droveSlotBufferCopy => exact execDroveSlotBufferCopy_wf h
  | droveSlotTransmit => exact next_wf (ite_wf h (ite_wf (drvBlock_wf h) (drvSend_wf h)))
  | droveDataFrameReceived => exact next_wf (ite_wf (drvData_wf h) h)
  | droveRefReceived | droveColdReceived => exact next_wf (ite_wf (drvRefIn_wf h) h)
  | droveListenTimeout =>
    exact next_wf (ite_wf h (drvCold_wf (drvUpd_wf _ _ (fset_wf _ _ (raise_wf _ (drvTo_wf h))))))
  | droveReadbackMismatch => exact next_wf (ite_wf (drvMismatch_wf h) h)
  | crookBlock => exact next_wf (ite_wf (drvBlock_wf h) h)
  | crookColdstartWindow => exact next_wf (ite_wf h (drvUpd_wf _ _ h))
  | drvCmdPassive | drvCmdResume => exact next_wf (drvKeyed_wf h)
  | foldRingSyncLoss => exact next_wf (ite_wf (raise_wf _ (lower_wf _ h)) h)
  | foldFrameForward => exact execFoldFrameForward_wf h
  | foldTagFreed => exact next_wf (ite_wf (fetchPump_wf (tagFreed_wf (fstUpd_wf _ _ h))) h)
  | foldRspReceived => exact execFoldRspReceived_wf h
  | foldReadTimeout => exact execFoldReadTimeout_wf h
  | foldWackReceived | foldMsgReceived => exact next_wf (foldIn_wf h (fun _ => fstUpd_wf _ _))
  | foldWerrReceived => exact next_wf (foldIn_wf h (fun _ => writeErr_wf))
  | foldWriteAckTimeout => exact next_wf (writeErr_wf h)
  | foldSupTick => exact execFoldSupTick_wf h
  | foldSupReturned => exact execFoldSupReturned_wf h
  | foldScanTick => exact execFoldScanTick_wf h
  | foldImginReceived => exact next_wf (foldIn_wf h (fun _ hx => ite_wf hx (fstUpd_wf _ _ hx)))
  | foldEnumeration => exact next_wf (ite_wf h (enumq_wf (flkUpd_wf h)))
  | foldEnumqReturned => exact execFoldEnumqReturned_wf h
  | foldStationLoad => exact execFoldStationLoad_wf h
  | foldLackReceived => exact execFoldLackReceived_wf h
  | foldLackTimeout => exact execFoldLackTimeout_wf h
  | flkLdcmdAbort | flkLdcmdReload => exact next_wf (ldCmd_wf h)
  | flkLelpop => exact next_wf (ite_wf (answer_wf _ h) (lelPop_wf h))
  | flkDegclr => exact next_wf (ite_wf (answer_wf _ h) (degClr_wf h))
  | flkSemAcquire => exact execFlkSemAcquire_wf h
  | flkSemRelease => exact next_wf (ite_wf (answer_wf _ h) (fetchPump_wf (semWrite_wf h)))
  | flkSemExpiry => exact next_wf (ite_wf (fetchPump_wf (raise_wf _ (semFree_wf h))) h)
  | stationRd | stationImgrd => exact next_wf (stnIn_wf h (fun _ => stnSend_wf))
  | stationWr => exact execStationWr_wf h
  | stationImgout =>
    exact next_wf (stnIn_wf h (fun _ hx => ite_wf hx (linkSend_wf _ (record_wf (stnUpd_wf hx)))))
  | stationSup | stationEnumq => exact next_wf (stnIn_wf h (fun _ => stnPass_wf))
  | stationEnumset => exact next_wf (stnIn_wf h (fun _ hx => ite_wf (stnUpd_wf hx) hx))
  | stationLdata => exact execStationLdata_wf h
  | stationLstart => exact execStationLstart_wf h
  | stationWatchdogExpiry => exact next_wf (ite_wf (linkSend_wf _ (stnUpd_wf h)) h)
  | heartbeatTick => exact execHeartbeatTick_wf h
  | heartbeatRecordReceived => exact next_wf (pairReceive_wf h)
  | partnerLinkTimeout => exact next_wf (pairJudgeWith_wf h)
  | flashOpStart => exact execFlashOpStart_wf h
  | flashOpComplete => exact execFlashOpComplete_wf h
  | updOpen => exact next_wf (updKey_wf h (fun _ => updOpen_wf))
  | updWrite => exact next_wf (updKey_wf h (fun _ => updWrite_wf))
  | updFetch => exact next_wf (updKey_wf h (fun _ => updFetch_wf))
  | updClose => exact next_wf (updKey_wf h (fun _ => updClose_wf))
  | updArm => exact next_wf (updKey_wf h (fun _ => updArm_wf))
  | updDisarm => exact next_wf (updKey_wf h (fun _ hx => updDisarm_wf (answer_wf _ hx)))
  | updAbort => exact next_wf (updKey_wf h (fun _ => updAbort_wf))
  | updSetwrite => exact next_wf (updKey_wf h (fun _ => updSetwrite_wf))
  | activationHeaderProgrammed => exact execActivationHeaderProgrammed_wf h
  | recorderEnvSample => exact execRecorderEnvSample_wf h
  | recorderSnapshotPeriod => exact next_wf (ite_wf h (recSnapshot_wf h))
  | recCmdSnap | recCmdErase => exact next_wf (recCmd_wf h)
  | foldRingSyncGain => exact next_wf (ite_wf (raise_wf _ h) h)
  | ethLinkChange =>
    exact next_wf (ite_wf (when_wf (fun _ => raise_wf _) (fset_wf _ _ (fset_wf _ _ h))) h)
  | debugResetRelease => exact next_wf (releaseSource_wf (localReleased_wf h))
  | rstOutMinLowExpiry => exact next_wf (ite_wf (ite_wf (releaseEnd_wf h) h) h)

/-- Settles O58: one nanosecond of an idle block changes none of the three maps, and a command that
is taken from the queue goes on and keeps their canonical forms. -/
theorem stepsKeepCanonicalForms : Obligations.StepsKeepCanonicalForms := by
  intro s h
  cases hp : s.pending with
  | nil => exact ⟨s.tick, by rw [step, hp], tick_wf h⟩
  | cons c rest =>
    rw [step, hp]
    exact exec_wf c (popped_wf h)

end Sys2Proof.Machine

namespace Sys2Proof.Machine

open Sys2Proof.Claims State

/-! ### SAFE_OUT_N: what its level rests on -/

/-- What the claim about SAFE_OUT_N reads of a state: is the device safe state in force, is an
episode of device reach in progress, and the level of the ball. -/
def State.safeView (s : State) : Bool × Bool × Bool :=
  (s.rst.safe.isSome, s.rst.active, s.pins.safeOut)

@[simp] theorem State.record_safeView {pending regs mem flash phys board pins bkup pwr rst clk memx
    wear flc boot laneA laneB laneC triad cyc now fd link sig sigAt clkOut sigSlot eth pde tim can
    drv flk station pair recd upd resp rdata rtag reff freeCtr} :
    State.safeView
      { pending, regs, mem, flash, phys, board, pins, bkup, pwr, rst, clk, memx, wear, flc, boot
        laneA, laneB, laneC, triad, cyc, now, fd, link, sig, sigAt, clkOut, sigSlot, eth, pde
        tim, can, drv, flk, station, pair, recd, upd, resp, rdata, rtag, reff, freeCtr }
      = (rst.safe.isSome, rst.active, pins.safeOut) := (rfl)

/-- The normal form of the three values is `State.safeView`. -/
@[simp] theorem State.safeView_def (s : State) :
    (s.rst.safe.isSome, s.rst.active, s.pins.safeOut) = s.safeView := (rfl)

theorem State.safeView_congr {a b : State} (hs : a.rst.safe.isSome = b.rst.safe.isSome)
    (ha : a.rst.active = b.rst.active) (hp : a.pins.safeOut = b.pins.safeOut) :
    a.safeView = b.safeView := by
  simp only [State.safeView, hs, ha, hp]

@[simp] theorem State.ite_safeView (c : Prop) [Decidable c] (a b : State) :
    (if c then a else b).safeView = if c then a.safeView else b.safeView := apply_ite _ _ _ _

@[simp] theorem State.ite_fst_safeView {α : Type} (c : Prop) [Decidable c] (a b : State × α) :
    (if c then a else b).1.safeView = if c then a.1.safeView else b.1.safeView := by
  split <;> rfl

@[simp] theorem State.foldl_safeView {β : Type} {f : State → β → State}
    (h : ∀ x b, (f x b).safeView = x.safeView) (l : List β) (s : State) :
    (l.foldl f s).safeView = s.safeView := by
  induction l generalizing s with
  | nil => rfl
  | cons b l ih => rw [List.foldl_cons, ih, h]

@[simp] theorem State.foldl_fst_safeView {α β : Type} {f : State × α → β → State × α}
    (h : ∀ x b, (f x b).1.safeView = x.1.safeView) (l : List β) (s : State × α) :
    (l.foldl f s).1.safeView = s.1.safeView := by
  induction l generalizing s with
  | nil => rfl
  | cons b l ih => rw [List.foldl_cons, ih, h]

@[simp] theorem State.when_safeView (s : State) (b : Bool) {f : State → State}
    (h : ∀ x, (f x).safeView = x.safeView) : (s.when b f).safeView = s.safeView := by
  cases b
  · rfl
  · exact h s

/-- What a command's answer shows of its next state, where it has one. -/
def outView : Out → Option (Bool × Bool × Bool)
  | .next t => some t.safeView
  | _ => none

@[simp] theorem outView_next (t : State) : outView (.next t) = some t.safeView := rfl
@[simp] theorem outView_ite (c : Prop) [Decidable c] (a b : Out) :
    outView (if c then a else b) = if c then outView a else outView b := apply_ite _ _ _ _


@[simp] theorem State.fset_safeView (s : State) (f : Fld) (v : Nat) :
    (s.fset f v).safeView = s.safeView := by simp [State.fset]

@[simp] theorem State.raise_safeView (s : State) (f : Fld) :
    (s.raise f).safeView = s.safeView := by simp [State.raise]

@[simp] theorem State.lower_safeView (s : State) (f : Fld) :
    (s.lower f).safeView = s.safeView := by simp [State.lower]

@[simp] theorem State.show_safeView (s : State) (f : Fld) (b : Bool) :
    (s.show f b).safeView = s.safeView := by simp [State.show]

@[simp] theorem State.bumpBy_safeView (s : State) (f : Fld) (n : Nat) :
    (s.bumpBy f n).safeView = s.safeView := by simp [State.bumpBy]

@[simp] theorem State.bump_safeView (s : State) (f : Fld) :
    (s.bump f).safeView = s.safeView := by simp [State.bump]

@[simp] theorem State.setReg_safeView (s : State) (a : Nat) (v : Word) :
    (s.setReg a v).safeView = s.safeView := by simp [State.setReg]

@[simp] theorem State.count_safeView (s : State) (c : Nat) :
    (s.count c).safeView = s.safeView := by simp [State.count]

@[simp] theorem State.answer_safeView (s : State) (r : Resp) :
    (s.answer r).safeView = s.safeView := by simp [State.answer]

@[simp] theorem State.answerData_safeView (s : State) (d : BitVec 256) :
    (s.answerData d).safeView = s.safeView := by simp [State.answerData]

@[simp] theorem State.free_safeView (s : State) :
    s.free.2.safeView = s.safeView := by simp [State.free]

@[simp] theorem State.setLane_safeView (s : State) (l : LaneId) (x : Lane) :
    (s.setLane l x).safeView = s.safeView := by
  unfold State.setLane
  split <;> simp

@[simp] theorem State.updLane_safeView (s : State) (l : LaneId) (f : Lane → Lane) :
    (s.updLane l f).safeView = s.safeView := by simp [State.updLane]

@[simp] theorem State.memPut_safeView (s : State) (k : Nat) (bs : List Byte) :
    (s.memPut k bs).safeView = s.safeView := by simp [State.memPut]

@[simp] theorem State.memPutLe_safeView (s : State) (k n v : Nat) :
    (s.memPutLe k n v).safeView = s.safeView := by simp [State.memPutLe]

@[simp] theorem State.memClear_safeView (s : State) (k n : Nat) :
    (s.memClear k n).safeView = s.safeView := by simp [State.memClear]

@[simp] theorem State.flashProgram_safeView (s : State) (a : Nat) (bs : List Byte) :
    (s.flashProgram a bs).safeView = s.safeView := by simp [State.flashProgram]

@[simp] theorem State.flashErase_safeView (s : State) (a : Nat) :
    (s.flashErase a).safeView = s.safeView := by simp [State.flashErase]

@[simp] theorem State.hubReply_safeView (s : State) (i : HubItem) (code : Nat) (effect : Bool)
    (data : Nat) :
    (s.hubReply i code effect data).safeView = s.safeView := by
  simp [State.hubReply]

@[simp] theorem State.fetchGot_safeView (s : State) (k code : Nat) (data : DWord) :
    (s.fetchGot k code data).safeView = s.safeView := by
  unfold State.fetchGot
  split <;> simp

@[simp] theorem State.replyNat_safeView (s : State) (i : HubItem) (code : Nat) (effect : Bool)
    (data : Nat) :
    (s.replyNat i code effect data).safeView = s.safeView := by
  simp [State.replyNat]

@[simp] theorem State.reply_safeView (s : State) (i : HubItem) (code : Nat) (effect : Bool)
    (data : DWord) :
    (s.reply i code effect data).safeView = s.safeView := by
  simp [State.reply]

@[simp] theorem State.pairHold_safeView (s : State) (b : Nat) (held : Bool) :
    (s.pairHold b held).safeView = s.safeView := by simp [State.pairHold]

@[simp] theorem State.setUpsets_safeView (s : State) (key : Nat) (bits : List Nat) :
    (s.setUpsets key bits).safeView = s.safeView := by simp [State.setUpsets]

@[simp] theorem State.flipBits_safeView (s : State) (bk : Bank) (word : Nat) (bits : List Nat) :
    (s.flipBits bk word bits).safeView = s.safeView := by simp [State.flipBits]

@[simp] theorem State.trackRow_safeView (s : State) (b row : Nat) :
    (s.trackRow b row).safeView = s.safeView := by
  unfold State.trackRow
  split
  · simp
  · dsimp only
    split
    · simp
    · split <;> simp

@[simp] theorem State.trackBit_safeView (s : State) (b row bit : Nat) :
    (s.trackBit b row bit).safeView = s.safeView := by simp [State.trackBit]

@[simp] theorem State.recordCe_safeView (s : State) (bk : Bank) (off : Nat) (bits : List Nat) :
    (s.recordCe bk off bits).safeView = s.safeView := by simp [State.recordCe]

@[simp] theorem State.recordUe_safeView (s : State) (bk : Bank) (off src : Nat) :
    (s.recordUe bk off src).safeView = s.safeView := by simp [State.recordUe]

@[simp] theorem State.poisonWord_safeView (s : State) (bk : Bank) (off : Nat) :
    (s.poisonWord bk off).safeView = s.safeView := by
  unfold State.poisonWord
  split <;> simp

@[simp] theorem State.wordRead_safeView (s : State) (bk : Bank) (off src : Nat) :
    (s.wordRead bk off src).1.safeView = s.safeView := by
  unfold State.wordRead
  split
  · simp
  · split <;> simp

@[simp] theorem State.wordScrub_safeView (s : State) (bk : Bank) (off src : Nat) :
    (s.wordScrub bk off src).safeView = s.safeView := by
  unfold State.wordScrub
  split
  · dsimp only
    split <;> simp
  · dsimp only
    split <;> simp

@[simp] theorem State.rowCopy_safeView (s : State) (bk : Bank) (row : Nat) :
    (s.rowCopy bk row).safeView = s.safeView := by simp [State.rowCopy]

@[simp] theorem State.bankBytes_safeView (s : State) (bk : Bank) (off n src : Nat) :
    (s.bankBytes bk off n src).1.safeView = s.safeView := by simp [State.bankBytes]

@[simp] theorem State.wordStore_safeView (s : State) (bk : Bank) (off n v src : Nat) :
    (s.wordStore bk off n v src).1.safeView = s.safeView := by
  unfold State.wordStore
  split
  · simp
  · dsimp only
    split <;> simp

@[simp] theorem State.bankPut_safeView (s : State) (bk : Bank) (off src : Nat) (bs : List Byte) :
    (s.bankPut bk off src bs).safeView = s.safeView := by simp [State.bankPut]

@[simp] theorem State.engineRead_safeView (s : State) (a n : Nat) :
    (s.engineRead a n).1.safeView = s.safeView := by
  unfold State.engineRead
  split <;> simp

@[simp] theorem State.burstPut_safeView (s : State) (a : Nat) (bs : List Byte) :
    (s.burstPut a bs).safeView = s.safeView := by
  unfold State.burstPut
  split <;> simp

@[simp] theorem State.burstPutLe_safeView (s : State) (a n v : Nat) :
    (s.burstPutLe a n v).safeView = s.safeView := by simp [State.burstPutLe]

@[simp] theorem State.privPut_safeView (s : State) (k : CoreId) (a : Nat) (bs : List Byte) :
    (s.privPut k a bs).safeView = s.safeView := by simp [State.privPut]

@[simp] theorem State.privSeen_safeView (s : State) (k : CoreId) (a : Nat) :
    (s.privSeen k a).safeView = s.safeView := by simp [State.privSeen]

@[simp] theorem State.flashQueue_safeView (s : State) (op : FlashOp) :
    (s.flashQueue op).safeView = s.safeView := by simp [State.flashQueue]

@[simp] theorem State.programWord_safeView (s : State) (b : Bool) (o : Nat) (ok : Bool) :
    (s.programWord b o ok).safeView = s.safeView := by simp [State.programWord]

@[simp] theorem State.retainWear_safeView (s : State) (e : WearE) :
    (s.retainWear e).safeView = s.safeView := by simp [State.retainWear]

@[simp] theorem State.pendWearFlash_safeView (s : State) (e : WearE) :
    (s.pendWearFlash e).safeView = s.safeView := by simp [State.pendWearFlash]

@[simp] theorem State.wearLog_safeView (s : State) (kind unit detail : Nat) :
    (s.wearLog kind unit detail).safeView = s.safeView := by simp [State.wearLog]

@[simp] theorem State.spareExhausted_safeView (s : State) (kind : Nat) :
    (s.spareExhausted kind).safeView = s.safeView := by simp [State.spareExhausted]

@[simp] theorem State.strayRecord_safeView (s : State) (core lane cause : Nat) :
    (s.strayRecord core lane cause).safeView = s.safeView := by simp [State.strayRecord]

@[simp] theorem State.retryWear_safeView (s : State) :
    s.retryWear.safeView = s.safeView := by simp [State.retryWear]

@[simp] theorem State.binAdd_safeView (s : State) (f : Fld) :
    (s.binAdd f).safeView = s.safeView := by simp [State.binAdd]

@[simp] theorem State.histAdd_safeView (s : State) (h i : Nat) :
    (s.histAdd h i).safeView = s.safeView := by simp [State.histAdd]

@[simp] theorem State.lateAdd_safeView (s : State) (ns : Nat) :
    (s.lateAdd ns).safeView = s.safeView := by simp [State.lateAdd]

@[simp] theorem State.extSet_safeView (s : State) (e v aux : Nat) :
    (s.extSet e v aux).safeView = s.safeView := by
  unfold State.extSet
  simp only [State.fset_safeView]

@[simp] theorem State.extMax_safeView (s : State) (e : Nat) (v : Int) (aux : Nat) :
    (s.extMax e v aux).safeView = s.safeView := by simp [State.extMax]

@[simp] theorem State.extMin_safeView (s : State) (e : Nat) (v : Int) :
    (s.extMin e v).safeView = s.safeView := by simp [State.extMin]

@[simp] theorem State.ringAdd_safeView (s : State) (op : Nat) :
    (s.ringAdd op).safeView = s.safeView := by simp [State.ringAdd]

@[simp] theorem State.recSnapshot_safeView (s : State) (trig : Nat) :
    (s.recSnapshot trig).safeView = s.safeView := by simp [State.recSnapshot]

@[simp] theorem State.regsFrom_safeView (s : State) (a : Nat) (b : List Byte) (o n : Nat) :
    (s.regsFrom a b o n).safeView = s.safeView := by
  induction n generalizing s a o with
  | zero => rfl
  | succ n ih => simp [State.regsFrom, ih]

@[simp] theorem State.recRestore_safeView (s : State) : s.recRestore.safeView = s.safeView := by
  unfold State.recRestore
  split
  · simp
  · extract_lets sc s1 s2 _ env
    have h2 : s2.safeView = s.safeView := by simp [s2, s1]
    have henv (h : Nat) (x : State) : (env h x).safeView = x.safeView := by
      unfold env
      split <;> simp
    clear_value s2 env
    split
    · exact h2
    · simp [henv, h2]

@[simp] theorem State.sigUpd_safeView (s : State) (n : Nat) (f : SigCh → SigCh) :
    (s.sigUpd n f).safeView = s.safeView := by simp [State.sigUpd]

@[simp] theorem State.sigEvt_safeView (s : State) (n : Nat) (f : Fld) :
    (s.sigEvt n f).safeView = s.safeView := by simp [State.sigEvt]

@[simp] theorem State.sigRestart_safeView (s : State) (n : Nat) :
    (s.sigRestart n).safeView = s.safeView := by simp [State.sigRestart]

@[simp] theorem State.sigRestartAll_safeView (s : State) :
    s.sigRestartAll.safeView = s.safeView := by simp [State.sigRestartAll]

@[simp] theorem State.clkFollow_safeView (s : State) :
    s.clkFollow.safeView = s.safeView := by simp [State.clkFollow]

@[simp] theorem State.sigStart_safeView (s : State) :
    s.sigStart.safeView = s.safeView := by simp [State.sigStart]

@[simp] theorem State.sigClear_safeView (s : State) :
    s.sigClear.safeView = s.safeView := by simp [State.sigClear]

@[simp] theorem State.sigBits_safeView (s : State) (n : Nat) (bits : List Bool) :
    (s.sigBits n bits).safeView = s.safeView := by simp [State.sigBits]

@[simp] theorem State.sigQueue_safeView (s : State) (n : Nat) :
    (s.sigQueue n).safeView = s.safeView := by simp [State.sigQueue]

@[simp] theorem State.sigResult_safeView (s : State) (n : Nat) (v : Int) (sat : Bool) (inst : Nat) :
    (s.sigResult n v sat inst).safeView = s.safeView := by simp [State.sigResult]

@[simp] theorem State.sigAfter_safeView (s : State) (n : Nat) (stage : Nat) (v : Int) (sat : Bool)
    (inst : Nat) :
    (s.sigAfter n stage v sat inst).safeView = s.safeView := by
  simp [State.sigAfter]

theorem State.sigWork_safeView {s t : State} {n clk used : Nat} {w : SigWork}
    (e : s.sigWork n w clk = some (t, used)) : t.safeView = s.safeView := by
  unfold State.sigWork at e
  dsimp only at e
  split at e <;> split at e
  · cases e
  · cases e
    simp
  · split at e
    · cases e
    · cases e
      simp
  · cases e
    simp

@[simp] theorem State.sigRun_safeView (s : State) (n fuel clk : Nat) :
    (s.sigRun n fuel clk).safeView = s.safeView := by
  induction fuel generalizing s clk with
  | zero => rfl
  | succ fuel ih =>
    unfold State.sigRun
    extract_lets c
    split
    · split
      · next e => rw [ih, State.sigWork_safeView e]
      · simp
    · split
      · rfl
      · simp [ih]

@[simp] theorem State.sigGroupWrite_safeView (s : State) (n : Nat) :
    (s.sigGroupWrite n).safeView = s.safeView := by
  unfold State.sigGroupWrite
  split <;> simp

@[simp] theorem State.sigInput_safeView (s : State) :
    s.sigInput.safeView = s.safeView := by simp [State.sigInput]

@[simp] theorem State.learn_safeView (s : State) (mac vid port : Nat) :
    (s.learn mac vid port).safeView = s.safeView := by simp [State.learn]

@[simp] theorem State.cellPut_safeView (s : State) (cells : List Nat) (body : List Byte) :
    (s.cellPut cells body).safeView = s.safeView := by simp [State.cellPut]

@[simp] theorem State.cellRead_safeView (s : State) (cells : List Nat) (n : Nat) :
    (s.cellRead cells n).1.safeView = s.safeView := by simp [State.cellRead]

@[simp] theorem State.enqueue_safeView (s : State) (inPort : Nat) (prio : Nat) (flooded : Bool)
    (f : EthFrame) (port : Nat) :
    (s.enqueue inPort prio flooded f port).safeView = s.safeView := by
  simp [State.enqueue]

@[simp] theorem State.prpSend_safeView (s : State) (p prio : Nat) (flooded : Bool)
    (out : Nat → EthFrame) :
    (s.prpSend p prio flooded out).safeView = s.safeView := by
  simp [State.prpSend]

@[simp] theorem State.internal_safeView (s : State) (f : EthFrame) :
    (s.internal f).safeView = s.safeView := by
  unfold State.internal
  split <;> simp

@[simp] theorem State.forwardTo_safeView (s : State) (inPort prio ports untag : Nat)
    (flooded : Bool) (f : EthFrame) :
    (s.forwardTo inPort prio ports untag flooded f).safeView = s.safeView := by
  simp [State.forwardTo]

@[simp] theorem State.prpReceive_safeView (s : State) (port : Nat) (dualComid : Nat → Nat → Bool)
    (f : EthFrame) :
    (s.prpReceive port dualComid f).1.safeView = s.safeView := by
  unfold State.prpReceive
  split <;> simp

@[simp] theorem State.ethDrop_safeView (s : State) (port : Nat) (evt : Option Fld) :
    (s.ethDrop port evt).safeView = s.safeView := by
  unfold State.ethDrop
  split <;> simp

@[simp] theorem State.switchFrame_safeView (s : State) (port : Nat) (f : EthFrame) :
    (s.switchFrame port f).safeView = s.safeView := by
  unfold State.switchFrame
  split
  · split
    · split
      · dsimp only
        split
        · simp
        · split
          · simp
          · split <;> simp
      · dsimp only
        split
        · simp
        · split
          · simp
          · split <;> simp
    · split
      · dsimp only
        split
        · simp
        · split
          · simp
          · split <;> simp
      · dsimp only
        split
        · simp
        · split
          · simp
          · split <;> simp
  · split
    · dsimp only
      split
      · simp
      · split
        · simp
        · split <;> simp
    · dsimp only
      split
      · simp
      · split
        · simp
        · split <;> simp

@[simp] theorem State.ethClear_safeView (s : State) :
    s.ethClear.safeView = s.safeView := by simp [State.ethClear]

@[simp] theorem State.timUpd_safeView (s : State) (f : Tim → Tim) :
    (s.timUpd f).safeView = s.safeView := by simp [State.timUpd]

@[simp] theorem State.timTo_safeView (s : State) (v : Nat) :
    (s.timTo v).safeView = s.safeView := by simp [State.timTo]

@[simp] theorem State.timHold_safeView (s : State) :
    s.timHold.safeView = s.safeView := by simp [State.timHold]

@[simp] theorem State.timStep_safeView (s : State) (ns : Int) :
    (s.timStep ns).safeView = s.safeView := by simp [State.timStep]

@[simp] theorem State.timRate_safeView (s : State) :
    s.timRate.safeView = s.safeView := by simp [State.timRate]

@[simp] theorem State.timMeasure_safeView (s : State) (off : Int) (rate : Option Int) :
    (s.timMeasure off rate).safeView = s.safeView := by
  unfold State.timMeasure
  extract_lets s1 s2 w s3 st st1 b s2'
  have h1 : s1.safeView = s.safeView := by simp [s1]
  have h2 : s2.safeView = s1.safeView := by
    unfold s2
    split <;> simp
  have h3 : s3.safeView = s1.safeView := by simp [s3, h2]
  have h2' : s2'.safeView = s1.safeView := by simp [s2']
  clear_value st1 st s3 s2 s2' s1
  simp [h1, h3, h2']

@[simp] theorem State.timSelect_safeView (s : State) :
    s.timSelect.safeView = s.safeView := by
  unfold State.timSelect
  split <;> simp

@[simp] theorem State.timSynced_safeView (s : State) (port : Nat) (origin : Int) (arrival : Nat) :
    (s.timSynced port origin arrival).safeView = s.safeView := by
  unfold State.timSynced
  dsimp only
  split <;> simp

@[simp] theorem State.timClear_safeView (s : State) :
    s.timClear.safeView = s.safeView := by simp [State.timClear]

@[simp] theorem State.timCommand_safeView (s : State) (key action : Nat) :
    (s.timCommand key action).safeView = s.safeView := by simp [State.timCommand]

@[simp] theorem State.pubRead_safeView (s : State) (a n : Nat) :
    (s.pubRead a n).1.safeView = s.safeView := by
  unfold State.pubRead
  split <;> simp

@[simp] theorem State.rxPut_safeView (s : State) (a : Nat) (bs : List Byte) :
    (s.rxPut a bs).safeView = s.safeView := by simp [State.rxPut]

@[simp] theorem State.pdeUpd_safeView (s : State) (f : Pde → Pde) :
    (s.pdeUpd f).safeView = s.safeView := by simp [State.pdeUpd]

@[simp] theorem State.pdUpd_safeView (s : State) (i : Nat) (f : Sess → Sess) :
    (s.pdUpd i f).safeView = s.safeView := by simp [State.pdUpd]

@[simp] theorem State.netSend_safeView (s : State) (t : NetTx) :
    (s.netSend t).safeView = s.safeView := by simp [State.netSend]

@[simp] theorem State.mdOut_safeView (s : State) (m : MdMsg) :
    (s.mdOut m).safeView = s.safeView := by simp [State.mdOut]

@[simp] theorem State.pdShow_safeView (s : State) :
    s.pdShow.safeView = s.safeView := by simp [State.pdShow]

@[simp] theorem State.pdAfresh_safeView (s : State) (i : Nat) (addr : Option Nat) :
    (s.pdAfresh i addr).safeView = s.safeView := by simp [State.pdAfresh]

@[simp] theorem State.pdRebind_safeView (s : State) :
    s.pdRebind.safeView = s.safeView := by simp [State.pdRebind]

@[simp] theorem State.pdeStart_safeView (s : State) :
    s.pdeStart.safeView = s.safeView := by simp [State.pdeStart]

@[simp] theorem State.pdeSwap_safeView (s : State) (old : CfgSet) :
    (s.pdeSwap old).safeView = s.safeView := by simp [State.pdeSwap]

@[simp] theorem State.vscInt_safeView (s : State) (i : Nat) :
    (s.vscInt i).safeView = s.safeView := by simp [State.vscInt]

@[simp] theorem State.pdHand_safeView (s : State) (i : Nat) (q : Bool) :
    (s.pdHand i q).safeView = s.safeView := by simp [State.pdHand]

@[simp] theorem State.pdAccept_safeView (s : State) (i : Nat) (e : PdS) (f : PdFrame) :
    (s.pdAccept i e f).safeView = s.safeView := by simp [State.pdAccept]

@[simp] theorem State.pdFail_safeView (s : State) (i code : Nat) :
    (s.pdFail i code).safeView = s.safeView := by simp [State.pdFail]

@[simp] theorem State.pdLoss_safeView (s : State) (i : Nat) (firstB : Bool) :
    (s.pdLoss i firstB).safeView = s.safeView := by simp [State.pdLoss]

@[simp] theorem State.pdDual_safeView (s : State) (i : Nat) (e : PdS) (lanB : Bool) (f : PdFrame) :
    (s.pdDual i e lanB f).safeView = s.safeView := by
  unfold State.pdDual
  split <;> simp

@[simp] theorem State.pdeInput_safeView (s : State) :
    s.pdeInput.safeView = s.safeView := by simp [State.pdeInput]

@[simp] theorem State.dirCommand_safeView (s : State) (key ofs : Nat) :
    (s.dirCommand key ofs).safeView = s.safeView := by simp [State.dirCommand]

@[simp] theorem State.dirDue_safeView (s : State) :
    s.dirDue.safeView = s.safeView := by simp [State.dirDue]

@[simp] theorem State.dirCopied_safeView (s : State) :
    s.dirCopied.safeView = s.safeView := by simp [State.dirCopied]

@[simp] theorem State.dirSwitch_safeView (s : State) :
    s.dirSwitch.safeView = s.safeView := by
  unfold State.dirSwitch
  split
  · simp
  · split <;> simp

@[simp] theorem State.mdSend_safeView (s : State) (q addr len : Nat) :
    (s.mdSend q addr len).1.safeView = s.safeView := by simp [State.mdSend]

@[simp] theorem State.mdPlace_safeView (s : State) (q : Nat) (data : List Byte)
    (sender ip sess : Nat) :
    (s.mdPlace q data sender ip sess).safeView = s.safeView := by
  unfold State.mdPlace
  dsimp only
  split <;> simp

@[simp] theorem State.mdTake_safeView (s : State) (q : Nat) :
    (s.mdTake q).1.safeView = s.safeView := by
  unfold State.mdTake
  dsimp only
  split <;> simp

@[simp] theorem State.mdFree_safeView (s : State) :
    s.mdFree.safeView = s.safeView := by simp [State.mdFree]

@[simp] theorem State.mdSendData_safeView (s : State) (q : Nat) (data : List Byte) :
    (s.mdSendData q data).safeView = s.safeView := by
  unfold State.mdSendData
  split
  · dsimp only
    split
    · simp
    · split <;> simp
  · dsimp only
    split
    · simp
    · split <;> simp

@[simp] theorem State.mdSendOne_safeView (s : State) (q addr len : Nat) :
    (s.mdSendOne q addr len).safeView = s.safeView := by
  unfold State.mdSendOne
  dsimp only
  split <;> simp

@[simp] theorem State.mdSendAll_safeView (s : State) :
    s.mdSendAll.safeView = s.safeView := by simp [State.mdSendAll]

@[simp] theorem State.mdReceive_safeView (s : State) (m : MdMsg) :
    (s.mdReceive m).safeView = s.safeView := by
  unfold State.mdReceive
  split
  · split <;> simp
  · split
    · split
      · simp
      · split <;> simp
    · split
      · split <;> simp
      · simp

@[simp] theorem State.mdTimeout_safeView (s : State) (q : Nat) :
    (s.mdTimeout q).safeView = s.safeView := by
  unfold State.mdTimeout
  split <;> simp

@[simp] theorem State.canUpd_safeView (s : State) (n : Nat) (f : Can → Can) :
    (s.canUpd n f).safeView = s.safeView := by simp [State.canUpd]

@[simp] theorem State.canSetSt_safeView (s : State) (n b v : Nat) :
    (s.canSetSt n b v).safeView = s.safeView := by simp [State.canSetSt]

@[simp] theorem State.canItemUpd_safeView (s : State) (n b : Nat) (f : CanItem → CanItem) :
    (s.canItemUpd n b f).safeView = s.safeView := by simp [State.canItemUpd]

@[simp] theorem State.canStore_safeView (s : State) (n b elem : Nat) (f : CanFrame) :
    (s.canStore n b elem f).safeView = s.safeView := by simp [State.canStore]

@[simp] theorem State.canFifo_safeView (s : State) (n elem : Nat) (f : CanFrame) :
    (s.canFifo n elem f).safeView = s.safeView := by simp [State.canFifo]

@[simp] theorem State.canReceive_safeView (s : State) (n : Nat) (f : CanFrame) :
    (s.canReceive n f).safeView = s.safeView := by
  unfold State.canReceive
  split
  · simp
  · split
    · split <;> simp
    · simp

@[simp] theorem State.canHand_safeView (s : State) (n b : Nat) (content : List Byte) (q : Bool) :
    (s.canHand n b content q).safeView = s.safeView := by simp [State.canHand]

@[simp] theorem State.canDelay_safeView (s : State) (n delay : Nat) :
    (s.canDelay n delay).1.safeView = s.safeView := by simp [State.canDelay]

@[simp] theorem State.canNext_safeView (s : State) (n b : Nat) :
    (s.canNext n b).safeView = s.safeView := by
  unfold State.canNext
  split <;> simp

@[simp] theorem State.canFailed_safeView (s : State) (n b : Nat) (retry : Nat) :
    (s.canFailed n b retry).safeView = s.safeView := by simp [State.canFailed]

@[simp] theorem State.canBusOff_safeView (s : State) (n : Nat) :
    (s.canBusOff n).safeView = s.safeView := by
  unfold State.canBusOff
  dsimp only
  split <;> simp

@[simp] theorem State.canErrState_safeView (s : State) (n : Nat) :
    (s.canErrState n).safeView = s.safeView := by simp [State.canErrState]

@[simp] theorem State.canError_safeView (s : State) (n : Nat) (e : CanErr) :
    (s.canError n e).safeView = s.safeView := by
  unfold State.canError
  split
  · simp
  · split
    · simp
    · split <;> simp

@[simp] theorem State.canRecDown_safeView (s : State) (n : Nat) :
    (s.canRecDown n).safeView = s.safeView := by simp [State.canRecDown]

@[simp] theorem State.canSent_safeView (s : State) (n b : Nat) :
    (s.canSent n b).safeView = s.safeView := by simp [State.canSent]

@[simp] theorem State.canCancel_safeView (s : State) (n b : Nat) :
    (s.canCancel n b).safeView = s.safeView := by
  unfold State.canCancel
  split <;> simp

@[simp] theorem State.canStart_safeView (s : State) (n : Nat) :
    (s.canStart n).safeView = s.safeView := by simp [State.canStart]

@[simp] theorem State.canClear_safeView (s : State) (n : Nat) :
    (s.canClear n).safeView = s.safeView := by simp [State.canClear]

@[simp] theorem State.canSwap_safeView (s : State) (n : Nat) (old : RegMap) :
    (s.canSwap n old).safeView = s.safeView := by simp [State.canSwap]

@[simp] theorem State.canSafe_safeView (s : State) (n : Nat) :
    (s.canSafe n).safeView = s.safeView := by simp [State.canSafe]

@[simp] theorem State.canInput_safeView (s : State) (n : Nat) :
    (s.canInput n).safeView = s.safeView := by
  unfold State.canInput
  extract_lets base now one s1
  have hone (x : State) (p : CanBuf × Nat) : (one x p).safeView = x.safeView := by
    unfold one
    split <;> simp
  simp [s1, hone]

@[simp] theorem State.drvUpd_safeView (s : State) (n : Nat) (f : Drv → Drv) :
    (s.drvUpd n f).safeView = s.safeView := by simp [State.drvUpd]

@[simp] theorem State.drvTo_safeView (s : State) (n v : Nat) :
    (s.drvTo n v).safeView = s.safeView := by simp [State.drvTo]

@[simp] theorem State.drvReject_safeView (s : State) (n slot check : Nat) :
    (s.drvReject n slot check).safeView = s.safeView := by
  unfold State.drvReject
  split <;> simp

@[simp] theorem State.drvListen_safeView (s : State) (n : Nat) :
    (s.drvListen n).safeView = s.safeView := by simp [State.drvListen]

@[simp] theorem State.drvPassive_safeView (s : State) (n why : Nat) :
    (s.drvPassive n why).safeView = s.safeView := by simp [State.drvPassive]

@[simp] theorem State.drvActive_safeView (s : State) (n : Nat) :
    (s.drvActive n).safeView = s.safeView := by simp [State.drvActive]

@[simp] theorem State.drvBackoff_safeView (s : State) (n : Nat) :
    (s.drvBackoff n).safeView = s.safeView := by simp [State.drvBackoff]

@[simp] theorem State.drvMismatch_safeView (s : State) (n why : Nat) :
    (s.drvMismatch n why).safeView = s.safeView := by
  unfold State.drvMismatch
  split <;> simp

@[simp] theorem State.drvBlock_safeView (s : State) (n : Nat) :
    (s.drvBlock n).safeView = s.safeView := by simp [State.drvBlock]

@[simp] theorem State.drvMark_safeView (s : State) (n : Nat) (t : Int) :
    (s.drvMark n t).safeView = s.safeView := by simp [State.drvMark]

@[simp] theorem State.drvUse_safeView (s : State) (n : Nat) (r : DrvRef) (node : Nat) (memb : Nat)
    (own : Bool) :
    (s.drvUse n r node memb own).safeView = s.safeView := by
  simp [State.drvUse]

@[simp] theorem State.drvCorrect_safeView (s : State) (n : Nat) (r : DrvRef) :
    (s.drvCorrect n r).safeView = s.safeView := by simp [State.drvCorrect]

@[simp] theorem State.drvJoinRef_safeView (s : State) (n : Nat) (r : DrvRef) :
    (s.drvJoinRef n r).safeView = s.safeView := by
  unfold State.drvJoinRef
  split <;> simp

@[simp] theorem State.drvRef_safeView (s : State) (n : Nat) (f : DroveFrame) :
    (s.drvRef n f).safeView = s.safeView := by
  unfold State.drvRef
  split
  · split
    · split <;> simp
    · split <;> simp
  · split
    · split <;> simp
    · split <;> simp

@[simp] theorem State.drvRefIn_safeView (s : State) (n : Nat) (kind : Nat) (f : DroveFrame) :
    (s.drvRefIn n kind f).safeView = s.safeView := by simp [State.drvRefIn]

@[simp] theorem State.drvData_safeView (s : State) (n : Nat) (f : DroveFrame) :
    (s.drvData n f).safeView = s.safeView := by
  unfold State.drvData
  split <;> simp

@[simp] theorem State.drvHand_safeView (s : State) (n k : Nat) (q : Bool) :
    (s.drvHand n k q).safeView = s.safeView := by simp [State.drvHand]

@[simp] theorem State.drvCycleStart_safeView (s : State) (n : Nat) :
    (s.drvCycleStart n).safeView = s.safeView := by
  unfold State.drvCycleStart
  dsimp only
  split
  · simp
  · split <;> simp

@[simp] theorem State.drvStartCh_safeView (s : State) (n : Nat) :
    (s.drvStartCh n).safeView = s.safeView := by simp [State.drvStartCh]

@[simp] theorem State.drvStart_safeView (s : State) :
    s.drvStart.safeView = s.safeView := by simp [State.drvStart]

@[simp] theorem State.drvClear_safeView (s : State) :
    s.drvClear.safeView = s.safeView := by simp [State.drvClear]

@[simp] theorem State.drvSwap_safeView (s : State) (n : Nat) (old : CfgSet) (oldRegs : RegMap) :
    (s.drvSwap n old oldRegs).safeView = s.safeView := by simp [State.drvSwap]

@[simp] theorem State.drvSafe_safeView (s : State) :
    s.drvSafe.safeView = s.safeView := by simp [State.drvSafe]

@[simp] theorem State.drvInput_safeView (s : State) :
    s.drvInput.safeView = s.safeView := by simp [State.drvInput]

@[simp] theorem State.flkUpd_safeView (s : State) (f : Flk → Flk) :
    (s.flkUpd f).safeView = s.safeView := by simp [State.flkUpd]

@[simp] theorem State.fstUpd_safeView (s : State) (k : Nat) (f : FlkSt → FlkSt) :
    (s.fstUpd k f).safeView = s.safeView := by simp [State.fstUpd]

@[simp] theorem State.fstTo_safeView (s : State) (k v : Nat) :
    (s.fstTo k v).safeView = s.safeView := by simp [State.fstTo]

@[simp] theorem State.foldOut_safeView (s : State) (b : List Byte) :
    (s.foldOut b).safeView = s.safeView := by simp [State.foldOut]

@[simp] theorem State.foldSend_safeView (s : State) (kind st ts : Nat) (body : List Byte) :
    (s.foldSend kind st ts body).safeView = s.safeView := by simp [State.foldSend]

@[simp] theorem State.stnUpd_safeView (s : State) (f : Station → Station) :
    (s.stnUpd f).safeView = s.safeView := by simp [State.stnUpd]

@[simp] theorem State.stnHear_safeView (s : State) (f : FoldFrame) :
    (s.stnHear f).safeView = s.safeView := by simp [State.stnHear]

@[simp] theorem State.foldIn_safeView (s : State) (f : FoldFrame) (kind len : Nat)
    {k : State → State} (h : ∀ x, (k x).safeView = x.safeView) :
    (s.foldIn f kind len k).safeView = s.safeView := by
  simp [State.foldIn, h]

@[simp] theorem State.lelShow_safeView (s : State) :
    s.lelShow.safeView = s.safeView := by
  unfold State.lelShow
  split <;> simp

@[simp] theorem State.lateErr_safeView (s : State) (k seq code addr : Nat) :
    (s.lateErr k seq code addr).safeView = s.safeView := by simp [State.lateErr]

@[simp] theorem State.foldRead_safeView (s : State) (i : HubItem) :
    (s.foldRead i).safeView = s.safeView := by
  unfold State.foldRead
  dsimp only
  split
  · simp
  · split <;> simp

@[simp] theorem State.tagFreed_safeView (s : State) (k : Nat) :
    (s.tagFreed k).safeView = s.safeView := by
  unfold State.tagFreed
  split <;> simp

@[simp] theorem State.foldWrite_safeView (s : State) (i : HubItem) :
    (s.foldWrite i).safeView = s.safeView := by simp [State.foldWrite]

@[simp] theorem State.foldAccess_safeView (s : State) (i : HubItem) :
    (s.foldAccess i).safeView = s.safeView := by
  unfold State.foldAccess
  split <;> simp

@[simp] theorem State.semFree_safeView (s : State) (n : Nat) :
    (s.semFree n).safeView = s.safeView := by simp [State.semFree]

@[simp] theorem State.semAcquire_safeView (s : State) (n cls : Nat) :
    (s.semAcquire n cls).1.safeView = s.safeView := by simp [State.semAcquire]

@[simp] theorem State.semWrite_safeView (s : State) (n cls v : Nat) :
    (s.semWrite n cls v).safeView = s.safeView := by simp [State.semWrite]

@[simp] theorem State.flkSafe_safeView (s : State) :
    s.flkSafe.safeView = s.safeView := by simp [State.flkSafe]

@[simp] theorem State.sendImg_safeView (s : State) (k : Nat) :
    (s.sendImg k).safeView = s.safeView := by
  unfold State.sendImg
  split <;> simp

@[simp] theorem State.toService_safeView (s : State) (k : Nat) :
    (s.toService k).safeView = s.safeView := by simp [State.toService]

@[simp] theorem State.stationLost_safeView (s : State) (k : Nat) :
    (s.stationLost k).safeView = s.safeView := by
  unfold State.stationLost
  split <;> simp

@[simp] theorem State.stationMiss_safeView (s : State) (k : Nat) :
    (s.stationMiss k).safeView = s.safeView := by simp [State.stationMiss]

@[simp] theorem State.stationReport_safeView (s : State) (k bits : Nat) :
    (s.stationReport k bits).safeView = s.safeView := by simp [State.stationReport]

@[simp] theorem State.loadEnd_safeView (s : State) (result : Nat) :
    (s.loadEnd result).safeView = s.safeView := by simp [State.loadEnd]

@[simp] theorem State.loadStep_safeView (s : State) (l : FlkLoad) :
    (s.loadStep l).safeView = s.safeView := by simp [State.loadStep]

@[simp] theorem State.loadBegin_safeView (s : State) (k : Nat) (retry late : Bool) :
    (s.loadBegin k retry late).safeView = s.safeView := by simp [State.loadBegin]

@[simp] theorem State.loadFailed_safeView (s : State) (l : FlkLoad) :
    (s.loadFailed l).safeView = s.safeView := by simp [State.loadFailed]

@[simp] theorem State.foldExchange_safeView (s : State) (l : List (Nat × Nat × Nat × Bool)) :
    (s.foldExchange l).safeView = s.safeView := by simp [State.foldExchange]

@[simp] theorem State.flkStart_safeView (s : State) :
    s.flkStart.safeView = s.safeView := by simp [State.flkStart]

@[simp] theorem State.flkClear_safeView (s : State) :
    s.flkClear.safeView = s.safeView := by simp [State.flkClear]

@[simp] theorem State.flkAbort_safeView (s : State) :
    s.flkAbort.1.safeView = s.safeView := by simp [State.flkAbort]

@[simp] theorem State.flkInput_safeView (s : State) :
    s.flkInput.safeView = s.safeView := by simp [State.flkInput]

@[simp] theorem State.pairUpd_safeView (s : State) (f : Pair → Pair) :
    (s.pairUpd f).safeView = s.safeView := by simp [State.pairUpd]

@[simp] theorem State.pairClaim_safeView (s : State) :
    s.pairClaim.safeView = s.safeView := by simp [State.pairClaim]

@[simp] theorem State.pairJudgeWith_safeView (s : State) (link : Bool) :
    (s.pairJudgeWith link).safeView = s.safeView := by simp [State.pairJudgeWith]

@[simp] theorem State.pairJudge_safeView (s : State) :
    s.pairJudge.safeView = s.safeView := by simp [State.pairJudge]

@[simp] theorem State.pairPick_safeView (s : State) :
    s.pairPick.safeView = s.safeView := by simp [State.pairPick]

@[simp] theorem State.pairReceive_safeView (s : State) (eth : Bool) (b : List Byte) :
    (s.pairReceive eth b).safeView = s.safeView := by simp [State.pairReceive]

@[simp] theorem State.pairBoundary_safeView (s : State) :
    s.pairBoundary.safeView = s.safeView := by simp [State.pairBoundary]

@[simp] theorem State.pairSafe_safeView (s : State) :
    s.pairSafe.safeView = s.safeView := by simp [State.pairSafe]

@[simp] theorem State.pairInput_safeView (s : State) :
    s.pairInput.safeView = s.safeView := by simp [State.pairInput]

@[simp] theorem State.pairClear_safeView (s : State) :
    s.pairClear.safeView = s.safeView := by simp [State.pairClear]

@[simp] theorem State.updUpd_safeView (s : State) (f : Upd → Upd) :
    (s.updUpd f).safeView = s.safeView := by simp [State.updUpd]

@[simp] theorem State.updEnd_safeView (s : State) (st result : Nat) :
    (s.updEnd st result).safeView = s.safeView := by simp [State.updEnd]

@[simp] theorem State.fetchDrop_safeView (s : State) :
    s.fetchDrop.safeView = s.safeView := by simp [State.fetchDrop]

@[simp] theorem State.updDrop_safeView (s : State) :
    s.updDrop.safeView = s.safeView := by simp [State.updDrop]

@[simp] theorem State.updRefuse_safeView (s : State) (result : Nat) :
    (s.updRefuse result).safeView = s.safeView := by simp [State.updRefuse]

@[simp] theorem State.updQueue_safeView (s : State) (op : FlashOp) :
    (s.updQueue op).safeView = s.safeView := by simp [State.updQueue]

@[simp] theorem State.updNextPage_safeView (s : State) :
    s.updNextPage.safeView = s.safeView := by
  unfold State.updNextPage
  split <;> simp

@[simp] theorem State.updBytes_safeView (s : State) (ofs : Nat) (bs : List Byte) (result st : Nat) :
    (s.updBytes ofs bs result st).safeView = s.safeView := by simp [State.updBytes]

@[simp] theorem State.fetchIssue_safeView (s : State) (n : Nat) :
    (s.fetchIssue n).safeView = s.safeView := by
  induction n generalizing s with
  | zero => rfl
  | succ n ih =>
    unfold State.fetchIssue
    split
    · split
      · simp [ih]
      · rfl
    · rfl

@[simp] theorem State.fetchPump_safeView (s : State) : s.fetchPump.safeView = s.safeView := by
  unfold State.fetchPump
  extract_lets s1
  have h1 : s1.safeView = s.safeView := by simp [s1]
  split <;> simp [h1]

@[simp] theorem State.setProgram_safeView (s : State) (h o : Nat) (r : List Byte) :
    (s.setProgram h o r).safeView = s.safeView := by simp [State.setProgram]

@[simp] theorem State.updClear_safeView (s : State) :
    s.updClear.safeView = s.safeView := by simp [State.updClear]

@[simp] theorem State.unitsSafe_safeView (s : State) :
    s.unitsSafe.safeView = s.safeView := by simp [State.unitsSafe]

@[simp] theorem State.unitClear_safeView (s : State) (u : Nat) :
    (s.unitClear u).safeView = s.safeView := by
  unfold State.unitClear
  split <;> simp

@[simp] theorem State.unitStart_safeView (s : State) (u : Nat) :
    (s.unitStart u).safeView = s.safeView := by
  unfold State.unitStart
  split <;> simp

@[simp] theorem State.linkSend_safeView (s : State) (f : LinkFrame) :
    (s.linkSend f).safeView = s.safeView := by simp [State.linkSend]

@[simp] theorem State.lanePart_safeView (s : State) (l : LaneId) :
    (s.lanePart l).safeView = s.safeView := by simp [State.lanePart]

@[simp] theorem State.soloFallback_safeView (s : State) :
    s.soloFallback.safeView = s.safeView := by simp [State.soloFallback]

@[simp] theorem State.paddocksAfter_safeView (s : State) (cold : Bool) (t : State) :
    (s.paddocksAfter cold t).safeView = t.safeView := by
  simp [State.paddocksAfter]

@[simp] theorem State.causeStart_safeView (s : State) : s.causeStart.safeView = s.safeView := by
  unfold State.causeStart
  extract_lets prev s1 s2
  have h2 : s2.safeView = s.safeView := by simp [s2, s1]
  clear_value s2
  simp [h2]

@[simp] theorem State.sampleStraps_safeView (s : State) (st : Straps) :
    (s.sampleStraps st).safeView = s.safeView := by simp [State.sampleStraps]

@[simp] theorem State.countEpisode_safeView (s : State) :
    s.countEpisode.safeView = s.safeView := by
  unfold State.countEpisode
  split
  · rfl
  · extract_lets c m cleared v s1 n s2 _ r
    have h2 : s2.safeView = s.safeView := by simp [s2, s1]
    clear_value s2
    simp [r, h2]

@[simp] theorem State.rampHead_safeView (s : State) :
    s.rampHead.safeView = s.safeView := by
  unfold State.rampHead
  split <;> simp

@[simp] theorem State.releaseStart_safeView (s : State) (st : Straps) :
    (s.releaseStart st).safeView = s.safeView := by simp [State.releaseStart]

@[simp] theorem State.tryRelease_safeView (s : State) (st : Straps) :
    (s.tryRelease st).safeView = s.safeView := by simp [State.tryRelease]

@[simp] theorem State.releaseSource_safeView (s : State) (src : RstSrc) (st : Straps) :
    (s.releaseSource src st).safeView = s.safeView := by simp [State.releaseSource]

@[simp] theorem State.wearRebuild_safeView (s : State) : s.wearRebuild.safeView = s.safeView := by
  unfold State.wearRebuild
  extract_lets _ _ _ all s1 missing _ s2 s3 _ _ _ s4
  have h1 : s1.safeView = s.safeView := by simp [s1]
  clear_value s1
  have h2 : s2.safeView = s.safeView := by simp [s2, h1]
  have h3 : s3.safeView = s.safeView := by simp [s3, h2]
  clear_value s3
  have h4 : s4.safeView = s.safeView := by simp [s4, h3]
  clear_value s4
  simp [h4]

@[simp] theorem State.wearApply_safeView (s : State) (e : WearE) :
    (s.wearApply e).safeView = s.safeView := by
  unfold State.wearApply
  split <;> simp

@[simp] theorem State.strayCounts_safeView (s : State) :
    s.strayCounts.safeView = s.safeView := by simp [State.strayCounts]

@[simp] theorem State.flashDiscovery_safeView (s : State) :
    s.flashDiscovery.safeView = s.safeView := by simp [State.flashDiscovery]

@[simp] theorem State.unitReset_safeView (s : State) (u : Nat) :
    (s.unitReset u).safeView = s.safeView := by simp [State.unitReset]

@[simp] theorem State.unitReload_safeView (s : State) (u : Nat) :
    (s.unitReload u).safeView = s.safeView := by simp [State.unitReload]

@[simp] theorem State.fieldReload_safeView (s : State) :
    s.fieldReload.safeView = s.safeView := by simp [State.fieldReload]

@[simp] theorem State.localAssert_safeView (s : State) (t : Nat) :
    (s.localAssert t).1.safeView = s.safeView := by simp [State.localAssert]

@[simp] theorem State.localMap_safeView (s : State) (t : Nat) (f : LocalEp → LocalEp) :
    (s.localMap t f).safeView = s.safeView := by simp [State.localMap]

@[simp] theorem State.localAbsorb_safeView (s : State) (e : LocalEp) (src : LocalSrc) :
    (s.localAbsorb e src).safeView = s.safeView := by simp [State.localAbsorb]

@[simp] theorem State.localBegin_safeView (s : State) (t : Nat) (src : LocalSrc) :
    (s.localBegin t src).safeView = s.safeView := by
  unfold State.localBegin
  split
  · simp
  · split <;> simp

@[simp] theorem State.localReleased_safeView (s : State) (src : LocalSrc) :
    (s.localReleased src).safeView = s.safeView := by simp [State.localReleased]

@[simp] theorem State.localOpen_safeView (s : State) :
    s.localOpen.safeView = s.safeView := by simp [State.localOpen]

@[simp] theorem State.loopEval_safeView (s : State) :
    s.loopEval.safeView = s.safeView := by simp [State.loopEval]

@[simp] theorem State.fdUpd_safeView (s : State) (f : Fd → Fd) :
    (s.fdUpd f).safeView = s.safeView := by simp [State.fdUpd]

theorem State.popField_safeView {s t : State} {p : LinkFrame → Bool} {f : LinkFrame}
    (e : s.popField p = some (f, t)) : t.safeView = s.safeView := by
  unfold State.popField at e
  split at e
  · cases e
  · split at e <;> cases e
    simp

@[simp] theorem State.fieldDrop_safeView (s : State) :
    s.fieldDrop.safeView = s.safeView := by simp [State.fieldDrop]

@[simp] theorem execFieldResetFrame_view (crcOk : Bool) (s : State) :
    outView (execFieldResetFrame crcOk s) = some s.safeView := by
  unfold execFieldResetFrame
  split
  · next e => simp [State.popField_safeView e]
  · rfl

@[simp] theorem execFieldLoadFrame_view (crcOk : Bool) (s : State) :
    outView (execFieldLoadFrame crcOk s) = some s.safeView := by
  unfold execFieldLoadFrame
  split <;> simp

@[simp] theorem State.fdTake_safeView (s : State) (crcOk : Bool) (f : Fd → Fd) :
    (s.fdTake crcOk f).safeView = s.safeView := by simp [State.fdTake]

@[simp] theorem State.fdImage_safeView (s : State) (crcOk : Bool) (type : Nat) (b : List Byte) :
    (s.fdImage crcOk type b).safeView = s.safeView := by
  unfold State.fdImage
  split <;> simp

@[simp] theorem execFieldCommitFrame_view (crcOk : Bool) (s : State) :
    outView (execFieldCommitFrame crcOk s) = some s.safeView := by
  unfold execFieldCommitFrame
  split <;> simp

@[simp] theorem execFieldRefreshFrame_view (crcOk : Bool) (s : State) :
    outView (execFieldRefreshFrame crcOk s) = some s.safeView := by
  unfold execFieldRefreshFrame
  split <;> simp

@[simp] theorem execFieldSafeFrame_view (crcOk : Bool) (s : State) :
    outView (execFieldSafeFrame crcOk s) = some s.safeView := by
  unfold execFieldSafeFrame
  split
  · next e => simp [State.popField_safeView e]
  · rfl

@[simp] theorem State.fieldTimeout_safeView (s : State) :
    s.fieldTimeout.safeView = s.safeView := by simp [State.fieldTimeout]

@[simp] theorem execFieldLinkTimeout_view (s : State) :
    outView (execFieldLinkTimeout s) = some s.safeView := by simp [execFieldLinkTimeout]

@[simp] theorem execFieldOscMismatch_view (ppm : Nat) (s : State) :
    outView (execFieldOscMismatch ppm s) = some s.safeView := by simp [execFieldOscMismatch]

@[simp] theorem execRefreshSendTick_view (s : State) :
    outView (execRefreshSendTick s) = some s.safeView := by simp [execRefreshSendTick]

@[simp] theorem State.driftAll_safeView (s : State) (cmp : BitVec 16) (dr : List (Nat × Nat)) :
    (s.driftAll cmp dr).safeView = s.safeView := by simp [State.driftAll]

@[simp] theorem execStatusFrameTick_view (m : FieldMeas) (s : State) :
    outView (execStatusFrameTick m s) = some s.safeView := by simp [execStatusFrameTick]

@[simp] theorem State.fieldSubst_safeView (s : State) (e : Nat × Nat × Nat) :
    (s.fieldSubst e).safeView = s.safeView := by simp [State.fieldSubst]

@[simp] theorem execStatusFrameReceived_view (crcOk : Bool) (s : State) :
    outView (execStatusFrameReceived crcOk s) = some s.safeView := by
  unfold execStatusFrameReceived
  split <;> simp

@[simp] theorem execInputFilterSample_view (raw : BitVec 32) (s : State) :
    outView (execInputFilterSample raw s) = some s.safeView := by simp [execInputFilterSample]

@[simp] theorem execFrontEndTest_view (r : FeResult) (s : State) :
    outView (execFrontEndTest r s) = some s.safeView := by simp [execFrontEndTest]

@[simp] theorem execOutputShort_view (n : BitVec 4) (s : State) :
    outView (execOutputShort n s) = some s.safeView := by simp [execOutputShort]

@[simp] theorem execOutputOvertemp_view (n : BitVec 4) (s : State) :
    outView (execOutputOvertemp n s) = some s.safeView := by simp [execOutputOvertemp]

@[simp] theorem execOutputOpenLoad_view (n : BitVec 4) (s : State) :
    outView (execOutputOpenLoad n s) = some s.safeView := by simp [execOutputOpenLoad]

@[simp] theorem execOutputRetryExpiry_view (n : BitVec 4) (cooled : Bool) (s : State) :
    outView (execOutputRetryExpiry n cooled s) = some s.safeView := by simp [execOutputRetryExpiry]

@[simp] theorem execSegmentHandoverExpiry_view (n : BitVec 4) (s : State) :
    outView (execSegmentHandoverExpiry n s) = some s.safeView := by simp [execSegmentHandoverExpiry]

@[simp] theorem execOutputTestPulse_view (n : BitVec 4) (s : State) :
    outView (execOutputTestPulse n s) = some s.safeView := by simp [execOutputTestPulse]

@[simp] theorem execOutputTestPulseEnd_view (n : BitVec 4) (fell : Bool) (s : State) :
    outView (execOutputTestPulseEnd n fell s) = some s.safeView := by simp [execOutputTestPulseEnd]

@[simp] theorem execBrakeLoopDemandMet_view (s : State) :
    outView (execBrakeLoopDemandMet s) = some s.safeView := by simp [execBrakeLoopDemandMet]

@[simp] theorem execBlHsSenseHigh_view (lsHigh : Bool) (s : State) :
    outView (execBlHsSenseHigh lsHigh s) = some s.safeView := by simp [execBlHsSenseHigh]

@[simp] theorem execBlHsSenseTimeout_view (s : State) :
    outView (execBlHsSenseTimeout s) = some s.safeView := by simp [execBlHsSenseTimeout]

@[simp] theorem execBlLsSenseHigh_view (s : State) :
    outView (execBlLsSenseHigh s) = some s.safeView := by simp [execBlLsSenseHigh]

@[simp] theorem execBlLsSenseLow_view (s : State) :
    outView (execBlLsSenseLow s) = some s.safeView := by simp [execBlLsSenseLow]

@[simp] theorem execBlLsSenseTimeout_view (s : State) :
    outView (execBlLsSenseTimeout s) = some s.safeView := by simp [execBlLsSenseTimeout]

@[simp] theorem execBrakeLoopTestPulse_view (s : State) :
    outView (execBrakeLoopTestPulse s) = some s.safeView := by simp [execBrakeLoopTestPulse]

@[simp] theorem execBrakeLoopTestEnd_view (senseOk : Bool) (s : State) :
    outView (execBrakeLoopTestEnd senseOk s) = some s.safeView := by simp [execBrakeLoopTestEnd]

@[simp] theorem State.setOk_safeView (s : State) (r : Rail) (b : Bool) :
    (s.setOk r b).safeView = s.safeView := by
  unfold State.setOk
  split <;> simp

@[simp] theorem State.vflLost_safeView (s : State) :
    s.vflLost.safeView = s.safeView := by simp [State.vflLost]

@[simp] theorem State.toVbk_safeView (s : State) :
    s.toVbk.safeView = s.safeView := by simp [State.toVbk]

@[simp] theorem State.bkupClear_safeView (s : State) :
    s.bkupClear.safeView = s.safeView := by simp [State.bkupClear]

@[simp] theorem State.fieldWaitEnd_safeView (s : State) :
    s.fieldWaitEnd.safeView = s.safeView := by simp [State.fieldWaitEnd]

@[simp] theorem State.fieldStart_safeView (s : State) :
    s.fieldStart.safeView = s.safeView := by simp [State.fieldStart]

@[simp] theorem State.fpowerStart_safeView (s : State) :
    s.fpowerStart.safeView = s.safeView := by simp [State.fpowerStart]

@[simp] theorem execOvervoltageEvent_view (r : Rail) (mv : Nat) (s : State) :
    outView (execOvervoltageEvent r mv s) = some s.safeView := by
  unfold execOvervoltageEvent
  split <;> simp

@[simp] theorem execCoreWarn_view (s : State) :
    outView (execCoreWarn s) = some s.safeView := by simp [execCoreWarn]

@[simp] theorem execVbkLow_view (s : State) :
    outView (execVbkLow s) = some s.safeView := by simp [execVbkLow]

@[simp] theorem execBkupChangeover_view (s : State) :
    outView (execBkupChangeover s) = some s.safeView := by simp [execBkupChangeover]

@[simp] theorem State.powerGood_safeView (s : State) (st : Straps) :
    (s.powerGood st).safeView = s.safeView := by simp [State.powerGood]

@[simp] theorem execPowerGood_view (st : Straps) (s : State) :
    outView (execPowerGood st s) = some s.safeView := by simp [execPowerGood]

@[simp] theorem State.paddockOn_safeView (s : State) (p : Paddock) :
    (s.paddockOn p).safeView = s.safeView := by simp [State.paddockOn]

@[simp] theorem State.appOn_safeView (s : State) (p : Paddock) :
    (s.appOn p).safeView = s.safeView := by
  unfold State.appOn
  split
  · split
    · have h := s.fset_safeView (pstat .flogic) 2
      generalize s.fset (pstat .flogic) 2 = s1 at h ⊢
      simp [h]
    · simp
  · simp
  · extract_lets s1
    have h1 : s1.safeView = s.safeView := by simp [s1]
    clear_value s1
    simp [h1]

@[simp] theorem execFieldDiePowerOn_view (s : State) :
    outView (execFieldDiePowerOn s) = some s.safeView := by simp [execFieldDiePowerOn]

@[simp] theorem execRtcTick_view (s : State) :
    outView (execRtcTick s) = some s.safeView := by simp [execRtcTick]

@[simp] theorem State.reqOff_safeView (s : State) (p : Paddock) :
    (s.reqOff p).safeView = s.safeView := by simp [State.reqOff]

@[simp] theorem State.goesOn_safeView (s : State) (p : Paddock) :
    (s.goesOn p).safeView = s.safeView := by simp [State.goesOn]

@[simp] theorem State.reqCancel_safeView (s : State) (p : Paddock) :
    (s.reqCancel p).safeView = s.safeView := by simp [State.reqCancel]

@[simp] theorem State.reqOn_safeView (s : State) (p : Paddock) :
    (s.reqOn p).safeView = s.safeView := by simp [State.reqOn]

@[simp] theorem State.reqBit_safeView (s : State) (p : Paddock) (b : Bool) :
    (s.reqBit p b).safeView = s.safeView := by simp [State.reqBit]

@[simp] theorem State.writePwrReq_safeView (s : State) (v : Nat) :
    (s.writePwrReq v).safeView = s.safeView := by simp [State.writePwrReq]

@[simp] theorem execPwrReqSwitchOff_view (p : Paddock) (s : State) :
    outView (execPwrReqSwitchOff p s) = some s.safeView := by simp [execPwrReqSwitchOff]

@[simp] theorem execPwrReqCancel_view (p : Paddock) (s : State) :
    outView (execPwrReqCancel p s) = some s.safeView := by simp [execPwrReqCancel]

@[simp] theorem execPwrReqSwitchOn_view (p : Paddock) (s : State) :
    outView (execPwrReqSwitchOn p s) = some s.safeView := by simp [execPwrReqSwitchOn]

@[simp] theorem execPaddockReloadDone_view (p : Paddock) (s : State) :
    outView (execPaddockReloadDone p s) = some s.safeView := by simp [execPaddockReloadDone]

@[simp] theorem State.gateEnd_safeView (s : State) (p : Paddock) :
    (s.gateEnd p).safeView = s.safeView := by simp [State.gateEnd]

@[simp] theorem State.paddockOff_safeView (s : State) (p : Paddock) :
    (s.paddockOff p).safeView = s.safeView := by
  unfold State.paddockOff
  extract_lets s1 s2 drop off _ s3 unlinked _ _
  have h2 : s2.safeView = s.safeView := by simp [s2, s1]
  have hoff : off.safeView = s.safeView := by simp [off, h2]
  clear_value off s2
  have h3 : s3.safeView = s.safeView := by simp [s3, hoff]
  have hun : unlinked.safeView = s.safeView := by simp [unlinked, h3]
  clear_value unlinked s3
  split
  · simp [hun]
  · simp [h3]
  · split <;> simp [h3]

@[simp] theorem State.boundaryOff_safeView (s : State) : s.boundaryOff.safeView = s.safeView := by
  unfold State.boundaryOff
  extract_lets gone _ s1 code s2 _
  have h1 : s1.safeView = s.safeView := by simp [s1]
  have h2 : s2.safeView = s1.safeView :=
    State.foldl_safeView (fun x p => by split <;> simp) _ s1
  clear_value s2 s1
  simp [h2, h1]

@[simp] theorem execWearFlashRetryTick_view (s : State) :
    outView (execWearFlashRetryTick s) = some s.safeView := by simp [execWearFlashRetryTick]

@[simp] theorem execResetNRelease_view (st : Straps) (s : State) :
    outView (execResetNRelease st s) = some s.safeView := by simp [execResetNRelease]

@[simp] theorem execResetStretchExpiry_view (src : StretchSrc) (st : Straps) (s : State) :
    outView (execResetStretchExpiry src st s) = some s.safeView := by simp [execResetStretchExpiry]

@[simp] theorem execDebugResetRelease_view (st : Straps) (s : State) :
    outView (execDebugResetRelease st s) = some s.safeView := by simp [execDebugResetRelease]

@[simp] theorem State.trimDone_safeView (s : State) :
    s.trimDone.safeView = s.safeView := by simp [State.trimDone]

@[simp] theorem execTrimCopyDone_view (crcOk : Bool) (s : State) :
    outView (execTrimCopyDone crcOk s) = some s.safeView := by
  unfold execTrimCopyDone
  split <;> simp

@[simp] theorem execLocalResetHoldExpiry_view (target : Nat) (s : State) :
    outView (execLocalResetHoldExpiry target s) = some s.safeView := by
  simp [execLocalResetHoldExpiry]

@[simp] theorem execLocalResetReloadDone_view (target : Nat) (s : State) :
    outView (execLocalResetReloadDone target s) = some s.safeView := by
  simp [execLocalResetReloadDone]

@[simp] theorem State.settled_safeView (s : State) :
    s.settled.safeView = s.safeView := by simp [State.settled]

@[simp] theorem execHrcSettleExpiry_view (o : Hrc) (s : State) :
    outView (execHrcSettleExpiry o s) = some s.safeView := by
  unfold execHrcSettleExpiry
  split <;> simp

@[simp] theorem execHrc1RestartExpiry_view (s : State) :
    outView (execHrc1RestartExpiry s) = some s.safeView := by simp [execHrc1RestartExpiry]

@[simp] theorem State.hrc1Qualify_safeView (s : State) :
    s.hrc1Qualify.safeView = s.safeView := by simp [State.hrc1Qualify]

@[simp] theorem execXtalQualTimeout_view (s : State) :
    outView (execXtalQualTimeout s) = some s.safeView := by simp [execXtalQualTimeout]

@[simp] theorem execSerrefLoss_view (s : State) :
    outView (execSerrefLoss s) = some s.safeView := by
  unfold execSerrefLoss
  extract_lets s1 s2
  have h2 : s2.safeView = s.safeView := by simp [s2, s1]
  clear_value s2
  simp [h2]

@[simp] theorem execSerrefReturn_view (s : State) :
    outView (execSerrefReturn s) = some s.safeView := by simp [execSerrefReturn]

@[simp] theorem execDisciplineStep_view (o : Hrc) (err : Int) (s : State) :
    outView (execDisciplineStep o err s) = some s.safeView := by simp [execDisciplineStep]

@[simp] theorem State.gateWrite_safeView (s : State) (c : Nat) (opening : Bool) :
    (s.gateWrite c opening).safeView = s.safeView := by simp [State.gateWrite]

@[simp] theorem execClkGateOpen_view (code : BitVec 8) (s : State) :
    outView (execClkGateOpen code s) = some s.safeView := by simp [execClkGateOpen]

@[simp] theorem execClkGateClose_view (code : BitVec 8) (s : State) :
    outView (execClkGateClose code s) = some s.safeView := by simp [execClkGateClose]

@[simp] theorem execBusQuietHandshake_view (s : State) :
    outView (execBusQuietHandshake s) = some s.safeView := by simp [execBusQuietHandshake]

@[simp] theorem execGateCloseTimeout_view (s : State) :
    outView (execGateCloseTimeout s) = some s.safeView := by simp [execGateCloseTimeout]

@[simp] theorem execGateOpenEffect_view (s : State) :
    outView (execGateOpenEffect s) = some s.safeView := by
  unfold execGateOpenEffect
  split <;> simp

@[simp] theorem State.closeRefuse_safeView (s : State) :
    s.closeRefuse.safeView = s.safeView := by simp [State.closeRefuse]

@[simp] theorem State.openUsedGates_safeView (s : State) :
    s.openUsedGates.safeView = s.safeView := by
  unfold State.openUsedGates
  rw [State.closeRefuse_safeView]
  refine State.foldl_safeView (fun x c => ?_) _ s
  split
  · split <;> simp
  · rfl

@[simp] theorem State.writeOutcfg_safeView (s : State) (v : Nat) :
    (s.writeOutcfg v).safeView = s.safeView := by
  unfold State.writeOutcfg
  split
  · simp
  · extract_lets s1 s2 p
    have h1 : s1.safeView = s.safeView := by simp [s1]
    clear_value s1
    simp [s2, p, State.answer, h1]

@[simp] theorem execClkOutcfgWrite_view (v : BitVec 32) (s : State) :
    outView (execClkOutcfgWrite v s) = some s.safeView := by simp [execClkOutcfgWrite]

@[simp] theorem execPpsOutPulse_view (s : State) :
    outView (execPpsOutPulse s) = some s.safeView := by simp [execPpsOutPulse]

@[simp] theorem execPpsOutPulseEnd_view (s : State) :
    outView (execPpsOutPulseEnd s) = some s.safeView := by simp [execPpsOutPulseEnd]

@[simp] theorem State.setScrub_safeView (s : State) (b n : Nat) :
    (s.setScrub b n).safeView = s.safeView := by simp [State.setScrub]

@[simp] theorem State.upset_safeView (s : State) (bank : Bank) (flips : List (Nat × List Nat)) :
    (s.upset bank flips).safeView = s.safeView := by simp [State.upset]

@[simp] theorem execScrubStep_view (bank : Bank) (flips : List (Nat × List Nat)) (s : State) :
    outView (execScrubStep bank flips s) = some s.safeView := by simp [execScrubStep]

@[simp] theorem execTrackerEntryExpiry_view (bank : Bank) (row : Nat) (s : State) :
    outView (execTrackerEntryExpiry bank row s) = some s.safeView := by
  simp [execTrackerEntryExpiry]

@[simp] theorem execColumnRepairRowCopy_view (bank : Bank) (s : State) :
    outView (execColumnRepairRowCopy bank s) = some s.safeView := by
  unfold execColumnRepairRowCopy
  dsimp only
  split <;> simp

@[simp] theorem State.remapRow_safeView (s : State) (b row : Nat) :
    (s.remapRow b row).safeView = s.safeView := by simp [State.remapRow]

@[simp] theorem State.startColumn_safeView (s : State) (c : Nat × Nat × Nat) :
    (s.startColumn c).safeView = s.safeView := by simp [State.startColumn]

@[simp] theorem State.boundaryRemaps_safeView (s : State) :
    s.boundaryRemaps.safeView = s.safeView := by
  unfold State.boundaryRemaps
  dsimp only
  rw [State.foldl_safeView (fun x c => x.startColumn_safeView c), State.record_safeView,
    State.safeView_def]
  refine (State.foldl_safeView (fun x b => ?_) _ _).trans ?_
  · split <;> simp
  · simp

@[simp] theorem State.setHeld_safeView (s : State) (l : LaneId) (h : List (Nat × DWord)) :
    (s.setHeld l h).safeView = s.safeView := by simp [State.setHeld]

@[simp] theorem State.heldLost_safeView (s : State) (l : LaneId) (n : Nat) :
    (s.heldLost l n).safeView = s.safeView := by simp [State.heldLost]

@[simp] theorem State.heldTake_safeView (s : State) (l : LaneId) (a : Nat) :
    (s.heldTake l a).safeView = s.safeView := by simp [State.heldTake]

@[simp] theorem State.heldStore_safeView (s : State) (l : LaneId) (a : Nat) :
    (s.heldStore l a).safeView = s.safeView := by simp [State.heldStore]

@[simp] theorem State.heldAdd_safeView (s : State) (l : LaneId) (a : Nat) (d : DWord) :
    (s.heldAdd l a d).safeView = s.safeView := by simp [State.heldAdd]

@[simp] theorem State.heldFlush_safeView (s : State) (l : LaneId) :
    (s.heldFlush l).safeView = s.safeView := by simp [State.heldFlush]

@[simp] theorem State.xspiRead_safeView (s : State) (ini : Initiator) (a n : Nat) :
    (s.xspiRead ini a n).safeView = s.safeView := by simp [State.xspiRead]

@[simp] theorem execXspiWindowRead_view (ini : Initiator) (addr size : Nat) (s : State) :
    outView (execXspiWindowRead ini addr size s) = some s.safeView := by simp [execXspiWindowRead]

@[simp] theorem State.failOldest_safeView (s : State) (p : HubItem → Bool) (r : Resp) :
    (s.failOldest p r).safeView = s.safeView := by
  unfold State.failOldest
  split <;> simp

@[simp] theorem execXspiReadTimeout_view (s : State) :
    outView (execXspiReadTimeout s) = some s.safeView := by simp [execXspiReadTimeout]

@[simp] theorem State.setCredits_safeView (s : State) (ini t n : Nat) :
    (s.setCredits ini t n).safeView = s.safeView := by simp [State.setCredits]

@[simp] theorem execPostedWriteCreditReturn_view (ini : Initiator) (target : Nat) (s : State) :
    outView (execPostedWriteCreditReturn ini target s) = some s.safeView := by
  simp [execPostedWriteCreditReturn]

@[simp] theorem execStartupFlashReadTimeout_view (again : Bool) (s : State) :
    outView (execStartupFlashReadTimeout again s) = some s.safeView := by
  simp [execStartupFlashReadTimeout]

@[simp] theorem State.itemTouch_safeView (s : State) (kind key : Nat) :
    (s.itemTouch kind key).safeView = s.safeView := by simp [State.itemTouch]

@[simp] theorem State.outWord_safeView (s : State) (k : Nat) :
    (s.outWord k).1.safeView = s.safeView := by simp [State.outWord]

@[simp] theorem State.cycWords_safeView (s : State) :
    s.cycWords.1.safeView = s.safeView := by simp [State.cycWords]

@[simp] theorem State.itemWord_safeView (s : State) (w : OutW) :
    (s.itemWord w).safeView = s.safeView := by simp [State.itemWord]

@[simp] theorem State.commitWords_safeView (s : State) (ws : List OutW) :
    (s.commitWords ws).safeView = s.safeView := by simp [State.commitWords]

@[simp] theorem State.itemHand_safeView (s : State) (ws : List OutW) (x : Nat × Nat) :
    (s.itemHand ws x).safeView = s.safeView := by
  unfold State.itemHand
  split
  · simp
  · split
    · simp
    · dsimp only
      split <;> simp
    · simp

@[simp] theorem State.exchange_safeView (s : State) (ws : List OutW) :
    (s.exchange ws).safeView = s.safeView := by simp [State.exchange]

@[simp] theorem State.commitPhase_safeView (s : State) :
    s.commitPhase.safeView = s.safeView := by simp [State.commitPhase]

@[simp] theorem State.tryCommit_safeView (s : State) :
    s.tryCommit.safeView = s.safeView := by simp [State.tryCommit]

@[simp] theorem State.lseen_safeView (s : State) (l : LaneId) (a : Nat) :
    (s.lseen l a).safeView = s.safeView := by simp [State.lseen]

@[simp] theorem State.lstore_safeView (s : State) (l : LaneId) (a n v : Nat) :
    (s.lstore l a n v).safeView = s.safeView := by simp [State.lstore]

@[simp] theorem State.send_safeView (s : State) (l : LaneId) (kind addr data mask : Nat) :
    (s.send l kind addr data mask).safeView = s.safeView := by simp [State.send]

@[simp] theorem State.privDedTake_safeView (s : State) (l : LaneId) (a : Nat) :
    (s.privDedTake l a).safeView = s.safeView := by simp [State.privDedTake]

@[simp] theorem State.readSend_safeView (s : State) (l : LaneId) (a mask : Nat) (dst : ReadDest) :
    (s.readSend l a mask dst).safeView = s.safeView := by simp [State.readSend]

@[simp] theorem State.readHeld_safeView (s : State) (l : LaneId) (d : GReg) (a n : Nat)
    (signed : Bool) (w : DWord) :
    (s.readHeld l d a n signed w).safeView = s.safeView := by
  simp [State.readHeld]

@[simp] theorem State.prefetchNext_safeView (s : State) (l : LaneId) (a : Nat) :
    (s.prefetchNext l a).safeView = s.safeView := by simp [State.prefetchNext]

@[simp] theorem State.slotPut_safeView (s : State) (l : LaneId) (a : Nat) (t : Slot) :
    (s.slotPut l a t).safeView = s.safeView := by simp [State.slotPut]

@[simp] theorem State.showPrimes_safeView (s : State) :
    s.showPrimes.safeView = s.safeView := by
  unfold State.showPrimes
  split <;> simp

@[simp] theorem State.opPerm_safeView (s : State) :
    s.opPerm.safeView = s.safeView := by simp [State.opPerm]

@[simp] theorem execFlashOpStart_view (s : State) :
    outView (execFlashOpStart s) = some s.safeView := by
  unfold execFlashOpStart
  split <;> simp

@[simp] theorem State.strayProgram_safeView (s : State) (e : StrayE) :
    (s.strayProgram e).safeView = s.safeView := by simp [State.strayProgram]

@[simp] theorem State.flashApply_safeView (s : State) (op : FlashOp) :
    (s.flashApply op).safeView = s.safeView := by
  unfold State.flashApply
  split <;> simp

@[simp] theorem State.wearDone_safeView (s : State) (op : FlashOp) :
    (s.wearDone op).safeView = s.safeView := by
  unfold State.wearDone
  extract_lets w
  simp

@[simp] theorem State.recPlaceUsed_safeView (s : State) :
    s.recPlaceUsed.safeView = s.safeView := by simp [State.recPlaceUsed]

@[simp] theorem State.recOpDone_safeView (s : State) (op : FlashOp) :
    (s.recOpDone op).safeView = s.safeView := by
  unfold State.recOpDone
  split <;> simp

@[simp] theorem State.recOpFail_safeView (s : State) (op : FlashOp) :
    (s.recOpFail op).safeView = s.safeView := by
  unfold State.recOpFail
  split <;> simp

@[simp] theorem State.updOpDone_safeView (s : State) :
    s.updOpDone.safeView = s.safeView := by
  unfold State.updOpDone
  split <;> simp

@[simp] theorem State.updOpFail_safeView (s : State) :
    s.updOpFail.safeView = s.safeView := by
  unfold State.updOpFail
  split <;> simp

@[simp] theorem execFlashOpComplete_view (ok : Bool) (s : State) :
    outView (execFlashOpComplete ok s) = some s.safeView := by
  unfold execFlashOpComplete
  split
  · simp
  · split
    · simp
    · split
      · simp
      · split
        · split <;> simp
        · split
          · simp
          · split <;> simp

@[simp] theorem State.updBegin_safeView (s : State) (st : Nat) (j : UpdJob) :
    (s.updBegin st j).safeView = s.safeView := by simp [State.updBegin]

@[simp] theorem State.updKey_safeView (s : State) (key : Nat) {k : State → State}
    (h : ∀ x, (k x).safeView = x.safeView) : (s.updKey key k).safeView = s.safeView := by
  simp [State.updKey, h]

@[simp] theorem State.updOpen_safeView (s : State) (slot : Bool) :
    (s.updOpen slot).safeView = s.safeView := by simp [State.updOpen]

@[simp] theorem execUpdOpen_view (key : BitVec 8) (slot : Bool) (s : State) :
    outView (execUpdOpen key slot s) = some s.safeView := by simp [execUpdOpen]

@[simp] theorem State.srcBytes_safeView (s : State) (a n : Nat) :
    (s.srcBytes a n).1.safeView = s.safeView := by
  unfold State.srcBytes
  split
  · dsimp only
    split <;> simp
  · dsimp only
    split <;> simp

@[simp] theorem State.updCopy_safeView (s : State) (st : Nat) (bs : List Byte) (ok : Bool) :
    (s.updCopy st bs ok).safeView = s.safeView := by simp [State.updCopy]

@[simp] theorem State.updWrite_safeView (s : State) :
    s.updWrite.safeView = s.safeView := by simp [State.updWrite]

@[simp] theorem execUpdWrite_view (key : BitVec 8) (s : State) :
    outView (execUpdWrite key s) = some s.safeView := by simp [execUpdWrite]

@[simp] theorem State.updFetch_safeView (s : State) :
    s.updFetch.safeView = s.safeView := by simp [State.updFetch]

@[simp] theorem execUpdFetch_view (key : BitVec 8) (s : State) :
    outView (execUpdFetch key s) = some s.safeView := by simp [execUpdFetch]

@[simp] theorem State.updClose_safeView (s : State) (hold : Bool) :
    (s.updClose hold).safeView = s.safeView := by simp [State.updClose]

@[simp] theorem execUpdClose_view (key : BitVec 8) (hold : Bool) (s : State) :
    outView (execUpdClose key hold s) = some s.safeView := by simp [execUpdClose]

@[simp] theorem State.updAbort_safeView (s : State) :
    s.updAbort.safeView = s.safeView := by
  unfold State.updAbort
  split <;> simp

@[simp] theorem execUpdAbort_view (key : BitVec 8) (s : State) :
    outView (execUpdAbort key s) = some s.safeView := by simp [execUpdAbort]

@[simp] theorem State.updArm_safeView (s : State) :
    s.updArm.safeView = s.safeView := by simp [State.updArm]

@[simp] theorem execUpdArm_view (key : BitVec 8) (s : State) :
    outView (execUpdArm key s) = some s.safeView := by simp [execUpdArm]

@[simp] theorem State.updDisarm_safeView (s : State) :
    s.updDisarm.safeView = s.safeView := by simp [State.updDisarm]

@[simp] theorem execUpdDisarm_view (key : BitVec 8) (s : State) :
    outView (execUpdDisarm key s) = some s.safeView := by simp [execUpdDisarm]

@[simp] theorem State.setCompact_safeView (s : State) (h : Nat) (new : List Byte) :
    (s.setCompact h new).safeView = s.safeView := by simp [State.setCompact]

@[simp] theorem State.updSetwrite_safeView (s : State) :
    s.updSetwrite.safeView = s.safeView := by
  unfold State.updSetwrite
  dsimp only
  split
  · simp
  · split
    · simp
    · split
      · simp
      · split <;> simp

@[simp] theorem execUpdSetwrite_view (key : BitVec 8) (s : State) :
    outView (execUpdSetwrite key s) = some s.safeView := by simp [execUpdSetwrite]

@[simp] theorem State.rwWrite_safeView (s : State) (a v : Nat) :
    (s.rwWrite a v).safeView = s.safeView := by simp [State.rwWrite]

@[simp] theorem State.bkrWrite_safeView (s : State) (a v : Nat) :
    (s.bkrWrite a v).safeView = s.safeView := by simp [State.bkrWrite]

@[simp] theorem State.rwLoad_safeView (s : State) (a v : Nat) :
    (s.rwLoad a v).safeView = s.safeView := by
  unfold State.rwLoad
  split
  · simp
  · split
    · simp
    · split
      · simp
      · split <;> simp

@[simp] theorem State.relocate_safeView (s : State) (k : CoreId) (hb cofs : Nat) :
    (s.relocate k hb cofs).safeView = s.safeView := by
  refine State.foldl_safeView (fun x i => ?_) _ s
  dsimp only
  split
  · split <;> simp
  · simp

@[simp] theorem State.instInit_safeView (s : State) (k : CoreId) (hb : Nat) (i : InstE) :
    (s.instInit k hb i).safeView = s.safeView := by
  unfold State.instInit
  split
  · simp
  · dsimp only
    split <;> simp

@[simp] theorem State.coreLoad_safeView (s : State) (g : Img) (h : Nat) (k : CoreId) :
    (s.coreLoad g h k).safeView = s.safeView := by simp [State.coreLoad]

@[simp] theorem State.halfLoad_safeView (s : State) (g : Img) (h : Nat) :
    (s.halfLoad g h).safeView = s.safeView := by simp [State.halfLoad]

@[simp] theorem State.showCheck_safeView (s : State) (v : Nat) :
    (s.showCheck v).safeView = s.safeView := by simp [State.showCheck]

@[simp] theorem State.foldItems_safeView (s : State) (f : HubItem → HubItem) :
    (s.foldItems f).safeView = s.safeView := by simp [State.foldItems]

@[simp] theorem State.discardLane_safeView (s : State) (l : LaneId) :
    (s.discardLane l).safeView = s.safeView := by simp [State.discardLane]

@[simp] theorem State.updWin_safeView (s : State) (q : BitVec 32) (f : Win → Win) :
    (s.updWin q f).safeView = s.safeView := by simp [State.updWin]

@[simp] theorem State.splitWin_safeView (s : State) (q : BitVec 32) (a b : Judg) :
    (s.splitWin q a b).safeView = s.safeView := by
  unfold State.splitWin
  split <;> simp

@[simp] theorem State.hubPush_safeView (s : State) (i : HubItem) :
    (s.hubPush i).safeView = s.safeView := by simp [State.hubPush]

@[simp] theorem State.purgeWins_safeView (s : State) :
    s.purgeWins.safeView = s.safeView := by simp [State.purgeWins]

@[simp] theorem State.dropMade_safeView (s : State) (q : BitVec 32) :
    (s.dropMade q).safeView = s.safeView := by simp [State.dropMade]

@[simp] theorem State.openWin_safeView (s : State) (q : BitVec 32) :
    (s.openWin q).safeView = s.safeView := by
  unfold State.openWin
  split <;> simp

@[simp] theorem State.respTaken_safeView (s : State) (l : LaneId) (r : RdResp) :
    (s.respTaken l r).safeView = s.safeView := by simp [State.respTaken]

@[simp] theorem execSoloLateHalt_view (l : LaneId) (s : State) :
    outView (execSoloLateHalt l s) = some s.safeView := by simp [execSoloLateHalt]

@[simp] theorem State.bootUpd_safeView (s : State) (f : Boot → Boot) :
    (s.bootUpd f).safeView = s.safeView := by simp [State.bootUpd]

@[simp] theorem State.inPhase_safeView (s : State) (p : Nat) {f : State → State}
    (h : ∀ x, (f x).safeView = x.safeView) : (s.inPhase p f).safeView = s.safeView := by
  simp [State.inPhase, h]

@[simp] theorem State.wearResync_safeView (s : State) :
    s.wearResync.safeView = s.safeView := by simp [State.wearResync]

@[simp] theorem State.showSlot_safeView (s : State) (b : Bool) :
    (s.showSlot b).safeView = s.safeView := by simp [State.showSlot]

@[simp] theorem State.noImage_safeView (s : State) :
    s.noImage.safeView = s.safeView := by simp [State.noImage]

@[simp] theorem State.takeSlot_safeView (s : State) (b ok : Bool) :
    (s.takeSlot b ok).safeView = s.safeView := by simp [State.takeSlot]

@[simp] theorem State.rejectSlot_safeView (s : State) (b ok : Bool) :
    (s.rejectSlot b ok).safeView = s.safeView := by simp [State.rejectSlot]

@[simp] theorem State.selectLoop_safeView (s : State) (ok : Bool) (n : Nat) (cand : List Bool) :
    (s.selectLoop ok n cand).safeView = s.safeView := by
  induction n generalizing s cand with
  | zero => exact s.noImage_safeView
  | succ n ih =>
    unfold State.selectLoop
    extract_lets gen pick s1
    have h1 : s1.safeView = s.safeView := by simp [s1]
    clear_value pick s1
    split
    · exact s.noImage_safeView
    · simp [ih, h1]

@[simp] theorem State.showSlots_safeView (s : State) (l : List Bool) :
    (s.showSlots l).safeView = s.safeView := by simp [State.showSlots]

@[simp] theorem State.flashAnswered_safeView (s : State) :
    s.flashAnswered.safeView = s.safeView := by simp [State.flashAnswered]

@[simp] theorem State.selectSlot_safeView (s : State) (ok : Bool) :
    (s.selectSlot ok).safeView = s.safeView := by
  unfold State.selectSlot
  extract_lets s1 s2 among s3
  have h3 : s3.safeView = s.safeView := by simp [s3, s2, s1]
  simp [h3]

@[simp] theorem execSlotSelection_view (progOk : Bool) (s : State) :
    outView (execSlotSelection progOk s) = some s.safeView := by simp [execSlotSelection]

@[simp] theorem State.missingCheck_safeView (s : State) {k : State → State}
    (h : ∀ x, (k x).safeView = x.safeView) : (s.missingCheck k).safeView = s.safeView := by
  simp [State.missingCheck, h]

@[simp] theorem execMemoryInitSelftest_view (coreOk : BitVec 4) (shep1Ok shep2Ok : Bool)
    (s : State) :
    outView (execMemoryInitSelftest coreOk shep1Ok shep2Ok s) = some s.safeView := by
  simp [execMemoryInitSelftest]

@[simp] theorem State.loadFail_safeView (s : State) (b ok : Bool) :
    (s.loadFail b ok).safeView = s.safeView := by simp [State.loadFail]

@[simp] theorem State.rwEntries_safeView (s : State) (l : List (Nat × Word)) :
    (s.rwEntries l).1.safeView = s.safeView := by simp [State.rwEntries]

@[simp] theorem State.startSet_safeView (s : State) (g : Img) (agree : Bool) :
    (s.startSet g agree).safeView = s.safeView := by simp [State.startSet]

@[simp] theorem execSectionLoad_view (unitsAgree progOk : Bool) (coreFail : BitVec 4) (s : State) :
    outView (execSectionLoad unitsAgree progOk coreFail s) = some s.safeView := by
  refine congrArg some (State.inPhase_safeView s 4 fun x => ?_)
  dsimp only
  split
  · simp
  · split <;> simp

@[simp] theorem State.unitUp_safeView (s : State) (u : Nat) :
    (s.unitUp u).safeView = s.safeView := by simp [State.unitUp]

@[simp] theorem execEngineReload_view (fwdEth fwdFlk : Bool) (failed : List Nat) (s : State) :
    outView (execEngineReload fwdEth fwdFlk failed s) = some s.safeView := by
  simp [execEngineReload]

@[simp] theorem State.fieldAck_safeView (s : State) (ok : Bool) :
    (s.fieldAck ok).safeView = s.safeView := by simp [State.fieldAck]

@[simp] theorem execFieldReloadAck_view (crcOk : Bool) (s : State) :
    outView (execFieldReloadAck crcOk s) = some s.safeView := by simp [execFieldReloadAck]

@[simp] theorem State.reserveGone_safeView (s : State) :
    s.reserveGone.safeView = s.safeView := by simp [State.reserveGone]

@[simp] theorem State.startLanes_safeView (s : State) : s.startLanes.safeView = s.safeView := by
  refine State.foldl_fst_safeView (fun p l => ?_) _ _
  dsimp only
  split
  · rfl
  · split <;> simp

@[simp] theorem State.startMode_safeView (s : State) (m : Nat) :
    (s.startMode m).safeView = s.safeView := by simp [State.startMode]

@[simp] theorem State.startChecks_safeView (s : State) (miss1 miss2 : List Nat) :
    (s.startChecks miss1 miss2).safeView = s.safeView := by
  unfold State.startChecks
  extract_lets m1 m2 all s1 c s2 r s3 _ s4 s5 s6 s7
  have h1 : s1.safeView = s.safeView := by simp only [s1, State.fset_safeView]
  have h3 : s3.safeView = s.safeView := by
    clear_value s1
    simp [s3, s2, h1]
  clear_value s3
  have h5 : s5.safeView = s.safeView := by simp [s5, s4, h3]
  have h7 : s7.safeView = s.safeView := by simp [s7, s6, h5]
  clear_value s7 s5
  simp [h5, h7]

@[simp] theorem execStartupChecks_view (miss1 miss2 : List Nat) (s : State) :
    outView (execStartupChecks miss1 miss2 s) = some s.safeView := by simp [execStartupChecks]

@[simp] theorem State.sresult_safeView (s : State) (r : Nat) (resp : Resp) :
    (s.sresult r resp).safeView = s.safeView := by simp [State.sresult]

@[simp] theorem State.sloadStart_safeView (s : State) (key : Nat) (b : Bool) :
    (s.sloadStart key b).safeView = s.safeView := by simp [State.sloadStart]

@[simp] theorem execShadowLoadStart_view (key : BitVec 8) (slot : Bool) (s : State) :
    outView (execShadowLoadStart key slot s) = some s.safeView := by simp [execShadowLoadStart]

@[simp] theorem State.sloadAbort_safeView (s : State) (key : Nat) :
    (s.sloadAbort key).safeView = s.safeView := by simp [State.sloadAbort]

@[simp] theorem execShadowLoadAbort_view (key : BitVec 8) (s : State) :
    outView (execShadowLoadAbort key s) = some s.safeView := by simp [execShadowLoadAbort]

@[simp] theorem State.sloadDone_safeView (s : State) (g : Img) (agree : Bool) :
    (s.sloadDone g agree).safeView = s.safeView := by simp [State.sloadDone]

@[simp] theorem execShadowLoadDone_view (unitsAgree : Bool) (coreFail : BitVec 4) (s : State) :
    outView (execShadowLoadDone unitsAgree coreFail s) = some s.safeView := by
  unfold execShadowLoadDone
  split
  · simp
  · dsimp only
    split <;> simp

@[simp] theorem State.armSwap_safeView (s : State) (ok : Bool) :
    (s.armSwap ok).1.safeView = s.safeView := by simp [State.armSwap]

@[simp] theorem State.cfgSwap_safeView (s : State) (key : Nat) (ok : Bool) :
    (s.cfgSwap key ok).safeView = s.safeView := by simp [State.cfgSwap]

@[simp] theorem execCfgSwapArm_view (key : BitVec 8) (progOk : Bool) (s : State) :
    outView (execCfgSwapArm key progOk s) = some s.safeView := by simp [execCfgSwapArm]

@[simp] theorem State.cfgConfirm_safeView (s : State) (key : Nat) (ok : Bool) :
    (s.cfgConfirm key ok).safeView = s.safeView := by simp [State.cfgConfirm]

@[simp] theorem execCfgSwapConfirm_view (key : BitVec 8) (progOk : Bool) (s : State) :
    outView (execCfgSwapConfirm key progOk s) = some s.safeView := by simp [execCfgSwapConfirm]

@[simp] theorem execBootLockSet_view (s : State) :
    outView (execBootLockSet s) = some s.safeView := by simp [execBootLockSet]

@[simp] theorem execTrialTimerExpiry_view (s : State) :
    outView (execTrialTimerExpiry s) = some s.safeView := by simp [execTrialTimerExpiry]

@[simp] theorem execCanBusIntegration_view (n : BitVec 2) (s : State) :
    outView (execCanBusIntegration n s) = some s.safeView := by simp [execCanBusIntegration]

@[simp] theorem execCanFrameReceived_view (n : BitVec 2) (f : CanFrame) (s : State) :
    outView (execCanFrameReceived n f s) = some s.safeView := by simp [execCanFrameReceived]

@[simp] theorem execCanStartOfFrame_view (n : BitVec 2) (s : State) :
    outView (execCanStartOfFrame n s) = some s.safeView := by
  unfold execCanStartOfFrame
  dsimp only
  split
  · simp
  · split
    · split <;> simp
    · simp

@[simp] theorem execCanTransmissionEnd_view (n : BitVec 2) (r : CanTxEnd) (delay : Nat)
    (s : State) :
    outView (execCanTransmissionEnd n r delay s) = some s.safeView := by
  unfold execCanTransmissionEnd
  split
  · split
    · dsimp only
      split
      · simp
      · split
        · split <;> simp
        · split <;> simp
    · dsimp only
      split
      · simp
      · split
        · split <;> simp
        · split <;> simp
  · split
    · dsimp only
      split
      · simp
      · split
        · split <;> simp
        · split <;> simp
    · dsimp only
      split
      · simp
      · split
        · split <;> simp
        · split <;> simp

@[simp] theorem execCanError_view (n : BitVec 2) (e : CanErr) (s : State) :
    outView (execCanError n e s) = some s.safeView := by simp [execCanError]

@[simp] theorem State.canCmd_safeView (s : State) (n key : Nat) :
    (s.canCmd n key).safeView = s.safeView := by simp [State.canCmd]

@[simp] theorem execCanRecover_view (n : BitVec 2) (key : BitVec 8) (s : State) :
    outView (execCanRecover n key s) = some s.safeView := by simp [execCanRecover]

@[simp] theorem execCanRecoveryDone_view (n : BitVec 2) (s : State) :
    outView (execCanRecoveryDone n s) = some s.safeView := by
  unfold execCanRecoveryDone
  extract_lets k s1 s2
  have h2 : s2.safeView = s.safeView := by simp [s2, s1]
  have h3 := State.foldl_safeView (f := fun x b => if x.canSt k b = 4 then x.canSetSt k b 1 else x)
    (fun x b => by simp) [0, 1, 2] s2
  rw [outView_next, State.ite_safeView, h3, h2, ite_self]

@[simp] theorem State.canCancels_safeView (s : State) (n mask : Nat) :
    (s.canCancels n mask).safeView = s.safeView := by simp [State.canCancels]

@[simp] theorem execCanTxCancel_view (n : BitVec 2) (mask : BitVec 3) (s : State) :
    outView (execCanTxCancel n mask s) = some s.safeView := by simp [execCanTxCancel]

@[simp] theorem State.canAck_safeView (s : State) (n : Nat) (ack : Bool) :
    (s.canAck n ack).safeView = s.safeView := by simp [State.canAck]

@[simp] theorem execCanFifoAck_view (n : BitVec 2) (ack : Bool) (s : State) :
    outView (execCanFifoAck n ack s) = some s.safeView := by simp [execCanFifoAck]

@[simp] theorem State.migDed_safeView (s : State) (l : LaneId) (a : Nat) :
    (s.migDed l a).safeView = s.safeView := by simp [State.migDed]

@[simp] theorem State.migWord_safeView (s : State) (l : LaneId) (k : CoreId) (src dst : Nat) :
    (s.migWord l k src dst).safeView = s.safeView := by simp [State.migWord]

@[simp] theorem State.migCopy_safeView (s : State) (l : LaneId) (k : CoreId) (src dst n : Nat) :
    (s.migCopy l k src dst n).safeView = s.safeView := by simp [State.migCopy]

@[simp] theorem State.migEdge_safeView (s : State) (l : LaneId) (k : CoreId) (src dst e : Nat) :
    (s.migEdge l k src dst e).safeView = s.safeView := by simp [State.migEdge]

@[simp] theorem State.migLane_safeView (s : State) (m : Mig) (l : LaneId) :
    (s.migLane m l).safeView = s.safeView := by
  unfold State.migLane
  extract_lets k s1 s2 s3 s4
  have h1 : s1.safeView = s.safeView := State.foldl_safeView (fun x p => by simp) _ s
  have h2 : s2.safeView = s1.safeView := State.foldl_safeView (fun x c => by simp) _ s1
  have h3 : s3.safeView = s2.safeView := s2.privPut_safeView _ _ _
  have h4 : s4.safeView = s3.safeView := State.foldl_safeView (fun x e => by simp) _ s3
  rw [State.updLane_safeView, h4, h3, h2, h1]

@[simp] theorem State.migrate_safeView (s : State) (m : Mig) :
    (s.migrate m).safeView = s.safeView := by
  unfold State.migrate
  extract_lets live s1 s2 s3
  have h1 : s1.safeView = s.safeView := State.foldl_safeView (fun x l => x.updLane_safeView l _) _ s
  have h2 : s2.safeView = s1.safeView :=
    State.foldl_safeView (fun x l => x.migLane_safeView m l) _ s1
  have h3 : s3.safeView = s2.safeView := by simp [s3]
  rw [State.fset_safeView, State.fset_safeView, h3, h2, h1]

@[simp] theorem State.swapWords_safeView (s : State) (ok : Bool) :
    (s.swapWords ok).safeView = s.safeView := by simp [State.swapWords]

@[simp] theorem State.exchangeSets_safeView (s : State) :
    s.exchangeSets.safeView = s.safeView := by simp [State.exchangeSets]

@[simp] theorem State.sigFollow_safeView (s : State) (old : RegMap) :
    (s.sigFollow old).safeView = s.safeView := by simp [State.sigFollow]

@[simp] theorem State.engineSwap_safeView (s : State) (old : CfgSet) (oldRegs : RegMap) :
    (s.engineSwap old oldRegs).safeView = s.safeView := by
  unfold State.engineSwap
  extract_lets s1 s2 s3 s4
  have h1 : s1.safeView = s.safeView := by simp [s1]
  have h2 : s2.safeView = s1.safeView :=
    State.foldl_safeView (fun x n => x.canSwap_safeView n oldRegs) _ s1
  have h3 : s3.safeView = s2.safeView :=
    State.foldl_safeView (fun x n => x.drvSwap_safeView n old oldRegs) _ s2
  have h4 : s4.safeView = s3.safeView := s3.sigFollow_safeView oldRegs
  rw [State.when_safeView _ _ (fun x => x.timTo_safeView 0), h4, h3, h2, h1]

@[simp] theorem State.doSwap_safeView (s : State) (ok : Bool) :
    (s.doSwap ok).safeView = s.safeView := by simp [State.doSwap]

@[simp] theorem State.swapStep_safeView (s : State) (ok : Bool) :
    (s.swapStep ok).safeView = s.safeView := by simp [State.swapStep]

@[simp] theorem State.copyWord_safeView (s : State) (ks kd : CoreId) (off : Nat) :
    (s.copyWord ks kd off).safeView = s.safeView := by
  unfold State.copyWord
  dsimp only
  split <;> simp

@[simp] theorem State.copyRange_safeView (s : State) (ks kd : CoreId) (lo n : Nat) :
    (s.copyRange ks kd lo n).safeView = s.safeView := by simp [State.copyRange]

@[simp] theorem State.fullCopy_safeView (s : State) (src dst : LaneId) (kd : CoreId) :
    (s.fullCopy src dst kd).safeView = s.safeView := by simp [State.fullCopy]

@[simp] theorem State.triUpd_safeView (s : State) (f : Triad → Triad) :
    (s.triUpd f).safeView = s.safeView := by simp [State.triUpd]

@[simp] theorem State.startCopy_safeView (s : State) (l : LaneId) (k : CoreId) :
    (s.startCopy l k).safeView = s.safeView := by
  unfold State.startCopy
  split <;> simp

@[simp] theorem State.substitute_safeView (s : State) :
    s.substitute.safeView = s.safeView := by
  unfold State.substitute
  split <;> simp

@[simp] theorem State.regionHash_safeView (s : State) (k : CoreId) (r : Nat) :
    (s.regionHash k r).1.safeView = s.safeView := by simp [State.regionHash]

@[simp] theorem State.regionHashes_safeView (s : State) (r : Nat) (ls : List LaneId) :
    (s.regionHashes r ls).1.safeView = s.safeView := by simp [State.regionHashes]

@[simp] theorem State.reintegrate_safeView (s : State) :
    s.reintegrate.safeView = s.safeView := by
  unfold State.reintegrate
  split <;> simp

@[simp] theorem State.leave_safeView (s : State) (l : LaneId) :
    (s.leave l).safeView = s.safeView := by simp [State.leave]

@[simp] theorem State.setMode_safeView (s : State) (m : Nat) :
    (s.setMode m).safeView = s.safeView := by simp [State.setMode]

@[simp] theorem State.dropLost_safeView (s : State) :
    s.dropLost.safeView = s.safeView := by simp [State.dropLost]

@[simp] theorem State.toPair_safeView (s : State) :
    s.toPair.safeView = s.safeView := by simp [State.toPair]

@[simp] theorem State.toSolo_safeView (s : State) : s.toSolo.safeView = s.safeView := by
  unfold State.toSolo
  rw [State.setMode_safeView, State.dropLost_safeView]
  exact State.foldl_safeView (fun x l => by split <;> simp) _ s

@[simp] theorem State.soloSetup_safeView (s : State) (l : LaneId) :
    (s.soloSetup l).safeView = s.safeView := by simp [State.soloSetup]

@[simp] theorem State.joinLane_safeView (s : State) (l : LaneId) (k : CoreId) :
    (s.joinLane l k).safeView = s.safeView := by
  unfold State.joinLane
  dsimp only
  split <;> simp

@[simp] theorem State.triadToSolo_safeView (s : State) :
    s.triadToSolo.safeView = s.safeView := by
  unfold State.triadToSolo
  dsimp only
  split <;> simp

@[simp] theorem State.soloToTriad_safeView (s : State) :
    s.soloToTriad.safeView = s.safeView := by
  unfold State.soloToTriad
  split <;> simp

@[simp] theorem State.modeDone_safeView (s : State) :
    s.modeDone.safeView = s.safeView := by simp [State.modeDone]

@[simp] theorem State.modeRefuse_safeView (s : State) (r : Nat) :
    (s.modeRefuse r).safeView = s.safeView := by simp [State.modeRefuse]

@[simp] theorem State.handleMode_safeView (s : State) (q : Nat) :
    (s.handleMode q).safeView = s.safeView := by
  unfold State.handleMode
  split
  · simp
  · split
    · simp
    · split
      · simp
      · split
        · simp
        · simp
        · split
          · simp
          · split <;> simp
        · split
          · simp
          · split <;> simp

@[simp] theorem State.modeStep_safeView (s : State) (forced : Bool) :
    (s.modeStep forced).safeView = s.safeView := by
  unfold State.modeStep
  split
  · simp
  · split
    · dsimp only
      split <;> simp
    · dsimp only
      split <;> simp

@[simp] theorem State.joinWaiting_safeView (s : State) :
    s.joinWaiting.safeView = s.safeView := by
  unfold State.joinWaiting
  split <;> simp

@[simp] theorem State.sourceSeen_safeView (s : State) : s.sourceSeen.safeView = s.safeView :=
  State.foldl_safeView (fun x k => by split <;> simp) _ s

@[simp] theorem State.fillImage_safeView (s : State) :
    s.fillImage.safeView = s.safeView := by simp [State.fillImage]

@[simp] theorem State.updInput_safeView (s : State) :
    s.updInput.safeView = s.safeView := by
  unfold State.updInput
  split <;> simp

@[simp] theorem State.latchCycle_safeView (s : State) :
    s.latchCycle.safeView = s.safeView := by simp [State.latchCycle]

@[simp] theorem State.freshLanes_safeView (s : State) :
    s.freshLanes.safeView = s.safeView := by simp [State.freshLanes]

@[simp] theorem State.flipBanks_safeView (s : State) :
    s.flipBanks.safeView = s.safeView := by simp [State.flipBanks]

@[simp] theorem State.closeCycle_safeView (s : State) :
    s.closeCycle.safeView = s.safeView := by simp [State.closeCycle]

@[simp] theorem State.regionWrites_safeView (s : State) :
    s.regionWrites.safeView = s.safeView := by simp [State.regionWrites]

@[simp] theorem State.testOver_safeView (s : State) :
    s.testOver.safeView = s.safeView := by simp [State.testOver]

@[simp] theorem execDroveCycleStart_view (ch : Bool) (s : State) :
    outView (execDroveCycleStart ch s) = some s.safeView := by simp [execDroveCycleStart]

@[simp] theorem State.drvSend_safeView (s : State) (n : Nat) (b : List Byte) :
    (s.drvSend n b).safeView = s.safeView := by simp [State.drvSend]

@[simp] theorem execDroveRefSend_view (ch : Bool) (s : State) :
    outView (execDroveRefSend ch s) = some s.safeView := by
  unfold execDroveRefSend
  dsimp only
  split <;> simp

@[simp] theorem State.drvCold_safeView (s : State) (n : Nat) :
    (s.drvCold n).safeView = s.safeView := by simp [State.drvCold]

@[simp] theorem execDroveColdSend_view (ch : Bool) (s : State) :
    outView (execDroveColdSend ch s) = some s.safeView := by simp [execDroveColdSend]

@[simp] theorem execDroveSlotBufferCopy_view (ch : Bool) (slot : Nat) (s : State) :
    outView (execDroveSlotBufferCopy ch slot s) = some s.safeView := by
  simp [execDroveSlotBufferCopy]

@[simp] theorem execDroveSlotTransmit_view (ch : Bool) (slot : Nat) (s : State) :
    outView (execDroveSlotTransmit ch slot s) = some s.safeView := by simp [execDroveSlotTransmit]

@[simp] theorem execDroveDataFrameReceived_view (ch : Bool) (f : DroveFrame) (s : State) :
    outView (execDroveDataFrameReceived ch f s) = some s.safeView := by
  simp [execDroveDataFrameReceived]

@[simp] theorem execDroveRefReceived_view (ch : Bool) (f : DroveFrame) (s : State) :
    outView (execDroveRefReceived ch f s) = some s.safeView := by simp [execDroveRefReceived]

@[simp] theorem execDroveColdReceived_view (ch : Bool) (f : DroveFrame) (s : State) :
    outView (execDroveColdReceived ch f s) = some s.safeView := by simp [execDroveColdReceived]

@[simp] theorem execDroveListenTimeout_view (ch : Bool) (s : State) :
    outView (execDroveListenTimeout ch s) = some s.safeView := by simp [execDroveListenTimeout]

@[simp] theorem execDroveReadbackMismatch_view (ch : Bool) (s : State) :
    outView (execDroveReadbackMismatch ch s) = some s.safeView := by
  simp [execDroveReadbackMismatch]

@[simp] theorem execCrookBlock_view (ch : Bool) (s : State) :
    outView (execCrookBlock ch s) = some s.safeView := by simp [execCrookBlock]

@[simp] theorem execCrookColdstartWindow_view (ch : Bool) (s : State) :
    outView (execCrookColdstartWindow ch s) = some s.safeView := by simp [execCrookColdstartWindow]

@[simp] theorem State.drvCmd_safeView (s : State) (passive resume : Nat) :
    (s.drvCmd passive resume).safeView = s.safeView := by simp [State.drvCmd]

@[simp] theorem State.drvKeyed_safeView (s : State) (key passive resume : Nat) :
    (s.drvKeyed key passive resume).safeView = s.safeView := by simp [State.drvKeyed]

@[simp] theorem execDrvCmdPassive_view (key : BitVec 8) (mask : BitVec 2) (s : State) :
    outView (execDrvCmdPassive key mask s) = some s.safeView := by simp [execDrvCmdPassive]

@[simp] theorem execDrvCmdResume_view (key : BitVec 8) (mask : BitVec 2) (s : State) :
    outView (execDrvCmdResume key mask s) = some s.safeView := by simp [execDrvCmdResume]

@[simp] theorem execSwitchFrameReceived_view (port : Nat) (f : EthFrame) (s : State) :
    outView (execSwitchFrameReceived port f s) = some s.safeView := by
  have hp := s.prpReceive_safeView port s.dualComid f
  unfold execSwitchFrameReceived
  generalize s.prpReceive port s.dualComid f = r at hp ⊢
  obtain ⟨s1, _ | g⟩ := r <;> simp_all

@[simp] theorem execSwitchEgressTransmit_view (port : Nat) (s : State) :
    outView (execSwitchEgressTransmit port s) = some s.safeView := by
  unfold execSwitchEgressTransmit
  split
  · simp
  · split <;> simp

@[simp] theorem execMacEntryAgeing_view (mac : BitVec 48) (vid : BitVec 12) (s : State) :
    outView (execMacEntryAgeing mac vid s) = some s.safeView := by simp [execMacEntryAgeing]

@[simp] theorem State.mdioWrite_safeView (s : State) (v : Nat) :
    (s.mdioWrite v).safeView = s.safeView := by simp [State.mdioWrite]

@[simp] theorem execMdioAccess_view (v : BitVec 32) (s : State) :
    outView (execMdioAccess v s) = some s.safeView := by simp [execMdioAccess]

@[simp] theorem execMdioAccessDone_view (data : BitVec 16) (s : State) :
    outView (execMdioAccessDone data s) = some s.safeView := by simp [execMdioAccessDone]

@[simp] theorem execPrpSupervisionTick_view (pair : Bool) (s : State) :
    outView (execPrpSupervisionTick pair s) = some s.safeView := by simp [execPrpSupervisionTick]

@[simp] theorem execPrpEntryExpiry_view (pair : Bool) (src : BitVec 48) (seq : BitVec 16)
    (s : State) :
    outView (execPrpEntryExpiry pair src seq s) = some s.safeView := by
  simp [execPrpEntryExpiry]

@[simp] theorem State.arpLearn_safeView (s : State) (ip mac : Nat) :
    (s.arpLearn ip mac).safeView = s.safeView := by simp [State.arpLearn]

@[simp] theorem execArpRequestReceived_view (target sender : BitVec 32) (mac : BitVec 48)
    (s : State) :
    outView (execArpRequestReceived target sender mac s) = some s.safeView := by
  simp [execArpRequestReceived]

@[simp] theorem execArpCacheRefresh_view (ip : BitVec 32) (s : State) :
    outView (execArpCacheRefresh ip s) = some s.safeView := by simp [execArpCacheRefresh]

@[simp] theorem execIcmpEchoRequest_view (dst src : BitVec 32) (s : State) :
    outView (execIcmpEchoRequest dst src s) = some s.safeView := by simp [execIcmpEchoRequest]

@[simp] theorem execIgmpQueryReceived_view (s : State) :
    outView (execIgmpQueryReceived s) = some s.safeView := by simp [execIgmpQueryReceived]

@[simp] theorem execIpReassemblyTimeout_view (id : Nat) (s : State) :
    outView (execIpReassemblyTimeout id s) = some s.safeView := by simp [execIpReassemblyTimeout]

@[simp] theorem execEthLinkChange_view (port : Nat) (up : Bool) (speed : BitVec 2)
    (fullDuplex : Bool) (s : State) :
    outView (execEthLinkChange port up speed fullDuplex s) = some s.safeView := by
  simp [execEthLinkChange]

@[simp] theorem execFoldRingSyncLoss_view (s : State) :
    outView (execFoldRingSyncLoss s) = some s.safeView := by simp [execFoldRingSyncLoss]

@[simp] theorem execFoldRingSyncGain_view (s : State) :
    outView (execFoldRingSyncGain s) = some s.safeView := by simp [execFoldRingSyncGain]

@[simp] theorem execFoldFrameForward_view (f : FoldFrame) (s : State) :
    outView (execFoldFrameForward f s) = some s.safeView := by simp [execFoldFrameForward]

@[simp] theorem execFoldTagFreed_view (st : BitVec 4) (tag : BitVec 8) (s : State) :
    outView (execFoldTagFreed st tag s) = some s.safeView := by simp [execFoldTagFreed]

@[simp] theorem State.foldDone_safeView (s : State) (k t : Nat) :
    (s.foldDone k t).safeView = s.safeView := by simp [State.foldDone]

@[simp] theorem execFoldRspReceived_view (f : FoldFrame) (s : State) :
    outView (execFoldRspReceived f s) = some s.safeView := by
  refine congrArg some (State.foldIn_safeView s f 3 10 fun x => ?_)
  dsimp only
  split <;> simp

@[simp] theorem execFoldReadTimeout_view (st : BitVec 4) (tag : BitVec 8) (s : State) :
    outView (execFoldReadTimeout st tag s) = some s.safeView := by
  unfold execFoldReadTimeout
  dsimp only
  split <;> simp

@[simp] theorem execFoldWackReceived_view (f : FoldFrame) (s : State) :
    outView (execFoldWackReceived f s) = some s.safeView := by simp [execFoldWackReceived]

@[simp] theorem State.writeErr_safeView (s : State) (k seq code : Nat) :
    (s.writeErr k seq code).safeView = s.safeView := by
  unfold State.writeErr
  split <;> simp

@[simp] theorem execFoldWerrReceived_view (f : FoldFrame) (s : State) :
    outView (execFoldWerrReceived f s) = some s.safeView := by simp [execFoldWerrReceived]

@[simp] theorem execFoldWriteAckTimeout_view (st : BitVec 4) (seq : BitVec 16) (s : State) :
    outView (execFoldWriteAckTimeout st seq s) = some s.safeView := by
  simp [execFoldWriteAckTimeout]

@[simp] theorem execFoldSupTick_view (s : State) :
    outView (execFoldSupTick s) = some s.safeView := by simp [execFoldSupTick]

@[simp] theorem execFoldSupReturned_view (f : FoldFrame) (s : State) :
    outView (execFoldSupReturned f s) = some s.safeView := by simp [execFoldSupReturned]

@[simp] theorem execFoldScanTick_view (s : State) :
    outView (execFoldScanTick s) = some s.safeView := by simp [execFoldScanTick]

@[simp] theorem execFoldImginReceived_view (f : FoldFrame) (s : State) :
    outView (execFoldImginReceived f s) = some s.safeView := by simp [execFoldImginReceived]

@[simp] theorem execFoldMsgReceived_view (f : FoldFrame) (s : State) :
    outView (execFoldMsgReceived f s) = some s.safeView := by simp [execFoldMsgReceived]

@[simp] theorem State.enumq_safeView (s : State) :
    s.enumq.safeView = s.safeView := by simp [State.enumq]

@[simp] theorem execFoldEnumeration_view (s : State) :
    outView (execFoldEnumeration s) = some s.safeView := by simp [execFoldEnumeration]

@[simp] theorem State.enumAssign_safeView (s : State) (uid ident k : Nat) :
    (s.enumAssign uid ident k).safeView = s.safeView := by simp [State.enumAssign]

@[simp] theorem execFoldEnumqReturned_view (f : FoldFrame) (s : State) :
    outView (execFoldEnumqReturned f s) = some s.safeView := by
  refine congrArg some (State.foldIn_safeView s f 11 12 fun x => ?_)
  dsimp only
  split
  · rfl
  · split
    · simp
    · split <;> simp

@[simp] theorem execFoldStationLoad_view (st : BitVec 4) (s : State) :
    outView (execFoldStationLoad st s) = some s.safeView := by
  unfold execFoldStationLoad
  split
  · simp
  · split
    · dsimp only
      split <;> simp
    · dsimp only
      split
      · split <;> simp
      · simp

@[simp] theorem execFoldLackReceived_view (f : FoldFrame) (s : State) :
    outView (execFoldLackReceived f s) = some s.safeView := by
  refine congrArg some (State.foldIn_safeView s f 15 8 fun x => ?_)
  dsimp only
  split <;> simp

@[simp] theorem execFoldLackTimeout_view (st : BitVec 4) (s : State) :
    outView (execFoldLackTimeout st s) = some s.safeView := by
  unfold execFoldLackTimeout
  split <;> simp

@[simp] theorem State.ldAbort_safeView (s : State) (k : Nat) :
    (s.ldAbort k).safeView = s.safeView := by
  unfold State.ldAbort
  split <;> simp

@[simp] theorem State.ldReload_safeView (s : State) (k : Nat) :
    (s.ldReload k).safeView = s.safeView := by simp [State.ldReload]

@[simp] theorem State.ldCmd_safeView (s : State) (key action k : Nat) :
    (s.ldCmd key action k).safeView = s.safeView := by simp [State.ldCmd]

@[simp] theorem execFlkLdcmdAbort_view (key : BitVec 8) (st : BitVec 4) (s : State) :
    outView (execFlkLdcmdAbort key st s) = some s.safeView := by simp [execFlkLdcmdAbort]

@[simp] theorem execFlkLdcmdReload_view (key : BitVec 8) (st : BitVec 4) (s : State) :
    outView (execFlkLdcmdReload key st s) = some s.safeView := by simp [execFlkLdcmdReload]

@[simp] theorem State.lelPop_safeView (s : State) (pop : Bool) :
    (s.lelPop pop).safeView = s.safeView := by simp [State.lelPop]

@[simp] theorem execFlkLelpop_view (pop : Bool) (s : State) :
    outView (execFlkLelpop pop s) = some s.safeView := by simp [execFlkLelpop]

@[simp] theorem State.degClr_safeView (s : State) (mask : Nat) :
    (s.degClr mask).safeView = s.safeView := by simp [State.degClr]

@[simp] theorem execFlkDegclr_view (mask : BitVec 16) (s : State) :
    outView (execFlkDegclr mask s) = some s.safeView := by simp [execFlkDegclr]

@[simp] theorem execFlkSemAcquire_view (n : BitVec 4) (ini : Initiator) (s : State) :
    outView (execFlkSemAcquire n ini s) = some s.safeView := by simp [execFlkSemAcquire]

@[simp] theorem execFlkSemRelease_view (n : BitVec 4) (ini : Initiator) (s : State) :
    outView (execFlkSemRelease n ini s) = some s.safeView := by simp [execFlkSemRelease]

@[simp] theorem execFlkSemExpiry_view (n : BitVec 4) (s : State) :
    outView (execFlkSemExpiry n s) = some s.safeView := by simp [execFlkSemExpiry]

@[simp] theorem execPdPublishInstant_view (sess : Nat) (unitsAgree : Bool) (lateNs : Nat)
    (s : State) :
    outView (execPdPublishInstant sess unitsAgree lateNs s) = some s.safeView := by
  unfold execPdPublishInstant
  dsimp only
  split
  · simp
  · split
    · simp
    · split <;> simp

@[simp] theorem State.pairSession_safeView (s : State) (i : Nat) (f : PdFrame) :
    (s.pairSession i f).safeView = s.safeView := by simp [State.pairSession]

@[simp] theorem execPdFrameReceived_view (lan : Option Bool) (f : PdFrame) (unitsAgree : Bool)
    (s : State) :
    outView (execPdFrameReceived lan f unitsAgree s) = some s.safeView := by
  unfold execPdFrameReceived
  split
  · simp
  · split
    · simp
    · dsimp only
      split
      · simp
      · split <;> simp

@[simp] theorem execPdSessionTimeout_view (sess : Nat) (s : State) :
    outView (execPdSessionTimeout sess s) = some s.safeView := by simp [execPdSessionTimeout]

@[simp] theorem execDualWindowClose_view (sess : Nat) (s : State) :
    outView (execDualWindowClose sess s) = some s.safeView := by
  unfold execDualWindowClose
  split <;> simp

@[simp] theorem execDirectoryCommit_view (key : BitVec 8) (ofs : BitVec 24) (s : State) :
    outView (execDirectoryCommit key ofs s) = some s.safeView := by simp [execDirectoryCommit]

@[simp] theorem execDirectoryCopyDone_view (s : State) :
    outView (execDirectoryCopyDone s) = some s.safeView := by simp [execDirectoryCopyDone]

@[simp] theorem execMdMessageReceived_view (m : MdMsg) (s : State) :
    outView (execMdMessageReceived m s) = some s.safeView := by
  unfold execMdMessageReceived
  split <;> simp

@[simp] theorem execMdReplyTimeout_view (q : Nat) (s : State) :
    outView (execMdReplyTimeout q s) = some s.safeView := by simp [execMdReplyTimeout]

@[simp] theorem execRecorderEnvSample_view (tempDc : Int) (coreMv : Nat) (s : State) :
    outView (execRecorderEnvSample tempDc coreMv s) = some s.safeView := by
  simp [execRecorderEnvSample]

@[simp] theorem execRecorderSnapshotPeriod_view (s : State) :
    outView (execRecorderSnapshotPeriod s) = some s.safeView := by simp [execRecorderSnapshotPeriod]

@[simp] theorem State.recErase_safeView (s : State) : s.recErase.safeView = s.safeView := by
  unfold State.recErase
  extract_lets s1 _ s2
  have h1 : s1.safeView = s.safeView := by simp [s1]
  clear_value s1
  rw [State.foldl_safeView (fun x i => x.flashQueue_safeView _)]
  simp [s2, h1]

@[simp] theorem State.recCmd_safeView (s : State) (key : Nat) (erase snap : Bool) :
    (s.recCmd key erase snap).safeView = s.safeView := by simp [State.recCmd]

@[simp] theorem execRecCmdSnap_view (key : BitVec 8) (s : State) :
    outView (execRecCmdSnap key s) = some s.safeView := by simp [execRecCmdSnap]

@[simp] theorem execRecCmdErase_view (key : BitVec 8) (s : State) :
    outView (execRecCmdErase key s) = some s.safeView := by simp [execRecCmdErase]

@[simp] theorem State.sigClkBad_safeView (s : State) (n : Nat) :
    (s.sigClkBad n).safeView = s.safeView := by simp [State.sigClkBad]

@[simp] theorem execSdClockWindow_view (ch : BitVec 4) (edges : Nat) (s : State) :
    outView (execSdClockWindow ch edges s) = some s.safeView := by simp [execSdClockWindow]

@[simp] theorem execSdClockMissing_view (ch : BitVec 4) (s : State) :
    outView (execSdClockMissing ch s) = some s.safeView := by simp [execSdClockMissing]

@[simp] theorem execSdBitstreamStuck_view (ch : BitVec 4) (s : State) :
    outView (execSdBitstreamStuck ch s) = some s.safeView := by simp [execSdBitstreamStuck]

@[simp] theorem execSinc3Output_view (ch : BitVec 4) (bits : List Bool) (s : State) :
    outView (execSinc3Output ch bits s) = some s.safeView := by simp [execSinc3Output]

@[simp] theorem execEngineSlot_view (ch : BitVec 4) (s : State) :
    outView (execEngineSlot ch s) = some s.safeView := by simp [execEngineSlot]

@[simp] theorem State.sigRestartMask_safeView (s : State) (mask : Nat) :
    (s.sigRestartMask mask).safeView = s.safeView := by simp [State.sigRestartMask]

@[simp] theorem State.sigSync_safeView (s : State) :
    s.sigSync.safeView = s.safeView := by simp [State.sigSync]

@[simp] theorem execSigCmdRestart_view (mask : BitVec 12) (s : State) :
    outView (execSigCmdRestart mask s) = some s.safeView := by simp [execSigCmdRestart]

@[simp] theorem execSigCmdSync_view (s : State) :
    outView (execSigCmdSync s) = some s.safeView := by simp [execSigCmdSync]

@[simp] theorem execSyncDfEdge_view (falling : Bool) (s : State) :
    outView (execSyncDfEdge falling s) = some s.safeView := by simp [execSyncDfEdge]

@[simp] theorem execScsConversionStart_view (ch : BitVec 4) (bit : Bool) (s : State) :
    outView (execScsConversionStart ch bit s) = some s.safeView := by simp [execScsConversionStart]

@[simp] theorem execScsConversionDone_view (ch : BitVec 4) (bits : List Bool) (s : State) :
    outView (execScsConversionDone ch bits s) = some s.safeView := by simp [execScsConversionDone]

@[simp] theorem execPtpSyncReceived_view (m : PtpMsg) (s : State) :
    outView (execPtpSyncReceived m s) = some s.safeView := by simp [execPtpSyncReceived]

@[simp] theorem execPtpFollowUpReceived_view (m : PtpMsg) (s : State) :
    outView (execPtpFollowUpReceived m s) = some s.safeView := by
  unfold execPtpFollowUpReceived
  split <;> simp

@[simp] theorem State.timRequest_safeView (s : State) (port : Nat) (peer : Bool) :
    (s.timRequest port peer).safeView = s.safeView := by simp [State.timRequest]

@[simp] theorem execPtpDelayReqSend_view (port : Nat) (s : State) :
    outView (execPtpDelayReqSend port s) = some s.safeView := by
  unfold execPtpDelayReqSend
  split
  · simp
  · split
    · simp
    · split <;> simp

@[simp] theorem State.timSetDelay_safeView (s : State) (port : Nat) (d : Int) :
    (s.timSetDelay port d).safeView = s.safeView := by simp [State.timSetDelay]

@[simp] theorem execPtpDelayRespReceived_view (m : PtpMsg) (s : State) :
    outView (execPtpDelayRespReceived m s) = some s.safeView := by
  unfold execPtpDelayRespReceived
  split <;> simp

@[simp] theorem execPtpPdelayReqReceived_view (m : PtpMsg) (turnNs : Nat) (s : State) :
    outView (execPtpPdelayReqReceived m turnNs s) = some s.safeView := by
  simp [execPtpPdelayReqReceived]

@[simp] theorem execPtpPdelayRespReceived_view (m : PtpMsg) (s : State) :
    outView (execPtpPdelayRespReceived m s) = some s.safeView := by
  unfold execPtpPdelayRespReceived
  split <;> simp

@[simp] theorem execPtpPdelayRespFollowUp_view (m : PtpMsg) (s : State) :
    outView (execPtpPdelayRespFollowUp m s) = some s.safeView := by
  unfold execPtpPdelayRespFollowUp
  split <;> simp

@[simp] theorem execPtpAnnounceReceived_view (m : Announce) (s : State) :
    outView (execPtpAnnounceReceived m s) = some s.safeView := by simp [execPtpAnnounceReceived]

@[simp] theorem execAnnounceReceiptTimeout_view (s : State) :
    outView (execAnnounceReceiptTimeout s) = some s.safeView := by
  unfold execAnnounceReceiptTimeout
  split <;> simp

@[simp] theorem execPpsInEdge_view (refPpb : Int) (s : State) :
    outView (execPpsInEdge refPpb s) = some s.safeView := by simp [execPpsInEdge]

@[simp] theorem execPpsInMissing_view (s : State) :
    outView (execPpsInMissing s) = some s.safeView := by simp [execPpsInMissing]

@[simp] theorem execHoldoverExpiry_view (s : State) :
    outView (execHoldoverExpiry s) = some s.safeView := by simp [execHoldoverExpiry]

@[simp] theorem execTimAcceptJump_view (key : BitVec 8) (s : State) :
    outView (execTimAcceptJump key s) = some s.safeView := by simp [execTimAcceptJump]

@[simp] theorem execTimSecsetApply_view (key : BitVec 8) (s : State) :
    outView (execTimSecsetApply key s) = some s.safeView := by simp [execTimSecsetApply]

@[simp] theorem State.memRead_safeView (s : State) (i : HubItem) (bk : Bank) (off : Nat) :
    (s.memRead i bk off).safeView = s.safeView := by
  unfold State.memRead
  split
  · dsimp only
    split <;> simp
  · dsimp only
    split <;> simp

@[simp] theorem State.memWrite_safeView (s : State) (i : HubItem) (bk : Bank) (off : Nat) :
    (s.memWrite i bk off).safeView = s.safeView := by simp [State.memWrite]

@[simp] theorem State.memStore_safeView (s : State) (i : HubItem) (bk : Bank) (off : Nat) :
    (s.memStore i bk off).safeView = s.safeView := by
  unfold State.memStore
  split
  · simp
  · split <;> simp

@[simp] theorem State.memOut_safeView (s : State) (i : HubItem) :
    (s.memOut i).safeView = s.safeView := by
  unfold State.memOut
  split <;> simp

@[simp] theorem State.mdPortSend_safeView (s : State) (i : HubItem) :
    (s.mdPortSend i).safeView = s.safeView := by simp [State.mdPortSend]

@[simp] theorem State.mdPortRecv_safeView (s : State) (i : HubItem) (q : Nat) :
    (s.mdPortRecv i q).safeView = s.safeView := by simp [State.mdPortRecv]

@[simp] theorem State.regRead_safeView (s : State) (ini : Initiator) (a : Nat) :
    (s.regRead ini a).1.safeView = s.safeView := by
  unfold State.regRead
  split <;> simp

@[simp] theorem State.rwlFollow_safeView (s : State) (old : RegMap) :
    (s.rwlFollow old).safeView = s.safeView := by simp [State.rwlFollow]

@[simp] theorem State.rwlWrite_safeView (s : State) (a v : Nat) :
    (s.rwlWrite a v).safeView = s.safeView := by simp [State.rwlWrite]

@[simp] theorem State.plainWrite_safeView (s : State) (a v : Nat) :
    (s.plainWrite a v).safeView = s.safeView := by simp [State.plainWrite]

@[simp] theorem State.updStore_safeView (s : State) (v : Nat) :
    (s.updStore v).safeView = s.safeView :=
  State.updKey_safeView s _ (fun x => by split <;> simp)

theorem State.canStoreReg_safeView {s t : State} {n o v : Nat}
    (e : s.canStoreReg n o v = some t) : t.safeView = s.safeView := by
  unfold State.canStoreReg at e
  split at e
  · cases e
    simp
  · cases e
    simp
  · cases e
    simp
  · split at e <;> cases e
    simp

@[simp] theorem State.bkupAccess_safeView (s : State) (i : HubItem) :
    (s.bkupAccess i).safeView = s.safeView := by simp [State.bkupAccess]

@[simp] theorem State.xspiAccess_safeView (s : State) (i : HubItem) :
    (s.xspiAccess i).safeView = s.safeView := by simp [State.xspiAccess]

@[simp] theorem State.hubCredit_safeView (s : State) (i : HubItem) :
    (s.hubCredit i).safeView = s.safeView := by simp [State.hubCredit]

@[simp] theorem State.hubTake_safeView (s : State) (i : HubItem) :
    (s.hubTake i).safeView = s.safeView := by simp [State.hubTake]

@[simp] theorem execTargetResponseTimeout_view (c : HubCmd) (s : State) :
    outView (execTargetResponseTimeout c s) = some s.safeView := by
  unfold execTargetResponseTimeout
  split
  · simp
  · split <;> simp

@[simp] theorem execHeartbeatTick_view (s : State) :
    outView (execHeartbeatTick s) = some s.safeView := by simp [execHeartbeatTick]

@[simp] theorem execHeartbeatRecordReceived_view (eth : Bool) (r : HbRecord) (s : State) :
    outView (execHeartbeatRecordReceived eth r s) = some s.safeView := by
  simp [execHeartbeatRecordReceived]

@[simp] theorem execPartnerLinkTimeout_view (s : State) :
    outView (execPartnerLinkTimeout s) = some s.safeView := by simp [execPartnerLinkTimeout]

@[simp] theorem State.stnIn_safeView (s : State) (f : FoldFrame) (kind : Nat) (len : Nat → Bool)
    (own : Bool) {k : State → State} (h : ∀ x, (k x).safeView = x.safeView) :
    (s.stnIn f kind len own k).safeView = s.safeView := by
  simp [State.stnIn, h]

@[simp] theorem State.stnSend_safeView (s : State) (f : FoldFrame) (kind ts : Nat)
    (body : List Byte) :
    (s.stnSend f kind ts body).safeView = s.safeView := by
  simp [State.stnSend]

@[simp] theorem State.stnPass_safeView (s : State) (f : FoldFrame) (body : List Byte) :
    (s.stnPass f body).safeView = s.safeView := by simp [State.stnPass]

@[simp] theorem State.stnWrite_safeView (s : State) (o mask data : Nat) :
    (s.stnWrite o mask data).1.safeView = s.safeView := by
  unfold State.stnWrite
  split
  · simp
  · split
    · split
      · split
        · simp
        · dsimp only
          split <;> simp
      · split
        · simp
        · dsimp only
          split <;> simp
    · simp

@[simp] theorem execStationRd_view (f : FoldFrame) (s : State) :
    outView (execStationRd f s) = some s.safeView := by simp [execStationRd]

@[simp] theorem State.stnPerform_safeView (s : State) (f : FoldFrame) :
    (s.stnPerform f).safeView = s.safeView := by simp [State.stnPerform]

@[simp] theorem execStationWr_view (f : FoldFrame) (s : State) :
    outView (execStationWr f s) = some s.safeView := by simp [execStationWr]

@[simp] theorem execStationImgrd_view (f : FoldFrame) (s : State) :
    outView (execStationImgrd f s) = some s.safeView := by simp [execStationImgrd]

@[simp] theorem execStationImgout_view (f : FoldFrame) (s : State) :
    outView (execStationImgout f s) = some s.safeView := by simp [execStationImgout]

@[simp] theorem execStationSup_view (f : FoldFrame) (s : State) :
    outView (execStationSup f s) = some s.safeView := by simp [execStationSup]

@[simp] theorem execStationEnumq_view (f : FoldFrame) (s : State) :
    outView (execStationEnumq f s) = some s.safeView := by simp [execStationEnumq]

@[simp] theorem execStationEnumset_view (f : FoldFrame) (s : State) :
    outView (execStationEnumset f s) = some s.safeView := by simp [execStationEnumset]

@[simp] theorem execStationWatchdogExpiry_view (s : State) :
    outView (execStationWatchdogExpiry s) = some s.safeView := by simp [execStationWatchdogExpiry]

/-! ### SAFE_OUT_N: the claim for states in general -/

theorem safeOutLow.of_view {s t : State} (h : safeOutLow s) (e : t.safeView = s.safeView) :
    safeOutLow t := by
  simp only [State.safeView, Prod.mk.injEq] at e
  obtain ⟨hs, ha, hp⟩ := e
  unfold safeOutLow
  rw [hs, ha, hp]
  exact h

/-- With the ball low the claim holds, whatever is in force. -/
theorem safeOutLow.of_low {s : State} (h : s.safeView.2.2 = false) : safeOutLow s := fun _ => h

theorem safeOutLow.ite {c : Prop} [Decidable c] {a b : State} (ha : safeOutLow a)
    (hb : safeOutLow b) : safeOutLow (if c then a else b) := by
  split
  · exact ha
  · exact hb

theorem safeOutLow.when {s : State} {b : Bool} {f : State → State} (h : safeOutLow s)
    (hf : ∀ x, safeOutLow x → safeOutLow (f x)) : safeOutLow (s.when b f) := by
  cases b
  · exact h
  · exact hf s h

theorem safeOutLow.foldl {β : Type} {f : State → β → State}
    (hf : ∀ x b, safeOutLow x → safeOutLow (f x b)) (l : List β) {s : State} (h : safeOutLow s) :
    safeOutLow (l.foldl f s) :=
  List.foldlRecOn (motive := safeOutLow) l f h fun x hx b _ => hf x b hx

/-- A command goes on and keeps the claim. -/
theorem next_low {t : State} (h : safeOutLow t) : Yields (.next t) safeOutLow := ⟨t, rfl, h⟩

/-- A command that leaves the three values as they are keeps the claim. -/
theorem safeOutLow.of_outView {s : State} {o : Out} (h : safeOutLow s)
    (e : outView o = some s.safeView) : Yields o safeOutLow := by
  cases o with
  | next t => exact next_low (h.of_view (Option.some.inj e))
  | fault | refused => cases e

/-- What an instruction's operation answers keeps the claim, where it answers a state. -/
def IRes.safeOutLow : IRes → Prop
  | .done t => Machine.safeOutLow t
  | .goto t _ => Machine.safeOutLow t
  | .hold t => Machine.safeOutLow t
  | .trap _ _ => True
  | .ded t _ => Machine.safeOutLow t

/-! ### The device safe state and the service sets -/

/-- Entering the device safe state pulls SAFE_OUT_N low (R23); in force already, it changes
nothing. -/
theorem State.safeEnter_low {s : State} {code : Nat} (h : safeOutLow s) :
    safeOutLow (s.safeEnter code) := by
  unfold State.safeEnter
  split
  · exact h
  · exact .of_low (by simp)

theorem State.evalSets_low {s : State} (h : safeOutLow s) : safeOutLow s.evalSets := by
  unfold State.evalSets
  split
  · exact h
  · exact .ite (safeEnter_low h) (.ite h (.ite (safeEnter_low h) (.ite (h.of_view (by simp)) h)))

/-! ### Episodes of device reach -/

@[simp] theorem State.deviceClear_safeView (s : State) (cold : Bool) :
    (s.deviceClear cold).safeView = (false, s.rst.active, false) := by
  unfold State.deviceClear
  rw [State.paddocksAfter_safeView, State.record_safeView]
  rfl

@[simp] theorem State.episodeStart_safeView (s : State) (cold : Bool) :
    (s.episodeStart cold).safeView = (false, true, false) := by
  unfold State.episodeStart
  extract_lets s1 s2 r _ s3
  have h2 : s2.safeView = (false, s1.rst.active, false) := s1.deviceClear_safeView cold
  clear_value s2
  simp only [State.safeView, Prod.mk.injEq] at h2
  have hr : r.safe.isSome = false := h2.1
  simpa [s3, h2.2.2] using hr

@[simp] theorem State.episodeJoin_safeView (s : State) (cold : Bool) :
    (s.episodeJoin cold).safeView = (false, s.rst.active, false) := by
  simp only [State.episodeJoin, State.fset_safeView, State.deviceClear_safeView]

/-- A source of device reach that asserts has SAFE_OUT_N low (R80). -/
theorem State.assertDevice_low {s : State} {src : RstSrc} {cold : Bool} :
    safeOutLow (s.assertDevice src cold) := by
  unfold State.assertDevice
  extract_lets s1 s2 _
  have h1 : s1.safeView.2.2 = false := by
    unfold s1
    split <;> simp
  have h2 : s2.safeView = s1.safeView := s1.raise_safeView _
  clear_value s2 s1
  exact .of_low ((congrArg (·.2.2) h2).trans h1)

theorem State.clockFault_low {s : State} {code : Nat} : safeOutLow (s.clockFault code) :=
  assertDevice_low

theorem State.voterFault_low {s : State} {cause shep lane : Nat} :
    safeOutLow (s.voterFault cause shep lane) := assertDevice_low

theorem State.releaseEnd_low {s : State} (h : safeOutLow s) : safeOutLow s.releaseEnd := by
  have key (x : State) (hs : x.rst.safe = s.rst.safe) (ha : x.rst.active = false)
      (hp : x.pins.safeOut = s.pins.safeOut) : safeOutLow x := by
    intro hx
    rw [hp]
    refine h (hx.imp (fun hs' => hs ▸ hs') (fun ha' => ?_))
    rw [ha] at ha'
    cases ha'
  unfold State.releaseEnd
  extract_lets mode _ _ _ s1
  split
  · exact h.of_view (by simp)
  · have h1 : safeOutLow s1 := key s1 rfl rfl rfl
    clear_value s1
    exact .ite (h1.of_view (by simp)) (.ite (h1.of_view (by simp)) (h1.of_view (by simp)))

theorem State.releaseAdvance_low {s : State} (h : safeOutLow s) : safeOutLow s.releaseAdvance := by
  have hstep (x : State) (hx : x.safeView = s.safeView) :
      safeOutLow { x with rst := { x.rst with step := 8 } } := h.of_view (by simp [hx])
  refine .ite (.ite (releaseEnd_low (hstep _ ?_)) (hstep _ ?_)) h <;> simp

theorem State.rampNext_low {s : State} (h : safeOutLow s) : safeOutLow s.rampNext :=
  releaseAdvance_low (h.of_view (by simp))

theorem State.brownout_low {s : State} {r : Rail} {code : Nat} : safeOutLow (s.brownout r code) :=
  safeOutLow.when assertDevice_low fun _ hx => hx.of_view (by simp)

theorem execSupplyMonitorTrip_low {r : Rail} {s : State} (h : safeOutLow s) :
    Yields (execSupplyMonitorTrip r s) safeOutLow := by
  unfold execSupplyMonitorTrip
  extract_lets s1 _ s2 upd upd'
  have h1 : safeOutLow s1 := h.of_view (by simp [s1])
  have h2 : safeOutLow s2 := h1.of_view (by simp [s2])
  have hupd : safeOutLow upd := h1.of_view (by simp [upd])
  have hupd' : safeOutLow upd' := h1.of_view (by simp [upd'])
  clear_value upd upd' s1
  refine next_low ?_
  split
  · exact brownout_low
  · exact brownout_low
  · exact brownout_low
  · exact brownout_low
  · exact evalSets_low (h1.of_view (by simp))
  · exact evalSets_low (h1.of_view (by simp))
  · exact evalSets_low (h1.of_view (by simp))
  · exact evalSets_low (h1.of_view (by simp))
  · exact .ite (h2.of_view (by simp)) h2
  · exact hupd.of_view (by simp)
  · exact hupd'.of_view (by simp)

theorem execSupplyMonitorRelease_low {r : Rail} {st : Straps} {s : State} (h : safeOutLow s) :
    Yields (execSupplyMonitorRelease r st s) safeOutLow := by
  unfold execSupplyMonitorRelease
  extract_lets s1 group _ s2
  have h1 : safeOutLow s1 := h.of_view (by simp [s1])
  have hgroup : safeOutLow (group s1) := h1.of_view (by simp [group])
  clear_value s1
  refine next_low ?_
  split
  · exact (assertDevice_low (s := s2) (src := .por) (cold := true)).of_view (by simp)
  · exact h1.of_view (by simp)
  · exact h1.of_view (by simp)
  · exact h1.of_view (by simp)
  · exact hgroup
  · exact hgroup
  · exact h1.of_view (by simp)
  · exact h1.of_view (by simp)
  · exact h1.of_view (by simp)
  · exact h1.of_view (by simp)
  · exact h1.of_view (by simp)

theorem execPaddockPowerGood_low {s : State} (h : safeOutLow s) :
    Yields (execPaddockPowerGood s) safeOutLow := by
  refine next_low ?_
  split
  · exact rampNext_low (h.of_view (by simp))
  · split
    · exact h.of_view (by simp)
    · exact h

theorem execPaddockPowerTimeout_low {s : State} (h : safeOutLow s) :
    Yields (execPaddockPowerTimeout s) safeOutLow := by
  refine next_low ?_
  split
  · exact rampNext_low (h.of_view (by simp))
  · split
    · next p t _ =>
      extract_lets s1
      have h1 : safeOutLow s1 := h.of_view (by simp [s1])
      clear_value s1
      exact h1.of_view (by simp)
    · exact h

theorem execPlannedDrainExpiry_low {k : DrainKey} {s : State} (h : safeOutLow s) :
    Yields (execPlannedDrainExpiry k s) safeOutLow := by
  refine next_low ?_
  split
  · exact h.of_view (by simp)
  · split
    · exact evalSets_low (h.of_view (by simp))
    · exact h

theorem State.debugLocal_low {s : State} {target : Nat} {fits : Bool} (h : safeOutLow s) :
    safeOutLow (s.debugLocal target fits) :=
  .ite (evalSets_low (h.of_view (by simp))) (h.of_view (by simp))

theorem execDebugResetCommand_low {trstHigh : Bool} {reach : Reach} {target : Nat} {s : State}
    (h : safeOutLow s) : Yields (execDebugResetCommand trstHigh reach target s) safeOutLow := by
  refine next_low (.ite h ?_)
  split
  · exact assertDevice_low
  · exact assertDevice_low
  · exact debugLocal_low h
  · exact debugLocal_low h

theorem State.swrstWarm_low {s : State} {key : Nat} (h : safeOutLow s) :
    safeOutLow (s.swrstWarm key) := .ite assertDevice_low (h.of_view (by simp))

theorem State.swrstLocal_low {s : State} {key target : Nat} {paddock : Bool} (h : safeOutLow s) :
    safeOutLow (s.swrstLocal key target paddock) :=
  .ite (evalSets_low (h.of_view (by simp))) (h.of_view (by simp))

theorem State.writeSwrst_low {s : State} {v : Nat} (h : safeOutLow s) :
    safeOutLow (s.writeSwrst v) := by
  unfold State.writeSwrst
  split
  · exact swrstLocal_low h
  · exact swrstLocal_low h
  · exact swrstWarm_low h
  · exact h.of_view (by simp)

/-! ### Clock faults and CLOCK_HOLD -/

theorem execQualWindowEnd_low {o : Osc} {count : Nat} {s : State} (h : safeOutLow s) :
    Yields (execQualWindowEnd o count s) safeOutLow := by
  have hq : safeOutLow (s.hrc1Qualify.raise CLK_EVT_HRC1_REQUAL) := h.of_view (by simp)
  refine next_low ?_
  split
  · refine .ite h (.ite (h.of_view (by simp)) (.ite ?_ h))
    exact hq.when fun _ _ => clockFault_low
  · refine .ite h (.ite ?_ (.ite clockFault_low h))
    extract_lets s1
    have h1 : safeOutLow s1 := h.of_view (by simp [s1])
    clear_value s1
    exact h1.of_view (by simp)

theorem execPllLock_low {s : State} (h : safeOutLow s) : Yields (execPllLock s) safeOutLow := by
  have hlock : safeOutLow (((s.raise CLK_STAT_PLL_C_LOCK).raise CLK_STAT_PLL_V_LOCK).raise
      CLK_STAT_PLL_S_LOCK) := h.of_view (by simp)
  refine next_low (.ite (releaseAdvance_low ?_) h)
  generalize ((s.raise CLK_STAT_PLL_C_LOCK).raise CLK_STAT_PLL_V_LOCK).raise
    CLK_STAT_PLL_S_LOCK = s1 at hlock ⊢
  exact hlock.of_view (by simp)

/-- CLOCK_HOLD takes the first step of R23 (R111). -/
theorem State.enterHold_low {s : State} : safeOutLow s.enterHold := fun _ => rfl

theorem State.hrc1Loss_low {s : State} (h : safeOutLow s) : safeOutLow s.hrc1Loss := by
  unfold State.hrc1Loss
  extract_lets s1 _ s2
  have h1 : safeOutLow s1 := h.of_view (by simp [s1])
  clear_value s1
  have h2 : safeOutLow s2 := h1.of_view (by simp [s2])
  exact h2.when fun _ _ => enterHold_low

theorem State.xtalLoss_low {s : State} (h : safeOutLow s) : safeOutLow s.xtalLoss := by
  unfold State.xtalLoss
  extract_lets s1 _ s2
  have h1 : safeOutLow s1 := h.of_view (by simp [s1])
  clear_value s1
  have h2 : safeOutLow s2 := h1.of_view (by simp [s2])
  exact .ite (h2.of_view (by simp)) enterHold_low

/-- Table 05-3 leads to no loss, to one of the two losses, or to a clock fault. -/
theorem execMonitorWindowEnd_low {xh hh xh1 : Option Nat} {s : State} (h : safeOutLow s) :
    Yields (execMonitorWindowEnd xh hh xh1 s) safeOutLow := by
  refine next_low (h.when fun x hx => .ite (hx.of_view (by simp)) ?_)
  extract_lets _ _ _ xPair hPair x1Pair
  clear_value xPair hPair x1Pair
  split
  · exact hx.of_view (by simp)
  · exact hrc1Loss_low (hx.of_view (by simp))
  · exact xtalLoss_low (hx.of_view (by simp))
  · exact clockFault_low

/-- A missing edge is judged as the end of a window that finds both pairs of the crystal beyond
their limits. -/
theorem execMissingEdgeTrip_low {s : State} (h : safeOutLow s) :
    Yields (execMissingEdgeTrip s) safeOutLow := by
  have hwin := execMonitorWindowEnd_low (xh := some 20001) (hh := none) (xh1 := some 20001) h
  unfold execMissingEdgeTrip
  split
  · next hc =>
    rw [Bool.and_eq_true] at hc
    simpa [execMonitorWindowEnd, State.when, hc.1] using hwin
  · exact next_low h

/-! ### The barrier link -/

theorem State.linkFailure_low {s : State} (h : safeOutLow s) : safeOutLow s.linkFailure := by
  unfold State.linkFailure
  extract_lets s1 _ s2 s3
  have h1 : safeOutLow s1 := h.of_view (by simp [s1])
  clear_value s1
  have h2 : safeOutLow s2 := h1.of_view (by simp [s2])
  exact evalSets_low (h2.when fun _ => safeEnter_low)

/-! ### What every instruction shares -/

theorem State.safeDrain_low {s : State} (h : safeOutLow s) : safeOutLow s.safeDrain :=
  .ite (safeEnter_low h) h

theorem State.safeAction_low {s : State} {l : LaneId} (h : safeOutLow s) :
    safeOutLow (s.safeAction l) := .ite (h.of_view (by simp)) (safeDrain_low (h.of_view (by simp)))

theorem State.trapEnter_low {s : State} {l : LaneId} {code faddr resp : Nat} (h : safeOutLow s) :
    safeOutLow (s.trapEnter l code faddr resp) := by
  unfold State.trapEnter
  extract_lets _ _ t _ _ _ _ _ s1
  have ht : safeOutLow t := h.of_view (by simp [t])
  exact .ite (h.of_view (by simp)) (.ite (safeAction_low ht) (ht.of_view (by simp [s1])))

theorem State.instr_low {s : State} {l : LaneId} {f : State → Lane → IRes} (h : safeOutLow s)
    (hf : ∀ x y, safeOutLow x → (f x y).safeOutLow) : safeOutLow (s.instr l f) := by
  rcases s.instr_cases l f with e | e | e | ⟨u, hu, e⟩
  · rwa [e]
  · exact e.symm ▸ trapEnter_low h
  · exact e.symm ▸ h.of_view (by simp)
  · have hs : safeOutLow u := hu ▸ h.of_view (by simp)
    have hr := hf u (s.lane l) hs
    rcases e with ⟨_, _, e⟩ | ⟨t, _, hd, e⟩ | ⟨t, hd, e⟩ | ⟨t, hd, e⟩ | ⟨t, _, hd, e⟩
    · exact e.symm ▸ trapEnter_low hs
    all_goals rw [hd] at hr
    · exact e.symm ▸ hr.of_view (by simp)
    · exact e.symm ▸ hr
    · exact e.symm ▸ hr.of_view (by simp)
    · exact e.symm ▸ hr.of_view (by simp)

theorem State.instrLane_low {s : State} {l : LaneId} {f : Lane → Lane} (h : safeOutLow s) :
    safeOutLow (s.instrLane l f) := instr_low h fun _ _ hx => hx.of_view (by simp)

/-! ### Unit ends, jumps and calls -/

theorem State.endReady_low {s : State} {l : LaneId} (h : safeOutLow s) :
    safeOutLow (s.endReady l) := by
  unfold State.endReady
  split
  · exact trapEnter_low h
  · exact h.of_view (by simp)

theorem State.endBegin_low {s : State} {l : LaneId} {disp : Bool} (h : safeOutLow s) :
    safeOutLow (s.endBegin l disp) := by
  unfold State.endBegin
  extract_lets s1
  have h1 : safeOutLow s1 := h.of_view (by simp [s1])
  exact .ite (endReady_low h1) h1

theorem State.dispatch_low {s : State} {l : LaneId} {i : Nat} (h : safeOutLow s) :
    safeOutLow (s.dispatch l i) := by
  unfold State.dispatch
  split
  · exact endBegin_low h
  · exact h.of_view (by simp)

theorem IRes.safeOutLow.ite {c : Prop} [Decidable c] {a b : IRes} (ha : a.safeOutLow)
    (hb : b.safeOutLow) : (if c then a else b).safeOutLow := by
  split
  · exact ha
  · exact hb

theorem State.transfer_low {s : State} {l : LaneId} {x : Lane} {a : Nat} {unitEnd : Bool}
    (h : safeOutLow s) : (s.transfer l x a unitEnd).safeOutLow :=
  .ite (dispatch_low h) (.ite trivial (.ite trivial h))

theorem State.jump_low {s t : State} {a : Nat} (ht : safeOutLow t) : (s.jump a t).safeOutLow :=
  .ite trivial (.ite trivial ht)

theorem State.callFb_low {s : State} {l : LaneId} {x : Lane} {ib a : Nat} (h : safeOutLow s) :
    (s.callFb l x ib a).safeOutLow :=
  .ite trivial (.ite trivial (.ite trivial (.ite trivial (.ite trivial (h.of_view (by simp))))))

/-! ### Loads, stores and what instructions share -/

theorem State.localLoad_low {s : State} {l : LaneId} {a n : Nat} {k : State → Nat → IRes}
    (h : safeOutLow s) (hk : ∀ x y, safeOutLow x → (k x y).safeOutLow) :
    (s.localLoad l a n k).safeOutLow :=
  .ite trivial (.ite trivial (.ite h (hk _ _ (h.of_view (by simp)))))

theorem State.localStore_low {s : State} {l : LaneId} {a n v : Nat} (h : safeOutLow s) :
    (s.localStore l a n v).safeOutLow :=
  .ite trivial (.ite trivial (.ite h (h.of_view (by simp))))

theorem State.loadTo_low {s : State} {l : LaneId} {d : GReg} {a n : Nat} {signed : Bool}
    (h : safeOutLow s) : (s.loadTo l d a n signed).safeOutLow :=
  localLoad_low h fun _ _ hx => hx.of_view (by simp)

theorem State.genLoad_low {s : State} {l : LaneId} {d : GReg} {a n : Nat} {signed : Bool}
    (h : safeOutLow s) : (s.genLoad l d a n signed).safeOutLow := by
  refine .ite trivial (.ite (loadTo_low h) ?_)
  split
  · exact h.of_view (by simp)
  · exact h.of_view (by simp)

theorem State.sysop_low {s : State} {l : LaneId} {fn : Nat} {ok : Bool} {v : DWord}
    (h : safeOutLow s) : (s.sysop l fn ok v).safeOutLow := .ite (h.of_view (by simp)) trivial

theorem State.divide_low {s : State} {l : LaneId} {w : Bool} {b : GReg} {f : Lane → Lane}
    (h : safeOutLow s) : safeOutLow (s.divide l w b f) :=
  instr_low h fun _ _ hx => .ite trivial (hx.of_view (by simp))

theorem State.sized_low {s : State} {l : LaneId} {sz : BitVec 2} {f : State → Nat → Lane → IRes}
    (h : safeOutLow s) (hf : ∀ x y z, safeOutLow x → (f x y z).safeOutLow) :
    safeOutLow (s.sized l sz f) :=
  instr_low h fun _ _ hx => .ite trivial (hf _ _ _ hx)

theorem State.toInt_low {s : State} {l : LaneId} {p : Bool} {d a : GReg} {trunc : Bool}
    {lo hi : Int} (h : safeOutLow s) : safeOutLow (s.toInt l p d a trunc lo hi) := by
  refine instr_low h fun x y hx => ?_
  split
  · trivial
  · trivial
  · exact .ite trivial (hx.of_view (by simp))

theorem State.withSlot_low {s : State} {l : LaneId} {writes : Bool} {slot : BitVec 13}
    {f : State → Lane → Nat → IRes} (h : safeOutLow s)
    (hf : ∀ x y z, safeOutLow x → (f x y z).safeOutLow) :
    safeOutLow (s.withSlot l writes slot f) :=
  instr_low h fun _ _ hx => .ite trivial (.ite trivial (.ite hx (.ite (hx.of_view (by simp))
    (hf _ _ _ (hx.of_view (by simp))))))

theorem State.timer_low {s : State} {l : LaneId} {d p : GReg} {slot : BitVec 13}
    {f : Slot → Bool → Nat → Slot × Bool} (h : safeOutLow s) :
    safeOutLow (s.timer l d p slot f) :=
  withSlot_low h fun _ _ _ hx => hx.of_view (by simp)

theorem State.edge_low {s : State} {l : LaneId} {d : GReg} {bit : BitVec 19}
    {q : Bool → Bool → Bool} (h : safeOutLow s) : safeOutLow (s.edge l d bit q) := by
  refine instr_low h fun x y hx => .ite trivial (.ite hx ?_)
  split
  · exact hx.of_view (by simp)
  · exact hx.of_view (by simp)

theorem State.inRead_low {s : State} {l : LaneId} {d : GReg} {item : Nat} {signed : Bool}
    (h : safeOutLow s) : safeOutLow (s.inRead l d item signed) :=
  instr_low h fun _ _ hx => .ite trivial (hx.of_view (by simp))

theorem State.instrCond_low {s : State} {l : LaneId} {c : BitVec 5}
    {f : State → Lane → Bool → IRes} (h : safeOutLow s)
    (hf : ∀ x y z, safeOutLow x → (f x y z).safeOutLow) : safeOutLow (s.instrCond l c f) := by
  refine instr_low h fun x y hx => ?_
  split
  · trivial
  · exact hf _ _ _ hx

theorem State.shiftImm_low {s : State} {l : LaneId} {w : Bool} {n : BitVec 6} {f : Lane → Lane}
    (h : safeOutLow s) : safeOutLow (s.shiftImm l w n f) :=
  instr_low h fun _ _ hx => .ite trivial (hx.of_view (by simp))

theorem State.readDone_low {s : State} {l : LaneId} {d : ReadDest} {r : RdResp} {a : Nat}
    (h : safeOutLow s) : safeOutLow (s.readDone l d r a) :=
  .ite (trapEnter_low (h.of_view (by simp))) (h.of_view (by simp))

/-! ### Instructions with an operation of their own -/

theorem execMfs_low {l : LaneId} {d : GReg} {code : BitVec 3} {s : State} (h : safeOutLow s) :
    Yields (execMfs l d code s) safeOutLow := by
  refine next_low (instr_low h fun x y hx => ?_)
  split
  · exact hx.of_view (by simp)
  · trivial

theorem execMts_low {l : LaneId} {a : GReg} {code : BitVec 3} {s : State} (h : safeOutLow s) :
    Yields (execMts l a code s) safeOutLow := by
  refine next_low (instr_low h fun _ _ hx => ?_)
  extract_lets v w base stack upd
  have hupd : ∀ b f, (upd b f).safeOutLow := fun b f => .ite (hx.of_view (by simp)) trivial
  split
  · exact hupd _ _
  · exact hupd _ _
  · exact hupd _ _
  · exact hupd _ _
  · exact hupd _ _
  · trivial

theorem execSend_low {l : LaneId} {a d : GReg} {q : BitVec 8} {s : State} (h : safeOutLow s) :
    Yields (execSend l a d q s) safeOutLow :=
  next_low (instr_low h fun _ _ hx => .ite trivial (hx.of_view (by simp)))

theorem execOutItem_low {l : LaneId} {d : GReg} {item : BitVec 16} {s : State}
    (h : safeOutLow s) : Yields (execOutItem l d item s) safeOutLow :=
  next_low (instr_low h fun _ _ hx => .ite trivial (hx.of_view (by simp)))

theorem execRetTrap_low {l : LaneId} {s : State} (h : safeOutLow s) :
    Yields (execRetTrap l s) safeOutLow := by
  refine next_low (instr_low h fun x y hx => ?_)
  extract_lets _ _ s _ _ _ _ s1 s2 s2'
  have hseen (fr : List Nat) : safeOutLow (fr.foldl (fun t b => t.lseen l b) x) :=
    .foldl (fun _ _ ht => ht.of_view (by simp)) _ hx
  have h1 : safeOutLow s1 := hx.of_view (by simp [s1, s])
  clear_value s1
  have h2 : safeOutLow s2 := h1.of_view (by simp [s2])
  have h2' : safeOutLow s2' := by
    unfold s2'
    split
    · exact h1.of_view (by simp)
    · exact h1
  refine .ite trivial (.ite trivial ?_)
  split
  · exact hseen _
  · exact .ite (.ite (endBegin_low h2) h2) h2'

theorem execRetFb_low {l : LaneId} {s : State} (h : safeOutLow s) :
    Yields (execRetFb l s) safeOutLow :=
  next_low (instr_low h fun _ _ hx => .ite trivial (.ite trivial (.ite trivial (.ite hx
    (.ite (hx.of_view (by simp)) (hx.of_view (by simp)))))))

theorem execChk_low {l : LaneId} {a b : GReg} {s : State} (h : safeOutLow s) :
    Yields (execChk l a b s) safeOutLow := next_low (instr_low h fun _ _ hx => .ite trivial hx)

theorem execNrw_low {l : LaneId} {sz : BitVec 2} {d a : GReg} {s : State} (h : safeOutLow s) :
    Yields (execNrw l sz d a s) safeOutLow :=
  next_low (sized_low h fun _ _ _ hx => .ite (hx.of_view (by simp)) trivial)

theorem execNrwu_low {l : LaneId} {sz : BitVec 2} {d a : GReg} {s : State} (h : safeOutLow s) :
    Yields (execNrwu l sz d a s) safeOutLow :=
  next_low (sized_low h fun _ _ _ hx => .ite (hx.of_view (by simp)) trivial)

theorem execLdu_low {l : LaneId} {sz : BitVec 2} {d a : GReg} {imm : BitVec 16} {s : State}
    (h : safeOutLow s) : Yields (execLdu l sz d a imm s) safeOutLow :=
  next_low (instr_low h fun _ _ hx => .ite trivial (genLoad_low hx))

theorem execSt_low {l : LaneId} {sz : BitVec 2} {d a : GReg} {imm : BitVec 16} {s : State}
    (h : safeOutLow s) : Yields (execSt l sz d a imm s) safeOutLow :=
  next_low (instr_low h fun _ _ hx => .ite trivial (.ite (localStore_low hx)
    (hx.of_view (by simp))))

theorem execI2bcd_low {l : LaneId} {d a : GReg} {s : State} (h : safeOutLow s) :
    Yields (execI2bcd l d a s) safeOutLow :=
  next_low (instr_low h fun _ _ hx => .ite trivial (hx.of_view (by simp)))

theorem execBcd2i_low {l : LaneId} {d a : GReg} {s : State} (h : safeOutLow s) :
    Yields (execBcd2i l d a s) safeOutLow :=
  next_low (instr_low h fun _ _ hx => .ite trivial (hx.of_view (by simp)))

theorem execBr_low {l : LaneId} {cond : BitVec 5} {disp : BitVec 21} {s : State}
    (h : safeOutLow s) : Yields (execBr l cond disp s) safeOutLow :=
  next_low (instrCond_low h fun _ _ _ hx => .ite (jump_low hx) hx)

theorem execCallr_low {l : LaneId} {a : GReg} {s : State} (h : safeOutLow s) :
    Yields (execCallr l a s) safeOutLow :=
  next_low (instr_low h fun _ _ hx => .ite (dispatch_low (hx.of_view (by simp)))
    (jump_low (hx.of_view (by simp))))

theorem execEndCommitWaitDone_low {l : LaneId} {s : State} (h : safeOutLow s) :
    Yields (execEndCommitWaitDone l s) safeOutLow := by
  refine next_low ?_
  split
  · exact .ite (endReady_low h) h
  · exact h

/-! ### Verdicts, stray lanes and what voting performs -/

theorem State.retireCore_low {s : State} {k : CoreId} (h : safeOutLow s) :
    safeOutLow (s.retireCore k) := by
  have htri (x : State) (f : Triad) (hx : x.safeView = s.safeView) :
      safeOutLow { x with triad := f } := h.of_view (by simp [hx])
  unfold State.retireCore
  extract_lets s1 s2 _ s3
  have h2 : s2.safeView = s.safeView := by simp [s2, s1]
  clear_value s2
  have h3 : safeOutLow s3 := by
    unfold s3
    split
    · exact htri _ _ (by simp [h2])
    · exact htri _ _ h2
  exact evalSets_low h3

theorem State.stray_low {s : State} {l : LaneId} {cause kind cls : Nat} (h : safeOutLow s) :
    safeOutLow (s.stray l cause kind cls) := by
  unfold State.stray
  extract_lets k s1 s2 s3 s4 _ s5
  have h1 : s1.safeView = s.safeView := by simp [s1]
  have h2 : s2.safeView = s1.safeView := by simp [s2]
  have h3 : s3.safeView = s2.safeView := by simp [s3]
  have h5 : safeOutLow s5 := h.of_view (by simp [s5, s4, h3, h2, h1])
  clear_value s5
  exact .ite (retireCore_low h5) h5

theorem State.judgeWin_low {s : State} {q : BitVec 32} {closed : Bool} (h : safeOutLow s) :
    safeOutLow (s.judgeWin q closed) := by
  unfold State.judgeWin
  split
  · exact h
  · extract_lets _ a b
    clear_value a b
    refine .ite (h.of_view (by simp)) ?_
    split
    · exact h
    · exact safeEnter_low h
    · exact .foldl (fun _ _ => stray_low) _ (.foldl (fun _ _ => stray_low) _
        (h.of_view (by simp)))

theorem State.judge_low {s : State} {q : BitVec 32} {closed : Bool} (h : safeOutLow s) :
    safeOutLow (s.judge q closed) :=
  have h1 : safeOutLow (s.judgeWin q closed) := judgeWin_low h
  .ite (.foldl (fun _ _ => judgeWin_low) _ h1) h1

theorem State.sysopDone_low {s : State} {fn : Nat} {v : DWord} (h : safeOutLow s) :
    safeOutLow (s.sysopDone fn v) := by
  unfold State.sysopDone
  split
  · exact h.of_view (by simp)
  · exact safeEnter_low h
  · exact h.of_view (by simp)
  · exact h

theorem State.perform_low {s : State} {ini : Initiator} {t : Txn} {lanes : List LaneId}
    (h : safeOutLow s) : safeOutLow (s.perform ini t lanes) := by
  unfold State.perform
  split
  · exact (sysopDone_low (fn := t.addr) (v := t.data) h).of_view (by simp)
  · exact h.of_view (by simp)
  · exact h.of_view (by simp)

theorem State.releaseWin_low {s : State} {w : Win} (h : safeOutLow s) :
    safeOutLow (s.releaseWin w).1 := by
  unfold State.releaseWin
  extract_lets done _ s1
  have hdone (x : State) (hx : safeOutLow x) : safeOutLow (done x) := hx.of_view (by simp [done])
  have h1 : safeOutLow s1 := h.of_view (by simp [s1])
  clear_value s1 done
  split
  · exact h
  · split
    · split
      · exact h
      · split
        · exact h
        · split
          · exact hdone _ h
          · exact perform_low (hdone _ h1)
    · split
      · exact h
      · split
        · exact h.of_view (by simp)
        · exact h
      · exact h

theorem State.releaseFrom_low {s : State} {ws : List Win} (h : safeOutLow s) :
    safeOutLow (s.releaseFrom ws) := by
  induction ws generalizing s with
  | nil => exact h
  | cons w ws ih =>
    have hw : safeOutLow (s.releaseWin w).1 := releaseWin_low h
    unfold State.releaseFrom
    split
    · next e =>
      rw [e] at hw
      exact ih hw
    · next e =>
      rw [e] at hw
      exact hw

theorem State.releaseAll_low {s : State} (h : safeOutLow s) : safeOutLow s.releaseAll :=
  safeDrain_low ((releaseFrom_low (ws := s.triad.wins) h).of_view (by simp))

theorem State.forward_low {s : State} {l : LaneId} {t : Txn} (h : safeOutLow s) :
    safeOutLow (s.forward l t) :=
  .ite (safeAction_low h) (.ite h (.ite (.ite (h.of_view (by simp)) (h.of_view (by simp)))
    (.ite (h.of_view (by simp)) (perform_low h))))

theorem State.arrive_low {s : State} {l : LaneId} {t u : Txn} (h : safeOutLow s) :
    safeOutLow (s.arrive l t u) := by
  unfold State.arrive
  extract_lets s1 s2 s3 s4
  have h3 : safeOutLow s3 := h.of_view (by simp [s3, s2, s1])
  have h4 : safeOutLow s4 := judge_low h3
  exact releaseAll_low (.ite h4 (judge_low h4))

theorem execShepherdTransaction_low {l : LaneId} {flips : List (Bool × Nat)} {s : State}
    (h : safeOutLow s) : Yields (execShepherdTransaction l flips s) safeOutLow := by
  unfold execShepherdTransaction
  refine next_low ?_
  split
  · exact h
  · extract_lets s1
    have h1 : safeOutLow s1 := h.of_view (by simp [s1])
    exact .ite h (.ite voterFault_low (.ite (arrive_low h1)
      (.ite (.ite (safeDrain_low (forward_low h1)) voterFault_low) h1)))

theorem execVerdictExchange_low {seq : BitVec 32} {same : Bool} {s : State} (h : safeOutLow s) :
    Yields (execVerdictExchange seq same s) safeOutLow := by
  refine next_low ?_
  split
  · split
    · exact .ite h (.ite (releaseAll_low (h.of_view (by simp))) voterFault_low)
    · exact h
  · exact h

theorem execVerdictExchangeTimeout_low {seq : BitVec 32} {second : Bool} {s : State}
    (h : safeOutLow s) : Yields (execVerdictExchangeTimeout seq second s) safeOutLow := by
  refine next_low ?_
  split
  · split
    · exact .ite h voterFault_low
    · exact h
  · exact h

theorem execReplicatedReadResponse_low {l : LaneId} {flips : List (Bool × Nat)} {s : State}
    (h : safeOutLow s) : Yields (execReplicatedReadResponse l flips s) safeOutLow := by
  unfold execReplicatedReadResponse
  refine next_low ?_
  split
  · exact h
  · extract_lets _ _ _ _ _ s1 _ s2
    have h1 : safeOutLow s1 := h.of_view (by simp [s1])
    have h2 : safeOutLow s2 := h1.of_view (by simp [s2])
    refine .ite voterFault_low (.ite voterFault_low (.ite (.ite (h2.of_view (by simp)) h2) ?_))
    split
    · exact .ite (readDone_low h1) h1
    · exact h1

theorem execRuntimeInjectionFlagged_low {shep1 shep2 : Bool} {s : State} (h : safeOutLow s) :
    Yields (execRuntimeInjectionFlagged shep1 shep2 s) safeOutLow := by
  unfold execRuntimeInjectionFlagged
  extract_lets _ s1
  have h1 : safeOutLow s1 := h.of_view (by simp [s1])
  clear_value s1
  exact next_low (.ite h (.ite (h1.of_view (by simp)) voterFault_low))

/-! ### The cycle boundary -/

theorem State.substituted_low {s : State} {l : LaneId} {k : CoreId} {pass : Bool}
    (h : safeOutLow s) : safeOutLow (s.substituted l k pass) :=
  .ite (h.of_view (by simp)) (.when (retireCore_low (h.of_view (by simp)))
    fun _ hx => hx.of_view (by simp))

theorem State.latent_low {s : State} {l src : LaneId} {r n : Nat} (h : safeOutLow s) :
    safeOutLow (s.latent l src r n) :=
  .ite (stray_low (h.of_view (by simp))) (h.of_view (by simp))

theorem State.surveyRegion_low {s : State} {r n : Nat} (h : safeOutLow s) :
    safeOutLow (s.surveyRegion r n) := by
  unfold State.surveyRegion
  extract_lets x s'
  have hs : safeOutLow s' := h.of_view (by simp [s', x])
  clear_value s'
  refine .ite hs ?_
  split
  · exact latent_low hs
  · exact safeEnter_low hs

theorem State.survey_low {s : State} {n : Nat} (h : safeOutLow s) : safeOutLow (s.survey n) := by
  unfold State.survey
  extract_lets _ _ s1
  have h1 : safeOutLow s1 := .ite h (surveyRegion_low h)
  clear_value s1
  exact .ite h (h1.of_view (by simp))

theorem State.reintegrated_low {s : State} {l : LaneId} {k : CoreId} {pass : Bool}
    (h : safeOutLow s) : safeOutLow (s.reintegrated l k pass) :=
  .ite (h.of_view (by simp)) (retireCore_low (h.of_view (by simp)))

theorem State.unmarked_low {s : State} (h : safeOutLow s) : safeOutLow s.unmarked :=
  .ite h (.ite (safeEnter_low h) (h.of_view (by simp)))

theorem State.joined_low {s : State} {l : LaneId} {k : CoreId} {pass : Bool} (h : safeOutLow s) :
    safeOutLow (s.joined l k pass) := by
  have h1 : safeOutLow ((s.raise TRI_EVT_REINT_FAIL).retireCore k) :=
    retireCore_low (h.of_view (by simp))
  exact .ite (.ite (h.of_view (by simp)) (h.of_view (by simp)))
    (.ite (h1.of_view (by simp)) h1)

theorem State.waitTest_low {s : State} {stage : Nat} {k : State → State} (h : safeOutLow s)
    (hk : ∀ x, safeOutLow x → safeOutLow (k x)) : safeOutLow (s.waitTest stage k) :=
  .ite (hk _ h) (h.of_view (by simp))

theorem State.standbyTest_low {s : State} {k : State → State} (h : safeOutLow s)
    (hk : ∀ x, safeOutLow x → safeOutLow (k x)) : safeOutLow (s.standbyTest k) := by
  refine .ite ?_ (hk _ h)
  split
  · exact voterFault_low
  · exact hk _ (h.of_view (by simp))

theorem State.beginLane_low {s : State} {l : LaneId} (h : safeOutLow s) :
    safeOutLow (s.beginLane l) := by
  unfold State.beginLane
  extract_lets s1
  have h1 : safeOutLow s1 := h.of_view (by simp [s1])
  clear_value s1
  refine .ite h1 ?_
  split
  · exact h1.of_view (by simp)
  · exact .ite (endBegin_low h1) (dispatch_low h1)

theorem State.inputPhase_low {s : State} (h : safeOutLow s) : safeOutLow s.inputPhase := by
  unfold State.inputPhase
  extract_lets s1 s2 s3 s4
  have h4 : safeOutLow s4 := h.of_view (by simp [s4, s3, s2, s1])
  clear_value s4
  have h5 : safeOutLow (s4.running.foldl State.beginLane s4) :=
    .foldl (fun _ _ => beginLane_low) _ h4
  exact h5.of_view (by simp)

theorem State.boundaryEnd_low {s : State} (h : safeOutLow s) : safeOutLow s.boundaryEnd :=
  standbyTest_low (h.of_view (by simp)) fun _ hx => inputPhase_low (hx.of_view (by simp))

theorem State.boundaryMode_low {s : State} {forced : Bool} (h : safeOutLow s) :
    safeOutLow (s.boundaryMode forced) :=
  waitTest_low ((unmarked_low h).of_view (by simp)) fun _ => boundaryEnd_low

theorem State.boundarySwap_low {s : State} {forced : Bool} (h : safeOutLow s) :
    safeOutLow (s.boundarySwap forced) :=
  waitTest_low (h.of_view (by simp)) fun _ => boundaryMode_low

theorem State.boundarySurvey_low {s : State} {forced : Bool} (h : safeOutLow s) :
    safeOutLow (s.boundarySurvey forced) := by
  unfold State.boundarySurvey
  extract_lets s1
  have h1 : safeOutLow s1 := .ite h (survey_low h)
  clear_value s1
  exact waitTest_low (h1.of_view (by simp)) fun _ => boundarySwap_low

theorem State.active_of_view {s t : State} (e : t.safeView = s.safeView) :
    t.rst.active = s.rst.active := congrArg (·.2.1) e

theorem State.safeEnter_active {s : State} {code : Nat} :
    (s.safeEnter code).rst.active = s.rst.active := by
  change (s.safeEnter code).safeView.2.1 = s.rst.active
  unfold State.safeEnter
  split
  · rfl
  · simp

theorem State.evalSets_active {s : State} : s.evalSets.rst.active = s.rst.active := by
  unfold State.evalSets
  split
  · rfl
  · split
    · exact safeEnter_active
    · split
      · rfl
      · split
        · exact safeEnter_active
        · exact active_of_view (by simp)

/-- The first cycle releases SAFE_OUT_N only without a device safe state, and it starts outside
every episode. -/
theorem State.firstCycle_low {s : State} (h : safeOutLow s) (ha : s.rst.active = false) :
    safeOutLow s.firstCycle := by
  unfold State.firstCycle
  extract_lets _ s1 s2
  have h2 : s2.safeView = s.safeView := by simp [s2, s1]
  have ha2 : s2.rst.active = false := (active_of_view h2).trans ha
  split
  · exact h.of_view h2
  · next hs =>
    intro hx
    rcases hx with hx | hx
    · exact absurd hx hs
    · exact absurd (ha2.symm.trans hx) Bool.false_ne_true

theorem State.boundaryBegin_low {s : State} {ok : Bool} {sweep : Option (Nat × BitVec 2)}
    (h : safeOutLow s) (ha : s.rst.active = false) : safeOutLow (s.boundaryBegin ok sweep) := by
  unfold State.boundaryBegin
  extract_lets s1 _ s2 s3 s4 s5
  have h1 : safeOutLow s1 := .ite (h.of_view (by simp))
    (firstCycle_low (evalSets_low h) (evalSets_active.trans ha))
  clear_value s1
  have h2 : safeOutLow s2 := h1.of_view (by simp [s2])
  clear_value s2
  have h3 : safeOutLow s3 := by
    have he : safeOutLow (s2.fset CYC_STAT_PHASE 0).regionWrites.evalSets :=
      evalSets_low (h2.of_view (by simp))
    exact he.of_view (by simp [s3])
  clear_value s3
  have h5 : safeOutLow s5 := h3.of_view (by simp [s5, s4])
  clear_value s5
  exact waitTest_low (h5.of_view (by simp)) fun _ => boundarySurvey_low

theorem State.boundaryDue_active {s : State} (h : s.boundaryDue = true) :
    s.rst.active = false := by
  simp only [State.boundaryDue, Bool.and_eq_true, Bool.not_eq_true'] at h
  exact h.1.1.1.2

theorem safeOutLow.when_of {s : State} {b : Bool} {f : State → State} (h : safeOutLow s)
    (hf : b = true → safeOutLow (f s)) : safeOutLow (s.when b f) := by
  cases b
  · exact h
  · exact hf rfl

theorem execCycleBoundary_low {progOk : Bool} {sweepMiss : Option (Nat × BitVec 2)} {s : State}
    (h : safeOutLow s) : Yields (execCycleBoundary progOk sweepMiss s) safeOutLow := by
  refine next_low (h.when_of fun hd => ?_)
  split
  · exact h.of_view (by simp)
  · exact boundaryBegin_low h (boundaryDue_active hd)

theorem execSubstitutionSelftestDone_low {l : LaneId} {pass : Bool} {s : State}
    (h : safeOutLow s) : Yields (execSubstitutionSelftestDone l pass s) safeOutLow := by
  refine next_low ?_
  split
  · exact boundarySurvey_low (substituted_low (h.of_view (by simp)))
  · exact h

theorem execReintegrationSelftestDone_low {l : LaneId} {pass : Bool} {s : State}
    (h : safeOutLow s) : Yields (execReintegrationSelftestDone l pass s) safeOutLow := by
  have h1 : safeOutLow s.testOver := h.of_view (by simp)
  refine next_low ?_
  split
  · split
    · exact boundarySwap_low (reintegrated_low h1)
    · exact boundaryMode_low (joined_low h1)
    · exact boundaryEnd_low (joined_low h1)
  · exact h

theorem execReserveSelftestFail_low {s : State} (h : safeOutLow s) :
    Yields (execReserveSelftestFail s) safeOutLow :=
  next_low (.ite ((retireCore_low (k := .d) h).of_view (by simp)) h)

theorem execSheepdogTrip_low {s : State} (h : safeOutLow s) :
    Yields (execSheepdogTrip s) safeOutLow := next_low (h.when fun _ _ => assertDevice_low)

/-! ### Stores to the registers, and the hub -/

theorem State.cmdStore_low {s t : State} {a v : Nat} (h : safeOutLow s)
    (e : s.cmdStore a v = some t) : safeOutLow t := by
  unfold State.cmdStore at e
  split at e <;> cases e
  case h_1 => exact writeSwrst_low h
  case h_6 =>
    split
    · exact h.of_view (by simp)
    · exact h.of_view (by simp)
    · exact h.of_view (by simp)
  all_goals exact h.of_view (by simp)

theorem State.regStore_low {s : State} {ini : Initiator} {a v : Nat} (h : safeOutLow s) :
    safeOutLow (s.regStore ini a v) := by
  unfold State.regStore
  split
  · next e => exact cmdStore_low h e
  · exact h.of_view (by simp)
  · split
    · split
      · next e => exact h.of_view (canStoreReg_safeView e)
      · exact h.of_view (by simp)
    · exact h.of_view (by simp)

theorem State.regAccess_low {s : State} {i : HubItem} (h : safeOutLow s) :
    safeOutLow (s.regAccess i) := by
  unfold State.regAccess
  extract_lets _ t r
  have ht : safeOutLow t := regStore_low h
  have hr : safeOutLow r.1 := h.of_view (by simp [r])
  clear_value t r
  split
  · exact h.of_view (by simp)
  · exact .ite (h.of_view (by simp)) (.ite (h.of_view (by simp))
      (.ite (ht.of_view (by simp)) (hr.of_view (by simp))))

theorem State.hubAccess_low {s : State} {i : HubItem} (h : safeOutLow s) :
    safeOutLow (s.hubAccess i) := by
  have hreply (code : Nat) : safeOutLow (s.reply i code false 0) := h.of_view (by simp)
  refine .ite (hreply 6) (.ite (h.of_view (by simp)) (.ite (h.of_view (by simp))
    (.ite (hreply 3) (.ite (hreply 2) ?_))))
  split
  · exact h.of_view (by simp)
  · refine .ite (hreply 6) ?_
    split
    · exact regAccess_low h
    · exact h.of_view (by simp)
    · exact h.of_view (by simp)
    · exact h.of_view (by simp)

theorem State.hubGrant_low {s : State} {t : Nat} (h : safeOutLow s) :
    safeOutLow (s.hubGrant t) := by
  refine .ite h ?_
  split
  · exact hubAccess_low (h.of_view (by simp))
  · exact h

theorem State.hubPresent_low {s : State} {r : BusReq} (h : safeOutLow s) :
    safeOutLow (s.hubPresent r) :=
  .ite (h.of_view (by simp)) (.ite (h.of_view (by simp)) (.ite (h.of_view (by simp))
    (hubAccess_low (h.of_view (by simp)))))

theorem execHubRequest_low {c : HubCmd} {s : State} (h : safeOutLow s) :
    Yields (execHubRequest c s) safeOutLow := by
  refine next_low ?_
  split
  · exact hubPresent_low h
  · exact hubGrant_low h

/-! ### Resets, clock faults, activation and the link: the commands -/

theorem execResetNLowFiltered_low {s : State} : Yields (execResetNLowFiltered s) safeOutLow :=
  next_low assertDevice_low

theorem execResetNLowWidened_low {s : State} (h : safeOutLow s) :
    Yields (execResetNLowWidened s) safeOutLow :=
  next_low (.ite ((assertDevice_low (s := s) (src := .resetN) (cold := true)).of_view (by simp)) h)

theorem execRstOutMinLowExpiry_low {s : State} (h : safeOutLow s) :
    Yields (execRstOutMinLowExpiry s) safeOutLow := by
  unfold execRstOutMinLowExpiry
  extract_lets r s1
  have h1 : safeOutLow s1 := h.of_view (by simp [s1, r])
  exact next_low (.ite (.ite (releaseEnd_low h1) h1) h)

theorem execLocalReset_low {target : Nat} {src : LocalSrc} {s : State} (h : safeOutLow s) :
    Yields (execLocalReset target src s) safeOutLow :=
  next_low (h.when fun _ hx => evalSets_low (hx.of_view (by simp)))

theorem execHrc1QualTimeout_low {s : State} (h : safeOutLow s) :
    Yields (execHrc1QualTimeout s) safeOutLow := next_low (.ite clockFault_low h)

theorem execClockHoldTimeout_low {s : State} (h : safeOutLow s) :
    Yields (execClockHoldTimeout s) safeOutLow := next_low (h.when fun _ _ => clockFault_low)

theorem execPllLockLoss_low {p : Pll} {s : State} (h : safeOutLow s) :
    Yields (execPllLockLoss p s) safeOutLow := next_low (.ite clockFault_low h)

theorem execActivationHeaderProgrammed_low {ok : Bool} {s : State} (h : safeOutLow s) :
    Yields (execActivationHeaderProgrammed ok s) safeOutLow :=
  next_low (.ite h (.ite assertDevice_low (h.of_view (by simp))))

theorem execBarrierLinkFailure_low {s : State} (h : safeOutLow s) :
    Yields (execBarrierLinkFailure s) safeOutLow := next_low (h.when fun _ => linkFailure_low)

/-! ### The station -/

theorem State.stnIn_low {s : State} {f : FoldFrame} {kind : Nat} {len : Nat → Bool} {own : Bool}
    {k : State → State} (h : safeOutLow s) (hk : ∀ x, safeOutLow x → safeOutLow (k x)) :
    safeOutLow (s.stnIn f kind len own k) :=
  .ite h (.ite (h.of_view (by simp)) (.ite h (.ite h (hk _ (h.of_view (by simp))))))

/-- A station that drops its image pulls SAFE_OUT_N low (R423). -/
theorem State.stnDrop_low {s : State} : safeOutLow s.stnDrop := by
  unfold State.stnDrop
  extract_lets s1
  clear_value s1
  exact .of_low (by simp)

theorem execStationLdata_low {f : FoldFrame} {s : State} (h : safeOutLow s) :
    Yields (execStationLdata f s) safeOutLow := by
  refine next_low (stnIn_low h fun x hx => .ite hx ?_)
  extract_lets s1
  have h1 : safeOutLow s1 := hx.when fun _ _ => stnDrop_low
  exact h1.of_view (by simp)

/-- A station that starts lets SAFE_OUT_N high only outside the safe state and every episode. -/
theorem execStationLstart_low {f : FoldFrame} {s : State} (h : safeOutLow s) :
    Yields (execStationLstart f s) safeOutLow := by
  refine next_low (stnIn_low h fun x hx => ?_)
  extract_lets _ _ _ ack
  have hack (y : State) (code : Nat) (hy : safeOutLow y) : safeOutLow (ack y code) :=
    hy.of_view (by simp [ack])
  clear_value ack
  refine .ite hx (.ite (hack _ _ hx) ?_)
  split
  · exact hack _ _ hx
  · next m _ =>
    extract_lets s1 on
    have hon (y : State) (hs : y.rst = s1.rst) (hp : y.pins.safeOut = on) : safeOutLow y := by
      intro hy
      rw [hs] at hy
      rw [hp]
      rcases hy with hy | hy
      · simp [on, Option.isNone_eq_false_iff.2 hy]
      · simp [on, hy]
    clear_value s1
    refine hack _ _ ((hon { s1 with pins := { s1.pins with safeOut := on } } rfl rfl).of_view ?_)
    rw [fieldReload_safeView]

/-! ### Every step -/

theorem State.tick_safeView (s : State) : s.tick.safeView = s.safeView := by
  unfold State.tick State.trainTick
  split
  · simp
  · simp

theorem State.popped_safeView (s : State) (rest : List Instr) :
    (s.popped rest).safeView = s.safeView := by simp [State.popped]

/-- Every command goes on and keeps the claim: the ones below touch the safe state, the episode or
the ball, or can end in a trap with a safe state; each other one leaves the three values as they
are. -/
theorem exec_low (c : Instr) {s : State} (h : safeOutLow s) : Yields (exec c s) safeOutLow := by
  cases c with
  | registerWrite => exact next_low (.ite (hubPresent_low h) (h.of_view (by simp)))
  | hubRequest => exact execHubRequest_low h
  | plannedDrainExpiry => exact execPlannedDrainExpiry_low h
  | supplyMonitorTrip => exact execSupplyMonitorTrip_low h
  | supplyMonitorRelease => exact execSupplyMonitorRelease_low h
  | paddockPowerGood => exact execPaddockPowerGood_low h
  | paddockPowerTimeout => exact execPaddockPowerTimeout_low h
  | resetNLowFiltered => exact execResetNLowFiltered_low
  | resetNLowWidened => exact execResetNLowWidened_low h
  | rstOutMinLowExpiry => exact execRstOutMinLowExpiry_low h
  | debugResetCommand => exact execDebugResetCommand_low h
  | swrstDeviceWarm => exact next_low (swrstWarm_low h)
  | swrstPaddock | swrstUnit => exact next_low (swrstLocal_low h)
  | localReset => exact execLocalReset_low h
  | qualWindowEnd => exact execQualWindowEnd_low h
  | pllLock => exact execPllLock_low h
  | hrc1QualTimeout => exact execHrc1QualTimeout_low h
  | monitorWindowEnd => exact execMonitorWindowEnd_low h
  | missingEdgeTrip => exact execMissingEdgeTrip_low h
  | clockHoldTimeout => exact execClockHoldTimeout_low h
  | pllLockLoss => exact execPllLockLoss_low h
  | shepherdTransaction => exact execShepherdTransaction_low h
  | votingWindowClose => exact next_low (releaseAll_low (judge_low h))
  | verdictExchange => exact execVerdictExchange_low h
  | verdictExchangeTimeout => exact execVerdictExchangeTimeout_low h
  | replicatedReadResponse => exact execReplicatedReadResponse_low h
  | reintegrationSelftestDone => exact execReintegrationSelftestDone_low h
  | substitutionSelftestDone => exact execSubstitutionSelftestDone_low h
  | reserveSelftestFail => exact execReserveSelftestFail_low h
  | runtimeInjectionFlagged => exact execRuntimeInjectionFlagged_low h
  | cycleBoundary => exact execCycleBoundary_low h
  | sheepdogTrip => exact execSheepdogTrip_low h
  | barrierLinkFailure => exact execBarrierLinkFailure_low h
  | stationLdata => exact execStationLdata_low h
  | stationLstart => exact execStationLstart_low h
  | activationHeaderProgrammed => exact execActivationHeaderProgrammed_low h
  | add | sub | mul | mulh | mulhu | adds | subs | muls | addsu | subsu | neg | negs | abs
    | abss | min | max | minu | maxu | limit | addi | and | or | xor | andn | orn | xnor | not
    | shl | shr | sar | rol | ror | clz | ctz | popc | bset | bclr | btst | bext | bins | andi
    | ori | xori | lui | cmp | tst | cmpi | cmpiu | fadd | fsub | fmul | fdiv | fsqrt | fma
    | fmin | fmax | fabs | fneg | fcmp | fclass | cvtIf | cvtUf | cvtSd | cvtDs | qget | qput
    | qand | getc | nop =>
    exact next_low (instrLane_low h)
  | div | divu | rem | remu => exact next_low (divide_low h)
  | shli | shri | sari | rori => exact next_low (shiftImm_low h)
  | set | sel =>
    exact next_low (instrCond_low h fun _ _ _ hx => hx.of_view (updLane_safeView _ _ _))
  | br => exact execBr_low h
  | call =>
    exact next_low (instr_low h fun _ _ hx => jump_low (hx.of_view (updLane_safeView _ _ _)))
  | callFb | callrFb => exact next_low (instr_low h fun _ _ => callFb_low)
  | jmpr | ret => exact next_low (instr_low h fun _ _ => transfer_low)
  | callr => exact execCallr_low h
  | retFb => exact execRetFb_low h
  | retTrap => exact execRetTrap_low h
  | chk => exact execChk_low h
  | sext | zext => exact next_low (sized_low h fun _ _ _ hx => hx.of_view (updLane_safeView _ _ _))
  | cvtFi | cvtFu | truncFi | truncFu => exact next_low (toInt_low h)
  | nrw => exact execNrw_low h
  | nrwu => exact execNrwu_low h
  | bcd2i => exact execBcd2i_low h
  | i2bcd => exact execI2bcd_low h
  | ldi | ldiu | ldc | ldcu => exact next_low (instr_low h fun _ _ => loadTo_low)
  | sti => exact next_low (instr_low h fun _ _ => localStore_low)
  | ld => exact next_low (instr_low h fun _ _ => genLoad_low)
  | ldu => exact execLdu_low h
  | st => exact execSt_low h
  | ton | tof | tp => exact next_low (timer_low h)
  | tet => exact next_low (withSlot_low h fun _ _ _ hx => hx.of_view (updLane_safeView _ _ _))
  | trst => exact next_low (withSlot_low h fun _ _ _ hx => hx.of_view (by simp))
  | rTrig | fTrig => exact next_low (edge_low h)
  | inItem | inItemS => exact next_low (inRead_low h)
  | outItem => exact execOutItem_low h
  | send => exact execSend_low h
  | recv => exact next_low (instr_low h fun _ _ hx => hx.of_view (readSend_safeView ..))
  | sysopMode | sysopSafe | sysopEvent => exact next_low (instr_low h fun _ _ => sysop_low)
  | endUnit => exact next_low (instr_low h fun _ _ => endBegin_low)
  | endCommitWaitDone => exact execEndCommitWaitDone_low h
  | mfs => exact execMfs_low h
  | mts => exact execMts_low h
  | _ => exact h.of_outView (by simp [exec])

/-- Settles O59: the level of SAFE_OUT_N, the device safe state and the episode change only where
the safe state is entered or ended with the ball low, or with neither in force. -/
theorem safeOutputStaysLow : Obligations.SafeOutputStaysLow := by
  intro s t h e
  unfold step at e
  split at e
  · cases e
    exact h.of_view s.tick_safeView
  · next c rest _ =>
    obtain ⟨u, hu, hlow⟩ := exec_low c (h.of_view (s.popped_safeView rest))
    rw [e] at hu
    cases hu
    exact hlow

end Sys2Proof.Machine

namespace Sys2Proof.Claims

open Sys2Proof.Machine

/-! ### What a command changes of the register fields, and what stays quiet -/

theorem Regs.of_regs {s t : State} (e : t.regs = s.regs) : Regs s t [] :=
  ⟨nofun, fun f _ => State.fget_congr e f⟩

theorem Regs.refl (s : State) : Regs s s [] := .of_regs (Eq.refl _)

/-- One more field written, apart from those before. -/
theorem Regs.fset {s t : State} {fs : List (Fld × Nat)} {f : Fld} {v : Nat} (h : Regs s t fs)
    (hf : f.lo + f.width ≤ 32) (hv : v < 2 ^ f.width) (ha : ∀ p ∈ fs, f.apart p.1 = true) :
    Regs s (t.fset f v) (fs ++ [(f, v)]) := by
  constructor
  · intro p hp
    rcases List.mem_append.1 hp with hp | hp
    · rw [State.fget_fset_apart t f p.1 v hf (ha p hp)]
      exact h.1 p hp
    · obtain rfl := List.mem_singleton.1 hp
      exact (State.fget_fset_self t f v hf).trans (Nat.mod_eq_of_lt hv)
  · intro g hg
    rw [State.fget_fset_apart t f g v hf (hg (f, v) (by simp))]
    exact h.2 g fun p hp => hg p (List.mem_append_left _ hp)

/-- Only the register map counts. -/
theorem Regs.congr {s t u : State} {fs : List (Fld × Nat)} (h : Regs s t fs)
    (e : u.regs = t.regs) : Regs s u fs :=
  ⟨fun p hp => (State.fget_congr e p.1).trans (h.1 p hp),
    fun f hf => (State.fget_congr e f).trans (h.2 f hf)⟩

theorem Quiet.refl (s : State) : Quiet s s := ⟨rfl, rfl, fun _ => rfl, rfl⟩

theorem Quiet.fset {s t : State} {f : Fld} {v : Nat} (h : Quiet s t) : Quiet s (t.fset f v) := by
  obtain ⟨hm, hf, hl, hp⟩ := h
  exact ⟨hm, hf, hl, hp⟩

/-- A command goes on to a state of which the claim holds. -/
theorem Yields.next {t : State} {P : State → Prop} (h : P t) : Yields (.next t) P := ⟨t, rfl, h⟩

theorem Yields.of_eq {o : Out} {t : State} {P : State → Prop} (e : o = .next t) (h : P t) :
    Yields o P := ⟨t, e, h⟩

end Sys2Proof.Claims

namespace Sys2Proof.Machine

open Sys2Proof.Claims State

/-! ### The balls -/

/-- A ball of a paddock in reset shows its in-reset state, once the rail of its bank is there. -/
theorem State.ball_eq_inReset {s : State} {b : Ball} (hok : s.phys.ok.getLsbD b.rail = true)
    (hr : b ≠ .rstOutN) (hs : b ≠ .safeOutN) (hh : s.ballHeld b = true) :
    s.ball b = b.inReset := by
  simp [State.ball, hok, hr, hs, hh]

/-- A ball of a paddock out of reset shows what its unit drives. -/
theorem State.ball_eq_run {s : State} {b : Ball} (hok : s.phys.ok.getLsbD b.rail = true)
    (hh : s.ballHeld b = false) : s.ball b = s.ballRun b := by
  simp [State.ball, hok, hh]

theorem State.ballHeld_of_active {s : State} {b : Ball} (h : s.rst.active = true) :
    s.ballHeld b = true := by
  simp [State.ballHeld, h]

/-- A paddock that is off, or not yet at its power good, holds its balls in reset. -/
theorem State.ballHeld_of_off {s : State} {b : Ball} (hp : b.paddock ≠ .aon)
    (h : s.fget (pstat b.paddock) < 2) : s.ballHeld b = true := by
  simp [State.ballHeld, hp, h]

/-- A local reset of a ball's paddock past its drain holds the ball in reset. -/
theorem State.ballHeld_of_local {s : State} {b : Ball} {e : LocalEp} (he : e ∈ s.rst.locals)
    (hph : e.phase = .asserted ∨ e.phase = .hold) (ht : e.target ∈ paddockCodes b.paddock) :
    s.ballHeld b = true := by
  have hany : s.rst.locals.any (fun e => (e.phase = .asserted || e.phase = .hold)
      && (paddockCodes b.paddock).contains e.target) = true :=
    List.any_eq_true.2 ⟨e, he, by simpa using ⟨hph, ht⟩⟩
  simp only [State.ballHeld, hany, Bool.or_true, Bool.true_or]

/-- An output of the field die, or a brake-loop switch. -/
def Ball.isFieldOut (b : Ball) : Prop := (∃ n, b = .dout n) ∨ b = .blHs ∨ b = .blLs

/-- A field output is off without VFL, in reset and without the supply of the field outputs. -/
theorem State.ball_fieldOut_off {s : State} {b : Ball} (hb : b.isFieldOut)
    (h : s.phys.ok.getLsbD 6 = false ∨ s.ballHeld b = true ∨ s.fieldPowered = false) :
    s.ball b = .off := by
  have hrail : b.rail = 6 := by rcases hb with ⟨n, rfl⟩ | rfl | rfl <;> rfl
  have hun : b.unpowered = .off := by rcases hb with ⟨n, rfl⟩ | rfl | rfl <;> rfl
  have hreset : b.inReset = .off := by rcases hb with ⟨n, rfl⟩ | rfl | rfl <;> rfl
  have hpins : b ≠ .rstOutN ∧ b ≠ .safeOutN := by
    rcases hb with ⟨n, rfl⟩ | rfl | rfl <;> exact ⟨nofun, nofun⟩
  have hrun : s.fieldPowered = false → s.ballRun b = .off := fun hp => by
    rcases hb with ⟨n, rfl⟩ | rfl | rfl <;> simp [State.ballRun, State.doOn, hp]
  simp only [State.ball, hrail, hun, hreset, hpins.1, hpins.2, or_self, if_false]
  rcases h with h | h | h
  · simp only [h, Bool.not_false, if_true]
  · simp [h]
  · simp [hrun h]

theorem State.fieldPowered_of_noFvs {s : State} (h : s.phys.ok.getLsbD 7 = false) :
    s.fieldPowered = false := by
  simp only [State.fieldPowered, State.fpowerUp, h, Bool.false_and, Bool.and_false]

/-- A field die without its configuration holds its outputs in reset (R40). -/
theorem State.ballHeld_of_notCfgd {s : State} {b : Ball} (hp : b.paddock = .fpower)
    (h : s.fd.cfgd = false) : s.ballHeld b = true := by
  simp [State.ballHeld, hp, h]

theorem State.fieldOut_down {s : State} {b : Ball} (hb : b.isFieldOut)
    (h : s.phys.ok.getLsbD 6 = false ∨ s.phys.ok.getLsbD 7 = false ∨ s.fd.cfgd = false
      ∨ s.rst.active = true) : s.ball b = .off := by
  have hpad : b.paddock = .fpower := by rcases hb with ⟨n, rfl⟩ | rfl | rfl <;> rfl
  refine ball_fieldOut_off hb ?_
  rcases h with h | h | h | h
  · exact .inl h
  · exact .inr (.inr (fieldPowered_of_noFvs h))
  · exact .inr (.inl (ballHeld_of_notCfgd hpad h))
  · exact .inr (.inl (ballHeld_of_active h))

/-- A ball of BUS, switched off or past the drain of its local reset, is in reset (R39). -/
theorem State.ball_bus_inReset {s : State} {b : Ball} (hok : s.phys.ok.getLsbD 4 = true)
    (hrail : b.rail = 4) (hpad : b.paddock = .bus) (hr : b ≠ .rstOutN) (hs : b ≠ .safeOutN)
    (h : s.fget (pstat .bus) < 2 ∨ ∃ e, e ∈ s.rst.locals ∧ e.target = 8 ∧ e.phase = .hold) :
    s.ball b = b.inReset := by
  refine ball_eq_inReset (hrail ▸ hok) hr hs ?_
  rcases h with h | ⟨e, he, ht, hph⟩
  · exact ballHeld_of_off (by simp [hpad]) (hpad ▸ h)
  · exact ballHeld_of_local he (.inr hph) (by simp [hpad, ht, paddockCodes])

/-- CLK_OUT is a ball of AON: only an episode of device reach holds it (R41). -/
theorem State.ballHeld_clkOut {s : State} : s.ballHeld .clkOut = s.rst.active := by
  simp [State.ballHeld, Ball.paddock, paddockCodes]

/-- Settles O60: by what holds each ball's paddock in reset. -/
theorem ballStates : Obligations.BallStates := by
  intro s
  refine ⟨fun n h => ?_, fun n hok h => ?_, fun hok ha => ?_, fun e hok ha he ht hph hsel => ?_,
    fun hok => ?_⟩
  · exact ⟨fieldOut_down (.inl ⟨n, rfl⟩) h, fieldOut_down (.inr (.inl rfl)) h,
      fieldOut_down (.inr (.inr rfl)) h⟩
  · exact ⟨ball_bus_inReset hok rfl rfl nofun nofun h, ball_bus_inReset hok rfl rfl nofun nofun h,
      ball_bus_inReset hok rfl rfl nofun nofun h, ball_bus_inReset hok rfl rfl nofun nofun h,
      ball_bus_inReset hok rfl rfl nofun nofun h⟩
  · exact ⟨ball_eq_inReset hok nofun nofun (ballHeld_of_active ha),
      ball_eq_inReset hok nofun nofun (ballHeld_of_active ha),
      ball_eq_inReset hok nofun nofun (ballHeld_of_active ha)⟩
  · constructor
    · exact ball_eq_inReset hok nofun nofun
        (ballHeld_of_local he (.inl hph) (by simp [ht, Ball.paddock, paddockCodes]))
    · rw [ball_eq_run hok (ballHeld_clkOut.trans ha)]
      simp [State.ballRun, hsel]
  · constructor
    · simp [State.ball, Ball.rail, hok, State.ballRun, lvl]
    · simp [State.ball, Ball.rail, hok, State.ballRun, lvl]

end Sys2Proof.Machine

namespace Sys2Proof.Machine

open Sys2Proof.Claims State

/-! ### Reads of the flash and time-outs -/

theorem State.xspiRead_decerr {s : State} {i : Initiator} {o n : Nat}
    (h : s.flashSize < o + n ∨ xspiInit i = false) :
    s.xspiRead i (0x70000000 + o) n = s.answer .decerr := by
  unfold State.xspiRead
  rw [Nat.add_sub_cancel_left]
  refine if_pos ?_
  rcases h with h | h
  · simp [h]
  · simp [h]

/-- Inside the fitted device, which is at most 256 MB, a read is taken. -/
theorem State.xspiRead_inside {s : State} {i : Initiator} {o n : Nat} (hi : xspiInit i = true)
    (hd : s.board.density ≤ 8) (ho : o + n ≤ s.flashSize) :
    s.xspiRead i (0x70000000 + o) n =
      if s.flc.running.isSome && !s.flag BOOT_XSPI_SUSPEND then s.answer .timeout
      else s.answerData (BitVec.ofNat 256 (s.flashLe o n)) := by
  have hsize : s.flashSize ≤ 0x10000000 :=
    Nat.mul_le_mul_right 0x100000 (Nat.pow_le_pow_right (by decide) hd)
  unfold State.xspiRead
  rw [Nat.add_sub_cancel_left]
  refine if_neg ?_
  simp only [hi, Bool.not_true, Bool.false_or, Bool.or_eq_true, decide_eq_true_eq]
  omega

/-- The response to a request that its initiator named: with its tag, without data. -/
theorem State.reply_named_timeout {s : State} {i : HubItem} (hk : i.kind ≠ 9)
    (hn : i.named = true) : s.reply i Resp.timeout.code false 0 =
      { s with resp := .timeout, rdata := 0, rtag := i.req.tag, reff := false } := by
  simp only [State.reply, State.replyNat, hk, hn, if_false, if_true]
  rfl

/-- The response to a read of the lanes goes on its way to them. -/
theorem State.reply_lanes_timeout {s : State} {i : HubItem} (hk : i.kind ≠ 9)
    (hn : i.named = false) (hw : i.req.write = false) (hl : i.lanes ≠ []) :
    s.reply i Resp.timeout.code false 0 = { s with triad := { s.triad with
      resps := s.triad.resps ++ [{ seq := i.seq, lanes := i.lanes, code := 4, effect := false
                                   data := 0, twin := (4, false, 0), addr := i.req.addr
                                   kind := i.kind }] } } := by
  simp only [State.reply, State.replyNat, hk, hn, State.hubReply, hw, List.isEmpty_iff, hl,
    Bool.false_eq_true, if_false]
  rfl

theorem State.failOldest_some {s : State} {p : HubItem → Bool} {i : HubItem} {r : Resp}
    (h : s.memx.hubQ.find? p = some i) : s.failOldest p r =
      { s with memx := { s.memx with hubQ := s.memx.hubQ.erase i } }.reply i r.code false 0 := by
  simp only [State.failOldest, h]

theorem State.failOldest_none {s : State} {p : HubItem → Bool} {r : Resp}
    (h : s.memx.hubQ.find? p = none) : s.failOldest p r = s.answer r := by
  simp only [State.failOldest, h]

theorem execTargetResponseTimeout_grant {s : State} {tn : Nat} {i : HubItem}
    (h : s.hubNext tn = some i) : exec (.targetResponseTimeout (.grant tn)) s =
      .next ((s.hubTake i).reply i Resp.timeout.code false 0) := by
  change execTargetResponseTimeout (.grant tn) s = _
  simp only [execTargetResponseTimeout, h]

/-- Up to three time-outs in a row of a read of start-up only count (R153). -/
theorem startupFlashReadTimeout_retry {s : State} {again : Bool} {n : Nat}
    (hp : 1 ≤ s.fget BOOT_STAT_PHASE ∧ s.fget BOOT_STAT_PHASE ≤ 6)
    (hn : n = if again then s.flc.timeouts else 0) (hlt : n < 3) :
    exec (.startupFlashReadTimeout again) s =
      .next { s with flc := { s.flc with timeouts := n + 1 } } := by
  have h4 : ¬ n + 1 ≥ 4 := by omega
  change execStartupFlashReadTimeout again s = _
  simp only [execStartupFlashReadTimeout, hp, and_self, if_true, ← hn, h4, if_false,
    decide_false, Bool.or_false]

/-- The fourth time-out in a row halts the start-up in phase 8 without the flash (R153). -/
theorem startupFlashReadTimeout_halt {s : State}
    (hp : 1 ≤ s.fget BOOT_STAT_PHASE ∧ s.fget BOOT_STAT_PHASE ≤ 6) (hn : 3 ≤ s.flc.timeouts) :
    exec (.startupFlashReadTimeout true) s =
      .next ((State.fset { s with flc := { s.flc with
        timeouts := s.flc.timeouts + 1, dead := true } } ⟨0x40030000, 11, 1⟩ 1).fset
        BOOT_STAT_PHASE 8) := by
  have h4 : s.flc.timeouts + 1 ≥ 4 := by omega
  change execStartupFlashReadTimeout true s = _
  simp only [execStartupFlashReadTimeout, hp, and_self, if_true, h4, decide_true,
    Bool.or_true, State.raise_eq]

theorem State.retryWear_dirOk {s : State} (h : s.boot.dirOk = true) :
    s.retryWear = { s with flc := { s.flc with waiting := (s.flc.waiting ++
      List.filter (fun op => !(s.flc.waiting.contains op || s.flc.running == some op))
        (s.wear.pendWear.map FlashOp.wear ++ s.wear.pendStray.map FlashOp.stray)) } } := by
  simp only [State.retryWear, h, if_true]

theorem State.retryWear_noDir {s : State} (h : s.boot.dirOk = false) : s.retryWear = s := by
  simp only [State.retryWear, h, Bool.false_eq_true, if_false]

/-- Settles O30: a flash read is decided by its range and the running operation, and a time-out
answers the request it falls to. -/
theorem flashReads : Obligations.FlashReads := by
  intro s
  refine ⟨fun i o n hi hd ho hr => ?_, fun i o n h => ?_, fun i o n op hi hd ho hr hs => ?_,
    fun h => ?_, fun i h hw hk hn hl => ?_, fun i h hk hn => ?_, fun r => rfl,
    fun tn i h hk hn => ?_, fun tn i h hk hn hl hw => ?_, fun again n h1 h6 hn hlt => ?_,
    fun h1 h6 hn => ?_, fun hd => ?_, fun hd => ?_⟩
  · show Host.Outcome.next (s.xspiRead i (0x70000000 + o) n) = _
    rw [State.xspiRead_inside hi hd ho, hr]
    rfl
  · exact congrArg _ (State.xspiRead_decerr h)
  · show Host.Outcome.next (s.xspiRead i (0x70000000 + o) n) = _
    rw [State.xspiRead_inside hi hd ho, hr, hs]
    rfl
  · exact congrArg _ (State.failOldest_none h)
  · exact .of_eq (congrArg Host.Outcome.next
      ((State.failOldest_some h).trans (reply_lanes_timeout hk hn hw hl)))
      ⟨.of_regs rfl, ⟨rfl, rfl, fun _ => rfl, rfl⟩, rfl, rfl⟩
  · exact congrArg Host.Outcome.next
      ((State.failOldest_some h).trans (reply_named_timeout hk hn))
  · exact (execTargetResponseTimeout_grant h).trans
      (congrArg Host.Outcome.next (reply_named_timeout hk hn))
  · exact .of_eq ((execTargetResponseTimeout_grant h).trans
      (congrArg Host.Outcome.next (reply_lanes_timeout hk hn hw hl)))
      ⟨.of_regs rfl, ⟨rfl, rfl, fun _ => rfl, rfl⟩, rfl, rfl⟩
  · exact .of_eq (startupFlashReadTimeout_retry ⟨h1, h6⟩ hn hlt)
      ⟨.of_regs rfl, ⟨rfl, rfl, fun _ => rfl, rfl⟩, rfl⟩
  · refine .of_eq (startupFlashReadTimeout_halt ⟨h1, h6⟩ hn)
      ⟨?_, .fset (.fset ⟨rfl, rfl, fun _ => rfl, rfl⟩), by simp only [State.fset_flc]⟩
    exact ((Regs.of_regs rfl).fset (by decide) (by decide) nofun).fset (by decide) (by decide)
      (by decide)
  · exact .of_eq (congrArg Host.Outcome.next (retryWear_dirOk hd))
      ⟨.of_regs rfl, ⟨rfl, rfl, fun _ => rfl, rfl⟩, rfl⟩
  · exact congrArg Host.Outcome.next (retryWear_noDir hd)

end Sys2Proof.Machine

namespace Sys2Proof.Machine

open Sys2Proof.Claims State

/-! ### What the device safe state leaves of the barrier link

Entering the device safe state works on the units and the recorder, and a fallback to SOLO on the
lanes: neither writes the words of FLD_STAT and FLD_EVT, nor what the compute die knows of the last
reload, the flash or the waiting commands. -/

/-- The words of FLD_STAT and FLD_EVT, the acknowledgement of the last reload, the flash and the
waiting commands; and the device safe state with its ball. -/
def State.linkView (s : State) :
    (Word × Word × Bool × List Host.Cell × List Instr) × Option Nat × Bool :=
  ((s.regs.word 0x40040000, s.regs.word 0x40040004, s.link.acked, s.flash, s.pending),
    s.rst.safe, s.pins.safeOut)

@[simp] theorem State.record_linkView {pending regs mem flash phys board pins bkup pwr rst clk memx
    wear flc boot laneA laneB laneC triad cyc now fd link sig sigAt clkOut sigSlot eth pde tim can
    drv flk station pair recd upd resp rdata rtag reff freeCtr} :
    State.linkView
      { pending, regs, mem, flash, phys, board, pins, bkup, pwr, rst, clk, memx, wear, flc, boot
        laneA, laneB, laneC, triad, cyc, now, fd, link, sig, sigAt, clkOut, sigSlot, eth, pde
        tim, can, drv, flk, station, pair, recd, upd, resp, rdata, rtag, reff, freeCtr }
      = ((regs.word 0x40040000, regs.word 0x40040004, link.acked, flash, pending),
        rst.safe, pins.safeOut) := (rfl)

@[simp] theorem State.linkView_def (s : State) :
    ((s.regs.word 0x40040000, s.regs.word 0x40040004, s.link.acked, s.flash, s.pending),
      s.rst.safe, s.pins.safeOut) = s.linkView := (rfl)

@[simp] theorem State.ite_linkView (c : Prop) [Decidable c] (a b : State) :
    (if c then a else b).linkView = if c then a.linkView else b.linkView := apply_ite _ _ _ _

@[simp] theorem State.foldl_linkView {β : Type} {f : State → β → State}
    (h : ∀ x b, (f x b).linkView = x.linkView) (l : List β) (s : State) :
    (l.foldl f s).linkView = s.linkView := by
  induction l generalizing s with
  | nil => rfl
  | cons b l ih => rw [List.foldl_cons, ih, h]

@[simp] theorem State.when_linkView (s : State) (b : Bool) {f : State → State}
    (h : ∀ x, (f x).linkView = x.linkView) : (s.when b f).linkView = s.linkView := by
  cases b
  · rfl
  · exact h s

/-- A register of an array stands at or above the array's first one. -/
theorem base_add_eq_false {b x a : Nat} (h : a < b) : (b + x = a) = False :=
  eq_false (by omega)

/-- A field of another register is written. -/
@[simp] theorem State.fset_linkView (s : State) (f : Fld) (v : Nat)
    (h0 : f.addr ≠ 0x40040000) (h4 : f.addr ≠ 0x40040004) :
    (s.fset f v).linkView = s.linkView := by
  simp [State.fset, RegMap.word_fset_ne _ _ _ h0, RegMap.word_fset_ne _ _ _ h4]

@[simp] theorem State.setReg_linkView (s : State) (a : Nat) (v : Word)
    (h0 : a ≠ 0x40040000) (h4 : a ≠ 0x40040004) : (s.setReg a v).linkView = s.linkView := by
  simp [State.setReg, RegMap.word_setWord_ne _ _ h0, RegMap.word_setWord_ne _ _ h4]

@[simp] theorem State.raise_linkView (s : State) (f : Fld) (h0 : f.addr ≠ 0x40040000)
    (h4 : f.addr ≠ 0x40040004) : (s.raise f).linkView = s.linkView :=
  s.fset_linkView f _ h0 h4

@[simp] theorem State.lower_linkView (s : State) (f : Fld) (h0 : f.addr ≠ 0x40040000)
    (h4 : f.addr ≠ 0x40040004) : (s.lower f).linkView = s.linkView :=
  s.fset_linkView f _ h0 h4

@[simp] theorem State.show_linkView (s : State) (f : Fld) (b : Bool) (h0 : f.addr ≠ 0x40040000)
    (h4 : f.addr ≠ 0x40040004) : (s.show f b).linkView = s.linkView :=
  s.fset_linkView f _ h0 h4

@[simp] theorem State.bump_linkView (s : State) (f : Fld) (h0 : f.addr ≠ 0x40040000)
    (h4 : f.addr ≠ 0x40040004) : (s.bump f).linkView = s.linkView :=
  s.fset_linkView f _ h0 h4

@[simp] theorem State.count_linkView (s : State) (c : Nat) :
    (s.count c).linkView = s.linkView := by simp [State.count, base_add_eq_false]

@[simp] theorem State.answer_linkView (s : State) (r : Resp) :
    (s.answer r).linkView = s.linkView := by simp [State.answer]

@[simp] theorem State.answerData_linkView (s : State) (d : BitVec 256) :
    (s.answerData d).linkView = s.linkView := by simp [State.answerData]

@[simp] theorem State.updLane_linkView (s : State) (l : LaneId) (f : Lane → Lane) :
    (s.updLane l f).linkView = s.linkView := by
  cases l <;> simp [State.updLane, State.setLane]

@[simp] theorem State.hubReply_linkView (s : State) (i : HubItem) (code : Nat) (effect : Bool)
    (data : Nat) : (s.hubReply i code effect data).linkView = s.linkView := by
  simp [State.hubReply]

@[simp] theorem State.fetchGot_linkView (s : State) (k code : Nat) (data : DWord) :
    (s.fetchGot k code data).linkView = s.linkView := by
  unfold State.fetchGot
  split <;> simp

@[simp] theorem State.reply_linkView (s : State) (i : HubItem) (code : Nat) (effect : Bool)
    (data : DWord) : (s.reply i code effect data).linkView = s.linkView := by
  simp [State.reply, State.replyNat]

@[simp] theorem State.flashQueue_linkView (s : State) (op : FlashOp) :
    (s.flashQueue op).linkView = s.linkView := by simp [State.flashQueue]

@[simp] theorem State.recSnapshot_linkView (s : State) (trig : Nat) :
    (s.recSnapshot trig).linkView = s.linkView := by simp [State.recSnapshot]

@[simp] theorem State.canSafe_linkView (s : State) (n : Nat) :
    (s.canSafe n).linkView = s.linkView := by
  have hset (x : State) (b : Nat) : (x.canSetSt n b 0).linkView = x.linkView := by
    simp [State.canSetSt, base_add_eq_false]
  have hitem (x : State) (b : Nat) (f : CanItem → CanItem) :
      (x.canItemUpd n b f).linkView = x.linkView := by simp [State.canItemUpd, State.canUpd]
  simp [State.canSafe, hset, hitem, base_add_eq_false]

@[simp] theorem State.drvSafe_linkView (s : State) : s.drvSafe.linkView = s.linkView := by
  simp [State.drvSafe, State.drvTo]

@[simp] theorem State.flkUpd_linkView (s : State) (f : Flk → Flk) :
    (s.flkUpd f).linkView = s.linkView := by simp [State.flkUpd]

@[simp] theorem State.fstUpd_linkView (s : State) (k : Nat) (f : FlkSt → FlkSt) :
    (s.fstUpd k f).linkView = s.linkView := by simp [State.fstUpd]

@[simp] theorem State.foldSend_linkView (s : State) (kind st ts : Nat) (body : List Byte) :
    (s.foldSend kind st ts body).linkView = s.linkView := by simp [State.foldSend, State.foldOut]

@[simp] theorem State.lelShow_linkView (s : State) : s.lelShow.linkView = s.linkView := by
  unfold State.lelShow
  split <;> simp

@[simp] theorem State.lateErr_linkView (s : State) (k seq code addr : Nat) :
    (s.lateErr k seq code addr).linkView = s.linkView := by
  simp [State.lateErr, base_add_eq_false]

@[simp] theorem State.foldRead_linkView (s : State) (i : HubItem) :
    (s.foldRead i).linkView = s.linkView := by
  unfold State.foldRead
  dsimp only
  split
  · simp
  · split <;> simp

@[simp] theorem State.foldWrite_linkView (s : State) (i : HubItem) :
    (s.foldWrite i).linkView = s.linkView := by simp [State.foldWrite]

@[simp] theorem State.foldAccess_linkView (s : State) (i : HubItem) :
    (s.foldAccess i).linkView = s.linkView := by
  unfold State.foldAccess
  split <;> simp

@[simp] theorem State.semFree_linkView (s : State) (n : Nat) :
    (s.semFree n).linkView = s.linkView := by
  simp [State.semFree, base_add_eq_false]

@[simp] theorem State.flkSafe_linkView (s : State) : s.flkSafe.linkView = s.linkView := by
  unfold State.flkSafe
  exact State.foldl_linkView (fun x n => by simp) _ _

@[simp] theorem State.pairSafe_linkView (s : State) : s.pairSafe.linkView = s.linkView := by
  simp [State.pairSafe, State.pairJudge, State.pairJudgeWith]

@[simp] theorem State.updUpd_linkView (s : State) (f : Upd → Upd) :
    (s.updUpd f).linkView = s.linkView := by simp [State.updUpd]

@[simp] theorem State.updEnd_linkView (s : State) (st result : Nat) :
    (s.updEnd st result).linkView = s.linkView := by simp [State.updEnd]

@[simp] theorem State.updQueue_linkView (s : State) (op : FlashOp) :
    (s.updQueue op).linkView = s.linkView := by simp [State.updQueue]

@[simp] theorem State.updNextPage_linkView (s : State) : s.updNextPage.linkView = s.linkView := by
  unfold State.updNextPage
  split <;> simp

@[simp] theorem State.updBytes_linkView (s : State) (ofs : Nat) (bs : List Byte)
    (result st : Nat) : (s.updBytes ofs bs result st).linkView = s.linkView := by
  simp [State.updBytes]

@[simp] theorem State.fetchIssue_linkView (s : State) (n : Nat) :
    (s.fetchIssue n).linkView = s.linkView := by
  induction n generalizing s with
  | zero => rfl
  | succ n ih =>
    unfold State.fetchIssue
    split
    · split
      · simp [ih]
      · rfl
    · rfl

@[simp] theorem State.fetchPump_linkView (s : State) : s.fetchPump.linkView = s.linkView := by
  unfold State.fetchPump
  extract_lets s1
  have h1 : s1.linkView = s.linkView := by simp [s1]
  split <;> simp [h1]

@[simp] theorem State.unitsSafe_linkView (s : State) : s.unitsSafe.linkView = s.linkView := by
  unfold State.unitsSafe
  rw [State.pairSafe_linkView, State.fetchPump_linkView, State.flkSafe_linkView,
    State.drvSafe_linkView]
  exact State.foldl_linkView (fun x n => x.canSafe_linkView n) _ _

@[simp] theorem State.linkSend_linkView (s : State) (f : LinkFrame) :
    (s.linkSend f).linkView = s.linkView := by simp [State.linkSend]

theorem State.safeEnter_linkView {s : State} (code : Nat) (h : s.rst.safe = none) :
    (s.safeEnter code).linkView = (s.linkView.1, some code, false) := by
  have hstep (x : State) (b : Bkup) :
      State.linkView { x with bkup := b } = x.linkView := by simp
  have hfst : s.linkView.1 =
    (s.regs.word 0x40040000, s.regs.word 0x40040004, s.link.acked, s.flash, s.pending) := (rfl)
  simp only [State.safeEnter, h]
  refine (hstep _ _).trans ?_
  simp [hfst]

theorem State.safeEnter_linkView_fst (s : State) (code : Nat) :
    (s.safeEnter code).linkView.1 = s.linkView.1 := by
  cases h : s.rst.safe with
  | none => rw [safeEnter_linkView code h]
  | some c => simp only [State.safeEnter, h]

@[simp] theorem State.lanePart_linkView (s : State) (l : LaneId) :
    (s.lanePart l).linkView = s.linkView := by
  have h (x : State) (tr : Triad) (mx : Memx) :
      State.linkView { x with triad := tr, memx := mx } = x.linkView := by simp
  refine (h _ _ _).trans ?_
  simp [laneStateF]

@[simp] theorem State.soloFallback_linkView (s : State) :
    s.soloFallback.linkView = s.linkView := by
  have h (x : State) (tr : Triad) : State.linkView { x with triad := tr } = x.linkView := by simp
  refine (h _ _).trans ?_
  simp

theorem State.evalSets_linkView_fst (s : State) : s.evalSets.linkView.1 = s.linkView.1 := by
  unfold State.evalSets
  split
  · rfl
  · split
    · exact safeEnter_linkView_fst _ _
    · split
      · rfl
      · split
        · exact safeEnter_linkView_fst _ _
        · split
          · rw [soloFallback_linkView]
          · rfl

end Sys2Proof.Machine

namespace Sys2Proof.Machine

open Sys2Proof.Claims State

/-! ### The brake loop and the outputs of the field die -/

/-- R308: the first trip is latched, and the latch goes with the second fall of the demand. -/
def Fd.trip (f : Fd) : List Nat → Fd
  | n :: _ => if f.latched then f else { f with latched := true, first := n, zeroSeen := false }
  | [] => if f.latched && f.zeroSeen then { f with latched := false } else f

/-- R305: the loop opens with a condition of its closing, and closes with all of them. -/
def Fd.loopStep (f : Fd) (power : Bool) : Fd :=
  if f.loop = .fault then f
  else if f.closeOk && power then
    if f.loop = .opened then { f with loop := .closeHs, hsOn := true } else f
  else { f with loop := .opened, hsOn := false, lsOn := false, extOpen := false }

theorem State.loopEval_steps (s : State) : s.loopEval = { s with
    fd := (s.fd.trip (if s.fd.cfgd then s.fd.trips else [])).loopStep s.fieldPowered } := rfl

theorem Fd.trip_eq (f : Fd) (t : List Nat) :
    ∃ lt fi z, f.trip t = { f with latched := lt, first := fi, zeroSeen := z } := by
  unfold Fd.trip
  split
  · split
    · exact ⟨_, _, _, rfl⟩
    · exact ⟨_, _, _, rfl⟩
  · split
    · exact ⟨_, _, _, rfl⟩
    · exact ⟨_, _, _, rfl⟩

theorem Fd.loopStep_eq (f : Fd) (power : Bool) : ∃ lo hs ls ex, f.loopStep power =
    { f with loop := lo, hsOn := hs, lsOn := ls, extOpen := ex } := by
  unfold Fd.loopStep
  split
  · exact ⟨_, _, _, _, rfl⟩
  · split
    · split
      · exact ⟨_, _, _, _, rfl⟩
      · exact ⟨_, _, _, _, rfl⟩
    · exact ⟨_, _, _, _, rfl⟩

/-- Evaluating the loop changes the trip latch and the loop's own state. -/
theorem State.loopEval_eq (s : State) : ∃ lt fi z lo hs ls ex, s.loopEval =
    { s with fd := { s.fd with latched := lt, first := fi, zeroSeen := z, loop := lo
                               hsOn := hs, lsOn := ls, extOpen := ex } } := by
  obtain ⟨lt, fi, z, ht⟩ := s.fd.trip_eq (if s.fd.cfgd then s.fd.trips else [])
  rw [State.loopEval_steps, ht]
  obtain ⟨lo, hs, ls, ex, hl⟩ :=
    Fd.loopStep_eq { s.fd with latched := lt, first := fi, zeroSeen := z } s.fieldPowered
  exact ⟨lt, fi, z, lo, hs, ls, ex, by rw [hl]⟩

theorem Fd.loopStep_opened {f : Fd} {power : Bool} (hl : f.loop ≠ .fault)
    (hc : f.closeOk = false) : f.loopStep power =
      { f with loop := .opened, hsOn := false, lsOn := false, extOpen := false } := by
  simp only [Fd.loopStep, hl, hc, if_false, Bool.false_and, Bool.false_eq_true]

/-- Without the demand of a COMMIT, or with a latched or timed-out link, the loop opens. -/
theorem State.loopEval_opened {s : State} (hl : s.fd.loop ≠ .fault)
    (hc : s.fd.img.bl ≠ 3 ∨ s.fd.safeLatch = true ∨ s.fd.timedOut = true) :
    ∃ lt fi z, s.loopEval =
      { s with fd := { s.fd with latched := lt, first := fi, zeroSeen := z, loop := .opened
                                 hsOn := false, lsOn := false, extOpen := false } } := by
  obtain ⟨lt, fi, z, ht⟩ := s.fd.trip_eq (if s.fd.cfgd then s.fd.trips else [])
  refine ⟨lt, fi, z, ?_⟩
  rw [State.loopEval_steps, ht, Fd.loopStep_opened]
  · exact hl
  · rcases hc with hc | hc | hc
    · simp only [Fd.closeOk, hc, decide_false, Bool.and_false, Bool.false_and]
    · simp [Fd.closeOk, hc]
    · simp [Fd.closeOk, hc]

/-- A change of the commands judges each output anew. -/
theorem Fd.relatch_reopen_eq (f g : Fd) : ∃ o, (f.reopen g).relatch = { g with outs := o } :=
  ⟨_, rfl⟩

/-- In the safe state, and in a time-out, an output takes its safe level. -/
theorem Fd.doCmd_safe {f : Fd} (h : f.safeLatch = true ∨ f.timedOut = true) (n : Nat) :
    f.doCmd n = bitOf (f.cfg.fget FLD_DOCFG_SAFEON) (f.cmdBase n) := by
  rcases h with h | h
  · simp [Fd.doCmd, h]
  · simp [Fd.doCmd, h]

/-- An unpaired output takes its value where its quality is good, else its safe level. -/
theorem Fd.doCmd_unpaired {f : Fd} (hs : f.safeLatch = false) (ht : f.timedOut = false) {n : Nat}
    (hn : bitOf (f.cfg.fget FLD_DOCFG_PAIR) (n / 2) = false) :
    f.doCmd n = if f.img.qg.getLsbD n then f.img.val.getLsbD n
      else bitOf (f.cfg.fget FLD_DOCFG_SAFEON) n := by
  simp [Fd.doCmd, Fd.cmdBase, hs, ht, hn]

/-! ### Frames at the field die -/

/-- The oldest command frame has been taken from the link. -/
def State.frameTaken (s : State) (q : List LinkFrame) : State :=
  { s with link := { s.link with toField := q } }

theorem State.popField_match {s : State} {p : LinkFrame → Bool} {f : LinkFrame}
    {q : List LinkFrame} (h : s.link.toField = f :: q) (hp : p f = true) :
    s.popField p = some (f, s.frameTaken q) := by
  simp only [State.popField, h, hp, if_true, State.frameTaken]

theorem execFieldResetFrame_eq {s : State} {q : List LinkFrame} {ok : Bool}
    (h : s.link.toField = .reset :: q) : exec (.fieldResetFrame ok) s =
      .next (if ok && s.flogicUp then { s.frameTaken q with fd := .reset }
        else s.frameTaken q) := by
  change execFieldResetFrame ok s = _
  have hpop := popField_match (p := fun x => decide (x = .reset)) h (decide_eq_true rfl)
  simp only [execFieldResetFrame, hpop]
  rfl

theorem execFieldSafeFrame_eq {s : State} {q : List LinkFrame} {ok : Bool}
    (h : s.link.toField = .safe :: q) : exec (.fieldSafeFrame ok) s =
      .next (if ok && !s.fd.oscBad && s.flogicUp then
        State.loopEval { s.frameTaken q with
          fd := (s.fd.reopen { s.fd with timedOut := false, safeLatch := true }).relatch }
      else s.frameTaken q) := by
  change execFieldSafeFrame ok s = _
  have hpop := popField_match (p := fun x => decide (x = .safe)) h (decide_eq_true rfl)
  simp only [execFieldSafeFrame, hpop]
  rfl

theorem execFieldLoadFrame_eq {s : State} {q : List LinkFrame} {m : RegMap}
    {u : List (Nat × Nat × Nat)} {ok : Bool} (h : s.link.toField = .load m u :: q)
    (hup : s.flogicUp = true) : exec (.fieldLoadFrame ok) s =
      .next (if ok then State.loopEval { s.frameTaken q with fd := Fd.loaded s.fd.safeLatch m u }
      else { s.frameTaken q with fd := { s.fd with loadOk := false } }) := by
  have hup' : (s.frameTaken q).flogicUp = true := hup
  change execFieldLoadFrame ok s = _
  simp only [execFieldLoadFrame, h]
  change Host.Outcome.next (if !(s.frameTaken q).flogicUp then _ else _) = _
  rw [hup']
  rfl

theorem execFieldCommitFrame_eq {s : State} {q : List LinkFrame} {b : List Byte} {ok : Bool}
    (h : s.link.toField = .commit b :: q) :
    exec (.fieldCommitFrame ok) s = .next ((s.frameTaken q).fdImage ok 3 b) := by
  change execFieldCommitFrame ok s = _
  simp only [execFieldCommitFrame, h]
  rfl

theorem execFieldRefreshFrame_eq {s : State} {q : List LinkFrame} {b : List Byte} {ok : Bool}
    (h : s.link.toField = .refresh b :: q) :
    exec (.fieldRefreshFrame ok) s = .next ((s.frameTaken q).fdImage ok 4 b) := by
  change execFieldRefreshFrame ok s = _
  simp only [execFieldRefreshFrame, h]
  rfl

/-- A LOAD leaves everything but spares and segments as a reset does. -/
theorem Fd.loaded_eq (sl : Bool) (cfg : RegMap) (subs : List (Nat × Nat × Nat)) :
    ∃ sp o, Fd.loaded sl cfg subs = { Fd.reset with
      cfgd := true, loadOk := true, cfg := cfg, safeLatch := sl, spares := sp, outs := o } := by
  refine List.foldlRecOn (motive := fun g => ∃ sp o, g = { Fd.reset with
    cfgd := true, loadOk := true, cfg := cfg, safeLatch := sl, spares := sp, outs := o })
    subs _ ?_ ?_
  · exact ⟨_, _, rfl⟩
  · rintro g ⟨sp, o, rfl⟩ e _
    split
    · exact ⟨_, _, rfl⟩
    · split
      · exact ⟨_, _, rfl⟩
      · exact ⟨_, _, rfl⟩

theorem State.fdUpd_up {s : State} {f : Fd → Fd} (hup : s.flogicUp = true)
    (hcfg : s.fd.cfgd = true) : s.fdUpd f = State.loopEval { s with fd := f s.fd } := by
  simp only [State.fdUpd, hup, hcfg, Bool.and_self, if_true]

theorem State.fdUpd_down {s : State} {f : Fd → Fd}
    (h : s.flogicUp = false ∨ s.fd.cfgd = false) : s.fdUpd f = s := by
  rcases h with h | h
  · simp [State.fdUpd, h]
  · simp [State.fdUpd, h]

/-- A frame that is not valid, or finds a die that cannot take it, does nothing. -/
theorem State.fdImage_ignored {s : State} {ok : Bool} {type : Nat} {b : List Byte}
    (h : ok = false ∨ frameImg type b = none ∨ s.fd.oscBad = true ∨ s.flogicUp = false
      ∨ s.fd.cfgd = false) : s.fdImage ok type b = s := by
  unfold State.fdImage
  split
  · next o ho =>
    unfold State.fdTake
    rcases h with h | h | h | h
    · simp [h]
    · simp [h] at ho
    · simp [h]
    · cases ok && !s.fd.oscBad
      · rfl
      · exact fdUpd_down (f := fun f => f.applyImage o) h
  · rfl

/-- What a valid frame leaves in a die that is not latched: its image, no time-out, and each
unpaired output at its value or its safe level. -/
def Fd.Took (f : Fd) (o : OutImg) (g : Fd) : Prop :=
  g.img = o ∧ g.timedOut = false ∧ ∀ n : Fin 16, bitOf (f.cfg.fget FLD_DOCFG_PAIR) (n / 2) = false →
    g.doCmd n = if o.qg.getLsbD n then o.val.getLsbD n else bitOf (f.cfg.fget FLD_DOCFG_SAFEON) n

theorem Fd.took_of {f g : Fd} {o : OutImg} (hc : g.cfg = f.cfg) (hs : g.safeLatch = false)
    (ht : g.timedOut = false) (hi : g.img = o) : f.Took o g := by
  refine ⟨hi, ht, fun n hn => ?_⟩
  rw [← hc] at hn ⊢
  rw [← hi]
  exact Fd.doCmd_unpaired hs ht hn

theorem State.fdImage_taken {s : State} {type : Nat} {b : List Byte} {o : OutImg}
    (hup : s.flogicUp = true) (hcfg : s.fd.cfgd = true) (hosc : s.fd.oscBad = false)
    (himg : frameImg type b = some o) (hlatch : s.fd.safeLatch = false) :
    ∃ F, s.fdImage true type b = { s with fd := F } ∧ s.fd.Took o F := by
  have e : s.fdImage true type b = State.loopEval { s with fd := s.fd.applyImage o } := by
    simp only [State.fdImage, himg, State.fdTake, hosc, Bool.not_false, Bool.and_self,
      State.when_true]
    exact fdUpd_up hup hcfg
  have ha : ∃ z os, s.fd.applyImage o =
      { s.fd with timedOut := false, img := o, zeroSeen := z, outs := os } := by
    unfold Fd.applyImage
    rw [if_neg (by simp [hlatch])]
    exact ⟨_, _, rfl⟩
  obtain ⟨z, os, ha⟩ := ha
  rw [e, ha]
  obtain ⟨lt, fi, z', lo, hs, ls, ex, hl⟩ := State.loopEval_eq
    { s with fd := { s.fd with timedOut := false, img := o, zeroSeen := z, outs := os } }
  rw [hl]
  exact ⟨_, rfl, Fd.took_of rfl hlatch rfl rfl⟩

end Sys2Proof.Machine

namespace Sys2Proof.Machine

open Sys2Proof.Claims State

/-! ### Silence of the link and what a status frame carries -/

/-- The die on silence: timed out, recorded, every output at its safe level, the loop open. -/
theorem State.fieldTimeout_taken {s : State} (hup : s.flogicUp = true) (hcfg : s.fd.cfgd = true)
    (hl : s.fd.loop ≠ .fault) : ∃ F, s.fieldTimeout = { s with fd := F } ∧ F.timedOut = true ∧
      F.toRecord = true ∧ F.loop = .opened ∧ F.hsOn = false ∧ F.lsOn = false ∧
      F.oscBad = s.fd.oscBad ∧
      ∀ n : Fin 16, F.doCmd n = bitOf (s.fd.cfg.fget FLD_DOCFG_SAFEON) (s.fd.cmdBase n) := by
  obtain ⟨o, ho⟩ := Fd.relatch_reopen_eq s.fd { s.fd with timedOut := true, toRecord := true }
  have e : s.fieldTimeout = State.loopEval { s with fd := { s.fd with
      timedOut := true, toRecord := true, outs := o } } := by
    unfold State.fieldTimeout
    rw [fdUpd_up hup hcfg, ho]
  obtain ⟨lt, fi, z, hopen⟩ := State.loopEval_opened (s := { s with fd := { s.fd with
    timedOut := true, toRecord := true, outs := o } }) hl (.inr (.inr rfl))
  rw [e, hopen]
  exact ⟨_, rfl, rfl, rfl, rfl, rfl, rfl, rfl, fun n => Fd.doCmd_safe (.inr rfl) n⟩

theorem execFieldOscMismatch_below {s : State} {ppm : Nat}
    (h : ppm ≤ 50000 ∨ s.flogicUp = false ∨ s.fd.cfgd = false) :
    exec (.fieldOscMismatch ppm) s =
      .next { s with fd := { s.fd with oscBad := decide (50000 < ppm) } } := by
  have hdown (x : State) (hx : x.flogicUp = false ∨ x.fd.cfgd = false) : x.fieldTimeout = x :=
    fdUpd_down hx
  change execFieldOscMismatch ppm s = _
  unfold execFieldOscMismatch
  extract_lets _ s1
  change Host.Outcome.next (s1.when (decide (ppm > 50000)) State.fieldTimeout) = .next s1
  rcases h with h | h
  · rw [decide_eq_false (by omega : ¬ ppm > 50000), State.when_false]
  · cases decide (ppm > 50000)
    · rfl
    · exact congrArg Host.Outcome.next (hdown s1 h)

/-- The sum of the powers of two of the members of a range. -/
def bitSum (p : Nat → Bool) (k : Nat) : Nat :=
  (List.range k).foldl (fun a n => if p n then a + 2 ^ n else a) 0

theorem bitSum_succ (p : Nat → Bool) (k : Nat) :
    bitSum p (k + 1) = if p k then bitSum p k + 2 ^ k else bitSum p k := by
  simp [bitSum, List.range_succ, List.foldl_append]

theorem bitSum_lt (p : Nat → Bool) (k : Nat) : bitSum p k < 2 ^ k := by
  induction k with
  | zero => simp [bitSum]
  | succ k ih =>
    rw [bitSum_succ, pow_succ]
    split <;> omega

theorem bitSum_testBit (p : Nat → Bool) {k n : Nat} (h : n < k) :
    (bitSum p k).testBit n = p n := by
  induction k with
  | zero => exact absurd h (Nat.not_lt_zero n)
  | succ k ih =>
    have hlt := bitSum_lt p k
    rw [bitSum_succ]
    rcases Nat.lt_succ_iff_lt_or_eq.1 h with hn | rfl
    · split
      · rw [Nat.add_comm, Nat.testBit_two_pow_add_gt hn, ih hn]
      · exact ih hn
    · split
      · next hp =>
        rw [Nat.add_comm, Nat.testBit_two_pow_add_eq, Nat.testBit_lt_two_pow hlt, hp]
        rfl
      · next hp => rw [Nat.testBit_lt_two_pow hlt]; exact (Bool.eq_false_iff.2 hp).symm

theorem getLsbD_bitSum (p : Nat → Bool) {w n : Nat} (h : n < w) :
    (BitVec.ofNat w (bitSum p w)).getLsbD n = p n := by
  rw [BitVec.getLsbD_ofNat, bitSum_testBit p h, decide_eq_true h, Bool.true_and]

/-- The low half of a word of two sums. -/
theorem getLsbD_low_bitSum (p : Nat → Bool) (hi : Nat) {n : Nat} (h : n < 16) :
    (BitVec.ofNat 32 (hi * 65536 + bitSum p 16)).getLsbD n = p n := by
  rw [BitVec.getLsbD_ofNat, Nat.mul_comm hi, Nat.testBit_two_pow_mul_add (i := 16) hi
    (bitSum_lt p 16), if_pos h, bitSum_testBit p h, decide_eq_true (by omega), Bool.true_and]

/-- The comparison of one output, and what it reports (R302). -/
def Fd.driftTake (f : Fd) (n : Nat) (r : FdOut × Option Nat × Bool) : Fd :=
  let f1 := { f with outs := vecUpd f.outs n (fun _ => r.1) }
  let f2 := match r.2.1 with
    | some g => { f1.evt 4 with subs := f1.subs ++ [(6, n, g)] }
    | none => f1
  if r.2.2 then f2.evt 5 else f2

/-- One output's turn in a status frame. -/
def State.driftStep (cmp : BitVec 16) (dr : List (Nat × Nat)) (x : State) (n : Nat) : State :=
  if x.doOn n && cmp.getLsbD n then
    { x with fd := x.fd.driftTake n (driftOne ((dr.filter (fun p => p.1 = n)).map (fun p => p.2))
      (x.fd.outs.toList.getD n .reset)) }
  else x

theorem State.driftAll_steps (s : State) (cmp : BitVec 16) (dr : List (Nat × Nat)) :
    s.driftAll cmp dr = (List.range 16).foldl (State.driftStep cmp dr) s := rfl

theorem Fd.driftTake_eq (f : Fd) (n : Nat) (r : FdOut × Option Nat × Bool) :
    ∃ o ev su, f.driftTake n r = { f with outs := o, evts := ev, subs := su } := by
  unfold Fd.driftTake
  obtain ⟨r1, r2, r3⟩ := r
  cases r2 with
  | none => cases r3 <;> exact ⟨_, _, _, rfl⟩
  | some g => cases r3 <;> exact ⟨_, _, _, rfl⟩

/-- The comparisons of one status frame change only the outputs and what they report. -/
theorem State.driftAll_eq (s : State) (cmp : BitVec 16) (dr : List (Nat × Nat)) :
    ∃ o ev su, s.driftAll cmp dr =
      { s with fd := { s.fd with outs := o, evts := ev, subs := su } } := by
  rw [State.driftAll_steps]
  refine List.foldlRecOn (motive := fun x => ∃ o ev su, x =
    { s with fd := { s.fd with outs := o, evts := ev, subs := su } }) (List.range 16) _ ?_ ?_
  · exact ⟨_, _, _, rfl⟩
  · rintro x ⟨o, ev, su, rfl⟩ n _
    unfold State.driftStep
    split
    · obtain ⟨o', ev', su', h⟩ := Fd.driftTake_eq { s.fd with outs := o, evts := ev, subs := su } n
        (driftOne ((dr.filter (fun p => p.1 = n)).map (fun p => p.2)) (o.toList.getD n .reset))
      exact ⟨o', ev', su', congrArg (fun F => { s with fd := F }) h⟩
    · exact ⟨_, _, _, rfl⟩

/-- What the switch of an output rests on. -/
def FdOut.held (o : FdOut) : Bool × Bool := (o.latched, o.pulsing)

/-- Without a comparison above the level only the counters of comparisons change. -/
theorem Fd.driftTake_none (f : Fd) {n : Nat} (hn : n < 16) :
    ∃ o, f.driftTake n (driftOne [] (f.outs.toList.getD n .reset)) = { f with outs := o } ∧
      o.map FdOut.held = f.outs.map FdOut.held := by
  have hget : f.outs.toList.getD n .reset = f.outs[n] := by
    rw [List.getD_eq_getElem?_getD, List.getElem?_eq_getElem (by simpa using hn), Option.getD_some,
      Vector.getElem_toList]
  rw [hget]
  refine ⟨_, rfl, Vector.ext fun i hi => ?_⟩
  rw [Vector.getElem_map, Vector.getElem_map, vecUpd_get]
  split
  · next h =>
    subst h
    rfl
  · rfl

theorem State.driftAll_none (s : State) (cmp : BitVec 16) :
    ∃ o, s.driftAll cmp [] = { s with fd := { s.fd with outs := o } } ∧
      o.map FdOut.held = s.fd.outs.map FdOut.held := by
  rw [State.driftAll_steps]
  refine List.foldlRecOn (motive := fun x => ∃ o, x = { s with fd := { s.fd with outs := o } } ∧
      o.map FdOut.held = s.fd.outs.map FdOut.held) (List.range 16) _ ?_ ?_
  · exact ⟨_, rfl, rfl⟩
  · rintro x ⟨o, rfl, ho⟩ n hn
    unfold State.driftStep
    split
    · obtain ⟨o', h, ho'⟩ := Fd.driftTake_none { s.fd with outs := o } (List.mem_range.1 hn)
      exact ⟨o', congrArg (fun F => { s with fd := F }) h, ho'.trans ho⟩
    · exact ⟨_, rfl, ho⟩

theorem any_zipIdx_congr {α β : Type} (f : α → β) {l k : List α} (h : l.map f = k.map f)
    (p : β → Nat → Bool) :
    l.zipIdx.any (fun x => p (f x.1) x.2) = k.zipIdx.any (fun x => p (f x.1) x.2) := by
  have e (m : List α) : m.zipIdx.any (fun x => p (f x.1) x.2)
      = (m.map f).zipIdx.any (fun x => p x.1 x.2) := by
    rw [List.zipIdx_map, List.any_map]
    rfl
  rw [e, e, h]

/-- Outputs held alike conduct alike. -/
theorem State.doOn_congr {s : State} {o : Vector FdOut 16}
    (h : o.map FdOut.held = s.fd.outs.map FdOut.held) (n : Nat) :
    State.doOn { s with fd := { s.fd with outs := o } } n = s.doOn n := by
  have hl : o.toList.map FdOut.held = s.fd.outs.toList.map FdOut.held := by
    rw [← Vector.toList_map, h, Vector.toList_map]
  have hlatched : Fd.doLatched { s.fd with outs := o } n = s.fd.doLatched n :=
    any_zipIdx_congr FdOut.held hl (fun v i => s.fd.cmdBase i = s.fd.cmdBase n && v.1)
  have hpulsing : Fd.doPulsing { s.fd with outs := o } n = s.fd.doPulsing n :=
    any_zipIdx_congr FdOut.held hl (fun v i => s.fd.cmdBase i = s.fd.cmdBase n && v.2)
  unfold State.doOn
  rw [hlatched, hpulsing]
  rfl

end Sys2Proof.Machine

namespace Sys2Proof.Machine

open Sys2Proof.Claims State

/-! ### Status frames at the compute die -/

/-- Events of one register are raised. -/
def State.raiseBits (s : State) (a : Nat) (l : List Nat) : State :=
  l.foldl (fun x b => x.raise ⟨a, b, 1⟩) s

theorem State.raiseBits_eq (s : State) (a : Nat) (l : List Nat) :
    ∃ r, s.raiseBits a l = { s with regs := r } := by
  refine List.foldlRecOn (motive := fun x => ∃ r, x = { s with regs := r }) l _ ?_ ?_
  · exact ⟨_, rfl⟩
  · rintro x ⟨r, rfl⟩ b _
    exact ⟨_, rfl⟩

theorem State.raiseBits_word_ne (s : State) {a c : Nat} (l : List Nat) (h : a ≠ c) :
    (s.raiseBits a l).regs.word c = s.regs.word c := by
  refine List.foldlRecOn (motive := fun x : State => x.regs.word c = s.regs.word c) l _ ?_ ?_
  · rfl
  · exact fun x hx b _ => (RegMap.word_fset_ne x.regs _ _ h).trans hx

/-- A raised bit stays, whatever other bits of its register are raised. -/
theorem State.raise_bit_mono {s : State} {a b c : Nat} (hb : b < 32)
    (h : s.fget ⟨a, c, 1⟩ = 1) : (s.raise ⟨a, b, 1⟩).fget ⟨a, c, 1⟩ = 1 := by
  by_cases hc : b = c
  · subst hc
    exact fget_fset_self s _ 1 (by simpa using hb)
  · refine (fget_fset_apart s _ _ 1 (by simpa using hb) ?_).trans h
    simp only [Fld.apart, Bool.or_eq_true, decide_eq_true_eq]
    omega

theorem State.raiseBits_bit {s : State} {a b : Nat} {l : List Nat} (hl : ∀ n ∈ l, n < 32)
    (h : b ∈ l ∨ s.fget ⟨a, b, 1⟩ = 1) : (s.raiseBits a l).fget ⟨a, b, 1⟩ = 1 := by
  induction l generalizing s with
  | nil => exact h.resolve_left (List.not_mem_nil)
  | cons n l ih =>
    have hn : n < 32 := hl n List.mem_cons_self
    refine ih (fun m hm => hl m (List.mem_cons_of_mem n hm)) ?_
    rcases h with h | h
    · rcases List.mem_cons.1 h with rfl | h
      · exact .inr (fget_fset_self s _ 1 (by simpa using hn))
      · exact .inl h
    · exact .inr (raise_bit_mono hn h)

/-- A valid status frame in the receive bank and the registers, before its substitutions. -/
def State.statusTaken (s : State) (fr : StatusFrame) (q : List StatusFrame) : State :=
  let regs := [0x40040010, 0x40040014, 0x40040030, 0x40040034, 0x40040048, 0x4004004C,
    0x40040050, 0x40040054, 0x40040060, 0x400E0104, 0x400E0110].foldl
      (fun m a => m.setWord a (fr.words.word a)) s.regs
  let s2 := { s with regs := regs, link := { s.link with toComp := q, rx := some fr } }
  ((s2.show FLD_STAT_TIMEOUT fr.timeout).show FLD_STAT_SAFE_LATCH fr.safeLatch).raiseBits 0x40040004
    (bitList 10 fr.evts.toNat)

theorem execStatusFrameReceived_taken {s : State} {fr : StatusFrame} {q : List StatusFrame}
    (h : s.link.toComp = fr :: q) (hh : s.clk.hold = false) (ha : s.rst.active = false) :
    exec (.statusFrameReceived true) s =
      .next (fr.subs.foldl State.fieldSubst (s.statusTaken fr q)) := by
  change execStatusFrameReceived true s = _
  simp only [execStatusFrameReceived, h, hh, ha]
  rfl

theorem execStatusFrameReceived_invalid {s : State} {fr : StatusFrame} {q : List StatusFrame}
    (h : s.link.toComp = fr :: q) (hh : s.clk.hold = false) (ha : s.rst.active = false) :
    exec (.statusFrameReceived false) s =
      .next (State.bump { s with link := { s.link with toComp := q } } FLD_STAT_CRCERR) := by
  change execStatusFrameReceived false s = _
  simp only [execStatusFrameReceived, h, hh, ha]
  rfl

theorem execStatusFrameReceived_stopped {s : State} {fr : StatusFrame} {q : List StatusFrame}
    {ok : Bool} (h : s.link.toComp = fr :: q) (hs : s.clk.hold = true ∨ s.rst.active = true) :
    exec (.statusFrameReceived ok) s = .next { s with link := { s.link with toComp := q } } := by
  change execStatusFrameReceived ok s = _
  rcases hs with hs | hs
  · simp only [execStatusFrameReceived, h, hs, Bool.true_or, if_true]
  · simp only [execStatusFrameReceived, h, hs, Bool.or_true, if_true]

theorem State.statusTaken_eq (s : State) (fr : StatusFrame) (q : List StatusFrame) :
    ∃ r, s.statusTaken fr q =
      { s with regs := r, link := { s.link with toComp := q, rx := some fr } } := by
  have hset (x : State) (f : Fld) (b : Bool) (r : RegMap) :
      { x.show f b with regs := r } = { x with regs := r } := rfl
  unfold State.statusTaken
  extract_lets regs _ s2
  clear_value regs
  obtain ⟨r, hr⟩ := State.raiseBits_eq ((s2.show FLD_STAT_TIMEOUT fr.timeout).show
    FLD_STAT_SAFE_LATCH fr.safeLatch) 0x40040004 (bitList 10 fr.evts.toNat)
  refine ⟨r, hr.trans ?_⟩
  rw [hset, hset]

/-- The words of Table 11-6 show in their registers. -/
theorem State.statusTaken_word {s : State} {fr : StatusFrame} {q : List StatusFrame} {a : Nat}
    (ha : a ∈ statusRegs) : (s.statusTaken fr q).regWord a = fr.words.word a := by
  have h0 : (0x40040000 : Nat) ≠ a := by rintro rfl; revert ha; decide
  have h4 : (0x40040004 : Nat) ≠ a := by rintro rfl; revert ha; decide
  unfold State.statusTaken
  extract_lets regs _ s2
  have hregs : regs.word a = fr.words.word a := by
    simp only [statusRegs, List.mem_cons, List.not_mem_nil, or_false] at ha
    rcases ha with rfl | rfl | rfl | rfl | rfl | rfl | rfl | rfl | rfl | rfl | rfl <;>
      simp [regs, RegMap.word_setWord]
  refine (raiseBits_word_ne _ _ h4).trans ?_
  refine (RegMap.word_fset_ne _ _ _ h0).trans ((RegMap.word_fset_ne _ _ _ h0).trans ?_)
  exact hregs

/-- The events of a frame leave FLD_STAT as it is. -/
theorem State.raiseBits_fget_ne {s : State} {a : Nat} {f : Fld} (l : List Nat) (h : a ≠ f.addr) :
    (s.raiseBits a l).fget f = s.fget f := by
  simp only [State.fget, RegMap.fget, raiseBits_word_ne s l h]

theorem State.fget_show_self {s : State} {f : Fld} (b : Bool) (hf : f.lo + f.width ≤ 32)
    (hw : f.width = 1) : (s.show f b).fget f = if b then 1 else 0 := by
  rw [State.show_eq, fget_fset_self s f _ hf, hw]
  cases b <;> rfl

theorem State.statusTaken_timeout (s : State) (fr : StatusFrame) (q : List StatusFrame) :
    (s.statusTaken fr q).fget FLD_STAT_TIMEOUT = if fr.timeout then 1 else 0 :=
  (raiseBits_fget_ne _ (by decide)).trans ((fget_fset_apart _ _ _ _ (by decide) (by decide)).trans
    (fget_show_self fr.timeout (by decide) rfl))

theorem State.statusTaken_safeLatch (s : State) (fr : StatusFrame) (q : List StatusFrame) :
    (s.statusTaken fr q).fget FLD_STAT_SAFE_LATCH = if fr.safeLatch then 1 else 0 :=
  (raiseBits_fget_ne _ (by decide)).trans (fget_show_self fr.safeLatch (by decide) rfl)

theorem bitOf_toNat {w : Nat} (v : BitVec w) (n : Nat) : bitOf v.toNat n = v.getLsbD n := by
  rw [bitOf, BitVec.getLsbD, Nat.testBit_eq_decide_div_mod_eq]

theorem State.statusTaken_event {s : State} {fr : StatusFrame} {q : List StatusFrame} {b : Fin 10}
    (h : fr.evts.getLsbD b = true) :
    (s.statusTaken fr q).fget ⟨0x40040004, b, 1⟩ = 1 := by
  refine raiseBits_bit (fun n hn => ?_) (.inl ?_)
  · have := List.mem_range.1 (List.mem_filter.1 hn).1
    omega
  · exact List.mem_filter.2 ⟨List.mem_range.2 b.2, (bitOf_toNat _ _).trans h⟩

/-! ### The substitutions of a status frame in the wear log -/

theorem State.fset_record (s : State) (f : Fld) (v : Nat) :
    ∃ r, s.fset f v = { s with regs := r } := ⟨_, rfl⟩

theorem State.pendWearFlash_eq (s : State) (e : WearE) : ∃ r w fl, s.pendWearFlash e =
    { s with regs := r, wear := w, flc := fl } ∧ w.file = s.wear.file := by
  obtain ⟨r, hr⟩ := State.fset_record
    { s with wear := { s.wear with pendWear := s.wear.pendWear ++ [e] } }
    BOOT_STAT_WEAR_FLASH_PENDING 1
  unfold State.pendWearFlash
  rw [State.raise_eq, hr]
  split
  · exact ⟨_, _, _, rfl, rfl⟩
  · exact ⟨_, _, _, rfl, rfl⟩

/-- An entry of the wear log: the file grows by it, and its copies are under way. -/
theorem State.wearLog_eq (s : State) (kind unit detail : Nat) :
    ∃ r m w fl, s.wearLog kind unit detail =
        { s with regs := r, mem := m, wear := w, flc := fl } ∧
      ∃ q n, w.file = s.wear.file ++ [⟨q, n, kind, unit, detail⟩] := by
  unfold State.wearLog
  extract_lets e _
  obtain ⟨r, w, fl, h, hw⟩ := State.pendWearFlash_eq
    (State.retainWear { s with wear := { s.wear with file := s.wear.file ++ [e] } } e) e
  exact ⟨r, _, w, fl, h, _, _, hw⟩

/-- The wear log holds an entry for a substitution. -/
def wearHas (w : List WearE) (e : Nat × Nat × Nat) : Bool :=
  w.any (fun x => x.kind = e.1 && x.unit = e.2.1 && x.detail = e.2.2)

theorem State.fieldSubst_known {s : State} {e : Nat × Nat × Nat}
    (h : wearHas s.wear.file e = true) : s.fieldSubst e = s := if_pos h

/-- A substitution that is new makes an entry, and the last spare of its kind a second one. -/
theorem State.fieldSubst_new {s : State} {e : Nat × Nat × Nat}
    (h : ¬ wearHas s.wear.file e = true) : ∃ b, s.fieldSubst e =
      (s.wearLog e.1 e.2.1 e.2.2).when b (fun x => x.wearLog 7 e.1 0) := ⟨_, if_neg h⟩

/-- A reported substitution stands in the wear log afterwards. -/
theorem State.fieldSubst_eq (s : State) (e : Nat × Nat × Nat) :
    ∃ r m w fl, s.fieldSubst e = { s with regs := r, mem := m, wear := w, flc := fl } ∧
      wearHas w.file e = true := by
  by_cases hk : wearHas s.wear.file e = true
  · exact ⟨s.regs, s.mem, s.wear, s.flc, fieldSubst_known hk, hk⟩
  · obtain ⟨b, hb⟩ := State.fieldSubst_new hk
    obtain ⟨r, m, w, fl, h, q, n, hw⟩ := s.wearLog_eq e.1 e.2.1 e.2.2
    have hhas : wearHas w.file e = true := by
      rw [wearHas, hw]
      simp
    rw [hb, h]
    cases b
    · exact ⟨r, m, w, fl, State.when_false _ _, hhas⟩
    · obtain ⟨r', m', w', fl', h', q', n', hw'⟩ := State.wearLog_eq
        { s with regs := r, mem := m, wear := w, flc := fl } 7 e.1 0
      refine ⟨r', m', w', fl', (State.when_true _ _).trans h', ?_⟩
      rw [wearHas, hw', List.any_append]
      exact Bool.or_eq_true_iff.2 (.inl hhas)

/-! ### The failure of the link -/

/-- The first effects of a link failure. -/
def State.linkDown (s : State) : State :=
  let s1 := ((s.fset FLD_STAT_LINK 3).raise FLD_EVT_LINK_FAIL).lower FLD_STAT_CFG_OK
  { s1 with link := { s1.link with acked := false } }

theorem State.linkFailure_eq (s : State) : s.linkFailure =
    (s.linkDown.when (s.linkDown.inService && s.linkDown.safetyCfg)
      (fun x => x.safeEnter 8)).evalSets := rfl

theorem State.linkDown_regs (s : State) : Regs s s.linkDown
    [(FLD_STAT_LINK, 3), (FLD_EVT_LINK_FAIL, 1), (FLD_STAT_CFG_OK, 0)] := by
  have h := (((Regs.refl s).fset (f := FLD_STAT_LINK) (v := 3) (by decide) (by decide) nofun).fset
    (f := FLD_EVT_LINK_FAIL) (v := 1) (by decide) (by decide) (by decide)).fset
    (f := FLD_STAT_CFG_OK) (v := 0) (by decide) (by decide) (by decide)
  exact h.congr rfl

theorem State.linkDown_eq (s : State) :
    ∃ r, s.linkDown = { s with regs := r, link := { s.link with acked := false } } := by
  obtain ⟨r1, h1⟩ := s.fset_record FLD_STAT_LINK 3
  obtain ⟨r2, h2⟩ := State.fset_record { s with regs := r1 } FLD_EVT_LINK_FAIL 1
  obtain ⟨r3, h3⟩ := State.fset_record { s with regs := r2 } FLD_STAT_CFG_OK 0
  refine ⟨r3, ?_⟩
  unfold State.linkDown
  rw [h1, State.raise_eq, h2, State.lower_eq, h3]

theorem State.linkDown_inService (s : State) : s.linkDown.inService = s.inService := by
  have hphase : s.linkDown.fget BOOT_STAT_PHASE = s.fget BOOT_STAT_PHASE :=
    s.linkDown_regs.2 _ (by decide)
  obtain ⟨r, hr⟩ := s.linkDown_eq
  have hrst : s.linkDown.rst = s.rst := hr ▸ rfl
  have hclk : s.linkDown.clk = s.clk := hr ▸ rfl
  simp only [State.inService, hphase, hrst, hclk]

/-- A link failure reads as one, whatever the service sets make of it. -/
theorem State.linkFailure_linkView_fst (s : State) :
    s.linkFailure.linkView.1 = s.linkDown.linkView.1 := by
  rw [State.linkFailure_eq, evalSets_linkView_fst]
  cases s.linkDown.inService && s.linkDown.safetyCfg
  · rfl
  · exact safeEnter_linkView_fst _ _

/-- What the claims about a link failure read of a state. -/
theorem linkFailed_of_view {s t : State} (h : t.linkView.1 = s.linkDown.linkView.1) :
    t.fget FLD_STAT_LINK = 3 ∧ t.fget FLD_EVT_LINK_FAIL = 1 ∧ t.fget FLD_STAT_CFG_OK = 0 ∧
      t.link.acked = false ∧ t.flash = s.flash ∧ t.pending = s.pending := by
  obtain ⟨r, hr⟩ := s.linkDown_eq
  have hregs := s.linkDown_regs.1
  simp only [State.linkView, Prod.mk.injEq] at h
  obtain ⟨h0, h4, hack, hfl, hp⟩ := h
  have hfget (f : Fld) (hf : f.addr = 0x40040000 ∨ f.addr = 0x40040004) :
      t.fget f = s.linkDown.fget f := by
    unfold State.fget RegMap.fget
    rcases hf with hf | hf
    · rw [hf, h0]
    · rw [hf, h4]
  refine ⟨?_, ?_, ?_, hack.trans (hr ▸ rfl), hfl.trans (hr ▸ rfl), hp.trans (hr ▸ rfl)⟩
  · exact (hfget _ (.inl rfl)).trans (hregs (FLD_STAT_LINK, 3) (by simp))
  · exact (hfget _ (.inr rfl)).trans (hregs (FLD_EVT_LINK_FAIL, 1) (by simp))
  · exact (hfget _ (.inl rfl)).trans (hregs (FLD_STAT_CFG_OK, 0) (by simp))

theorem State.evalSets_idle {s : State} (h : s.inService = false ∨ s.rst.safe.isSome = true) :
    s.evalSets = s := by
  unfold State.evalSets
  refine if_pos ?_
  rcases h with h | h
  · simp [h]
  · simp [h]

theorem State.linkFailure_off {s : State} (h : s.inService = false) :
    s.linkFailure = s.linkDown := by
  have h' : s.linkDown.inService = false := s.linkDown_inService.trans h
  rw [State.linkFailure_eq, h', Bool.false_and, State.when_false, evalSets_idle (.inl h')]

/-- In service with a safety function a link failure enters the device safe state. -/
theorem State.linkFailure_safe {s : State} (h : s.inService = true) (hs : s.safetyCfg = true)
    (hn : s.rst.safe = none) :
    s.linkFailure.linkView = (s.linkDown.linkView.1, some 8, false) := by
  obtain ⟨r, hr⟩ := s.linkDown_eq
  have h' : s.linkDown.inService = true := s.linkDown_inService.trans h
  have hs' : s.linkDown.safetyCfg = true := by rw [hr]; exact hs
  have hn' : s.linkDown.rst.safe = none := by rw [hr]; exact hn
  have hv := safeEnter_linkView 8 hn'
  have hsafe : (s.linkDown.safeEnter 8).rst.safe = some 8 := congrArg (·.2.1) hv
  rw [State.linkFailure_eq, h', hs', Bool.and_self, State.when_true,
    evalSets_idle (.inr (by rw [hsafe]; rfl)), hv]

end Sys2Proof.Machine

namespace Sys2Proof.Machine

open Sys2Proof.Claims State

/-! ### The frames of the barrier link, command by command -/

/-- A command frame changes only the link's queue and the field die. -/
theorem frame_keeps {s : State} {q : List LinkFrame} {P : Fd → Prop} {F : Fd} (h : P F) :
    Yields (.next { s.frameTaken q with fd := F }) (fun t =>
      Regs s t [] ∧ Quiet s t ∧ t.link = { s.link with toField := q } ∧ P t.fd) :=
  .next ⟨.of_regs rfl, ⟨rfl, rfl, fun _ => rfl, rfl⟩, rfl, h⟩

theorem frame_idle {s : State} {q : List LinkFrame} : Yields (.next (s.frameTaken q)) (fun t =>
    Regs s t [] ∧ Quiet s t ∧ t.link = { s.link with toField := q } ∧ t.fd = s.fd) :=
  .next ⟨.of_regs rfl, ⟨rfl, rfl, fun _ => rfl, rfl⟩, rfl, rfl⟩

/-- An image frame that a die takes. -/
theorem imageFrame_taken {s : State} {q : List LinkFrame} {type : Nat} {b : List Byte}
    {o : OutImg} (hup : s.flogicUp = true) (hcfg : s.fd.cfgd = true) (hosc : s.fd.oscBad = false)
    (himg : frameImg type b = some o) (hlatch : s.fd.safeLatch = false) :
    Yields (.next ((s.frameTaken q).fdImage true type b)) (fun t =>
      Regs s t [] ∧ Quiet s t ∧ t.link = { s.link with toField := q } ∧ s.fd.Took o t.fd) := by
  obtain ⟨F, e, hF⟩ := State.fdImage_taken (s := s.frameTaken q) hup hcfg hosc himg hlatch
  rw [e]
  exact frame_keeps (P := s.fd.Took o) hF

theorem imageFrame_ignored {s : State} {q : List LinkFrame} {ok : Bool} {type : Nat}
    {b : List Byte} (h : ok = false ∨ frameImg type b = none ∨ s.fd.oscBad = true
      ∨ s.flogicUp = false ∨ s.fd.cfgd = false) :
    Yields (.next ((s.frameTaken q).fdImage ok type b)) (fun t =>
      Regs s t [] ∧ Quiet s t ∧ t.link = { s.link with toField := q } ∧ t.fd = s.fd) := by
  rw [State.fdImage_ignored (s := s.frameTaken q) h]
  exact frame_idle

theorem loadFrame_taken {s : State} {q : List LinkFrame} {m : RegMap} {u : List (Nat × Nat × Nat)}
    (h : s.link.toField = .load m u :: q) (hup : s.flogicUp = true) :
    Yields (exec (.fieldLoadFrame true) s) (fun t =>
      Regs s t [] ∧ Quiet s t ∧ t.link = { s.link with toField := q } ∧ t.fd.cfgd = true ∧
      t.fd.loadOk = true ∧ t.fd.cfg = m ∧ t.fd.safeLatch = s.fd.safeLatch ∧
      t.fd.timedOut = false ∧ t.fd.hsOn = false ∧ t.fd.lsOn = false ∧ t.fd.loopFault = 0 ∧
      t.fd.taken = Fd.reset.taken) := by
  obtain ⟨sp, o, hl⟩ := Fd.loaded_eq s.fd.safeLatch m u
  obtain ⟨lt, fi, z, hopen⟩ := State.loopEval_opened (s := { s.frameTaken q with
    fd := { Fd.reset with cfgd := true, loadOk := true, cfg := m, safeLatch := s.fd.safeLatch
                          spares := sp, outs := o } }) nofun
    (.inl (show Fd.reset.img.bl ≠ 3 by decide))
  have e := execFieldLoadFrame_eq (ok := true) h hup
  rw [if_pos rfl] at e
  exact .of_eq (e.trans (congrArg Host.Outcome.next ((congrArg
    (fun F => State.loopEval { s.frameTaken q with fd := F }) hl).trans hopen)))
    ⟨.of_regs rfl, ⟨rfl, rfl, fun _ => rfl, rfl⟩, rfl, rfl, rfl, rfl, rfl, rfl, rfl, rfl,
    rfl, rfl⟩

theorem safeFrame_taken {s : State} {q : List LinkFrame} (hup : s.flogicUp = true)
    (hosc : s.fd.oscBad = false) (h : s.link.toField = .safe :: q) (hl : s.fd.loop ≠ .fault) :
    Yields (exec (.fieldSafeFrame true) s) (fun t =>
      Regs s t [] ∧ Quiet s t ∧ t.link = { s.link with toField := q } ∧ t.fd.safeLatch = true ∧
      t.fd.loop = .opened ∧ t.fd.hsOn = false ∧ t.fd.lsOn = false ∧
      (∀ n : Fin 16, t.fd.doCmd n = bitOf (s.fd.cfg.fget FLD_DOCFG_SAFEON) (s.fd.cmdBase n))) := by
  obtain ⟨o, ho⟩ := Fd.relatch_reopen_eq s.fd { s.fd with timedOut := false, safeLatch := true }
  obtain ⟨lt, fi, z, hopen⟩ := State.loopEval_opened (s := { s.frameTaken q with
    fd := { s.fd with timedOut := false, safeLatch := true, outs := o } }) hl (.inr (.inl rfl))
  have e := execFieldSafeFrame_eq (ok := true) h
  rw [hup, hosc, if_pos (c := (true && !false && true) = true) rfl] at e
  exact .of_eq (e.trans (congrArg Host.Outcome.next ((congrArg
    (fun F => State.loopEval { s.frameTaken q with fd := F }) ho).trans hopen)))
    ⟨.of_regs rfl, ⟨rfl, rfl, fun _ => rfl, rfl⟩, rfl, rfl, rfl, rfl, rfl,
    fun n => Fd.doCmd_safe (.inl rfl) n⟩

theorem safeFrame_ignored {s : State} {q : List LinkFrame} {ok : Bool}
    (h : s.link.toField = .safe :: q)
    (hd : s.flogicUp = false ∨ s.fd.oscBad = true ∨ ok = false) :
    Yields (exec (.fieldSafeFrame ok) s) (fun t =>
      Regs s t [] ∧ Quiet s t ∧ t.link = { s.link with toField := q } ∧ t.fd = s.fd) := by
  have hc : (ok && !s.fd.oscBad && s.flogicUp) = false := by
    rcases hd with hd | hd | hd
    · rw [hd, Bool.and_false]
    · rw [hd, Bool.not_true, Bool.and_false, Bool.false_and]
    · rw [hd, Bool.false_and, Bool.false_and]
  rw [execFieldSafeFrame_eq h, hc, if_neg Bool.false_ne_true]
  exact frame_idle

/-! ### Silence, status frames, link failure -/

theorem fieldTimeout_claim {s u : State} (hup : s.flogicUp = true) (hcfg : s.fd.cfgd = true)
    (hl : s.fd.loop ≠ .fault) (b : Bool)
    (hu : u = { s with fd := { s.fd with oscBad := b } }) :
    Yields (.next u.fieldTimeout) (fun t =>
      FieldOnly s t ∧ t.fd.timedOut = true ∧ t.fd.toRecord = true ∧ t.fd.loop = .opened ∧
      t.fd.hsOn = false ∧ t.fd.lsOn = false ∧ t.fd.oscBad = b ∧
      (∀ n : Fin 16, t.fd.doCmd n = bitOf (s.fd.cfg.fget FLD_DOCFG_SAFEON) (s.fd.cmdBase n))) := by
  subst hu
  obtain ⟨F, e, hF⟩ := State.fieldTimeout_taken
    (s := { s with fd := { s.fd with oscBad := b } }) hup hcfg hl
  rw [e]
  exact .next ⟨⟨.of_regs rfl, ⟨rfl, rfl, fun _ => rfl, rfl⟩, rfl⟩, hF⟩

theorem execFieldOscMismatch_above {s : State} {ppm : Nat} (h : 50000 < ppm) :
    exec (.fieldOscMismatch ppm) s =
      .next (State.fieldTimeout { s with fd := { s.fd with oscBad := true } }) := by
  have hd : decide (ppm > 50000) = true := decide_eq_true h
  change execFieldOscMismatch ppm s = _
  simp only [execFieldOscMismatch, hd, State.when_true]

theorem refreshSendTick_sends {s : State} (hack : s.link.acked = true) (hh : s.clk.hold = false)
    (hg : bitOf (s.fget CLK_GMAP_ISLAND) 8 = true) : exec .refreshSendTick s =
      .next { s with link := { s.link with
        toField := s.link.toField ++ [.refresh (outFrame 4 s.link.img)] } } := by
  change execRefreshSendTick s = _
  simp only [execRefreshSendTick, hack, State.when_true, State.linkSend, hh, hg, Bool.not_true,
    Bool.or_self, Bool.false_eq_true, if_false]

theorem refreshSendTick_idle {s : State} (hack : s.link.acked = false) :
    exec .refreshSendTick s = .next s := by
  change execRefreshSendTick s = _
  simp only [execRefreshSendTick, hack, State.when_false]

/-- The frame that a die sends (Table 11-6). -/
def State.statusFrame (s : State) : StatusFrame :=
  { words := s.statusWords, diGood := BitVec.ofNat 32 (bitSum s.fd.diGood 32)
    timeout := s.fd.toRecord, safeLatch := s.fd.safeLatch, evts := s.fd.evts, subs := s.fd.subs }

/-- The frame is sent, and its events begin anew. -/
def State.statusSent (s : State) : State :=
  { s with link := { s.link with toComp := s.link.toComp ++ [s.statusFrame] }
           fd := { s.fd with evts := 0 } }

theorem execStatusFrameTick_sends {s : State} {m : FieldMeas} (hup : s.flogicUp = true)
    (hcfg : s.fd.cfgd = true) (hosc : s.fd.oscBad = false) :
    exec (.statusFrameTick m) s =
      .next (State.driftAll { s with fd := { s.fd with mv := m.mv, temp := m.tempDc } }
        m.compared m.drift).statusSent := by
  change execStatusFrameTick m s = _
  unfold execStatusFrameTick
  rw [hup, hcfg, hosc]
  rfl

theorem execStatusFrameTick_idle {s : State} {m : FieldMeas}
    (h : s.flogicUp = false ∨ s.fd.cfgd = false ∨ s.fd.oscBad = true) :
    exec (.statusFrameTick m) s = .next s := by
  change execStatusFrameTick m s = _
  have hc : (s.flogicUp && s.fd.cfgd && !s.fd.oscBad) = false := by
    rcases h with h | h | h
    · rw [h, Bool.false_and, Bool.false_and]
    · rw [h, Bool.and_false, Bool.false_and]
    · rw [h, Bool.not_true, Bool.and_false]
  unfold execStatusFrameTick
  rw [hc, if_neg Bool.false_ne_true]

/-- The words of a status frame that the claim names. -/
theorem State.statusWords_word (s : State) :
    s.statusWords.word 0x40040010 = s.fd.filt ∧ s.statusWords.word 0x40040014 = s.fd.raw ∧
    s.statusWords.word 0x40040034 = s.fd.diFault ∧
    ∃ hi, s.statusWords.word 0x40040048 = BitVec.ofNat 32 (hi * 65536 + bitSum s.doOn 16) := by
  refine ⟨?_, ?_, ?_, s.fd.diagBits (·.latched), ?_⟩
  · simp [State.statusWords]
  · simp [State.statusWords, RegMap.word_setWord]
  · simp [State.statusWords, RegMap.word_setWord]
  · simp [State.statusWords, RegMap.word_setWord, bitSum]

/-- The frame of one tick, where no output is above its drift level. -/
theorem statusFrameTick_calm {s : State} {m : FieldMeas} (hup : s.flogicUp = true)
    (hcfg : s.fd.cfgd = true) (hosc : s.fd.oscBad = false) (hd : m.drift = []) :
    Yields (exec (.statusFrameTick m) s) (fun t =>
      Regs s t [] ∧ Quiet s t ∧ t.link.toComp.dropLast = s.link.toComp ∧
      (∀ fr ∈ t.link.toComp.getLast?, fr.evts = s.fd.evts ∧ fr.subs = s.fd.subs ∧
        fr.timeout = s.fd.toRecord ∧ fr.safeLatch = s.fd.safeLatch ∧
        fr.words.word 0x40040010 = s.fd.filt ∧ fr.words.word 0x40040014 = s.fd.raw ∧
        fr.words.word 0x40040034 = s.fd.diFault ∧
        (∀ n : Fin 32, fr.diGood.getLsbD n = s.fd.diGood n) ∧
        (∀ n : Fin 16, (fr.words.word 0x40040048).getLsbD n = s.doOn n)) ∧
      t.fd.evts = 0 ∧ t.fd.subs = s.fd.subs ∧ t.fd.mv = m.mv ∧ t.fd.temp = m.tempDc) := by
  obtain ⟨o, hdrift, ho⟩ := State.driftAll_none
    { s with fd := { s.fd with mv := m.mv, temp := m.tempDc } } m.compared
  have hon (n : Nat) := State.doOn_congr
    (s := { s with fd := { s.fd with mv := m.mv, temp := m.tempDc } }) ho n
  have e := execStatusFrameTick_sends (m := m) hup hcfg hosc
  rw [hd, hdrift] at e
  refine .of_eq e ⟨.of_regs rfl, ⟨rfl, rfl, fun _ => rfl, rfl⟩, List.dropLast_concat, ?_, rfl, rfl,
    rfl, rfl⟩
  intro fr hfr
  obtain rfl := Option.some.inj (hfr.symm.trans List.getLast?_concat)
  obtain ⟨h10, h14, h34, hi, h48⟩ := State.statusWords_word { s with fd := { s.fd with
    mv := m.mv, temp := m.tempDc, outs := o } }
  refine ⟨rfl, rfl, rfl, rfl, h10, h14, h34, fun n => getLsbD_bitSum _ n.2, fun n => ?_⟩
  exact (congrArg (fun v => BitVec.getLsbD v n) h48).trans
    ((getLsbD_low_bitSum _ hi n.2).trans (hon n))

theorem statusFrameTick_sends {s : State} {m : FieldMeas} (hup : s.flogicUp = true)
    (hcfg : s.fd.cfgd = true) (hosc : s.fd.oscBad = false) :
    Yields (exec (.statusFrameTick m) s) (fun t =>
      Regs s t [] ∧ Quiet s t ∧ t.link.toComp.dropLast = s.link.toComp ∧
      t.link.toComp.length = s.link.toComp.length + 1 ∧
      (∀ fr ∈ t.link.toComp.getLast?, fr.subs = t.fd.subs) ∧ t.fd.evts = 0 ∧ t.fd.mv = m.mv ∧
      t.fd.temp = m.tempDc) := by
  obtain ⟨o, ev, su, hdrift⟩ := State.driftAll_eq
    { s with fd := { s.fd with mv := m.mv, temp := m.tempDc } } m.compared m.drift
  have e := execStatusFrameTick_sends (m := m) hup hcfg hosc
  rw [hdrift] at e
  refine .of_eq e ⟨.of_regs rfl, ⟨rfl, rfl, fun _ => rfl, rfl⟩, List.dropLast_concat,
    List.length_append, ?_, rfl, rfl, rfl⟩
  intro fr hfr
  obtain rfl := Option.some.inj (hfr.symm.trans List.getLast?_concat)
  rfl

theorem statusFrameReceived_shows {s : State} {fr : StatusFrame} {q : List StatusFrame}
    (h : s.link.toComp = fr :: q) (hh : s.clk.hold = false) (ha : s.rst.active = false)
    (hs : fr.subs = []) : Yields (exec (.statusFrameReceived true) s) (fun t =>
      t.link = { s.link with toComp := q, rx := some fr } ∧ Quiet s t ∧
      (∀ a ∈ statusRegs, t.regWord a = fr.words.word a) ∧
      t.fget FLD_STAT_TIMEOUT = (if fr.timeout then 1 else 0) ∧
      t.fget FLD_STAT_SAFE_LATCH = (if fr.safeLatch then 1 else 0) ∧
      (∀ b : Fin 10, fr.evts.getLsbD b = true → t.fget ⟨0x40040004, b, 1⟩ = 1)) := by
  have e := execStatusFrameReceived_taken h hh ha
  rw [hs, List.foldl_nil] at e
  obtain ⟨r, hr⟩ := s.statusTaken_eq fr q
  have hquiet : Quiet s (s.statusTaken fr q) := by
    rw [hr]
    exact ⟨rfl, rfl, fun _ => rfl, rfl⟩
  refine .of_eq e ⟨?_, hquiet, fun _ => State.statusTaken_word, State.statusTaken_timeout s fr q,
    State.statusTaken_safeLatch s fr q, fun _ => State.statusTaken_event⟩
  rw [hr]

/-- A counter one up stays in its field. -/
theorem plusOne_lt (s : State) (f : Fld) : plusOne s f < 2 ^ f.width := by
  have := Nat.two_pow_pos f.width
  unfold plusOne
  omega

theorem statusFrameReceived_counts {s : State} {fr : StatusFrame} {q : List StatusFrame}
    (h : s.link.toComp = fr :: q) (hh : s.clk.hold = false) (ha : s.rst.active = false) :
    Yields (exec (.statusFrameReceived false) s) (fun t =>
      Regs s t [(FLD_STAT_CRCERR, plusOne s FLD_STAT_CRCERR)] ∧ Quiet s t ∧
      t.link = { s.link with toComp := q }) := by
  have hl (x : State) (L : Link) (v : Nat) :
      State.fset { x with link := L } FLD_STAT_CRCERR v =
        { x.fset FLD_STAT_CRCERR v with link := L } := rfl
  refine .of_eq (execStatusFrameReceived_invalid h hh ha) ⟨?_, .fset ⟨rfl, rfl, fun _ => rfl, rfl⟩,
    ?_⟩
  · exact (Regs.of_regs rfl).fset (by decide) (plusOne_lt s _) nofun
  · rw [State.bump_eq, hl]

theorem statusFrameReceived_logs {s : State} {fr : StatusFrame} {q : List StatusFrame}
    {e : Nat × Nat × Nat} (h : s.link.toComp = fr :: q) (hh : s.clk.hold = false)
    (ha : s.rst.active = false) (hs : fr.subs = [e]) :
    Yields (exec (.statusFrameReceived true) s) (fun t =>
      t.link = { s.link with toComp := q, rx := some fr } ∧ t.flash = s.flash ∧
      (∀ l, t.lane l = s.lane l) ∧ t.pending = s.pending ∧
      t.wear.file.any (fun x => x.kind = e.1 && x.unit = e.2.1 && x.detail = e.2.2) = true) := by
  have heq := execStatusFrameReceived_taken h hh ha
  obtain ⟨r, hr⟩ := s.statusTaken_eq fr q
  rw [hs, List.foldl_cons, List.foldl_nil, hr] at heq
  obtain ⟨r', m, w, fl, hsub, hw⟩ := State.fieldSubst_eq
    { s with regs := r, link := { s.link with toComp := q, rx := some fr } } e
  rw [hsub] at heq
  exact .of_eq heq ⟨rfl, rfl, fun _ => rfl, rfl, hw⟩

theorem execBarrierLinkFailure_down {s : State}
    (h : s.fget FLD_STAT_LINK = 2 ∨ (s.fget FLD_STAT_LINK ≠ 3 ∧ s.inService = true)) :
    exec .barrierLinkFailure s = .next s.linkFailure := by
  change execBarrierLinkFailure s = _
  unfold execBarrierLinkFailure
  rcases h with h | ⟨h, hs⟩
  · rw [decide_eq_true h, Bool.true_or, State.when_true]
  · rw [decide_eq_true h, hs, Bool.and_self, Bool.or_true, State.when_true]

theorem execBarrierLinkFailure_idle {s : State}
    (h : s.fget FLD_STAT_LINK = 3 ∨ (s.fget FLD_STAT_LINK ≠ 2 ∧ s.inService = false)) :
    exec .barrierLinkFailure s = .next s := by
  change execBarrierLinkFailure s = _
  unfold execBarrierLinkFailure
  rcases h with h | ⟨h, hs⟩
  · rw [h]
    simp
  · rw [decide_eq_false h, hs, Bool.false_and, Bool.or_self, State.when_false]

/-- Settles O37: by what the head of the link's queue is and what the die is in. -/
theorem barrierLinkFrames : Obligations.BarrierLinkFrames := by
  intro s
  refine ⟨fun q h hup => ⟨?_, ?_⟩, fun q h hup => ?_,
    fun q m u h hup => ⟨loadFrame_taken h hup, ?_⟩,
    fun q b o hup hcfg hosc h himg hl => ⟨?_, ?_⟩, fun q b o hup hcfg hosc h himg hl => ⟨?_, ?_⟩,
    fun q b ok h hd => ?_, fun q b ok h hd => ?_,
    fun q hup hosc h hl => safeFrame_taken hup hosc h hl,
    fun q ok h hd => safeFrame_ignored h hd,
    fun ppm hup hcfg hp hl => ⟨fieldTimeout_claim hup hcfg hl s.fd.oscBad rfl, ?_⟩,
    fun ppm h => execFieldOscMismatch_below h,
    fun hack hh hg => .of_eq (refreshSendTick_sends hack hh hg)
      ⟨.of_regs rfl, ⟨rfl, rfl, fun _ => rfl, rfl⟩, rfl⟩,
    fun hack => refreshSendTick_idle hack,
    fun m hup hcfg hosc hd => statusFrameTick_calm hup hcfg hosc hd,
    fun m hup hcfg hosc => statusFrameTick_sends hup hcfg hosc,
    fun m h => execStatusFrameTick_idle h,
    fun fr q h hh ha hs => ⟨statusFrameReceived_shows h hh ha hs,
      statusFrameReceived_counts h hh ha⟩,
    fun fr q e h hh ha hs => statusFrameReceived_logs h hh ha hs,
    fun fr q ok h hs => execStatusFrameReceived_stopped h hs,
    fun hl hs => ?_, fun hl hs => ?_, fun hl hs hsafe hn => ?_,
    fun h => execBarrierLinkFailure_idle h⟩
  · rw [execFieldResetFrame_eq h, hup]
    exact frame_keeps (P := fun F => F = Fd.reset) rfl
  · rw [execFieldResetFrame_eq h]
    exact frame_idle
  · rw [execFieldResetFrame_eq h, hup]
    exact frame_idle
  · rw [execFieldLoadFrame_eq h hup]
    exact frame_keeps (P := fun F => F = { s.fd with loadOk := false }) rfl
  · rw [execFieldCommitFrame_eq h]
    exact imageFrame_taken hup hcfg hosc himg hl
  · rw [execFieldCommitFrame_eq h]
    exact imageFrame_ignored (.inl rfl)
  · rw [execFieldRefreshFrame_eq h]
    exact imageFrame_taken hup hcfg hosc himg hl
  · rw [execFieldRefreshFrame_eq h]
    exact imageFrame_ignored (.inl rfl)
  · rw [execFieldCommitFrame_eq h]
    exact imageFrame_ignored (.inr hd)
  · rw [execFieldRefreshFrame_eq h]
    exact imageFrame_ignored (.inr hd)
  · rw [execFieldOscMismatch_above hp]
    exact fieldTimeout_claim hup hcfg hl true rfl
  · refine .of_eq ((execBarrierLinkFailure_down (.inl hl)).trans
      (congrArg Host.Outcome.next (State.linkFailure_off hs))) ⟨s.linkDown_regs, ?_⟩
    obtain ⟨r, hr⟩ := s.linkDown_eq
    rw [hr]
    exact ⟨⟨rfl, rfl, fun _ => rfl, rfl⟩, rfl⟩
  · exact .of_eq (execBarrierLinkFailure_down (.inr ⟨hl, hs⟩))
      (linkFailed_of_view s.linkFailure_linkView_fst)
  · have hv := State.linkFailure_safe hs hsafe hn
    obtain ⟨h1, h2, h3, _, hf, hp⟩ := linkFailed_of_view s.linkFailure_linkView_fst
    exact .of_eq (execBarrierLinkFailure_down (.inr ⟨hl, hs⟩))
      ⟨h1, h2, h3, congrArg (·.2.1) hv, congrArg (·.2.2) hv, hf, hp⟩

end Sys2Proof.Machine

namespace Sys2Proof.Claims

open Sys2Proof.Machine

/-! ### More rules about what a command changes of the register fields -/

theorem setBits_bitsOf (v lo w : Nat) : setBits v lo w (bitsOf v lo w) = v := by
  have hq : v / 2 ^ lo / 2 ^ w * 2 ^ w + v / 2 ^ lo % 2 ^ w = v / 2 ^ lo := Nat.div_add_mod' _ _
  have hv : v / 2 ^ lo * 2 ^ lo + v % 2 ^ lo = v := Nat.div_add_mod' _ _
  calc setBits v lo w (bitsOf v lo w)
      = (v / 2 ^ lo / 2 ^ w * 2 ^ w + v / 2 ^ lo % 2 ^ w) * 2 ^ lo + v % 2 ^ lo := by
        unfold setBits bitsOf
        rw [Nat.mod_mod, pow_add, ← Nat.div_div_eq_div_mul]
        ring
    _ = v := by rw [hq, hv]

/-- A field written with what it holds already leaves every field as it was. -/
theorem fget_fset_same {s : State} {f : Fld} {v : Nat} (h : s.fget f = v) (g : Fld) :
    (s.fset f v).fget g = s.fget g := by
  subst h
  change bitsOf ((s.regs.fset f (s.regs.fget f)).word g.addr).toNat _ _ = _
  unfold RegMap.fset RegMap.fget
  rw [setBits_bitsOf, BitVec.ofNat_toNat, BitVec.setWidth_eq, RegMap.word_setWord]
  split
  · next e => rw [e]; rfl
  · rfl

theorem Regs.fset_same {s t : State} {fs : List (Fld × Nat)} {f : Fld} {v : Nat}
    (h : Regs s t fs) (e : t.fget f = v) : Regs s (t.fset f v) fs :=
  ⟨fun p hp => (fget_fset_same e p.1).trans (h.1 p hp),
    fun g hg => (fget_fset_same e g).trans (h.2 g hg)⟩

/-- One more field written, with the value cut to its width. -/
theorem Regs.fset_mod {s t : State} {fs : List (Fld × Nat)} {f : Fld} {v : Nat} (h : Regs s t fs)
    (hf : f.lo + f.width ≤ 32) (ha : ∀ p ∈ fs, f.apart p.1 = true) :
    Regs s (t.fset f v) (fs ++ [(f, v % 2 ^ f.width)]) := by
  constructor
  · intro p hp
    rcases List.mem_append.1 hp with hp | hp
    · rw [State.fget_fset_apart t f p.1 v hf (ha p hp)]
      exact h.1 p hp
    · obtain rfl := List.mem_singleton.1 hp
      exact State.fget_fset_self t f v hf
  · intro g hg
    rw [State.fget_fset_apart t f g v hf (hg (f, v % 2 ^ f.width) (by simp))]
    exact h.2 g fun p hp => hg p (List.mem_append_left _ hp)

/-- The order in which the fields are listed does not matter. -/
theorem Regs.of_mem_iff {s t : State} {fs gs : List (Fld × Nat)} (h : Regs s t fs)
    (e : ∀ p, p ∈ gs ↔ p ∈ fs) : Regs s t gs :=
  ⟨fun p hp => h.1 p ((e p).1 hp), fun f hf => h.2 f fun p hp => hf p ((e p).2 hp)⟩

theorem Fld.apart_of_addr {f g : Fld} (h : f.addr ≠ g.addr) : f.apart g = true := by
  simp [Fld.apart, h]

theorem Fld.apart_of_below {f g : Fld} (h : g.lo + g.width ≤ f.lo) : f.apart g = true := by
  simp [Fld.apart, h]

theorem Fld.apart_of_above {f g : Fld} (h : f.lo + f.width ≤ g.lo) : f.apart g = true := by
  simp [Fld.apart, h]

end Sys2Proof.Claims

namespace Sys2Proof.Machine

open Sys2Proof.Claims State

/-! ### A channel of the signal unit after an operation -/

/-- The channel's bit of SIG_EVT. -/
abbrev sigEvtCh (n : Nat) : Fld := ⟨0x40050004, 16 + n, 1⟩

@[simp] theorem State.fset_sigCh (s : State) (f : Fld) (v k : Nat) :
    (s.fset f v).sigCh k = s.sigCh k := rfl

theorem State.when_sigCh (s : State) (b : Bool) {f : State → State} {k : Nat}
    (h : ∀ x, (f x).sigCh k = x.sigCh k) : (s.when b f).sigCh k = s.sigCh k := by
  cases b
  · rfl
  · exact h s

@[simp] theorem State.sigEvt_sigCh (s : State) (n : Nat) (f : Fld) (k : Nat) :
    (s.sigEvt n f).sigCh k = s.sigCh k := by
  rw [State.sigEvt, raise_eq, raise_eq, fset_sigCh, fset_sigCh]

theorem State.sigCh_sigUpd_self (s : State) {n : Nat} (f : SigCh → SigCh) (h : n < 12) :
    (s.sigUpd n f).sigCh n = f (s.sigCh n) := by rw [s.sigCh_sigUpd n f n h, if_pos rfl]

/-- What a restart leaves of a channel (R324). -/
def SigCh.restarted (c : SigCh) : SigCh :=
  { SigCh.reset with last := c.last, goodWin := c.goodWin, bank := c.bank, snap := c.snap }

theorem State.sigRestart_sigCh (s : State) (n : Nat) {k : Nat} (h : k < 12) :
    (s.sigRestart n).sigCh k = if k = n then (s.sigCh k).restarted else s.sigCh k := by
  rw [State.sigRestart, lower_eq, show_eq, fset_sigCh, fset_sigCh, fset_sigCh,
    s.sigCh_sigUpd n _ k h]
  rfl

/-- What bits of the line leave of a channel: its history and the last bit (R317). -/
def SigCh.shifted (c : SigCh) (bits : List Bool) : SigCh :=
  { c with hist := ((bits.map bitVal).reverse ++ c.hist).take 46
           last := ((bits.map bitVal).reverse ++ c.last.toList).head? }

theorem State.sigBits_sigCh (s : State) {n : Nat} (bits : List Bool) (h : n < 12) :
    (s.sigBits n bits).sigCh n = (s.sigCh n).shifted bits := by
  have hlow : ∀ x : State, (x.lower (SIG_CH_n_STAT_STUCK n)).sigCh n = x.sigCh n :=
    fun x => x.fset_sigCh _ _ _
  rw [State.sigBits, when_sigCh _ _ hlow, s.sigCh_sigUpd_self _ h]
  rfl

/-! ### What stays quiet -/

theorem quiet_sigUpd {s t : State} {n : Nat} {f : SigCh → SigCh} (h : Quiet s t) :
    Quiet s (t.sigUpd n f) := h

theorem quiet_when {s t : State} {b : Bool} {f : State → State}
    (hf : ∀ x, Quiet s x → Quiet s (f x)) (h : Quiet s t) : Quiet s (t.when b f) := by
  cases b
  · exact h
  · exact hf t h

theorem quiet_sigEvt {s t : State} {n : Nat} {f : Fld} (h : Quiet s t) :
    Quiet s (t.sigEvt n f) := .fset (.fset h)

theorem quiet_sigClkBad {s t : State} {n : Nat} (h : Quiet s t) : Quiet s (t.sigClkBad n) :=
  .fset (quiet_when (fun _ => quiet_sigEvt) (quiet_sigUpd h))

theorem quiet_sigBits {s t : State} {n : Nat} {bits : List Bool} (h : Quiet s t) :
    Quiet s (t.sigBits n bits) := quiet_when (fun _ hx => .fset hx) (quiet_sigUpd h)

theorem quiet_sigRestart {s t : State} {n : Nat} (h : Quiet s t) : Quiet s (t.sigRestart n) :=
  .fset (.fset (.fset (quiet_sigUpd h)))

theorem quiet_sigQueue {s t : State} {n : Nat} (h : Quiet s t) : Quiet s (t.sigQueue n) := by
  unfold State.sigQueue
  extract_lets
  split
  · exact .fset (quiet_sigRestart (quiet_sigEvt (quiet_sigUpd h)))
  · exact .fset (quiet_sigUpd h)

theorem quiet_sigResult {s t : State} {n : Nat} {v : Int} {sat : Bool} {inst : Nat}
    (h : Quiet s t) : Quiet s (t.sigResult n v sat inst) :=
  quiet_sigUpd (.fset (.fset (.fset (.fset (quiet_when (fun _ => quiet_sigEvt) h)))))

/-! ### The register fields of a channel -/

theorem sigStat_apart_below {f g : Fld} {n : Nat} (hf : f.addr = 0x400500C0 + 4 * n)
    (hg : g.addr < 0x400500C0) : f.apart g = true := Fld.apart_of_addr (by omega)

/-- An event of a channel: the channel's bit and the event's. -/
theorem regs_sigEvt {s t : State} {fs : List (Fld × Nat)} {n : Nat} {f : Fld} (h : Regs s t fs)
    (hf : f.addr = 0x40050004) (hw : f.width = 1) (hl : f.lo < 16) (hn : n < 16)
    (hfs : ∀ p ∈ fs, p.1.addr ≠ 0x40050004) :
    Regs s (t.sigEvt n f) (fs ++ [(sigEvtCh n, 1)] ++ [(f, 1)]) := by
  refine (h.fset (f := sigEvtCh n) (by show 16 + n + 1 ≤ 32; omega) (by show 1 < 2 ^ 1; decide)
    fun p hp => Fld.apart_of_addr (hfs p hp).symm).fset (by omega) (by rw [hw]; decide) ?_
  intro p hp
  rcases List.mem_append.1 hp with hp | hp
  · exact Fld.apart_of_addr (hf ▸ (hfs p hp).symm)
  · obtain rfl := List.mem_singleton.1 hp
    exact Fld.apart_of_above (by show f.lo + f.width ≤ 16 + n; omega)

/-- A flag of a channel that rises with its event, once. -/
theorem regs_sigFlag {s t : State} {n : Nat} {F E : Fld} (h : t.regs = s.regs)
    (hF : F.addr = 0x400500C0 + 4 * n) (hFw : F.width = 1) (hFl : F.lo < 32)
    (hE : E.addr = 0x40050004) (hEw : E.width = 1) (hEl : E.lo < 16) (hn : n < 16) :
    Regs s ((t.when (!s.flag F) (fun x => x.sigEvt n E)).raise F)
      (if s.fget F = 0 then [(F, 1), (E, 1), (sigEvtCh n, 1)] else []) := by
  have hFA : F.addr ≠ 0x40050004 := by omega
  have hlt : s.fget F < 2 := by simpa [hFw] using s.fget_lt F
  rcases Nat.lt_succ_iff_lt_or_eq.1 hlt with h0 | h1
  · have h0 : s.fget F = 0 := by omega
    have hb : (!s.flag F) = true := by simp [State.flag, h0]
    rw [if_pos h0, hb, when_true]
    refine ((regs_sigEvt (.of_regs h) hE hEw hEl hn nofun).fset (f := F) (v := 1) (by omega)
      (by rw [hFw]; decide) ?_).of_mem_iff fun p => ?_
    · intro p hp
      refine sigStat_apart_below hF ?_
      simp only [List.nil_append, List.cons_append, List.mem_cons, List.not_mem_nil,
        or_false] at hp
      rcases hp with rfl | rfl
      · show 0x40050004 < 0x400500C0; decide
      · rw [hE]; decide
    · simp only [List.nil_append, List.cons_append, List.mem_cons, List.not_mem_nil, or_false]
      tauto
  · have hb : (!s.flag F) = false := by simp [State.flag, h1]
    rw [if_neg (by omega), hb, when_false]
    exact (Regs.of_regs h).fset_same ((fget_congr h F).trans h1)

theorem regs_sigClkBad (s : State) {n : Nat} (hn : n < 16) :
    Regs s (s.sigClkBad n) (if s.fget (SIG_CH_n_STAT_CLK_BAD n) = 0 then
      [(SIG_CH_n_STAT_CLK_BAD n, 1), (SIG_EVT_CLK_BAD, 1), (⟨0x40050004, 16 + n, 1⟩, 1)]
      else []) :=
  regs_sigFlag (t := s.sigUpd n (fun c => { c with goodWin := 0 })) (Eq.refl _) (Eq.refl _)
    (Eq.refl _) (show 29 < 32 by decide) (Eq.refl _) (Eq.refl _) (show 1 < 16 by decide) hn

theorem State.sigClkBad_sigCh (s : State) {n : Nat} (hn : n < 12) :
    (s.sigClkBad n).sigCh n = { s.sigCh n with goodWin := 0 } := by
  rw [State.sigClkBad, raise_eq, fset_sigCh, when_sigCh _ _ fun x => x.sigEvt_sigCh n _ n,
    s.sigCh_sigUpd_self _ hn]

theorem bitNat_decide (p : Prop) [Decidable p] :
    bitNat (decide p) = if p then 1 else 0 := by
  unfold bitNat
  by_cases h : p <;> simp [h]

theorem bitNat_ne_zero (k : Nat) : bitNat (decide (k ≠ 0)) = if k = 0 then 0 else 1 := by
  rw [bitNat_decide, ite_not]

theorem bitNat_lt_two (b : Bool) : bitNat b < 2 := by cases b <;> decide

/-- A restart shows SETTLING with the results left, and OVR low (R324). -/
theorem regs_sigRestart {s t : State} {fs : List (Fld × Nat)} {n : Nat} (h : Regs s t fs)
    (hfs : ∀ p ∈ fs, p.1.addr < 0x400500C0) :
    Regs s (t.sigRestart n) (fs ++ [(SIG_CH_n_STAT_SETTLING n, if t.sigK n = 0 then 0 else 1)]
      ++ [(SIG_CH_n_STAT_LEFT n, t.sigK n % 2 ^ 16)] ++ [(SIG_CH_n_STAT_OVR n, 0)]) := by
  have h1 : Regs s (t.sigUpd n SigCh.restarted) fs := h.congr rfl
  rw [← bitNat_ne_zero]
  refine ((h1.fset (show 30 + 1 ≤ 32 by decide) (bitNat_lt_two _)
    fun p hp => sigStat_apart_below rfl (hfs p hp)).fset_mod (show 0 + 16 ≤ 32 by decide)
    ?_).fset (show 26 + 1 ≤ 32 by decide) (show 0 < 2 ^ 1 by decide) ?_
  · intro p hp
    rcases List.mem_append.1 hp with hp | hp
    · exact sigStat_apart_below rfl (hfs p hp)
    · obtain rfl := List.mem_singleton.1 hp
      exact Fld.apart_of_above (show 0 + 16 ≤ 30 by decide)
  · intro p hp
    simp only [List.append_assoc, List.cons_append, List.nil_append, List.mem_append,
      List.mem_cons, List.not_mem_nil, or_false] at hp
    rcases hp with hp | rfl | rfl
    · exact sigStat_apart_below rfl (hfs p hp)
    · exact Fld.apart_of_above (show 26 + 1 ≤ 30 by decide)
    · exact Fld.apart_of_below (show 0 + 16 ≤ 26 by decide)

/-- Bits of the line change no register but STUCK. -/
theorem State.sigBits_fget (s : State) {n : Nat} (bits : List Bool) {f : Fld}
    (h : f.addr < 0x400500C0) : (s.sigBits n bits).fget f = s.fget f := by
  unfold State.sigBits State.when
  extract_lets _ _ _ changed
  split
  · exact fget_fset_apart _ _ _ _ (show 28 + 1 ≤ 32 by decide) (sigStat_apart_below rfl h)
  · rfl

/-- One bit changes STUCK just where it differs from the last one (R316). -/
theorem regs_sigBits_one (s : State) (n : Nat) (b : Bool) :
    Regs s (s.sigBits n [b])
      (if (s.sigCh n).last = none ∨ (s.sigCh n).last = some (if b then 1 else -1) then []
        else [(SIG_CH_n_STAT_STUCK n, 0)]) := by
  have e : s.sigBits n [b] = (s.sigUpd n (·.shifted [b])).when
      ((bitVal b :: (s.sigCh n).last.toList).any (fun v => some v ≠ some (bitVal b)))
      (fun x => x.lower (SIG_CH_n_STAT_STUCK n)) := rfl
  have hk : Regs s (s.sigUpd n (·.shifted [b])) [] := .of_regs rfl
  have hlow := hk.fset (f := SIG_CH_n_STAT_STUCK n) (v := 0) (show 28 + 1 ≤ 32 by decide)
    (show 0 < 2 ^ 1 by decide) nofun
  rw [e]
  change Regs s _ (if (s.sigCh n).last = none ∨ (s.sigCh n).last = some (bitVal b) then _ else _)
  cases hl : (s.sigCh n).last with
  | none => simpa using hk
  | some v =>
    by_cases hv : v = bitVal b
    · simpa [hv] using hk
    · simpa [hv, lower_eq] using hlow

end Sys2Proof.Machine

namespace Sys2Proof.Machine

open Sys2Proof.Claims State

/-! ### The engine queue -/

/-- The sinc3 output that a channel queues. -/
def State.sigOut (s : State) (n : Nat) : SigWork :=
  { stage := 0, value := (sinc3 (s.sigR n) (s.sigCh n).hist).1
    sat := (sinc3 (s.sigR n) (s.sigCh n).hist).2, inst := s.now.sigNs / 5 }

theorem State.sigQueue_room {s : State} {n : Nat} (h : (s.sigCh n).queue.length < 16) :
    s.sigQueue n = (s.sigUpd n (fun x => { x with queue := x.queue ++ [s.sigOut n] })).fset
      SIG_STAT_QMAX (max (s.fget SIG_STAT_QMAX) ((s.sigCh n).queue.length + 1)) :=
  if_neg (Nat.not_le.2 h)

theorem State.sigQueue_full {s : State} {n : Nat} (h : 16 ≤ (s.sigCh n).queue.length) :
    s.sigQueue n = (((s.sigUpd n (fun x => { x with queue := x.queue.drop 1 })).sigEvt n
      SIG_EVT_OVR).sigRestart n).raise (SIG_CH_n_STAT_OVR n) := if_pos h

theorem State.sigQueue_room_sigCh {s : State} {n : Nat} (hn : n < 12)
    (h : (s.sigCh n).queue.length < 16) :
    (s.sigQueue n).sigCh n =
      { s.sigCh n with queue := (s.sigCh n).queue ++ [s.sigOut n] } := by
  rw [sigQueue_room h, fset_sigCh, sigCh_sigUpd_self _ _ hn]

theorem State.sigQueue_room_qmax {s : State} {n : Nat} (h : (s.sigCh n).queue.length < 16) :
    (s.sigQueue n).fget SIG_STAT_QMAX
      = max (s.fget SIG_STAT_QMAX) ((s.sigCh n).queue.length + 1) := by
  have hlt : s.fget SIG_STAT_QMAX < 256 := s.fget_lt SIG_STAT_QMAX
  rw [sigQueue_room h, fget_fset_self _ _ _ (by decide)]
  exact Nat.mod_eq_of_lt (show _ < 256 by omega)

/-- A seventeenth output (R321). -/
theorem State.sigQueue_overrun {s : State} {n : Nat} (hn : n < 12)
    (h : 16 ≤ (s.sigCh n).queue.length) :
    ((s.sigQueue n).sigCh n).queue = [] ∧ ((s.sigQueue n).sigCh n).count = 0 ∧
    (s.sigQueue n).fget (SIG_CH_n_STAT_OVR n) = 1 ∧ (s.sigQueue n).fget SIG_EVT_OVR = 1 ∧
    (s.sigQueue n).fget (sigEvtCh n) = 1 := by
  have hr := regs_sigRestart (n := n) (regs_sigEvt (n := n) (f := SIG_EVT_OVR)
    (.of_regs (s := s) (t := s.sigUpd n (fun x => { x with queue := x.queue.drop 1 })) rfl)
    rfl rfl (show 4 < 16 by decide) (by omega) nofun) (by simp)
  have hkeep : ∀ (x : State) {g : Fld}, g.addr < 0x400500C0 →
      (x.raise (SIG_CH_n_STAT_OVR n)).fget g = x.fget g := fun x g hg =>
    fget_fset_apart _ _ _ _ (show 26 + 1 ≤ 32 by decide) (sigStat_apart_below rfl hg)
  have hc : (s.sigQueue n).sigCh n =
      (((s.sigUpd n (fun x => { x with queue := x.queue.drop 1 })).sigEvt n SIG_EVT_OVR).sigCh
        n).restarted := by
    rw [sigQueue_full h, raise_eq, fset_sigCh, sigRestart_sigCh _ _ hn, if_pos rfl]
  rw [hc, sigQueue_full h]
  refine ⟨rfl, rfl, fget_fset_self _ _ _ (show 26 + 1 ≤ 32 by decide), ?_, ?_⟩
  · exact (hkeep _ (by decide)).trans (hr.1 (SIG_EVT_OVR, 1) (by simp))
  · exact (hkeep _ (show 0x40050004 < 0x400500C0 by decide)).trans
      (hr.1 (sigEvtCh n, 1) (by simp))

theorem State.sigBits_sigR (s : State) {n : Nat} (bits : List Bool) (hn : n < 12) :
    (s.sigBits n bits).sigR n = s.sigR n := by
  have h : (s.sigBits n bits).fget (SIG_CH_n_CFG_R17 n) = s.fget (SIG_CH_n_CFG_R17 n) :=
    s.sigBits_fget bits (show 0x40050040 + 4 * n < 0x400500C0 by omega)
  rw [State.sigR, State.sigR, State.flag, State.flag, h]

theorem State.sigBits_now (s : State) (n : Nat) (bits : List Bool) :
    (s.sigBits n bits).now = s.now := by
  have hlow : ∀ x : State, (x.lower (SIG_CH_n_STAT_STUCK n)).now = x.now := fun x => x.fset_now _ _
  unfold State.sigBits
  extract_lets _ _ _ edge
  cases edge
  · exact Eq.refl s.now
  · exact hlow _

/-- What the bits of a full period do where the queue has room (R317). -/
theorem State.sigBits_sigQueue {s : State} {n : Nat} {bits : List Bool} (hn : n < 12)
    (h : (s.sigCh n).queue.length < 16) :
    ((s.sigBits n bits).sigQueue n).sigCh n = { (s.sigCh n).shifted bits with
      queue := (s.sigCh n).queue ++ [{
        stage := 0
        value := (sinc3 (s.sigR n) ((s.sigCh n).shifted bits).hist).1
        sat := (sinc3 (s.sigR n) ((s.sigCh n).shifted bits).hist).2
        inst := s.now.sigNs / 5 }] } ∧
    ((s.sigBits n bits).sigQueue n).fget SIG_STAT_QMAX
      = max (s.fget SIG_STAT_QMAX) ((s.sigCh n).queue.length + 1) := by
  have hc := s.sigBits_sigCh bits hn
  have hroom : ((s.sigBits n bits).sigCh n).queue.length < 16 := by rw [hc]; exact h
  constructor
  · rw [sigQueue_room_sigCh hn hroom, State.sigOut, sigBits_sigR _ _ hn, sigBits_now, hc]
    rfl
  · rw [sigQueue_room_qmax hroom, hc, s.sigBits_fget bits (f := SIG_STAT_QMAX) (by decide)]
    rfl

end Sys2Proof.Machine

namespace Sys2Proof.Machine

open Sys2Proof.Claims State

/-! ### A result and the engine slot that gives it -/

theorem State.sigGroup_single (s : State) {n : Nat} (h : 4 ≤ n) : s.sigGroup n = false := by
  simp [State.sigGroup, Nat.not_lt.2 h]

/-- The state when a result's SAT, SETTLING and LEFT stand and QUAL is not yet shown. -/
def State.sigShown (s : State) (n : Nat) (sat : Bool) : State :=
  (((s.when sat (fun x => x.sigEvt n SIG_EVT_SAT)).show (SIG_CH_n_STAT_SAT n) sat).show
    (SIG_CH_n_STAT_SETTLING n) (((s.sigCh n).count + 1) % 2 ^ 32 ≤ s.sigK n)).fset
    (SIG_CH_n_STAT_LEFT n) (s.sigK n - ((s.sigCh n).count + 1) % 2 ^ 32)

/-- A result of a channel outside a group: its bank holds it, its status stands beside (R328). -/
theorem State.sigResult_single (s : State) {n : Nat} (h : 4 ≤ n) (v : Int) (sat : Bool)
    (inst : Nat) : ∃ q : Bool, s.sigResult n v sat inst =
      ((s.sigShown n sat).show (SIG_CH_n_STAT_QUAL n) q).sigUpd n (fun x => { x with
        count := ((s.sigCh n).count + 1) % 2 ^ 32
        bank := some { value := v, count := ((s.sigCh n).count + 1) % 2 ^ 32, inst := inst
                       stat := ((s.sigShown n sat).show (SIG_CH_n_STAT_QUAL n) q).regWord
                         (0x400500C0 + 4 * n) } }) := by
  unfold State.sigResult
  extract_lets c cnt k s1 s2 bad s3 r
  refine ⟨!bad, ?_⟩
  rw [sigGroup_single _ h]
  rfl

theorem State.sigShown_sigCh (s : State) (n : Nat) (sat : Bool) (k : Nat) :
    (s.sigShown n sat).sigCh k = s.sigCh k := by
  rw [State.sigShown, fset_sigCh, show_eq, fset_sigCh, show_eq, fset_sigCh,
    when_sigCh _ _ fun x => x.sigEvt_sigCh n _ k]

theorem State.sigShown_sigSlot (s : State) (n : Nat) (sat : Bool) :
    (s.sigShown n sat).sigSlot = s.sigSlot := by
  rw [State.sigShown, fset_sigSlot, show_eq, fset_sigSlot, show_eq, fset_sigSlot]
  cases sat
  · rfl
  · rw [when_true, State.sigEvt, raise_eq, raise_eq, fset_sigSlot, fset_sigSlot]

theorem State.sigShown_fields (s : State) (n : Nat) (sat : Bool) :
    (s.sigShown n sat).fget (SIG_CH_n_STAT_SAT n) = bitNat sat ∧
    (s.sigShown n sat).fget (SIG_CH_n_STAT_SETTLING n)
      = bitNat (((s.sigCh n).count + 1) % 2 ^ 32 ≤ s.sigK n) := by
  unfold State.sigShown
  constructor
  · rw [fget_fset_apart _ _ _ _ (show 0 + 16 ≤ 32 by decide) (Fld.apart_of_above (by simp)),
      show_eq _ (SIG_CH_n_STAT_SETTLING n),
      fget_fset_apart _ _ _ _ (show 30 + 1 ≤ 32 by decide) (Fld.apart_of_below (by simp))]
    exact fget_show_self _ (show 27 + 1 ≤ 32 by decide) rfl
  · rw [fget_fset_apart _ _ _ _ (show 0 + 16 ≤ 32 by decide) (Fld.apart_of_above (by simp))]
    exact fget_show_self _ (show 30 + 1 ≤ 32 by decide) rfl

theorem State.sigUpd_fget (s : State) (n : Nat) (f : SigCh → SigCh) (g : Fld) :
    (s.sigUpd n f).fget g = s.fget g := rfl

theorem State.sigUpd_regWord (s : State) (n : Nat) (f : SigCh → SigCh) (a : Nat) :
    (s.sigUpd n f).regWord a = s.regWord a := rfl

theorem State.sigUpd_sigSlot (s : State) (n : Nat) (f : SigCh → SigCh) :
    (s.sigUpd n f).sigSlot = s.sigSlot := rfl

theorem State.sigResult_facts (s : State) {n : Nat} (h : 4 ≤ n) (hn : n < 12) (v : Int)
    (sat : Bool) (inst : Nat) :
    (s.sigResult n v sat inst).sigSlot = s.sigSlot ∧
    (s.sigResult n v sat inst).sigCh n = { s.sigCh n with
      count := ((s.sigCh n).count + 1) % 2 ^ 32
      bank := some { value := v, count := ((s.sigCh n).count + 1) % 2 ^ 32, inst := inst
                     stat := (s.sigResult n v sat inst).regWord (0x400500C0 + 4 * n) } } ∧
    (s.sigResult n v sat inst).fget (SIG_CH_n_STAT_SAT n) = bitNat sat ∧
    (s.sigResult n v sat inst).fget (SIG_CH_n_STAT_SETTLING n)
      = bitNat (((s.sigCh n).count + 1) % 2 ^ 32 ≤ s.sigK n) := by
  obtain ⟨q, hr⟩ := s.sigResult_single h v sat inst
  obtain ⟨hsat, hset⟩ := s.sigShown_fields n sat
  rw [hr]
  refine ⟨?_, ?_, ?_, ?_⟩
  · rw [sigUpd_sigSlot, show_eq, fset_sigSlot, sigShown_sigSlot]
  · rw [sigUpd_regWord, sigCh_sigUpd_self _ _ hn, show_eq, fset_sigCh, sigShown_sigCh]
  · rw [sigUpd_fget, show_eq, fget_fset_apart _ _ _ _ (show 31 + 1 ≤ 32 by decide)
      (Fld.apart_of_below (show 27 + 1 ≤ 31 by decide)), hsat]
  · rw [sigUpd_fget, show_eq, fget_fset_apart _ _ _ _ (show 31 + 1 ≤ 32 by decide)
      (Fld.apart_of_below (show 30 + 1 ≤ 31 by decide)), hset]

theorem State.sigRun_idle (s : State) {n : Nat} (fuel clk : Nat) (hw : (s.sigCh n).work = [])
    (hq : (s.sigCh n).queue = []) : s.sigRun n (fuel + 1) clk = s := by
  rw [State.sigRun]
  simp only [hw, hq]

theorem State.sigRun_take (s : State) {n : Nat} (fuel clk : Nat) {q : SigWork} {r : List SigWork}
    (hw : (s.sigCh n).work = []) (hq : (s.sigCh n).queue = q :: r) :
    s.sigRun n (fuel + 1) clk =
      ((s.sigUpd n (fun x => { x with queue := r })).sigAfter n 0 q.value q.sat q.inst).sigRun n
        fuel clk := by
  rw [State.sigRun]
  simp only [hw, hq]

theorem State.sigAfter_last (s : State) {n : Nat} (v : Int) (sat : Bool) (inst : Nat)
    (hs : s.sigS n = 0) (hf : s.fget (SIG_CH_n_CFG_FIR_EN n) = 0) :
    s.sigAfter n 0 v sat inst = s.sigResult n v sat inst := by
  simp [State.sigAfter, State.flag, hs, hf]

theorem State.sigGroupWrite_single (s : State) {n : Nat} (h : 4 ≤ n) : s.sigGroupWrite n = s := by
  have hg : ((List.range 4).filter s.sigGroup).contains n = false := by
    simp [sigGroup_single s h]
  unfold State.sigGroupWrite
  extract_lets grp
  split
  · rfl
  · rw [show grp.contains n = false from hg]
    exact if_neg nofun

theorem State.unitDown_of_sigOn {s : State} {n : Nat} (h : s.sigOn n = true) :
    s.unitDown 0x30 = false ∧ s.flag SIG_STAT_RUNNING = true := by
  simp only [State.sigOn, Bool.and_eq_true, Bool.not_eq_true'] at h
  exact ⟨h.2, h.1.2⟩

/-- An engine slot that finds one sinc3 output of a channel without stages makes it the result. -/
theorem State.sigRun_result {s : State} {n : Nat} {q : SigWork} (hn : n < 12)
    (h4 : 4 ≤ n) (hw : (s.sigCh n).work = []) (hq : (s.sigCh n).queue = [q])
    (hs : s.sigS n = 0) (hf : s.fget (SIG_CH_n_CFG_FIR_EN n) = 0) (clk : Nat) :
    let u := s.sigUpd n (fun x => { x with queue := [] })
    (s.sigRun n 256 clk).sigGroupWrite n = u.sigResult n q.value q.sat q.inst := by
  intro u
  have hu : u.sigCh n = { s.sigCh n with queue := [] } := s.sigCh_sigUpd_self _ hn
  obtain ⟨-, hc, -⟩ := u.sigResult_facts h4 hn q.value q.sat q.inst
  rw [hu] at hc
  rw [sigGroupWrite_single _ h4, sigRun_take s 255 clk hw hq, sigAfter_last u _ _ _ hs hf]
  exact sigRun_idle _ 254 clk ((congrArg SigCh.work hc).trans hw) (congrArg SigCh.queue hc)

end Sys2Proof.Machine

namespace Sys2Proof.Machine

open Sys2Proof.Claims State

/-! ### Restarts of several channels -/

theorem State.unitDown_fset_sigStat (s : State) {f : Fld} (v : Nat) (hf : f.lo + f.width ≤ 32)
    (ha : 0x400500C0 ≤ f.addr) : (s.fset f v).unitDown 0x30 = s.unitDown 0x30 := by
  have hk : ∀ g : Fld, g.addr < 0x400500C0 → (s.fset f v).fget g = s.fget g := fun g hg =>
    fget_fset_apart _ _ _ _ hf (Fld.apart_of_addr (by omega))
  have hp : (s.fset f v).fget (pstat (unitPaddock 0x30)) = s.fget (pstat (unitPaddock 0x30)) :=
    hk _ (by decide)
  have hg : (s.fset f v).fget (gateF (unitGate 0x30)) = s.fget (gateF (unitGate 0x30)) :=
    hk _ (by decide)
  have hc : (s.fset f v).fget CLK_GSTAT_CODE = s.fget CLK_GSTAT_CODE := hk _ (by decide)
  have hd : (s.fset f v).fget CLK_GSTAT_PENDING = s.fget CLK_GSTAT_PENDING := hk _ (by decide)
  simp only [State.unitDown, State.unitShut, State.gateClosing, State.flag, hp, hg, hc, hd]
  rw [fset_rst, fset_clk, fset_boot, fset_pwr]

theorem State.sigOn_fset_sigStat (s : State) {f : Fld} (v : Nat) {k : Nat}
    (hf : f.lo + f.width ≤ 32) (ha : 0x400500C0 ≤ f.addr) (hk : k < 12) :
    (s.fset f v).sigOn k = s.sigOn k := by
  have he : (s.fset f v).fget (SIG_CH_n_CFG_EN k) = s.fget (SIG_CH_n_CFG_EN k) :=
    fget_fset_apart _ _ _ _ hf (Fld.apart_of_addr (show f.addr ≠ 0x40050040 + 4 * k by omega))
  have hr : (s.fset f v).fget SIG_STAT_RUNNING = s.fget SIG_STAT_RUNNING :=
    fget_fset_apart _ _ _ _ hf (Fld.apart_of_addr (show f.addr ≠ 0x40050000 by omega))
  rw [State.sigOn, State.sigOn, State.flag, State.flag, he, hr, unitDown_fset_sigStat s v hf ha]
  rfl

theorem State.sigRestart_sigOn (s : State) (n : Nat) {k : Nat} (hk : k < 12) :
    (s.sigRestart n).sigOn k = s.sigOn k := by
  have ha : 0x400500C0 ≤ 0x400500C0 + 4 * n := Nat.le_add_right _ _
  rw [State.sigRestart, lower_eq, show_eq,
    sigOn_fset_sigStat _ _ (show 26 + 1 ≤ 32 by decide) ha hk,
    sigOn_fset_sigStat _ _ (show 0 + 16 ≤ 32 by decide) ha hk,
    sigOn_fset_sigStat _ _ (show 30 + 1 ≤ 32 by decide) ha hk]
  rfl

/-- A restart of a channel that runs; nothing otherwise. -/
def State.sigRestartOn (s : State) (n : Nat) : State := s.when (s.sigOn n) (·.sigRestart n)

theorem State.sigRestartMask_eq (s : State) (mask : Nat) :
    s.sigRestartMask mask = (bitList 12 mask).foldl State.sigRestartOn s := rfl

theorem State.sigRestartOn_sigOn (s : State) (n : Nat) {k : Nat} (hk : k < 12) :
    (s.sigRestartOn n).sigOn k = s.sigOn k := by
  unfold State.sigRestartOn State.when
  split
  · exact sigRestart_sigOn s n hk
  · rfl

theorem State.sigRestartOn_sigCh (s : State) (n : Nat) {k : Nat} (hk : k < 12) :
    (s.sigRestartOn n).sigCh k =
      if k = n ∧ s.sigOn k = true then (s.sigCh k).restarted else s.sigCh k := by
  unfold State.sigRestartOn State.when
  by_cases hn : k = n
  · subst hn
    by_cases h : s.sigOn k = true
    · rw [if_pos h, sigRestart_sigCh _ _ hk, if_pos rfl, if_pos ⟨rfl, h⟩]
    · rw [if_neg h, if_neg fun e => h e.2]
  · rw [if_neg (c := k = n ∧ s.sigOn k = true) fun e => hn e.1]
    split
    · rw [sigRestart_sigCh _ _ hk, if_neg hn]
    · rfl

theorem quiet_sigRestartOn {s t : State} {n : Nat} (h : Quiet s t) :
    Quiet s (t.sigRestartOn n) := quiet_when (fun _ => quiet_sigRestart) h

theorem SigCh.restarted_restarted (c : SigCh) : c.restarted.restarted = c.restarted := rfl

theorem quiet_foldl_sigRestartOn (l : List Nat) (s : State) :
    Quiet s (l.foldl State.sigRestartOn s) :=
  List.foldlRecOn (motive := Quiet s) l _ (.refl s) fun _ hx _ _ => quiet_sigRestartOn hx

/-- A row of restarts clears the channels of the row that run. -/
theorem State.foldl_sigRestartOn_sigCh (l : List Nat) (s : State) {k : Nat} (hk : k < 12) :
    (l.foldl State.sigRestartOn s).sigCh k =
      if k ∈ l ∧ s.sigOn k = true then (s.sigCh k).restarted else s.sigCh k := by
  induction l generalizing s with
  | nil => simp
  | cons n l ih =>
    rw [List.foldl_cons, ih, sigRestartOn_sigOn s n hk, sigRestartOn_sigCh s n hk]
    by_cases hn : k = n
    · by_cases ho : s.sigOn n = true
      · simp [hn, ho, SigCh.restarted_restarted]
      · simp [hn, ho]
    · simp [hn]

theorem mem_bitList {w : Nat} (m : BitVec w) {k n : Nat} :
    k ∈ bitList n m.toNat ↔ k < n ∧ m.getLsbD k = true := by
  rw [bitList, List.mem_filter, List.mem_range, bitOf_toNat]

theorem bitList_twoPow : ∀ n : Fin 12, bitList 12 (BitVec.twoPow 12 n).toNat = [n.val] := by
  decide

/-! ### Synchronisation -/

/-- A channel's part in a synchronisation event (R325, R327). -/
def State.sigResync (s : State) (n : Nat) : State :=
  (s.sigRestart n).sigUpd n (fun c =>
    { c with asked := s.sigScs n && s.fget (SIG_CH_n_SCS_PER n) = 0 })

theorem State.sigSync_one {s : State} {n : Nat}
    (h : (List.range 4).filter (fun n => s.sigOn n && s.flag (SIG_CH_n_CFG_SYNC_EN n)) = [n]) :
    s.sigSync = (s.sigResync n).raise SIG_EVT_SYNC := by
  unfold State.sigSync
  extract_lets grp s1
  have e : grp = [n] := h
  have e1 : s1 = s.sigResync n := by
    show grp.foldl State.sigResync s = _
    rw [e]
    rfl
  rw [e1, e]
  rfl

theorem State.sigSync_one_facts {s : State} {n : Nat}
    (h : (List.range 4).filter (fun n => s.sigOn n && s.flag (SIG_CH_n_CFG_SYNC_EN n)) = [n]) :
    Regs s s.sigSync [(SIG_EVT_SYNC, 1),
      (SIG_CH_n_STAT_SETTLING n, if s.sigK n = 0 then 0 else 1),
      (SIG_CH_n_STAT_LEFT n, s.sigK n % 2 ^ 16), (SIG_CH_n_STAT_OVR n, 0)] ∧
    Quiet s s.sigSync ∧ (s.sigSync.sigCh n).queue = [] ∧ (s.sigSync.sigCh n).count = 0 := by
  have hn : n < 12 := by
    have : n ∈ List.range 4 := (List.mem_filter.1 (h ▸ List.mem_singleton_self n)).1
    have := List.mem_range.1 this
    omega
  have hr : Regs s (s.sigResync n) _ := (regs_sigRestart (.refl s) (n := n) nofun).congr rfl
  have hc : (s.sigResync n).sigCh n = { (s.sigCh n).restarted with
      asked := s.sigScs n && s.fget (SIG_CH_n_SCS_PER n) = 0 } := by
    rw [State.sigResync, sigCh_sigUpd_self _ _ hn, sigRestart_sigCh _ _ hn, if_pos rfl]
  rw [sigSync_one h]
  refine ⟨(hr.fset (f := SIG_EVT_SYNC) (v := 1) (by decide) (by decide) ?_).of_mem_iff ?_,
    .fset (quiet_sigUpd (quiet_sigRestart (.refl s))), ?_, ?_⟩
  · intro p hp
    refine Fld.apart_of_addr ?_
    simp only [List.nil_append, List.cons_append, List.mem_cons, List.not_mem_nil,
      or_false] at hp
    rcases hp with rfl | rfl | rfl <;> show 0x40050004 ≠ 0x400500C0 + 4 * n <;> omega
  · intro p
    simp only [List.nil_append, List.cons_append, List.mem_cons, List.not_mem_nil, or_false]
    tauto
  · rw [raise_eq, fset_sigCh, hc]; rfl
  · rw [raise_eq, fset_sigCh, hc]; rfl

end Sys2Proof.Machine

namespace Sys2Proof.Machine

open Sys2Proof.Claims State

/-! ### What the commands of the signal unit do -/

theorem edgesBad_iff (e : Nat × Nat) (edges : Nat) : edgesBad e edges = true ↔
    e.1 = 0 ∨ e.1 < 50 * ((edges * e.2 : Int) - e.1).natAbs := by
  unfold edgesBad
  extract_lets n
  have hn : ((edges * e.2 : Int) - e.1).natAbs = if n < e.1 then e.1 - n else n - e.1 := by
    have : (edges * e.2 : Int) = (n : Int) := (Nat.cast_mul _ _).symm
    rw [this]
    split <;> omega
  rw [hn, Bool.or_eq_true, decide_eq_true_eq, decide_eq_true_eq]

theorem execSdClockWindow_bad {s : State} {ch : BitVec 4} {edges : Nat}
    (hon : s.sigOn ch.toNat = true) (h : edgesBad (s.sigExpected ch.toNat) edges = true) :
    exec (.sdClockWindow ch edges) s = .next (s.sigClkBad ch.toNat) := by
  change execSdClockWindow ch edges s = _
  simp only [execSdClockWindow, hon, h, Bool.not_true, Bool.false_eq_true, if_false, if_true]

theorem execSdClockWindow_good {s : State} {ch : BitVec 4} {edges : Nat}
    (hon : s.sigOn ch.toNat = true) (h : edgesBad (s.sigExpected ch.toNat) edges = false) :
    exec (.sdClockWindow ch edges) s =
      .next ((s.sigUpd ch.toNat (fun c => { c with
        goodWin := min ((s.sigCh ch.toNat).goodWin + 1) 2 })).when
        (min ((s.sigCh ch.toNat).goodWin + 1) 2 = 2)
        (fun x => x.lower (SIG_CH_n_STAT_CLK_BAD ch.toNat))) := by
  change execSdClockWindow ch edges s = _
  simp only [execSdClockWindow, hon, h, Bool.not_true, Bool.false_eq_true, if_false]

/-- The second good window in a row clears CLK_BAD (R314). -/
theorem sdClockWindow_clears {s : State} {ch : BitVec 4} {edges : Nat}
    (hon : s.sigOn ch.toNat = true) (hn : ch.toNat < 12)
    (h : edgesBad (s.sigExpected ch.toNat) edges = false) :
    Yields (exec (.sdClockWindow ch edges) s) (fun t =>
      Regs s t (if (s.sigCh ch.toNat).goodWin = 0 then []
        else [(SIG_CH_n_STAT_CLK_BAD ch.toNat, 0)]) ∧ Quiet s t ∧
      t.sigCh ch.toNat = { s.sigCh ch.toNat with
        goodWin := min ((s.sigCh ch.toNat).goodWin + 1) 2 }) := by
  refine .of_eq (execSdClockWindow_good hon h) ⟨?_, ?_, ?_⟩
  · have hk : Regs s (s.sigUpd ch.toNat (fun c => { c with
        goodWin := min ((s.sigCh ch.toNat).goodWin + 1) 2 })) [] := .of_regs rfl
    by_cases h0 : (s.sigCh ch.toNat).goodWin = 0
    · have hd : decide (min ((s.sigCh ch.toNat).goodWin + 1) 2 = 2) = false := by
        rw [h0]; rfl
      rw [if_pos h0, hd, when_false]
      exact hk
    · have hd : decide (min ((s.sigCh ch.toNat).goodWin + 1) 2 = 2) = true :=
        decide_eq_true (by omega)
      rw [if_neg h0, hd, when_true]
      exact hk.fset (show 29 + 1 ≤ 32 by decide) (show 0 < 2 ^ 1 by decide) nofun
  · exact quiet_when (fun _ hx => .fset hx) (quiet_sigUpd (.refl s))
  · have hlow : ∀ x : State, (x.lower (SIG_CH_n_STAT_CLK_BAD ch.toNat)).sigCh ch.toNat
        = x.sigCh ch.toNat := fun x => x.fset_sigCh _ _ _
    rw [when_sigCh _ _ hlow, sigCh_sigUpd_self _ _ hn]

theorem sigClkBad_facts (s : State) {n : Nat} (hn : n < 12) :
    Regs s (s.sigClkBad n) (if s.fget (SIG_CH_n_STAT_CLK_BAD n) = 0 then
      [(SIG_CH_n_STAT_CLK_BAD n, 1), (SIG_EVT_CLK_BAD, 1), (⟨0x40050004, 16 + n, 1⟩, 1)]
      else []) ∧ Quiet s (s.sigClkBad n) ∧
    (s.sigClkBad n).sigCh n = { s.sigCh n with goodWin := 0 } :=
  ⟨regs_sigClkBad s (by omega), quiet_sigClkBad (.refl s), sigClkBad_sigCh s hn⟩

theorem execSdClockMissing_eq {s : State} {ch : BitVec 4} (hon : s.sigOn ch.toNat = true) :
    exec (.sdClockMissing ch) s = .next (s.sigClkBad ch.toNat) :=
  congrArg Host.Outcome.next (if_pos hon)

theorem execSdBitstreamStuck_eq {s : State} {ch : BitVec 4} (hon : s.sigOn ch.toNat = true) :
    exec (.sdBitstreamStuck ch) s =
      .next ((s.when (!s.flag (SIG_CH_n_STAT_STUCK ch.toNat))
        (fun x => x.sigEvt ch.toNat SIG_EVT_STUCK)).raise (SIG_CH_n_STAT_STUCK ch.toNat)) :=
  congrArg Host.Outcome.next (if_pos hon)

theorem execSinc3Output_eq {s : State} {ch : BitVec 4} {bits : List Bool}
    (hon : s.sigOn ch.toNat = true) (hscs : s.sigScs ch.toNat = false)
    (hl : bits.length = s.sigR ch.toNat) :
    exec (.sinc3Output ch bits) s = .next ((s.sigBits ch.toNat bits).sigQueue ch.toNat) := by
  change execSinc3Output ch bits s = _
  simp only [execSinc3Output, hon, hscs, hl, Bool.not_false, Bool.and_true, decide_true, if_true]

theorem sinc3Output_overrun {s : State} {ch : BitVec 4} {bits : List Bool}
    (hon : s.sigOn ch.toNat = true) (hn : ch.toNat < 12) (hscs : s.sigScs ch.toNat = false)
    (hl : bits.length = s.sigR ch.toNat) (hq : 16 ≤ (s.sigCh ch.toNat).queue.length) :
    Yields (exec (.sinc3Output ch bits) s) (fun t =>
      Quiet s t ∧ (t.sigCh ch.toNat).queue = [] ∧ (t.sigCh ch.toNat).count = 0 ∧
      t.fget (SIG_CH_n_STAT_OVR ch.toNat) = 1 ∧ t.fget SIG_EVT_OVR = 1 ∧
      t.fget ⟨0x40050004, 16 + ch.toNat, 1⟩ = 1) := by
  have hq' : 16 ≤ ((s.sigBits ch.toNat bits).sigCh ch.toNat).queue.length := by
    rw [sigBits_sigCh s bits hn]; exact hq
  exact .of_eq (execSinc3Output_eq hon hscs hl)
    ⟨quiet_sigQueue (quiet_sigBits (.refl s)), sigQueue_overrun hn hq'⟩

theorem execEngineSlot_on {s : State} {ch : BitVec 4} (hon : s.sigOn ch.toNat = true)
    (hslot : s.sigSlot = ch.toNat) :
    exec (.engineSlot ch) s = .next ((({ s with sigSlot := (ch.toNat + 1) % 12 }.sigUpd ch.toNat
      (fun c => { c with spent := 0 })).sigRun ch.toNat 256
      (16 + (s.sigCh ch.toNat).spent)).sigGroupWrite ch.toNat) := by
  obtain ⟨hup, hrun⟩ := unitDown_of_sigOn hon
  change execEngineSlot ch s = _
  unfold execEngineSlot
  extract_lets n s1 clk
  have hon1 : s1.sigOn n = true := hon
  rw [hup, hrun, if_neg (by simp [hslot, n]), if_pos hon1]
  rfl

theorem execEngineSlot_off {s : State} {ch : BitVec 4} (hoff : s.sigOn ch.toNat = false)
    (hup : s.unitDown 0x30 = false) (hrun : s.fget SIG_STAT_RUNNING = 1)
    (hslot : s.sigSlot = ch.toNat) :
    exec (.engineSlot ch) s = .next { s with sigSlot := (ch.toNat + 1) % 12 } := by
  change execEngineSlot ch s = _
  unfold execEngineSlot
  extract_lets n s1 clk
  have hoff1 : ¬ s1.sigOn n = true := fun h => Bool.false_ne_true (hoff.symm.trans h)
  rw [hup, State.flag, hrun, if_neg (by simp [hslot, n]), if_neg hoff1]

theorem execEngineSlot_idle {s : State} {ch : BitVec 4}
    (h : s.unitDown 0x30 = true ∨ s.fget SIG_STAT_RUNNING = 0 ∨ s.sigSlot ≠ ch.toNat) :
    exec (.engineSlot ch) s = .next s := by
  refine congrArg Host.Outcome.next (if_pos ?_)
  rcases h with h | h | h <;> simp [h, State.flag]

theorem engineSlot_result {s : State} {ch : BitVec 4} {q : SigWork}
    (hon : s.sigOn ch.toNat = true) (hslot : s.sigSlot = ch.toNat)
    (hw : (s.sigCh ch.toNat).work = []) (hq : (s.sigCh ch.toNat).queue = [q])
    (hs : s.sigS ch.toNat = 0) (hf : s.fget (SIG_CH_n_CFG_FIR_EN ch.toNat) = 0)
    (h4 : 4 ≤ ch.toNat) (hn : ch.toNat < 12) :
    Yields (exec (.engineSlot ch) s) (fun t =>
      Quiet s t ∧ t.sigSlot = (ch.toNat + 1) % 12 ∧ (t.sigCh ch.toNat).queue = [] ∧
      (t.sigCh ch.toNat).work = [] ∧
      (t.sigCh ch.toNat).count = ((s.sigCh ch.toNat).count + 1) % 2 ^ 32 ∧
      (t.sigCh ch.toNat).bank = some { value := q.value, count := (t.sigCh ch.toNat).count
                                       inst := q.inst
                                       stat := t.regWord (0x400500C0 + 4 * ch.toNat) } ∧
      t.fget (SIG_CH_n_STAT_SAT ch.toNat) = (if q.sat then 1 else 0) ∧
      t.fget (SIG_CH_n_STAT_SETTLING ch.toNat)
        = (if (t.sigCh ch.toNat).count ≤ s.sigK ch.toNat then 1 else 0)) := by
  generalize hm : ch.toNat = n at *
  have hexec := execEngineSlot_on (hm ▸ hon) (hslot.trans hm.symm)
  rw [hm] at hexec
  let x : State := { s with sigSlot := (n + 1) % 12 }.sigUpd n (fun c => { c with spent := 0 })
  have hx : x.sigCh n = { s.sigCh n with spent := 0 } := sigCh_sigUpd_self _ _ hn
  have hxw : (x.sigCh n).work = [] := (congrArg SigCh.work hx).trans hw
  have hxq : (x.sigCh n).queue = [q] := (congrArg SigCh.queue hx).trans hq
  have hrun := sigRun_result hn h4 hxw hxq hs hf (16 + (s.sigCh n).spent)
  let u : State := x.sigUpd n (fun c => { c with queue := [] })
  have hu : u.sigCh n = { s.sigCh n with spent := 0, queue := [] } := by
    show (x.sigUpd n _).sigCh n = _
    rw [sigCh_sigUpd_self _ _ hn, hx]
  obtain ⟨hslot', hch, hsat, hset⟩ := u.sigResult_facts h4 hn q.value q.sat q.inst
  rw [hu] at hch hset
  refine .of_eq (hexec.trans (congrArg Host.Outcome.next hrun)) ⟨quiet_sigResult (.refl s), hslot',
    (congrArg SigCh.queue hch).trans rfl, (congrArg SigCh.work hch).trans hw,
    (congrArg SigCh.count hch).trans rfl, ?_, hsat, ?_⟩
  · rw [hch]
  · rw [hch]
    exact hset.trans (bitNat_decide _)

end Sys2Proof.Machine

namespace Sys2Proof.Machine

open Sys2Proof.Claims State

/-! ### Restart and synchronisation commands, single-cycle conversions -/

theorem State.sigOn_false_of_down {s : State} {n : Nat} (h : s.unitDown 0x30 = true) :
    s.sigOn n = false := by simp [State.sigOn, h]

theorem execSigCmdRestart_eq {s : State} {m : BitVec 12} (h : s.unitDown 0x30 = false) :
    exec (.sigCmdRestart m) s = .next ((s.sigRestartMask m.toNat).answer .okay) :=
  congrArg Host.Outcome.next (if_neg (by simp [h]))

theorem quiet_answer {s t : State} {r : Resp} (h : Quiet s t) : Quiet s (t.answer r) := h

theorem answer_sigCh (s : State) (r : Resp) (k : Nat) : (s.answer r).sigCh k = s.sigCh k := rfl

theorem answer_fget (s : State) (r : Resp) (f : Fld) : (s.answer r).fget f = s.fget f := rfl

theorem regs_answer {s t : State} {fs : List (Fld × Nat)} {r : Resp} (h : Regs s t fs) :
    Regs s (t.answer r) fs := h

/-- A restart of one channel (R324). -/
theorem sigCmdRestart_one {s : State} {n : Fin 12} (hon : s.sigOn n = true) :
    Yields (exec (.sigCmdRestart (BitVec.twoPow 12 n)) s) (fun t =>
      Regs s t [(SIG_CH_n_STAT_SETTLING n, if s.sigK n = 0 then 0 else 1),
        (SIG_CH_n_STAT_LEFT n, s.sigK n % 2 ^ 16), (SIG_CH_n_STAT_OVR n, 0)] ∧
      Quiet s t ∧ t.resp = .okay ∧ t.sigCh n = (s.sigCh n).restarted) := by
  have hm : s.sigRestartMask (BitVec.twoPow 12 n).toNat = s.sigRestart n := by
    rw [sigRestartMask_eq, bitList_twoPow n, List.foldl_cons, List.foldl_nil,
      State.sigRestartOn, hon, when_true]
  refine .of_eq (execSigCmdRestart_eq (unitDown_of_sigOn hon).1) ?_
  rw [hm]
  refine ⟨regs_answer (regs_sigRestart (.refl s) nofun), quiet_answer (quiet_sigRestart (.refl s)),
    rfl, ?_⟩
  rw [answer_sigCh, sigRestart_sigCh s n n.isLt, if_pos rfl]

/-- A restart of the channels of a mask: those of it that run, and no other. -/
theorem sigCmdRestart_mask {s : State} {m : BitVec 12} (hup : s.unitDown 0x30 = false) :
    Yields (exec (.sigCmdRestart m) s) (fun t =>
      Quiet s t ∧ t.resp = .okay ∧
      (∀ n : Fin 12, m.getLsbD n = true → s.sigOn n = true →
        (t.sigCh n).queue = [] ∧ (t.sigCh n).count = 0 ∧ (t.sigCh n).hist = []) ∧
      (∀ n : Fin 12, m.getLsbD n = false → t.sigCh n = s.sigCh n)) := by
  have hch : ∀ n : Fin 12, ((s.sigRestartMask m.toNat).answer .okay).sigCh n =
      if m.getLsbD n = true ∧ s.sigOn n = true then (s.sigCh n).restarted else s.sigCh n := by
    intro n
    rw [answer_sigCh, sigRestartMask_eq, foldl_sigRestartOn_sigCh _ _ n.isLt]
    simp only [mem_bitList, n.isLt, true_and]
  refine .of_eq (execSigCmdRestart_eq hup)
    ⟨quiet_answer (quiet_foldl_sigRestartOn _ s), rfl, fun n hm hon => ?_, fun n hm => ?_⟩
  · rw [hch n, if_pos ⟨hm, hon⟩]
    exact ⟨rfl, rfl, rfl⟩
  · rw [hch n, if_neg fun e => Bool.false_ne_true (hm.symm.trans e.1)]

theorem execSigCmdSync_on {s : State} (hup : s.unitDown 0x30 = false)
    (hsrc : s.fget SIG_SYNCCFG_SRC = 3) :
    exec .sigCmdSync s = .next (s.sigSync.answer .okay) := by
  change execSigCmdSync s = _
  rw [execSigCmdSync, hup, hsrc, if_neg Bool.false_ne_true, show bitOf 3 1 = true from rfl,
    when_true]

theorem execSyncDfEdge_on {s : State} {fall : Bool} (hup : s.unitDown 0x30 = false)
    (hsrc : s.fget SIG_SYNCCFG_SRC = 3) (hf : s.flag SIG_SYNCCFG_FALL = fall) :
    exec (.syncDfEdge fall) s = .next s.sigSync :=
  congrArg Host.Outcome.next (if_pos (by rw [hup, hsrc, hf]; simp [bitOf]))

/-- Without a source there is no synchronisation event (R325). -/
theorem sync_sourceless {s : State} {fall : Bool} (hsrc : s.fget SIG_SYNCCFG_SRC = 0)
    (hup : s.unitDown 0x30 = false) :
    exec .sigCmdSync s = .next { s with resp := .okay, rdata := 0 } ∧
    exec (.syncDfEdge fall) s = .next s := by
  constructor
  · change execSigCmdSync s = _
    rw [execSigCmdSync, hup, hsrc, if_neg Bool.false_ne_true, show bitOf 0 1 = false from rfl,
      when_false]
    rfl
  · exact congrArg Host.Outcome.next (if_neg (by rw [hsrc]; simp [bitOf]))

theorem execScsConversionStart_eq {s : State} {ch : BitVec 4} {b : Bool}
    (hon : s.sigOn ch.toNat = true) (hscs : s.sigScs ch.toNat = true) :
    exec (.scsConversionStart ch b) s = .next (
      if (s.fget (SIG_CH_n_SCS_PER ch.toNat) ≠ 0 || (s.sigCh ch.toNat).asked) = true then
        (s.sigBits ch.toNat [b]).sigUpd ch.toNat
          (fun c => { c with hist := [], converting := true, asked := false })
      else s.sigBits ch.toNat [b]) := by
  change execScsConversionStart ch b s = _
  simp only [execScsConversionStart, hon, hscs, Bool.and_self, if_true]

/-- The conversion starts where it is due (R327). -/
theorem scsConversionStart_due {s : State} {ch : BitVec 4} {b : Bool}
    (hon : s.sigOn ch.toNat = true) (hn : ch.toNat < 12) (hscs : s.sigScs ch.toNat = true)
    (hdue : s.fget (SIG_CH_n_SCS_PER ch.toNat) ≠ 0 ∨ (s.sigCh ch.toNat).asked = true) :
    Yields (exec (.scsConversionStart ch b) s) (fun t =>
      Regs s t (if (s.sigCh ch.toNat).last = none ∨
          (s.sigCh ch.toNat).last = some (if b then 1 else -1) then []
        else [(SIG_CH_n_STAT_STUCK ch.toNat, 0)]) ∧ Quiet s t ∧
      t.sigCh ch.toNat = { s.sigCh ch.toNat with
        hist := [], last := some (if b then 1 else -1), converting := true, asked := false }) := by
  refine .of_eq ((execScsConversionStart_eq hon hscs).trans (congrArg Host.Outcome.next
    (if_pos (by simpa using hdue)))) ⟨(regs_sigBits_one s ch.toNat b).congr rfl,
      quiet_sigUpd (quiet_sigBits (.refl s)), ?_⟩
  rw [sigCh_sigUpd_self _ _ hn, sigBits_sigCh _ _ hn]
  rfl

/-- A bit where no conversion is due is a bit of the line. -/
theorem scsConversionStart_idle {s : State} {ch : BitVec 4} {b : Bool}
    (hon : s.sigOn ch.toNat = true) (hn : ch.toNat < 12) (hscs : s.sigScs ch.toNat = true)
    (hper : s.fget (SIG_CH_n_SCS_PER ch.toNat) = 0) (hask : (s.sigCh ch.toNat).asked = false) :
    Yields (exec (.scsConversionStart ch b) s) (fun t =>
      Regs s t (if (s.sigCh ch.toNat).last = none ∨
          (s.sigCh ch.toNat).last = some (if b then 1 else -1) then []
        else [(SIG_CH_n_STAT_STUCK ch.toNat, 0)]) ∧ Quiet s t ∧
      (t.sigCh ch.toNat).converting = (s.sigCh ch.toNat).converting ∧
      (t.sigCh ch.toNat).last = some (if b then 1 else -1)) := by
  refine .of_eq ((execScsConversionStart_eq hon hscs).trans (congrArg Host.Outcome.next
    (if_neg (by simp [hper, hask])))) ⟨regs_sigBits_one s ch.toNat b,
      quiet_sigBits (.refl s), ?_⟩
  rw [sigBits_sigCh _ _ hn]
  exact ⟨rfl, rfl⟩

theorem execScsConversionDone_eq {s : State} {ch : BitVec 4} {bits : List Bool}
    (hon : s.sigOn ch.toNat = true) (hconv : (s.sigCh ch.toNat).converting = true)
    (hl : bits.length = 3 * s.sigR ch.toNat - 2) :
    exec (.scsConversionDone ch bits) s = .next
      (((s.sigBits ch.toNat bits).sigQueue ch.toNat).sigUpd ch.toNat
        (fun c => { c with converting := false })) := by
  change execScsConversionDone ch bits s = _
  simp only [execScsConversionDone, hon, hconv, hl, Bool.and_self, decide_true, if_true]

/-- Commands of a channel that does not run. -/
theorem sigOff_unchanged {s : State} {ch : BitVec 4} (h : s.sigOn ch.toNat = false) (e : Nat)
    (b : Bool) (bits : List Bool) :
    exec (.sdClockWindow ch e) s = .next s ∧ exec (.sdClockMissing ch) s = .next s ∧
    exec (.sdBitstreamStuck ch) s = .next s ∧ exec (.sinc3Output ch bits) s = .next s ∧
    exec (.scsConversionStart ch b) s = .next s ∧
    exec (.scsConversionDone ch bits) s = .next s := by
  refine ⟨congrArg Host.Outcome.next (if_pos ?_), congrArg Host.Outcome.next (if_neg ?_),
    congrArg Host.Outcome.next (if_neg ?_), congrArg Host.Outcome.next (if_neg ?_),
    congrArg Host.Outcome.next (if_neg ?_), congrArg Host.Outcome.next (if_neg ?_)⟩ <;>
  simp [h]

/-- Settles O40: by what each channel operation leaves of its channel and of its fields. -/
theorem signalChannels : Obligations.SignalChannels := by
  intro s
  refine ⟨fun ch edges hon hn hbad => .of_eq
      (execSdClockWindow_bad hon ((edgesBad_iff _ _).2 hbad)) (sigClkBad_facts s hn),
    fun ch edges hon hn h0 hle => sdClockWindow_clears hon hn ?_,
    fun ch hon hn => .of_eq (execSdClockMissing_eq hon) (sigClkBad_facts s hn),
    fun ch hon hn => .of_eq (execSdBitstreamStuck_eq hon) ⟨?_, ?_⟩,
    fun ch bits hon hn hscs hl hq => .of_eq (execSinc3Output_eq hon hscs hl) ?_,
    fun ch bits hon hn hscs hl hq => sinc3Output_overrun hon hn hscs hl hq,
    fun ch q hon hslot hw hq hs hf h4 hn => engineSlot_result hon hslot hw hq hs hf h4 hn,
    fun ch hon hslot => execEngineSlot_on hon hslot,
    fun ch hoff hup hrun hslot => execEngineSlot_off hoff hup hrun hslot,
    fun ch h => execEngineSlot_idle h, fun n hon => sigCmdRestart_one hon,
    fun m hup => sigCmdRestart_mask hup, fun m hdown => ⟨?_, ?_⟩,
    fun n fall hgrp hsrc hfall => ?_,
    fun fall hup hsrc hfall => ⟨execSigCmdSync_on hup hsrc, execSyncDfEdge_on hup hsrc hfall⟩,
    fun fall hsrc hup => sync_sourceless hsrc hup,
    fun ch b hon hn hscs hdue => scsConversionStart_due hon hn hscs hdue,
    fun ch b hon hn hscs hper hask => scsConversionStart_idle hon hn hscs hper hask,
    fun ch bits hon hn hconv hl hq => .of_eq (execScsConversionDone_eq hon hconv hl) ?_,
    fun ch e b bits hoff => sigOff_unchanged hoff e b bits⟩
  · have hgood : ¬ edgesBad (s.sigExpected ch.toNat) edges = true := by
      rw [edgesBad_iff]
      omega
    exact Bool.eq_false_iff.2 hgood
  · exact regs_sigFlag (Eq.refl _) (Eq.refl _) (Eq.refl _) (show 28 < 32 by decide) (Eq.refl _)
      (Eq.refl _) (show 2 < 16 by decide) (by omega)
  · exact .fset (quiet_when (fun _ => quiet_sigEvt) (.refl s))
  · obtain ⟨hch, hmax⟩ := sigBits_sigQueue (bits := bits) hn hq
    refine ⟨quiet_sigQueue (quiet_sigBits (.refl s)), ?_, ?_, hmax⟩
    · rw [hch]; rfl
    · rw [hch]
  · exact congrArg Host.Outcome.next (if_pos hdown)
  · exact congrArg Host.Outcome.next (if_pos hdown)
  · have hmem : n ∈ [n] := List.mem_singleton_self n
    rw [← hgrp, List.mem_filter, Bool.and_eq_true] at hmem
    have hup := (unitDown_of_sigOn hmem.2.1).1
    obtain ⟨hr, hq, hqueue, hcount⟩ := sigSync_one_facts hgrp
    exact ⟨.of_eq (execSigCmdSync_on hup hsrc) ⟨regs_answer hr, quiet_answer hq, hqueue, hcount⟩,
      .of_eq (execSyncDfEdge_on hup hsrc hfall) ⟨hr, hq, hqueue, hcount⟩⟩
  · obtain ⟨hch, -⟩ := sigBits_sigQueue (bits := bits) hn hq
    refine ⟨quiet_sigUpd (quiet_sigQueue (quiet_sigBits (.refl s))), ?_⟩
    rw [sigCh_sigUpd_self _ _ hn, hch]
    exact ⟨rfl, rfl, rfl⟩

end Sys2Proof.Machine

namespace Sys2Proof.Machine

open Sys2Proof.Claims State

/-! ### Bytes that an engine stores in whole words -/

/-- Two states that differ in memory and in the memory system's records alone. -/
def State.onlyMem (s t : State) : Prop := ∃ m x, t = { s with mem := m, memx := x }

theorem State.onlyMem_refl (s : State) : s.onlyMem s := ⟨s.mem, s.memx, rfl⟩

theorem State.onlyMem_trans {s t u : State} (h : s.onlyMem t) (k : t.onlyMem u) :
    s.onlyMem u := by
  obtain ⟨m, x, rfl⟩ := h
  obtain ⟨n, y, rfl⟩ := k
  exact ⟨n, y, rfl⟩

/-- The bytes of `t` are those of `s` with `bs` from key `k` on. -/
def State.bytesPut (s t : State) (k : Nat) (bs : List Byte) : Prop :=
  ∀ j, t.byteAt j = if k ≤ j ∧ j < k + bs.length then bs.getD (j - k) 0 else s.byteAt j

theorem State.bytesPut_nil (s : State) (k : Nat) : s.bytesPut s k [] := fun j => by
  rw [if_neg (by simp)]

theorem State.bytesPut_memPut (s : State) (k : Nat) (bs : List Byte) :
    s.bytesPut (s.memPut k bs) k bs := fun j => smGet_mapPut memDflt bs s.mem k j

theorem State.bytesPut_append {s t u : State} {k : Nat} {as bs : List Byte}
    (h : s.bytesPut t k as) (g : t.bytesPut u (k + as.length) bs) :
    s.bytesPut u k (as ++ bs) := by
  intro j
  rw [g j, List.length_append]
  by_cases hb : k + as.length ≤ j ∧ j < k + as.length + bs.length
  · rw [if_pos hb, if_pos (by omega), List.getD_append_right _ _ _ _ (by omega)]
    congr 1
    omega
  · rw [if_neg hb, h j]
    by_cases ha : k ≤ j ∧ j < k + as.length
    · rw [if_pos ha, if_pos (by omega), List.getD_append _ _ _ _ (by omega)]
    · rw [if_neg ha, if_neg (by omega)]

theorem State.bytesPut_same {s t : State} {k n : Nat} {bs : List Byte} (h : s.bytesPut t k bs)
    {lo : Nat} (hlo : lo ≤ k) (hhi : k + bs.length ≤ lo + n) : MemSame s t lo n := fun j hj => by
  rw [h j, if_neg (by omega)]

theorem memSame_refl (s : State) (k n : Nat) : MemSame s s k n := fun _ _ => rfl

theorem memSame_trans {s t u : State} {k n : Nat} (h : MemSame s t k n) (g : MemSame t u k n) :
    MemSame s u k n := fun j hj => (g j hj).trans (h j hj)

theorem leBytes_ofLe (bs : List Byte) : leBytes bs.length (ofLe bs) = bs := by
  induction bs with
  | nil => rfl
  | cons b bs ih =>
    have hd : (b.toNat + 256 * ofLe bs) / 256 = ofLe bs := by
      have := b.isLt
      omega
    have hb : BitVec.ofNat 8 (b.toNat + 256 * ofLe bs) = b := by
      apply BitVec.eq_of_toNat_eq
      rw [BitVec.toNat_ofNat]
      have := b.isLt
      omega
    rw [List.length_cons, ofLe, leBytes, hd, hb, ih]

/-- A store of a whole word of communication memory replaces its bytes (R131). -/
theorem State.wordStore_comm (s : State) (w : Nat) (bs : List Byte) (src : Nat)
    (h : bs.length = 32) :
    s.onlyMem (s.wordStore .comm (32 * w) 32 (ofLe bs) src).1 ∧
    s.bytesPut (s.wordStore .comm (32 * w) 32 (ofLe bs) src).1 (0x20000000 + 32 * w) bs := by
  have hk : wordKey .comm (32 * w) = 0x20000000 + 32 * w := by
    show 0x20000000 + 32 * w / 32 * 32 = _
    omega
  have hb : leBytes 32 (ofLe bs) = bs := h ▸ leBytes_ofLe bs
  have hput := s.bytesPut_memPut (0x20000000 + 32 * w) bs
  unfold State.wordStore
  extract_lets k s1
  rw [if_pos (show 32 = bankWord .comm from rfl)]
  have hs1 : s1 = (s.memPut (0x20000000 + 32 * w) bs).setUpsets (0x20000000 + 32 * w) [] := by
    show (s.memPutLe (wordKey .comm (32 * w)) 32 (ofLe bs)).setUpsets
      (wordKey .comm (32 * w)) [] = _
    rw [hk, State.memPutLe, hb]
  rw [hs1]
  exact ⟨⟨_, _, rfl⟩, hput⟩

/-- The part of `bs` that a whole word from `32 * i` on takes. -/
theorem length_word (bs : List Byte) {i m : Nat} (h : bs.length = 32 * m) (hi : i < m) :
    ((bs.drop (32 * i)).take 32).length = 32 := by
  rw [List.length_take, List.length_drop]
  omega

theorem take_add_chunk (bs : List Byte) (w i : Nat) :
    bs.take (w * (i + 1)) = bs.take (w * i) ++ (bs.drop (w * i)).take w := by
  rw [Nat.mul_succ, List.take_add]

/-- One whole word of a longer store. -/
def State.chunkStore (s : State) (q src : Nat) (bs : List Byte) (i : Nat) : State :=
  (s.wordStore .comm (32 * (q + i)) 32 (ofLe ((bs.drop (32 * i)).take 32)) src).1

theorem State.foldl_chunkStore (s : State) (q src : Nat) {bs : List Byte} {m : Nat}
    (h : bs.length = 32 * m) (n : Nat) (hn : n ≤ m) :
    s.onlyMem ((List.range n).foldl (fun x i => x.chunkStore q src bs i) s) ∧
    s.bytesPut ((List.range n).foldl (fun x i => x.chunkStore q src bs i) s)
      (0x20000000 + 32 * q) (bs.take (32 * n)) := by
  induction n with
  | zero => exact ⟨s.onlyMem_refl, by simpa using s.bytesPut_nil _⟩
  | succ n ih =>
    obtain ⟨hm, hb⟩ := ih (by omega)
    rw [List.range_succ, List.foldl_append, List.foldl_cons, List.foldl_nil]
    generalize (List.range n).foldl (fun x i => x.chunkStore q src bs i) s = t at hm hb ⊢
    obtain ⟨gm, gb⟩ := t.wordStore_comm (q + n) ((bs.drop (32 * n)).take 32) src
      (length_word bs h (by omega))
    refine ⟨onlyMem_trans hm gm, ?_⟩
    rw [take_add_chunk]
    refine bytesPut_append hb ?_
    have e : 0x20000000 + 32 * q + (bs.take (32 * n)).length = 0x20000000 + 32 * (q + n) := by
      rw [List.length_take]
      omega
    rw [e]
    exact gb

/-- A store of whole words of communication memory (R131). -/
theorem State.bankPut_comm (s : State) (q src : Nat) {bs : List Byte} {m : Nat}
    (h : bs.length = 32 * m) :
    s.onlyMem (s.bankPut .comm (32 * q) src bs) ∧
    s.bytesPut (s.bankPut .comm (32 * q) src bs) (0x20000000 + 32 * q) bs := by
  have hw : wordOffs .comm (32 * q) bs.length = (List.range m).map (fun i => 32 * (q + i)) := by
    have h1 : (32 * q + bs.length + 32 - 1) / 32 - 32 * q / 32 = m := by omega
    have h2 : ∀ i, (32 * q / 32 + i) * 32 = 32 * (q + i) := by omega
    simp only [wordOffs, bankWord, h1, h2]
  unfold State.bankPut
  split
  · exact ⟨⟨_, _, rfl⟩, s.bytesPut_memPut _ bs⟩
  · rw [hw, List.foldl_map]
    obtain ⟨hm, hb⟩ := s.foldl_chunkStore q src h m le_rfl
    rw [← h, List.take_length] at hb
    have he : ∀ l : List Nat, (∀ i ∈ l, i < m) → ∀ x : State,
        l.foldl (fun x i =>
          let lo := max (32 * (q + i)) (32 * q)
          let hi := min (32 * (q + i) + bankWord .comm) (32 * q + bs.length)
          (x.wordStore .comm lo (hi - lo)
            (ofLe ((bs.drop (lo - 32 * q)).take (hi - lo))) src).1) x
        = l.foldl (fun x i => x.chunkStore q src bs i) x := by
      intro l hl x
      refine List.foldl_ext _ _ _ fun y i hi => ?_
      have hi := hl i hi
      have e1 : max (32 * (q + i)) (32 * q) = 32 * (q + i) := by omega
      have e2 : min (32 * (q + i) + 32) (32 * q + bs.length) = 32 * (q + i) + 32 := by omega
      have e3 : 32 * (q + i) - 32 * q = 32 * i := by omega
      have e4 : 32 * (q + i) + 32 - 32 * (q + i) = 32 := by omega
      simp only [bankWord, e1, e2, e3, e4]
      rfl
    rw [he _ (fun i hi => List.mem_range.1 hi)]
    exact ⟨hm, hb⟩

end Sys2Proof.Machine

namespace Sys2Proof.Machine

open Sys2Proof.Claims State

/-! ### Cells of the packet buffer -/

theorem State.burstPut_cell (s : State) {c : Nat} (hc : c < 2048) {bs : List Byte}
    (h : bs.length = 256) :
    s.onlyMem (s.burstPut (cellAddr c) bs) ∧ s.bytesPut (s.burstPut (cellAddr c) bs)
      (cellAddr c) bs := by
  have hb : burstBank (cellAddr c) = some (.comm, 32 * (49152 + 8 * c)) := by
    unfold burstBank cellAddr
    rw [if_neg (by omega), if_pos (by omega),
      show 0x20180000 + 256 * c - 0x20000000 = 32 * (49152 + 8 * c) by omega]
  have he : s.burstPut (cellAddr c) bs = s.bankPut .comm (32 * (49152 + 8 * c)) 1 bs := by
    rw [State.burstPut, hb]
  have hk : cellAddr c = 0x20000000 + 32 * (49152 + 8 * c) := by unfold cellAddr; omega
  rw [he, hk]
  exact s.bankPut_comm (49152 + 8 * c) 1 (m := 8) h

/-- What a frame's bytes are padded to in its cells. -/
def cellPad (k : Nat) (body : List Byte) : List Byte :=
  body ++ List.replicate (256 * k - body.length) 0

theorem cellPad_length {k : Nat} {body : List Byte} (h : body.length ≤ 256 * k) :
    (cellPad k body).length = 256 * k := by
  rw [cellPad, List.length_append, List.length_replicate]
  omega

theorem length_cell {k i : Nat} {body : List Byte} (hi : i < k) :
    (((cellPad k body).drop (256 * i)).take 256).length = 256 := by
  rw [List.length_take, List.length_drop, cellPad, List.length_append, List.length_replicate]
  omega

theorem State.cellPut_eq (s : State) (cells : List Nat) (body : List Byte) :
    s.cellPut cells body = cells.zipIdx.foldl (fun x p => x.burstPut (cellAddr p.1)
      (((cellPad cells.length body).drop (256 * p.2)).take 256)) s := rfl

/-- Cells change memory within the packet buffer alone. -/
theorem State.cellPut_same (s : State) {cells : List Nat} (h : ∀ c ∈ cells, c < 2048)
    (body : List Byte) :
    s.onlyMem (s.cellPut cells body) ∧ MemSame s (s.cellPut cells body) 0x20180000 0x80000 := by
  rw [cellPut_eq]
  refine List.foldlRecOn (motive := fun t => s.onlyMem t ∧ MemSame s t 0x20180000 0x80000) _ _
    ⟨s.onlyMem_refl, memSame_refl s _ _⟩ fun t ht p hp => ?_
  have hc := h p.1 (List.fst_mem_of_mem_zipIdx hp)
  have hl := length_cell (body := body) (List.snd_lt_of_mem_zipIdx hp)
  obtain ⟨hm, hb⟩ := t.burstPut_cell hc hl
  exact ⟨onlyMem_trans ht.1 hm, memSame_trans ht.2
    (bytesPut_same hb (by unfold cellAddr; omega) (by rw [hl]; unfold cellAddr; omega))⟩

theorem State.foldl_cells (s : State) {k : Nat} (hk : k ≤ 2048) {body : List Byte}
    (h : body.length ≤ 256 * k) (n : Nat) (hn : n ≤ k) :
    s.bytesPut ((List.range n).foldl (fun x i => x.burstPut (cellAddr i)
      (((cellPad k body).drop (256 * i)).take 256)) s) 0x20180000
      ((cellPad k body).take (256 * n)) := by
  induction n with
  | zero => simpa using s.bytesPut_nil _
  | succ n ih =>
    rw [List.range_succ, List.foldl_append, List.foldl_cons, List.foldl_nil, take_add_chunk]
    refine bytesPut_append (ih (by omega)) ?_
    have e : 0x20180000 + ((cellPad k body).take (256 * n)).length = cellAddr n := by
      rw [List.length_take, cellPad_length h]
      unfold cellAddr
      omega
    rw [e]
    exact (State.burstPut_cell _ (by omega) (length_cell (by omega))).2

/-- The lowest cells hold a frame's bytes one after the other. -/
theorem State.cellPut_range (s : State) {k : Nat} (hk : k ≤ 2048) {body : List Byte}
    (h : body.length ≤ 256 * k) :
    s.bytesPut (s.cellPut (List.range k) body) 0x20180000 (cellPad k body) := by
  have hz : (List.range k).zipIdx = (List.range k).map (fun i => (i, i)) :=
    List.ext_getElem (by simp) (by simp)
  have hb := s.foldl_cells hk h k le_rfl
  rw [cellPut_eq, hz, List.foldl_map, List.length_range]
  rwa [← cellPad_length h, List.take_length] at hb

theorem State.memBytes_eq {s : State} {k : Nat} {bs : List Byte}
    (h : ∀ i < bs.length, s.byteAt (k + i) = bs.getD i 0) : s.memBytes k bs.length = bs := by
  induction bs generalizing k with
  | nil => rfl
  | cons b bs ih =>
    have h0 : s.byteAt k = b := h 0 (Nat.succ_pos _)
    have ht : s.memBytes (k + 1) bs.length = bs := ih fun i hi => by
      rw [Nat.add_assoc, Nat.add_comm 1 i]
      exact h (i + 1) (Nat.succ_lt_succ hi)
    exact congrArg₂ List.cons h0 ht

theorem State.memBytes_of_bytesPut {s t : State} {k : Nat} {as bs : List Byte}
    (h : s.bytesPut t k (as ++ bs)) : t.memBytes k as.length = as :=
  memBytes_eq fun i hi => by
    rw [h (k + i), if_pos (by rw [List.length_append]; omega), Nat.add_sub_cancel_left,
      List.getD_append _ _ _ _ hi]

end Sys2Proof.Machine

namespace Sys2Proof.Machine

open Sys2Proof.Claims State

/-! ### A frame enters an egress queue -/

/-- The entry that a frame takes in the queue of a port. -/
def State.entry (s : State) (inPort prio : Nat) (f : EthFrame) (port : Nat) : QEnt :=
  { port := port, prio := prio, cells := s.freeCells.take (frameCells f), inNs := s.now.hubNs
    inPort := inPort, frame := f }

/-- Two states that differ in one more entry of the egress queues and in its cells. -/
def State.queued (s t : State) (e : QEnt) : Prop :=
  (∃ m x, t = { s with mem := m, memx := x
                       eth := { s.eth with queue := s.eth.queue ++ [e] } }) ∧
  MemSame s t 0x20180000 0x80000

theorem State.mem_freeCells_lt {s : State} {c : Nat} (h : c ∈ s.freeCells) : c < 2048 :=
  List.mem_range.1 (List.mem_filter.1 h).1

theorem State.enqueue_eq {s : State} {inPort prio : Nat} {f : EthFrame} {port : Nat}
    (h : s.cellsFree port (frameCells f) = true) :
    s.enqueue inPort prio false f port =
      { s.cellPut (s.freeCells.take (frameCells f)) (f.body.take f.len) with
        eth := { (s.cellPut (s.freeCells.take (frameCells f)) (f.body.take f.len)).eth with
          queue := (s.cellPut (s.freeCells.take (frameCells f)) (f.body.take f.len)).eth.queue
            ++ [s.entry inPort prio f port] } } := by
  unfold State.enqueue
  rw [h]
  rfl

theorem State.enqueue_queued {s : State} {inPort prio : Nat} {f : EthFrame} {port : Nat}
    (h : s.cellsFree port (frameCells f) = true) :
    s.queued (s.enqueue inPort prio false f port) (s.entry inPort prio f port) := by
  have hc : ∀ c ∈ s.freeCells.take (frameCells f), c < 2048 := fun c hc =>
    mem_freeCells_lt (List.mem_of_mem_take hc)
  rw [enqueue_eq h]
  obtain ⟨⟨m, x, e⟩, hsame⟩ := s.cellPut_same hc (f.body.take f.len)
  generalize s.cellPut (s.freeCells.take (frameCells f)) (f.body.take f.len) = t at e hsame
  subst e
  exact ⟨⟨m, x, rfl⟩, hsame⟩

/-- A port without an entry has its reserved cells. -/
theorem State.cellsFree_of_none {s : State} {port k : Nat}
    (h : ∀ e ∈ s.eth.queue, e.port ≠ port) (hk : k ≤ 128) : s.cellsFree port k = true := by
  have hf : s.eth.queue.filter (fun e => decide (e.port = port)) = [] :=
    List.filter_eq_nil_iff.2 fun e he => by simpa using h e he
  have hu : s.cellsOf port = 0 := by rw [State.cellsOf, hf]; rfl
  simp [State.cellsFree, hu, hk]

theorem State.freeCells_empty {s : State} (h : s.eth.queue = []) (k : Nat) (hk : k ≤ 2048) :
    s.freeCells.take k = List.range k := by
  have hf : s.freeCells = List.range 2048 := by
    rw [State.freeCells, h]
    exact List.filter_eq_self.2 fun _ _ => rfl
  rw [hf, List.take_range, Nat.min_eq_left hk]

/-- The first entry of an empty switch has the lowest cells, and its bytes stand there. -/
theorem State.enqueue_memBytes {s : State} {inPort prio : Nat} {f : EthFrame} {port : Nat}
    (h : s.eth.queue = []) (hk : frameCells f ≤ 128) :
    (s.enqueue inPort prio false f port).memBytes 0x20180000 (f.body.take f.len).length
      = f.body.take f.len := by
  have hfree : s.cellsFree port (frameCells f) = true :=
    cellsFree_of_none (by rw [h]; nofun) hk
  have hlen : (f.body.take f.len).length ≤ 256 * frameCells f := by
    rw [List.length_take, frameCells]
    omega
  rw [enqueue_eq hfree, freeCells_empty h _ (by omega)]
  exact memBytes_of_bytesPut (s := s) (bs := List.replicate
    (256 * frameCells f - (f.body.take f.len).length) 0) (s.cellPut_range (by omega) hlen)

/-! ### An untagged frame for the own address -/

theorem State.learn_empty {s : State} {mac vid port : Nat} (hg : groupMac mac = false)
    (h : s.eth.learned = []) :
    s.learn mac vid port = { s with eth := { s.eth with learned := [(mac, vid, port)] } } := by
  unfold State.learn
  rw [hg, h]
  rfl

/-- The frame as it stands once its VID and priority are known. -/
def State.ingress (s : State) (port : Nat) (f : EthFrame) : EthFrame :=
  { f with vid := some (BitVec.ofNat 12 (s.fget (ETH_PORT_n_CFG_PVID port)))
           pcp := BitVec.ofNat 3 (s.fget (ETH_PORT_n_CFG_PCP port)), len := f.len + 4 }

theorem State.switchFrame_own {s : State} {port mem : Nat} {f : EthFrame} (hvid : f.vid = none)
    (hvlan : s.vlan (s.fget (ETH_PORT_n_CFG_PVID port)) = some (mem, 16))
    (hown : f.dst.toNat = s.ownMac) (hne : f.dst ≠ f.src)
    (hgd : groupMac f.dst.toNat = false) (hgs : groupMac f.src.toNat = false)
    (hst : s.staticPorts f.dst.toNat = none) (hl : s.eth.learned = []) :
    s.switchFrame port f =
      { s with eth := { s.eth with
          learned := [(f.src.toNat, s.fget (ETH_PORT_n_CFG_PVID port), port)] } }.forwardTo port
        (s.fget (ETH_PORT_n_CFG_PCP port) / 2) (Nat.land 16 mem) 16 false (s.ingress port f) := by
  have hsrc : ¬ f.src.toNat = f.dst.toNat := fun e => hne (BitVec.eq_of_toNat_eq e.symm)
  have hst' : State.staticPorts { s with eth := { s.eth with
      learned := [(f.src.toNat, s.fget (ETH_PORT_n_CFG_PVID port), port)] } } f.dst.toNat
      = none := hst
  have hown' : f.dst.toNat = State.ownMac { s with eth := { s.eth with
      learned := [(f.src.toNat, s.fget (ETH_PORT_n_CFG_PVID port), port)] } } := hown
  unfold State.switchFrame
  simp only [hvid, hvlan, learn_empty hgs hl, hgd, hst', Bool.false_and, Bool.false_eq_true,
    if_false, List.find?_cons, hsrc, false_and, decide_false, List.find?_nil, if_pos hown']
  rfl

theorem land_sixteen {mem : Nat} (h : bitOf mem 4 = true) : Nat.land 16 mem = 16 := by
  have hb : mem.testBit 4 = true := by
    rw [Nat.testBit_eq_decide_div_mod_eq]
    exact h
  have := Nat.two_pow_and mem 4
  rw [hb] at this
  exact this

/-- A frame for port 4 alone goes into its queue. -/
theorem State.forwardTo_own {s : State} {port prio : Nat} {f : EthFrame} (hport : port < 4)
    (hf : f.frag = none) :
    s.forwardTo port prio 16 16 false f = s.enqueue port prio false (untagged f) 4 := by
  have hne : ¬ port = 4 := by omega
  have hu : s.portUp 4 = true := rfl
  have hp : s.prpPort 4 = false := rfl
  have hb : bitList 5 16 = [4] := by decide
  have hn : (4 ≠ port) := by omega
  have hbit : bitOf 16 4 = true := by decide
  unfold State.forwardTo
  simp only [hb, hu, hp, hne, hn, hbit, List.filter_cons, List.filter_nil, List.foldl_cons,
    List.foldl_nil, decide_true, decide_false, Bool.and_true, Bool.and_false, Bool.true_or,
    Bool.or_true, Bool.not_false, Bool.false_eq_true, if_true, if_false, ne_eq, not_false_eq_true,
    State.internal, hf]

theorem State.switchFrame_queued {s : State} {port v mem : Nat} {f : EthFrame} (hport : port < 4)
    (hlen : 64 ≤ f.len ∧ f.len ≤ 1522) (hvid : f.vid = none) (hfrag : f.frag = none)
    (hv : v = s.fget (ETH_PORT_n_CFG_PVID port)) (hvlan : s.vlan v = some (mem, 16))
    (hmem : bitOf mem 4 = true) (hown : f.dst.toNat = s.ownMac) (hne : f.dst ≠ f.src)
    (hgd : groupMac f.dst.toNat = false) (hgs : groupMac f.src.toNat = false)
    (hst : s.staticPorts f.dst.toNat = none) (hl : s.eth.learned = []) (hq : s.eth.queue = []) :
    Regs s (s.switchFrame port f) [] ∧ (s.switchFrame port f).flash = s.flash ∧
    (∀ l, (s.switchFrame port f).lane l = s.lane l) ∧
    (s.switchFrame port f).pending = s.pending ∧
    MemSame s (s.switchFrame port f) 0x20180000 0x80000 ∧
    (s.switchFrame port f).memBytes 0x20180000 (f.body.take f.len).length = f.body.take f.len ∧
    (s.switchFrame port f).eth = { s.eth with
      learned := [(f.src.toNat, v, port)]
      queue := [{ port := 4, prio := s.fget (ETH_PORT_n_CFG_PCP port) / 2
                  cells := List.range ((f.len + 255) / 256)
                  inNs := s.now.hubNs, inPort := port
                  frame := { f with
                    pcp := BitVec.ofNat 3 (s.fget (ETH_PORT_n_CFG_PCP port)) } }] } := by
  subst hv
  have hframe : untagged (s.ingress port f)
      = { f with pcp := BitVec.ofNat 3 (s.fget (ETH_PORT_n_CFG_PCP port)) } := by
    have hl4 : max 64 (f.len + 4 - 4) = f.len := by omega
    simp only [untagged, State.ingress, hl4, ← hvid]
  have hk : frameCells f ≤ 128 := by unfold frameCells; omega
  rw [switchFrame_own hvid hvlan hown hne hgd hgs hst hl, land_sixteen hmem,
    forwardTo_own (f := s.ingress port f) hport hfrag, hframe]
  generalize hu : ({ s with eth := { s.eth with
    learned := [(f.src.toNat, s.fget (ETH_PORT_n_CFG_PVID port), port)] } } : State) = u
  generalize hg : ({ f with
    pcp := BitVec.ofNat 3 (s.fget (ETH_PORT_n_CFG_PCP port)) } : EthFrame) = g
  have hgk : frameCells g = (f.len + 255) / 256 := by rw [← hg]; rfl
  have huq : u.eth.queue = [] := by rw [← hu]; exact hq
  have hbytes := enqueue_memBytes (inPort := port)
    (prio := s.fget (ETH_PORT_n_CFG_PCP port) / 2) (f := g) (port := 4) huq (by omega)
  obtain ⟨⟨m, x, e⟩, hsame⟩ := enqueue_queued (inPort := port)
    (prio := s.fget (ETH_PORT_n_CFG_PCP port) / 2) (f := g) (port := 4)
    (cellsFree_of_none (s := u) (by rw [huq]; nofun) (by omega))
  have hcells : u.freeCells.take (frameCells g) = List.range ((f.len + 255) / 256) := by
    rw [freeCells_empty huq _ (by omega), hgk]
  rw [State.entry, hcells, huq] at e
  have hbody : g.body.take g.len = f.body.take f.len := by rw [← hg]
  rw [hbody] at hbytes
  generalize u.enqueue port (s.fget (ETH_PORT_n_CFG_PCP port) / 2) false g 4 = t at *
  subst e hu
  exact ⟨.of_regs rfl, rfl, fun l => by cases l <;> rfl, rfl, hsame, hbytes, rfl⟩

end Sys2Proof.Machine

namespace Sys2Proof.Machine

open Sys2Proof.Claims State

/-! ### Reading through the burst code -/

/-- Two states that differ in memory, the registers and the memory system's records alone. -/
def State.onlyRead (s t : State) : Prop := ∃ m r x, t = { s with mem := m, regs := r, memx := x }

theorem State.onlyRead_refl (s : State) : s.onlyRead s := ⟨s.mem, s.regs, s.memx, rfl⟩

theorem State.onlyRead_trans {s t u : State} (h : s.onlyRead t) (k : t.onlyRead u) :
    s.onlyRead u := by
  obtain ⟨m, r, x, rfl⟩ := h
  obtain ⟨n, q, y, rfl⟩ := k
  exact ⟨n, q, y, rfl⟩

theorem State.onlyRead_of_onlyEcc {s t : State} (h : s.onlyEcc t) : s.onlyRead t := by
  obtain ⟨r, x, rfl⟩ := h
  exact ⟨s.mem, r, x, rfl⟩

theorem State.poisonWord_onlyRead (s : State) (bk : Bank) (off : Nat) :
    s.onlyRead (s.poisonWord bk off) := by
  unfold State.poisonWord
  extract_lets k s1
  have h1 : s.onlyRead s1 := ⟨_, _, _, rfl⟩
  split
  · exact s.onlyRead_refl
  · split
    · exact h1
    · exact onlyRead_trans h1 ⟨_, _, _, rfl⟩

theorem State.wordRead_onlyRead (s : State) (bk : Bank) (off src : Nat) :
    s.onlyRead (s.wordRead bk off src).1 := by
  have hue := onlyRead_trans (onlyRead_of_onlyEcc (s.recordUe_onlyEcc bk off src))
    (poisonWord_onlyRead _ bk off)
  rcases s.wordRead_cases bk off src with
    ⟨-, e⟩ | ⟨-, e⟩ | ⟨b, -, e⟩ | ⟨d, b, -, e⟩ | ⟨-, e⟩ | ⟨-, e⟩ <;> rw [e]
  · exact s.onlyRead_refl
  · exact s.onlyRead_refl
  · exact onlyRead_of_onlyEcc (s.recordCe_onlyEcc bk off b)
  · cases h : !b.isEmpty
    · exact s.onlyRead_refl
    · exact onlyRead_of_onlyEcc (s.recordCe_onlyEcc bk off b)
  · exact hue
  · exact onlyRead_trans hue (onlyRead_of_onlyEcc (fset_onlyEcc _ _ _))

theorem State.bankBytes_onlyRead (s : State) (bk : Bank) (off n src : Nat) :
    s.onlyRead (s.bankBytes bk off n src).1 := by
  unfold State.bankBytes
  split
  · exact s.onlyRead_refl
  · exact List.foldlRecOn (motive := fun p : State × Option (List Byte) => s.onlyRead p.1) _ _
      s.onlyRead_refl fun p hp o _ => onlyRead_trans hp (p.1.wordRead_onlyRead bk o src)

theorem State.cellRead_onlyRead (s : State) (cells : List Nat) (n : Nat) :
    s.onlyRead (s.cellRead cells n).1 := by
  refine List.foldlRecOn (motive := fun p : State × Option (List Byte) => s.onlyRead p.1) _ _
    s.onlyRead_refl fun p hp c _ => onlyRead_trans hp ?_
  unfold State.engineRead
  split
  · exact bankBytes_onlyRead _ _ _ _ _
  · exact p.1.onlyRead_refl

/-! ### A frame leaves -/

theorem execSwitchEgressTransmit_eq {s : State} {port : Nat} {e : QEnt} (hup : s.ethUp = true)
    (hp : s.portUp port = true) (he : s.egressNext port = some e) {t : State}
    {d : Option (List Byte)} (hr : s.cellRead e.cells e.frame.len = (t, d)) :
    exec (.switchEgressTransmit port) s = .next (({ t with eth := { t.eth with
        queue := t.eth.queue.erase e
        sent := vecUpd t.eth.sent port (fun _ => some { s.departing e with
          fcsOk := d.isSome
          body := (d.getD e.frame.body).take e.frame.body.length }) } } : State).when d.isNone
      (fun x => x.raise ETH_EVT_UNCORR_DROP)) := by
  change execSwitchEgressTransmit port s = _
  simp only [execSwitchEgressTransmit, hup, hp, he, hr, Bool.not_true, Bool.or_self,
    Bool.false_eq_true, if_false]

theorem execSwitchEgressTransmit_none {s : State} {port : Nat}
    (h : s.egressNext port = none) : exec (.switchEgressTransmit port) s = .next s := by
  change execSwitchEgressTransmit port s = _
  simp only [execSwitchEgressTransmit, h, ite_self]

theorem State.departing_body (s : State) (e : QEnt) : (s.departing e).body = e.frame.body := by
  unfold State.departing
  split <;> rfl

/-- A frame leaves with an inverted FCS where a word of it has no data (R334). -/
theorem switchEgressTransmit_bad {s : State} {port : Nat} {e : QEnt} (hup : s.ethUp = true)
    (hp : s.portUp port = true) (he : s.egressNext port = some e)
    (hd : (s.cellRead e.cells e.frame.len).2 = none) :
    Yields (exec (.switchEgressTransmit port) s) (fun t =>
      t.fget ETH_EVT_UNCORR_DROP = 1 ∧ t.flash = s.flash ∧ t.pending = s.pending ∧
      (∀ l, t.lane l = s.lane l) ∧
      t.eth = { s.eth with
        queue := s.eth.queue.erase e
        sent := vecUpd s.eth.sent port
          (fun _ => some { s.departing e with fcsOk := false }) }) := by
  obtain ⟨m, r, x, ht⟩ := s.cellRead_onlyRead e.cells e.frame.len
  have hr : s.cellRead e.cells e.frame.len
      = ({ s with mem := m, regs := r, memx := x }, none) := Prod.ext ht hd
  have hb : ({ s.departing e with
      fcsOk := (none : Option (List Byte)).isSome
      body := ((none : Option (List Byte)).getD e.frame.body).take e.frame.body.length } : EthFrame)
      = { s.departing e with fcsOk := false } := by
    rw [Option.getD_none, List.take_length, ← s.departing_body e]
    rfl
  have hexec := execSwitchEgressTransmit_eq hup hp he hr
  rw [hb] at hexec
  refine .of_eq hexec ⟨fget_fset_self _ ETH_EVT_UNCORR_DROP 1 (by decide), ?_⟩
  rw [Option.isNone_none, when_true, raise_eq, fset_flash, fset_pending, fset_eth]
  exact ⟨rfl, rfl, fun l => (fset_lane _ _ _ l).trans (by cases l <;> rfl), rfl⟩

theorem switchEgressTransmit_good {s : State} {port : Nat} {e : QEnt} {bs : List Byte}
    (hup : s.ethUp = true) (hp : s.portUp port = true) (he : s.egressNext port = some e)
    (hr : s.cellRead e.cells e.frame.len = (s, some bs)) :
    Yields (exec (.switchEgressTransmit port) s) (fun t =>
      Regs s t [] ∧ Quiet s t ∧
      t.eth = { s.eth with
        queue := s.eth.queue.erase e
        sent := vecUpd s.eth.sent port (fun _ => some { s.departing e with
          fcsOk := true, body := bs.take e.frame.body.length }) }) :=
  .of_eq (execSwitchEgressTransmit_eq hup hp he hr)
    ⟨.of_regs rfl, ⟨rfl, rfl, fun l => by cases l <;> rfl, rfl⟩, rfl⟩

/-! ### Frames that a port drops or forwards -/

theorem frameLenOk_of {f : EthFrame} (h : 64 ≤ f.len ∧ f.len ≤ 1522) : frameLenOk f = true := by
  simp [frameLenOk, h]

theorem execSwitchFrameReceived_plain {s : State} {port : Nat} {f : EthFrame}
    (hup : s.ethUp = true) (hp : s.portUp port = true) (hl : 64 ≤ f.len ∧ f.len ≤ 1522)
    (hfcs : f.fcsOk = true) (hpause : f.pause = false) (hprp : s.prpPort port = false) :
    exec (.switchFrameReceived port f) s = .next (s.switchFrame port f) := by
  change execSwitchFrameReceived port f s = _
  simp only [execSwitchFrameReceived, hup, hp, frameLenOk_of hl, hfcs, hpause, hprp, Bool.not_true,
    Bool.or_self, Bool.false_eq_true, if_false]

theorem execSwitchFrameReceived_prp {s : State} {port : Nat} {f : EthFrame}
    (hup : s.ethUp = true) (hp : s.portUp port = true) (hl : 64 ≤ f.len ∧ f.len ≤ 1522)
    (hfcs : f.fcsOk = true) (hpause : f.pause = false) (hprp : s.prpPort port = true) :
    exec (.switchFrameReceived port f) s = .next ((s.prpReceive port s.dualComid f).2.elim
      (s.prpReceive port s.dualComid f).1
      ((s.prpReceive port s.dualComid f).1.switchFrame port)) := by
  change execSwitchFrameReceived port f s = _
  simp only [execSwitchFrameReceived, hup, hp, frameLenOk_of hl, hfcs, hpause, hprp, Bool.not_true,
    Bool.or_self, Bool.false_eq_true, if_false, if_true]
  rcases s.prpReceive port s.dualComid f with ⟨s1, _ | g⟩ <;> rfl

theorem execSwitchFrameReceived_drop {s : State} {port : Nat} {f : EthFrame} {o : Option Fld}
    (hup : s.ethUp = true) (hp : s.portUp port = true)
    (h : (frameLenOk f = false ∧ o = some ETH_EVT_OVERSIZE) ∨
      (frameLenOk f = true ∧ f.fcsOk = false ∧ o = none)) :
    exec (.switchFrameReceived port f) s = .next (s.ethDrop port o) := by
  change execSwitchFrameReceived port f s = _
  rcases h with ⟨hl, rfl⟩ | ⟨hl, hfcs, rfl⟩
  · simp only [execSwitchFrameReceived, hup, hp, hl, Bool.not_true, Bool.or_self,
      Bool.false_eq_true, if_false, Bool.not_false, if_true]
  · simp only [execSwitchFrameReceived, hup, hp, hl, hfcs, Bool.not_true, Bool.or_self,
      Bool.false_eq_true, if_false, Bool.not_false, if_true]

theorem regs_ethDrop (s : State) (port : Nat) :
    Regs s (s.ethDrop port none)
      [(ETH_PORT_n_DROP_OTHER port, plusOne s (ETH_PORT_n_DROP_OTHER port))] :=
  (Regs.refl s).fset (f := ETH_PORT_n_DROP_OTHER port) (show 0 + 16 ≤ 32 by decide)
    (plusOne_lt s _) nofun

theorem regs_ethDrop_oversize (s : State) (port : Nat) :
    Regs s (s.ethDrop port (some ETH_EVT_OVERSIZE))
      [(ETH_PORT_n_DROP_OTHER port, plusOne s (ETH_PORT_n_DROP_OTHER port)),
        (ETH_EVT_OVERSIZE, 1)] := by
  refine (regs_ethDrop s port).fset (f := ETH_EVT_OVERSIZE) (v := 1) (by decide) (by decide)
    fun p hp => ?_
  obtain rfl := List.mem_singleton.1 hp
  exact Fld.apart_of_addr (show 0x40060004 ≠ 0x40060040 + 4 * port by omega)

theorem ethDrop_quiet (s : State) (port : Nat) (o : Option Fld) :
    Quiet s (s.ethDrop port o) ∧ (s.ethDrop port o).eth = s.eth := by
  have hb : Quiet s (s.ethDrop port none) := .fset (.refl s)
  have he : (s.ethDrop port none).eth = s.eth := fset_eth _ _ _
  cases o with
  | none => exact ⟨hb, he⟩
  | some f => exact ⟨.fset hb, (fset_eth _ _ _).trans he⟩

theorem switch_idle {s : State} {port : Nat} {f : EthFrame}
    (h : s.ethUp = false ∨ s.portUp port = false) :
    exec (.switchFrameReceived port f) s = .next s ∧
    exec (.switchEgressTransmit port) s = .next s := by
  constructor <;> refine congrArg Host.Outcome.next (if_pos ?_) <;>
    rcases h with h | h <;> simp [h]

end Sys2Proof.Machine

namespace Sys2Proof.Machine

open Sys2Proof.Claims State

/-! ### Supervision frames (R337) -/

theorem bitNat_eq_toNat (b : Bool) : bitNat b = b.toNat := by cases b <;> rfl

/-- The entries that a supervision frame takes. -/
theorem State.prpSend_two {s : State} {p prio : Nat} {out : Nat → EthFrame}
    (hk : ∀ n, (out n).len ≤ 1522) (h0 : s.portUp (2 * p) = true)
    (h1 : s.portUp (2 * p + 1) = true) (hq : s.eth.queue = []) :
    ∃ m x a b, s.prpSend p prio false out = { s with
      mem := m, memx := x
      eth := { s.eth with
        prpSeq := vecUpd s.eth.prpSeq p (fun n => (n + 1) % 2 ^ 16)
        queue := [a, b] } } ∧
    MemSame s (s.prpSend p prio false out) 0x20180000 0x80000 ∧
    a.port = 2 * p ∧ a.frame = prpTag (s.eth.prpSeq.toList.getD p 0) (2 * p) (out (2 * p)) ∧
    b.port = 2 * p + 1 ∧
    b.frame = prpTag (s.eth.prpSeq.toList.getD p 0) (2 * p + 1) (out (2 * p + 1)) := by
  have hcells : ∀ q n, frameCells (prpTag q n (out n)) ≤ 128 := fun q n => by
    have h := hk n
    show ((out n).len + 6 + 255) / 256 ≤ 128
    omega
  unfold State.prpSend
  extract_lets q _ u
  have hu0 : u.portUp (2 * p) = true := h0
  have huq : u.eth.queue = [] := hq
  obtain ⟨⟨m, x, e⟩, hsame⟩ := enqueue_queued (inPort := 4) (prio := prio)
    (f := prpTag q (2 * p) (out (2 * p))) (port := 2 * p)
    (cellsFree_of_none (s := u) (by rw [huq]; nofun) (hcells _ _))
  rw [List.foldl_cons, List.foldl_cons, List.foldl_nil, if_pos hu0]
  generalize ha : u.entry 4 prio (prpTag q (2 * p) (out (2 * p))) (2 * p) = a at e
  have hap : a.port = 2 * p := by rw [← ha]; rfl
  have haf : a.frame = prpTag q (2 * p) (out (2 * p)) := by rw [← ha]; rfl
  rw [huq] at e
  generalize u.enqueue 4 prio false (prpTag q (2 * p) (out (2 * p))) (2 * p) = v at e hsame ⊢
  have hv1 : v.portUp (2 * p + 1) = true := by rw [e]; exact h1
  have hvq : v.eth.queue = [a] := by rw [e]; rfl
  obtain ⟨⟨m', x', e'⟩, hsame'⟩ := enqueue_queued (inPort := 4) (prio := prio)
    (f := prpTag q (2 * p + 1) (out (2 * p + 1))) (port := 2 * p + 1)
    (cellsFree_of_none (s := v) (by
      rw [hvq]
      intro y hy
      rw [List.mem_singleton.1 hy, hap]
      omega) (hcells _ _))
  rw [if_pos hv1]
  refine ⟨m', x', a, v.entry 4 prio (prpTag q (2 * p + 1) (out (2 * p + 1))) (2 * p + 1), ?_,
    memSame_trans (s := s) hsame hsame', hap, haf, rfl, rfl⟩
  rw [e', hvq, e]
  rfl

theorem prpSupervisionTick_sent {s : State} {p : Bool} (hup : s.ethUp = true)
    (hprp : bitOf (s.fget ETH_PORTCFG_PRP) p.toNat = true)
    (h0 : s.portUp (2 * p.toNat) = true) (h1 : s.portUp (2 * p.toNat + 1) = true)
    (hq : s.eth.queue = []) :
    Yields (exec (.prpSupervisionTick p) s) (fun t =>
      Regs s t [] ∧ t.flash = s.flash ∧ (∀ l, t.lane l = s.lane l) ∧ t.pending = s.pending ∧
      MemSame s t 0x20180000 0x80000 ∧
      t.eth.queue.map (fun e => (e.port, e.frame.rct)) =
        [(2 * p.toNat, some (BitVec.ofNat 16 (s.eth.prpSeq.toList.getD p.toNat 0), 0xA)),
          (2 * p.toNat + 1,
            some (BitVec.ofNat 16 (s.eth.prpSeq.toList.getD p.toNat 0), 0xB))] ∧
      t.eth.supv.toList.getD p.toNat 0 = s.eth.supv.toList.getD p.toNat 0 + 1 ∧
      t.eth.prpSeq.toList.getD p.toNat 0
        = (s.eth.prpSeq.toList.getD p.toNat 0 + 1) % 2 ^ 16) := by
  have hp2 : p.toNat < 2 := Bool.toNat_lt p
  obtain ⟨m, x, a, b, e, hsame, hap, haf, hbp, hbf⟩ := prpSend_two (p := p.toNat)
    (prio := s.fget (ETH_PORT_n_CFG_PCP 4) / 2) (out := fun _ => s.supvFrame)
    (fun _ => show 64 ≤ 1522 by decide) h0 h1 hq
  have hexec : exec (.prpSupervisionTick p) s = .next { s.prpSend p.toNat
      (s.fget (ETH_PORT_n_CFG_PCP 4) / 2) false (fun _ => s.supvFrame) with
      eth := { (s.prpSend p.toNat (s.fget (ETH_PORT_n_CFG_PCP 4) / 2) false
        (fun _ => s.supvFrame)).eth with
        supv := vecUpd (s.prpSend p.toNat (s.fget (ETH_PORT_n_CFG_PCP 4) / 2) false
          (fun _ => s.supvFrame)).eth.supv p.toNat (fun n => n + 1) } } := by
    change execPrpSupervisionTick p s = _
    simp only [execPrpSupervisionTick, bitNat_eq_toNat, hup, hprp, Bool.and_self, if_true]
  generalize s.prpSend p.toNat (s.fget (ETH_PORT_n_CFG_PCP 4) / 2) false
    (fun _ => s.supvFrame) = t at e hsame hexec
  subst e
  have hodd : ¬ (2 * p.toNat + 1) % 2 = 0 := by omega
  have heven : 2 * p.toNat % 2 = 0 := by omega
  refine .of_eq hexec ⟨.of_regs rfl, rfl, fun l => by cases l <;> rfl, rfl, hsame, ?_, ?_, ?_⟩
  · simp only [List.map_cons, List.map_nil, hap, haf, hbp, hbf, prpTag, hodd, heven, if_true,
      if_false]
  · rw [getD_vecUpd _ _ _ _ _ hp2, if_pos rfl]
  · rw [getD_vecUpd _ _ _ _ _ hp2, if_pos rfl]

theorem prpEntryExpiry_forgets (s : State) (p : Bool) (src : BitVec 48) (q : BitVec 16) :
    Yields (exec (.prpEntryExpiry p src q) s) (fun t =>
      Regs s t [] ∧ Quiet s t ∧
      t.eth.dup.toList.getD p.toNat []
        = (s.eth.dup.toList.getD p.toNat []).erase (src.toNat, q.toNat) ∧
      t.eth.dup.toList.getD (1 - p.toNat) [] = s.eth.dup.toList.getD (1 - p.toNat) []) := by
  have hp2 : p.toNat < 2 := Bool.toNat_lt p
  refine ⟨_, rfl, .of_regs rfl, ⟨rfl, rfl, fun l => by cases l <;> rfl, rfl⟩, ?_, ?_⟩
  · show (vecUpd s.eth.dup (bitNat p) _).toList.getD _ _ = _
    rw [getD_vecUpd _ _ _ _ _ hp2, if_pos (bitNat_eq_toNat p).symm]
  · show (vecUpd s.eth.dup (bitNat p) _).toList.getD _ _ = _
    rw [getD_vecUpd _ _ _ _ _ (by omega), if_neg (by rw [bitNat_eq_toNat]; omega)]

theorem macEntryAgeing_forgets (s : State) (mac : BitVec 48) (vid : BitVec 12) :
    Yields (exec (.macEntryAgeing mac vid) s) (fun t =>
      Regs s t [] ∧ Quiet s t ∧
      t.eth = { s.eth with
        learned := s.eth.learned.filter (fun e => e.1 ≠ mac.toNat || e.2.1 ≠ vid.toNat) }) := by
  have hf : s.eth.learned.filter (fun e => ¬(e.1 = mac.toNat ∧ e.2.1 = vid.toNat))
      = s.eth.learned.filter (fun e => e.1 ≠ mac.toNat || e.2.1 ≠ vid.toNat) :=
    List.filter_congr fun e _ => by simp [imp_iff_not_or]
  refine ⟨_, rfl, .of_regs rfl, ⟨rfl, rfl, fun l => by cases l <;> rfl, rfl⟩, ?_⟩
  rw [← hf]

/-! ### The management interface of the PHYs (R336) -/

theorem bitsOf_toNat {w : Nat} (v : BitVec w) (lo n : Nat) :
    bitsOf v.toNat lo n = (v.extractLsb' lo n).toNat := by
  rw [BitVec.extractLsb'_toNat, Nat.shiftRight_eq_div_pow]
  rfl

theorem mdioAccess_starts {s : State} (v : BitVec 32) (hup : s.unitDown 0x20 = false)
    (hgo : s.fget ETH_MDIO_GO = 0) :
    Yields (exec (.mdioAccess v) s) (fun t =>
      Regs s t [(ETH_MDIO_GO, (v.extractLsb' 31 1).toNat),
        (ETH_MDIO_READ, (v.extractLsb' 30 1).toNat), (ETH_MDIO_PHYAD, (v.extractLsb' 21 5).toNat),
        (ETH_MDIO_REGAD, (v.extractLsb' 16 5).toNat),
        (ETH_MDIO_DATA, (v.extractLsb' 0 16).toNat)] ∧ Quiet s t ∧ t.resp = .okay) := by
  have hflag : s.flag ETH_MDIO_GO = false := by simp [State.flag, hgo]
  have hexec : exec (.mdioAccess v) s = .next ((s.mdioWrite v.toNat).answer .okay) :=
    congrArg Host.Outcome.next (if_neg (by simp [hup]))
  have hw : s.mdioWrite v.toNat = ((((s.fset ETH_MDIO_READ (v.extractLsb' 30 1).toNat).fset
      ETH_MDIO_PHYAD (v.extractLsb' 21 5).toNat).fset ETH_MDIO_REGAD
      (v.extractLsb' 16 5).toNat).fset ETH_MDIO_DATA (v.extractLsb' 0 16).toNat).fset ETH_MDIO_GO
      (v.extractLsb' 31 1).toNat := by
    rw [State.mdioWrite, hflag, if_neg Bool.false_ne_true]
    simp only [bitsOf_toNat]
  rw [hw] at hexec
  refine .of_eq hexec ⟨regs_answer ((((((((Regs.refl s).fset (by decide)
    (BitVec.isLt _) nofun).fset (by decide) (BitVec.isLt _) (by simp [Fld.apart])).fset (by decide)
    (BitVec.isLt _) (by simp [Fld.apart])).fset (by decide) (BitVec.isLt _)
    (by simp [Fld.apart])).fset (by decide) (BitVec.isLt _)
    (by simp [Fld.apart]))).of_mem_iff fun p => ?_),
    quiet_answer (.fset (.fset (.fset (.fset (.fset (.refl s)))))), rfl⟩
  simp only [List.nil_append, List.cons_append, List.mem_cons, List.not_mem_nil, or_false]
  tauto

theorem mdioAccess_busy {s : State} (v : BitVec 32) (hup : s.unitDown 0x20 = false)
    (hgo : s.fget ETH_MDIO_GO = 1) :
    Yields (exec (.mdioAccess v) s) (fun t => Regs s t [] ∧ Quiet s t ∧ t.resp = .okay) := by
  have hflag : s.flag ETH_MDIO_GO = true := by simp [State.flag, hgo]
  have hexec : exec (.mdioAccess v) s = .next ((s.mdioWrite v.toNat).answer .okay) :=
    congrArg Host.Outcome.next (if_neg (by simp [hup]))
  rw [State.mdioWrite, hflag, if_pos rfl] at hexec
  exact .of_eq hexec ⟨.of_regs rfl, quiet_answer (.refl s), rfl⟩

theorem mdioAccessDone_ends {s : State} (d : BitVec 16) (hgo : s.fget ETH_MDIO_GO = 1) :
    Yields (exec (.mdioAccessDone d) s) (fun t =>
      Regs s t [(ETH_MDIO_GO, 0), (ETH_EVT_MDIO_DONE, 1),
        (ETH_MDIO_DATA, if s.fget ETH_MDIO_READ = 1 then d.toNat else s.fget ETH_MDIO_DATA)] ∧
      Quiet s t) := by
  have hexec : exec (.mdioAccessDone d) s = .next
      (((s.when (s.flag ETH_MDIO_READ) (fun x => x.fset ETH_MDIO_DATA d.toNat)).lower
        ETH_MDIO_GO).raise ETH_EVT_MDIO_DONE) :=
    congrArg Host.Outcome.next (if_neg (by simp [State.flag, hgo]))
  have hr : Regs s (s.when (s.flag ETH_MDIO_READ) (fun x => x.fset ETH_MDIO_DATA d.toNat))
      [(ETH_MDIO_DATA, if s.fget ETH_MDIO_READ = 1 then d.toNat else s.fget ETH_MDIO_DATA)] := by
    by_cases h : s.fget ETH_MDIO_READ = 1
    · rw [State.flag, h, if_pos rfl]
      exact (Regs.refl s).fset (by decide) d.isLt nofun
    · rw [State.flag, decide_eq_false h, when_false, if_neg h]
      refine ⟨fun p hp => ?_, fun f _ => rfl⟩
      obtain rfl := List.mem_singleton.1 hp
      rfl
  refine .of_eq hexec ⟨((hr.fset (f := ETH_MDIO_GO) (v := 0) (by decide) (by decide)
    (by simp [Fld.apart])).fset (f := ETH_EVT_MDIO_DONE) (v := 1) (by decide) (by decide)
    (by simp [Fld.apart])).of_mem_iff fun p => ?_,
    .fset (.fset (quiet_when (fun _ hx => .fset hx) (.refl s)))⟩
  simp only [List.nil_append, List.cons_append, List.mem_cons, List.not_mem_nil, or_false]
  tauto

end Sys2Proof.Machine

namespace Sys2Proof.Machine

open Sys2Proof.Claims State

/-! ### A part of a field -/

theorem testBit_bitsOf (v lo w i : Nat) :
    (bitsOf v lo w).testBit i = (decide (i < w) && v.testBit (lo + i)) := by
  rw [bitsOf, Nat.testBit_mod_two_pow, Nat.testBit_div_two_pow, Nat.add_comm]

theorem testBit_setBits (v lo w x i : Nat) : (setBits v lo w x).testBit i =
    if lo ≤ i ∧ i < lo + w then x.testBit (i - lo) else v.testBit i := by
  rcases Nat.lt_or_ge i lo with h | h
  · have hm := congrArg (fun y => Nat.testBit y i) (setBits_mod_lo v lo w x)
    simp only [Nat.testBit_mod_two_pow, h, decide_true, Bool.true_and] at hm
    rw [if_neg (by omega), hm]
  · obtain ⟨j, rfl⟩ := Nat.exists_eq_add_of_le h
    rcases Nat.lt_or_ge j w with hj | hj
    · have hb := congrArg (fun y => Nat.testBit y j) (bitsOf_setBits_self v lo w x)
      simp only [testBit_bitsOf, Nat.testBit_mod_two_pow, hj, decide_true, Bool.true_and] at hb
      rw [if_pos (by omega), hb, Nat.add_sub_cancel_left]
    · obtain ⟨k, rfl⟩ := Nat.exists_eq_add_of_le hj
      have hd := congrArg (fun y => Nat.testBit y k) (setBits_div_hi v lo w x)
      simp only [Nat.testBit_div_two_pow] at hd
      rw [if_neg (by omega), ← Nat.add_assoc, Nat.add_comm (lo + w) k, hd]

theorem setBits_setBits_bitsOf {v lo w l n x : Nat} (h : l + n ≤ w) :
    setBits v lo w (setBits (bitsOf v lo w) l n x) = setBits v (lo + l) n x := by
  refine Nat.eq_of_testBit_eq fun i => ?_
  simp only [testBit_setBits, testBit_bitsOf]
  by_cases hi : lo ≤ i ∧ i < lo + w
  · obtain ⟨j, rfl⟩ := Nat.exists_eq_add_of_le hi.1
    rw [if_pos hi, Nat.add_sub_cancel_left]
    by_cases hj : l ≤ j ∧ j < l + n
    · rw [if_pos hj, if_pos (by omega), Nat.add_sub_add_left]
    · rw [if_neg hj, if_neg (by omega), decide_eq_true (by omega), Bool.true_and]
  · rw [if_neg hi, if_neg (by omega)]

/-- A field written with a part of it replaced is that part written. -/
theorem State.fset_part (s : State) {f : Fld} {l n : Nat} (v : Nat) (h : l + n ≤ f.width) :
    s.fset f (setBits (s.fget f) l n v) = s.fset ⟨f.addr, f.lo + l, n⟩ v := by
  have e : s.regs.fset f (setBits (s.regs.fget f) l n v)
      = s.regs.fset ⟨f.addr, f.lo + l, n⟩ v := by
    unfold RegMap.fset RegMap.fget
    rw [setBits_setBits_bitsOf h]
  exact congrArg (fun r => ({ s with regs := r } : State)) e

/-! ### The links (R332) -/

/-- The bit of a port in LINK, and its part of SPEED. -/
abbrev linkF (port : Nat) : Fld := ⟨0x40060000, 16 + port, 1⟩
abbrev speedF (port : Nat) : Fld := ⟨0x40060000, 8 + 2 * port, 2⟩

/-- The registers once a port's link and speed are shown. -/
def State.linkShown (s : State) (port : Nat) (on : Bool) (speed : Nat) : State :=
  (s.fset (linkF port) (bitNat on)).fset (speedF port) speed

theorem regs_linkShown (s : State) {port : Nat} (hp : port < 4) (on : Bool) {speed : Nat}
    (hs : speed < 4) :
    Regs s (s.linkShown port on speed) [(linkF port, bitNat on), (speedF port, speed)] := by
  refine ((Regs.refl s).fset (f := linkF port) (by show 16 + port + 1 ≤ 32; omega)
    (bitNat_lt_two on) nofun).fset (f := speedF port) (by show 8 + 2 * port + 2 ≤ 32; omega) hs
    fun p hp' => ?_
  obtain rfl := List.mem_singleton.1 hp'
  exact Fld.apart_of_above (by show 8 + 2 * port + 2 ≤ 16 + port; omega)

/-- Does a link carry traffic? -/
def State.linkOn (s : State) (port : Nat) (up : Bool) (speed : BitVec 2) (full : Bool) : Bool :=
  up && full && (speed = 1 || speed = 2) && s.phys.serrefOk && bitOf (s.fget ETH_PORTCFG_EN) port

theorem execEthLinkChange_eq {s : State} {port : Nat} {up full : Bool} {speed : BitVec 2}
    (hp : port < 4) (hup : s.unitDown 0x20 = false) :
    ∃ chg : Bool, exec (.ethLinkChange port up speed full) s = .next
      ((s.linkShown port (s.linkOn port up speed full)
        (if s.linkOn port up speed full then speed.toNat else 0)).when chg
        (fun x => x.raise ETH_EVT_LINK_CHG)) ∧
      (setBit (s.fget ETH_STAT_LINK) port (s.linkOn port up speed full) ≠ s.fget ETH_STAT_LINK →
        chg = true) := by
  generalize hon : s.linkOn port up speed full = on
  generalize hv : (if on then speed.toNat else 0) = v
  have h1 : s.fset ETH_STAT_LINK (setBit (s.fget ETH_STAT_LINK) port on)
      = s.fset (linkF port) (bitNat on) :=
    s.fset_part (f := ETH_STAT_LINK) _ (show port + 1 ≤ 4 by omega)
  have h2 : (s.fset (linkF port) (bitNat on)).fget ETH_STAT_SPEED = s.fget ETH_STAT_SPEED :=
    fget_fset_apart _ _ _ _ (by show 16 + port + 1 ≤ 32; omega)
      (Fld.apart_of_below (by show 8 + 8 ≤ 16 + port; omega))
  have h3 := (s.fset (linkF port) (bitNat on)).fset_part (f := ETH_STAT_SPEED) (l := 2 * port)
    (n := 2) v (show 2 * port + 2 ≤ 8 by omega)
  rw [h2] at h3
  refine ⟨setBit (s.fget ETH_STAT_LINK) port on ≠ s.fget ETH_STAT_LINK ||
    setBits (s.fget ETH_STAT_SPEED) (2 * port) 2 v ≠ s.fget ETH_STAT_SPEED, ?_, fun h => ?_⟩
  · change execEthLinkChange port up speed full s = _
    unfold execEthLinkChange
    extract_lets on' link sp chg
    have hon' : on' = on := hon
    have hsp : sp = setBits (s.fget ETH_STAT_SPEED) (2 * port) 2 v := by
      show setBits _ _ _ (if on' then speed.toNat else 0) = _
      rw [hon', hv]
    have hlink : link = setBit (s.fget ETH_STAT_LINK) port on := congrArg (setBit _ port) hon'
    rw [if_pos (by simp [hp, hup])]
    show Host.Outcome.next (((s.fset ETH_STAT_LINK link).fset ETH_STAT_SPEED sp).when
      (link ≠ s.fget ETH_STAT_LINK || sp ≠ s.fget ETH_STAT_SPEED) _) = _
    rw [hlink, hsp, h1, h3]
    rfl
  · simp [h]

theorem setBit_true_ne {v n : Nat} (h : bitOf v n = false) : setBit v n true ≠ v := by
  intro e
  have hb : (setBit v n true).testBit n = true := by
    rw [setBit, testBit_setBits, if_pos (by omega), Nat.sub_self]
    rfl
  rw [e, Nat.testBit_eq_decide_div_mod_eq] at hb
  exact Bool.false_ne_true (h.symm.trans hb)

/-- A link that comes up shows its speed and sets its event. -/
theorem ethLinkChange_up {s : State} {port : Fin 4} {sp : BitVec 2}
    (hup : s.unitDown 0x20 = false) (hsp : sp = 1 ∨ sp = 2) (href : s.phys.serrefOk = true)
    (hen : bitOf (s.fget ETH_PORTCFG_EN) port = true)
    (hlink : bitOf (s.fget ETH_STAT_LINK) port = false) :
    Yields (exec (.ethLinkChange port true sp true) s) (fun t =>
      Regs s t [(⟨0x40060000, 16 + port, 1⟩, 1), (⟨0x40060000, 8 + 2 * port, 2⟩, sp.toNat),
        (ETH_EVT_LINK_CHG, 1)] ∧ Quiet s t) := by
  have hon : s.linkOn port true sp true = true := by
    rcases hsp with rfl | rfl <;> simp [State.linkOn, href, hen]
  obtain ⟨chg, e, hchg⟩ := execEthLinkChange_eq (up := true) (full := true) (speed := sp)
    port.isLt hup
  rw [hon] at e hchg
  rw [hchg (setBit_true_ne hlink), if_pos rfl] at e
  refine .of_eq e ⟨(regs_linkShown s port.isLt true sp.isLt).fset (f := ETH_EVT_LINK_CHG) (v := 1)
    (by decide) (by decide) fun p hp => Fld.apart_of_addr ?_, .fset (.fset (.fset (.refl s)))⟩
  simp only [List.mem_cons, List.not_mem_nil, or_false] at hp
  rcases hp with rfl | rfl <;> show 0x40060004 ≠ 0x40060000 <;> decide

/-- A link that is down, in half duplex or at no listed speed shows neither. -/
theorem ethLinkChange_down {s : State} {port : Fin 4} {up full : Bool} {sp : BitVec 2}
    (hup : s.unitDown 0x20 = false) (h : (up && full) = false ∨ sp = 0 ∨ sp = 3) :
    Yields (exec (.ethLinkChange port up sp full) s) (fun t =>
      t.fget ⟨0x40060000, 16 + port, 1⟩ = 0 ∧ t.fget ⟨0x40060000, 8 + 2 * port, 2⟩ = 0 ∧
      RegsOutside s t 0x40060000 0x40060008 ∧ Quiet s t) := by
  have hon : s.linkOn port up sp full = false := by
    rcases h with h | rfl | rfl <;> simp [State.linkOn, *]
  obtain ⟨chg, e, -⟩ := execEthLinkChange_eq (up := up) (full := full) (speed := sp) port.isLt hup
  rw [hon, if_neg Bool.false_ne_true] at e
  have hr := regs_linkShown s port.isLt false (speed := 0) (by decide)
  have hraise : ∀ (x : State) (f : Fld), f.addr ≠ 0x40060004 →
      (x.when chg (fun x => x.raise ETH_EVT_LINK_CHG)).fget f = x.fget f := fun x f hf => by
    cases chg
    · rfl
    · exact fget_fset_apart _ _ _ _ (by decide) (Fld.apart_of_addr hf.symm)
  refine .of_eq e ⟨?_, ?_, fun f hf => ?_,
    quiet_when (fun _ hx => .fset hx) (.fset (.fset (.refl s)))⟩
  · exact (hraise _ _ (show 0x40060000 ≠ 0x40060004 by decide)).trans
      (hr.1 (linkF port, bitNat false) (by simp))
  · exact (hraise _ _ (show 0x40060000 ≠ 0x40060004 by decide)).trans
      (hr.1 (speedF port, 0) (by simp))
  · refine (hraise _ _ (by omega)).trans (hr.2 f fun p hp => Fld.apart_of_addr ?_)
    simp only [List.mem_cons, List.not_mem_nil, or_false] at hp
    rcases hp with rfl | rfl <;> show 0x40060000 ≠ f.addr <;> omega

/-- Settles O41: by what the switch does with a frame, an entry, an access and a link. -/
theorem ethernetSwitch : Obligations.EthernetSwitch := by
  intro s
  refine ⟨fun port v mem f hup hp hport hlen hfcs hpause hprp hvid hfrag hv hvlan hmem hown hne hgd
      hgs hst hl hq => .of_eq (execSwitchFrameReceived_plain hup hp hlen hfcs hpause hprp)
      (switchFrame_queued hport hlen hvid hfrag hv hvlan hmem hown hne hgd hgs hst hl hq),
    fun port f hup hp hlen hfcs hpause hprp =>
      execSwitchFrameReceived_plain hup hp hlen hfcs hpause hprp,
    fun port f hup hp hlen hfcs hpause hprp =>
      execSwitchFrameReceived_prp hup hp hlen hfcs hpause hprp,
    fun port f hup hp hlen => .of_eq (execSwitchFrameReceived_drop hup hp (.inl ⟨?_, rfl⟩))
      ⟨regs_ethDrop_oversize s port, ethDrop_quiet s port _⟩,
    fun port f hup hp hlen hfcs => .of_eq
      (execSwitchFrameReceived_drop hup hp (.inr ⟨frameLenOk_of hlen, hfcs, rfl⟩))
      ⟨regs_ethDrop s port, ethDrop_quiet s port _⟩,
    fun port f h => switch_idle h,
    fun port e bs hup hp he hr => switchEgressTransmit_good hup hp he hr,
    fun port e hup hp he hd => switchEgressTransmit_bad hup hp he hd,
    fun port h => execSwitchEgressTransmit_none h,
    fun mac vid => macEntryAgeing_forgets s mac vid,
    fun v hup hgo => mdioAccess_starts v hup hgo, fun v hup hgo => mdioAccess_busy v hup hgo,
    fun v hdown => congrArg Host.Outcome.next (if_pos hdown),
    fun d hgo => congrArg Host.Outcome.next (if_pos (by simp [State.flag, hgo])),
    fun d hgo => mdioAccessDone_ends d hgo,
    fun p hup hprp h0 h1 hq => prpSupervisionTick_sent hup hprp h0 h1 hq,
    fun p src q => prpEntryExpiry_forgets s p src q,
    fun port sp hup hsp href hen hlink => ethLinkChange_up hup hsp href hen hlink,
    fun port up full sp hup h => ethLinkChange_down hup h⟩
  simp only [frameLenOk, Bool.and_eq_false_iff, decide_eq_false_iff_not]
  omega

end Sys2Proof.Machine

namespace Sys2Proof.Machine

open Sys2Proof.Claims State

/-! ### A flash with one confirmed image -/

/-- Bytes of the flash from an address on. -/
def cellsAt (a : Nat) (bs : List Byte) : List Host.Cell := (bs.zipIdx a).map (fun p => (p.2, p.1))

/-- A directory (R155): slots of 64 KB at 0x10000 and 0x20000, the areas after them, its CRC. -/
def sampleDir : List Byte :=
  [0x4439545A, 1, 0x10000, 0x20000, 0x10000, 0x30000, 0x40000, 0x80000, 0x10000].flatMap (leBytes 4)
    ++ List.replicate 24 0 ++ leBytes 4 219429896

/-- The section table of an image of three empty sections: code, constants, program table. -/
def sampleSections : List Byte :=
  [1, 2, 3].flatMap (fun t => leBytes 4 t ++ leBytes 4 0x1000 ++ List.replicate 16 0)

/-- The header of that image: generation 1, its CRCs, and the section table behind it. -/
def sampleHeader : List Byte :=
  [0x4339545A, 0x01020001, 1, 0x1000, 3, 0, 0, 0, 2182592931].flatMap (leBytes 4)
    ++ List.replicate 24 0 ++ leBytes 4 2159169012 ++ sampleSections

/-- The directory, the image in slot A with its word of confirmation, and no image in slot B. -/
def sampleFlash : List Host.Cell :=
  cellsAt 0 sampleDir ++ cellsAt 0x10000 sampleHeader ++ cellsAt 0x10F08 (leBytes 4 0)
    ++ cellsAt 0x20000 [0]

/-- Phase S3 with that flash and no candidate, while BOOT_SLOT shows a failed section in slot A. -/
def staleSlot : State :=
  { State.reset with
    flash := sampleFlash
    regs := [(0x40030000, 0x20000000), (0x40030004, 0x00000008)] }

theorem drop_mapBytes (d : Nat → Byte) (m : List Host.Cell) (k n o : Nat) :
    (mapBytes d m k n).drop o = mapBytes d m (k + o) (n - o) := by
  induction o generalizing k n with
  | zero => rfl
  | succ o ih =>
    cases n with
    | zero => rw [Nat.zero_sub]; exact List.drop_nil
    | succ n =>
      rw [mapBytes, List.drop_succ_cons, ih, Nat.succ_sub_succ, Nat.add_assoc, Nat.add_comm 1 o]

/-- A state word of a slot's header page, read where it stands in the flash. -/
theorem State.wordSet_page_eq (s : State) (b : Bool) (o : Nat) : wordSet (s.page b) o =
    decide (ofLe ((mapBytes flashDflt s.flash (s.slotBase b + o) (4096 - o)).take 4)
      ≠ 0xFFFFFFFF) := by
  rw [← drop_mapBytes]
  rfl

theorem staleSlot_dir : staleSlot.dir.isSome = true := by decide +kernel

theorem staleSlot_valid : staleSlot.slotValid false = true := by
  simp only [State.slotValid, slotCode, State.wordSet_page_eq]
  decide +kernel

theorem staleSlot_other : staleSlot.slotValid true = false := by decide +kernel

theorem staleSlot_confirmed : wordSet (staleSlot.page false) 0xF08 = true := by
  rw [State.wordSet_page_eq]
  decide +kernel

end Sys2Proof.Machine

namespace Sys2Proof.Machine

open Sys2Proof.Claims State

/-! ### What slot selection leaves of a slot's state -/

theorem State.fset_bootStat_slotA (s : State) {f : Fld} (v : Nat) (hf : f.lo + f.width ≤ 32)
    (ha : f.addr = 0x40030000) :
    (s.fset f v).fget BOOT_SLOT_A_STATE = s.fget BOOT_SLOT_A_STATE :=
  fget_fset_apart _ _ _ _ hf (Fld.apart_of_addr (by rw [ha]; decide))

theorem State.when_slotA (s : State) (b : Bool) {f : State → State}
    (h : ∀ x : State, (f x).fget BOOT_SLOT_A_STATE = x.fget BOOT_SLOT_A_STATE) :
    (s.when b f).fget BOOT_SLOT_A_STATE = s.fget BOOT_SLOT_A_STATE := by
  cases b
  · rfl
  · exact h s

theorem State.pendWearFlash_slotA (s : State) (e : WearE) :
    (s.pendWearFlash e).fget BOOT_SLOT_A_STATE = s.fget BOOT_SLOT_A_STATE := by
  unfold State.pendWearFlash
  extract_lets _ s1
  have h1 : s1.fget BOOT_SLOT_A_STATE = s.fget BOOT_SLOT_A_STATE :=
    fset_bootStat_slotA (f := BOOT_STAT_WEAR_FLASH_PENDING) _ 1 (by decide) rfl
  split
  · exact (fget_congr rfl _).trans h1
  · exact h1

theorem State.retryWear_slotA (s : State) :
    s.retryWear.fget BOOT_SLOT_A_STATE = s.fget BOOT_SLOT_A_STATE := by
  unfold State.retryWear
  split <;> rfl

theorem State.wearResync_slotA (s : State) :
    s.wearResync.fget BOOT_SLOT_A_STATE = s.fget BOOT_SLOT_A_STATE := by
  unfold State.wearResync
  extract_lets s1 fl lack s2
  rw [retryWear_slotA]
  exact List.foldlRecOn
    (motive := fun x : State => x.fget BOOT_SLOT_A_STATE = s.fget BOOT_SLOT_A_STATE) lack _ rfl
    fun x hx e _ => (x.pendWearFlash_slotA e).trans hx

theorem State.noImage_slotA (s : State) :
    s.noImage.fget BOOT_SLOT_A_STATE = s.fget BOOT_SLOT_A_STATE :=
  (fset_bootStat_slotA _ 8 (by decide) rfl).trans (fset_bootStat_slotA _ 1 (by decide) rfl)

theorem State.programWord_slotA (s : State) (b : Bool) (o : Nat) (ok : Bool) :
    (s.programWord b o ok).fget BOOT_SLOT_A_STATE = s.fget BOOT_SLOT_A_STATE := by
  unfold State.programWord
  split
  · rfl
  · exact fset_bootStat_slotA _ 1 (by decide) rfl

theorem State.takeSlot_slotA (s : State) (b ok : Bool) :
    (s.takeSlot b ok).fget BOOT_SLOT_A_STATE = s.fget BOOT_SLOT_A_STATE := by
  unfold State.takeSlot
  extract_lets page s1
  have h1 : s1.fget BOOT_SLOT_A_STATE = s.fget BOOT_SLOT_A_STATE := by
    unfold s1
    split
    · rfl
    · split <;> exact programWord_slotA _ _ _ _
  exact (fset_bootStat_slotA _ 3 (by decide) rfl).trans
    ((fset_bootStat_slotA _ _ (by decide) rfl).trans h1)

theorem State.rejectSlot_slotA (s : State) (b ok : Bool) :
    (s.rejectSlot b ok).fget BOOT_SLOT_A_STATE = s.fget BOOT_SLOT_A_STATE :=
  (fset_bootStat_slotA _ 1 (by decide) rfl).trans (programWord_slotA _ _ _ _)

/-- Selection itself writes BOOT_STAT and the trial words, never BOOT_SLOT (R159). -/
theorem State.selectLoop_slotA (ok : Bool) (n : Nat) (s : State) (cand : List Bool) :
    (s.selectLoop ok n cand).fget BOOT_SLOT_A_STATE = s.fget BOOT_SLOT_A_STATE := by
  induction n generalizing s cand with
  | zero => exact noImage_slotA s
  | succ n ih =>
    unfold State.selectLoop
    extract_lets gen pick s1
    have h1 : s1.fget BOOT_SLOT_A_STATE = s.fget BOOT_SLOT_A_STATE :=
      when_slotA _ _ fun x => fset_bootStat_slotA (f := BOOT_STAT_GEN_TIE) x 1 (by decide) rfl
    clear_value pick
    cases pick with
    | none => exact noImage_slotA s
    | some b =>
      dsimp only
      split
      · exact (ih _ _).trans ((rejectSlot_slotA _ _ _).trans h1)
      · exact (takeSlot_slotA _ _ _).trans h1

/-- A slot whose section has failed keeps the code of that when the slots are shown. -/
theorem State.showSlots_failed {s : State} (l : List Bool) (h : s.fget BOOT_SLOT_A_STATE = 8) :
    (s.showSlots l).fget BOOT_SLOT_A_STATE = 8 := by
  refine List.foldlRecOn (motive := fun x : State => x.fget BOOT_SLOT_A_STATE = 8) l _ h ?_
  intro x hx b _
  cases b
  · exact (congrArg (State.fget · BOOT_SLOT_A_STATE) (if_pos hx)).trans hx
  · show (if x.fget BOOT_SLOT_B_STATE = 8 then x else x.showSlot true).fget
      BOOT_SLOT_A_STATE = 8
    split
    · exact hx
    · unfold State.showSlot
      extract_lets page code gen
      rw [if_pos rfl, fget_fset_apart _ _ _ _ (by decide) (by decide), show_eq,
        fget_fset_apart _ _ _ _ (by decide) (by decide),
        fget_fset_apart _ _ _ _ (by decide) (by decide), hx]

theorem State.selectSlot_failed {s : State} (ok : Bool) (h : s.fget BOOT_SLOT_A_STATE = 8) :
    (s.selectSlot ok).fget BOOT_SLOT_A_STATE = 8 := by
  unfold State.selectSlot
  split
  · exact (noImage_slotA s).trans h
  · extract_lets s1 s2 among s3
    refine showSlots_failed among ?_
    rw [selectLoop_slotA, wearResync_slotA]
    exact (fset_bootStat_slotA _ _ (by decide) rfl).trans h

/-- Refutes O31: its first clause has S3 show slot A as confirmed (state 0) whatever BOOT_SLOT shows
before. The model keeps the code 8 of a section that has failed in this start, and no hypothesis of
the clause excludes that code beside an empty list of candidates: below, slot A of the flash is the
only valid one and is confirmed, S3 takes it, and BOOT_SLOT shows 8 still (R159, R160). -/
theorem not_startUpPhases : ¬ Obligations.StartUpPhases := by
  intro h
  obtain ⟨hselect, -⟩ := h staleSlot
  have hphase : staleSlot.fget BOOT_STAT_PHASE = 2 := by decide +kernel
  have hfailed : staleSlot.flashAnswered.fget BOOT_SLOT_A_STATE = 8 := by decide +kernel
  obtain ⟨t, ht, -, -, hstate, -⟩ := hselect true hphase staleSlot_dir staleSlot_valid
    staleSlot_other staleSlot_confirmed rfl
  have hrun : exec (.slotSelection true) staleSlot
      = .next (staleSlot.flashAnswered.selectSlot true) :=
    congrArg Host.Outcome.next (if_pos hphase)
  obtain rfl := Host.Outcome.next.inj (hrun.symm.trans ht)
  have hkeep := State.selectSlot_failed true hfailed
  rw [hstate] at hkeep
  exact absurd hkeep (by decide)

end Sys2Proof.Machine

namespace Sys2Proof.Machine

open Sys2Proof.Claims State

/-! ### The register fields of a paddock -/

theorem paddock_index_injective : Function.Injective Paddock.index :=
  Function.LeftInverse.injective (g := Paddock.ofNat) fun p => by cases p <;> rfl

theorem paddock_index_lt (p : Paddock) : p.index < 12 := by cases p <;> decide

theorem pstat_fits (p : Paddock) : (pstat p).lo + (pstat p).width ≤ 32 := by
  have h := paddock_index_lt p
  simp only [pstat]
  omega

theorem preq_fits (p : Paddock) : (preq p).lo + (preq p).width ≤ 32 := by
  have h := paddock_index_lt p
  simp only [preq]
  omega

theorem pfault_fits (p : Paddock) : (pfault p).lo + (pfault p).width ≤ 32 := by
  have h := paddock_index_lt p
  simp only [pfault]
  omega

theorem pstat_apart {p q : Paddock} (h : p ≠ q) : (pstat p).apart (pstat q) = true := by
  rcases lt_or_gt_of_ne (paddock_index_injective.ne h) with hlt | hgt
  · exact Fld.apart_of_above (by simp only [pstat]; omega)
  · exact Fld.apart_of_below (by simp only [pstat]; omega)

theorem pstat_apart_preq (p q : Paddock) : (pstat p).apart (preq q) = true :=
  Fld.apart_of_addr (by simp [pstat, preq])

theorem pfault_apart_pstat (p q : Paddock) : (pfault p).apart (pstat q) = true :=
  Fld.apart_of_addr (by simp [pstat, pfault])

theorem pstat_apart_pfault (p q : Paddock) : (pstat p).apart (pfault q) = true :=
  Fld.apart_of_addr (by simp [pstat, pfault])

/-! ### A paddock gets power (R64, R73) -/

theorem gateF_eq (c : Nat) : gateF c = ⟨0x4000021C, (gateF c).lo, 1⟩ := by
  unfold gateF
  split_ifs <;> rfl

/-- The bits of CLK_GMAP of a paddock's islands and its paddock gate. -/
def gateBits (p : Paddock) : List Nat := (paddockGates p).map (fun c => (gateF c).lo)

theorem gateBits_lt (p : Paddock) : ∀ n ∈ gateBits p, n < 32 := by cases p <;> decide

theorem State.paddockOn_eq (s : State) (p : Paddock) :
    s.paddockOn p = (s.fset (pstat p) 2).raiseBits 0x4000021C (gateBits p) := by
  unfold State.paddockOn State.raiseBits gateBits
  rw [List.foldl_map]
  simp only [← gateF_eq]

theorem State.paddockOn_record (s : State) (p : Paddock) :
    ∃ r, s.paddockOn p = { s with regs := r } := by
  obtain ⟨r, hr⟩ := (s.fset (pstat p) 2).raiseBits_eq 0x4000021C (gateBits p)
  exact ⟨r, (s.paddockOn_eq p).trans hr⟩

theorem State.paddockOn_pstat (s : State) (p : Paddock) : (s.paddockOn p).fget (pstat p) = 2 := by
  rw [paddockOn_eq, raiseBits_fget_ne _ (by simp [pstat])]
  exact fget_fset_self s _ 2 (pstat_fits p)

theorem State.paddockOn_gate (s : State) {p : Paddock} {g : Nat} (hg : g ∈ paddockGates p) :
    (s.paddockOn p).fget (gateF g) = 1 := by
  rw [paddockOn_eq, gateF_eq]
  exact raiseBits_bit (gateBits_lt p) (.inl (List.mem_map_of_mem hg))

/-- The sequencer goes on to the next paddock of its list, whose switch it closes. -/
theorem State.rampNext_cons {s : State} {p q : Paddock} {ps : List Paddock}
    (h : s.pwr.ramp = p :: q :: ps) :
    s.rampNext = ({ s with pwr := { s.pwr with ramp := q :: ps } }).fset (pstat q) 1 := by
  simp [State.rampNext, State.rampHead, State.releaseAdvance, h]

/-- A compute paddock that the application switched on has power: its units reload (R73). -/
theorem State.appOn_compute {s : State} {p : Paddock} (hl : p ≠ .flogic) (hp : p ≠ .fpower)
    (hreq : s.fget (preq p) = 0) :
    s.appOn p = { s.paddockOn p with
      pwr := { (s.paddockOn p).pwr with reload := (s.paddockOn p).pwr.reload ++ [p] } } := by
  unfold State.appOn
  split
  · exact absurd rfl hl
  · exact absurd rfl hp
  · simp [State.flag, hreq]

theorem execPaddockPowerGood_ramp {s : State} {p : Paddock} {ps : List Paddock}
    (h : s.pwr.ramp = p :: ps) : exec .paddockPowerGood s = .next (s.paddockOn p).rampNext := by
  show execPaddockPowerGood s = _
  simp only [execPaddockPowerGood, h]

theorem execPaddockPowerGood_app {s : State} {p : Paddock} {ps : List Paddock}
    (hr : s.pwr.ramp = []) (ha : s.pwr.appRamp = p :: ps) :
    exec .paddockPowerGood s =
      .next ((({ s with pwr := { s.pwr with appRamp := ps } }).appOn p).localReleased
        .powerOn) := by
  show execPaddockPowerGood s = _
  simp only [execPaddockPowerGood, hr, ha]

/-- The paddocks that the sequencer or the application switches and whose units are on this die. -/
theorem compute_not_field {p : Paddock} (h : p.core ≠ none ∨ p = .net ∨ p = .bus ∨ p = .signal) :
    p ≠ .flogic ∧ p ≠ .fpower := by
  constructor <;> (rintro rfl; simp [Paddock.core] at h)

theorem paddockPowerGood_app {s : State} {p : Paddock} {ps : List Paddock}
    (hr : s.pwr.ramp = []) (ha : s.pwr.appRamp = p :: ps)
    (hp : p.core ≠ none ∨ p = .net ∨ p = .bus ∨ p = .signal) (hreq : s.fget (preq p) = 0) :
    Yields (exec .paddockPowerGood s) (fun t =>
      t.fget (pstat p) = 2 ∧
      t.pwr = { s.pwr with appRamp := ps, reload := s.pwr.reload ++ [p] } ∧
      (∀ g ∈ paddockGates p, t.fget (gateF g) = 1) ∧ Quiet s t) := by
  obtain ⟨hl, hf⟩ := compute_not_field hp
  refine .of_eq (execPaddockPowerGood_app hr ha) ?_
  set u : State := { s with pwr := { s.pwr with appRamp := ps } }
  rw [appOn_compute (s := u) hl hf hreq]
  obtain ⟨r, he⟩ := u.paddockOn_record p
  refine ⟨u.paddockOn_pstat p, ?_, fun g hg => u.paddockOn_gate hg, ?_⟩
  · rw [he]
    rfl
  · rw [he]
    exact .refl s

theorem paddockPowerGood_ramp {s : State} {p q : Paddock} {ps : List Paddock}
    (hr : s.pwr.ramp = p :: q :: ps) (hpq : p ≠ q) :
    Yields (exec .paddockPowerGood s) (fun t =>
      t.fget (pstat p) = 2 ∧ t.fget (pstat q) = 1 ∧ t.pwr = { s.pwr with ramp := q :: ps } ∧
      Quiet s t) := by
  refine .of_eq (execPaddockPowerGood_ramp hr) ?_
  obtain ⟨r, he⟩ := s.paddockOn_record p
  have hon := s.paddockOn_pstat p
  rw [he] at hon ⊢
  rw [rampNext_cons (s := { s with regs := r }) hr]
  refine ⟨(fget_fset_apart _ _ _ 1 (pstat_fits q) (pstat_apart hpq.symm)).trans hon,
    fget_fset_self _ _ 1 (pstat_fits q), rfl, .fset (.refl s)⟩

/-! ### A paddock does not get power (R64) -/

theorem execPaddockPowerTimeout_ramp {s : State} {p : Paddock} {ps : List Paddock}
    (h : s.pwr.ramp = p :: ps) :
    exec .paddockPowerTimeout s = .next (((s.fset (pstat p) 0).raise (pfault p)).rampNext) := by
  show execPaddockPowerTimeout s = _
  simp only [execPaddockPowerTimeout, h]

theorem execPaddockPowerTimeout_app {s : State} {p : Paddock} {ps : List Paddock}
    (hr : s.pwr.ramp = []) (ha : s.pwr.appRamp = p :: ps) (hl : p ≠ .flogic) (hf : p ≠ .fpower) :
    exec .paddockPowerTimeout s = .next { (s.fset (pstat p) 0).raise (pfault p) with
      pwr := { s.pwr with appRamp := ps, drain20 := s.pwr.drain20.filter (· ≠ p)
                          offAt := s.pwr.offAt.filter (· ≠ p) } } := by
  show execPaddockPowerTimeout s = _
  simp only [execPaddockPowerTimeout, hr, ha, hl, hf, ne_eq, not_false_eq_true, and_self,
    decide_true, when_true, raise_eq, fset_pwr]

/-- A paddock stays off and shows its fault. -/
theorem regs_faulted (s : State) (p : Paddock) :
    Regs s ((s.fset (pstat p) 0).raise (pfault p)) [(pstat p, 0), (pfault p, 1)] :=
  ((Regs.refl s).fset (pstat_fits p) (Nat.two_pow_pos _) nofun).fset (pfault_fits p)
    (Nat.one_lt_two_pow Nat.one_ne_zero) (by simp [pfault_apart_pstat])

theorem quiet_faulted (s : State) (p : Paddock) :
    Quiet s ((s.fset (pstat p) 0).raise (pfault p)) := .fset (.fset (.refl s))

theorem paddockPowerTimeout_app {s : State} {p : Paddock} {ps : List Paddock}
    (hr : s.pwr.ramp = []) (ha : s.pwr.appRamp = p :: ps)
    (hp : p.core ≠ none ∨ p = .net ∨ p = .bus ∨ p = .signal) :
    Yields (exec .paddockPowerTimeout s) (fun t =>
      Regs s t [(pstat p, 0), (pfault p, 1)] ∧ Quiet s t ∧
      t.pwr = { s.pwr with appRamp := ps, drain20 := s.pwr.drain20.filter (· ≠ p)
                           offAt := s.pwr.offAt.filter (· ≠ p) }) := by
  obtain ⟨hl, hf⟩ := compute_not_field hp
  refine .of_eq (execPaddockPowerTimeout_app hr ha hl hf) ?_
  exact ⟨(regs_faulted s p).congr rfl, quiet_faulted s p, rfl⟩

theorem paddockPowerTimeout_ramp {s : State} {p q : Paddock} {ps : List Paddock}
    (hr : s.pwr.ramp = p :: q :: ps) (hpq : p ≠ q) :
    Yields (exec .paddockPowerTimeout s) (fun t =>
      Regs s t [(pstat p, 0), (pfault p, 1), (pstat q, 1)] ∧ Quiet s t ∧
      t.pwr = { s.pwr with ramp := q :: ps }) := by
  refine .of_eq (execPaddockPowerTimeout_ramp hr) ?_
  have hregs := regs_faulted s p
  have hquiet := quiet_faulted s p
  have hpwr : ((s.fset (pstat p) 0).raise (pfault p)).pwr = s.pwr := by simp [raise_eq]
  generalize (s.fset (pstat p) 0).raise (pfault p) = u at hregs hquiet hpwr ⊢
  rw [rampNext_cons (s := u) (by rw [hpwr, hr]), hpwr]
  refine ⟨.fset (hregs.congr rfl) (pstat_fits q) (Nat.one_lt_two_pow two_ne_zero) ?_,
    .fset hquiet, rfl⟩
  simp [pstat_apart hpq.symm, pstat_apart_pfault]

end Sys2Proof.Machine

namespace Sys2Proof.Machine

open Sys2Proof.Claims State

/-! ### Requests to switch a paddock off (R70, R72) -/

theorem State.hasReq_of_offPermitted {s : State} {p : Paddock} (h : s.offPermitted p = true) :
    hasReq p = true := by
  cases p
  case bkup | aon | common => exact h
  all_goals rfl

/-- The request bit of a paddock is set, and the request is answered. -/
def State.offRequested (s : State) (p : Paddock) : State := (s.raise (preq p)).answer .okay

/-- That, and the paddock goes into DRAIN and waits in one of the lists of `w`. -/
def State.draining (s : State) (p : Paddock) (w : Pwr) : State :=
  { (s.offRequested p).fset (pstat p) 3 with pwr := w }

/-- A permitted request leaves a paddock that is OFF as it is. -/
theorem State.reqOff_of_off {s : State} {p : Paddock} (h : s.offPermitted p = true)
    (hoff : s.fget (pstat p) = 0) : s.reqOff p = s.offRequested p :=
  (if_neg (by simp [h, hasReq_of_offPermitted h])).trans (if_pos (by simp [hoff]))

/-- A permitted request for a paddock that is ON or in RAMP. -/
theorem State.reqOff_of_on {s : State} {p : Paddock} (h : s.offPermitted p = true)
    (hon : s.fget (pstat p) = 1 ∨ s.fget (pstat p) = 2) :
    s.reqOff p = s.draining p (if p = .net ∨ p = .bus
      then { s.pwr with drain20 := s.pwr.drain20 ++ [p] }
      else { s.pwr with offAt := s.pwr.offAt ++ [p] }) := by
  have hstat : ¬(decide (s.fget (pstat p) = 0) || decide (s.fget (pstat p) = 3)) = true := by
    simp only [Bool.or_eq_true, decide_eq_true_eq]
    omega
  refine (if_neg (by simp [h, hasReq_of_offPermitted h])).trans ((if_neg hstat).trans ?_)
  split <;> rfl

theorem regs_offRequested (s : State) (p : Paddock) : Regs s (s.offRequested p) [(preq p, 1)] :=
  regs_answer ((Regs.refl s).fset (preq_fits p) (Nat.one_lt_two_pow Nat.one_ne_zero) nofun)

theorem quiet_offRequested (s : State) (p : Paddock) : Quiet s (s.offRequested p) :=
  quiet_answer (.fset (.refl s))

theorem regs_draining (s : State) (p : Paddock) (w : Pwr) :
    Regs s (s.draining p w) [(preq p, 1), (pstat p, 3)] :=
  ((regs_offRequested s p).fset (pstat_fits p) (v := 3) (Nat.lt_succ_self 3)
    (by simp [pstat_apart_preq])).congr rfl

theorem quiet_draining (s : State) (p : Paddock) (w : Pwr) : Quiet s (s.draining p w) :=
  have h : Quiet s ((s.offRequested p).fset (pstat p) 3) := .fset (quiet_offRequested s p)
  h

theorem pwrReqSwitchOff_drains {s : State} {p : Paddock} (h : s.offPermitted p = true)
    (hon : s.fget (pstat p) = 1 ∨ s.fget (pstat p) = 2) :
    Yields (exec (.pwrReqSwitchOff p) s) (fun t =>
      Regs s t [(preq p, 1), (pstat p, 3)] ∧ Quiet s t ∧ t.resp = .okay ∧
      t.pwr = if p = .net ∨ p = .bus then { s.pwr with drain20 := s.pwr.drain20 ++ [p] }
        else { s.pwr with offAt := s.pwr.offAt ++ [p] }) :=
  .of_eq (congrArg Host.Outcome.next (reqOff_of_on h hon))
    ⟨regs_draining s p _, quiet_draining s p _, rfl, rfl⟩

theorem pwrReqSwitchOff_stays {s : State} {p : Paddock} (h : s.offPermitted p = true)
    (hoff : s.fget (pstat p) = 0) :
    Yields (exec (.pwrReqSwitchOff p) s) (fun t =>
      Regs s t [(preq p, 1)] ∧ Quiet s t ∧ t.resp = .okay ∧ t.pwr = s.pwr) :=
  .of_eq (congrArg Host.Outcome.next (reqOff_of_off h hoff))
    ⟨regs_offRequested s p, quiet_offRequested s p, rfl, rfl⟩

theorem pwrReqSwitchOff_refused {s : State} {p : Paddock} (h : s.offPermitted p = false) :
    exec (.pwrReqSwitchOff p) s = refusedWith s :=
  congrArg Host.Outcome.next (if_pos (by simp [h]))

/-! ### Cancels and requests to switch a paddock on (R71, R73) -/

/-- The request bit of a paddock is cleared, the paddock is in state `v`, the lists are `w`, and the
request is answered. -/
def State.unrequested (s : State) (p : Paddock) (v : Nat) (w : Pwr) : State :=
  ({ (s.lower (preq p)).fset (pstat p) v with pwr := w }).answer .okay

theorem regs_unrequested (s : State) (p : Paddock) {v : Nat} (w : Pwr) (hv : v < 4) :
    Regs s (s.unrequested p v w) [(preq p, 0), (pstat p, v)] :=
  (((Regs.refl s).fset (preq_fits p) (Nat.two_pow_pos _) nofun).fset (pstat_fits p) hv
    (by simp [pstat_apart_preq])).congr rfl

theorem quiet_unrequested (s : State) (p : Paddock) (v : Nat) (w : Pwr) :
    Quiet s (s.unrequested p v w) :=
  have h : Quiet s ((s.lower (preq p)).fset (pstat p) v) := .fset (.fset (.refl s))
  h

theorem State.reqCancel_of_drain {s : State} {p : Paddock} (h : s.fget (pstat p) = 3)
    (hs : s.supplied p = true) :
    s.reqCancel p = s.unrequested p (if p ∈ s.pwr.appRamp then 1 else 2)
      { s.pwr with drain20 := s.pwr.drain20.filter (· ≠ p)
                   offAt := s.pwr.offAt.filter (· ≠ p) } := by
  have hsup : (s.lower (preq p)).supplied p = true := hs
  have hpwr : (s.lower (preq p)).pwr = s.pwr := rfl
  unfold State.reqCancel State.goesOn
  rw [if_pos h, hsup, hpwr]
  simp only [Bool.not_true, Bool.false_eq_true, if_false, List.contains_iff_mem]
  rfl

theorem pwrReqCancel_drain {s : State} {p : Paddock} (h : s.fget (pstat p) = 3)
    (hs : s.supplied p = true) :
    Yields (exec (.pwrReqCancel p) s) (fun t =>
      Regs s t [(preq p, 0), (pstat p, if p ∈ s.pwr.appRamp then 1 else 2)] ∧ Quiet s t ∧
      t.resp = .okay ∧
      t.pwr = { s.pwr with drain20 := s.pwr.drain20.filter (· ≠ p)
                           offAt := s.pwr.offAt.filter (· ≠ p) }) :=
  .of_eq (congrArg Host.Outcome.next (reqCancel_of_drain h hs))
    ⟨regs_unrequested s p _ (by split <;> omega), quiet_unrequested s p _ _, rfl, rfl⟩

theorem State.reqOn_of_off {s : State} {p : Paddock} (hreq : hasReq p = true)
    (hk : p.core.all (fun k => !s.flag (retiredF k)) = true) (h : s.fget (pstat p) = 0)
    (hs : s.supplied p = true) :
    s.reqOn p = s.unrequested p 1 { s.pwr with appRamp := s.pwr.appRamp ++ [p] } := by
  unfold State.reqOn
  extract_lets retiredCore s1 s2
  have hret : retiredCore = false := by
    unfold retiredCore
    split
    · next k hc => simpa [hc, State.retired] using hk
    · rfl
  rw [if_neg (by simp [hret, hreq]), if_neg (by simp [h, hs])]
  rfl

theorem pwrReqSwitchOn_ramps {s : State} {p : Paddock} (hreq : hasReq p = true)
    (hk : p.core.all (fun k => !s.flag (retiredF k)) = true) (h : s.fget (pstat p) = 0)
    (hs : s.supplied p = true) :
    Yields (exec (.pwrReqSwitchOn p) s) (fun t =>
      Regs s t [(preq p, 0), (pstat p, 1)] ∧ Quiet s t ∧ t.resp = .okay ∧
      t.pwr = { s.pwr with appRamp := s.pwr.appRamp ++ [p] }) :=
  .of_eq (congrArg Host.Outcome.next (reqOn_of_off hreq hk h hs))
    ⟨regs_unrequested s p _ (by omega), quiet_unrequested s p _ _, rfl, rfl⟩

theorem paddock_core (k : CoreId) : k.paddock.core = some k := by cases k <;> rfl

theorem pwrReqSwitchOn_retired {s : State} {k : CoreId} (h : s.flag (retiredF k) = true) :
    exec (.pwrReqSwitchOn k.paddock) s = refusedWith s :=
  congrArg Host.Outcome.next (if_pos (by simp [paddock_core, State.retired, h]))

/-! ### Reloads and drains that are complete (R72, R73) -/

theorem paddockReloadDone_eq {s : State} {p : Paddock} (h : p ∈ s.pwr.reload) :
    exec (.paddockReloadDone p) s =
      .next (let u := (paddockUnits p).foldl (fun x n => x.unitReload n) s
        { u with pwr := { u.pwr with reload := u.pwr.reload.filter (· ≠ p)
                                     join := u.pwr.join ++ [p] } }) :=
  congrArg Host.Outcome.next (if_pos (by simpa using h))

/-- The paddock of a core holds no unit that reloads. -/
theorem paddockUnits_core (k : CoreId) : paddockUnits k.paddock = [] := by cases k <;> rfl

theorem paddockReloadDone_core {s : State} {k : CoreId} (h : k.paddock ∈ s.pwr.reload) :
    Yields (exec (.paddockReloadDone k.paddock) s) (fun t =>
      Regs s t [] ∧ Quiet s t ∧
      t.pwr = { s.pwr with reload := s.pwr.reload.filter (· ≠ k.paddock)
                           join := s.pwr.join ++ [k.paddock] }) := by
  refine .of_eq (paddockReloadDone_eq h) ?_
  rw [paddockUnits_core]
  exact ⟨.of_regs rfl, .refl s, rfl⟩

theorem plannedDrainExpiry_switchOff {s : State} {p : Paddock} (h : p ∈ s.pwr.drain20) :
    Yields (exec (.plannedDrainExpiry (.switchOff p)) s) (fun t =>
      Regs s t [] ∧ Quiet s t ∧
      t.pwr = { s.pwr with drain20 := s.pwr.drain20.filter (· ≠ p)
                           offAt := s.pwr.offAt ++ [p] }) :=
  .of_eq (congrArg Host.Outcome.next (if_pos (by simpa using h)))
    ⟨.of_regs rfl, .refl s, rfl⟩

theorem plannedDrainExpiry_localReset {s : State} {e : LocalEp} {es : List LocalEp}
    (h : s.rst.locals = e :: es) (he : e.phase = .drain) :
    exec (.plannedDrainExpiry (.localReset e.target)) s
      = .next (s.localAbsorb e .software).evalSets := by
  show execPlannedDrainExpiry (.localReset e.target) s = _
  simp [execPlannedDrainExpiry, h, he]

/-- Settles O22, command by command: power good and its time-out for the sequencer and for the
application, the requests by the state of the paddock, the ends of reloads and drains. -/
theorem paddockSwitching : Obligations.PaddockSwitching := by
  unfold Obligations.PaddockSwitching
  intro s
  refine ⟨fun p ps => paddockPowerGood_app, fun p q ps => paddockPowerGood_ramp,
    fun p ps => paddockPowerTimeout_app, fun p q ps => paddockPowerTimeout_ramp,
    fun p hp h hon => ?_, fun p hn hb h hon => ?_, fun p => pwrReqSwitchOff_stays,
    fun p => pwrReqSwitchOff_refused, fun p => pwrReqCancel_drain, fun p => pwrReqSwitchOn_ramps,
    fun k => pwrReqSwitchOn_retired, fun k => paddockReloadDone_core,
    fun p => paddockReloadDone_eq, fun p => plannedDrainExpiry_switchOff,
    fun e es => plannedDrainExpiry_localReset⟩
  · have ht := pwrReqSwitchOff_drains h hon
    rwa [if_pos hp] at ht
  · have ht := pwrReqSwitchOff_drains h hon
    rwa [if_neg (not_or.2 ⟨hn, hb⟩)] at ht

end Sys2Proof.Machine

namespace Sys2Proof.Machine

open Sys2Proof.Claims State

/-! ### What a reset of device reach leaves of the registers (R10, R80) -/

/-- Every register then reads its reset value, or what the reset leaves of a listed word. -/
theorem RegMap.word_afterReset (cold : Bool) (m : RegMap) (a : Nat) :
    (m.afterReset cold).word a = regReset a ∨
      ∃ w, (m.afterReset cold).word a = regAfterReset cold a w := by
  refine List.foldlRecOn (motive := fun x : RegMap => x.word a = regReset a ∨
    ∃ w, x.word a = regAfterReset cold a w) m _ (.inl rfl) ?_
  intro x hx p _
  rw [RegMap.word_setWord]
  split
  · next e => exact .inr ⟨p.2, by rw [e]⟩
  · exact hx

/-- The qualification of HRC_1 has the reset value 0 at either reach. -/
theorem afterReset_hrc1Q (cold : Bool) (m : RegMap) :
    (m.afterReset cold).fget CLK_STAT_HRC1_Q = 0 := by
  have hreset : regReset 0x40000200 = 0 := by decide +kernel
  have hkeep : ∀ (c : Bool) (w : Word), regAfterReset c 0x40000200 w = 0 := by
    intro c w
    have hmask : ∀ c : Bool, ∃ r, regAt 0x40000200 = some r ∧
        r.maskWhere (fun f => f.keep = .kept ∨ (f.keep = .cold ∧ !c)) = 0 := by
      decide +kernel
    obtain ⟨r, hr, hk⟩ := hmask c
    unfold regAfterReset
    rw [hr]
    simp only [hk, hreset]
    simp
  have hword : (m.afterReset cold).word 0x40000200 = 0 := by
    rcases m.word_afterReset cold 0x40000200 with h | ⟨w, h⟩
    · rw [h, hreset]
    · rw [h, hkeep]
  simp [RegMap.fget, hword, bitsOf]

/-- The step of a reset for one listed register. -/
abbrev afterResetStep (cold : Bool) (m : RegMap) (p : Nat × Word) : RegMap :=
  m.setWord p.1 (regAfterReset cold p.1 p.2)

theorem word_foldl_afterResetStep_of_lt (cold : Bool) {a b : Nat} :
    ∀ {m acc : RegMap}, smWfFrom regReset b m = true → a < b →
      (m.foldl (afterResetStep cold) acc).word a = acc.word a
  | [], _, _, _ => rfl
  | (k, v) :: t, acc, h, hab => by
    simp only [smWfFrom, Bool.and_eq_true, decide_eq_true_eq] at h
    obtain ⟨⟨hk, -⟩, ht⟩ := h
    rw [List.foldl_cons,
      word_foldl_afterResetStep_of_lt cold (b := b) (smWfFrom_mono ht (by omega)) hab]
    exact RegMap.word_setWord_ne _ _ (by omega)

/-- A canonical map lists each register once, so a reset works on the word that a read finds. -/
theorem word_foldl_afterResetStep (cold : Bool) {a : Nat} :
    ∀ {m acc : RegMap} {b : Nat}, smWfFrom regReset b m = true →
      acc.word a = regAfterReset cold a (regReset a) →
      (m.foldl (afterResetStep cold) acc).word a = regAfterReset cold a (m.word a)
  | [], _, _, _, hacc => hacc
  | (k, v) :: t, acc, b, h, hacc => by
    simp only [smWfFrom, Bool.and_eq_true, decide_eq_true_eq] at h
    obtain ⟨-, ht⟩ := h
    rw [List.foldl_cons]
    by_cases hka : k = a
    · subst hka
      rw [word_foldl_afterResetStep_of_lt cold ht (Nat.lt_succ_self k), RegMap.word_setWord_self]
      simp [RegMap.word, smGet]
    · rw [word_foldl_afterResetStep cold ht ((RegMap.word_setWord_ne _ _ hka).trans hacc)]
      simp [RegMap.word, smGet, hka]

/-- The bits of SYS_RSTCAUSE that a reset keeps (Table 04-8). -/
theorem regAfterReset_rstCause (cold : Bool) (w : Word) :
    regAfterReset cold 0x40000004 w = w &&& 0xFF0F31FF := by
  have hreset : regReset 0x40000004 = 0 := by decide +kernel
  have hmask : ∀ c : Bool, ∃ r, regAt 0x40000004 = some r ∧
      r.maskWhere (fun f => f.keep = .kept ∨ (f.keep = .cold ∧ !c)) = 0xFF0F31FF := by
    decide +kernel
  obtain ⟨r, hr, hk⟩ := hmask cold
  unfold regAfterReset
  rw [hr]
  simp only [hk, hreset]
  simp

theorem afterReset_boRail {m : RegMap} (cold : Bool) (h : regWf m = true) :
    (m.afterReset cold).fget SYS_RSTCAUSE_BO_RAIL = m.fget SYS_RSTCAUSE_BO_RAIL := by
  have hword : (m.afterReset cold).word 0x40000004 = m.word 0x40000004 &&& 0xFF0F31FF := by
    rw [← regAfterReset_rstCause cold]
    refine word_foldl_afterResetStep cold h ?_
    rw [regAfterReset_rstCause]
    decide +kernel
  unfold RegMap.fget
  rw [hword, bitsOf_toNat, bitsOf_toNat, BitVec.extractLsb'_and]
  congr 1
  exact BitVec.and_allOnes

end Sys2Proof.Machine

namespace Sys2Proof.Machine

open Sys2Proof.Claims State

/-! ### A source of device reach asserts (R76, R80, R83) -/

theorem State.fget_fset_addr (s : State) (f g : Fld) (v : Nat) (h : f.addr ≠ g.addr) :
    (s.fset f v).fget g = s.fget g :=
  congrArg (fun w : Word => bitsOf w.toNat g.lo g.width) (RegMap.word_fset_ne s.regs f v h)

/-- Only PWR_PSTAT shows what a reset leaves of the paddocks. -/
theorem State.paddocksAfter_eq (s : State) (cold : Bool) (t : State) :
    ∃ r, s.paddocksAfter cold t = { t with regs := r } ∧
      ∀ f : Fld, f.addr ≠ 0x40000100 → r.fget f = t.regs.fget f := by
  have keeps : ∀ (x : State) (p : Paddock) (v : Nat),
      (∃ r, x = { t with regs := r } ∧ ∀ f : Fld, f.addr ≠ 0x40000100 →
        r.fget f = t.regs.fget f) →
      ∃ r, x.fset (pstat p) v = { t with regs := r } ∧ ∀ f : Fld, f.addr ≠ 0x40000100 →
        r.fget f = t.regs.fget f := by
    rintro x p v ⟨r, rfl, hr⟩
    exact ⟨_, rfl, fun f hf => (fget_fset_addr _ (pstat p) f v hf.symm).trans (hr f hf)⟩
  unfold State.paddocksAfter
  refine keeps _ _ _ (keeps _ _ _ ?_)
  exact List.foldlRecOn (motive := fun x : State => ∃ r, x = { t with regs := r } ∧
    ∀ f : Fld, f.addr ≠ 0x40000100 → r.fget f = t.regs.fget f) seqOrder _
    ⟨t.regs, rfl, fun _ _ => rfl⟩ fun x hx p _ => keeps x p _ hx

/-- The retained memory (Table 04-1). -/
def retained (m : List Host.Cell) : List Host.Cell :=
  m.filter (fun p => 0xF0000000 ≤ p.1 && p.1 < 0xF0004000)

/-- What a reset of device reach leaves of the block in every episode (Table 04-1). -/
def Cleared (s t : State) : Prop :=
  t.rst.step = 0 ∧ t.fget CLK_STAT_HRC1_Q = 0 ∧ t.pins.safeOut = false ∧ t.pins.rstOut = false ∧
  t.mem = retained s.mem ∧ t.flash = s.flash ∧ t.pending = s.pending ∧
  (∀ l, t.lane l = Lane.reset) ∧ t.phys = s.phys

theorem Cleared.fset {s t : State} {f : Fld} {v : Nat} (h : Cleared s t)
    (hf : f.addr ≠ 0x40000200) : Cleared s (t.fset f v) := by
  obtain ⟨hstep, hq, hrest⟩ := h
  exact ⟨hstep, (t.fget_fset_addr f CLK_STAT_HRC1_Q v hf).trans hq, hrest⟩

/-- The clearing itself; of the registers it leaves what the reset of their words leaves. -/
theorem State.deviceClear_facts (s : State) (cold : Bool) :
    Cleared s (s.deviceClear cold) ∧
    (s.deviceClear cold).rst = { s.rst with
      locals := [], safe := none, trimCopy := none, step := 0, step4Done := false } ∧
    ∀ f : Fld, f.addr ≠ 0x40000100 →
      (s.deviceClear cold).fget f = (s.regs.afterReset cold).fget f := by
  unfold State.deviceClear
  extract_lets _ _ _ _ _ _ t
  obtain ⟨r, he, hr⟩ := s.paddocksAfter_eq cold t
  rw [he]
  refine ⟨⟨rfl, (hr CLK_STAT_HRC1_Q (by decide)).trans (afterReset_hrc1Q cold s.regs), rfl, rfl,
    rfl, rfl, rfl, fun l => ?_, rfl⟩, rfl, fun f hf => hr f hf⟩
  cases l <;> rfl

/-- A source that joins the episode in progress clears the reach again (R83). -/
theorem State.episodeJoin_eq (s : State) (cold : Bool) : ∃ c v,
    s.episodeJoin cold = (s.deviceClear c).fset SYS_RSTCAUSE_REACH v := ⟨_, _, rfl⟩

theorem State.episodeJoin_facts (s : State) (cold : Bool) :
    Cleared s (s.episodeJoin cold) ∧ (s.episodeJoin cold).rst.active = s.rst.active := by
  obtain ⟨c, v, e⟩ := s.episodeJoin_eq cold
  obtain ⟨hc, hrst, -⟩ := s.deviceClear_facts c
  rw [e, fset_rst, hrst]
  exact ⟨hc.fset (by decide), rfl⟩

/-- Memory, flash, the waiting commands and the levels of the outside world are as before. -/
def Untouched (s t : State) : Prop :=
  t.mem = s.mem ∧ t.flash = s.flash ∧ t.pending = s.pending ∧ t.phys = s.phys

theorem Untouched.setReg (s : State) (a : Nat) (v : Word) : Untouched s (s.setReg a v) :=
  ⟨rfl, rfl, rfl, rfl⟩

theorem Untouched.fset {s t : State} {f : Fld} {v : Nat} (h : Untouched s t) :
    Untouched s (t.fset f v) := h

theorem Untouched.bkup {s t : State} {b : Bkup} (h : Untouched s t) :
    Untouched s { t with bkup := b } := h

theorem Untouched.linkSend {s t : State} {f : LinkFrame} (h : Untouched s t) :
    Untouched s (t.linkSend f) := by
  rcases t.linkSend_cases f with e | e <;> rw [e] <;> exact h

theorem State.causeStart_untouched (s : State) : Untouched s s.causeStart :=
  .bkup (.fset (.fset (.setReg s _ _)))

theorem Cleared.of_untouched {s x t : State} (h : Cleared x t) (hk : Untouched s x) :
    Cleared s t := by
  obtain ⟨hmem, hflash, hpending, hphys⟩ := hk
  unfold Cleared at h ⊢
  rwa [hmem, hflash, hpending, hphys] at h

/-- A source outside an episode begins one (R80). -/
theorem State.episodeStart_eq (s : State) (cold : Bool) : ∃ u n v,
    s.episodeStart cold =
      ({ u with rst := { u.rst with active := true, sources := [], counted := false
                                    minLowDone := false, porSeen := false }
                now := n }).fset SYS_RSTCAUSE_REACH v ∧
    u = (s.causeStart.linkSend .reset).deviceClear cold :=
  ⟨(s.causeStart.linkSend .reset).deviceClear cold, _, _, rfl, rfl⟩

theorem State.episodeStart_facts (s : State) (cold : Bool) :
    Cleared s (s.episodeStart cold) ∧ (s.episodeStart cold).rst.active = true := by
  obtain ⟨u, n, v, e, hu⟩ := s.episodeStart_eq cold
  have hc : Cleared s u :=
    hu ▸ (deviceClear_facts _ cold).1.of_untouched s.causeStart_untouched.linkSend
  rw [e]
  exact ⟨Cleared.fset hc (by decide), rfl⟩

theorem rstSrc_bit_lt (src : RstSrc) : src.bit < 9 := by cases src <;> simp [RstSrc.bit]

/-- A source of device reach asserts, in an episode or out of one. -/
theorem State.assertDevice_facts (s : State) (src : RstSrc) (cold : Bool) :
    Asserted s (s.assertDevice src cold) src ∧ (s.assertDevice src cold).phys = s.phys := by
  unfold State.assertDevice
  extract_lets s1 s3 rst
  have h1 : Cleared s s1 ∧ s1.rst.active = true := by
    unfold s1
    split
    · next ha => exact ⟨(s.episodeJoin_facts cold).1, (s.episodeJoin_facts cold).2.trans ha⟩
    · exact s.episodeStart_facts cold
  have hbit : s3.fget ⟨0x40000004, src.bit, 1⟩ = 1 :=
    fget_fset_self s1 _ 1 (by have := rstSrc_bit_lt src; simp only; omega)
  have h3 : Cleared s s3 := h1.1.fset (by simp)
  have ha : s3.rst.active = true := h1.2
  obtain ⟨hstep, hq, hsafe, hout, hm, hf, hp, hl, hph⟩ := h3
  clear_value s3
  refine ⟨⟨ha, ?_, hstep, hbit, hq, hsafe, hout, hm, hf, hp, hl⟩, hph⟩
  show src ∈ if s3.rst.sources.contains src then s3.rst.sources else s3.rst.sources ++ [src]
  split
  · next hmem => simpa using hmem
  · simp

end Sys2Proof.Machine

namespace Sys2Proof.Machine

open Sys2Proof.Claims State

/-! ### Brown-outs of the compute rails (R76, R86) -/

/-- A field apart from the source's cause bit and from CLK_STAT may be written. -/
theorem asserted_fset {s t : State} {src : RstSrc} {f : Fld} {v : Nat} (h : Asserted s t src)
    (hf : f.lo + f.width ≤ 32) (hbit : f.apart ⟨0x40000004, src.bit, 1⟩ = true)
    (hq : f.addr ≠ 0x40000200) : Asserted s (t.fset f v) src := by
  obtain ⟨hactive, hsrc, hstep, h1, h0, hrest⟩ := h
  exact ⟨hactive, hsrc, hstep, (fget_fset_apart t f _ v hf hbit).trans h1,
    (t.fget_fset_addr f CLK_STAT_HRC1_Q v hq).trans h0, hrest⟩

theorem asserted_of_source {s x t : State} {src : RstSrc} (h : Asserted x t src)
    (hm : x.mem = s.mem) (hf : x.flash = s.flash) (hp : x.pending = s.pending) :
    Asserted s t src := by
  unfold Asserted at h ⊢
  rwa [hm, hf, hp] at h

theorem causeBit_fits (src : RstSrc) : src.bit + 1 ≤ 32 := by
  have h := rstSrc_bit_lt src
  omega

theorem boRail_apart_causeBit (src : RstSrc) :
    Fld.apart SYS_RSTCAUSE_BO_RAIL ⟨0x40000004, src.bit, 1⟩ = true := by
  have h := rstSrc_bit_lt src
  exact Fld.apart_of_below (by simp only; omega)

theorem causeBit_apart_boRail (src : RstSrc) :
    Fld.apart ⟨0x40000004, src.bit, 1⟩ SYS_RSTCAUSE_BO_RAIL = true := by
  have h := rstSrc_bit_lt src
  exact Fld.apart_of_above (by simp only; omega)

/-- The first rail of an episode is named in BO_RAIL. -/
theorem State.brownout_first {s : State} {r : Rail} (code : Nat) {cold : Bool}
    (hcold : decide (r = .vddAon) = cold)
    (h : (s.assertDevice (.brownout r) cold).fget SYS_RSTCAUSE_BO_RAIL = 15) :
    s.brownout r code = (s.assertDevice (.brownout r) cold).fset SYS_RSTCAUSE_BO_RAIL code := by
  subst hcold
  exact if_pos (decide_eq_true h)

theorem State.assertDevice_fget (s : State) (src : RstSrc) (cold : Bool) (f : Fld) :
    (s.assertDevice src cold).fget f =
      ((if s.rst.active then s.episodeJoin cold else s.episodeStart cold).fset
        ⟨0x40000004, src.bit, 1⟩ 1).fget f := by
  unfold State.assertDevice
  extract_lets s1 s3 rst
  have h : s3.fget f = (s1.fset ⟨0x40000004, src.bit, 1⟩ 1).fget f := by rw [← raise_eq]
  clear_value s3
  exact h

/-- In an episode a reset of a canonical register map keeps BO_RAIL. -/
theorem State.assertDevice_boRail {s : State} {src : RstSrc} {cold : Bool}
    (ha : s.rst.active = true) (hw : regWf s.regs = true) :
    (s.assertDevice src cold).fget SYS_RSTCAUSE_BO_RAIL = s.fget SYS_RSTCAUSE_BO_RAIL := by
  obtain ⟨c, v, e⟩ := s.episodeJoin_eq cold
  obtain ⟨-, -, hclear⟩ := s.deviceClear_facts c
  rw [assertDevice_fget, if_pos ha,
    fget_fset_apart _ _ _ 1 (causeBit_fits src) (causeBit_apart_boRail src), e,
    fget_fset_apart _ _ _ v (by decide) (by decide), hclear _ (by decide)]
  exact afterReset_boRail c hw

theorem setBit_one_false (v : BitVec 8) : BitVec.ofNat 8 (setBit v.toNat 1 false) = v &&& 0xFD := by
  revert v
  decide +kernel

theorem asserted_named {s x : State} {r : Rail} {code : Nat} (h : Asserted s x (.brownout r)) :
    Asserted s (x.fset SYS_RSTCAUSE_BO_RAIL code) (.brownout r) :=
  asserted_fset h (by decide) (boRail_apart_causeBit _) (by decide)

/-- The first brown-out of an episode, VDD_PLL's, where the register map is canonical. -/
theorem supplyMonitorTrip_vddPll_first {s : State} (hw : regWf s.regs = true)
    (ha : s.rst.active = true) (hrail : s.fget SYS_RSTCAUSE_BO_RAIL = 15) :
    Yields (exec (.supplyMonitorTrip .vddPll) s) (fun t =>
      Asserted s t (.brownout .vddPll) ∧ t.fget SYS_RSTCAUSE_BO_RAIL = 1 ∧
      t.phys.ok = s.phys.ok &&& 0xFD) := by
  have hexec : exec (.supplyMonitorTrip .vddPll) s =
    .next ((s.setOk .vddPll false).brownout .vddPll 1) := rfl
  obtain ⟨hasserted, hphys⟩ :=
    (s.setOk .vddPll false).assertDevice_facts (.brownout .vddPll) false
  have hnamed := assertDevice_boRail (s := s.setOk .vddPll false) (src := .brownout .vddPll)
    (cold := false) ha hw
  rw [hexec, brownout_first 1 (cold := false) rfl (hnamed.trans hrail)]
  have hsrc := asserted_of_source (s := s) hasserted rfl rfl rfl
  generalize (s.setOk .vddPll false).assertDevice (.brownout .vddPll) false = x at hsrc hphys ⊢
  refine .next ⟨asserted_named hsrc, x.fget_fset_self SYS_RSTCAUSE_BO_RAIL 1 (by decide), ?_⟩
  rw [fset_phys, hphys]
  exact setBit_one_false s.phys.ok

end Sys2Proof.Machine

namespace Sys2Proof.Machine

open Sys2Proof.Claims State

/-! ### A register listed twice -/

/-- An episode whose register map lists SYS_RSTCAUSE twice: reads find the first entry, with BO_RAIL
at 15, and a reset leaves what the last one holds. -/
def twiceListed : State :=
  { State.reset with regs := [(0x40000004, 0x000F0000), (0x40000004, 0)] }

theorem twiceListed_boRail : twiceListed.fget SYS_RSTCAUSE_BO_RAIL = 15 := by decide +kernel

theorem twiceListed_brownout_boRail :
    ((twiceListed.setOk .vddPll false).brownout .vddPll 1).fget SYS_RSTCAUSE_BO_RAIL = 0 := by
  decide +kernel

/-- Refutes O21: its second clause has the first brown-out of an episode name VDD_PLL in BO_RAIL
whenever BO_RAIL reads 15. A reset of device reach goes through the entries of the register map and
keeps what the last one of a register holds, where a read finds the first; no hypothesis of the
clause excludes a map that lists SYS_RSTCAUSE twice. Below BO_RAIL reads 15 before the brown-out and
0 after the reset, so it counts as named already, and stays 0 (R86). No run lists a register twice
(`stepsKeepCanonicalForms`), and for a map in canonical form the clause holds
(`supplyMonitorTrip_vddPll_first`). -/
theorem not_supplyEvents : ¬ Obligations.SupplyEvents := by
  intro h
  obtain ⟨-, hpll, -⟩ := h twiceListed
  obtain ⟨t, ht, -, hrail, -⟩ := hpll rfl twiceListed_boRail
  obtain rfl := Host.Outcome.next.inj ht
  exact absurd (twiceListed_brownout_boRail.symm.trans hrail) (by decide)

end Sys2Proof.Machine

namespace Sys2Proof.Claims

open Sys2Proof.Machine

theorem Quiet.trans {s t u : State} (h : Quiet s t) (h' : Quiet t u) : Quiet s u := by
  obtain ⟨hm, hf, hl, hp⟩ := h
  obtain ⟨hm', hf', hl', hp'⟩ := h'
  exact ⟨hm'.trans hm, hf'.trans hf, fun l => (hl' l).trans (hl l), hp'.trans hp⟩

end Sys2Proof.Claims

namespace Sys2Proof.Machine

open Sys2Proof.Claims State

/-! ### A source of device reach that asserts: reach and answer (R76, R81, R86) -/

/-- The reach that a device-cold source leaves (Table 04-8). -/
theorem State.assertDevice_cold_reach (s : State) (src : RstSrc) :
    (s.assertDevice src true).fget SYS_RSTCAUSE_REACH = 2 := by
  have hbit : Fld.apart ⟨0x40000004, src.bit, 1⟩ SYS_RSTCAUSE_REACH = true := by
    have := rstSrc_bit_lt src
    exact Fld.apart_of_above (by simp only; omega)
  have hself : ∀ x : State, (x.fset SYS_RSTCAUSE_REACH 2).fget SYS_RSTCAUSE_REACH = 2 :=
    fun x => x.fget_fset_self _ 2 (by decide)
  rw [assertDevice_fget, fget_fset_apart _ _ _ 1 (causeBit_fits src) hbit]
  split
  · exact hself _
  · exact hself _

theorem State.deviceClear_resp (s : State) (cold : Bool) : (s.deviceClear cold).resp = s.resp := by
  unfold State.deviceClear
  extract_lets _ _ _ _ _ _ t
  obtain ⟨r, he, -⟩ := s.paddocksAfter_eq cold t
  rw [he]

theorem State.linkSend_resp (s : State) (f : LinkFrame) : (s.linkSend f).resp = s.resp := by
  rcases s.linkSend_cases f with e | e <;> rw [e]

theorem State.causeStart_resp (s : State) : s.causeStart.resp = s.resp := by
  unfold State.causeStart
  extract_lets prev s1 s2
  have h1 : s1.resp = s.resp := setReg_resp _ _ _
  have h2 : s2.resp = s1.resp := (fset_resp _ _ _).trans (fset_resp _ _ _)
  exact h2.trans h1

theorem State.episodeStart_resp (s : State) (cold : Bool) :
    (s.episodeStart cold).resp = s.resp := by
  obtain ⟨u, n, v, e, hu⟩ := s.episodeStart_eq cold
  have hresp : u.resp = s.resp := by
    rw [hu, deviceClear_resp, linkSend_resp, causeStart_resp]
  rw [e, fset_resp]
  exact hresp

theorem State.episodeJoin_resp (s : State) (cold : Bool) : (s.episodeJoin cold).resp = s.resp := by
  obtain ⟨c, v, e⟩ := s.episodeJoin_eq cold
  rw [e, fset_resp, deviceClear_resp]

/-- A reset of device reach leaves the response to the request just handled. -/
theorem State.assertDevice_resp (s : State) (src : RstSrc) (cold : Bool) :
    (s.assertDevice src cold).resp = s.resp := by
  have h : (if s.rst.active then s.episodeJoin cold else s.episodeStart cold).resp = s.resp := by
    split
    · exact s.episodeJoin_resp cold
    · exact s.episodeStart_resp cold
  exact h

theorem State.assertDevice_asserted (s : State) (src : RstSrc) (cold : Bool) :
    Asserted s (s.assertDevice src cold) src := (s.assertDevice_facts src cold).1

theorem resetNLowFiltered_asserts (s : State) :
    Yields (exec .resetNLowFiltered s) (fun t =>
      Asserted s t .resetN ∧ t.phys = { s.phys with resetNLow := true }) := by
  obtain ⟨h, hphys⟩ :=
    ({ s with phys := { s.phys with resetNLow := true } } : State).assertDevice_facts .resetN false
  exact .next ⟨asserted_of_source h rfl rfl rfl, hphys⟩

theorem resetNLowWidened_asserts {s : State} (h : s.phys.resetNLow = true) :
    Yields (exec .resetNLowWidened s) (fun t =>
      Asserted s t .resetN ∧ t.fget SYS_RSTCAUSE_EXT_LONG = 1 ∧
      t.fget SYS_RSTCAUSE_REACH = 2) := by
  refine .of_eq (congrArg Host.Outcome.next (if_pos h)) ⟨?_, ?_, ?_⟩
  · exact asserted_fset (s.assertDevice_asserted _ _) (by decide) (by decide) (by decide)
  · exact fget_fset_self _ _ 1 (by decide)
  · exact (fget_fset_apart _ _ _ 1 (by decide) (by decide)).trans (s.assertDevice_cold_reach _)

theorem debugResetCommand_device (s : State) (target : Nat) :
    Yields (exec (.debugResetCommand true .deviceWarm target) s) (fun t =>
      Asserted s t .debug) ∧
    Yields (exec (.debugResetCommand true .deviceCold target) s) (fun t =>
      Asserted s t .debug ∧ t.fget SYS_RSTCAUSE_REACH = 2) :=
  ⟨.next (s.assertDevice_asserted _ _),
    .next ⟨s.assertDevice_asserted _ _, s.assertDevice_cold_reach _⟩⟩

/-! ### A source of device reach that ends (R81, R82) -/

/-- While another source holds, one that ends only leaves the list. -/
theorem State.releaseSource_held {s : State} {src r : RstSrc} (st : Straps)
    (hr : r ∈ s.rst.sources) (hne : r ≠ src) :
    s.releaseSource src st =
      { s with rst := { s.rst with sources := s.rst.sources.filter (· ≠ src) } } := by
  refine if_neg ?_
  rintro ⟨-, hnil, -⟩
  exact absurd (List.filter_eq_nil_iff.1 hnil r hr) (by simpa using hne)

/-- The last one that ends begins the release sequence. -/
theorem State.releaseSource_last {s : State} {src : RstSrc} (st : Straps)
    (ha : s.rst.active = true) (hstep : s.rst.step = 0) (hs : s.rst.sources = [src]) :
    s.releaseSource src st =
      ({ s with rst := { s.rst with sources := [] } } : State).releaseStart st := by
  have hnil : s.rst.sources.filter (· ≠ src) = [] := by simp [hs]
  unfold State.releaseSource
  rw [hnil]
  exact if_pos ⟨ha, rfl, hstep⟩

theorem resetNRelease_held {s : State} {r : RstSrc} (st : Straps) (hr : r ∈ s.rst.sources)
    (hne : r ≠ .resetN) :
    Yields (exec (.resetNRelease st) s) (fun t =>
      Regs s t [] ∧ Quiet s t ∧ t.phys = { s.phys with resetNLow := false } ∧
      t.rst = { s.rst with sources := s.rst.sources.filter (· ≠ .resetN) }) :=
  .of_eq (congrArg Host.Outcome.next (releaseSource_held
      (s := { s with phys := { s.phys with resetNLow := false } }) st hr hne))
    ⟨.of_regs rfl, .refl s, rfl, rfl⟩

theorem resetStretchExpiry_held {s : State} (src : StretchSrc) (st : Straps) {r : RstSrc}
    (hr : r ∈ s.rst.sources) (hne : r ≠ stretchSrc src) :
    Yields (exec (.resetStretchExpiry src st) s) (fun t =>
      Regs s t [] ∧ Quiet s t ∧
      t.rst = { s.rst with sources := s.rst.sources.filter (· ≠ stretchSrc src) }) :=
  .of_eq (congrArg Host.Outcome.next (releaseSource_held st hr hne))
    ⟨.of_regs rfl, .refl s, rfl⟩

theorem debugResetRelease_held {s : State} {r : RstSrc} (st : Straps) (hr : r ∈ s.rst.sources)
    (hne : r ≠ .debug) :
    Yields (exec (.debugResetRelease st) s) (fun t =>
      Regs s t [] ∧ Quiet s t ∧
      t.rst = { s.rst with sources := s.rst.sources.filter (· ≠ .debug)
                           locals := s.rst.locals.map (fun e => e.release .debug) }) :=
  .of_eq (congrArg Host.Outcome.next (releaseSource_held (s := s.localReleased .debug) st hr hne))
    ⟨.of_regs rfl, .refl s, rfl⟩

theorem State.localReleased_of_nil {s : State} {src : LocalSrc} (h : s.rst.locals = []) :
    s.localReleased src = s := by
  have hmap : s.rst.locals.map (fun e => e.release src) = s.rst.locals := by rw [h, List.map_nil]
  unfold State.localReleased
  rw [hmap]

/-! ### The start of the release sequence (R44, R88, R97) -/

/-- Only PWR_PSTAT and PWR_MON differ: what the sequencer shows of the paddocks. -/
def SwitchesOnly (s t : State) : Prop :=
  ∃ r, t = { s with regs := r } ∧
    ∀ f : Fld, f.addr ≠ 0x40000100 → f.addr ≠ 0x40000108 → r.fget f = s.fget f

theorem SwitchesOnly.refl (s : State) : SwitchesOnly s s := ⟨s.regs, rfl, fun _ _ _ => rfl⟩

theorem SwitchesOnly.fset {s t : State} {f : Fld} {v : Nat} (h : SwitchesOnly s t)
    (hf : f.addr = 0x40000100 ∨ f.addr = 0x40000108) : SwitchesOnly s (t.fset f v) := by
  obtain ⟨r, rfl, hr⟩ := h
  refine ⟨_, rfl, fun g hstat hmon => ?_⟩
  exact (fget_fset_addr _ f g v (by omega)).trans (hr g hstat hmon)

theorem SwitchesOnly.rampHead {s t : State} (h : SwitchesOnly s t) : SwitchesOnly s t.rampHead := by
  unfold State.rampHead
  split
  · exact h
  · exact h.fset (.inl rfl)

theorem SwitchesOnly.opened {s t : State} (h : SwitchesOnly s t) (ps : List Paddock) :
    SwitchesOnly s (ps.foldl (fun x p => (x.fset (pstat p) 0).lower (pfault p)) t) :=
  List.foldlRecOn ps _ h fun _ hx _ _ => (hx.fset (.inl rfl)).fset (.inr rfl)

/-- Steps 1 and 2 of Table 04-3 after the straps and the count: the sequence stands at step 4. -/
theorem State.releaseStart_facts (s : State) (st : Straps) {u : State}
    (hu : (s.sampleStraps st).countEpisode = u) :
    (s.releaseStart st).rst = { u.rst with step := 4, step4Done := false, trimCopy := none } ∧
    (s.releaseStart st).bkup = u.bkup ∧ Quiet u (s.releaseStart st) ∧
    ∀ f : Fld, f.addr ≠ 0x40000100 → f.addr ≠ 0x40000108 →
      (s.releaseStart st).fget f = u.fget f := by
  unfold State.releaseStart
  rw [hu]
  extract_lets _ _ off s2 _ _ _ _ _ s3
  obtain ⟨r, he, hr⟩ : SwitchesOnly u s2 := (SwitchesOnly.refl u).opened off
  clear_value s2
  subst he
  obtain ⟨r', he', hr'⟩ : SwitchesOnly s3 s3.rampHead := (SwitchesOnly.refl s3).rampHead
  rw [he']
  exact ⟨rfl, rfl, .refl u, fun f h1 h2 => (hr' f h1 h2).trans (hr f h1 h2)⟩

/-- The two forms of the reset counter agree: it goes up by one (R97). -/
theorem State.countEpisode_agree {s : State} (hc : s.rst.counted = false)
    (hm : s.fget SYS_RSTCNT_COUNT = (~~~s.bkup.rstcntM).toNat)
    (hlt : s.fget SYS_RSTCNT_COUNT < 0xFFFFFFFF) :
    s.countEpisode = { s.fset SYS_RSTCNT_COUNT (s.fget SYS_RSTCNT_COUNT + 1) with
      bkup := { s.bkup with rstcntM := ~~~(BitVec.ofNat 32 (s.fget SYS_RSTCNT_COUNT + 1)) }
      rst := { s.rst with counted := true } } := by
  unfold State.countEpisode
  rw [if_neg (by simp [hc])]
  extract_lets c m cleared v s1 n s2
  have hcm : c = m := hm
  have hv : v = c := if_pos (.inl hcm)
  have hs1 : s1 = s := if_neg (by simp [hcm])
  have hn : n = c + 1 := by
    unfold n
    rw [hv]
    exact Nat.min_eq_left hlt
  clear_value s1 n
  subst hs1 hn
  rfl

/-- BKUP and the record of resets are beside the registers, memory and the lanes. -/
theorem fget_bkup_rst (s : State) (b : Bkup) (r : Rst) (f : Fld) :
    ({ s with bkup := b, rst := r } : State).fget f = s.fget f := rfl

theorem quiet_bkup_rst {s t : State} (b : Bkup) (r : Rst) (h : Quiet s t) :
    Quiet s { t with bkup := b, rst := r } := h

/-- What the count leaves: the counter, its copy in BKUP, and that the episode is counted. -/
theorem State.countEpisode_facts {s : State} (hc : s.rst.counted = false)
    (hm : s.fget SYS_RSTCNT_COUNT = (~~~s.bkup.rstcntM).toNat)
    (hlt : s.fget SYS_RSTCNT_COUNT < 0xFFFFFFFF) :
    s.countEpisode.rst = { s.rst with counted := true } ∧
    s.countEpisode.bkup.rstcntM = ~~~(BitVec.ofNat 32 (s.fget SYS_RSTCNT_COUNT + 1)) ∧
    Quiet s s.countEpisode ∧
    s.countEpisode.fget SYS_RSTCNT_COUNT = s.fget SYS_RSTCNT_COUNT + 1 ∧
    ∀ f : Fld, f.addr ≠ 0x40000008 → s.countEpisode.fget f = s.fget f := by
  have hfits : s.fget SYS_RSTCNT_COUNT + 1 < 2 ^ SYS_RSTCNT_COUNT.width := by
    simp only
    omega
  rw [countEpisode_agree hc hm hlt]
  refine ⟨rfl, rfl, quiet_bkup_rst _ _ (.fset (.refl s)), ?_, fun f hf => ?_⟩
  · rw [fget_bkup_rst, fget_fset_self _ _ _ (by decide), Nat.mod_eq_of_lt hfits]
  · rw [fget_bkup_rst, fget_fset_addr _ _ _ _ hf.symm]

/-- What sampling the straps leaves: the fields of SYS_PINSTAT. -/
theorem regs_sampleStraps (s : State) (st : Straps) :
    Regs s (s.sampleStraps st) [(SYS_PINSTAT_MODE, st.mode.toNat),
      (SYS_PINSTAT_TEST_EN, bitNat st.testEn), (SYS_PINSTAT_SLOT_ID, st.slotId.toNat)] :=
  (((Regs.refl s).fset (by decide) st.mode.isLt nofun).fset (by decide)
    (by cases st.testEn <;> decide) (by simp; decide)).fset (by decide) st.slotId.isLt
    (by simp; decide)

theorem quiet_sampleStraps (s : State) (st : Straps) : Quiet s (s.sampleStraps st) :=
  .fset (.fset (.fset (.refl s)))

/-- The release sequence starts in an episode that has not been counted yet. -/
theorem State.releaseStart_uncounted {s t : State} (st : Straps) (hc : s.rst.counted = false)
    (hm : s.fget SYS_RSTCNT_COUNT = (~~~s.bkup.rstcntM).toNat)
    (hlt : s.fget SYS_RSTCNT_COUNT < 0xFFFFFFFF) (ht : s.releaseStart st = t) :
    t.rst = { s.rst with step := 4, step4Done := false, trimCopy := none, counted := true } ∧
    t.fget SYS_RSTCNT_COUNT = s.fget SYS_RSTCNT_COUNT + 1 ∧
    t.bkup.rstcntM = ~~~(BitVec.ofNat 32 (s.fget SYS_RSTCNT_COUNT + 1)) ∧
    t.fget SYS_PINSTAT_MODE = st.mode.toNat ∧ t.fget SYS_PINSTAT_SLOT_ID = st.slotId.toNat ∧
    Quiet s t := by
  obtain ⟨hpins, hregs⟩ := regs_sampleStraps s st
  have hquiet := quiet_sampleStraps s st
  have hrst : (s.sampleStraps st).rst = s.rst := rfl
  have hbkup : (s.sampleStraps st).bkup = s.bkup := rfl
  have hcount : (s.sampleStraps st).fget SYS_RSTCNT_COUNT = s.fget SYS_RSTCNT_COUNT :=
    hregs _ (by simp; decide)
  obtain ⟨htrst, htbkup, htquiet, htfget⟩ := s.releaseStart_facts st rfl
  rw [ht] at htrst htbkup htquiet htfget
  generalize s.sampleStraps st = x at *
  obtain ⟨hurst, hucopy, huquiet, hucount, hufget⟩ :=
    x.countEpisode_facts (by rwa [hrst]) (by rwa [hcount, hbkup]) (by rwa [hcount])
  have hstraps : ∀ f : Fld, f.addr = 0x40000080 → t.fget f = x.fget f := fun f hf =>
    (htfget f (by omega) (by omega)).trans (hufget f (by omega))
  refine ⟨?_, ?_, ?_, ?_, ?_, hquiet.trans (huquiet.trans htquiet)⟩
  · rw [htrst, hurst, hrst]
  · rw [htfget _ (by decide) (by decide), hucount, hcount]
  · rw [htbkup, hucopy, hcount]
  · rw [hstraps _ rfl, hpins (SYS_PINSTAT_MODE, st.mode.toNat) (by simp)]
  · rw [hstraps _ rfl, hpins (SYS_PINSTAT_SLOT_ID, st.slotId.toNat) (by simp)]

theorem resetStretchExpiry_last {s : State} (src : StretchSrc) (st : Straps)
    (ha : s.rst.active = true) (hstep : s.rst.step = 0)
    (hs : s.rst.sources = [stretchSrc src]) (hc : s.rst.counted = false)
    (hm : s.fget SYS_RSTCNT_COUNT = (~~~s.bkup.rstcntM).toNat)
    (hlt : s.fget SYS_RSTCNT_COUNT < 0xFFFFFFFF) :
    Yields (exec (.resetStretchExpiry src st) s) (fun t =>
      t.rst.active = true ∧ t.rst.sources = [] ∧ t.rst.step = 4 ∧ t.rst.counted = true ∧
      t.fget SYS_RSTCNT_COUNT = s.fget SYS_RSTCNT_COUNT + 1 ∧
      t.bkup.rstcntM = ~~~(BitVec.ofNat 32 (s.fget SYS_RSTCNT_COUNT + 1)) ∧
      t.fget SYS_PINSTAT_MODE = st.mode.toNat ∧ t.fget SYS_PINSTAT_SLOT_ID = st.slotId.toNat ∧
      Quiet s t) := by
  refine .of_eq (congrArg Host.Outcome.next (releaseSource_last st ha hstep hs)) ?_
  obtain ⟨hrst, hrest⟩ :=
    releaseStart_uncounted (s := { s with rst := { s.rst with sources := [] } }) st hc hm hlt rfl
  rw [hrst]
  exact ⟨ha, rfl, rfl, rfl, hrest⟩

theorem resetNRelease_last {s : State} (st : Straps) (ha : s.rst.active = true)
    (hstep : s.rst.step = 0) (hs : s.rst.sources = [.resetN]) :
    exec (.resetNRelease st) s = .next (({ s with
      phys := { s.phys with resetNLow := false }
      rst := { s.rst with sources := [] } } : State).releaseStart st) :=
  congrArg Host.Outcome.next (releaseSource_last
    (s := { s with phys := { s.phys with resetNLow := false } }) st ha hstep hs)

theorem debugResetRelease_last {s : State} (st : Straps) (ha : s.rst.active = true)
    (hstep : s.rst.step = 0) (hs : s.rst.sources = [.debug]) (hl : s.rst.locals = []) :
    exec (.debugResetRelease st) s =
      .next (({ s with rst := { s.rst with sources := [] } } : State).releaseStart st) := by
  have hexec : exec (.debugResetRelease st) s =
    .next ((s.localReleased .debug).releaseSource .debug st) := rfl
  rw [hexec, localReleased_of_nil hl, releaseSource_last st ha hstep hs]

/-! ### Step 9 of the release (R80, Table 04-3) -/

theorem execRstOutMinLowExpiry_step8 {s : State} (ha : s.rst.active = true)
    (h : s.rst.step = 8) : exec .rstOutMinLowExpiry s =
      .next ({ s with rst := { s.rst with minLowDone := true } } : State).releaseEnd :=
  congrArg Host.Outcome.next ((if_pos ha).trans (if_pos h))

theorem State.factoryTest_false {s : State} (h : s.fget SYS_PINSTAT_TEST_EN = 0) :
    s.factoryTest = false := by simp [State.factoryTest, State.flag, h]

/-- A device in outstation mode forwards on the Fold link (R45). -/
theorem State.releaseEnd_outstation {s : State} (ht : s.fget SYS_PINSTAT_TEST_EN = 0)
    (hm : s.fget SYS_PINSTAT_MODE = 1) :
    s.releaseEnd = ({ s with
      rst := { s.rst with active := false, step := 9, sources := [] }
      pins := { s.pins with rstOut := true }
      now := { s.now with hubRun := true, hubNs := 0 } } : State).raise FLK_STAT_FWD := by
  unfold State.releaseEnd
  extract_lets mode _ _ _ s1
  have ht1 : s1.factoryTest = false := factoryTest_false ht
  have hmode : mode = 1 := hm
  rw [if_neg (by simp [hmode]), if_neg (by simp [ht1]), if_pos hmode]

/-- A reserved role holds functional reset (R45). -/
theorem State.releaseEnd_reserved {s : State} (ht : s.fget SYS_PINSTAT_TEST_EN = 0)
    (hm : 2 ≤ s.fget SYS_PINSTAT_MODE) : s.releaseEnd = s.raise BOOT_STAT_MODE_INVALID :=
  if_pos (by simp [factoryTest_false ht, hm])

theorem rstOutMinLowExpiry_outstation {s : State} (ha : s.rst.active = true)
    (h : s.rst.step = 8) (ht : s.fget SYS_PINSTAT_TEST_EN = 0)
    (hm : s.fget SYS_PINSTAT_MODE = 1) :
    Yields (exec .rstOutMinLowExpiry s) (fun t =>
      Regs s t [(FLK_STAT_FWD, 1)] ∧ Quiet s t ∧ t.rst.active = false ∧ t.rst.step = 9 ∧
      t.pins = { s.pins with rstOut := true } ∧ t.now.hubRun = true ∧ t.now.hubNs = 0) := by
  refine .of_eq ((execRstOutMinLowExpiry_step8 ha h).trans
    (congrArg Host.Outcome.next (releaseEnd_outstation ht hm))) ?_
  refine ⟨?_, .fset (.refl s), rfl, rfl, rfl, rfl, rfl⟩
  exact Regs.fset (Regs.of_regs rfl) (by decide) (by decide) nofun

theorem rstOutMinLowExpiry_reserved {s : State} (ha : s.rst.active = true)
    (h : s.rst.step = 8) (ht : s.fget SYS_PINSTAT_TEST_EN = 0)
    (hm : 2 ≤ s.fget SYS_PINSTAT_MODE) :
    Yields (exec .rstOutMinLowExpiry s) (fun t =>
      Regs s t [(BOOT_STAT_MODE_INVALID, 1)] ∧ Quiet s t ∧ t.rst.active = true ∧
      t.pins = s.pins) := by
  refine .of_eq ((execRstOutMinLowExpiry_step8 ha h).trans
    (congrArg Host.Outcome.next (releaseEnd_reserved ht hm))) ?_
  refine ⟨?_, .fset (.refl s), (congrArg Rst.active (fset_rst _ _ _)).trans ha,
    fset_pins _ _ _⟩
  exact Regs.fset (Regs.of_regs rfl) (by decide) (by decide) nofun

/-! ### Requests of the debugger and of software (R75, R78, R79, R89) -/

theorem State.debugLocal_allowed {s : State} {target : Nat} {fits : Bool}
    (h : s.localAllowed target = true) (hf : fits = true) :
    s.debugLocal target fits = ((s.answer .okay).localBegin target .debug).evalSets :=
  if_pos (by simp [h, hf])

theorem State.debugLocal_refused {s : State} {target : Nat} (fits : Bool)
    (h : s.localAllowed target = false) : s.debugLocal target fits = s.answer .target :=
  if_neg (by simp [h])

theorem debugResetCommand_local {s : State} {target : Nat} (h : s.localAllowed target = true) :
    (paddockTarget target = true → exec (.debugResetCommand true .paddock target) s =
      .next ((s.answer .okay).localBegin target .debug).evalSets) ∧
    (paddockTarget target = false → exec (.debugResetCommand true .unit target) s =
      .next ((s.answer .okay).localBegin target .debug).evalSets) :=
  ⟨fun hp => congrArg Host.Outcome.next (debugLocal_allowed h hp),
    fun hp => congrArg Host.Outcome.next (debugLocal_allowed h (by simp [hp]))⟩

theorem debugResetCommand_local_refused {s : State} {target : Nat}
    (h : s.localAllowed target = false) :
    exec (.debugResetCommand true .paddock target) s = refusedWith s ∧
    exec (.debugResetCommand true .unit target) s = refusedWith s :=
  ⟨congrArg Host.Outcome.next (debugLocal_refused _ h),
    congrArg Host.Outcome.next (debugLocal_refused _ h)⟩

theorem swrstDeviceWarm_asserts {s : State} (ha : s.accepts = true)
    (hen : s.fget SYS_RSTCFG_SW_WARM_EN = 1) :
    Yields (exec (.swrstDeviceWarm 0xA5) s) (fun t => Asserted s t .soft ∧ t.resp = .okay) := by
  have hkey : s.swrstWarm 0xA5 = (s.answer .okay).assertDevice .soft false :=
    if_pos ⟨rfl, by simp [State.flag, hen], ha⟩
  refine .of_eq (congrArg Host.Outcome.next hkey) ⟨?_, assertDevice_resp _ _ _⟩
  exact asserted_of_source ((s.answer .okay).assertDevice_asserted _ _) rfl rfl rfl

theorem toNat_eq_key {key : BitVec 8} : key.toNat = 0xA5 ↔ key = 0xA5 :=
  BitVec.toNat_inj (y := 0xA5)

theorem swrstDeviceWarm_refused {s : State} {key : BitVec 8}
    (h : key ≠ 0xA5 ∨ s.fget SYS_RSTCFG_SW_WARM_EN = 0 ∨ s.accepts = false) :
    exec (.swrstDeviceWarm key) s = refusedWith s := by
  refine congrArg Host.Outcome.next (if_neg ?_)
  rintro ⟨hkey, hen, hacc⟩
  rcases h with h | h | h
  · exact h (toNat_eq_key.1 hkey)
  · simp [State.flag, h] at hen
  · simp [h] at hacc

theorem State.swrstLocal_refused {s : State} {key : BitVec 8} {target : Nat} (paddock : Bool)
    (h : key ≠ 0xA5 ∨ s.fget SYS_RSTCFG_SW_LOCAL_EN = 0 ∨ s.accepts = false ∨
      s.localAllowed target = false) :
    s.swrstLocal key.toNat target paddock = s.answer .target := by
  refine if_neg ?_
  rintro ⟨hkey, hen, hallowed, -, hacc⟩
  rcases h with h | h | h | h
  · exact h (toNat_eq_key.1 hkey)
  · simp [State.flag, h] at hen
  · simp [h] at hacc
  · simp [h] at hallowed

theorem swrst_local_refused {s : State} {key : BitVec 8} {target : Nat}
    (h : key ≠ 0xA5 ∨ s.fget SYS_RSTCFG_SW_LOCAL_EN = 0 ∨ s.accepts = false ∨
      s.localAllowed target = false) :
    exec (.swrstPaddock key target) s = refusedWith s ∧
    exec (.swrstUnit key target) s = refusedWith s :=
  ⟨congrArg Host.Outcome.next (swrstLocal_refused true h),
    congrArg Host.Outcome.next (swrstLocal_refused false h)⟩

/-- Settles O23: a source asserts by the rules of an episode, ends by whether another one holds, and
a request by its key, its enable and its target. -/
theorem resetSources : Obligations.ResetSources := by
  intro s
  exact ⟨resetNLowFiltered_asserts s, resetNLowWidened_asserts,
    fun st _ => resetNRelease_held st, resetNRelease_last, resetStretchExpiry_last,
    fun src st _ => resetStretchExpiry_held src st, debugResetCommand_device s,
    fun _ => debugResetCommand_local, fun _ => debugResetCommand_local_refused,
    fun _ _ => rfl, fun st _ => debugResetRelease_held st, debugResetRelease_last,
    execRstOutMinLowExpiry_step8, rstOutMinLowExpiry_outstation, rstOutMinLowExpiry_reserved,
    swrstDeviceWarm_asserts, fun _ => swrstDeviceWarm_refused, fun _ _ => swrst_local_refused⟩

end Sys2Proof.Machine

namespace Sys2Proof.Machine

open Sys2Proof.Claims State

/-! ### A unit reset beside a FETCH (R90, R465) -/

theorem RegMap.word_clear (m : RegMap) (lo n a : Nat) :
    (m.clear lo n).word a = if lo ≤ a ∧ a < lo + n then regReset a else m.word a :=
  smGet_smClear regReset m lo n a

/-- A field outside a cleared range keeps its value. -/
theorem RegMap.fget_clear_outside (m : RegMap) {lo n : Nat} {f : Fld}
    (h : f.addr < lo ∨ lo + n ≤ f.addr) : (m.clear lo n).fget f = m.fget f := by
  unfold RegMap.fget
  rw [RegMap.word_clear, if_neg (by omega)]

/-- In a cleared range a field reads its reset value. -/
theorem RegMap.fget_clear_inside (m : RegMap) {lo n : Nat} {f : Fld}
    (h : lo ≤ f.addr ∧ f.addr < lo + n) :
    (m.clear lo n).fget f = bitsOf (regReset f.addr).toNat f.lo f.width := by
  unfold RegMap.fget
  rw [RegMap.word_clear, if_pos h]

theorem State.fetchPump_of_noFetch {s : State} (h : noFetch s = true) : s.fetchPump = s :=
  s.fetchPump_of_job fun a o l n g hj => by simp [noFetch, hj] at h

/-- Without a request for its window and without a FETCH the assertion of a unit outside the Fold
link bridge only resets the unit. -/
theorem State.localAssert_can0 {s : State} (hq : s.memx.hubQ = []) (hf : noFetch s = true) :
    s.localAssert 0x28 = (s.unitReset 0x28, 0) := by
  have hkept : s.memx.hubQ.filter (fun i => !targetHolds 0x28 i.req.addr) = s.memx.hubQ := by
    rw [hq, List.filter_nil]
  have hlost : s.memx.hubQ.filter (fun i => targetHolds 0x28 i.req.addr) = [] := by
    rw [hq, List.filter_nil]
  have hfold : (targetUnits 0x28).contains 0x2D = false := rfl
  unfold State.localAssert
  simp only [hkept, hlost, hfold]
  exact congrArg (fun x : State => (x.unitReset 0x28, 0)) (fetchPump_of_noFetch hf)

/-- The episode of a unit that a request has reset (R84, R90). -/
def can0Ep : LocalEp := { target := 0x28, src := .software, held := [], phase := .hold, wdrop := 0 }

theorem State.localBegin_can0 {s : State} (ha : s.rst.active = false) (hl : s.rst.locals = [])
    (hq : s.memx.hubQ = []) (hf : noFetch s = true) :
    s.localBegin 0x28 .software = { s with
      regs := s.regs.clear 0x40090000 0x4000
      can := vecUpd s.can 0 (fun _ => .reset)
      rst := { s.rst with locals := [can0Ep] } } := by
  have hover : s.localOver 0x28 = none := by rw [State.localOver, hl, List.find?_nil]
  have habsorb : s.localBegin 0x28 .software = s.localAbsorb can0Ep .software := by
    unfold State.localBegin
    rw [if_neg (by simp [ha]), hover]
    rfl
  have hself : ({ s with rst := { s.rst with locals := [] } } : State) = s := by
    rw [← hl]
  rw [habsorb]
  unfold State.localAbsorb
  rw [hl]
  simp only [List.filter_nil, List.foldl_nil, hself]
  rw [show can0Ep.target = 0x28 from rfl, localAssert_can0 hq hf]
  have hrst : (s.unitReset 0x28).rst.locals = [] := hl
  rw [hrst]
  rfl

theorem State.swrstLocal_accepted {s : State} {target : Nat} {paddock : Bool}
    (hen : s.fget SYS_RSTCFG_SW_LOCAL_EN = 1) (ht : s.localAllowed target = true)
    (hp : paddockTarget target = paddock) (hacc : s.accepts = true) :
    s.swrstLocal 0xA5 target paddock =
      ((s.answer .okay).localBegin target .software).evalSets :=
  if_pos ⟨rfl, by simp [State.flag, hen], ht, hp, hacc⟩

theorem State.active_of_accepts {s : State} (h : s.accepts = true) : s.rst.active = false := by
  simp only [State.accepts, Bool.and_eq_true, Bool.not_eq_true'] at h
  exact h.2

/-- The clause of O24 on CAN 0 holds where no FETCH is under way. -/
theorem swrstUnit_can0_of_noFetch {s : State} (hacc : s.accepts = true)
    (hidle : s.inService = false) (hl : s.rst.locals = []) (hq : s.memx.hubQ = [])
    (hen : s.fget SYS_RSTCFG_SW_LOCAL_EN = 1) (hf : noFetch s = true) :
    Yields (exec (.swrstUnit 0xA5 0x28) s) (fun t =>
      t.resp = .okay ∧ Quiet s t ∧ t.rst = { s.rst with locals := [can0Ep] } ∧
      RegsOutside s t 0x40090000 0x40094000 ∧ t.fget (CAN_n_CFG_MODE 0) = 0) := by
  have hexec := swrstLocal_accepted (target := 0x28) (paddock := false) hen rfl rfl hacc
  have hbegin := localBegin_can0 (s := s.answer .okay) (active_of_accepts hacc) hl hq hf
  have hkeep : RegsOutside s ((s.answer .okay).localBegin 0x28 .software)
      0x40090000 0x40094000 := by
    intro f h
    rw [hbegin]
    exact RegMap.fget_clear_outside s.regs (n := 0x4000) h
  have hmode : ((s.answer .okay).localBegin 0x28 .software).fget (CAN_n_CFG_MODE 0) = 0 := by
    rw [hbegin]
    refine (RegMap.fget_clear_inside s.regs (by decide)).trans ?_
    decide +kernel
  have hidle' : ((s.answer .okay).localBegin 0x28 .software).inService = false := by
    unfold State.inService at hidle ⊢
    rw [hkeep BOOT_STAT_PHASE (.inl (by decide)), hbegin]
    exact hidle
  rw [evalSets_idle (.inl hidle')] at hexec
  refine .of_eq (congrArg Host.Outcome.next hexec) ⟨?_, ?_, ?_, hkeep, hmode⟩
  all_goals rw [hbegin]
  · rfl
  · exact ⟨rfl, rfl, fun _ => rfl, rfl⟩
  · rfl

/-- A FETCH of 8 bytes whose only read has been answered, before its bytes are written. -/
def fetchAnswered : State :=
  (({ State.reset with
      rst := { State.reset.rst with active := false, sources := [], step := 9 }
      upd := { Upd.reset with job := some (.fetch 0x60000000 0 8 1 [(0, 0, 0)]) } } : State).fset
    SYS_RSTCFG_SW_LOCAL_EN 1).fset UPD_STAT_STATE 4

theorem fetchAnswered_accepts : fetchAnswered.accepts = true := by decide +kernel

theorem fetchAnswered_idle : fetchAnswered.inService = false := by decide +kernel

theorem fetchAnswered_localEn : fetchAnswered.fget SYS_RSTCFG_SW_LOCAL_EN = 1 := by
  decide +kernel

theorem fetchAnswered_state : fetchAnswered.fget UPD_STAT_STATE = 4 := by decide +kernel

/-- Resetting CAN 0 lets the FETCH write its bytes: the command ends, and UPD_STAT shows it. -/
theorem fetchAnswered_swrstUnit_state :
    (fetchAnswered.swrstLocal 0xA5 0x28 false).fget UPD_STAT_STATE = 2 := by decide +kernel

/-- Refutes O24: its third clause has a software reset of CAN 0 change no register outside CAN 0's
range. The assertion of any local reset also takes a running FETCH of the update unit further, and
no hypothesis of the clause excludes one: below, its only read has been answered, so the reset of
CAN 0 ends it, and UPD_STAT.STATE goes from 4 (fetching) to 2 (open). Without a FETCH the clause
holds (`swrstUnit_can0_of_noFetch`). -/
theorem not_localResetsAndTrims : ¬ Obligations.LocalResetsAndTrims := by
  intro h
  obtain ⟨-, -, hunit, -⟩ := h fetchAnswered
  obtain ⟨t, ht, -, -, -, houtside, -⟩ :=
    hunit fetchAnswered_accepts fetchAnswered_idle rfl rfl fetchAnswered_localEn
  obtain rfl := Host.Outcome.next.inj ht
  have hsame := houtside UPD_STAT_STATE (.inr (by decide))
  rw [fetchAnswered_state] at hsame
  exact absurd (fetchAnswered_swrstUnit_state.symm.trans hsame) (by decide)

end Sys2Proof.Machine

namespace Sys2Proof.Machine

open Sys2Proof.Claims State

/-! ### The code of a clock fault through a reset of device reach (R105, R86) -/

/-- In a canonical map a reset works on the word that a read of the register finds. -/
theorem RegMap.word_afterReset_of_wf {m : RegMap} (cold : Bool) (h : regWf m = true) {a : Nat}
    (ha : regAfterReset cold a (regReset a) = regReset a) :
    (m.afterReset cold).word a = regAfterReset cold a (m.word a) :=
  word_foldl_afterResetStep cold h ha.symm

theorem regReset_fcause : regReset 0x40000208 = 0 := by decide +kernel

/-- CLK_FCAUSE.CODE is held in BKUP (Table 05-8): a reset keeps it. -/
theorem regAfterReset_fcause (cold : Bool) (w : Word) :
    regAfterReset cold 0x40000208 w = w &&& 0xF := by
  have hmask : ∀ c : Bool, ∃ r, regAt 0x40000208 = some r ∧
      r.maskWhere (fun f => f.keep = .kept ∨ (f.keep = .cold ∧ !c)) = 0xF := by
    decide +kernel
  obtain ⟨r, hr, hk⟩ := hmask cold
  unfold regAfterReset
  rw [hr]
  simp only [hk, regReset_fcause]
  simp

theorem afterReset_fcause {m : RegMap} (cold : Bool) (h : regWf m = true) :
    (m.afterReset cold).fget CLK_FCAUSE_CODE = m.fget CLK_FCAUSE_CODE := by
  have hword : (m.afterReset cold).word 0x40000208 = m.word 0x40000208 &&& 0xF := by
    rw [RegMap.word_afterReset_of_wf cold h, regAfterReset_fcause]
    rw [regReset_fcause, regAfterReset_fcause]
    rfl
  unfold RegMap.fget
  rw [hword, bitsOf_toNat, bitsOf_toNat, BitVec.extractLsb'_and]
  congr 1
  exact BitVec.and_allOnes

/-- In an episode a reset of a canonical register map keeps the code of the clock fault. -/
theorem State.assertDevice_fcause {s : State} {src : RstSrc} {cold : Bool}
    (ha : s.rst.active = true) (hw : regWf s.regs = true) :
    (s.assertDevice src cold).fget CLK_FCAUSE_CODE = s.fget CLK_FCAUSE_CODE := by
  obtain ⟨c, v, e⟩ := s.episodeJoin_eq cold
  obtain ⟨-, -, hclear⟩ := s.deviceClear_facts c
  rw [assertDevice_fget, if_pos ha, fget_fset_addr _ _ _ _ (by simp), e,
    fget_fset_addr _ _ _ _ (by simp), hclear _ (by decide)]
  exact afterReset_fcause c hw

/-- In an episode a clock fault takes no step of R23: the clock source joins. -/
theorem State.clockFault_active {s : State} (code : Nat) (ha : s.rst.active = true) :
    ∃ u : State, s.clockFault code = u.assertDevice .clock false ∧
      u.regs = (s.fset CLK_FCAUSE_CODE code).regs ∧ u.rst = s.rst ∧ u.mem = s.mem ∧
      u.flash = s.flash ∧ u.pending = s.pending := by
  unfold State.clockFault
  extract_lets s1 s2 _ s3
  have h2 : s2 = s1 := if_neg (by simp [s1, ha])
  have hregs : s1.regs = (s.fset CLK_FCAUSE_CODE code).regs := rfl
  have hrst : s1.rst = s.rst := fset_rst _ _ _
  have hmem : s1.mem = s.mem := fset_mem _ _ _
  have hflash : s1.flash = s.flash := fset_flash _ _ _
  have hpending : s1.pending = s.pending := fset_pending _ _ _
  clear_value s1 s2
  subst h2
  exact ⟨s3, rfl, hregs, hrst, hmem, hflash, hpending⟩

theorem execHrc1QualTimeout_late {s : State} (ha : s.rst.active = true) (h4 : s.rst.step = 4)
    (hq : s.clk.qual = .off ∨ s.clk.qual = .trim ∨ s.clk.qual = .hrc1) :
    exec .hrc1QualTimeout s = .next (s.clockFault 3) :=
  congrArg Host.Outcome.next (if_pos ⟨ha, h4, hq⟩)

/-- The clause of O25 on HRC_1 holds where the register map is canonical. -/
theorem hrc1QualTimeout_of_canonical {s : State} (hw : regWf s.regs = true)
    (ha : s.rst.active = true) (h4 : s.rst.step = 4)
    (hq : s.clk.qual = .off ∨ s.clk.qual = .trim ∨ s.clk.qual = .hrc1) :
    Yields (exec .hrc1QualTimeout s) (fun t =>
      Asserted s t .clock ∧ t.fget CLK_FCAUSE_CODE = 3) := by
  obtain ⟨u, he, hregs, hrst, hmem, hflash, hpending⟩ := clockFault_active 3 ha
  have hu : regWf u.regs = true := hregs ▸ regWf_fset CLK_FCAUSE_CODE 3 hw
  refine .of_eq (execHrc1QualTimeout_late ha h4 hq) ?_
  rw [he]
  refine ⟨asserted_of_source (u.assertDevice_facts .clock false).1 hmem hflash hpending, ?_⟩
  rw [assertDevice_fcause (hrst ▸ ha) hu, fget_congr hregs]
  exact fget_fset_self s CLK_FCAUSE_CODE 3 (by decide)

/-- Step 4 of the release with a register map that lists CLK_FCAUSE twice. -/
def fcauseTwice : State :=
  { State.reset with
    regs := [(0x40000208, 0), (0x40000208, 0)]
    rst := { State.reset.rst with step := 4 } }

theorem fcauseTwice_clockFault_code : (fcauseTwice.clockFault 3).fget CLK_FCAUSE_CODE = 0 := by
  decide +kernel

/-- Refutes O25: its clause on HRC_1 not qualified in time has the clock fault leave code 3 in
CLK_FCAUSE. A reset of device reach goes through the entries of the register map and keeps what the
last one of a register holds, where a write changes the first; no hypothesis of the clause excludes
a map that lists CLK_FCAUSE twice, and below the code then reads 0. No run lists a register twice
(`stepsKeepCanonicalForms`), and for a map in canonical form the clause holds
(`hrc1QualTimeout_of_canonical`). -/
theorem not_clockQualification : ¬ Obligations.ClockQualification := by
  intro h
  obtain ⟨-, -, -, -, -, -, -, -, -, -, -, -, -, hlate, -⟩ := h fcauseTwice
  obtain ⟨t, ht, -, hcode⟩ := hlate rfl rfl (.inl rfl)
  obtain rfl := Host.Outcome.next.inj
    ((execHrc1QualTimeout_late (s := fcauseTwice) rfl rfl (.inl rfl)).symm.trans ht)
  exact absurd (fcauseTwice_clockFault_code.symm.trans hcode) (by decide)

end Sys2Proof.Machine

namespace Sys2Proof.Machine

open Sys2Proof.Claims State

/-! ### Disciplining (R116, R117) -/

theorem toSigned_eq_toInt (v : Nat) : toSigned 16 v = (BitVec.ofNat 16 v).toInt := by
  rw [toSigned, BitVec.toInt_eq_toNat_cond, BitVec.toNat_ofNat]
  split <;> split <;> omega

theorem ofSigned_eq_toNat (w : Nat) (x : Int) : ofSigned w x = (BitVec.ofInt w x).toNat := by
  simp [ofSigned, BitVec.toNat_ofInt]

/-- From inside the limit a step that ends inside it or at it moves by the sign of the error; the
limit is shown, and reported when the step has reached it. -/
theorem discMove_within {ofs err v : Int} {lim : Nat} (hv : v = ofs + err.sign)
    (hofs : ofs.natAbs ≤ lim) (hlim : v.natAbs ≤ lim) :
    discMove ofs err lim =
      (v, if v.natAbs = lim then 3 else 1, decide (v.natAbs = lim ∧ err ≠ 0)) := by
  unfold discMove
  extract_lets bound moved atLim
  have hmove : moved = v := by
    simp only [moved, bound]
    rw [if_neg (by omega), if_neg (by omega)]
    rcases lt_trichotomy err 0 with h | rfl | h
    · rw [Int.sign_eq_neg_one_of_neg h] at hv
      rw [if_neg (by omega), if_pos h]
      omega
    · simpa using hv.symm
    · rw [Int.sign_eq_one_of_pos h] at hv
      rw [if_pos h]
      omega
  have hmoved : v ≠ ofs ↔ err ≠ 0 := by
    rw [hv, ne_eq, add_eq_left, Int.sign_eq_zero_iff_zero]
  have hat : (v = (lim : Int) ∨ v = -(lim : Int)) ↔ v.natAbs = lim := by omega
  have hbeyond : (v ≥ (lim : Int) ∨ v ≤ -(lim : Int)) ↔ v.natAbs = lim := by omega
  simp only [atLim, bound, hmove, ← Bool.decide_or, ← Bool.decide_and, hat, hbeyond, hmoved,
    decide_eq_true_eq]

theorem discOfsF_fits (o : Hrc) : (discOfsF o).lo + (discOfsF o).width ≤ 32 := by
  cases o <;> decide

theorem discOfsF_width (o : Hrc) : (discOfsF o).width = 16 := by cases o <;> rfl

theorem discStF_fits (o : Hrc) : (discStF o).lo + (discStF o).width ≤ 32 := by
  cases o <;> decide

theorem discStF_width (o : Hrc) : (discStF o).width = 2 := by cases o <;> rfl

theorem discStF_addr (o : Hrc) : (discStF o).addr = 0x40000200 := by cases o <;> rfl

theorem discOfsF_addr (o : Hrc) : (discOfsF o).addr = 0x40000210 := by cases o <;> rfl

/-- A state of disciplining written after other fields, none of them in CLK_STAT. -/
theorem regs_discSt {s t : State} {fs : List (Fld × Nat)} (o : Hrc) {v : Nat} (h : Regs s t fs)
    (hv : v < 4) (hfs : ∀ p ∈ fs, 0x40000200 ≠ p.1.addr) :
    Regs s (t.fset (discStF o) v) (fs ++ [(discStF o, v)]) :=
  h.fset (discStF_fits o) (by rw [discStF_width]; exact hv)
    fun p hp => Fld.apart_of_addr (by rw [discStF_addr]; exact hfs p hp)

/-- What a step makes of the outcome of `discMove`. -/
def State.disciplined (s : State) (o : Hrc) (r : Int × Nat × Bool) : State :=
  ((s.fset (discOfsF o) (BitVec.ofInt 16 r.1).toNat).fset (discStF o) r.2.1).when r.2.2
    (fun x => x.raise CLK_EVT_DISC_LIMIT)

/-- A step by whether there is a source and whether it is available, for either oscillator. -/
theorem disciplineStep_eq (o : Hrc) (err : Int) (s : State) :
    exec (.disciplineStep o err) s =
      .next (if s.fget (discSrcF o) = 0 then s.fset (discStF o) 0
        else if !s.discAvail (s.fget (discSrcF o)) then
          (s.when (s.fget (discStF o) ≠ 2) (fun x => x.raise CLK_EVT_DISC_HOLD)).fset (discStF o) 2
        else s.disciplined o
          (discMove (discOfs s o) err (min (s.fget CLK_DISC_LIMIT) 500))) := by
  rw [State.disciplined, discOfs, ← toSigned_eq_toInt, ← ofSigned_eq_toNat]
  cases o <;> rfl

theorem disciplineStep_holds {s : State} {o : Hrc} (err : Int) (h : s.fget (discSrcF o) ≠ 0)
    (ha : s.discAvail (s.fget (discSrcF o)) = false) (hst : s.fget (discStF o) ≠ 2) :
    exec (.disciplineStep o err) s =
      .next ((s.raise CLK_EVT_DISC_HOLD).fset (discStF o) 2) := by
  rw [disciplineStep_eq, if_neg h, if_pos (by simp [ha]), decide_eq_true hst, when_true]

theorem disciplineStep_moves {s : State} {o : Hrc} {err : Int} {r : Int × Nat × Bool}
    (h : s.fget (discSrcF o) ≠ 0) (ha : s.discAvail (s.fget (discSrcF o)) = true)
    (hm : discMove (discOfs s o) err (min (s.fget CLK_DISC_LIMIT) 500) = r) :
    exec (.disciplineStep o err) s = .next (s.disciplined o r) := by
  rw [disciplineStep_eq, if_neg h, if_neg (by simp [ha]), hm]

theorem regs_disciplined (s : State) (o : Hrc) (v : Int) {st : Nat} (hst : st < 4) :
    Regs s ((s.fset (discOfsF o) (BitVec.ofInt 16 v).toNat).fset (discStF o) st)
      [(discOfsF o, (BitVec.ofInt 16 v).toNat), (discStF o, st)] := by
  have hofs := (Regs.refl s).fset (discOfsF_fits o) (v := (BitVec.ofInt 16 v).toNat)
    (by rw [discOfsF_width]; exact BitVec.isLt _) nofun
  exact regs_discSt o hofs hst (by simp [discOfsF_addr])

theorem disciplineStep_inside {s : State} {o : Hrc} {err v : Int}
    (h : s.fget (discSrcF o) ≠ 0) (ha : s.discAvail (s.fget (discSrcF o)) = true)
    (hv : v = discOfs s o + err.sign)
    (hlo : -(min (s.fget CLK_DISC_LIMIT) 500 : Int) < v)
    (hhi : v < min (s.fget CLK_DISC_LIMIT) 500)
    (hofsLo : -(min (s.fget CLK_DISC_LIMIT) 500 : Int) ≤ discOfs s o)
    (hofsHi : discOfs s o ≤ min (s.fget CLK_DISC_LIMIT) 500) :
    Yields (exec (.disciplineStep o err) s) (fun t =>
      Regs s t [(discOfsF o, (BitVec.ofInt 16 v).toNat), (discStF o, 1)] ∧ Quiet s t) := by
  have hm := discMove_within (lim := min (s.fget CLK_DISC_LIMIT) 500) hv (by omega) (by omega)
  have hne : v.natAbs ≠ min (s.fget CLK_DISC_LIMIT) 500 := by omega
  simp only [hne, if_false, false_and, decide_false] at hm
  exact .of_eq (disciplineStep_moves h ha hm)
    ⟨regs_disciplined s o v (st := 1) (by decide), .fset (.fset (.refl s))⟩

theorem disciplineStep_atLimit {s : State} {o : Hrc} {err v : Int}
    (h : s.fget (discSrcF o) ≠ 0) (ha : s.discAvail (s.fget (discSrcF o)) = true)
    (hv : v = discOfs s o + err.sign) (herr : err ≠ 0)
    (hlim : v.natAbs = min (s.fget CLK_DISC_LIMIT) 500)
    (hofs : (discOfs s o).natAbs < min (s.fget CLK_DISC_LIMIT) 500) :
    Yields (exec (.disciplineStep o err) s) (fun t =>
      Regs s t [(discOfsF o, (BitVec.ofInt 16 v).toNat), (discStF o, 3),
        (CLK_EVT_DISC_LIMIT, 1)] ∧ Quiet s t) := by
  have hm := discMove_within hv hofs.le hlim.le
  simp only [hlim, herr, if_true, ne_eq, not_false_iff, and_self, decide_true] at hm
  exact .of_eq (disciplineStep_moves h ha hm)
    ⟨(regs_disciplined s o v (st := 3) (by decide)).fset (by decide) (by decide)
      (by simp [Fld.apart, discOfsF_addr, discStF_addr]), .fset (.fset (.fset (.refl s)))⟩

theorem disciplineStep_sourceGone {s : State} {o : Hrc} (err : Int)
    (h : s.fget (discSrcF o) ≠ 0) (ha : s.discAvail (s.fget (discSrcF o)) = false)
    (hst : s.fget (discStF o) ≠ 2) :
    Yields (exec (.disciplineStep o err) s) (fun t =>
      Regs s t [(CLK_EVT_DISC_HOLD, 1), (discStF o, 2)] ∧ Quiet s t) := by
  have hevt := (Regs.refl s).fset (f := CLK_EVT_DISC_HOLD) (v := 1) (by decide) (by decide) nofun
  exact .of_eq (disciplineStep_holds err h ha hst)
    ⟨regs_discSt o hevt (by decide) (by simp), .fset (.fset (.refl s))⟩

theorem disciplineStep_noSource {s : State} {o : Hrc} (err : Int)
    (h : s.fget (discSrcF o) = 0) :
    Yields (exec (.disciplineStep o err) s) (fun t =>
      Regs s t [(discStF o, 0)] ∧ Quiet s t) :=
  .of_eq ((disciplineStep_eq o err s).trans (congrArg Host.Outcome.next (if_pos h)))
    ⟨regs_discSt o (.refl s) (by decide) nofun, .fset (.refl s)⟩

/-! ### A record beside the registers, memory and the lanes -/

theorem regs_clk {s t : State} {fs : List (Fld × Nat)} (c : Clk) (h : Regs s t fs) :
    Regs s { t with clk := c } fs := h

theorem quiet_clk {s t : State} (c : Clk) (h : Quiet s t) : Quiet s { t with clk := c } := h

theorem regs_pins {s t : State} {fs : List (Fld × Nat)} (p : Pins) (h : Regs s t fs) :
    Regs s { t with pins := p } fs := h

theorem quiet_pins {s t : State} (p : Pins) (h : Quiet s t) : Quiet s { t with pins := p } := h

/-! ### What a gate request is judged by (R118) -/

theorem gateF_addr (c : Nat) : (gateF c).addr = 0x4000021C := by rw [gateF_eq]

theorem gateF_width (c : Nat) : (gateF c).width = 1 := by rw [gateF_eq]

theorem gateF_fits {c : Nat} (h : gateCode c = true) :
    (gateF c).lo + (gateF c).width ≤ 32 := by
  simp only [gateCode, Bool.or_eq_true, decide_eq_true_eq] at h
  unfold gateF
  split_ifs
  · decide
  · decide
  · simp only
    omega

/-- A request that is taken up: its code is shown and its write answered. -/
def State.gateTaken (s : State) (c : Nat) : State := (s.fset CLK_GSTAT_CODE c).answer .okay

/-- Taking a request up leaves the register fields outside CLK_GSTAT. -/
theorem State.gateTaken_fget (s : State) (c : Nat) {f : Fld} (h : f.addr ≠ 0x40000218) :
    (s.gateTaken c).fget f = s.fget f := s.fget_fset_addr CLK_GSTAT_CODE f c h.symm

theorem State.gateTaken_boot (s : State) (c : Nat) : (s.gateTaken c).boot = s.boot := rfl

theorem State.gateTaken_clk (s : State) (c : Nat) : (s.gateTaken c).clk = s.clk := rfl

theorem State.gateTaken_canMode (s : State) (c n : Nat) :
    (s.gateTaken c).fget (CAN_n_CFG_MODE n) = s.fget (CAN_n_CFG_MODE n) :=
  s.gateTaken_fget c (by simp only; omega)

theorem State.gateTaken_signalUnused (s : State) (c : Nat) :
    (s.gateTaken c).signalUnused = s.signalUnused := by
  have hch : ∀ n, (s.gateTaken c).fget (SIG_CH_n_CFG_EN n) = s.fget (SIG_CH_n_CFG_EN n) :=
    fun n => s.gateTaken_fget c (by simp only; omega)
  simp only [State.signalUnused, hch]

theorem State.gateTaken_busUnused (s : State) (c : Nat) :
    (s.gateTaken c).busUnused = s.busUnused := by
  simp only [State.busUnused, gateTaken_canMode, s.gateTaken_fget c (f := DRV_CFG_EN) (by decide),
    s.gateTaken_fget c (f := FLK_CFG_EN) (by decide),
    s.gateTaken_fget c (f := PAIR_CFG_EN) (by decide)]

/-- Whether a unit is configured does not depend on CLK_GSTAT. -/
theorem State.gateTaken_gateUsed (s : State) (c k : Nat) :
    (s.gateTaken c).gateUsed k = s.gateUsed k := by
  unfold State.gateUsed State.pdeUsed State.flag
  simp only [gateTaken_boot, gateTaken_signalUnused, gateTaken_busUnused, gateTaken_canMode,
    s.gateTaken_fget c (f := TIM_CFG_MODE) (by decide),
    s.gateTaken_fget c (f := DRV_CFG_EN) (by decide),
    s.gateTaken_fget c (f := FLK_CFG_EN) (by decide),
    s.gateTaken_fget c (f := PAIR_CFG_EN) (by decide)]
  rfl

theorem State.gateTaken_gate (s : State) (c k : Nat) :
    (s.gateTaken c).flag (gateF k) = s.flag (gateF k) := by
  rw [State.flag, State.flag, s.gateTaken_fget c (by rw [gateF_addr]; decide)]

theorem State.gateTaken_gateRefused (s : State) (c k : Nat) (opening : Bool) :
    (s.gateTaken c).gateRefused k opening = s.gateRefused k opening := by
  simp only [State.gateRefused, gateTaken_gateUsed, gateTaken_gate, gateTaken_clk]

theorem State.regs_gateTaken (s : State) (code : BitVec 8) :
    Regs s (s.gateTaken code.toNat) [(CLK_GSTAT_CODE, code.toNat)] :=
  regs_answer ((Regs.refl s).fset (by decide) code.isLt nofun)

theorem State.quiet_gateTaken (s : State) (c : Nat) : Quiet s (s.gateTaken c) :=
  quiet_answer (.fset (.refl s))

/-! ### Requests to the gates (R118, R119) -/

/-- A write of CLK_GATE that names a gate while none is pending, by R118 and the gate's position. -/
theorem State.gateWrite_taken {s : State} {c : Nat} (opening : Bool)
    (hp : s.fget CLK_GSTAT_PENDING = 0) (hc : gateCode c = true) :
    s.gateWrite c opening =
      if s.gateRefused c opening then (s.gateTaken c).fset CLK_GSTAT_RESULT 2
      else if opening then
        { (s.gateTaken c).fset CLK_GSTAT_RESULT 1 with
          clk := { s.clk with opening := s.clk.opening ++ [c] } }
      else if !s.flag (gateF c) then
        { (s.gateTaken c).fset CLK_GSTAT_RESULT 1 with
          clk := { s.clk with opening := s.clk.opening.filter (· ≠ c) } }
      else ((s.gateTaken c).fset CLK_GSTAT_RESULT 0).raise CLK_GSTAT_PENDING := by
  rw [← s.gateTaken_gateRefused c, ← s.gateTaken_gate c]
  exact if_neg (by simp [State.flag, hp, hc])

theorem State.gateWrite_refused {s : State} {c : Nat} (opening : Bool)
    (h : s.fget CLK_GSTAT_PENDING = 1 ∨ gateCode c = false) :
    s.gateWrite c opening = s.answer .target :=
  if_pos (by simpa [State.flag] using h)

/-- The result of a request follows its code in CLK_GSTAT. -/
theorem State.regs_gateResult (s : State) (code : BitVec 8) {r : Nat} (hr : r < 4) :
    Regs s ((s.gateTaken code.toNat).fset CLK_GSTAT_RESULT r)
      [(CLK_GSTAT_CODE, code.toNat), (CLK_GSTAT_RESULT, r)] :=
  (s.regs_gateTaken code).fset (by decide) hr (by simp; decide)

theorem clkGateClose_pends {s : State} {code : BitVec 8} (hp : s.fget CLK_GSTAT_PENDING = 0)
    (hr : s.gateRefused code.toNat false = false) (ho : s.fget (gateF code.toNat) = 1)
    (hc : gateCode code.toNat = true) :
    Yields (exec (.clkGateClose code) s) (fun t =>
      Regs s t [(CLK_GSTAT_CODE, code.toNat), (CLK_GSTAT_RESULT, 0), (CLK_GSTAT_PENDING, 1)] ∧
      Quiet s t ∧ t.resp = .okay) := by
  have hw := gateWrite_taken false hp hc
  rw [if_neg (by simp [hr]), if_neg Bool.false_ne_true, if_neg (by simp [State.flag, ho])] at hw
  exact .of_eq (congrArg Host.Outcome.next hw)
    ⟨(s.regs_gateResult code (by decide)).fset (by decide) (by decide) (by simp; decide),
      .fset (.fset (s.quiet_gateTaken _)), rfl⟩

theorem clkGateClose_closed {s : State} {code : BitVec 8} (hp : s.fget CLK_GSTAT_PENDING = 0)
    (hr : s.gateRefused code.toNat false = false) (ho : s.fget (gateF code.toNat) = 0)
    (hc : gateCode code.toNat = true) :
    Yields (exec (.clkGateClose code) s) (fun t =>
      Regs s t [(CLK_GSTAT_CODE, code.toNat), (CLK_GSTAT_RESULT, 1)] ∧ Quiet s t ∧
      t.resp = .okay ∧
      t.clk = { s.clk with opening := s.clk.opening.filter (· ≠ code.toNat) }) := by
  have hw := gateWrite_taken false hp hc
  rw [if_neg (by simp [hr]), if_neg Bool.false_ne_true, if_pos (by simp [State.flag, ho])] at hw
  exact .of_eq (congrArg Host.Outcome.next hw)
    ⟨regs_clk _ (s.regs_gateResult code (by decide)), quiet_clk _ (.fset (s.quiet_gateTaken _)),
      rfl, rfl⟩

theorem clkGateOpen_opens {s : State} {code : BitVec 8} (hp : s.fget CLK_GSTAT_PENDING = 0)
    (hr : s.gateRefused code.toNat true = false) (hc : gateCode code.toNat = true) :
    Yields (exec (.clkGateOpen code) s) (fun t =>
      Regs s t [(CLK_GSTAT_CODE, code.toNat), (CLK_GSTAT_RESULT, 1)] ∧ Quiet s t ∧
      t.clk = { s.clk with opening := s.clk.opening ++ [code.toNat] } ∧ t.resp = .okay) := by
  have hw := gateWrite_taken true hp hc
  rw [if_neg (by simp [hr]), if_pos rfl] at hw
  exact .of_eq (congrArg Host.Outcome.next hw)
    ⟨regs_clk _ (s.regs_gateResult code (by decide)), quiet_clk _ (.fset (s.quiet_gateTaken _)),
      rfl, rfl⟩

theorem clkGate_exec (s : State) (code : BitVec 8) (b : Bool) :
    exec (if b then .clkGateOpen code else .clkGateClose code) s =
      .next (s.gateWrite code.toNat b) := by
  cases b <;> rfl

theorem clkGate_refusedByUse {s : State} {code : BitVec 8} (b : Bool)
    (hp : s.fget CLK_GSTAT_PENDING = 0) (hr : s.gateRefused code.toNat b = true)
    (hc : gateCode code.toNat = true) :
    Yields (exec (if b then .clkGateOpen code else .clkGateClose code) s) (fun t =>
      Regs s t [(CLK_GSTAT_CODE, code.toNat), (CLK_GSTAT_RESULT, 2)] ∧ Quiet s t ∧
      t.resp = .okay) := by
  have hw := gateWrite_taken b hp hc
  rw [if_pos hr] at hw
  exact .of_eq ((clkGate_exec s code b).trans (congrArg Host.Outcome.next hw))
    ⟨s.regs_gateResult code (by decide), .fset (s.quiet_gateTaken _), rfl⟩

theorem clkGate_refusedByTarget {s : State} {code : BitVec 8}
    (h : s.fget CLK_GSTAT_PENDING = 1 ∨ gateCode code.toNat = false) :
    exec (.clkGateClose code) s = refusedWith s ∧ exec (.clkGateOpen code) s = refusedWith s :=
  ⟨congrArg Host.Outcome.next (gateWrite_refused false h),
    congrArg Host.Outcome.next (gateWrite_refused true h)⟩

/-! ### The end of a request to a gate (R119) -/

/-- A gate's bit of CLK_GMAP moves. -/
theorem regs_gateF (s : State) {c v : Nat} (hc : gateCode c = true) (hv : v < 2) :
    Regs s (s.fset (gateF c) v) [(gateF c, v)] :=
  (Regs.refl s).fset (gateF_fits hc) (by rw [gateF_width]; exact hv) nofun

theorem busQuietHandshake_closes {s : State} {n : Nat} (hp : s.fget CLK_GSTAT_PENDING = 1)
    (hn : s.fget CLK_GSTAT_CODE = n) (hc : gateCode n = true) :
    Yields (exec .busQuietHandshake s) (fun t =>
      Regs s t [(gateF n, 0), (CLK_GSTAT_PENDING, 0), (CLK_GSTAT_RESULT, 1)] ∧ Quiet s t) := by
  subst hn
  refine .of_eq (congrArg Host.Outcome.next (if_pos (by simp [State.flag, hp]))) ⟨?_, ?_⟩
  · exact ((regs_gateF s hc (by decide)).fset (f := CLK_GSTAT_PENDING) (by decide) (by decide)
      (by simp [Fld.apart, gateF_addr])).fset (by decide) (by decide)
      (by simp [Fld.apart, gateF_addr])
  · exact .fset (.fset (.fset (.refl s)))

theorem gateCloseTimeout_busy {s : State} (hp : s.fget CLK_GSTAT_PENDING = 1) :
    Yields (exec .gateCloseTimeout s) (fun t =>
      Regs s t [(CLK_GSTAT_PENDING, 0), (CLK_GSTAT_RESULT, 3)] ∧ Quiet s t) :=
  .of_eq (congrArg Host.Outcome.next (if_pos (by simp [State.flag, hp])))
    ⟨((Regs.refl s).fset (by decide) (by decide) nofun).fset (by decide) (by decide)
      (by simp; decide), .fset (.fset (.refl s))⟩

theorem gateOpenEffect_opens {s : State} {n : Nat} {ns : List Nat}
    (ho : s.clk.opening = n :: ns) (hc : gateCode n = true) :
    Yields (exec .gateOpenEffect s) (fun t =>
      Regs s t [(gateF n, 1)] ∧ Quiet s t ∧ t.clk = { s.clk with opening := ns }) := by
  have hexec : exec .gateOpenEffect s =
      .next { s.raise (gateF n) with clk := { s.clk with opening := ns } } := by
    change execGateOpenEffect s = _
    simp only [execGateOpenEffect, ho]
  exact .of_eq hexec
    ⟨regs_clk _ (regs_gateF s hc (by decide)), quiet_clk _ (.fset (.refl s)), rfl⟩

/-! ### Clock outputs (R121, R122) -/

theorem outcfgReserved_iff (v : BitVec 32) : outcfgReserved v.toNat = true ↔
    v.extractLsb' 24 8 = 0 ∨ (v.extractLsb' 0 2 = 3 ∧ v.extractLsb' 8 8 = 0) := by
  simp only [outcfgReserved, bitsOf_toNat, Bool.or_eq_true, Bool.and_eq_true, decide_eq_true_eq,
    ← BitVec.toNat_inj]
  rfl

theorem clkOutcfgWrite_refused {s : State} {v : BitVec 32}
    (h : v.extractLsb' 24 8 = 0 ∨ (v.extractLsb' 0 2 = 3 ∧ v.extractLsb' 8 8 = 0)) :
    exec (.clkOutcfgWrite v) s = refusedWith s :=
  congrArg Host.Outcome.next (if_pos ((outcfgReserved_iff v).2 h))

theorem clkOutcfgWrite_taken (s : State) {v : BitVec 32} (hw : v.extractLsb' 24 8 ≠ 0)
    (hd : v.extractLsb' 0 2 ≠ 3 ∨ v.extractLsb' 8 8 ≠ 0) :
    Yields (exec (.clkOutcfgWrite v) s) (fun t =>
      Regs s t [(CLK_OUTCFG_PPS_W, (v.extractLsb' 24 8).toNat),
        (CLK_OUTCFG_PPS_EN, (v.extractLsb' 16 1).toNat),
        (CLK_OUTCFG_DIV, (v.extractLsb' 8 8).toNat),
        (CLK_OUTCFG_SEL, (v.extractLsb' 0 2).toNat)] ∧
      Quiet s t ∧ t.resp = .okay) := by
  have hlisted : outcfgReserved v.toNat ≠ true := by
    rw [Ne, outcfgReserved_iff]
    tauto
  refine .of_eq (congrArg Host.Outcome.next (if_neg hlisted)) ⟨?_, ?_, rfl⟩
  · simp only [bitsOf_toNat]
    refine regs_pins _ (regs_answer ?_)
    exact ((((Regs.refl s).fset (by decide) (BitVec.isLt _) nofun).fset (by decide)
      (BitVec.isLt _) (by simp [Fld.apart])).fset (by decide) (BitVec.isLt _)
      (by simp [Fld.apart])).fset (by decide) (BitVec.isLt _) (by simp [Fld.apart])
  · exact quiet_pins _ (quiet_answer (.fset (.fset (.fset (.fset (.refl s))))))

/-- PPS_OUT rises with PPS_EN at a whole second and falls at the end of its width. -/
theorem ppsOut_follows (s : State) :
    Yields (exec .ppsOutPulse s) (fun t =>
      Regs s t [] ∧ Quiet s t ∧
      t.pins = { s.pins with ppsOut := decide (s.fget CLK_OUTCFG_PPS_EN = 1) }) ∧
    Yields (exec .ppsOutPulseEnd s) (fun t =>
      Regs s t [] ∧ Quiet s t ∧ t.pins = { s.pins with ppsOut := false }) :=
  ⟨.next ⟨.of_regs rfl, .refl s, rfl⟩, .next ⟨.of_regs rfl, .refl s, rfl⟩⟩

/-- Settles O27: an offset moves by `discMove`, a gate by whether its request is taken up and by
R118, CLK_OUTCFG by whether its value is listed. -/
theorem discipliningGatesOutputs : Obligations.DiscipliningGatesOutputs := by
  intro s
  exact ⟨fun _ _ _ => disciplineStep_inside, fun _ _ _ => disciplineStep_atLimit,
    fun _ err => disciplineStep_sourceGone err, fun _ err => disciplineStep_noSource err,
    fun _ => clkGateClose_pends, fun _ => clkGateClose_closed, fun _ => clkGateOpen_opens,
    fun _ b => clkGate_refusedByUse b, fun _ => clkGate_refusedByTarget,
    fun _ hp hn hc => ⟨busQuietHandshake_closes hp hn hc, gateCloseTimeout_busy hp⟩,
    fun _ _ => gateOpenEffect_opens, fun _ => clkOutcfgWrite_taken s,
    fun _ => clkOutcfgWrite_refused, ppsOut_follows s⟩

end Sys2Proof.Machine

namespace Sys2Proof.Machine

open Sys2Proof.Claims State

/-! ### The loss of a PLL lock (R113) -/

/-- In an episode a clock fault of a canonical register map asserts the clock source and leaves its
code. -/
theorem State.clockFault_of_canonical {s : State} {code : Nat} (hw : regWf s.regs = true)
    (ha : s.rst.active = true) (hc : code < 2 ^ CLK_FCAUSE_CODE.width) :
    Asserted s (s.clockFault code) .clock ∧ (s.clockFault code).fget CLK_FCAUSE_CODE = code := by
  obtain ⟨u, he, hregs, hrst, hmem, hflash, hpending⟩ := clockFault_active code ha
  have hu : regWf u.regs = true := hregs ▸ regWf_fset CLK_FCAUSE_CODE code hw
  rw [he]
  refine ⟨asserted_of_source (u.assertDevice_asserted .clock false) hmem hflash hpending, ?_⟩
  rw [assertDevice_fcause (hrst ▸ ha) hu, fget_congr hregs,
    fget_fset_self s CLK_FCAUSE_CODE code (by decide), Nat.mod_eq_of_lt hc]

/-- After step 4 and outside CLOCK_HOLD the loss of a lock gates islands, then is a clock fault. -/
theorem execPllLockLoss_running {s : State} (p : Pll) (hq : s.clk.qual = .done)
    (hh : s.clk.hold = false) : ∃ islands, exec (.pllLockLoss p) s =
      .next (((s.lower (pllLockF p)).fset CLK_GMAP_ISLAND islands).clockFault 4) := by
  cases p <;> exact ⟨_, congrArg Host.Outcome.next (if_pos ⟨hq, by simp [hh]⟩)⟩

/-- The clause of O26 on the loss of a lock in an episode holds where the register map is
canonical. -/
theorem pllLockLoss_of_canonical {s : State} (p : Pll) (hw : regWf s.regs = true)
    (hq : s.clk.qual = .done) (hh : s.clk.hold = false) (ha : s.rst.active = true) :
    Yields (exec (.pllLockLoss p) s) (fun t =>
      Asserted s t .clock ∧ t.fget CLK_FCAUSE_CODE = 4) := by
  obtain ⟨islands, hexec⟩ := execPllLockLoss_running p hq hh
  have hactive : ((s.lower (pllLockF p)).fset CLK_GMAP_ISLAND islands).rst.active = true := by
    rw [fset_rst, lower_eq, fset_rst]
    exact ha
  have hcanonical : regWf ((s.lower (pllLockF p)).fset CLK_GMAP_ISLAND islands).regs = true :=
    regWf_fset _ _ (regWf_fset _ _ hw)
  obtain ⟨hasserted, hcode⟩ :=
    clockFault_of_canonical (code := 4) hcanonical hactive (by decide)
  refine .of_eq hexec ⟨asserted_of_source hasserted ?_ ?_ ?_, hcode⟩
  · rw [fset_mem, lower_eq, fset_mem]
  · rw [fset_flash, lower_eq, fset_flash]
  · rw [fset_pending, lower_eq, fset_pending]

/-! ### A register listed twice, through a reset -/

/-- What a register map lists of one register. -/
def RegMap.entries (m : RegMap) (a : Nat) : RegMap := m.filter (fun p => p.1 == a)

theorem RegMap.entries_setWord_ne (m : RegMap) {a b : Nat} (v : Word) (h : b ≠ a) :
    (m.setWord b v).entries a = m.entries a := by
  have hput : ∀ l : RegMap, RegMap.entries (smPut l b v) a = l.entries a := by
    intro l
    induction l with
    | nil => simp [smPut, RegMap.entries, h]
    | cons p t ih =>
      obtain ⟨k, x⟩ := p
      simp only [RegMap.entries] at ih ⊢
      simp only [smPut]
      split_ifs with hlt heq
      · simp [h]
      · subst heq
        simp [h]
      · simp only [List.filter_cons, ih]
  have hdel : RegMap.entries (smDel m b) a = m.entries a := by
    unfold RegMap.entries smDel
    rw [List.filter_filter]
    refine List.filter_congr fun p _ => ?_
    by_cases hp : p.1 = a
    · simp [hp, h.symm]
    · simp [hp]
  unfold RegMap.setWord smSet
  split
  · exact hdel
  · exact hput m

/-- A write changes at most the first entry of its register, or leaves none. -/
theorem RegMap.entries_setWord_self (m : RegMap) (a : Nat) (v : Word) :
    (m.setWord a v).entries a = [] ∨ (m.setWord a v).entries a = (a, v) :: m.entries a ∨
      (m.setWord a v).entries a = (a, v) :: (m.entries a).tail := by
  have hput : ∀ l : RegMap, RegMap.entries (smPut l a v) a = (a, v) :: l.entries a ∨
      RegMap.entries (smPut l a v) a = (a, v) :: (l.entries a).tail := by
    intro l
    induction l with
    | nil => exact .inl (by simp [smPut, RegMap.entries])
    | cons p t ih =>
      obtain ⟨k, x⟩ := p
      simp only [RegMap.entries] at ih ⊢
      simp only [smPut]
      split_ifs with hlt heq
      · exact .inl (by simp)
      · exact .inr (by simp [heq])
      · simpa [Ne.symm heq] using ih
  unfold RegMap.setWord smSet
  split
  · exact .inl (by simp [RegMap.entries, smDel])
  · exact .inr (hput m)

/-- A reset works on a register by its entries alone. -/
theorem RegMap.word_afterReset_entries (cold : Bool) (m : RegMap) (a : Nat) :
    (m.afterReset cold).word a = ((m.entries a).afterReset cold).word a := by
  have hfold : ∀ l acc acc' : RegMap, acc.word a = acc'.word a →
      (l.foldl (afterResetStep cold) acc).word a =
        ((l.entries a).foldl (afterResetStep cold) acc').word a := by
    intro l
    induction l with
    | nil => exact fun _ _ h => h
    | cons p t ih =>
      intro acc acc' h
      unfold RegMap.entries at ih ⊢
      by_cases hp : p.1 = a
      · rw [List.filter_cons_of_pos (by simp [hp])]
        subst hp
        exact ih _ _ ((RegMap.word_setWord_self _ _ _).trans (RegMap.word_setWord_self _ _ _).symm)
      · rw [List.filter_cons_of_neg (by simp [hp])]
        exact ih _ _ ((RegMap.word_setWord_ne _ _ hp).trans h)
  exact hfold m [] [] rfl

/-- A map that lists CLK_FCAUSE twice loses a code in a reset: the code goes to the first entry, and
the reset leaves what the last one holds. -/
theorem afterReset_fcause_of_twice {m : RegMap} (cold : Bool) (v : Nat)
    (h : m.entries 0x40000208 = [(0x40000208, 0), (0x40000208, 0)]) :
    ((m.fset CLK_FCAUSE_CODE v).afterReset cold).fget CLK_FCAUSE_CODE = 0 := by
  have hword : ((m.fset CLK_FCAUSE_CODE v).afterReset cold).word 0x40000208 = 0 := by
    rw [RegMap.word_afterReset_entries, RegMap.fset]
    rcases m.entries_setWord_self 0x40000208 _ with e | e | e
    · rw [e]
      exact regReset_fcause
    all_goals
      rw [e, h]
      simp [RegMap.afterReset, regAfterReset_fcause]
  rw [RegMap.fget, hword]
  decide

/-- In an episode a clock fault leaves the code that the reset of the registers leaves. -/
theorem State.clockFault_fcause {s : State} (code : Nat) (ha : s.rst.active = true) :
    ∃ cold, (s.clockFault code).fget CLK_FCAUSE_CODE =
      ((s.regs.fset CLK_FCAUSE_CODE code).afterReset cold).fget CLK_FCAUSE_CODE := by
  obtain ⟨u, he, hregs, hrst, -⟩ := clockFault_active code ha
  have hactive : u.rst.active = true := hrst ▸ ha
  obtain ⟨c, v, ej⟩ := u.episodeJoin_eq false
  obtain ⟨-, -, hclear⟩ := u.deviceClear_facts c
  refine ⟨c, ?_⟩
  rw [he, assertDevice_fget, if_pos hactive, fget_fset_addr _ _ _ _ (by simp), ej,
    fget_fset_addr _ _ _ _ (by simp), hclear _ (by decide), hregs, fset_regs]

/-- A running clock in an episode, with a register map that lists CLK_FCAUSE twice. -/
def fcauseTwiceLocked : State :=
  { fcauseTwice with clk := { fcauseTwice.clk with qual := .done } }

theorem fcauseTwiceLocked_pllLockLoss_code {t : State}
    (ht : exec (.pllLockLoss .pllC) fcauseTwiceLocked = .next t) :
    t.fget CLK_FCAUSE_CODE = 0 := by
  obtain ⟨islands, hexec⟩ := execPllLockLoss_running (s := fcauseTwiceLocked) .pllC rfl rfl
  obtain rfl := Host.Outcome.next.inj (hexec.symm.trans ht)
  obtain ⟨cold, hcode⟩ := clockFault_fcause (code := 4)
    (s := (fcauseTwiceLocked.lower (pllLockF .pllC)).fset CLK_GMAP_ISLAND islands) rfl
  rw [hcode]
  refine afterReset_fcause_of_twice cold 4 ?_
  rw [fset_regs, lower_eq, fset_regs]
  exact (RegMap.entries_setWord_ne _ _ (by decide)).trans
    (RegMap.entries_setWord_ne _ _ (by decide))

/-- Refutes O26: its clause on the loss of a PLL lock in an episode has the clock fault leave code 4
in CLK_FCAUSE. A reset of device reach goes through the entries of the register map and keeps what
the last one of a register holds, where a write changes the first; no hypothesis of the clause
excludes a map that lists CLK_FCAUSE twice, and below the code then reads 0. No run lists a register
twice (`stepsKeepCanonicalForms`), and for a map in canonical form the clause holds
(`pllLockLoss_of_canonical`). -/
theorem not_clockMonitoring : ¬ Obligations.ClockMonitoring := by
  intro h
  obtain ⟨-, -, -, -, -, -, -, -, hloss, -⟩ := h fcauseTwiceLocked
  obtain ⟨t, ht, -, hcode⟩ := hloss .pllC rfl rfl rfl
  exact absurd ((fcauseTwiceLocked_pllLockLoss_code ht).symm.trans hcode) (by decide)

end Sys2Proof.Machine

namespace Sys2Proof.Claims

open Sys2Proof.Machine

/-- One more event bit raised, apart from the fields before. -/
theorem Regs.raise {s t : State} {fs : List (Fld × Nat)} {f : Fld} (h : Regs s t fs)
    (hf : f.lo + f.width ≤ 32) (hw : 0 < f.width) (ha : ∀ p ∈ fs, f.apart p.1 = true) :
    Regs s (t.raise f) (fs ++ [(f, 1)]) := h.fset hf (Nat.one_lt_two_pow hw.ne') ha

/-- One more counter advanced, apart from the fields before. -/
theorem Regs.bump {s t : State} {fs : List (Fld × Nat)} {f : Fld} (h : Regs s t fs)
    (hf : f.lo + f.width ≤ 32) (ha : ∀ p ∈ fs, f.apart p.1 = true)
    (hb : ∀ p ∈ fs, p.1.apart f = true) : Regs s (t.bump f) (fs ++ [(f, plusOne s f)]) := by
  have e : min (t.fget f + 1) (2 ^ f.width - 1) = plusOne s f := by rw [h.2 f hb]; rfl
  rw [State.bump_eq, e]
  exact h.fset hf (plusOne_lt s f) ha

end Sys2Proof.Claims

namespace Sys2Proof.Machine

open Sys2Proof.Claims State

/-! ### Bytes written back and bytes cleared -/

theorem mapBytes_getD (d : Nat → Byte) (m : List Host.Cell) {k n i : Nat} (h : i < n) :
    (mapBytes d m k n).getD i 0 = smGet d m (k + i) := by
  induction n generalizing k i with
  | zero => omega
  | succ n ih =>
    cases i with
    | zero => rfl
    | succ i =>
      rw [mapBytes, List.getD_cons_succ, ih (by omega)]
      congr 1
      omega

/-- A word written back as it stands changes no byte. -/
theorem State.byteAt_memPutLe_memLe (s : State) (k n j : Nat) :
    (s.memPutLe k n (s.memLe k n)).byteAt j = s.byteAt j := by
  have hlen : (s.memBytes k n).length = n := mapBytes_length _ _ _ _
  have hb : leBytes n (s.memLe k n) = s.memBytes k n := by
    have h := leBytes_ofLe (s.memBytes k n)
    rwa [hlen] at h
  rw [State.memPutLe, hb, s.bytesPut_memPut k (s.memBytes k n) j, hlen]
  split
  · next hj =>
    rw [State.memBytes, mapBytes_getD _ _ (by omega), Nat.add_sub_cancel' hj.1]
    rfl
  · rfl

theorem State.byteAt_memClear (s : State) (k n : Nat) {j : Nat} (h : j < k ∨ k + n ≤ j) :
    (s.memClear k n).byteAt j = s.byteAt j := by
  show smGet memDflt (smClear s.mem k n) j = _
  rw [smGet_smClear, if_neg (by omega)]
  rfl

/-- Cleared bytes read as zero. -/
theorem mapBytes_smClear (m : List Host.Cell) {lo n k j : Nat} (hlo : lo ≤ k)
    (hhi : k + j ≤ lo + n) : mapBytes memDflt (smClear m lo n) k j = List.replicate j 0 := by
  induction j generalizing k with
  | zero => rfl
  | succ j ih =>
    rw [mapBytes, ih (by omega) (by omega), smGet_smClear, if_pos (by omega), List.replicate_succ]
    rfl

theorem State.memBytes_memClear (s : State) (k n : Nat) :
    (s.memClear k n).memBytes k n = List.replicate n 0 :=
  mapBytes_smClear s.mem (Nat.le_refl k) (Nat.le_refl _)

@[simp] theorem State.upsetsAt_setUpsets_self (s : State) (k : Nat) (bits : List Nat) :
    (s.setUpsets k bits).upsetsAt k = bits := smGet_smSet_self _ _ _ _

/-! ### Words and banks -/

theorem bankWord_eq_or (bk : Bank) : bankWord bk = 8 ∨ bankWord bk = 32 := by
  cases bk
  · exact .inl rfl
  · exact .inr rfl
  · exact .inr rfl

theorem wordKey_mul (bk : Bank) (w : Nat) :
    wordKey bk (w * bankWord bk) = bankKey bk (w * bankWord bk) := by
  have hw : 0 < bankWord bk := by rcases bankWord_eq_or bk with h | h <;> omega
  rw [wordKey, wordOff, Nat.mul_div_cancel _ hw]

/-- Every word of a bank has an address of 32 bits (Table 06-2). -/
theorem bankAddr_wordOff_lt {bk : Bank} {o : Nat} (h : o < bankSize bk) :
    bankAddr bk (wordOff bk o) < 0x100000000 := by
  have hle : wordOff bk o ≤ o := Nat.div_mul_le_self _ _
  cases bk <;> simp only [bankAddr, bankSize] at h ⊢ <;> omega

theorem bankNum_lt (bk : Bank) : bankNum bk < 6 := by
  cases bk with
  | priv k => cases k <;> decide
  | shared => decide
  | comm => decide

theorem bankNum_eq_five (bk : Bank) : bankNum bk = 5 ↔ bk = .comm := by
  cases bk with
  | priv k => cases k <;> decide
  | shared => decide
  | comm => decide

/-- Only the memory of a core has words of 64 bits (Table 06-2). -/
theorem exists_priv_of_bankWord {bk : Bank} (h : bankWord bk = 8) : ∃ k, bk = .priv k := by
  cases bk with
  | priv k => exact ⟨k, rfl⟩
  | shared => exact absurd h (by decide)
  | comm => exact absurd h (by decide)

/-! ### What the decoders find in a word with errors (R126, R129, R133) -/

theorem State.finding_burst (s : State) {bk : Bank} (off : Nat) (hw : bankWord bk = 32) :
    s.finding bk off = decodeBurst (bankNum bk) (off / 32) (s.upsetsAt (wordKey bk off))
      (s.memLe (wordKey bk off) 32) := by
  cases bk with
  | priv k => exact absurd hw (by decide : ¬ (8 = 32))
  | shared => rfl
  | comm => rfl

/-- At most five symbols in error, one of them of the address (R129). -/
theorem decodeBurst_address {bank word data : Nat} {bits : List Nat} (h5 : symbolsHit bits ≤ 5)
    (ha : bits.any (fun b => 336 ≤ b) = true) : decodeBurst bank word bits data = .address := by
  have hne : bits ≠ [] := by
    rintro rfl
    exact absurd ha (by decide)
  rw [decodeBurst, if_neg hne, if_pos h5, if_pos ha]

/-- At most five symbols in error, all of them stored (R126). -/
theorem decodeBurst_corrected {bank word data : Nat} {bits : List Nat} (hne : bits ≠ [])
    (h5 : symbolsHit bits ≤ 5) (ha : bits.all (fun b => b < 336) = true) :
    decodeBurst bank word bits data = .corrected bits := by
  have hno : ¬ bits.any (fun b => 336 ≤ b) = true := by
    rw [List.any_eq_true]
    rintro ⟨b, hb, h⟩
    have h' := List.all_eq_true.1 ha b hb
    simp only [decide_eq_true_eq] at h h'
    omega
  rw [decodeBurst, if_neg hne, if_pos h5, if_neg hno]

/-- Six symbols and more (log entry 39). -/
theorem decodeBurst_reported {bank word data : Nat} {bits : List Nat} (h5 : 5 < symbolsHit bits)
    (hr : Config.burstWide bank word bits data = .reported) :
    decodeBurst bank word bits data = .uncorrectable := by
  have hne : bits ≠ [] := by
    rintro rfl
    exact absurd h5 (by decide)
  rw [decodeBurst, if_neg hne, if_neg (by omega), hr]
  rfl

/-- The patterns that a bank's code corrects (R126, R133). -/
theorem State.finding_corrected {s : State} {bk : Bank} {o : Nat} {bits : List Nat}
    (hu : s.upsetsAt (wordKey bk o) = bits) (hne : bits ≠ [])
    (hc : if bankWord bk = 8 then bits.length = 1
      else symbolsHit bits ≤ 5 ∧ bits.all (fun b => b < 336) = true) :
    s.finding bk o = .corrected bits := by
  rcases bankWord_eq_or bk with hw | hw
  · rw [if_pos hw] at hc
    obtain ⟨k, rfl⟩ := exists_priv_of_bankWord hw
    obtain ⟨b, rfl⟩ := List.length_eq_one_iff.1 hc
    simp only [State.finding, hu, decodePriv]
  · rw [if_neg (by omega)] at hc
    obtain ⟨h5, ha⟩ := hc
    rw [s.finding_burst o hw, hu]
    exact decodeBurst_corrected hne h5 ha

theorem State.poisonedAt_priv (s : State) {bk : Bank} (o : Nat) (hw : bankWord bk = 8) :
    s.poisonedAt bk o = false := by
  obtain ⟨k, rfl⟩ := exists_priv_of_bankWord hw
  rfl

/-! ### The records of a correction and of an uncorrectable word (R130, R138) -/

/-- A row enters the tracker without an overflow while the tracker of its bank has a free entry. -/
theorem State.trackRow_regs (s : State) (b row : Nat) (h : s.memx.tracks.length < 16) :
    (s.trackRow b row).regs = s.regs := by
  have hfree : ((s.memx.tracks.filter (fun x => x.1 = b)).map (fun x => x.2)).length < 16 := by
    rw [List.length_map]
    exact Nat.lt_of_le_of_lt (List.length_filter_le _ _) h
  unfold State.trackRow
  split
  · split
    · rfl
    · dsimp only
      split <;> rfl
  · dsimp only
    rw [if_pos hfree]

theorem State.trackBit_regs (s : State) (b row bit : Nat) :
    (s.trackBit b row bit).regs = s.regs := by
  unfold State.trackBit
  dsimp only
  split <;> rfl

theorem State.foldl_trackBit_regs (s : State) (b row : Nat) (bits : List Nat) :
    (bits.foldl (fun x n => x.trackBit b row n) s).regs = s.regs :=
  List.foldlRecOn (motive := fun x : State => x.regs = s.regs) _ _ rfl
    fun x hx n _ => (x.trackBit_regs b row n).trans hx

theorem ceCount_apart (n : Nat) : (MEM_BANK_n_CECNT n).apart MEM_EVT_CE = true ∧
    MEM_EVT_CE.apart (MEM_BANK_n_CECNT n) = true := by
  have h : 0x40020020 + 0x4 * n ≠ 0x40020004 := by omega
  exact ⟨Fld.apart_of_addr h, Fld.apart_of_addr h.symm⟩

theorem State.recordCe_regs (s : State) (bk : Bank) (o : Nat) (bits : List Nat)
    (h : s.memx.tracks.length < 16) :
    (s.recordCe bk o bits).regs
      = ((s.raise MEM_EVT_CE).bump (MEM_BANK_n_CECNT (bankNum bk))).regs := by
  unfold State.recordCe
  dsimp only
  rw [State.foldl_trackBit_regs, State.trackRow_regs]
  rwa [State.bump_eq, State.raise_eq, State.fset_memx, State.fset_memx]

/-- A correction sets CE and counts in CECNT of its bank (R138). -/
theorem regs_recordCe (s : State) (bk : Bank) (o : Nat) (bits : List Nat)
    (h : s.memx.tracks.length < 16) :
    Regs s (s.recordCe bk o bits) [(MEM_EVT_CE, 1),
      (MEM_BANK_n_CECNT (bankNum bk), plusOne s (MEM_BANK_n_CECNT (bankNum bk)))] := by
  obtain ⟨hafter, hbefore⟩ := ceCount_apart (bankNum bk)
  have hce := (Regs.refl s).raise (f := MEM_EVT_CE) (by decide) (by decide) nofun
  have hcount := hce.bump (f := MEM_BANK_n_CECNT (bankNum bk)) (by decide : 16 + 16 ≤ 32)
    (by simpa using hafter) (by simpa using hbefore)
  exact hcount.congr (s.recordCe_regs bk o bits h)

/-- An uncorrectable word sets UE and leaves its address, bank and source, and is counted (R130). -/
theorem regs_recordUe (s : State) {bk : Bank} {o src : Nat}
    (ho : bankAddr bk (wordOff bk o) < 0x100000000) (hsrc : src < 8) :
    Regs s (s.recordUe bk o src) [(MEM_EVT_UE, 1), (MEM_UEADDR_ADDR, bankAddr bk (wordOff bk o)),
      (MEM_UEINFO_BANK, bankNum bk), (MEM_UEINFO_SRC, src),
      (MEM_UEINFO_COUNT, plusOne s MEM_UEINFO_COUNT),
      (REC_CNT_c_VAL 11, plusOne s (REC_CNT_c_VAL 11))] := by
  have hue := (Regs.refl s).raise (f := MEM_EVT_UE) (by decide) (by decide) nofun
  have haddr := hue.fset (f := MEM_UEADDR_ADDR) (by decide) (Nat.lt_of_lt_of_eq ho rfl)
    (by simp [Fld.apart])
  have hbank := haddr.fset (f := MEM_UEINFO_BANK) (by decide)
    (Nat.lt_trans (bankNum_lt bk) (by decide)) (by simp [Fld.apart])
  have hsource := hbank.fset (f := MEM_UEINFO_SRC) (by decide) hsrc (by simp [Fld.apart])
  have hcount := hsource.bump (f := MEM_UEINFO_COUNT) (by decide) (by simp [Fld.apart])
    (by simp [Fld.apart])
  have hrec := hcount.bump (f := REC_CNT_c_VAL 11) (by decide) (by simp [Fld.apart])
    (by simp [Fld.apart])
  exact hrec

/-! ### Poisoned form (R130) -/

/-- What rewriting a burst-coded word in poisoned form leaves: its 32 bytes cleared, and the records
of the memory system. -/
theorem State.poisonWord_burst (s : State) {bk : Bank} (o : Nat) (hw : bankWord bk = 32) :
    ∃ x, s.poisonWord bk o = { s.memClear (wordKey bk o) 32 with memx := x } ∧
      x.poisoned.contains (wordKey bk o / 32) = true := by
  have hp : ∀ u : State, u = (s.memClear (wordKey bk o) 32).setUpsets (wordKey bk o) [] →
      ∃ x, (if u.memx.poisoned.contains (wordKey bk o / 32) then u
        else { u with memx := { u.memx with poisoned := u.memx.poisoned ++ [wordKey bk o / 32] } })
          = { s.memClear (wordKey bk o) 32 with memx := x } ∧
        x.poisoned.contains (wordKey bk o / 32) = true := by
    rintro u rfl
    split
    · next hc => exact ⟨_, rfl, hc⟩
    · exact ⟨_, rfl, by simp⟩
  cases bk with
  | priv k => exact absurd hw (by decide : ¬ (8 = 32))
  | shared => exact hp _ rfl
  | comm => exact hp _ rfl

theorem State.poisonedAt_burst (s : State) {bk : Bank} (o : Nat) (hw : bankWord bk = 32) :
    s.poisonedAt bk o = s.memx.poisoned.contains (wordKey bk o / 32) := by
  cases bk with
  | priv k => exact absurd hw (by decide : ¬ (8 = 32))
  | shared => rfl
  | comm => rfl

theorem State.poisonWord_priv (s : State) {bk : Bank} (o : Nat) (hw : bankWord bk = 8) :
    s.poisonWord bk o = s := by
  obtain ⟨k, rfl⟩ := exists_priv_of_bankWord hw
  rfl

/-! ### Reads and scrubs of a word, by what the decoder finds -/

theorem State.wordScrub_clean {s : State} {bk : Bank} {o : Nat} (src : Nat)
    (hu : s.upsetsAt (wordKey bk o) = []) : s.wordScrub bk o src = s := by
  have hread : (s.wordRead bk o src).1 = s := by
    cases hp : s.poisonedAt bk o with
    | false => rw [s.wordRead_clean bk o src hu hp]
    | true => rw [State.wordRead, if_pos hp]
  unfold State.wordScrub
  dsimp only
  split
  · exact hread
  · rw [if_pos hu, hread]

/-- A corrected word is recorded and written back (R126, R133). -/
theorem State.wordScrub_corrected {s : State} {bk : Bank} {o : Nat} {bits : List Nat} (src : Nat)
    (hp : s.poisonedAt bk o = false) (hu : s.upsetsAt (wordKey bk o) ≠ [])
    (hf : s.finding bk o = .corrected bits) :
    s.wordScrub bk o src = ((s.recordCe bk o bits).memPutLe (wordKey bk o) (bankWord bk)
      (s.wordRaw bk o)).setUpsets (wordKey bk o) [] := by
  have hread : s.wordRead bk o src = (s.recordCe bk o bits, some (s.wordRaw bk o)) := by
    rw [State.wordRead, if_neg (by simp [hp]), hf]
  unfold State.wordScrub
  rw [hread]
  exact if_neg hu

theorem State.wordRead_uncorrectable {s : State} {bk : Bank} {o : Nat} (src : Nat)
    (hp : s.poisonedAt bk o = false) (hf : s.finding bk o = .uncorrectable) :
    s.wordRead bk o src = ((s.recordUe bk o src).poisonWord bk o, none) := by
  rw [State.wordRead, if_neg (by simp [hp]), hf]

theorem State.wordRead_address {s : State} {bk : Bank} {o : Nat} (src : Nat)
    (hp : s.poisonedAt bk o = false) (hf : s.finding bk o = .address) :
    s.wordRead bk o src
      = (((s.recordUe bk o src).poisonWord bk o).raise MEM_EVT_ADDR_FAULT, none) := by
  rw [State.wordRead, if_neg (by simp [hp]), hf]

/-- Nothing is written back where a word has no data. -/
theorem State.wordScrub_of_none {s t : State} {bk : Bank} {o src : Nat}
    (hr : s.wordRead bk o src = (t, none)) : s.wordScrub bk o src = t := by
  rw [State.wordScrub, hr]

@[simp] theorem State.recordUe_memx (s : State) (bk : Bank) (o src : Nat) :
    (s.recordUe bk o src).memx = s.memx :=
  (State.fset_memx _ _ _).trans <| (State.fset_memx _ _ _).trans <| (State.fset_memx _ _ _).trans <|
    (State.fset_memx _ _ _).trans <| (State.fset_memx _ _ _).trans <| State.fset_memx _ _ _

/-! ### What reading and copying leave of the scrub pointers and the column copies -/

/-- The scrub pointers and the column copies are as before. -/
def State.keepsRepair (s t : State) : Prop :=
  t.memx.scrub = s.memx.scrub ∧ t.memx.colReps = s.memx.colReps

theorem State.keepsRepair.refl (s : State) : s.keepsRepair s := ⟨rfl, rfl⟩

theorem State.keepsRepair.of_memx {s t : State} (h : t.memx = s.memx) : s.keepsRepair t :=
  ⟨congrArg Memx.scrub h, congrArg Memx.colReps h⟩

theorem State.fset_keepsRepair (s : State) (f : Fld) (v : Nat) : s.keepsRepair (s.fset f v) :=
  .of_memx (s.fset_memx f v)

theorem State.keepsRepair.trans {s t u : State} (h : s.keepsRepair t) (k : t.keepsRepair u) :
    s.keepsRepair u := ⟨k.1.trans h.1, k.2.trans h.2⟩

theorem State.keepsRepair.foldl {β : Type} {f : State → β → State}
    (hf : ∀ x b, State.keepsRepair x (f x b)) (bs : List β) (s : State) :
    s.keepsRepair (bs.foldl f s) :=
  List.foldlRecOn (motive := fun x : State => s.keepsRepair x) _ _ (.refl s)
    fun x hx b _ => hx.trans (hf x b)

theorem State.trackRow_keepsRepair (s : State) (b row : Nat) :
    s.keepsRepair (s.trackRow b row) := by
  unfold State.trackRow
  split
  · split
    · exact .refl s
    · dsimp only
      split <;> exact ⟨rfl, rfl⟩
  · dsimp only
    split
    · exact ⟨rfl, rfl⟩
    · split
      · exact .refl s
      · next v _ => cases h : decide (v.count ≥ 2) <;> exact ⟨rfl, rfl⟩

theorem State.trackBit_keepsRepair (s : State) (b row bit : Nat) :
    s.keepsRepair (s.trackBit b row bit) := by
  unfold State.trackBit
  dsimp only
  split <;> exact ⟨rfl, rfl⟩

theorem State.recordCe_keepsRepair (s : State) (bk : Bank) (o : Nat) (bits : List Nat) :
    s.keepsRepair (s.recordCe bk o bits) :=
  (((s.fset_keepsRepair _ _).trans (State.fset_keepsRepair _ _ _)).trans
    (State.trackRow_keepsRepair _ _ _)).trans
    (.foldl (fun x n => x.trackBit_keepsRepair _ _ n) bits _)

theorem State.recordUe_keepsRepair (s : State) (bk : Bank) (o src : Nat) :
    s.keepsRepair (s.recordUe bk o src) :=
  .of_memx (s.recordUe_memx bk o src)

theorem State.poisonWord_keepsRepair (s : State) (bk : Bank) (o : Nat) :
    s.keepsRepair (s.poisonWord bk o) := by
  unfold State.poisonWord
  extract_lets k s1
  have h1 : s.keepsRepair s1 := ⟨rfl, rfl⟩
  split
  · exact .refl s
  · split
    · exact h1
    · exact h1.trans ⟨rfl, rfl⟩

theorem State.wordRead_keepsRepair (s : State) (bk : Bank) (o src : Nat) :
    s.keepsRepair (s.wordRead bk o src).1 := by
  have hue : s.keepsRepair ((s.recordUe bk o src).poisonWord bk o) :=
    (s.recordUe_keepsRepair bk o src).trans (State.poisonWord_keepsRepair _ _ _)
  rcases s.wordRead_cases bk o src with
    ⟨-, e⟩ | ⟨-, e⟩ | ⟨b, -, e⟩ | ⟨d, b, -, e⟩ | ⟨-, e⟩ | ⟨-, e⟩ <;> rw [e]
  · exact .refl s
  · exact .refl s
  · exact s.recordCe_keepsRepair bk o b
  · cases h : !b.isEmpty
    · exact .refl s
    · exact s.recordCe_keepsRepair bk o b
  · exact hue
  · exact hue.trans (State.fset_keepsRepair _ _ _)

theorem State.wordScrub_keepsRepair (s : State) (bk : Bank) (o src : Nat) :
    s.keepsRepair (s.wordScrub bk o src) := by
  have hr := s.wordRead_keepsRepair bk o src
  unfold State.wordScrub
  dsimp only
  split
  · exact hr
  · split
    · exact hr
    · exact hr.trans ⟨rfl, rfl⟩

theorem State.rowCopy_keepsRepair (s : State) (bk : Bank) (row : Nat) :
    s.keepsRepair (s.rowCopy bk row) :=
  .foldl (fun x _ => x.wordScrub_keepsRepair _ _ _) _ s

/-! ### The scrub pointers -/

theorem State.scrubPtr_setScrub (s : State) (b n : Nat) : (s.setScrub b n).scrubPtr b = n := by
  have hrest : (s.memx.scrub.filter (fun y => y.1 ≠ b)).find? (fun x => x.1 = b) = none := by
    rw [List.find?_eq_none]
    intro x hx
    simpa using (List.mem_filter.1 hx).2
  unfold State.scrubPtr State.setScrub
  dsimp only
  rw [List.find?_append, hrest]
  by_cases h : n = 0
  · rw [if_pos h, h]
    rfl
  · rw [if_neg h]
    simp

theorem State.scrubPtr_of_keepsRepair {s t : State} (h : s.keepsRepair t) (b : Nat) :
    t.scrubPtr b = s.scrubPtr b := by
  unfold State.scrubPtr
  rw [h.1]

/-! ### Scrub steps -/

theorem scrubStep_flips (bk : Bank) (flips : List (Nat × List Nat)) (s : State) :
    exec (.scrubStep bk flips) s = exec (.scrubStep bk []) (s.upset bk flips) := rfl

theorem scrubStep_off {s : State} {bk : Bank} (hoff : s.bankOn bk = false) :
    exec (.scrubStep bk []) s = .next s := by
  change execScrubStep bk [] s = _
  simp only [execScrubStep, State.upset, List.foldl_nil, hoff, Bool.not_false, if_true]

/-- The step of a bank in service reads the word at its pointer and advances the pointer. -/
theorem scrubStep_advances {s : State} {bk : Bank} {o : Nat} (hon : s.bankOn bk = true)
    (ho : o = s.scrubPtr (bankNum bk) * bankWord bk) (hlt : o + bankWord bk < bankSize bk) :
    exec (.scrubStep bk []) s
      = .next ((s.wordScrub bk o 2).setScrub (bankNum bk) (s.scrubPtr (bankNum bk) + 1)) := by
  have hmore : (s.scrubPtr (bankNum bk) + 1) * bankWord bk < bankSize bk := by
    rwa [Nat.add_one_mul, ← ho]
  change execScrubStep bk [] s = _
  simp only [execScrubStep, State.upset, List.foldl_nil, hon, Bool.not_true, Bool.false_eq_true,
    if_false, if_pos hmore, ← ho]

/-- At the last word of a bank the pointer begins anew. -/
theorem scrubStep_last {s : State} {bk : Bank} {o : Nat} (hon : s.bankOn bk = true)
    (ho : o = s.scrubPtr (bankNum bk) * bankWord bk) (hlast : o + bankWord bk = bankSize bk) :
    exec (.scrubStep bk []) s = .next (((s.wordScrub bk o 2).setScrub (bankNum bk) 0).when
      (bankNum bk = 5) (fun x => x.bump MEM_STAT_PASS)) := by
  have hend : ¬ (s.scrubPtr (bankNum bk) + 1) * bankWord bk < bankSize bk := by
    rw [Nat.add_one_mul, ← ho]
    omega
  change execScrubStep bk [] s = _
  simp only [execScrubStep, State.upset, List.foldl_nil, hon, Bool.not_true, Bool.false_eq_true,
    if_false, if_neg hend, ← ho]

@[simp] theorem State.setScrub_upsetsAt (s : State) (b n k : Nat) :
    (s.setScrub b n).upsetsAt k = s.upsetsAt k := rfl

theorem quiet_setScrub {s t : State} {b n : Nat} (h : Quiet s t) : Quiet s (t.setScrub b n) := h

/-! ### A word that a read has left in poisoned form -/

/-- Beside registers and records, a read has changed the 32 bytes of the word alone, and the word is
in poisoned form. -/
def State.poisonedRead (s t : State) (bk : Bank) (o : Nat) : Prop :=
  ∃ r x, t = { s.memClear (wordKey bk o) 32 with regs := r, memx := x } ∧
    x.poisoned.contains (wordKey bk o / 32) = true

theorem State.poisonWord_regs (s : State) (bk : Bank) (o : Nat) :
    (s.poisonWord bk o).regs = s.regs := by
  rcases bankWord_eq_or bk with hw | hw
  · rw [s.poisonWord_priv o hw]
  · obtain ⟨x, e, -⟩ := s.poisonWord_burst o hw
    rw [e]
    rfl

theorem State.poisonedRead_recordUe (s : State) {bk : Bank} (o src : Nat) (hw : bankWord bk = 32) :
    s.poisonedRead ((s.recordUe bk o src).poisonWord bk o) bk o := by
  obtain ⟨x, e, hx⟩ := (s.recordUe bk o src).poisonWord_burst o hw
  obtain ⟨r, y, hue⟩ := s.recordUe_onlyEcc bk o src
  refine ⟨r, x, ?_, hx⟩
  rw [e, hue]
  rfl

theorem State.poisonedRead.fset {s t : State} {bk : Bank} {o : Nat} (h : s.poisonedRead t bk o)
    (f : Fld) (v : Nat) : s.poisonedRead (t.fset f v) bk o := by
  obtain ⟨r, x, rfl, hx⟩ := h
  exact ⟨_, x, rfl, hx⟩

theorem State.poisonedRead.setScrub {s t : State} {bk : Bank} {o : Nat}
    (h : s.poisonedRead t bk o) (b n : Nat) : s.poisonedRead (t.setScrub b n) bk o := by
  obtain ⟨r, x, rfl, hx⟩ := h
  exact ⟨r, _, rfl, hx⟩

theorem State.poisonedRead.poisonedAt {s t : State} {bk : Bank} {o : Nat}
    (h : s.poisonedRead t bk o) (hw : bankWord bk = 32) : t.poisonedAt bk o = true := by
  obtain ⟨r, x, rfl, hx⟩ := h
  rwa [State.poisonedAt_burst _ o hw]

/-- The word reads as zero and has no data; every other byte, the flash, the waiting commands and
the lanes are as before (R130). -/
theorem State.poisonedRead.facts {s t : State} {bk : Bank} {o : Nat} (h : s.poisonedRead t bk o)
    (hw : bankWord bk = 32) (hk : wordKey bk o = bankKey bk o) :
    t.memBytes (bankKey bk o) 32 = List.replicate 32 0 ∧ MemSame s t (bankKey bk o) 32 ∧
    t.wordBad bk o = true ∧ t.flash = s.flash ∧ t.pending = s.pending ∧
    ∀ l, t.lane l = s.lane l := by
  have hbad : t.wordBad bk o = true := (t.wordBad_iff bk o).2 (.inl (h.poisonedAt hw))
  obtain ⟨r, x, rfl, -⟩ := h
  rw [← hk]
  exact ⟨s.memBytes_memClear _ 32, fun j hj => s.byteAt_memClear _ 32 hj, hbad, rfl, rfl,
    fun l => by cases l <;> rfl⟩

theorem regs_uncorrectable (s : State) {bk : Bank} {o src : Nat}
    (ho : bankAddr bk (wordOff bk o) < 0x100000000) (hsrc : src < 8) :
    Regs s ((s.recordUe bk o src).poisonWord bk o) [(MEM_EVT_UE, 1),
      (MEM_UEADDR_ADDR, bankAddr bk (wordOff bk o)), (MEM_UEINFO_BANK, bankNum bk),
      (MEM_UEINFO_SRC, src), (MEM_UEINFO_COUNT, plusOne s MEM_UEINFO_COUNT),
      (REC_CNT_c_VAL 11, plusOne s (REC_CNT_c_VAL 11))] :=
  (regs_recordUe s ho hsrc).congr (State.poisonWord_regs _ _ _)

/-- An address fault sets ADDR_FAULT beside what an uncorrectable word sets (R129). -/
theorem regs_addressFault (s : State) {bk : Bank} {o src : Nat}
    (ho : bankAddr bk (wordOff bk o) < 0x100000000) (hsrc : src < 8) :
    Regs s (((s.recordUe bk o src).poisonWord bk o).raise MEM_EVT_ADDR_FAULT)
      [(MEM_EVT_ADDR_FAULT, 1), (MEM_EVT_UE, 1), (MEM_UEADDR_ADDR, bankAddr bk (wordOff bk o)),
        (MEM_UEINFO_BANK, bankNum bk), (MEM_UEINFO_SRC, src),
        (MEM_UEINFO_COUNT, plusOne s MEM_UEINFO_COUNT),
        (REC_CNT_c_VAL 11, plusOne s (REC_CNT_c_VAL 11))] := by
  have h := (regs_uncorrectable s ho hsrc).raise (f := MEM_EVT_ADDR_FAULT) (by decide) (by decide)
    (by simp [Fld.apart])
  exact h.of_mem_iff fun p => by rw [List.mem_append, List.mem_singleton, List.mem_cons, or_comm]

/-! ### What a scrub step does to its word -/

/-- Upsets of the bits of a bank out of service stay where they are (R135). -/
theorem scrubStep_off_flip {s : State} {bk : Bank} {w b : Nat} (hoff : s.bankOn bk = false)
    (hw : w * bankWord bk < bankSize bk) (hb : b < bankBits bk)
    (hu : s.upsetsAt (wordKey bk (w * bankWord bk)) = []) :
    exec (.scrubStep bk [(w, [b])]) s
      = .next (s.setUpsets (wordKey bk (w * bankWord bk)) [b]) := by
  have hflip : s.upset bk [(w, [b])] = s.setUpsets (wordKey bk (w * bankWord bk)) [b] := by
    show s.flipBits bk w [b] = _
    simp only [State.flipBits, if_pos hw, hu, List.filter_cons, hb, decide_true, if_true,
      List.filter_nil, List.foldl_cons, List.foldl_nil, toggleBit]
  have hoff' : (s.setUpsets (wordKey bk (w * bankWord bk)) [b]).bankOn bk = false := by
    cases bk <;> exact hoff
  rw [scrubStep_flips, hflip, scrubStep_off hoff']

section
variable {s : State} {bk : Bank} {o : Nat} {bits : List Nat} (hon : s.bankOn bk = true)
  (ho : o = s.scrubPtr (bankNum bk) * bankWord bk)
include hon ho

theorem scrubStep_clean (hlt : o + bankWord bk < bankSize bk)
    (hu : s.upsetsAt (wordKey bk o) = []) :
    Yields (exec (.scrubStep bk []) s) (fun t => Regs s t [] ∧ Quiet s t ∧
      t.scrubPtr (bankNum bk) = s.scrubPtr (bankNum bk) + 1) := by
  refine .of_eq (scrubStep_advances hon ho hlt) ?_
  rw [State.wordScrub_clean 2 hu]
  exact ⟨.of_regs rfl, quiet_setScrub (.refl s), State.scrubPtr_setScrub _ _ _⟩

/-- The last word of the last bank ends a pass. -/
theorem scrubStep_passes (hlast : o + bankWord bk = bankSize bk)
    (hu : s.upsetsAt (wordKey bk o) = []) :
    Yields (exec (.scrubStep bk []) s) (fun t =>
      Regs s t (if bk = .comm then [(MEM_STAT_PASS, plusOne s MEM_STAT_PASS)] else []) ∧
      Quiet s t ∧ t.scrubPtr (bankNum bk) = 0) := by
  refine .of_eq (scrubStep_last hon ho hlast) ?_
  have hregs : Regs s (s.setScrub (bankNum bk) 0) [] := .of_regs rfl
  have hptr := s.scrubPtr_setScrub (bankNum bk) 0
  rw [State.wordScrub_clean 2 hu]
  by_cases hbk : bk = .comm
  · rw [if_pos hbk, decide_eq_true ((bankNum_eq_five bk).2 hbk), State.when_true]
    refine ⟨hregs.bump (by decide) nofun nofun, ?_, ?_⟩
    · rw [State.bump_eq]
      exact .fset (quiet_setScrub (.refl s))
    · exact (State.scrubPtr_of_keepsRepair (State.fset_keepsRepair _ _ _) _).trans hptr
  · rw [if_neg hbk, decide_eq_false (mt (bankNum_eq_five bk).1 hbk), State.when_false]
    exact ⟨hregs, quiet_setScrub (.refl s), hptr⟩

variable (hlt : o + bankWord bk < bankSize bk)
include hlt

/-- An error within what the code corrects is corrected in the bank (R126, R133). -/
theorem scrubStep_corrects (hp : s.poisonedAt bk o = false)
    (hu : s.upsetsAt (wordKey bk o) = bits) (hne : bits ≠ [])
    (hc : if bankWord bk = 8 then bits.length = 1
      else symbolsHit bits ≤ 5 ∧ bits.all (fun b => b < 336) = true)
    (htr : s.memx.tracks.length < 16) :
    Yields (exec (.scrubStep bk []) s) (fun t =>
      Regs s t [(MEM_EVT_CE, 1),
        (MEM_BANK_n_CECNT (bankNum bk), plusOne s (MEM_BANK_n_CECNT (bankNum bk)))] ∧
      MemSame s t 0 0 ∧ t.flash = s.flash ∧ t.pending = s.pending ∧
      (∀ l, t.lane l = s.lane l) ∧ t.upsetsAt (wordKey bk o) = [] ∧
      t.scrubPtr (bankNum bk) = s.scrubPtr (bankNum bk) + 1) := by
  refine .of_eq (scrubStep_advances hon ho hlt) ?_
  rw [State.wordScrub_corrected 2 hp (hu ▸ hne) (State.finding_corrected hu hne hc)]
  have hregs := regs_recordCe s bk o bits htr
  obtain ⟨r, x, he⟩ := s.recordCe_onlyEcc bk o bits
  rw [he] at hregs ⊢
  exact ⟨hregs.congr rfl, fun j _ => s.byteAt_memPutLe_memLe _ _ j, rfl, rfl,
    fun l => by cases l <;> rfl,
    (State.setScrub_upsetsAt _ _ _ _).trans (State.upsetsAt_setUpsets_self _ _ _),
    State.scrubPtr_setScrub _ _ _⟩

/-- Two bits of a core's memory are detected and stay as they are (R133). -/
theorem scrubStep_detects {b1 b2 : Nat} (hw : bankWord bk = 8)
    (hu : s.upsetsAt (wordKey bk o) = [b1, b2]) :
    Yields (exec (.scrubStep bk []) s) (fun t =>
      Regs s t [(MEM_EVT_UE, 1), (MEM_UEADDR_ADDR, bankAddr bk (wordOff bk o)),
        (MEM_UEINFO_BANK, bankNum bk), (MEM_UEINFO_SRC, 2),
        (MEM_UEINFO_COUNT, plusOne s MEM_UEINFO_COUNT),
        (REC_CNT_c_VAL 11, plusOne s (REC_CNT_c_VAL 11))] ∧ Quiet s t ∧
      t.upsetsAt (wordKey bk o) = [b1, b2] ∧
      t.scrubPtr (bankNum bk) = s.scrubPtr (bankNum bk) + 1) := by
  have hf : s.finding bk o = .uncorrectable := by
    obtain ⟨k, rfl⟩ := exists_priv_of_bankWord hw
    simp only [State.finding, hu, decodePriv]
  have hread := State.wordRead_uncorrectable 2 (s.poisonedAt_priv o hw) hf
  have hregs := regs_recordUe s (src := 2) (bankAddr_wordOff_lt (by omega : o < bankSize bk))
    (by decide)
  have hup : (s.recordUe bk o 2).upsetsAt (wordKey bk o) = [b1, b2] := by
    rw [← hu, State.upsetsAt, State.recordUe_memx, State.upsetsAt]
  refine .of_eq (scrubStep_advances hon ho hlt) ?_
  rw [State.wordScrub_of_none hread, State.poisonWord_priv _ o hw]
  obtain ⟨r, x, he⟩ := s.recordUe_onlyEcc bk o 2
  rw [he] at hregs hup ⊢
  exact ⟨hregs.congr rfl, ⟨rfl, rfl, fun l => by cases l <;> rfl, rfl⟩, hup,
    State.scrubPtr_setScrub _ _ _⟩

/-- A read that leaves the word in poisoned form is all that the step does to memory (R130). -/
theorem scrubStep_poisons {t : State} {fs : List (Fld × Nat)} (hw : bankWord bk = 32)
    (hread : s.wordRead bk o 2 = (t, none)) (hregs : Regs s t fs) (ht : s.poisonedRead t bk o) :
    Yields (exec (.scrubStep bk []) s) (fun t => Regs s t fs ∧
      t.memBytes (bankKey bk o) 32 = List.replicate 32 0 ∧ MemSame s t (bankKey bk o) 32 ∧
      t.wordBad bk o = true ∧ t.flash = s.flash ∧ t.pending = s.pending ∧
      (∀ l, t.lane l = s.lane l) ∧
      t.scrubPtr (bankNum bk) = s.scrubPtr (bankNum bk) + 1) := by
  refine .of_eq (scrubStep_advances hon ho hlt) ?_
  rw [State.wordScrub_of_none hread]
  have hk : wordKey bk o = bankKey bk o := ho ▸ wordKey_mul bk _
  obtain ⟨hzero, hsame, hbad, hflash, hpend, hlanes⟩ :=
    (ht.setScrub (bankNum bk) (s.scrubPtr (bankNum bk) + 1)).facts hw hk
  exact ⟨hregs.congr rfl, hzero, hsame, hbad, hflash, hpend, hlanes,
    State.scrubPtr_setScrub _ _ _⟩

end

/-! ### Trackers and column copies (R138, R140) -/

theorem trackerEntryExpiry_eq (bk : Bank) (row : Nat) (s : State) :
    exec (.trackerEntryExpiry bk row) s = .next { s with memx := { s.memx with
      tracks := s.memx.tracks.filter (fun x => x.1 ≠ bankNum bk || x.2.row ≠ row) } } := by
  have hp : (fun x : Nat × Track => decide ¬(x.1 = bankNum bk ∧ x.2.row = row))
      = fun x => decide (x.1 ≠ bankNum bk) || decide (x.2.row ≠ row) := by
    funext x
    rw [Bool.eq_iff_iff, Bool.or_eq_true, decide_eq_true_iff, decide_eq_true_iff,
      decide_eq_true_iff, Decidable.not_and_iff_or_not]
  change execTrackerEntryExpiry bk row s = _
  rw [execTrackerEntryExpiry, hp]

/-- A row without bits in error is copied as it stands. -/
theorem State.rowCopy_clean {s : State} {bk : Bank} {row : Nat}
    (h : s.memx.upsets.all (fun p => p.1 < bankKey bk (1024 * row) ||
      bankKey bk (1024 * row) + 1024 ≤ p.1) = true) : s.rowCopy bk row = s := by
  have hnone : s.memx.upsets.filter (fun p => bankKey bk (1024 * row) ≤ p.1 &&
      p.1 < bankKey bk (1024 * row) + 1024) = [] := by
    rw [List.filter_eq_nil_iff]
    intro p hp
    have hp' := List.all_eq_true.1 h p hp
    simp only [Bool.or_eq_true, Bool.and_eq_true, decide_eq_true_eq] at hp' ⊢
    omega
  rw [State.rowCopy, hnone, List.foldl_nil]

section
variable {s : State} {bk : Bank} {c : ColRep}

/-- Before the last row of the sub-array the copy advances by one row. -/
theorem columnRepairRowCopy_advances
    (hfind : s.memx.colReps.find? (fun x => x.bank = bankNum bk) = some c)
    (hmore : c.row + 1 < (c.sub + 1) * 512) :
    exec (.columnRepairRowCopy bk) s = .next { s.rowCopy bk c.row with
      memx := { (s.rowCopy bk c.row).memx with
        colReps := { c with row := c.row + 1 } :: s.memx.colReps.filter (fun x => x ≠ c) } } := by
  obtain ⟨-, hcols⟩ := s.rowCopy_keepsRepair bk c.row
  change execColumnRepairRowCopy bk s = _
  simp only [execColumnRepairRowCopy, hfind, if_pos hmore, hcols]

/-- With the last row of its sub-array the only copy of the device ends. -/
theorem columnRepairRowCopy_ends (hcol : s.memx.colReps = [c]) (hbank : c.bank = bankNum bk)
    (hlast : c.row + 1 = (c.sub + 1) * 512)
    (hclean : s.memx.upsets.all (fun p => p.1 < bankKey bk (1024 * c.row) ||
      bankKey bk (1024 * c.row) + 1024 ≤ p.1) = true) :
    exec (.columnRepairRowCopy bk) s
      = .next (State.fset { s with memx := { s.memx with colReps := [] } }
        (repairBusyF (bankNum bk)) 0) := by
  have hfind : s.memx.colReps.find? (fun x => x.bank = bankNum bk) = some c := by
    rw [hcol, List.find?_cons_of_pos (by simpa using hbank)]
  have hrest : s.memx.colReps.filter (fun x => x ≠ c) = [] := by
    rw [hcol]
    simp
  change execColumnRepairRowCopy bk s = _
  simp only [execColumnRepairRowCopy, hfind, State.rowCopy_clean hclean, hrest,
    if_neg (show ¬ c.row + 1 < (c.sub + 1) * 512 by omega)]
  rfl

end

/-! ### Posted-write credits (R149) -/

theorem State.creditsUsed_setCredits_self (s : State) (i k n : Nat) :
    (s.setCredits i k n).creditsUsed i k = n := by
  have hrest : (s.memx.credits.filter (fun x => ¬(x.1 = i ∧ x.2.1 = k))).find?
      (fun x => x.1 = i ∧ x.2.1 = k) = none := by
    rw [List.find?_eq_none]
    intro x hx
    simpa only [decide_eq_true_eq] using (List.mem_filter.1 hx).2
  unfold State.creditsUsed State.setCredits
  dsimp only
  by_cases h : n = 0
  · rw [if_pos h, hrest, h]
  · rw [if_neg h, List.find?_append, hrest]
    simp

theorem State.creditsUsed_setCredits_ne (s : State) {i k a b : Nat} (n : Nat)
    (h : ¬(a = i ∧ b = k)) : (s.setCredits i k n).creditsUsed a b = s.creditsUsed a b := by
  have hrest : (s.memx.credits.filter (fun x => ¬(x.1 = i ∧ x.2.1 = k))).find?
      (fun x => x.1 = a ∧ x.2.1 = b) = s.memx.credits.find? (fun x => x.1 = a ∧ x.2.1 = b) := by
    rw [List.find?_filter]
    congr 1
    funext x
    by_cases hx : x.1 = a ∧ x.2.1 = b
    · obtain ⟨rfl, rfl⟩ := hx
      simp [h]
    · simp [hx]
  unfold State.creditsUsed State.setCredits
  dsimp only
  by_cases hn : n = 0
  · rw [if_pos hn, hrest]
  · have hnew : ¬(i = a ∧ k = b) := fun e => h ⟨e.1.symm, e.2.symm⟩
    rw [if_neg hn, List.find?_append, hrest, List.find?_cons_of_neg (by simpa using hnew),
      List.find?_nil, Option.or_none]

theorem postedWriteCreditReturn_frees {s : State} {ini : Initiator} {k n : Nat}
    (h : s.creditsUsed (initNo ini) k = n + 1) :
    exec (.postedWriteCreditReturn ini k) s = .next (s.setCredits (initNo ini) k n) := by
  change execPostedWriteCreditReturn ini k s = _
  rw [execPostedWriteCreditReturn, h, Nat.add_sub_cancel]

/-! ### The statement -/

/-- Settles O28: a scrub step by what the decoder finds in the word at the pointer, a column copy by
whether it is at its last row, and a credit by the count that is left. -/
theorem scrubbingAndRepair : Obligations.ScrubbingAndRepair := by
  intro s
  refine ⟨fun bk flips => scrubStep_flips bk flips s, ?_, ?_, ?_, ?_, ?_, ?_, ?_, ?_, ?_, ?_, ?_,
    ?_⟩
  · intro bk w b hoff hw hb hu
    exact .of_eq (scrubStep_off_flip hoff hw hb hu)
      ⟨.of_regs rfl, .refl s, State.upsetsAt_setUpsets_self _ _ _, rfl⟩
  · exact fun bk o hon ho hlt hu => scrubStep_clean hon ho hlt hu
  · exact fun bk o hon ho hlast hu => scrubStep_passes hon ho hlast hu
  · exact fun bk o bits hon ho hlt hp hu hne hc htr =>
      scrubStep_corrects hon ho hlt hp hu hne hc htr
  · exact fun bk o b1 b2 hw hon ho hlt hu => scrubStep_detects hon ho hlt hw hu
  · intro bk o bits hw hon ho hlt hp hu h5 ha
    have hf : s.finding bk o = .address := by
      rw [s.finding_burst o hw, hu, decodeBurst_address h5 ha]
    exact scrubStep_poisons hon ho hlt hw (State.wordRead_address 2 hp hf)
      (regs_addressFault s (bankAddr_wordOff_lt (by omega)) (by decide))
      ((s.poisonedRead_recordUe o 2 hw).fset _ _)
  · intro bk o bits hw hon ho hlt hp hu h5
    refine .of_eq (scrubStep_advances hon ho hlt) fun hr => ?_
    have hf : s.finding bk o = .uncorrectable := by
      rw [s.finding_burst o hw, hu, decodeBurst_reported h5 hr]
    obtain ⟨t, ht, hfacts⟩ := scrubStep_poisons hon ho hlt hw
      (State.wordRead_uncorrectable 2 hp hf)
      (regs_uncorrectable s (bankAddr_wordOff_lt (by omega)) (by decide))
      (s.poisonedRead_recordUe o 2 hw)
    rw [scrubStep_advances hon ho hlt] at ht
    exact Host.Outcome.next.inj ht ▸ hfacts
  · exact fun bk row => .of_eq (trackerEntryExpiry_eq bk row s) ⟨.of_regs rfl, .refl s, rfl⟩
  · exact fun bk c hfind hmore => columnRepairRowCopy_advances hfind hmore
  · intro bk c hfind hmore hclean
    have h := columnRepairRowCopy_advances hfind hmore
    rw [State.rowCopy_clean hclean] at h
    exact .of_eq h ⟨.of_regs rfl, .refl s, rfl⟩
  · intro bk c hcol hbank hlast hclean
    have hregs : Regs s { s with memx := { s.memx with colReps := [] } } [] := .of_regs rfl
    have hbit : bankNum bk + 1 ≤ 32 := Nat.le_trans (bankNum_lt bk) (by decide)
    exact .of_eq (columnRepairRowCopy_ends hcol hbank hlast hclean)
      ⟨hregs.fset hbit (Nat.two_pow_pos 1) nofun, .fset (.refl s), rfl⟩
  · intro ini k n h
    exact .of_eq (postedWriteCreditReturn_frees h) ⟨.of_regs rfl, .refl s,
      s.creditsUsed_setCredits_self _ _ _, fun a b hab => s.creditsUsed_setCredits_ne n hab⟩

/-! ### Address faults (R129) -/

/-- A read of a word inside its bank whose correction falls in an address symbol: no data, UE and
its record, ADDR_FAULT, and the word in poisoned form (R129, R130). -/
theorem wordRead_addressFault {s : State} {bk : Bank} {o src : Nat} {bits : List Nat}
    (hw : bankWord bk = 32) (hsrc : src < 8) (ho : o < bankSize bk)
    (hp : s.poisonedAt bk o = false) (hu : s.upsetsAt (wordKey bk o) = bits)
    (h5 : symbolsHit bits ≤ 5) (ha : bits.any (fun b => 336 ≤ b) = true) :
    (s.wordRead bk o src).2 = none ∧
    Regs s (s.wordRead bk o src).1 [(MEM_EVT_ADDR_FAULT, 1), (MEM_EVT_UE, 1),
      (MEM_UEADDR_ADDR, bankAddr bk (wordOff bk o)), (MEM_UEINFO_BANK, bankNum bk),
      (MEM_UEINFO_SRC, src), (MEM_UEINFO_COUNT, plusOne s MEM_UEINFO_COUNT),
      (REC_CNT_c_VAL 11, plusOne s (REC_CNT_c_VAL 11))] ∧
    (s.wordRead bk o src).1.poisonedAt bk o = true := by
  have hf : s.finding bk o = .address := by
    rw [s.finding_burst o hw, hu, decodeBurst_address h5 ha]
  rw [State.wordRead_address src hp hf]
  exact ⟨rfl, regs_addressFault s (bankAddr_wordOff_lt ho) hsrc,
    ((s.poisonedRead_recordUe o src hw).fset _ _).poisonedAt hw⟩

/-- A word behind the end of shared memory, 4 GB up, with a bit of its address in error. -/
def upsetBehindBank : State :=
  { State.reset with memx := { State.reset.memx with upsets := [(0x100000000, [336])] } }

/-- Refutes O55: its first clause has a read leave the address of the word in UEADDR, for whatever
offset of a bank. UEADDR has 32 bits (Table 06-8), and no hypothesis of the clause keeps the offset
inside the bank: below the word lies 4 GB behind the start of shared memory, and no value of the
field is its address. For an offset inside the bank the clause holds (`wordRead_addressFault`). -/
theorem not_addressFaults : ¬ Obligations.AddressFaults := by
  intro h
  obtain ⟨hread, -, -⟩ := h upsetBehindBank
  obtain ⟨-, ⟨hfields, -⟩, -⟩ := hread .shared 0x100000000 0 [336] rfl (by decide)
    (by decide) (by decide) (by decide) (by decide)
  have haddr := hfields (MEM_UEADDR_ADDR, bankAddr .shared (wordOff .shared 0x100000000)) (by simp)
  have hlt := State.fget_lt (upsetBehindBank.wordRead .shared 0x100000000 0).1 MEM_UEADDR_ADDR
  rw [haddr] at hlt
  exact absurd hlt (by decide)

/-! ### Trap entry with SB below the memory of the core (R249) -/

/-- A set with its code at 0 to 0xFFF of the half, its constants from 0x1000 and its stack from
0x2000 on, 0x1000 bytes each; its trap table has a handler for ILLEGAL. SB of lane A is 0. -/
def lowStack : State :=
  { State.reset with
    mem := [(0x110001009, 0x08), (0x11000100B, 0x10), (0x11000100D, 0x80), (0x11000100F, 0x10)]
    boot := { State.reset.boot with act := { CfgSet.empty with loaded := true, secs := [
      { type := 3, inst := 0, crc := 0, bytes := List.replicate 12 0 ++ leBytes 4 0
          ++ leBytes 4 0x1000 ++ leBytes 4 0x1000 ++ leBytes 4 0x1000 ++ leBytes 4 0x2000
          ++ leBytes 4 0x1000 }] } }
    laneA := { Lane.reset with sb := 0 } }

/-- What the four stores of trap entry leave at SB: the trap word, which is stored last. -/
theorem lowStack_saved : (lowStack.trapEnter .a 1 0 0).lread .a 0 8 = 0x100001 ∧
    (lowStack.lane .a).lk = 0 := by decide

/-- Refutes O11: its first clause has LK at SB after trap entry, for whatever SB that leaves 32
bytes below the end of the stack. No hypothesis bounds SB from below. A lane's address below
0x10000000 is none of its core's memory, and the model takes each for offset 0 of the bank: with
SB = 0 the four stores of trap entry fall on the same 8 bytes, which hold the trap word and not LK. -/
theorem not_trapEntryAndReturn : ¬ Obligations.TrapEntryAndReturn := by
  intro h
  obtain ⟨hentry, -⟩ := h lowStack
  obtain ⟨hlk, -⟩ := hentry .a 1 0 0 (by decide) (by decide) (by decide) (by decide)
    (by decide) (by decide) (by decide) (by decide) (by decide) (by decide) (by decide)
    (by decide) (by decide) (by decide)
  obtain ⟨hword, hzero⟩ := lowStack_saved
  rw [hzero] at hlk
  exact absurd (hword.symm.trans hlk) (by decide)

end Sys2Proof.Machine

namespace Sys2Proof.Machine

open Sys2Proof.Claims State

/-! ## Boot and configuration sets

### The first boundary with a column due in no bank

The second clause of `CycleBoundaries` has no hypothesis on `memx.dueCols`. A column repair counts
down `MEM_BANK_n_COLS_LEFT` of the bank it names; for a number that is none of Table 06-2 the
address of this field leaves the memory registers, and for 0x3FFC it is that of BOOT_TIME. -/

/-- An episode at the end of S7 with its paddocks on: lanes A and B vote, lane C waits for its copy,
one microsecond has passed, and a column is due in a bank of number 0x3FFC. -/
def columnOfNoBankDue : State :=
  { State.reset with
    regs := [(0x40000004, 0x000F2001#32), (0x40000100, 0x00A022AA#32), (0x40010004, 0x00002024#32),
             (0x40030000, 0x70000000#32), (0x40040000, 2#32)]
    phys := { State.reset.phys with ok := 0xFF }
    rst := { State.reset.rst with active := false, sources := [] }
    boot := { State.reset.boot with coreOk := 7, shepOk := 3 }
    memx := { State.reset.memx with dueCols := [(0x3FFC, 0, 0)] }
    triad := { State.reset.triad with joinWait := [.c] }
    now := { State.reset.now with epNs := 1000 } }

/-- A first boundary that is due, with the any-service set, begins (R19, R172). -/
theorem cycleBoundary_begins {s : State} {ok : Bool} {sweep : Option (Nat × BitVec 2)}
    (hdue : s.boundaryDue = true) (hserv : s.anyService = true) :
    exec (.cycleBoundary ok sweep) s = .next (s.boundaryBegin ok sweep) := by
  change execCycleBoundary ok sweep s = _
  simp [execCycleBoundary, State.when, hdue, hserv]

theorem columnOfNoBankDue_boundaryDue : columnOfNoBankDue.boundaryDue = true := by decide

theorem columnOfNoBankDue_anyService : columnOfNoBankDue.anyService = true := by decide

set_option maxRecDepth 2000 in
set_option exponentiation.threshold 20000 in
/-- The boundary sets BOOT_TIME to 1, counts it down with the column's repair, and stops before
INPUT at the self-test of lane C. -/
theorem columnOfNoBankDue_bootTime :
    (columnOfNoBankDue.boundaryBegin true none).fget BOOT_TIME_US = 0 := by decide

/-- Refutes O36, by its second clause: a first boundary leaves BOOT_TIME at 0 where one microsecond
has passed, because a column is due in a bank that Table 06-2 does not have, and its count of
columns left is at the address of BOOT_TIME. -/
theorem not_cycleBoundaries : ¬ Obligations.CycleBoundaries := by
  intro h
  obtain ⟨-, hfirst, -⟩ := h columnOfNoBankDue
  obtain ⟨t, ht, -, -, htime, -⟩ := hfirst true rfl rfl rfl (by decide) rfl
    columnOfNoBankDue_anyService rfl rfl rfl
  rw [cycleBoundary_begins columnOfNoBankDue_boundaryDue columnOfNoBankDue_anyService] at ht
  rw [← Host.Outcome.next.inj ht, columnOfNoBankDue_bootTime] at htime
  exact absurd htime (by decide)

/-! ### Bytes of the flash after a program (R158) -/

/-- Programming ANDs each byte of its range and leaves every other byte. -/
theorem smGet_flashAnd (m : List Host.Cell) (a j : Nat) (bs : List Byte) :
    smGet flashDflt (flashAnd m a bs) j =
      if a ≤ j ∧ j < a + bs.length then smGet flashDflt m j &&& bs.getD (j - a) 0
      else smGet flashDflt m j := by
  induction bs generalizing m a with
  | nil => rw [flashAnd, if_neg (by simp)]
  | cons b bs ih =>
    rw [flashAnd, ih, smGet_smSet, List.length_cons]
    by_cases hj : a = j
    · subst hj
      rw [if_neg (by omega), if_pos rfl, if_pos (by omega), Nat.sub_self]
      rfl
    · by_cases hin : a + 1 ≤ j ∧ j < a + 1 + bs.length
      · rw [if_pos hin, if_neg hj, if_pos (by omega), show j - a = (j - (a + 1)) + 1 by omega]
        rfl
      · rw [if_neg hin, if_neg hj, if_neg (by omega)]

/-- Four zero bytes read as zero after their program. -/
theorem cellAt_flashProgram_zeros (s : State) (a j : Nat) :
    cellAt (s.flashProgram a [0, 0, 0, 0]) j = if a ≤ j ∧ j < a + 4 then 0 else cellAt s j := by
  have hzero : ∀ n, ([0, 0, 0, 0] : List Byte).getD n 0 = 0 := fun n => by
    match n with
    | 0 | 1 | 2 | 3 | _ + 4 => rfl
  change smGet flashDflt (flashAnd s.flash a [0, 0, 0, 0]) j = _
  rw [smGet_flashAnd, hzero, show ∀ x : Byte, x &&& 0 = 0 from fun _ => BitVec.and_zero]
  rfl

/-! ### Swap requests (R171, R173) -/

theorem quiet_bootUpd {s t : State} {f : Boot → Boot} (h : Quiet s t) : Quiet s (t.bootUpd f) := h

theorem regs_bootUpd {s t : State} {fs : List (Fld × Nat)} {f : Boot → Boot} (h : Regs s t fs) :
    Regs s (t.bootUpd f) fs := h

theorem bootUpd_fget (s : State) (f : Boot → Boot) (g : Fld) :
    (s.bootUpd f).fget g = s.fget g := rfl

theorem bootUpd_boot (s : State) (f : Boot → Boot) : (s.bootUpd f).boot = f s.boot := rfl

theorem quiet_sresult {s t : State} {r : Nat} {x : Resp} (h : Quiet s t) :
    Quiet s (t.sresult r x) := quiet_answer h.fset

theorem sresult_boot (s : State) (r : Nat) (x : Resp) : (s.sresult r x).boot = s.boot := by
  rw [sresult, answer_boot, fset_boot]

theorem sresult_resp (s : State) (r : Nat) (x : Resp) : (s.sresult r x).resp = x := rfl

/-- A result shown, with whatever response. -/
theorem regs_sresult {s t : State} {fs : List (Fld × Nat)} {r : Nat} {x : Resp} (h : Regs s t fs)
    (hr : r < 16) (ha : ∀ p ∈ fs, BOOT_SSTAT_RESULT.apart p.1 = true) :
    Regs s (t.sresult r x) (fs ++ [(BOOT_SSTAT_RESULT, r)]) :=
  regs_answer (h.fset (by decide) hr ha)

theorem key_toNat_ne {key x : BitVec 8} (h : key ≠ x) : key.toNat ≠ x.toNat :=
  fun e => h (BitVec.eq_of_toNat_eq e)

theorem State.armSwap_accepted {s : State} {ok : Bool} (h : s.swapRefused = false) :
    s.armSwap ok =
      (s.bootUpd (fun b => { b with armed := true, swapBack := b.prevUnconf }), true) := by
  simp [armSwap, h]

/-- A refused swap programs no word unless the shadow set has used up its trials. -/
theorem State.armSwap_refused {s : State} {ok : Bool} (h : s.swapRefused = true)
    (hu : s.shadowUsedUp = false) : s.armSwap ok = (s.fset BOOT_SSTAT_RESULT 9, false) := by
  simp [armSwap, h, hu, State.when]

theorem cfgSwapArm_keyed (s : State) (ok : Bool) : exec (.cfgSwapArm 0xC3 ok) s =
    .next ((s.armSwap ok).1.answer (if (s.armSwap ok).2 then .okay else .target)) :=
  congrArg Host.Outcome.next (if_neg (by decide))

theorem cfgSwap_arms {s : State} {ok : Bool} (h : s.swapRefused = false) :
    Yields (exec (.cfgSwapArm 0xC3 ok) s) (fun t =>
      Regs s t [] ∧ Quiet s t ∧ t.resp = .okay ∧
      t.boot = { s.boot with armed := true, swapBack := s.boot.prevUnconf }) := by
  refine .of_eq (cfgSwapArm_keyed s ok) ?_
  rw [armSwap_accepted h]
  exact ⟨regs_answer (regs_bootUpd (.refl s)), quiet_answer (quiet_bootUpd (.refl s)), rfl, rfl⟩

theorem cfgSwap_refused {s : State} {ok : Bool} (h : s.swapRefused = true)
    (hu : s.shadowUsedUp = false) :
    Yields (exec (.cfgSwapArm 0xC3 ok) s) (fun t =>
      Regs s t [(BOOT_SSTAT_RESULT, 9)] ∧ Quiet s t ∧ t.resp = .target ∧ t.boot = s.boot) := by
  refine .of_eq (t := s.sresult 9 .target) ((cfgSwapArm_keyed s ok).trans ?_)
    ⟨regs_sresult (.refl s) (by decide) nofun, quiet_sresult (.refl s), sresult_resp ..,
      sresult_boot ..⟩
  rw [armSwap_refused h hu]
  rfl

theorem cfgSwap_otherKey {s : State} {k : BitVec 8} (ok : Bool) (h : k ≠ 0xC3) :
    exec (.cfgSwapArm k ok) s = refusedWith s ∧ exec (.cfgSwapConfirm k ok) s = refusedWith s :=
  have hk : k.toNat ≠ 0xC3 := key_toNat_ne h
  ⟨congrArg Host.Outcome.next (if_pos hk), congrArg Host.Outcome.next (if_pos hk)⟩

/-! ### Confirmation -/

theorem State.programWord_ok (s : State) (b : Bool) (o : Nat) :
    s.programWord b o true = s.flashProgram (s.slotBase b + o) [0, 0, 0, 0] := rfl

theorem State.programWord_failed (s : State) (b : Bool) (o : Nat) :
    s.programWord b o false = s.raise BOOT_STAT_FLASH_WR_FAIL := rfl

@[simp] theorem State.programWord_boot (s : State) (b : Bool) (o : Nat) (ok : Bool) :
    (s.programWord b o ok).boot = s.boot := by
  cases ok with
  | true => rw [programWord_ok, flashProgram_boot]
  | false => rw [programWord_failed, raise_eq, fset_boot]

/-- Without a swap that is armed, a confirmation takes back none. -/
theorem cfgSwapConfirm_unarmed {s x : State} {ok : Bool} (ha : s.boot.armed = false)
    (hx : (if wordSet (s.page s.boot.act.slot) 0xF08 then s
      else s.programWord s.boot.act.slot 0xF08 ok) = x) :
    exec (.cfgSwapConfirm 0xC3 ok) s = .next
      ((((x.raise BOOT_SSTAT_CONFIRMED).lower CYC_XSTAT_TRIAL_RUN).bootUpd
        (fun t => { t with prevUnconf := false, swapBack := false })).sresult 0xA .okay) := by
  have harmed : x.boot.armed = false := by
    rw [← hx]
    split
    · exact ha
    · rw [programWord_boot, ha]
  refine congrArg Host.Outcome.next ((if_neg (by decide)).trans ?_)
  simp only [hx, harmed, Bool.false_and, State.when, Bool.false_eq_true, if_false]

theorem regs_confirmed {s t : State} {fs : List (Fld × Nat)} {f : Boot → Boot} (h : Regs s t fs)
    (ha : ∀ p ∈ fs, p.1.addr = BOOT_STAT_FLASH_WR_FAIL.addr) :
    Regs s
      ((((t.raise BOOT_SSTAT_CONFIRMED).lower CYC_XSTAT_TRIAL_RUN).bootUpd f).sresult 0xA .okay)
      (fs ++ [(BOOT_SSTAT_CONFIRMED, 1), (CYC_XSTAT_TRIAL_RUN, 0), (BOOT_SSTAT_RESULT, 0xA)]) := by
  have hap : ∀ g : Fld, g.addr ≠ BOOT_STAT_FLASH_WR_FAIL.addr → ∀ p ∈ fs, g.apart p.1 = true :=
    fun g hg p hp => Fld.apart_of_addr fun e => hg (e.trans (ha p hp))
  have hconfirmed : Regs s (t.raise BOOT_SSTAT_CONFIRMED) (fs ++ [(BOOT_SSTAT_CONFIRMED, 1)]) :=
    h.raise (by decide) (by decide) (hap _ (by decide))
  have htrial : Regs s ((t.raise BOOT_SSTAT_CONFIRMED).lower CYC_XSTAT_TRIAL_RUN)
      (fs ++ [(BOOT_SSTAT_CONFIRMED, 1)] ++ [(CYC_XSTAT_TRIAL_RUN, 0)]) :=
    hconfirmed.fset (by decide) (by decide)
      (List.forall_mem_append.2 ⟨hap _ (by decide), by decide⟩)
  have hresult := regs_sresult (r := 0xA) (x := .okay) (regs_bootUpd (f := f) htrial) (by decide)
    (List.forall_mem_append.2
      ⟨List.forall_mem_append.2 ⟨hap _ (by decide), by decide⟩, by decide⟩)
  rwa [List.append_assoc, List.append_assoc] at hresult

theorem quiet_confirmed {s t : State} (f : Boot → Boot) (h : Quiet s t) : Quiet s
    ((((t.raise BOOT_SSTAT_CONFIRMED).lower CYC_XSTAT_TRIAL_RUN).bootUpd f).sresult 0xA .okay) :=
  quiet_sresult (quiet_bootUpd h.fset.fset)

theorem confirmed_boot (t : State) (f : Boot → Boot) :
    ((((t.raise BOOT_SSTAT_CONFIRMED).lower CYC_XSTAT_TRIAL_RUN).bootUpd f).sresult 0xA .okay).boot
      = f t.boot := by
  rw [sresult_boot, bootUpd_boot, State.lower, fset_boot, raise_eq, fset_boot]

theorem cfgSwapConfirm_confirmed {s : State} {ok : Bool}
    (hw : wordSet (s.page s.boot.act.slot) 0xF08 = true) (ha : s.boot.armed = false) :
    Yields (exec (.cfgSwapConfirm 0xC3 ok) s) (fun t =>
      Regs s t [(BOOT_SSTAT_CONFIRMED, 1), (CYC_XSTAT_TRIAL_RUN, 0), (BOOT_SSTAT_RESULT, 0xA)] ∧
      Quiet s t ∧ t.resp = .okay ∧
      t.boot = { s.boot with prevUnconf := false, swapBack := false }) :=
  .of_eq (cfgSwapConfirm_unarmed ha (if_pos hw))
    ⟨regs_confirmed (.refl s) nofun, quiet_confirmed _ (.refl s), sresult_resp ..,
      confirmed_boot ..⟩

theorem cfgSwapConfirm_programs {s : State} {ok : Bool}
    (hw : wordSet (s.page s.boot.act.slot) 0xF08 = false) (ha : s.boot.armed = false) :
    Yields (exec (.cfgSwapConfirm 0xC3 ok) s) (fun t =>
      Regs s t ([(BOOT_SSTAT_CONFIRMED, 1), (CYC_XSTAT_TRIAL_RUN, 0), (BOOT_SSTAT_RESULT, 0xA)] ++
        if ok then [] else [(BOOT_STAT_FLASH_WR_FAIL, 1)]) ∧
      t.mem = s.mem ∧ (∀ l, t.lane l = s.lane l) ∧ t.pending = s.pending ∧
      (∀ a, cellAt t a = if ok = true ∧ s.slotBase s.boot.act.slot + 0xF08 ≤ a ∧
        a < s.slotBase s.boot.act.slot + 0xF0C then 0 else cellAt s a) ∧
      t.resp = .okay ∧ t.boot = { s.boot with prevUnconf := false, swapBack := false }) := by
  refine .of_eq (cfgSwapConfirm_unarmed ha (if_neg (by simp [hw]))) ?_
  rw [confirmed_boot, programWord_boot]
  cases ok with
  | true =>
    rw [programWord_ok]
    obtain ⟨hm, hf, hl, hp⟩ := quiet_confirmed
      (fun t => { t with prevUnconf := false, swapBack := false })
      (.refl (s.flashProgram (s.slotBase s.boot.act.slot + 0xF08) [0, 0, 0, 0]))
    refine ⟨regs_confirmed (.of_regs (flashProgram_regs ..)) nofun, hm, hl, hp, fun a => ?_,
      sresult_resp .., rfl⟩
    refine (congrArg (smGet flashDflt · a) hf).trans ?_
    simp only [true_and]
    exact cellAt_flashProgram_zeros s _ a
  | false =>
    rw [programWord_failed]
    have hfail : Regs s (s.raise BOOT_STAT_FLASH_WR_FAIL) [(BOOT_STAT_FLASH_WR_FAIL, 1)] :=
      (Regs.refl s).raise (by decide) (by decide) nofun
    obtain ⟨hm, hf, hl, hp⟩ := quiet_confirmed
      (fun t => { t with prevUnconf := false, swapBack := false })
      ((Quiet.refl s).fset (f := BOOT_STAT_FLASH_WR_FAIL) (v := 1))
    refine ⟨(regs_confirmed hfail (by decide)).of_mem_iff fun p => List.mem_append.trans
      (Or.comm.trans List.mem_append.symm), hm, hl, hp, fun a => ?_, sresult_resp .., rfl⟩
    rw [if_neg (by simp)]
    exact congrArg (smGet flashDflt · a) hf

/-! ### The lock, and the end of a trial (R170, R286) -/

theorem answer_resp (s : State) (r : Resp) : (s.answer r).resp = r := rfl

theorem bootLockSet_eq (s : State) :
    exec .bootLockSet s = .next ((s.raise BOOT_LOCK_LOCK).answer .okay) := rfl

theorem bootLockSet_sets (s : State) : Yields (exec .bootLockSet s) (fun t =>
    Regs s t [(BOOT_LOCK_LOCK, 1)] ∧ Quiet s t ∧ t.resp = .okay) :=
  .of_eq (bootLockSet_eq s) ⟨regs_answer ((Regs.refl s).raise (by decide) (by decide) nofun),
    quiet_answer (Quiet.refl s).fset, answer_resp ..⟩

theorem trialTimerExpiry_running {s : State} (h : s.fget CYC_XSTAT_TRIAL_RUN = 1)
    (ha : (s.lower CYC_XSTAT_TRIAL_RUN).swapRefused = false) :
    Yields (exec .trialTimerExpiry s) (fun t =>
      Regs s t [(CYC_XSTAT_TRIAL_RUN, 0), (CYC_EVT_AUTO_BACK, 1)] ∧ Quiet s t ∧
      t.boot = { s.boot with armed := true, swapBack := s.boot.prevUnconf }) := by
  have htrial : Regs s (s.lower CYC_XSTAT_TRIAL_RUN) [(CYC_XSTAT_TRIAL_RUN, 0)] :=
    (Regs.refl s).fset (by decide) (by decide) nofun
  refine .of_eq (congrArg Host.Outcome.next (if_pos (by simp [State.flag, h]))) ?_
  simp only [armSwap_accepted ha, when_true]
  refine ⟨(regs_bootUpd htrial).raise (by decide) (by decide) (by decide),
    .fset (quiet_bootUpd (.fset (.refl s))), ?_⟩
  rw [raise_eq, fset_boot, bootUpd_boot, lower_eq, fset_boot]

theorem trialTimerExpiry_idle {s : State} (h : s.fget CYC_XSTAT_TRIAL_RUN = 0) :
    exec .trialTimerExpiry s = .next s :=
  congrArg Host.Outcome.next (if_neg (by simp [State.flag, h]))

/-- Settles O33: an accepted swap only arms, a refused one only shows its result, and a confirmation
programs the slot's word where it is blank and then sets the same fields. -/
theorem swapRequests : Obligations.SwapRequests := fun _ =>
  ⟨fun _ => cfgSwap_arms, fun _ => cfgSwap_refused, fun _ ok => cfgSwap_otherKey ok,
    fun _ => cfgSwapConfirm_confirmed, fun _ => cfgSwapConfirm_programs, bootLockSet_sets _,
    trialTimerExpiry_running, trialTimerExpiry_idle⟩

/-! ### What a load into memory changes

Memory, the memory system's records and registers outside BOOT_SSTAT: the frame of every operation
that the loader writes a half with (R167, R271, R273). -/

/-- Memory, its records and registers change, and the word of BOOT_SSTAT does not. -/
def State.loadsOnly (s t : State) : Prop :=
  s.onlyRead t ∧ t.regs.word BOOT_SSTAT_BUSY.addr = s.regs.word BOOT_SSTAT_BUSY.addr

theorem State.loadsOnly_refl (s : State) : s.loadsOnly s := ⟨s.onlyRead_refl, rfl⟩

theorem State.loadsOnly_trans {s t u : State} (h : s.loadsOnly t) (k : t.loadsOnly u) :
    s.loadsOnly u := ⟨onlyRead_trans h.1 k.1, k.2.trans h.2⟩

theorem State.loadsOnly_foldl {β : Type} {f : State → β → State}
    (hf : ∀ (x : State) b, x.loadsOnly (f x b))
    (l : List β) (s : State) : s.loadsOnly (l.foldl f s) :=
  List.foldlRecOn (motive := s.loadsOnly) l f s.loadsOnly_refl fun x hx b _ =>
    loadsOnly_trans hx (hf x b)

theorem State.loadsOnly_of_regs {s t : State} (h : s.onlyRead t) (e : t.regs = s.regs) :
    s.loadsOnly t := ⟨h, by rw [e]⟩

theorem State.loadsOnly_of_mem (s : State) (m : List Host.Cell) (x : Memx) :
    s.loadsOnly { s with mem := m, memx := x } := loadsOnly_of_regs ⟨m, s.regs, x, rfl⟩ rfl

/-- A field of another register. -/
theorem State.fset_loadsOnly (s : State) (f : Fld) (v : Nat) (h : f.addr ≠ BOOT_SSTAT_BUSY.addr) :
    s.loadsOnly (s.fset f v) :=
  ⟨onlyRead_of_onlyEcc (s.fset_onlyEcc f v), RegMap.word_fset_ne s.regs f v h⟩

theorem State.trackRow_loadsOnly (s : State) (b row : Nat) : s.loadsOnly (s.trackRow b row) := by
  refine ⟨onlyRead_of_onlyEcc (s.trackRow_onlyEcc b row), ?_⟩
  unfold State.trackRow
  split
  · split
    · rfl
    · dsimp only
      split <;> rfl
  · dsimp only
    split
    · rfl
    · split
      · rfl
      · next v _ =>
        cases h : decide (v.count ≥ 2)
        · rfl
        · exact RegMap.word_fset_ne _ _ _ (by decide)

theorem State.recordCe_loadsOnly (s : State) (bk : Bank) (off : Nat) (bits : List Nat) :
    s.loadsOnly (s.recordCe bk off bits) := by
  have hcount : (MEM_BANK_n_CECNT (bankNum bk)).addr ≠ BOOT_SSTAT_BUSY.addr := by
    have := bankNum_lt bk
    simp only [ne_eq]
    omega
  have hbit : ∀ (x : State) n, x.loadsOnly (x.trackBit (bankNum bk) (off / 1024) n) := fun x n =>
    loadsOnly_of_regs (onlyRead_of_onlyEcc (x.trackBit_onlyEcc _ _ n)) (x.trackBit_regs _ _ n)
  exact loadsOnly_trans (loadsOnly_trans (loadsOnly_trans (s.fset_loadsOnly _ _ (by decide))
    (fset_loadsOnly _ _ _ hcount)) (trackRow_loadsOnly _ _ _)) (loadsOnly_foldl hbit _ _)

theorem State.recordUe_loadsOnly (s : State) (bk : Bank) (off src : Nat) :
    s.loadsOnly (s.recordUe bk off src) :=
  loadsOnly_trans (loadsOnly_trans (loadsOnly_trans (loadsOnly_trans (loadsOnly_trans
    (s.fset_loadsOnly _ _ (by decide)) (fset_loadsOnly _ _ _ (by decide)))
    (fset_loadsOnly _ _ _ (by decide))) (fset_loadsOnly _ _ _ (by decide)))
    (fset_loadsOnly _ _ _ (by decide))) (fset_loadsOnly _ _ _ (by decide))

theorem State.wordRead_loadsOnly (s : State) (bk : Bank) (off src : Nat) :
    s.loadsOnly (s.wordRead bk off src).1 := by
  have hue : s.loadsOnly ((s.recordUe bk off src).poisonWord bk off) :=
    loadsOnly_trans (s.recordUe_loadsOnly bk off src)
      (loadsOnly_of_regs (poisonWord_onlyRead _ bk off) (poisonWord_regs _ bk off))
  rcases s.wordRead_cases bk off src with
    ⟨-, e⟩ | ⟨-, e⟩ | ⟨b, -, e⟩ | ⟨d, b, -, e⟩ | ⟨-, e⟩ | ⟨-, e⟩ <;> rw [e]
  · exact s.loadsOnly_refl
  · exact s.loadsOnly_refl
  · exact s.recordCe_loadsOnly bk off b
  · cases h : !b.isEmpty
    · exact s.loadsOnly_refl
    · exact s.recordCe_loadsOnly bk off b
  · exact hue
  · exact loadsOnly_trans hue (fset_loadsOnly _ _ _ (by decide))

theorem State.bankBytes_loadsOnly (s : State) (bk : Bank) (off n src : Nat) :
    s.loadsOnly (s.bankBytes bk off n src).1 := by
  unfold State.bankBytes
  split
  · exact s.loadsOnly_refl
  · exact List.foldlRecOn (motive := fun p : State × Option (List Byte) => s.loadsOnly p.1) _ _
      s.loadsOnly_refl fun p hp o _ => loadsOnly_trans hp (p.1.wordRead_loadsOnly bk o src)

theorem State.wordStore_loadsOnly (s : State) (bk : Bank) (off n v src : Nat) :
    s.loadsOnly (s.wordStore bk off n v src).1 := by
  unfold State.wordStore
  have hr := s.wordRead_loadsOnly bk off src
  split
  · exact s.loadsOnly_of_mem _ _
  · dsimp only
    split
    · exact hr
    · split
      · exact loadsOnly_trans hr (loadsOnly_of_mem _ _ _)
      · exact loadsOnly_trans hr (loadsOnly_of_mem _ _ _)

theorem State.bankPut_loadsOnly (s : State) (bk : Bank) (off src : Nat) (bs : List Byte) :
    s.loadsOnly (s.bankPut bk off src bs) := by
  unfold State.bankPut
  split
  · exact s.loadsOnly_of_mem _ _
  · exact loadsOnly_foldl (fun x _ => x.wordStore_loadsOnly _ _ _ _ _) _ s

theorem State.burstPut_loadsOnly (s : State) (a : Nat) (bs : List Byte) :
    s.loadsOnly (s.burstPut a bs) := by
  unfold State.burstPut
  split
  · exact s.bankPut_loadsOnly _ _ _ bs
  · exact s.loadsOnly_of_mem _ _

theorem State.privPut_loadsOnly (s : State) (k : CoreId) (a : Nat) (bs : List Byte) :
    s.loadsOnly (s.privPut k a bs) := s.bankPut_loadsOnly _ _ _ bs

theorem State.relocate_loadsOnly (s : State) (k : CoreId) (hb cofs : Nat) :
    s.loadsOnly (s.relocate k hb cofs) := by
  refine loadsOnly_foldl (fun x i => ?_) _ s
  have hr := x.bankBytes_loadsOnly (.priv k) (hb + cofs + 8 * i - 0x10000000) 8 4
  dsimp only
  split
  · split
    · exact hr
    · exact loadsOnly_trans hr (privPut_loadsOnly _ _ _ _)
  · exact hr

theorem State.instInit_loadsOnly (s : State) (k : CoreId) (hb : Nat) (i : InstE) :
    s.loadsOnly (s.instInit k hb i) := by
  unfold State.instInit
  have hr := s.bankBytes_loadsOnly (.priv k) (hb + i.init - 0x10000000) i.size 4
  split
  · exact s.privPut_loadsOnly _ _ _
  · dsimp only
    split
    · exact loadsOnly_trans hr (privPut_loadsOnly _ _ _ _)
    · exact hr

theorem State.coreLoad_loadsOnly (s : State) (g : Img) (h : Nat) (k : CoreId) :
    s.loadsOnly (s.coreLoad g h k) :=
  loadsOnly_trans (loadsOnly_trans (loadsOnly_foldl (fun x _ => x.privPut_loadsOnly _ _ _) _ s)
    (relocate_loadsOnly _ _ _ _)) (loadsOnly_foldl (fun x _ => x.instInit_loadsOnly _ _ _) _ _)

theorem State.halfLoad_loadsOnly (s : State) (g : Img) (h : Nat) : s.loadsOnly (s.halfLoad g h) :=
  loadsOnly_trans (loadsOnly_foldl (fun x k => x.coreLoad_loadsOnly g h k) _ s)
    (burstPut_loadsOnly _ _ _)

/-! ### The frame of a load's end (R168) -/

theorem State.loadsOnly_fget {s t : State} {f : Fld} (h : s.loadsOnly t)
    (hf : f.addr = BOOT_SSTAT_BUSY.addr) : t.fget f = s.fget f := by
  rw [State.fget, RegMap.fget, hf, h.2, ← hf]
  rfl

theorem State.loadsOnly_frame {s t : State} (h : s.loadsOnly t) :
    t.boot = s.boot ∧ t.flash = s.flash ∧ t.pending = s.pending ∧ ∀ l, t.lane l = s.lane l := by
  obtain ⟨⟨m, r, x, e⟩, -⟩ := h
  subst e
  exact ⟨rfl, rfl, rfl, fun l => by cases l <;> rfl⟩

theorem quiet_whenRaise {s t : State} (b : Bool) (f : Fld) (h : Quiet s t) :
    Quiet s (t.when b (fun x => x.raise f)) := by
  cases b
  · exact h
  · exact h.fset

theorem fget_whenRaise (s : State) (b : Bool) {f g : Fld} (hf : f.lo + f.width ≤ 32)
    (hg : f.apart g = true) : (s.when b (fun x => x.raise f)).fget g = s.fget g := by
  cases b
  · rfl
  · exact s.fget_fset_apart f g 1 hf hg

@[simp] theorem whenRaise_boot (s : State) (b : Bool) (f : Fld) :
    (s.when b (fun x => x.raise f)).boot = s.boot := by
  cases b
  · rfl
  · exact s.fset_boot f 1

theorem loadImg_fset_bootUpd (s : State) (f : Fld) (v : Nat) (g : Boot → Boot) (b : Bool) :
    ((s.fset f v).bootUpd g).loadImg b = s.loadImg b := rfl

/-! ### The check value (R448) -/

theorem crcStepR_lt {poly c n : Nat} (hp : poly < 2 ^ n) (hc : c < 2 ^ n) :
    crcStepR poly c < 2 ^ n := by
  have hhalf : c / 2 < 2 ^ n := Nat.lt_of_le_of_lt (Nat.div_le_self c 2) hc
  unfold crcStepR
  split
  · exact Nat.xor_lt_two_pow hhalf hp
  · exact hhalf

theorem crcStepsR_lt {poly n : Nat} (hp : poly < 2 ^ n) (k : Nat) {c : Nat} (hc : c < 2 ^ n) :
    crcStepsR poly k c < 2 ^ n := by
  induction k generalizing c with
  | zero => exact hc
  | succ k ih => exact ih (crcStepR_lt hp hc)

theorem crcBytesR_lt {poly n : Nat} (hp : poly < 2 ^ n) (hn : 8 ≤ n) (bs : List Byte) {c : Nat}
    (hc : c < 2 ^ n) : crcBytesR poly c bs < 2 ^ n :=
  List.foldlRecOn (motive := (· < 2 ^ n)) bs _ hc fun _ ha b _ => crcStepsR_lt hp 8
    (Nat.xor_lt_two_pow ha (Nat.lt_of_lt_of_le b.isLt (Nat.pow_le_pow_right (by decide) hn)))

theorem crc32c_lt (bs : List Byte) : crc32c bs < 2 ^ 32 :=
  Nat.xor_lt_two_pow (crcBytesR_lt (by decide) (by decide) bs (by decide)) (by decide)

theorem CfgSet.checkVal_lt (c : CfgSet) : c.checkVal < 2 ^ 32 := by
  unfold CfgSet.checkVal
  split
  · exact crc32c_lt _
  · decide

/-! ### A load that is over -/

/-- The state in which an image is checked and loaded: no load runs any more. -/
def State.loadOver (s : State) : State :=
  (s.lower BOOT_SSTAT_BUSY).bootUpd (fun t => { t with loading := none })

theorem State.loadOver_eq (s : State) : s.loadOver =
    { s.lower BOOT_SSTAT_BUSY with boot := { s.boot with loading := none } } := by
  rw [loadOver, bootUpd, lower_eq, fset_boot]

theorem State.loadOver_boot (s : State) : s.loadOver.boot = { s.boot with loading := none } := by
  rw [loadOver_eq]

theorem State.loadOver_loadImg (s : State) (b : Bool) : s.loadOver.loadImg b = s.loadImg b :=
  loadImg_fset_bootUpd s _ _ _ b

theorem quiet_loadOver {s t : State} (h : Quiet s t) : Quiet s t.loadOver := quiet_bootUpd h.fset

theorem regs_loadOver (s : State) : Regs s s.loadOver [(BOOT_SSTAT_BUSY, 0)] :=
  regs_bootUpd ((Regs.refl s).fset (by decide) (by decide) nofun)

theorem State.loadOver_fget {s : State} {f : Fld} (h : BOOT_SSTAT_BUSY.addr ≠ f.addr) :
    s.loadOver.fget f = s.fget f :=
  (regs_loadOver s).2 f (List.forall_mem_singleton.2 (Fld.apart_of_addr h))

/-! ### Requests of a shadow load (R168, R169) -/

theorem State.flag_of_fget {s : State} {f : Fld} {v : Nat} (h : s.fget f = v) :
    s.flag f = decide (v = 1) := by rw [State.flag, h]

theorem shadowLoadStart_keyed (s : State) (b : Bool) :
    exec (.shadowLoadStart 0x5A b) s = .next (s.sloadStart 0x5A b) := rfl

theorem shadowLoadAbort_keyed (s : State) :
    exec (.shadowLoadAbort 0x5A) s = .next (s.sloadAbort 0x5A) := rfl

/-- A request that shows a result and is answered TARGET. -/
theorem sresult_refuses (s : State) {r : Nat} (hr : r < 16) :
    Regs s (s.sresult r .target) [(BOOT_SSTAT_RESULT, r)] ∧ Quiet s (s.sresult r .target) ∧
    (s.sresult r .target).resp = .target ∧ (s.sresult r .target).boot = s.boot :=
  ⟨regs_sresult (.refl s) hr nofun, quiet_sresult (.refl s), sresult_resp .., sresult_boot ..⟩

theorem shadowLoadStart_busy {s : State} (b : Bool) (h : s.fget BOOT_SSTAT_BUSY = 1) :
    exec (.shadowLoadStart 0x5A b) s = .next (s.sresult 2 .target) := by
  rw [shadowLoadStart_keyed]
  simp [sloadStart, flag_of_fget h]

section
variable {s : State} {b : Bool}

theorem shadowLoadStart_unconfirmed (hb : s.fget BOOT_SSTAT_BUSY = 0)
    (hc : s.fget BOOT_SSTAT_CONFIRMED = 0) :
    exec (.shadowLoadStart 0x5A b) s = .next (s.sresult 3 .target) := by
  rw [shadowLoadStart_keyed]
  simp [sloadStart, flag_of_fget hb, flag_of_fget hc]

variable (hb : s.fget BOOT_SSTAT_BUSY = 0) (hc : s.fget BOOT_SSTAT_CONFIRMED = 1)
include hb hc

theorem shadowLoadStart_invalid (hv : s.slotValid b = false) :
    exec (.shadowLoadStart 0x5A b) s = .next (s.sresult 4 .target) := by
  rw [shadowLoadStart_keyed]
  simp [sloadStart, flag_of_fget hb, flag_of_fget hc, hv]

theorem shadowLoadStart_armed (hv : s.slotValid b = true) (ha : s.boot.armed = true) :
    exec (.shadowLoadStart 0x5A b) s = .next (s.sresult 0xB .target) := by
  rw [shadowLoadStart_keyed]
  simp [sloadStart, flag_of_fget hb, flag_of_fget hc, hv, ha]

theorem shadowLoadStart_starts (hv : s.slotValid b = true) (ha : s.boot.armed = false) :
    exec (.shadowLoadStart 0x5A b) s = .next ((((((s.raise BOOT_SSTAT_BUSY).lower
      BOOT_SSTAT_READY).lower BOOT_SSTAT_NEEDS_RESTART).lower SAF_SHCHECKVAL_VAL).bootUpd
      (fun t => { t with loading := some b, shd := .empty, prevUnconf := false })).answer
      .okay) := by
  rw [shadowLoadStart_keyed]
  simp [sloadStart, flag_of_fget hb, flag_of_fget hc, hv, ha]

end

theorem regs_shadowLoadStart (s : State) (f : Boot → Boot) :
    Regs s ((((((s.raise BOOT_SSTAT_BUSY).lower BOOT_SSTAT_READY).lower
      BOOT_SSTAT_NEEDS_RESTART).lower SAF_SHCHECKVAL_VAL).bootUpd f).answer .okay)
      [(BOOT_SSTAT_BUSY, 1), (BOOT_SSTAT_READY, 0), (BOOT_SSTAT_NEEDS_RESTART, 0),
        (SAF_SHCHECKVAL_VAL, 0)] :=
  regs_answer (regs_bootUpd (((((Regs.refl s).raise (by decide) (by decide) nofun).fset
    (by decide) (by decide) (by decide)).fset (by decide) (by decide) (by decide)).fset
    (by decide) (by decide) (by decide)))

theorem shadowLoadAbort_running {s : State} {b : Bool} (h : s.boot.loading = some b) :
    exec (.shadowLoadAbort 0x5A) s = .next (s.loadOver.sresult 6 .okay) := by
  rw [shadowLoadAbort_keyed]
  simp [sloadAbort, h, loadOver]

theorem shadowLoadAbort_idle {s : State} (h : s.boot.loading = none) :
    exec (.shadowLoadAbort 0x5A) s = .next
      (if s.fget BOOT_SSTAT_READY = 1 then s.sresult 7 .okay else s.answer .okay) := by
  rw [shadowLoadAbort_keyed]
  simp [sloadAbort, h, State.flag]

theorem shadowLoad_otherKey {s : State} {k : BitVec 8} (b : Bool) (h : k ≠ 0x5A) :
    exec (.shadowLoadStart k b) s = refusedWith s ∧ exec (.shadowLoadAbort k) s = refusedWith s :=
  have hk : k.toNat ≠ 0x5A := key_toNat_ne h
  ⟨congrArg Host.Outcome.next (if_pos hk), congrArg Host.Outcome.next (if_pos hk)⟩

/-! ### The end of a shadow load (R168, R169) -/

theorem State.loadOver_loadCores (s : State) : s.loadOver.loadCores = s.loadCores := by
  have hstat : ∀ p, s.loadOver.fget (pstat p) = s.fget (pstat p) :=
    fun p => loadOver_fget (by simp [pstat])
  have hretired : ∀ k, s.loadOver.retired k = s.retired k := fun k => by
    rw [State.retired, State.flag, loadOver_fget (by simp [retiredF])]
    rfl
  simp only [State.loadCores, hstat, hretired]

/-- Does an image take the place of the shadow set: it passes the checks, and no core that is loaded
failed its readback? -/
def State.loadable (s : State) (g : Img) (cf : BitVec 4) : Bool :=
  dataOk s.boot.act g.set && primesOk s.boot.act g.set && (s.loadOver.rwEntries g.set.heldRw).2
    && s.loadCores.all (fun k => !cf.getLsbD k.num)

theorem shadowLoadDone_idle {s : State} (agree : Bool) (cf : BitVec 4) (h : s.boot.loading = none) :
    exec (.shadowLoadDone agree cf) s = .next s := by
  change execShadowLoadDone agree cf s = _
  rw [execShadowLoadDone, h]

theorem shadowLoadDone_unreadable {s : State} {b : Bool} (agree : Bool) (cf : BitVec 4)
    (h : s.boot.loading = some b) (hg : s.loadImg b = none) :
    exec (.shadowLoadDone agree cf) s = .next (s.loadOver.fset BOOT_SSTAT_RESULT 5) := by
  change execShadowLoadDone agree cf s = _
  have hg' : s.loadOver.loadImg b = none := (s.loadOver_loadImg b).trans hg
  unfold State.loadOver at *
  simp only [execShadowLoadDone, h, hg']

theorem shadowLoadDone_read {s : State} {b : Bool} {g : Img} (agree : Bool) (cf : BitVec 4)
    (h : s.boot.loading = some b) (hg : s.loadImg b = some g) :
    exec (.shadowLoadDone agree cf) s = .next (if s.loadable g cf then s.loadOver.sloadDone g agree
      else s.loadOver.fset BOOT_SSTAT_RESULT 5) := by
  change execShadowLoadDone agree cf s = _
  have hg' : s.loadOver.loadImg b = some g := (s.loadOver_loadImg b).trans hg
  have hact : s.loadOver.boot.act = s.boot.act := by rw [loadOver_boot]
  rw [State.loadable, ← hact, ← s.loadOver_loadCores]
  unfold State.loadOver at *
  simp only [execShadowLoadDone, h, hg']

/-- SECTION_FAIL (5) ends a load. -/
theorem loadFailed_leaves (s : State) :
    Regs s (s.loadOver.fset BOOT_SSTAT_RESULT 5) [(BOOT_SSTAT_BUSY, 0), (BOOT_SSTAT_RESULT, 5)] ∧
    Quiet s (s.loadOver.fset BOOT_SSTAT_RESULT 5) ∧
    (s.loadOver.fset BOOT_SSTAT_RESULT 5).boot = { s.boot with loading := none } :=
  ⟨(regs_loadOver s).fset (by decide) (by decide) (by decide), .fset (quiet_loadOver (.refl s)),
    (fset_boot ..).trans s.loadOver_boot⟩

/-- What the end of a load shows: READY or NEEDS_RESTART and the slot, the events that are due, the
check value `v`, and RESULT 1. -/
def State.loadShown (s : State) (nr slot diff miss : Bool) (v : Nat) : State :=
  ((((((s.show BOOT_SSTAT_READY (!nr)).show BOOT_SSTAT_NEEDS_RESTART nr).show
    BOOT_SSTAT_SHADOW_SLOT slot).when diff (fun x => x.raise SAF_EVT_CHK_DIFF)).when miss
    (fun x => x.raise SAF_EVT_SHADOW_MISMATCH)).fset SAF_SHCHECKVAL_VAL v).fset BOOT_SSTAT_RESULT 1

/-- A half is written, then the shadow set and its check are shown. -/
theorem State.sloadDone_eq (s : State) (g : Img) (agree : Bool) : s.sloadDone g agree =
    ((s.halfLoad g (1 - s.actSet)).bootUpd (fun b => { b with shd := g.set })).loadShown
      (s.needsRestart g.set) g.set.slot (!agree && g.set.has 0x0B 0)
      (!g.set.matchOk (if agree then g.set.checkVal else 0))
      (if agree then g.set.checkVal else 0) := rfl

section
variable (s : State) (nr slot diff miss : Bool) (v : Nat)

theorem quiet_loadShown : Quiet s (s.loadShown nr slot diff miss v) :=
  .fset (.fset (quiet_whenRaise _ _ (quiet_whenRaise _ _ (.fset (.fset (.fset (.refl s)))))))

theorem loadShown_boot : (s.loadShown nr slot diff miss v).boot = s.boot := by
  rw [State.loadShown, fset_boot, fset_boot, whenRaise_boot, whenRaise_boot, show_eq, fset_boot,
    show_eq, fset_boot, show_eq, fset_boot]

theorem loadShown_result : (s.loadShown nr slot diff miss v).fget BOOT_SSTAT_RESULT = 1 := by
  rw [State.loadShown, fget_fset_self _ _ _ (by decide)]
  rfl

theorem loadShown_checkVal (hv : v < 2 ^ 32) :
    (s.loadShown nr slot diff miss v).fget SAF_SHCHECKVAL_VAL = v := by
  rw [State.loadShown, fget_fset_apart _ _ _ _ (by decide) (by decide),
    fget_fset_self _ _ _ (by decide)]
  exact Nat.mod_eq_of_lt hv

/-- The other fields of BOOT_SSTAT are those of the three bits shown. -/
theorem loadShown_bits {f : Fld} (ha : f.addr = BOOT_SSTAT_RESULT.addr)
    (hf : BOOT_SSTAT_RESULT.apart f = true) : (s.loadShown nr slot diff miss v).fget f =
      (((s.show BOOT_SSTAT_READY (!nr)).show BOOT_SSTAT_NEEDS_RESTART nr).show
        BOOT_SSTAT_SHADOW_SLOT slot).fget f := by
  have hap : ∀ g : Fld, g.addr ≠ BOOT_SSTAT_RESULT.addr → g.apart f = true :=
    fun g hg => Fld.apart_of_addr fun e => hg (e.trans ha)
  rw [State.loadShown, fget_fset_apart _ _ _ _ (by decide) hf,
    fget_fset_apart _ _ _ _ (by decide) (hap _ (by decide)),
    fget_whenRaise _ _ (by decide) (hap _ (by decide)),
    fget_whenRaise _ _ (by decide) (hap _ (by decide))]

theorem regs_threeShown : Regs s (((s.show BOOT_SSTAT_READY (!nr)).show BOOT_SSTAT_NEEDS_RESTART
    nr).show BOOT_SSTAT_SHADOW_SLOT slot) [(BOOT_SSTAT_READY, bitNat (!nr)),
      (BOOT_SSTAT_NEEDS_RESTART, bitNat nr), (BOOT_SSTAT_SHADOW_SLOT, bitNat slot)] := by
  have hready := (Regs.refl s).fset (f := BOOT_SSTAT_READY) (by decide) (bitNat_lt_two (!nr)) nofun
  have hrestart := hready.fset (f := BOOT_SSTAT_NEEDS_RESTART) (v := bitNat nr) (by decide)
    (bitNat_lt_two nr) (List.forall_mem_singleton.2 rfl)
  exact hrestart.fset (by decide) (bitNat_lt_two slot)
    (List.forall_mem_cons.2 ⟨rfl, List.forall_mem_singleton.2 rfl⟩)

theorem loadShown_busy :
    (s.loadShown nr slot diff miss v).fget BOOT_SSTAT_BUSY = s.fget BOOT_SSTAT_BUSY := by
  rw [loadShown_bits (f := BOOT_SSTAT_BUSY) _ _ _ _ _ _ rfl rfl]
  exact (regs_threeShown s nr slot).2 _ (List.forall_mem_cons.2 ⟨rfl,
    List.forall_mem_cons.2 ⟨rfl, List.forall_mem_singleton.2 rfl⟩⟩)

theorem loadShown_slot : (s.loadShown nr slot diff miss v).fget BOOT_SSTAT_SHADOW_SLOT =
    if slot then 1 else 0 := by
  rw [loadShown_bits (f := BOOT_SSTAT_SHADOW_SLOT) _ _ _ _ _ _ rfl rfl]
  exact (regs_threeShown s nr slot).1 (BOOT_SSTAT_SHADOW_SLOT, bitNat slot) (by simp)

theorem loadShown_ready : (s.loadShown nr slot diff miss v).fget BOOT_SSTAT_READY =
    1 - (s.loadShown nr slot diff miss v).fget BOOT_SSTAT_NEEDS_RESTART := by
  obtain ⟨hshown, -⟩ := regs_threeShown s nr slot
  rw [loadShown_bits (f := BOOT_SSTAT_READY) _ _ _ _ _ _ rfl rfl,
    loadShown_bits (f := BOOT_SSTAT_NEEDS_RESTART) _ _ _ _ _ _ rfl rfl,
    hshown (BOOT_SSTAT_READY, bitNat (!nr)) (by simp),
    hshown (BOOT_SSTAT_NEEDS_RESTART, bitNat nr) (by simp)]
  cases nr <;> rfl

end

/-- What the end of a load changes, whatever the half is written with. -/
theorem sloadDone_leaves (s : State) (g : Img) (agree : Bool) :
    (s.sloadDone g agree).boot = { s.boot with shd := g.set } ∧
    (s.sloadDone g agree).fget BOOT_SSTAT_BUSY = s.fget BOOT_SSTAT_BUSY ∧
    (s.sloadDone g agree).fget BOOT_SSTAT_RESULT = 1 ∧
    (s.sloadDone g agree).fget BOOT_SSTAT_SHADOW_SLOT = (if g.set.slot then 1 else 0) ∧
    (s.sloadDone g agree).fget BOOT_SSTAT_READY =
      1 - (s.sloadDone g agree).fget BOOT_SSTAT_NEEDS_RESTART ∧
    (s.sloadDone g agree).fget SAF_SHCHECKVAL_VAL = (if agree then g.set.checkVal else 0) ∧
    (s.sloadDone g agree).flash = s.flash ∧ (s.sloadDone g agree).pending = s.pending ∧
    ∀ l, (s.sloadDone g agree).lane l = s.lane l := by
  have hv : (if agree then g.set.checkVal else 0) < 2 ^ 32 := by
    split
    · exact g.set.checkVal_lt
    · decide
  have hload := s.halfLoad_loadsOnly g (1 - s.actSet)
  rw [sloadDone_eq]
  generalize s.halfLoad g (1 - s.actSet) = x at hload ⊢
  generalize s.needsRestart g.set = nr, (!agree && g.set.has 0x0B 0) = diff,
    (!g.set.matchOk (if agree then g.set.checkVal else 0)) = miss
  obtain ⟨hboot, hflash, hpending, hlanes⟩ := loadsOnly_frame hload
  obtain ⟨-, hf, hl, hp⟩ := quiet_loadShown (x.bootUpd (fun b => { b with shd := g.set })) nr
    g.set.slot diff miss (if agree then g.set.checkVal else 0)
  refine ⟨?_, (loadShown_busy ..).trans ((bootUpd_fget ..).trans (loadsOnly_fget hload rfl)),
    loadShown_result .., loadShown_slot .., loadShown_ready ..,
    loadShown_checkVal _ _ _ _ _ _ hv, hf.trans hflash, hp.trans hpending,
    fun l => (hl l).trans (hlanes l)⟩
  rw [loadShown_boot, bootUpd_boot, hboot]

theorem shadowLoadDone_loads {s : State} {b : Bool} {g : Img} {agree : Bool} {cf : BitVec 4}
    (h : s.boot.loading = some b) (hg : s.loadImg b = some g) (hok : s.loadable g cf = true) :
    Yields (exec (.shadowLoadDone agree cf) s) (fun t =>
      t.boot = { s.boot with loading := none, shd := g.set } ∧
      t.fget BOOT_SSTAT_BUSY = 0 ∧ t.fget BOOT_SSTAT_RESULT = 1 ∧
      t.fget BOOT_SSTAT_SHADOW_SLOT = (if g.set.slot then 1 else 0) ∧
      t.fget BOOT_SSTAT_READY = 1 - t.fget BOOT_SSTAT_NEEDS_RESTART ∧
      t.fget SAF_SHCHECKVAL_VAL = (if agree then g.set.checkVal else 0) ∧
      t.flash = s.flash ∧ t.pending = s.pending ∧ (∀ l, t.lane l = s.lane l)) := by
  refine .of_eq ((shadowLoadDone_read agree cf h hg).trans
    (congrArg Host.Outcome.next (if_pos hok))) ?_
  obtain ⟨hboot, hbusy, hresult, hslot, hready, hcheck, hflash, hpending, hlanes⟩ :=
    sloadDone_leaves s.loadOver g agree
  obtain ⟨-, hf0, hl0, hp0⟩ := quiet_loadOver (.refl s)
  have hbusy0 : s.loadOver.fget BOOT_SSTAT_BUSY = 0 :=
    (regs_loadOver s).1 _ (List.mem_singleton_self _)
  exact ⟨by rw [hboot, loadOver_boot], hbusy.trans hbusy0, hresult, hslot, hready, hcheck,
    hflash.trans hf0, hpending.trans hp0, fun l => (hlanes l).trans (hl0 l)⟩

/-- A set or a readback that fails a check is not loaded. -/
theorem loadable_false {s : State} {g : Img} {cf : BitVec 4}
    (h : dataOk s.boot.act g.set = false ∨ primesOk s.boot.act g.set = false ∨
      s.loadCores.any (fun k => cf.getLsbD k.num) = true) : s.loadable g cf = false := by
  rw [State.loadable]
  rcases h with h | h | h
  · simp [h]
  · simp [h]
  · obtain ⟨k, hk, hcf⟩ := List.any_eq_true.1 h
    rw [Bool.and_eq_false_iff]
    exact .inr (List.all_eq_false.2 ⟨k, hk, by simp [hcf]⟩)

theorem shadowLoadStart_leaves {s : State} {b : Bool} (hb : s.fget BOOT_SSTAT_BUSY = 0)
    (hc : s.fget BOOT_SSTAT_CONFIRMED = 1) (hv : s.slotValid b = true)
    (ha : s.boot.armed = false) : Yields (exec (.shadowLoadStart 0x5A b) s) (fun t =>
      Regs s t [(BOOT_SSTAT_BUSY, 1), (BOOT_SSTAT_READY, 0), (BOOT_SSTAT_NEEDS_RESTART, 0),
        (SAF_SHCHECKVAL_VAL, 0)] ∧ Quiet s t ∧ t.resp = .okay ∧
      t.boot = { s.boot with loading := some b, shd := .empty, prevUnconf := false }) := by
  refine .of_eq (shadowLoadStart_starts hb hc hv ha) ⟨regs_shadowLoadStart s _,
    quiet_answer (quiet_bootUpd (.fset (.fset (.fset (.fset (.refl s)))))), answer_resp .., ?_⟩
  rw [answer_boot, bootUpd_boot, lower_eq, fset_boot, lower_eq, fset_boot, lower_eq, fset_boot,
    raise_eq, fset_boot]

theorem shadowLoadAbort_leaves {s : State} {b : Bool} (h : s.boot.loading = some b) :
    Yields (exec (.shadowLoadAbort 0x5A) s) (fun t =>
      Regs s t [(BOOT_SSTAT_BUSY, 0), (BOOT_SSTAT_RESULT, 6)] ∧ Quiet s t ∧ t.resp = .okay ∧
      t.boot = { s.boot with loading := none }) :=
  .of_eq (shadowLoadAbort_running h) ⟨regs_sresult (regs_loadOver s) (by decide) (by decide),
    quiet_sresult (quiet_loadOver (.refl s)), sresult_resp ..,
    (sresult_boot ..).trans s.loadOver_boot⟩

theorem shadowLoadAbort_shows {s : State} (h : s.boot.loading = none) :
    Yields (exec (.shadowLoadAbort 0x5A) s) (fun t =>
      Regs s t (if s.fget BOOT_SSTAT_READY = 1 then [(BOOT_SSTAT_RESULT, 7)] else []) ∧
      Quiet s t ∧ t.resp = .okay ∧ t.boot = s.boot) := by
  refine .of_eq (shadowLoadAbort_idle h) ?_
  split
  · exact ⟨regs_sresult (.refl s) (by decide) nofun, quiet_sresult (.refl s), sresult_resp ..,
      sresult_boot ..⟩
  · exact ⟨regs_answer (.refl s), quiet_answer (.refl s), answer_resp .., answer_boot ..⟩

theorem loadable_of_checks {s : State} {g : Img} {cf : BitVec 4}
    (hd : dataOk s.boot.act g.set = true) (hp : primesOk s.boot.act g.set = true)
    (hr : (State.rwEntries { s.lower BOOT_SSTAT_BUSY with boot := { s.boot with loading := none } }
      g.set.heldRw).2 = true)
    (hc : s.loadCores.all (fun k => !cf.getLsbD k.num) = true) : s.loadable g cf = true := by
  rw [State.loadable, hd, hp, loadOver_eq, hr, hc]
  rfl

theorem shadowLoadDone_fails {s : State} {b : Bool} {g : Img} {agree : Bool} {cf : BitVec 4}
    (h : s.boot.loading = some b) (hg : s.loadImg b = some g) (hbad : s.loadable g cf = false) :
    exec (.shadowLoadDone agree cf) s = .next (s.loadOver.fset BOOT_SSTAT_RESULT 5) := by
  rw [shadowLoadDone_read agree cf h hg, hbad]
  rfl

/-- Settles O32: each request by the first of its conditions that fails, an abort by whether a load
runs, and the end of a load by whether the image is read and loadable; writing the half leaves
BOOT_SSTAT. -/
theorem shadowLoads : Obligations.ShadowLoads := fun s =>
  ⟨fun _ => shadowLoadStart_leaves,
    fun b h => .of_eq (shadowLoadStart_busy b h) (sresult_refuses s (by decide)),
    fun _ hb hc => .of_eq (shadowLoadStart_unconfirmed hb hc) (sresult_refuses s (by decide)),
    fun _ hb hc hv => .of_eq (shadowLoadStart_invalid hb hc hv) (sresult_refuses s (by decide)),
    fun _ hb hc hv ha => .of_eq (shadowLoadStart_armed hb hc hv ha) (sresult_refuses s (by decide)),
    fun _ b => shadowLoad_otherKey b,
    fun _ => shadowLoadAbort_leaves, shadowLoadAbort_shows,
    fun _ _ _ _ h hg hd hp hr hc => shadowLoadDone_loads h hg (loadable_of_checks hd hp hr hc),
    fun _ agree cf h hg =>
      .of_eq (shadowLoadDone_unreadable agree cf h hg) (loadFailed_leaves s),
    fun _ _ _ _ h hg hbad =>
      .of_eq (shadowLoadDone_fails h hg (loadable_false hbad)) (loadFailed_leaves s),
    fun agree cf h => shadowLoadDone_idle agree cf h⟩

end Sys2Proof.Machine
